-- ==== Sys2Proof/Word.lean ====
section
/-! DEFINITION. Word types of the block: the names of the bit patterns that the spec moves about as words. -/

namespace Sys2Proof

/-- A 32-bit word of the host window, of a SEL value, of a Mulith register (R13, R497, R208). -/
abbrev Word := BitVec 32
/-- One byte of a tide frame or of a private I3C write (R361, R484). -/
abbrev Byte := BitVec 8
/-- A sluice node ID (R50). -/
abbrev NodeId := BitVec 16
/-- A 64-bit accumulator (R171). -/
abbrev Acc := BitVec 64

end Sys2Proof
end

