-- ==== Sys2Proof/Syntax.lean ====
section
/-! DEFINITION. The commands of the block: one constructor of `Instr` for each row of the opcode table, with the
operands that the row's rule needs. Keys: a node is named by its number in the floorplan (0 is the hub), a region by its
region number, a phase slot, lane, port, hint source by its index. Voltages are codes of 1/16 mV (R151) unless said
otherwise, pan currents are mA, converter currents 0.1 A, VIN and rail senses mV. -/

namespace Sys2Proof

/-- The header of a downward packet: its BC bit and its NODE field (R42). -/
structure Hdr where
  bc : Bool
  dst : NodeId
  deriving DecidableEq, Repr, Inhabited

/-- Which of a node's two parent paths a link is (R36): the link named by node `n` and this. -/
inductive Path where
  | primary | spare
  deriving DecidableEq, Repr, Inhabited

/-- A link of the tree, named by the node at its lower end and by that node's path (R36, R39). -/
structure LinkId where
  node : Nat
  path : Path
  deriving DecidableEq, Repr, Inhabited

/-- Direction of travel on a link (R39). -/
inductive Dir where
  | down | up
  deriving DecidableEq, Repr, Inhabited

/-- Packet classes (R43, R45). -/
inductive PClass where
  | c | t | u
  deriving DecidableEq, Repr, Inhabited

/-- The two phases of a pan (R77). -/
inductive Phase2 where
  | a | b
  deriving DecidableEq, Repr, Inhabited

/-- The four sense converters of a pan (R140, R147). -/
inductive Conv where
  | a | b | c | d
  deriving DecidableEq, Repr, Inhabited

/-- The converter rails (R132). -/
inductive Rail where
  | vib | vqa | vqc
  deriving DecidableEq, Repr, Inhabited

/-- A slewing instantaneous value (R82, R115). -/
inductive SlewRef where
  | panSet (n : Nat) | panOff (n : Nat) | railSet (x : Rail) | railOff (x : Rail)
  deriving DecidableEq, Repr, Inhabited

/-- A hub model of an instantaneous set-point (R255). -/
inductive ModelRef where
  | region (r : Nat) | rail (x : Rail)
  deriving DecidableEq, Repr, Inhabited

/-- The engine memories that the scrub visits (R177). -/
inductive EngMem where
  | coef | state | imem
  deriving DecidableEq, Repr, Inhabited

/-- What the instruments of one pan gave over the epoch that has just ended (R140, R147, R148, R150): what its boundary packets
and its slow windows are formed from. Conversions are 10-bit codes; means of conversions are in 1/16 of a code. -/
structure EpochMeas where
  windows : List Nat  -- quanta that the phases delivered in each of the 80 current windows, before the factory gain
  reverse : Nat       -- reverse charge, 100 pC (R148)
  loA : Nat           -- the conversions in A's and in B's place of the lowest pair average
  loB : Nat
  hiA : Nat           -- the same of the highest pair average
  hiB : Nat
  meanA : Nat         -- epoch mean of the conversions in A's and in B's place, 1/16 code
  meanB : Nat
  meanD : Nat         -- epoch mean of D's PAN_VLO conversions, 1/16 code
  tMean : Nat         -- epoch mean of the instantaneous target, 1/16 mV
  deriving DecidableEq, Repr, Inhabited

/-- A log entry's subject (R440) with its message number in the subject's code range, and what the event itself brings. -/
inductive LogMsg where
  | host (k : Byte) (ticket : Option (BitVec 16))
  | session (k : Byte)
  | budget (k : Byte)
  | tide (k : Byte) (peer : Nat) (grains : BitVec 16)
  | thermal (k : Byte) (r : Nat) (v : Word)
  | firmware (k : Byte)
  deriving DecidableEq, Repr, Inhabited

/-- A trace point's duty (R443) with the point's place among the duty's 32, and what the duty has in hand there. -/
inductive TracePt where
  | hostQueue (k : Fin 32)
  | derived (k : Fin 32)
  | budget (k : Fin 32) (r : Nat)
  | tide (k : Fin 32) (peer : Nat)
  | thermal (k : Fin 32) (r : Nat) (v : BitVec 16)
  | fault (k : Fin 32) (n : Nat) (cause : Byte)
  | harvest (k : Fin 32) (id : Word)
  deriving DecidableEq, Repr, Inhabited

/-- A tide frame's fields (R361). -/
structure TideFrame where
  ty : Byte
  ver : Byte
  dst : Nat
  src : Nat
  group : Nat
  sinc : Nat
  dinc : Nat
  seq : Nat
  grains : Nat
  urg : Int
  offer : Nat
  want : Nat
  hold : Nat
  flags : Byte
  deriving DecidableEq, Repr, Inhabited

/-- The common fields of a hint word (R314): source, SEQ, ALL, REGION, BODY. -/
structure Hint where
  src : Nat
  seq : BitVec 8
  all : Bool
  region : Nat
  body : BitVec 41
  deriving DecidableEq, Repr, Inhabited

/-- The commands: one constructor per row of spec/opcode_table.json, in the table's order. -/
inductive Instr where
  -- glue-up, boundaries and the tree
  | epochBoundary
  | stagingClose
  | ackDeadline
  | setDeferralLimit
  | nodeEpochBoundary (n : Nat) (m : EpochMeas)
  | parentPathTimeout (n : Nat)
  | parityLimitReached (n port : Nat)
  | parityErrorPacket (l : LinkId) (d : Dir)
  | reservedPacket (l : LinkId) (d : Dir) (ty : BitVec 4)
  | unroutablePacket (n : Nat) (h : Hdr)
  | probe (n : Nat) (dst : NodeId) (port : Nat) (newId : NodeId)
  | probeTimeout (n port : Nat)
  | desc (n : Nat) (src : NodeId) (kind ports : Nat) (wide : Bool) (rating revision : Nat)
  | ack (n child : Nat) (tag : BitVec 3) (ok : Bool) (count : Nat) (failing : NodeId)
  | pondAckDeadline (n : Nat)
  | verdict (n : Nat) (h : Hdr) (tag : BitVec 3) (commit : Bool) (gen : Word)
  | time (n : Nat) (h : Hdr) (cycle epoch hold : Nat)
  | timeResyncPeriod
  | rq (n child : Nat) (tag : BitVec 3) (count : Nat)
  | rmm (n child : Nat) (tag : BitVec 3) (current incomplete : Bool) (vMax vMin : BitVec 16)
  | pondRollupDeadline (n : Nat)
  | linkAuditTimer (l : LinkId) (d : Dir)
  | audit (l : LinkId) (d : Dir) (sentC sentT sentU : Nat)
  | resetRequest (l : LinkId) (d : Dir)
  | resetDone (l : LinkId) (d : Dir)
  | creditInvariantBreak (l : LinkId) (d : Dir) (k : PClass)
  | adoptRequest (n : Nat) (lo hi : NodeId)
  | adoptDone (n : Nat) (h : Hdr) (lo hi : NodeId)
  | rosterRemove (n : Nat) (h : Hdr) (lo hi : NodeId)
  -- SEL groups: n receives the packet with header h (and epoch tag)
  | setpt (n : Nat) (h : Hdr) (tag : BitVec 3) (v : Word)
  | slew (n : Nat) (h : Hdr) (tag : BitVec 3) (v : Word)
  | window (n : Nat) (h : Hdr) (tag : BitVec 3) (v : Word)
  | offset (n : Nat) (h : Hdr) (v : Word)
  | offslew (n : Nat) (h : Hdr) (tag : BitVec 3) (v : Word)
  | share (n : Nat) (h : Hdr) (v : Word)
  | mode (n : Nat) (h : Hdr) (tag : BitVec 3) (v : Word)
  | freq (n : Nat) (h : Hdr) (tag : BitVec 3) (v : Word)
  | bandset (n : Nat) (h : Hdr) (tag : BitVec 3) (v : Word)
  | arm (n : Nat) (h : Hdr) (v : Word)
  | droop (n : Nat) (h : Hdr) (tag : BitVec 3) (v : Word)
  | overshoot (n : Nat) (h : Hdr) (tag : BitVec 3) (v : Word)
  | boostlim (n : Nat) (h : Hdr) (tag : BitVec 3) (v : Word)
  | balance (n : Nat) (h : Hdr) (tag : BitVec 3) (v : Word)
  | vmcomp (n : Nat) (h : Hdr) (tag : BitVec 3) (v : Word)
  | carryauto (n : Nat) (fromParent : Bool) (v : Word)
  | fwin (n : Nat) (h : Hdr) (tag : BitVec 3) (v : Word)
  | swinv (n : Nat) (h : Hdr) (tag : BitVec 3) (v : Word)
  | swini (n : Nat) (h : Hdr) (tag : BitVec 3) (v : Word)
  | sensesel (n : Nat) (h : Hdr) (tag : BitVec 3) (v : Word)
  | calctl (n : Nat) (h : Hdr) (tag : BitVec 3) (v : Word)
  | calload (n : Nat) (h : Hdr) (k : Conv) (v : Word)
  | calloadI (n : Nat) (h : Hdr) (v : Word)
  | stream (n : Nat) (h : Hdr) (tag : BitVec 3) (k : Nat) (v : Word)
  | epochsamp (n : Nat) (h : Hdr) (tag : BitVec 3) (v : Word)
  | roster (n : Nat) (h : Hdr) (v : Word)
  | parentSelect (n : Nat) (h : Hdr) (v : Word)
  | exceptionRange (n : Nat) (h : Hdr) (k : Nat) (v : Word)
  | exceptionTarget (n : Nat) (h : Hdr) (k : Nat) (v : Word)
  | childPortRange (n : Nat) (h : Hdr) (k : Nat) (v : Word)
  | setClose (n : Nat) (h : Hdr) (tag : BitVec 3)
  | stageEnd (n : Nat) (h : Hdr) (tag : BitVec 3) (count : Nat)
  | unimplementedSel (n : Nat) (h : Hdr) (stage : Bool) (tag : BitVec 3) (sel : Byte) (v : Word)
  -- pan hardware
  | slewStep (k : SlewRef)
  | setPointModelStep (k : ModelRef)
  | cotComparatorFire (n : Nat) (vibs v ramp : Nat) (iOther : Int)
  | frequencyLockUpdate (n : Nat)
  | peakLimitReached (n : Nat) (p : Phase2) (cur : Nat)
  | excursionStart (n : Nat) (i : Nat)
  | excursionEnd (n : Nat) (i : Nat)
  | excursionLimit (n : Nat) (cur : Nat)
  | excursionHoldoffExpiry (n : Nat)
  | deEntry (n : Nat) (mean : Nat)
  | deExitMean (n : Nat) (mean : Nat)
  | balanceUpdate (n : Nat) (ia ib : Int)
  | balanceTrimSaturated (n : Nat) (p : Phase2)
  | shareTrimUpdate (n : Nat) (mean : Nat)
  | droopCrossing (n : Nat) (v : Nat)
  | boostRecovery (n : Nat) (v ns : Nat)
  | boostConductionLimit (n : Nat)
  | boostCountUsed (n : Nat)
  | overshootCrossing (n : Nat) (v : Nat)
  | shuntRecovery (n : Nat) (v : Nat)
  | shuntConductionLimit (n : Nat)
  | comparatorConflict (n : Nat)
  | senseFallback (n : Nat) (rs vlo : Nat)
  | senseReturn (n : Nat)
  | panStageFault (n : Nat)
  | panStageFaultClear (n : Nat)
  | prebiasComplete (n : Nat)
  | shadowRampStep (n : Nat)
  | rampOutComplete (n : Nat)
  | panLoopWatchdogExpiry (n : Nat)
  | fastWindowExit (n : Nat) (ca cb : Nat)
  | shadowRunEnd (n : Nat) (diff gdiff sdiff ref05 ref10 dref05 dref10 : Int)
  | conversionCheckFailures (n : Nat) (k : Conv)
  | sampleStreamInterval (n k ca cb cd : Nat) (cur : Int) (delay : Nat)
  | tallyReportInterval (n : Nat)
  | contactBaselineFormed (n : Nat)
  | contactSuspect (n : Nat)
  | stageFaultEvent (pond child : Nat)
  -- hub fault handling and telemetry
  | lossReport (src : NodeId) (cause : Byte) (detail : Word)
  | lossResponse
  | faultedPanReturn (n : Nat)
  | faultOrder (r : Nat)
  | windowExitPending (src : NodeId) (cause : Byte) (detail : Word)
  | tallyReport (src : NodeId) (cause : Byte) (detail : Word)
  | sample (n : Nat) (src : NodeId) (kind : Byte) (value : Word)
  | rollupClose
  | calibrationWindowClose
  | allowanceRecomputation
  | snapshotReady (slot : Nat)
  -- the Mulith engine
  | engineTimerTick (t : Nat)
  | dispatch (lane : Nat)
  | runLimit (lane : Nat)
  | selfCheckDue (lane : Nat)
  | selfCheckComplete (lane : Nat) (correct : Bool)
  | laneRegisterError (lane : Nat)
  | scrubError (m : EngMem) (addr : Nat) (double : Bool)
  | instructionRewrite (addr : Nat)
  | slotStale (slot : Nat)
  | retest
  | retestComplete (lane : Nat) (allCorrect : Bool)
  -- the Mulith instruction set: the lane that issues, then the instruction's fields
  | mAdd (lane : Nat) (rd ra rb : Fin 32)
  | mSub (lane : Nat) (rd ra rb : Fin 32)
  | mAdds (lane : Nat) (rd ra rb : Fin 32)
  | mSubs (lane : Nat) (rd ra rb : Fin 32)
  | mAnd (lane : Nat) (rd ra rb : Fin 32)
  | mOr (lane : Nat) (rd ra rb : Fin 32)
  | mXor (lane : Nat) (rd ra rb : Fin 32)
  | mShl (lane : Nat) (rd ra rb : Fin 32)
  | mShr (lane : Nat) (rd ra rb : Fin 32)
  | mSra (lane : Nat) (rd ra rb : Fin 32)
  | mMin (lane : Nat) (rd ra rb : Fin 32)
  | mMax (lane : Nat) (rd ra rb : Fin 32)
  | mSlt (lane : Nat) (rd ra rb : Fin 32)
  | mSltu (lane : Nat) (rd ra rb : Fin 32)
  | mClmp (lane : Nat) (rd ra rb rc : Fin 32)
  | mMul (lane : Nat) (rd ra rb : Fin 32)
  | mMulq (lane : Nat) (rd ra rb sh : Fin 32)
  | mDivq (lane : Nat) (rd ra rb sh : Fin 32)
  | mAbss (lane : Nat) (rd ra : Fin 32)
  | mNegs (lane : Nat) (rd ra : Fin 32)
  | mAddi (lane : Nat) (rd ra : Fin 32) (imm : BitVec 16)
  | mAndi (lane : Nat) (rd ra : Fin 32) (imm : BitVec 16)
  | mOri (lane : Nat) (rd ra : Fin 32) (imm : BitVec 16)
  | mXori (lane : Nat) (rd ra : Fin 32) (imm : BitVec 16)
  | mLui (lane : Nat) (rd : Fin 32) (imm : BitVec 16)
  | mShli (lane : Nat) (rd ra n : Fin 32)
  | mShri (lane : Nat) (rd ra n : Fin 32)
  | mSrai (lane : Nat) (rd ra n : Fin 32)
  | mSlti (lane : Nat) (rd ra : Fin 32) (imm : BitVec 16)
  | mExt (lane : Nat) (rd ra pos lenm1 : Fin 32) (signed : Bool)
  | mIns (lane : Nat) (rd ra pos lenm1 : Fin 32)
  | mSati (lane : Nat) (rd ra n : Fin 32)
  | mMac (lane : Nat) (acc : Fin 4) (ra rb : Fin 32)
  | mMsu (lane : Nat) (acc : Fin 4) (ra rb : Fin 32)
  | mCmac (lane : Nat) (acc : Fin 4) (r rk : Fin 32) (x : Bool) (k : BitVec 12)
  | mCmsu (lane : Nat) (acc : Fin 4) (r rk : Fin 32) (x : Bool) (k : BitVec 12)
  | mCld (lane : Nat) (r rk : Fin 32) (f x : Bool) (k : BitVec 12)
  | mAclr (lane : Nat) (acc : Fin 4)
  | mAld (lane : Nat) (acc : Fin 4) (r : Fin 32) (s : BitVec 6)
  | mAadd (lane : Nat) (acc accb : Fin 4)
  | mAsub (lane : Nat) (acc accb : Fin 4)
  | mAsra (lane : Nat) (acc : Fin 4) (s : BitVec 6)
  | mAshl (lane : Nat) (acc : Fin 4) (s : BitVec 6)
  | mAmov (lane : Nat) (r : Fin 32) (acc : Fin 4) (s : BitVec 6)
  | mAhi (lane : Nat) (r : Fin 32) (acc : Fin 4)
  | mAlo (lane : Nat) (r : Fin 32) (acc : Fin 4)
  | mAput (lane : Nat) (acc : Fin 4) (r rb : Fin 32)
  | mAneg (lane : Nat) (acc : Fin 4)
  | mLds (lane : Nat) (rd ra : Fin 32) (off : BitVec 10)
  | mSts (lane : Nat) (rs ra : Fin 32) (off : BitVec 10)
  | mLdi (lane : Nat) (rd ra : Fin 32) (what : Fin 3) (imm : BitVec 14)
  | mLdt (lane : Nat) (rd : Fin 32) (t : Fin 8) (what : Fin 3)
  | mLdo (lane : Nat) (rd ra : Fin 32) (what : Fin 2) (b : Fin 4) (loop : BitVec 13)
  | mLdh (lane : Nat) (rd ra : Fin 32) (imm : BitVec 16)
  | mOut (lane : Nat) (b : Fin 4) (ra : Fin 32)
  | mBeq (lane : Nat) (ra rb : Fin 32) (target : BitVec 13)
  | mBne (lane : Nat) (ra rb : Fin 32) (target : BitVec 13)
  | mBlt (lane : Nat) (ra rb : Fin 32) (target : BitVec 13)
  | mBge (lane : Nat) (ra rb : Fin 32) (target : BitVec 13)
  | mBltu (lane : Nat) (ra rb : Fin 32) (target : BitVec 13)
  | mBgeu (lane : Nat) (ra rb : Fin 32) (target : BitVec 13)
  | mBbs (lane : Nat) (ra n : Fin 32) (target : BitVec 13)
  | mBbc (lane : Nat) (ra n : Fin 32) (target : BitVec 13)
  | mJmp (lane : Nat) (target : BitVec 13)
  | mCall (lane : Nat) (target : BitVec 13)
  | mRet (lane : Nat)
  | mLoop (lane : Nat) (cnt : BitVec 10) (last : BitVec 13)
  | mLoopr (lane : Nat) (ra : Fin 32) (max : BitVec 8) (last : BitVec 13)
  | mRfl (lane : Nat) (rd : Fin 32)
  | mRflc (lane : Nat) (rd : Fin 32)
  | mLfl (lane : Nat) (rd : Fin 32)
  | mCyc (lane : Nat) (rd : Fin 32)
  | mNow (lane : Nat) (rd : Fin 32)
  | mSysMode (lane : Nat) (rd : Fin 32)
  | mNop (lane : Nat)
  | mEnd (lane : Nat)
  | illegalInstruction (lane : Nat)
  -- the converter and the loop outputs that leave the engine
  | viboff (v : Word)
  | qoff (v : Word)
  | ntarget (v : Word)
  | trim (n : Nat) (v : Word)
  | cancel (v : Word)
  | kerfRatio (r : Nat) (v : Word)
  | shimIntensity (r : Nat) (v : Word)
  | hubGuardThermalInput (r : Nat) (v : Word)
  | converterOutputTimeout
  | engineLossTimeout
  | converterComparatorFire (vin v ramp : Nat) (imon : List Int)
  | converterFreqLock
  | phasePeakLimit (n cur : Nat)
  | phaseOverload (n : Nat)
  | phaseOverloadClear (n : Nat)
  | trimLimit (n : Nat)
  | shedBegin (total : Nat)
  | provisionalExpiry (n : Nat)
  | vibDroopCrossing (v : Nat)
  | currentStepDetected (rise : Nat)
  | shedHoldoffExpiry
  | wakeElapsed (n : Nat)
  | admitRampStep (n : Nat)
  | phaseFault (n : Nat) (low : Bool)
  | phaseSpareResponse (n : Nat)
  | converterDeEntry (mean : Int)
  | converterDeExit (mean : Int)
  | railStartCommand (x : Rail)
  | railDelayElapsed (x : Rail) (v : Nat)
  | railRefReached (x : Rail)
  | railNotGoodTimeout (x : Rail) (v : Nat)
  | railStopCommand (x : Rail)
  | railStopDelayElapsed (x : Rail)
  | railDown (x : Rail) (v : Nat)
  | inputStop (vin : Nat)
  | vinLow (vin : Nat)
  | overvoltage (x : Rail) (v : Nat)
  | overvoltagePersists (x : Rail)
  -- regions
  | railGood (r : Nat)
  | startfailTimeout (r : Nat)
  | stagingInterval (r : Nat)
  | forcedStaging (r : Nat)
  | handoverTret (r : Nat)
  | fenceTimeout (r : Nat)
  | stageOpen (r : Nat)
  | fallingComplete (r : Nat)
  | purgeClampTret (r : Nat)
  | agoneChange (r : Nat) (level : Bool)
  | purgeComplete (r : Nat)
  | purgeslow (r : Nat)
  -- hints, shim, fence messages
  | hintWordCheck (src : Nat) (w : BitVec 72)
  | phase (x : Hint)
  | batch (x : Hint)
  | kvgrow (x : Hint)
  | barrier (x : Hint)
  | bwait (x : Hint)
  | step (x : Hint)
  | context (x : Hint)
  | activityFrame (src : Nat) (seq : BitVec 16) (counts : List (BitVec 16)) (crc : BitVec 16)
  | hntRdyRise (src : Nat) (ver : BitVec 4)
  | hntRdyFall (src : Nat)
  | shimAnnouncedArrival (r : Nat)
  | annwaitExpiry (r : Nat)
  | shimOnset
  | taperStart
  | shimTargetUpdate
  | shimIdle
  | drained (tag : Byte) (r : Nat)
  | request (tag : Byte) (arg : BitVec 4) (r : Nat)
  | fenceMessageDiscard (w : Word)
  | kerfResend
  -- the tide
  | xfer (f : TideFrame)
  | xack (f : TideFrame)
  | advert (f : TideFrame)
  | stale (f : TideFrame)
  | expelled (f : TideFrame)
  | tideFrameDiscard (bytes : List Byte)
  | tideWindow
  | tideCreditStage
  | escrowRetry (peer : Nat) (seq : Nat)
  | peerDead (peer : Nat)
  | tideFiguresStale
  | presenceTimer
  | presence (port origin die group : Nat)
  | dvtTideFrame (port : Nat) (bytes : List Byte)
  | dvtShimOnset (port origin hop : Nat)
  | droopAlert (port origin : Nat)
  | peerdroopExpiry
  | dvtFrameCrcError (port : Nat)
  | dvtLinkDown (port : Nat)
  | dvtLockTimeout (port : Nat)
  | dvtRetrain (port : Nat)
  | dvtTraining (port : Nat) (cap : Byte)
  | fabFrame (bytes : List Byte)
  | fabUpChange (level : Bool)
  -- thermal, margin and stops
  | thstale (r : Nat)
  | lowconfQueue (r : Nat) (out1 : Word)
  | diodeReadingComplete (r : Nat) (reading : Option Int)
  | tinletSubstitution
  | bandEvaluation
  | thermalRegionOrder (r : Nat)
  | thermalOrderRelease (r : Nat)
  | monitorRead (r : Nat)
  | monitorAnswer (r m : Nat) (slack : BitVec 12)
  | guardbandTrim (r : Nat) (w : Word)
  | drainTimeout
  | stopRegionsDark
  | stopRailsDown
  | coolantStop
  | coolantRailStop
  -- the ledger and the tallies
  | ledgerWriteBack (ctx : Nat)
  | ledgerWriteComplete (ctx : Nat) (ok : Bool)
  | ledgerFetchComplete (ctx : Nat) (energy active kerfed : Nat)
  | ledgerQueryReady
  | ledgerClearComplete
  | harvest (stored : Bool) (cleared : List Nat)
  | harvestRetry (stored : Bool)
  -- firmware and host
  | watchdogExpiry
  | coreRelease
  | firmwareReady
  | firmwareReadyTimeout
  | kick (w : Word)
  | hostQueueService
  | registerWrite (off : Nat) (v : Word)
  | lowWordRead (off : Nat)
  | attach (v : Word)
  | detach (v : Word)
  | hbeat (v : Word)
  | heartbeatTimeout
  | intcause (v : Word)
  | sessionRequest (role : BitVec 2)
  | sessionClose (role : BitVec 2)
  | sesgo (v : Word)
  | sessionVerified
  | sessionIdleTimeout
  | lockoutExpiry
  | instkeygo (v : Word)
  | wrbnd (num : Byte)
  | bundleClose (num : Byte)
  | snpreq (core : Bool) (v : Word)
  | snpdatAutoRead
  | lqreq (v : Word)
  | dioreq (v : Word)
  | thrst (v : Word)
  | talsel (v : Word)
  | tallyValueReady
  | trcctlClear (v : Word)
  | tracePoint (p : TracePt)
  | logEntry (m : LogMsg) (level : Fin 4) (narg : Fin 3)
  | loopOpen
  | loopClose
  | loopman (b : Fin 4) (v : Word)
  | coefval (v : Word)
  | imageStart (target : BitVec 2)
  | imgdat (v : Word)
  | imageFinish
  | imageCheckComplete (written : Bool)
  | imageAbort
  | rwx (v : Word)
  | restart
  | warm
  | pdown
  | cfgsave (v : Word)
  | cfgsaveComplete (ok : Bool)
  | rvreq (v : Word)
  | vibset (v : Word)
  | qset (v : Word)
  | orderNone (slot : BitVec 2)
  | orderOn (slot : BitVec 2)
  | orderOff (slot : BitVec 2)
  | orderRetention (slot : BitVec 2)
  | orderPurge (slot : BitVec 2)
  | phcmdAdmit (n : Nat)
  | phcmdRetire (n : Nat)
  | dcapop (v : Word)
  | dcapin (v : Word)
  | dcapmk (v : Word)
  | ledenSet
  | ledenClear
  | ledbase (high : Bool) (v : Word)
  | ten (v : Word)
  | freeze (v : Word)
  | trel (v : Word)
  | expinc (v : Word)
  -- PMBus, AVSBus, tray
  | page (v : Byte)
  | clearFaults
  | capability
  | voutMode
  | statusByte
  | statusWord
  | statusVout
  | statusIout
  | statusInput
  | statusTemperature
  | readVin
  | readIin
  | readVout
  | readIout
  | readTemperature1
  | readPout
  | readPin
  | pmbusRevision
  | pmbusOtherWrite (code : Byte)
  | alertResponse
  | avsbusPoll
  | avsbusReply (kind : Fin 3) (data : BitVec 16) (crcOk : Bool)
  | dynamicAddressAssigned (addr : BitVec 7)
  | tver (data : List Byte)
  | inlet (data : List Byte)
  | tceil (data : List Byte)
  | trayState
  | trayCap
  | pdel
  | tryFlowChange (level : Bool)
  -- reset, start-up and clocks
  | porstNAssert
  | porstNRelease
  | vaonRemoved
  | ckeAbsent
  | ckrPresent
  | firmwareStart
  | bootVinGood
  | bootRailsInReg
  | bootRegionsLive
  | railFaultRetry (x : Rail)
  | inputStopRecovery
  -- rows that the table adds at its end
  | fastWindowRearm (n ca cb : Nat)
  | creditReturn (l : LinkId) (d : Dir) (k : PClass)
  | event (n : Nat) (src : NodeId) (cause : Byte) (detail : Word)
  | overvoltageClear (x : Rail) (v : Nat)
  | ledfaultClear
  | sluiceFaultExpiry
  | monitorAnswerTimeout (r : Nat)
  | voltageModePeriod (n : Nat) (p : Phase2) (vibs : Nat)
  | quietRailPeriod (x : Rail) (vin : Nat) (imon : List Int)
  | dvtLock (port : Nat)
  | tapInstructionLoad (ir : Nat)
  | dbgMakerChallenge (rs : BitVec 768)
  | dbgTrstN
  | dbgStoreWrite (area : Nat) (words : List Word)
  deriving DecidableEq, Repr

end Sys2Proof
end

