-- ==== Sys2Proof/Machine/Table.lean ====
section
/-! DEFINITION. Sparse tables in one canonical form: keys strictly rising, and no entry equal to what an unlisted key
reads as. Every memory, register file and record store of the block with a number for a key is one of these, so that
equal contents are equal data. -/

namespace Sys2Proof.Machine

/-- A table from numbers to values, kept in canonical form by `Tbl.set`. -/
abbrev Tbl (α : Type) := List (Nat × α)

/-- What the table holds at a key; `d` is what an unlisted key reads as. -/
def Tbl.get {α : Type} (d : α) : Tbl α → Nat → α
  | [], _ => d
  | (k, v) :: t, n => if n = k then v else Tbl.get d t n

/-- The table without a key. -/
def Tbl.drop {α : Type} (n : Nat) : Tbl α → Tbl α
  | [] => []
  | (k, v) :: t => if n = k then Tbl.drop n t else (k, v) :: Tbl.drop n t

/-- The table with an entry put in its place by key. -/
def Tbl.insert {α : Type} (n : Nat) (x : α) : Tbl α → Tbl α
  | [] => [(n, x)]
  | (k, v) :: t => if n < k then (n, x) :: (k, v) :: t else (k, v) :: Tbl.insert n x t

/-- The table with one key written: the entry is listed only when it differs from `d`. -/
def Tbl.set {α : Type} [DecidableEq α] (d : α) (t : Tbl α) (n : Nat) (x : α) : Tbl α :=
  if x = d then Tbl.drop n t else Tbl.insert n x (Tbl.drop n t)

/-- Every key of the table lies above `lo`, keys rise, and no entry equals `d`. -/
def Tbl.wfFrom {α : Type} [DecidableEq α] (d : α) : Nat → Tbl α → Bool
  | _, [] => true
  | lo, (k, v) :: t => decide (lo ≤ k) && decide (v ≠ d) && Tbl.wfFrom d (k + 1) t

/-- The table is in canonical form. -/
def Tbl.wf {α : Type} [DecidableEq α] (d : α) (t : Tbl α) : Bool := Tbl.wfFrom d 0 t

/-- The table with every listed entry changed by `f`, its canonical form restored. -/
def Tbl.update {α : Type} [DecidableEq α] (d : α) (f : Nat → α → α) : Tbl α → Tbl α → Tbl α
  | [], acc => acc
  | (k, v) :: t, acc => Tbl.update d f t (Tbl.set d acc k (f k v))

/-- Apply `f` at the listed keys. -/
def Tbl.mapVals {α : Type} [DecidableEq α] (d : α) (f : Nat → α → α) (t : Tbl α) : Tbl α := Tbl.update d f t t

/-- The listed keys, rising. -/
def Tbl.keys {α : Type} (t : Tbl α) : List Nat := t.map Prod.fst

end Sys2Proof.Machine
end

