-- ==== Sys2Proof/Machine/StEngine.lean ====
section
/-! DEFINITION. State of the Mulith engine (spec/06_mulith_engine.md, spec/07_mulith_isa.md): lanes with their runs,
memories, loop table, input store and output table. -/

namespace Sys2Proof.Machine

/-- Lane states (R202). -/
inductive LaneSt where
  | active | check | spareSt | failed | retest
  deriving DecidableEq, Repr

/-- An open loop body (R227). -/
structure Body where
  first : Nat          -- R226; address of the body's first instruction
  last : Nat           -- R226; end address
  left : Nat           -- R227; repeats left, the present one included
  deriving DecidableEq, Repr

/-- Producers that can stall the next slot (R230). -/
inductive Producer where
  | none | accum (a : Nat) | reg (r : Nat)
  deriving DecidableEq, Repr

/-- A run in progress on a lane (R173, R187 to R190, R207, R224). -/
structure Run where
  loop : Nat := 0                  -- R173; loop index
  pc : Nat := 0                    -- R207; address of the next instruction
  scribe : Bool := false           -- R198; a scribe run
  boundary : Bool := false         -- R198; the scribe run of a close
  closed : Bool := false           -- R224; committed mode at dispatch
  slots : Nat := 0                 -- R190, R228; issue slots used, stalls included
  startAt : Nat := 0               -- R228; tick of the run's first instruction
  first : Nat := 0                 -- R194; instant of the earliest trigger, CKE cycle
  posted : Nat := 0                -- R188; CKE cycle at which the earliest trigger was posted
  deadline : Nat := 0              -- R188; absolute deadline, CKE cycle
  mask : BitVec 8 := 0             -- R201; trigger mask of the dispatch
  calls : List Nat := []           -- R227; call stack, newest first, at most 4
  bodies : List Body := []         -- R227; loop stack, innermost first, at most 2
  ov : Bool := false               -- R211; run flag ov
  sat : Bool := false              -- R211; run flag sat
  prod : Producer := .none         -- R230; producer of the slot just issued
  deriving DecidableEq, Repr

/-- A lane (R171, R202). -/
structure Lane where
  st : LaneSt := .active           -- R202; state; lanes 18g + 16 and 18g + 17 SPARE, the others ACTIVE at cold reset (R171)
  wasSpare : Bool := false         -- R202; the self-check under way is a spare's
  run : Option Run := none         -- R187; run in progress
  regs : Tbl (BitVec 32) := []     -- R171; a0 to a31
  accs : Tbl (BitVec 64) := []     -- R171; acc0 to acc3
  since : List Nat := []           -- R202; loops run since the last correct signature
  checkAt : Nat := 0               -- R200; tick of the last self-check's start
  deriving DecidableEq, Repr

/-- A coefficient word (R209). -/
structure CoefWord where
  value : BitVec 32 := 0           -- R209 VALUE
  shift : Int := 0                 -- R209 SHIFT, -31 to +31
  deriving DecidableEq, Repr

/-- An input-store slot (R174, R220). -/
structure InSlot where
  value : BitVec 32 := 0           -- R220; value, zero at cold reset
  instant : BitVec 32 := 0         -- R220; instant, low 32 bits of the CKE cycle, zero at cold reset
  stale : Bool := true             -- R220; stale mark, set at cold reset
  wrote : Nat := 0                 -- R220; full CKE cycle of the last write
  deriving DecidableEq, Repr

/-- An output-table binding (R174, R224). -/
structure OutEnt where
  value : BitVec 32 := 0           -- R224; last computed value
  age : Nat := 0                   -- R194; age stamp, 16 bits
  sent : Bool := false             -- R195; the value was sent
  lastSent : BitVec 32 := 0        -- R196; last value sent to the destination
  deriving DecidableEq, Repr

/-- A loop-table entry as the image fixes it (R178, R231), MODE and FLAGS apart. -/
structure LoopEnt where
  used : Bool := false             -- R231 W0 [31]
  cls : Nat := 0                   -- R231 W0 [30:28]
  imgClosed : Bool := false        -- R231 W0 [27]; the mode the image loads at BOOT
  mrole : Nat := 0                 -- R231 W0 [26:25]
  rlim : Nat := 0                  -- R231 W0 [24:17]
  spacing : Nat := 0               -- R231 W1 [31:16], ns
  entry : Nat := 0                 -- R231 W1 [12:0]
  scribe : Nat := 0                -- R231 W2 [12:0]
  sbase : Nat := 0                 -- R231 W3 [31:16]
  slen : Nat := 1                  -- R231 W3 [9:0] + 1
  cbase : Nat := 0                 -- R231 W4 [29:16]
  clen : Nat := 0                  -- R231 W4 [12:0]
  tvalid : BitVec 8 := 0           -- R231 W5 [7:0]
  trigs : Tbl Nat := []            -- R231 W6 to W9; slot of trigger t
  binds : Tbl (BitVec 32) := []    -- R225, R231 W10 to W13
  group : List Nat := []           -- R235; member loops of its binding group, itself included; empty: none
  deriving DecidableEq, Repr

/-- What the engine keeps of a loop between runs (R178, R187, R198, R199). -/
structure LoopDyn where
  flags : BitVec 7 := 0            -- R231 W15 [6:0]; sticky flags
  pendMask : BitVec 8 := 0         -- R187; pending trigger mask
  pending : Bool := false          -- R187; a dispatch is pending
  scribeAt : Option Nat := none    -- R198; CKE cycle of the boundary at which its pending scribe run was posted
  firstInstant : Nat := 0          -- R194; instant of the earliest pending trigger, CKE cycle
  posted : Nat := 0                -- R188; posting of the earliest pending trigger, CKE cycle
  lastDisp : Option Nat := none    -- R187; tick of the previous dispatch
  running : Bool := false          -- R187; a run is in progress
  scribeFirst : Bool := false      -- R237; closed by the image: its first dispatch is a scribe run with a4 to a7 zero
  deriving DecidableEq, Repr

/-- Source of an input-store slot (R180). -/
inductive SlotSrc where
  | sample (id : Nat) (kind : Nat) | hint (ty r : Nat) | activity (r : Nat) | rollQ (r : Nat) | rollE (r : Nat)
  | timer (t : Nat) | output (loop b : Nat) | firmware (what : Nat) (r : Nat) (m : Nat)
  deriving DecidableEq, Repr

/-- The image's subscription table (R180, R232): each slot's source and its subscribing loops with their trigger number. -/
structure SubEnt where
  slot : Nat
  src : SlotSrc
  deriving DecidableEq, Repr

/-- An engine timer (R182). -/
structure Timer where
  period : Nat := 0                -- R182; us, 0 for a timer the image does not set
  phase : Nat := 0                 -- R182; us within the period
  ticks : Nat := 0                 -- R180, R182; ticks since the first boundary of BOOT; slots take the low 32 bits
  deriving DecidableEq, Repr

/-- A waiting loop-output WRITE in a hub port queue is a `Packet` of the link's queue (R193). The engine: -/
structure Engine where
  lanes : Tbl Lane := []           -- R171; lanes 0 to 71 (an unlisted lane: `laneReset`)
  imem : Tbl (BitVec 32) := []     -- R174; instruction memory, 8,192 words; unfilled words are zero (R214)
  state : Tbl (BitVec 32) := []    -- R174; state memory, 65,536 words
  input : Tbl InSlot := []         -- R174; input store, 16,384 slots
  outs : Tbl OutEnt := []          -- R174; output table, key 4 * loop + binding
  loops : Tbl LoopEnt := []        -- R178; loop table, 8,192 entries
  dyn : Tbl LoopDyn := []          -- R178, R187; run-time part of each loop
  subs : List SubEnt := []         -- R180; subscription table
  timers : Tbl Timer := []         -- R182; 64 engine timers
  timerAt : Option Nat := none     -- R182; tick of the first boundary of BOOT, from which the timers count
  mbox : Tbl (BitVec 32) := []     -- R225; firmware mailboxes, 4,096
  mboxW : Tbl Nat := []            -- R244; tick + 1 of the last write of each mailbox
  discarded : Nat := 0             -- R183; SAMPLEs that named no subscribed slot
  engMem : Bool := false           -- R177; engine-memory condition
  badWords : List Nat := []        -- R177; instruction words with a double-bit error, not yet rewritten
  imgCopy : Tbl (BitVec 32) := []  -- R177; the management core's copy of the verified instruction memory
  dispatching : Bool := false      -- R449; dispatch has begun (step 4)
  lastRun : Nat := 0               -- R34; tick of the last dispatch
  deriving DecidableEq, Repr

end Sys2Proof.Machine
end

