-- ==== Sys2Proof/Machine/StCommit.lean ====
section
/-! DEFINITION. Committed state: every value that changes only at glue-up (R16), in one record, so that the committed
state, the hub guard's safe-state copy (R31), a snapshot's frozen copy (R166), the view of a run (R189) and the set in
hand (R20) are values of one type. -/

namespace Sys2Proof.Machine

/-- Region-state orders (R267): the content of an order slot. -/
inductive Order where
  | none | on | off | retention | purge
  deriving DecidableEq, Repr

/-- Committed region states (R269). -/
inductive RState where
  | off | on | retention | purge
  deriving DecidableEq, Repr

/-- Rails of regions (R247). -/
inductive RRail where
  | vcore | vsram | vret | vlink | vmio
  deriving DecidableEq, Repr

/-- Phases of the hint stream (R315). -/
inductive HPhase where
  | unhinted | prefill | decode | mixed
  deriving DecidableEq, Repr

/-- Committed fields of a region (R248, R267, R274, R302, R319, R376, R390). -/
structure CReg where
  req : Nat := 0                   -- R248 RVREQ [9:0]; reset: image idle code (loaded at BOOT)
  slew : Nat := 0                  -- R248 RVREQ [24:16]; reset: image value
  ifloor : Nat := 0                -- R248 RVIWIN [9:0]; reset MFLOOR
  iceil : Nat := 0                 -- R248 RVIWIN [25:16]; reset MCEIL
  mfloor : Nat := 0                -- R248 RVMWIN [9:0]; reset: image value
  mceil : Nat := 0                 -- R248 RVMWIN [25:16]; reset: image value
  slewmax : Nat := 0               -- R248 RVMLIM [8:0]; reset: image value
  offlo : Int := -64               -- R248 RVMLIM [23:16] signed; reset 0xC0
  offhi : Int := 127               -- R248 RVMLIM [31:24] signed; reset 0x7F
  gb : Nat := 50                   -- R248 RVEFF [15:10]; reset 50
  setpt : Nat := 0                 -- R248 RVEFF [9:0]; reset 0x000
  lo : Nat := 0                    -- R248 RVEFF [25:16]; reset 0x000
  hi : Nat := 0                    -- R248 RVWINH [9:0]; reset 0x000
  stgint : Nat := 0                -- R274 RSPAR [6:0]; reset: image value
  fenceto : Nat := 10              -- R274 RSPAR [15:8]; reset 10
  inrush : Nat := 0                -- R274 RSMPAR [7:0]; reset: image value
  tret : Nat := 2                  -- R274 RSMPAR [11:8]; reset 2
  purgehold : Nat := 10            -- R274 RSMPAR [23:16]; reset 10
  ops : Order := .none             -- R274 RSVIEW [6:4]; operator slot, reset 0
  ins : Order := .none             -- R274 RSVIEW [10:8]; installer slot, reset 0
  mks : Order := .none             -- R274 RSVIEW [14:12]; maker slot, reset 0
  ths : Order := .none             -- R274 RSVIEW [18:16]; thermal slot, reset 0
  forder : Bool := false           -- R407, R408 RFLT [23]; the maker slot holds a fault order
  state : RState := .off           -- R274 RSVIEW [2:0]; reset 0
  viaReq : Bool := false           -- R275, R283; the committed state was made by an accelerator REQUEST
  band : Nat := 0                  -- R392 RTHV [2:0]; reset 0
  thcap : Nat := 0                 -- R300, R377; thermal region ceiling, grains, 0 none
  ccap : Nat := 0                  -- R408 RFLTC [31:16]; capacity ceiling, grains, 0 none
  rallow : Nat := 0                -- R302 RALW [15:0]; reset 0
  phase : HPhase := .unhinted      -- R500 RHINT [1:0]; reset 0
  ctx : Nat := 1                   -- R500 RHINT [27:8]; reset 1
  carry : Bool := false            -- R408 RFLT [22]; carry permit committed
  onWrites : Nat := 0              -- R275; writes of on to any slot processed at the last boundary
  deriving DecidableEq, Repr

/-- Committed converter parameters (R114), at their reset values. -/
structure CConv where
  vibset : Nat := 200              -- R114 VIBSET [8:0]
  vibwinC : Nat := 350             -- R114 VIBWIN [24:16]
  vibwinF : Nat := 0               -- R114 VIBWIN [8:0]
  vibslew : Nat := 10              -- R114 VIBSLEW [8:0]
  mfreq : Nat := 800               -- R114 MFREQ [9:0], kHz
  mripple : Nat := 1               -- R114 MRIPPLE [1:0]
  fitted : Word := 0               -- R114 FITTED [31:0]
  spares : Word := 0               -- R114 SPARES [31:0]
  passign : BitVec 16 := 0         -- R114 PASSIGN [15:0]
  minph : Nat := 4                 -- R114 MINPH [5:0]
  phrate : Nat := 500              -- R114 PHRATE [9:0], 0.1 A
  pklim : Nat := 650               -- R114 PKLIM [9:0], 0.1 A
  shedmax : Nat := 350             -- R114 SHEDMAX [9:0], 0.1 A
  shedPermit : Bool := true        -- R114 CMODE [0]
  dePermit : Bool := true          -- R114 CMODE [1]
  cdroop : Nat := 30               -- R114 CDROOP [6:0], mV
  cstep : Nat := 100               -- R114 CSTEP [9:0], A
  wake : Nat := 4                  -- R114 WAKE [3:0], us
  startVibD : Nat := 0             -- R114 START_VIB [9:0], 100 us
  startVibR : Nat := 10            -- R114 START_VIB [23:16], 0.1 ms
  startVqaD : Nat := 10            -- R114 START_VQA [9:0]
  startVqaR : Nat := 10            -- R114 START_VQA [23:16]
  startVqcD : Nat := 10            -- R114 START_VQC [9:0]
  startVqcR : Nat := 10            -- R114 START_VQC [23:16]
  stopVibD : Nat := 0              -- R114 STOP_VIB [9:0]
  stopVibR : Nat := 10             -- R114 STOP_VIB [23:16]
  stopVqaD : Nat := 0              -- R114 STOP_VQA [9:0]
  stopVqaR : Nat := 10             -- R114 STOP_VQA [23:16]
  stopVqcD : Nat := 0              -- R114 STOP_VQC [9:0]
  stopVqcR : Nat := 10             -- R114 STOP_VQC [23:16]
  vinUnder : Nat := 92             -- R114 VINLIM [7:0], 0.1 V
  vinWarn : Nat := 100             -- R114 VINLIM [15:8], 0.1 V
  vinOver : Nat := 145             -- R114 VINLIM [23:16], 0.1 V
  qsetA : Nat := 550               -- R114 QSET [9:0]
  qsetC : Nat := 550               -- R114 QSET [25:16]
  qwinF : Nat := 400               -- R114 QWIN [9:0]
  qwinC : Nat := 1000              -- R114 QWIN [25:16]
  qslew : Nat := 10                -- R114 QSLEW [8:0]
  qfdivA : Nat := 300              -- R114 QFDIV [8:0]
  qfdivC : Nat := 300              -- R114 QFDIV [24:16]
  qcompA : Nat := 1                -- R114 QCOMP [1:0]
  qcompC : Nat := 1                -- R114 QCOMP [5:4]
  deriving DecidableEq, Repr

/-- Committed budget and class fields (R294, R302). -/
structure CBudget where
  opcap : Nat := 0                 -- R294 DCAPOP [15:0]
  incap : Nat := 0                 -- R294 DCAPIN [15:0], input-referred
  mkcap : Nat := 0                 -- R294 DCAPMK [15:0]; reset: image value
  effconv : Nat := 0               -- R294 DCAPMK [31:16], Q0.16; reset: image value
  trayIn : Nat := 0                -- R484 TCEIL as committed, input-referred, 0 none
  cap : Nat := 0                   -- R294 DCAPVIEW [15:0]; reset: image MKCAP
  src : Nat := 3                   -- R294 DCAPVIEW [18:16]
  eta : Nat := 0                   -- R294 DCAPVIEW [31:20], Q0.12
  trcap : Nat := 0                 -- R294 DCAPORD [15:0]
  thcap : Nat := 0                 -- R294 DCAPORD [31:16]
  hold : Nat := 0                  -- R294 DCAPHLD [15:0]
  holdOn : Bool := false           -- R293; the tide holding is present
  incapd : Nat := 0                -- R294 DCAPHLD [31:16]
  minC : Nat := 0                  -- R302 CLSLIMC [15:0]
  maxC : Nat := 0xFFFF             -- R302 CLSLIMC [31:16]
  minM : Nat := 0                  -- R302 CLSLIMM [15:0]
  maxM : Nat := 0xFFFF             -- R302 CLSLIMM [31:16]
  minL : Nat := 0                  -- R302 CLSLIML [15:0]
  maxL : Nat := 0xFFFF             -- R302 CLSLIML [31:16]
  ord0 : Nat := 5                  -- R302 CLSPOL [2:0]
  ord1 : Nat := 4                  -- R302 CLSPOL [6:4]
  ord2 : Nat := 5                  -- R302 CLSPOL [10:8]
  ord3 : Nat := 5                  -- R302 CLSPOL [14:12]
  dhead : Nat := 8                 -- R302 CLSPOL [21:16]
  mkerf : Bool := false            -- R302 CLSPOL [24]
  kdown : Nat := 2                 -- R302 CLSPOL [30:25]
  acomp : Nat := 0                 -- R302 CLSALW1 [15:0]
  amem : Nat := 0                  -- R302 CLSALW1 [31:16]
  alink : Nat := 0                 -- R302 CLSALW2 [15:0]
  slack : Nat := 0                 -- R302 CLSALW2 [31:16]
  dcomp : Nat := 0                 -- R302 CLSDEM1 [15:0]
  dmem : Nat := 0                  -- R302 CLSDEM1 [31:16]
  dlink : Nat := 0                 -- R302 CLSDEM2 [15:0]
  spill : Nat := 0                 -- R302 CLSDEM2 [31:16]
  reserve : Nat := 0               -- R302 CLSRSV [15:0]
  diePhase : HPhase := .unhinted   -- R299, R302 CLSSEL [1:0]; the die phase selects the table
  deriving DecidableEq, Repr

/-- Committed hint policy of a source (R321). -/
structure CHint where
  en : Bool := true                -- R321 HNTPOL [0]
  aen : Bool := true               -- R321 HNTPOL [1]
  tmask : Byte := 0xFE             -- R321 HNTPOL [15:8]
  deriving DecidableEq, Repr

/-- Committed shim and ledger fields (R330, R339). -/
structure CShim where
  en : Bool := true                -- R330 SHIMCFG [0]
  floor : Nat := 60                -- R330 SHIMCFG [7:1]
  slope : Nat := 200               -- R330 SHIMCFG [23:8]
  hold : Nat := 10                 -- R330 SHIMCFG [31:24]
  slot : Nat := 0                  -- R330 SHIMCFG2 [3:0]
  stag : Nat := 25                 -- R330 SHIMCFG2 [15:8]
  annwait : Nat := 10              -- R330 SHIMCFG2 [23:16]
  ledbase : BitVec 64 := 0         -- R339 LEDBASE [63:24]
  leden : Bool := false            -- R339 LEDCTL [0]
  deriving DecidableEq, Repr

/-- Committed fields of one tide peer (R364). -/
structure CPeer where
  die : Nat := 0                   -- R364 TPID [19:0]
  board : Bool := false            -- R364 TPID [20]
  valid : Bool := false            -- R364 TPID [21]
  expinc : Nat := 0                -- R364 TPEXP [31:0]
  deriving DecidableEq, Repr

/-- Committed tide and dovetail fields (R364, R490). -/
structure CTide where
  group : Nat := 0                 -- R364 TGCFG [31:0]
  dieId : Nat := 0                 -- R364 TDCFG [19:0]
  h0 : Nat := 0                    -- R364 TINIT [15:0]
  gbud : Nat := 0                  -- R364 TGBUD [63:0]
  ifloor : Nat := 0                -- R364 TILIM [15:0]
  iceil : Nat := 0xFFFF            -- R364 TILIM [31:16]
  mfloor : Nat := 0                -- R364 TMLIM [15:0]; reset: image value
  mceil : Nat := 0                 -- R364 TMLIM [31:16]; reset: image value
  tlimit : Nat := 64               -- R364 TPOL [10:0]
  udelta : Nat := 5                -- R364 TPOL [23:16]
  urgage : Nat := 10               -- R364 TPOL [31:24]
  tlimmax : Nat := 1024            -- R364 TMPOL [10:0]
  retryd : Nat := 20               -- R364 TTIM [7:0]
  retryf : Nat := 20               -- R364 TTIM [15:8]
  deadtime : Nat := 10             -- R364 TTIM [23:16]
  ten : Bool := false              -- R364 TCTL [0]
  freeze : Bool := false           -- R364 TCTL [1]
  peers : Tbl CPeer := []          -- R364; 32 peer entries
  bslot : Nat := 0                 -- R490 DVTTOP [3:0]
  ndies : Nat := 0                 -- R490 DVTTOP [7:4]
  ring : Bool := false             -- R490 DVTTOP [8]
  dvtEn : BitVec 4 := 0            -- R490 DVTCFGp [0]
  dvtMax : Tbl Nat := []           -- R490 DVTCFGp [2:1], reset 3
  dvtSlot : Tbl Nat := []          -- R490 DVTCFGp [7:4], reset 0
  deriving DecidableEq, Repr

/-- Committed loop mode and manual values (R195, R231 W0 [27], R505). -/
structure CLoop where
  closed : Bool := false           -- R231 W0 [27]
  man : Tbl (BitVec 32) := []      -- R505 LOOPMANn
  deriving DecidableEq, Repr

/-- All committed state (R16). -/
structure Committed where
  gen : BitVec 32 := 0             -- R22; generation, zero after reset
  regs : Tbl CReg := []            -- R248, R274; regions 0 to 1,023
  conv : CConv := {}               -- R114
  phcmd : Tbl Nat := []            -- R114 PHCMD[n]; reset 0, cleared at the boundary that applies it (R130)
  bud : CBudget := {}              -- R294, R302
  hnt : Tbl CHint := []            -- R321; 16 sources
  shim : CShim := {}               -- R330, R339
  tide : CTide := {}               -- R364, R490
  confthr : Nat := 32              -- R392 THCFG [7:0]
  tinlet : Nat := 30               -- R392 THCFG [15:8]
  tdrain : Nat := 0                -- R392 THCFG [23:16]; reset: image value
  loops : Tbl CLoop := []          -- R195; modes and manual values
  coef : Tbl CoefWord := []        -- R209; coefficient memory, one value for the four identical replicas (R175)
  nodeMode : Tbl Nat := []         -- R105; committed MODE value of each pan, 5 bits, key the node
  nodeStage : Tbl (Option Word) := [] -- R63; other committed STAGE values of each pan, key 256 * node + SEL
  guardStop : Bool := false        -- R267; the hub guard's stop state stands
  vretOn : Bool := false           -- R271; the hub holds the VRET regions on
  deriving DecidableEq, Repr

end Sys2Proof.Machine
end

