-- ==== Sys2Proof/Machine/StTree.lean ====
section
/-! DEFINITION. State of the sluice tree: packets, links with their credits, nodes with their routing and glue-up
registers (spec/02_sluice_tree.md), and the pans (spec/03_pan_leaf.md, spec/05_telemetry.md, spec/15_faults_spares.md).
Each field's comment gives its width where it has one, the rule that names it, and its reset value stands as the default. -/

namespace Sys2Proof.Machine

/-- A sluice packet (R42): TYPE, BC, NODE and BODY. -/
structure Packet where
  ty : BitVec 4
  bc : Bool
  node : NodeId
  body : BitVec 43
  deriving DecidableEq, Repr

/-- One beat of a link's data lines (R39): a byte, the frame line and the parity line. -/
structure Beat where
  data : Byte
  frame : Bool
  parity : Bool
  deriving DecidableEq, Repr

/-- One direction of one link (R39, R45 to R49). Counts are modulo 256 where they are `BitVec 8`. -/
structure LinkDir where
  queue : List Packet := []        -- R45; packets waiting at the sender for a credit, oldest first; reset empty
  wire : List Packet := []         -- R48; packets on the wire or in the receiver's buffers; reset empty
  lostC : Nat := 0                 -- R48; class C packets discarded under R40, on the wire until the next audit
  lostT : Nat := 0                 -- R48; the same for class T
  lostU : Nat := 0                 -- R48; the same for class U
  creditC : Nat := 4               -- R45; credits of class C held by the sender
  creditT : Nat := 4               -- R45; credits of class T
  creditU : Nat := 2               -- R45; credits of class U
  backC : Nat := 0                 -- R48; credits of class C on the wire back
  backT : Nat := 0                 -- R48; credits of class T on the wire back
  backU : Nat := 0                 -- R48; credits of class U on the wire back
  sentC : BitVec 8 := 0            -- R47; packets of class C sent, modulo 256
  sentT : BitVec 8 := 0            -- R47; class T sent
  sentU : BitVec 8 := 0            -- R47; class U sent
  recvC : BitVec 8 := 0            -- R47; packets of class C received, modulo 256
  recvT : BitVec 8 := 0            -- R47; class T received
  recvU : BitVec 8 := 0            -- R47; class U received
  lastT : Bool := false            -- R46; the last C or T packet sent was of class T
  resetting : Bool := false        -- R49; a reset request awaits its confirmation
  zeroC : Nat := 0                 -- R48; consecutive audits at which the sender held no credit of class C
  zeroT : Nat := 0                 -- R48; the same for class T
  zeroU : Nat := 0                 -- R48; the same for class U
  auditAt : Nat := 0               -- R47; tick of the last audit
  timeIn : List Nat := []          -- R53; ticks from which the TIME packets of the queue have waited, oldest first
  timeOut : List Nat := []         -- R53; ticks at which the TIME packets on the wire left, oldest first
  beats : List Beat := []          -- R39; SLU_DND, SLU_DNF, SLU_DNP or SLU_UPD, SLU_UPF, SLU_UPP: beats of the last packet sent
  creditLine : BitVec 2 := 0       -- R39; SLU_DNC or SLU_UPC: the last credit code on the reverse lines
  deriving DecidableEq, Repr

/-- A link: both directions (R39). -/
structure Link where
  down : LinkDir := {}             -- R39; parent to child
  up : LinkDir := {}               -- R39; child to parent
  deriving DecidableEq, Repr

/-- DESC kinds (R43), and `absent` for a number at which the floorplan has no node. -/
inductive NodeKind where
  | absent | pond | pan | privPan | sparePan | sparePriv
  deriving DecidableEq, Repr

/-- One exception entry of a pond (R44, R54). -/
structure ExcEntry where
  lo : NodeId := 0                 -- R44; SEL 0x72 + 2n [31:16]
  hi : NodeId := 0                 -- R44; SEL 0x72 + 2n [15:0]
  valid : Bool := false            -- R44; SEL 0x73 + 2n [31]
  port : Nat := 0                  -- R44; SEL 0x73 + 2n [4:0]
  deriving DecidableEq, Repr

/-- An ID range of a port (R54); `used` is false for a port that was never probed. -/
structure PortRange where
  lo : NodeId := 0                 -- R44; SEL 0x80 + k [31:16]
  hi : NodeId := 0                 -- R44; SEL 0x80 + k [15:0]
  used : Bool := false             -- R51; the port has a range
  disabled : Bool := false         -- R52, R71; the port is disabled
  deriving DecidableEq, Repr

/-- A STAGE packet held until its verdict (R61, R63). -/
structure HeldStage where
  h : Hdr
  sel : Byte
  v : Word
  deriving DecidableEq, Repr

/-- An END received for a target (R59, R61). -/
structure HeldEnd where
  h : Hdr
  count : Nat
  deriving DecidableEq, Repr

/-- The set a node holds for one boundary (R61 to R63). -/
structure HeldSet where
  tag : BitVec 3 := 0              -- R43; epoch tag of the set
  stages : List HeldStage := []    -- R61; STAGE packets received, in order
  ends : List HeldEnd := []        -- R61; ENDs received
  closed : Bool := false           -- R61; set close received
  matched : Nat := 0               -- R61; matched ENDs at this node
  ok : Bool := true                -- R61; the node is not failing
  verdict : Option Bool := none    -- R63; commit (true) or defer, once received
  gen : Word := 0                  -- R43; generation given by the verdict
  deriving DecidableEq, Repr

/-- What a pond has heard from one rostered child for the set in hand (R61). -/
structure ChildAck where
  child : Nat
  ok : Bool
  count : Nat
  failing : NodeId
  deriving DecidableEq, Repr

/-- Extremes of one quantity (R151): empty is minimum 0xFFFF, maximum 0x0000. -/
structure Ext where
  min : BitVec 16 := 0xFFFF        -- R151; minimum, empty 0xFFFF
  max : BitVec 16 := 0x0000        -- R151; maximum, empty 0x0000
  deriving DecidableEq, Repr

/-- A pond's roll-up in progress (R65). -/
structure Rollup where
  rqSeen : List Nat := []          -- R65; children whose RQ has come in this epoch
  vSeen : List Nat := []           -- R65; children whose voltage RMM has come
  iSeen : List Nat := []           -- R65; children whose current RMM has come
  v : Ext := {}                    -- R65; lowest minimum, highest maximum of voltage
  i : Ext := {}                    -- R65; the same of current
  vInc : Bool := false             -- R65; some voltage RMM missing or incomplete
  iInc : Bool := false             -- R65; some current RMM missing or incomplete
  tag : BitVec 3 := 0              -- R43; epoch tag of the roll-up
  sent : Bool := true              -- R65; the pond's own RQ and RMM have gone
  deriving DecidableEq, Repr

/-- A node of the tree (R36). Number 0 is the hub. The first fields are the floorplan (what is wired and declared). -/
structure Node where
  kind : NodeKind := .absent       -- R43; DESC kind as built
  parent : Nat := 0                -- R36; node at the far end of the primary parent port
  port : Nat := 0                  -- R36; child port of the parent, 0 to 31 at the hub
  spareParent : Option Nat := none -- R36; node at the far end of the spare parent port
  sparePort : Nat := 0             -- R36; adoption port there, 0 to 7 at the hub
  depth : Nat := 1                 -- R71; links from the hub
  height : Nat := 0                -- R65; height of its subtree
  rating : Nat := 10               -- R43, R73; 0.1 A
  wide : Bool := false             -- R43, R66; counter width 40 bits
  ports : Nat := 0                 -- R43; child ports in use, 5 bits
  revision : Nat := 0              -- R43; macro revision, 8 bits
  id : NodeId := 0                 -- R50; assigned ID, 0 before enumeration
  subHi : NodeId := 0              -- R51; highest ID of its subtree
  portDisabled : Bool := false     -- R52, R71; its parent port is disabled
  spareOff : Bool := false         -- R37; enumeration has disabled its spare path
  onSpare : Bool := false          -- R35, R44; the spare parent path is selected
  pathHold : Bool := false         -- R35, R68; holds: paths lost or adoption not confirmed
  lastPkt : Nat := 0               -- R35; tick of the last packet received on the active parent port
  badPrimary : Bool := false       -- R35, R41; the primary parent path has failed
  badSpare : Bool := false         -- R35, R41; the spare parent path has failed
  parity : Tbl Nat := []           -- R41; parity errors per port in this epoch (16 to 19 adoption, 30 spare parent, 31 primary parent; 64 + k and 32 + k at the hub)
  roster : BitVec 16 := 0          -- R44; SEL 0x70
  exc : Tbl ExcEntry := []         -- R54; exception entries 0 to 3 in order
  ranges : Tbl PortRange := []     -- R54; child port ranges
  held : HeldSet := {}             -- R61; the set it holds
  resyncDue : Bool := false        -- R63, R69; the hub owes it a resynchronisation
  acks : List ChildAck := []       -- R61; answers of its rostered children for the set in hand
  acked : Bool := false            -- R61; its own ACK has gone
  rollup : Rollup := {}            -- R65; roll-up in progress
  lastRq : Tbl Nat := []           -- R66; last received RQ count of each child
  cum : BitVec 40 := 0             -- R66; cumulative charge in quanta
  epochNo : BitVec 64 := 0         -- R19, R53; its own epoch number
  epochAt : Nat := 0               -- R19; tick at which its present epoch began
  aligned : Bool := false          -- R53; aligned by a first TIME packet
  deriving DecidableEq, Repr

/-- Pan states (R105). -/
inductive PanSt where
  | off | prebias | shadow | run | hold | faulted | retired
  deriving DecidableEq, Repr

/-- Excursion states (R74). -/
inductive Excur where
  | none | active | holdoff
  deriving DecidableEq, Repr

/-- Status of a sense converter (R145, R147). -/
inductive ConvSt where
  | inUse | spare | failed
  deriving DecidableEq, Repr

/-- Coefficients of one sense converter (R142, R153). -/
structure ConvCoef where
  offset : Int := 0                -- R153; signed 10 bits, 1/16 LSB
  gain : Int := 0                  -- R153; signed 12 bits, 2^-16
  skew : Int := 0                  -- R153; signed 8 bits, 0.25 ps
  deriving DecidableEq, Repr

/-- A window part (R156): disabled, armed, or exited on one side. -/
inductive WinSt where
  | disabled | armed | exitedLow | exitedHigh
  deriving DecidableEq, Repr

/-- One window part with the exits of the present epoch (R156, R157). -/
structure Window where
  st : WinSt := .disabled          -- R156, R158; disarmed outside SHADOW, RUN and HOLD
  sentFirst : Bool := false        -- R157; the first exit of this epoch has been sent
  count : Nat := 0                 -- R157; further exits in this epoch
  lowLast : Bool := true           -- R157; side of the last counted exit
  code : BitVec 16 := 0            -- R157; code at the last counted exit
  deriving DecidableEq, Repr

/-- The regulation and telemetry parameters a pan keeps (R80, R153, R184), at their reset values. -/
structure PanPar where
  setpt : Nat := 0                 -- R80 SETPT [9:0]
  slew : Nat := 10                 -- R80 SLEW [8:0], 0.1 mV/us
  winCeil : Nat := 0               -- R80 WINDOW [25:16]
  winFloor : Nat := 0              -- R80 WINDOW [9:0]
  offset : Int := 0                -- R80 OFFSET [7:0] signed, mV
  offslew : Nat := 500             -- R80 OFFSLEW [8:0]
  share : Nat := 0                 -- R80 SHARE [19:0], mA
  modeReq : Nat := 0               -- R80 MODE [1:0]
  dePermit : Bool := true          -- R80 MODE [2]
  carryPermit : Bool := false      -- R80 MODE [3]
  loopWd : Bool := false           -- R80 MODE [4]
  freq : Nat := 125                -- R80 FREQ [7:0], MHz
  ripple : Nat := 2                -- R80 BANDSET [1:0]
  deadTime : Nat := 6              -- R80 BANDSET [7:4]
  boostArm : Nat := 0              -- R80 ARM [1:0]
  shuntEn : Bool := true           -- R80 ARM [2]
  droopNorm : Nat := 24            -- R80 DROOP [5:0], mV
  droopPre : Nat := 12             -- R80 DROOP [13:8], mV
  overshoot : Nat := 20            -- R80 OVERSHOOT [5:0], mV
  boostNs : Nat := 16              -- R80 BOOSTLIM [6:0], ns
  boostMax : Nat := 64             -- R80 BOOSTLIM [15:8]
  balance : Bool := true           -- R80 BALANCE [0]
  vmcomp : Nat := 1                -- R80 VMCOMP [1:0]
  carryAuto : Bool := false        -- R80 CARRYAUTO [0]
  fwBelow : Nat := 40              -- R153 FWIN [7:0], mV
  fwAbove : Nat := 40              -- R153 FWIN [15:8], mV
  fwHyst : Nat := 4                -- R153 FWIN [19:16], mV
  fwEn : Bool := true              -- R153 FWIN [20]
  svBelow : Nat := 10              -- R153 SWINV [7:0], mV
  svAbove : Nat := 10              -- R153 SWINV [15:8], mV
  svHyst : Nat := 2                -- R153 SWINV [19:16], mV
  svEn : Bool := true              -- R153 SWINV [20]
  siHigh : Nat := 1000             -- R153 SWINI [11:0], mA
  siLow : Nat := 0                 -- R153 SWINI [23:12], mA
  siHyst : Nat := 2                -- R153 SWINI [27:24], 8 mA steps
  siEn : Bool := true              -- R153 SWINI [28]
  sensesel : Nat := 0              -- R153 SENSESEL [1:0]
  calEn : Bool := true             -- R153 CALCTL [0]
  skewFreeze : Bool := false       -- R153 CALCTL [1]
  curGain : Int := 0               -- R153 CALLOAD I [11:0] signed, 2^-14
  boostCoef : Nat := 0             -- R153 CALLOAD I [27:16], 1/16 quantum per ns
  streamKind : Tbl Nat := []       -- R184 STREAMn [7:0], n = 0 to 3, reset 0
  streamInt : Tbl Nat := []        -- R184 STREAMn [23:8], 100 ns, reset 0
  epochV : Bool := false           -- R184 EPOCHSAMP [0]
  epochI : Bool := false           -- R184 EPOCHSAMP [1]
  deriving DecidableEq, Repr

/-- Consecutive updates of one converter with a coefficient at an end of its range (R145), coefficient by coefficient. -/
structure EndCount where
  offset : Nat := 0                -- R145; offset at an end
  gain : Nat := 0                  -- R145; gain at an end
  skew : Nat := 0                  -- R145; skew at an end
  deriving DecidableEq, Repr

/-- The sense part of a pan (R140 to R148, R160). -/
structure Sense where
  a : ConvSt := .inUse             -- R140; converter A
  b : ConvSt := .inUse             -- R140; converter B
  c : ConvSt := .spare             -- R140; converter C, the spare
  d : ConvSt := .inUse             -- R147; auxiliary converter D
  coefA : ConvCoef := {}           -- R142; coefficients in force, A
  coefB : ConvCoef := {}           -- R142; B
  coefC : ConvCoef := {}           -- R142; C
  coefD : ConvCoef := {}           -- R147; D: zero offset, unit gain at each BOOT
  nextA : ConvCoef := {}           -- R144; coefficients that take force at the next boundary, A
  nextB : ConvCoef := {}           -- R144; B
  nextC : ConvCoef := {}           -- R144; C
  nextD : ConvCoef := {}           -- R147; D
  factC : ConvCoef := {}           -- R145; factory coefficients of C
  swapA : Bool := false            -- R145; C replaces A at the next boundary
  swapB : Bool := false            -- R145; C replaces B at the next boundary
  cFor : Nat := 0                  -- R145; converter C stands for: 0 none, 1 A, 2 B
  lost : Nat := 0                  -- R157; converters lost, 0 to 3
  shadowB : Bool := false          -- R143; the present shadow run shadows B
  runs : Nat := 0                  -- R143; shadow runs ended since calibration restarted
  updA : Nat := 0                  -- R143; updates of A
  updB : Nat := 0                  -- R143; updates of B
  endA : EndCount := {}            -- R145; consecutive updates in A's place with a coefficient at its end
  endB : EndCount := {}            -- R145; the same in B's place
  runAt : Nat := 0                 -- R143; tick at which the present shadow run began
  nextCur : Option (Int × Nat) := none -- R142; current gain and boost coefficient that take force at the next boundary
  converged : Bool := false        -- R143; calibration has converged
  failedNow : Bool := false        -- R145; a failure was found in this epoch: the voltage RMM is incomplete
  deriving DecidableEq, Repr

/-- The suspect-contact judge of a pan (R402, R403). -/
structure Contact where
  wholeRun : Bool := false         -- R402; in RUN on remote sense for the whole epoch so far
  drop : Int := 0                  -- R402; epoch mean drop of the last qualifying epoch, code
  cur : Nat := 0                   -- R402; epoch mean current of it, units of 0.0125 mA
  n : Nat := 0                     -- R402; qualifying epochs summed, to 1,000
  sumD : Int := 0                  -- R402; sum of epoch mean drops
  sumI : Nat := 0                  -- R402; sum of epoch mean currents
  formed : Bool := false           -- R402; baseline formed
  excess : Nat := 0                -- R403; consecutive qualifying epochs of excess drop
  stopped : Bool := false          -- R403; reported, counting stopped
  deriving DecidableEq, Repr

/-- The tally counts a pan keeps between its reports (R412). -/
structure PanTally where
  bins : Tbl Nat := []             -- R412; 16 current bins, 16 bits each
  carry : Nat := 0                 -- R412; carry epochs, 16 bits
  boostEpochs : Nat := 0           -- R412; epochs with a boost firing, 16 bits
  reverse : Nat := 0               -- R412; reverse charge in quanta, 32 bits
  firings : Nat := 0               -- R412; boost firings, 32 bits
  deriving DecidableEq, Repr

/-- A pan leaf (R73 to R110, R139 to R160). -/
structure Pan where
  par : PanPar := {}               -- R80; parameters
  st : PanSt := .off               -- R105; state
  before : PanSt := .run           -- R105; state held before HOLD
  admitted : Bool := false         -- R108; a spare that has been admitted
  frac : Nat := 0                  -- R105; ramp fraction, 1/64
  rampOut : Bool := false          -- R105; ramp-out in progress
  rampFrom : Nat := 0              -- R105; fraction at which the ramp-out began
  prebiasAt : Nat := 0             -- R105; tick of entry to PREBIAS
  rampAt : Nat := 0                -- R105; tick of the last raise, or of the start of the ramp-out
  late : List (Nat × Word) := []   -- R82; WRITEs (SEL, value) of a boundary's own CKS cycle, applied after its committed values
  lastWrite : Nat := 0             -- R105; tick of the last regulation-group WRITE
  instSet : Int := 0               -- R81; instantaneous set-point code (negative below 0.300 V in the start ramp)
  instOff : Int := 0               -- R81; instantaneous offset, mV
  setAt : Nat := 0                 -- R254; tick from which the set-point slew counts
  offAt : Nat := 0                 -- R82; tick from which the offset slew counts
  starting : Bool := false         -- R105; start from 0 V: the target has not been reached
  preset : Bool := false           -- R105; the reference was preset, or starts at 0 V, and has not come to the window
  grid : Nat := 0                  -- R105; last remote-sensed voltage, code 1/16 mV
  vlo : Nat := 0                   -- R98; last PAN_VLO, code 1/16 mV
  vibs : Nat := 0                  -- R83; last PAN_VIBS, code 1/16 mV
  klock : Rat := 1                 -- R83; frequency-lock factor, reset 1 (R456 gives k_lock 1)
  ton : Rat := 0                   -- R83; last on-time, ns
  nextB : Bool := false            -- R83; the next on-time is phase B's
  endOnA : Rat := 0                -- R84; end of phase A's last on-time, ns
  endOnB : Rat := 0                -- R84; end of phase B's last on-time, ns
  gapPs : Nat := 0                 -- R79, R86; dead time between the edges of the last gate transition, ps
  vmAt : Nat := 0                  -- R87; tick at which the last voltage-mode period began
  periods : Nat := 0               -- R83, R92, R100; switching periods since the last reset
  lockAt : Nat := 0                -- R83; count of periods at the last frequency-lock adjustment
  balAt : Nat := 0                 -- R92; count of periods at the last balance update
  shareAt : Nat := 0               -- R100; count of periods at the last share comparison
  hga : Bool := false              -- R77 PAN_HGA
  lga : Bool := false              -- R77 PAN_LGA
  hgb : Bool := false              -- R77 PAN_HGB
  lgb : Bool := false              -- R77 PAN_LGB
  en : Bool := false               -- R77 PAN_EN
  bst : Bool := false              -- R77 PAN_BST
  shn : Bool := false              -- R77 PAN_SHN
  fltN : Bool := true              -- R77 PAN_FLT_N
  de : Bool := false               -- R89; in diode emulation
  trimA : Int := 0                 -- R92; balance trim of phase A, 0.25 % steps, -31 to +31
  trimB : Int := 0                 -- R92; of phase B
  satA : Nat := 0                  -- R92; consecutive updates with A's trim at an end
  satB : Nat := 0                  -- R92; the same for B
  shareTrim : Int := 0             -- R100; 0.25 mV steps, -16 to +16
  limTrim : Nat := 0               -- R75; limiter trim below target, mV, 0 to 12
  limRel : Option Nat := none      -- R75; tick from which the limiter releases its trim; none while it holds it
  excur : Excur := .none           -- R74; excursion state
  excurAt : Nat := 0               -- R74; tick at which the excursion, or its hold-off, began
  droopFired : Bool := false       -- R93; droop comparator fired
  overFired : Bool := false        -- R95; overshoot comparator fired
  fired : Nat := 0                 -- R94; boost firings in this epoch
  bstAt : Nat := 0                 -- R148; tick at which the boost began to conduct
  local_ : Bool := false           -- R99; in fallback on local sense
  localAt : Nat := 0               -- R99; tick of the last presence of the fallback condition
  peaks : BitVec 2 := 0            -- R110; phases whose on-time the peak limit ended in this epoch
  sent : BitVec 8 := 0             -- R110; causes 0x10 to 0x17 already reported in this epoch
  clampSide : Option Bool := none  -- R81; the clamp that acted in this epoch: false floor, true ceiling
  sense : Sense := {}              -- R140; sense converters
  charge : BitVec 32 := 0          -- R148; charge counter, quanta
  boostQ : Nat := 0                -- R148; quanta that boost firings have added in this epoch
  boostFrac : Nat := 0             -- R148; boost charge not yet a whole quantum, 1/16 quantum
  boostWin : Tbl Nat := []         -- R150; quanta that boost firings have added, by current window of this epoch
  vExt : Ext := {}                 -- R160; minimum and maximum of the pair averages of this epoch
  iExt : Ext := {}                 -- R160; minimum and maximum of the window currents of this epoch
  usedLocal : Bool := false        -- R160; used local sense in this epoch
  fast : Window := {}              -- R154; fast window
  slowV : Window := {}             -- R155; slow window, voltage part
  slowI : Window := {}             -- R155; slow window, current part
  streamAt : Tbl Nat := []         -- R185; tick at which each stream's present interval began
  contact : Contact := {}          -- R402; suspect-contact judge
  tally : PanTally := {}           -- R412; counts since the last report
  deriving DecidableEq, Repr

end Sys2Proof.Machine
end

