-- ==== Sys2Proof/Machine/StImage.lean ====
section
/-! DEFINITION. What the jig image and the floorplan give the hub (R232, R234, and the rules named by each field): the
tree description, the band tables, the hint tables and the maker's figures. The block only reads these; they are state
because a BOOT loads them from the store (R449, R450). An image is held decoded: the spec gives no byte layout of it. -/

namespace Sys2Proof.Machine

/-- One row of the maker's band table (R377): a rail in a band. -/
structure BandRow where
  floor : Nat := 0                 -- R377; band floor code
  ceil : Nat := 1023               -- R377; band ceiling code
  gbtab : Nat := 50                -- R377; guardband raise at entry, mV
  ripple : Nat := 2                -- R377; BANDSET ripple code
  dead : Nat := 6                  -- R377; BANDSET dead-time code
  refresh : Nat := 0               -- R377; refresh code 0 to 7
  regCeil : Nat := 0               -- R377; region ceiling, 1/64 of rated power, 0 none
  dieCeil : Nat := 0               -- R377; die ceiling, grains, 0 none
  deriving DecidableEq, Repr, Inhabited

/-- The tree description of one node (R37, R38, R232): parent port, spare wiring and rating. -/
structure NodeDesc where
  parent : Nat := 0                -- R37; parent, by node key
  port : Nat := 0                  -- R37; parent port
  spareParent : Option Nat := none -- R36; spare parent
  sparePort : Nat := 0             -- R36; its adoption port
  rating : Nat := 0                -- R73; rating, 0.1 A
  deriving DecidableEq, Repr, Inhabited

/-- The maker's fields of the converter control (R114, R128), which come from the image at every BOOT (R448). -/
structure MakerConv where
  vibwinC : Nat := 350             -- R114 VIBWIN ceiling
  vibwinF : Nat := 0               -- R114 VIBWIN floor
  phrate : Nat := 500              -- R114 PHRATE
  pklim : Nat := 650               -- R114 PKLIM
  wake : Nat := 4                  -- R114 WAKE
  qwinF : Nat := 400               -- R114 QWIN floor
  qwinC : Nat := 1000              -- R114 QWIN ceiling
  qcompA : Nat := 1                -- R114 QCOMP, VQA
  qcompC : Nat := 1                -- R114 QCOMP, VQC
  tolA : Nat := 0                  -- R128; filter tolerance of VQA, per cent
  tolC : Nat := 0                  -- R128; filter tolerance of VQC, per cent
  deriving DecidableEq, Repr, Inhabited

/-- What Ailon reports of a loop (R204, R232). -/
structure LoopReport where
  c : Nat := 0                     -- R204; C, slots
  util : Nat := 0                  -- R204; utilisation
  density : Nat := 0               -- R204; density
  deriving DecidableEq, Repr, Inhabited

/-- The tree description of one region (R247, R270, R366, R372, R388, R455). -/
structure RegImg where
  defined : Bool := false          -- R52; the tree description defines the region
  rail : RRail := .vcore           -- R247; rail of the region
  pond : Nat := 0                  -- R51; region pond, by node key
  pans : List Nat := []            -- R405; active pans, by node key
  spares : List Nat := []          -- R398; spare list, in order
  refPan : Nat := 0                -- R164; reference pan of the region's voltage
  altPan : Nat := 0                -- R164; alternate pan
  ctlPan : Nat := 0                -- R232; control pan
  retPart : Option Nat := none     -- R270; retention partner
  neigh : List Nat := []           -- R270; neighbour regions, at most 8
  thNeigh : List Nat := []         -- R366; thermal neighbours, at most 6
  keepAlive : Bool := false        -- R455; keep-alive mark
  monitors : Bool := true          -- R388; the region has timing-margin monitors
  bus : Nat := 0                   -- R372; diode sense bus 0 to 7
  src : Option Nat := none         -- R317; hint source the region is assigned to
  thLoop : Option Nat := none      -- R366; its thermal loop
  calg : Option Nat := none        -- R245; input slot of the region's fitted gain (CALG)
  calo : Option Nat := none        -- R245; input slot of its fitted offset (CALO)
  mbox : Option Nat := none        -- R244; firmware mailbox of its estimator
  idle : Nat := 0                  -- R248; image idle code (RVREQ.REQ reset)
  slew : Nat := 10                 -- R248; image value of SLEW
  mfloor : Nat := 0                -- R248; image value of MFLOOR
  mceil : Nat := 1023              -- R248; image value of MCEIL
  slewmax : Nat := 500             -- R248; image value of SLEWMAX
  stgint : Nat := 4                -- R274; image value of STGINT
  inrush : Nat := 1                -- R274; image value of INRUSH
  offlo : Int := -64               -- R248; maker OFFLO
  offhi : Int := 127               -- R248; maker OFFHI
  tret : Nat := 2                  -- R274; maker TRET
  purgehold : Nat := 10            -- R274; maker PURGEHOLD
  boostCoef : Nat := 0             -- R148; maker boost charge coefficient of its cells, 1/16 quantum per ns
  peakPct : Nat := 90              -- R73; maker per-phase peak limit of its cells, per cent of rating, 60 to 100
  gain : Nat := 0                  -- R245; maker gain, the CALG fallback
  offs : Int := 0                  -- R245; maker offset, the CALO fallback
  deriving DecidableEq, Repr, Inhabited

/-- A jig image, decoded (R232), the engine's memories among it. -/
structure Image where
  present : Bool := false          -- R447; the area holds an image
  signer : Option (List Byte) := none -- R232, R234; SHA-384 hash of the key with which its signature over every other section verifies
  version : Nat := 0               -- R234; block version, 42 for 4.2
  imgVersion : Nat := 0            -- R232; image version
  length : Nat := 0                -- R232; image length, bytes
  ailon : Nat := 0                 -- R232; Ailon version
  wiring : Tbl NodeDesc := []      -- R232; parent port, spare wiring and rating of each node, key the node
  conv : MakerConv := {}           -- R114, R232; the maker's fields of the converter control
  report : Tbl LoopReport := []    -- R204, R232; C, utilisation and density of every loop
  linkLoad : Tbl Nat := []         -- R58, R232; load of every link direction
  regs : Tbl RegImg := []          -- R51; regions of the tree description
  nodes : Tbl NodeId := []         -- R51; described node IDs, key the node
  kinds : Tbl NodeKind := []       -- R51, R52; described kinds, key the node
  bands : Tbl BandRow := []        -- R377; key 8 * rail + band
  mkcap : Nat := 0                 -- R294; image MKCAP
  effconv : Nat := 0               -- R294; image EFFCONV
  tdrain : Nat := 1                -- R392; image TDRAIN
  tmfloor : Nat := 0               -- R364; image tide MFLOOR
  tmceil : Nat := 0xFFFF           -- R364; image tide MCEIL
  hintAll : Tbl Byte := []         -- R317; types each source may send with ALL
  actList : Tbl (List Nat) := []   -- R320; each source's activity positions, as region numbers
  memctl : Tbl (List Nat) := []    -- R379; regions of each memory controller
  marks : Tbl Nat := []            -- R197, R505; role mark of each coefficient word, reset 2
  rpmax : Nat := 0                 -- R402; RPMAX, 0.01 mOhm
  imem : Tbl (BitVec 32) := []     -- R232; instruction memory
  coef : Tbl CoefWord := []        -- R232; coefficients
  state : Tbl (BitVec 32) := []    -- R232; state initialisation
  loops : Tbl LoopEnt := []        -- R232; loop table
  subs : List SubEnt := []         -- R232; subscription table
  timers : Tbl Timer := []         -- R232; engine timers
  stages : List (Nat × Byte × Word) := [] -- R232; sample plans and window bands: node, SEL, value (staged in step 6)
  deriving DecidableEq, Repr, Inhabited

end Sys2Proof.Machine
end

