-- ==== Sys2Proof/Machine/StRegion.lean ====
section
/-! DEFINITION. What the hub keeps of each region beside its committed state: the sequencer and its column signals
(spec/10_region_power.md), the set-point model (R255), kerf and shim (spec/11_budget_kerf.md,
spec/12_hints_shim_ledger.md), telemetry (spec/05_telemetry.md), thermal and margin state (spec/14_thermal_margin.md)
and the fault fields that are not computed from others (spec/15_faults_spares.md). -/

namespace Sys2Proof.Machine

/-- Sequencer states (R275), with the codes of RSVIEW.SEQ in order. -/
inductive SeqSt where
  | dark | retained | rising | staging | handover | live | fencing | lowering | falling | purging | purged
  deriving DecidableEq, Repr

/-- The region sequencer and the RGN column signals it drives (R272, R275). -/
structure SeqDyn where
  st : SeqSt := .dark              -- R274 RSVIEW [23:20] SEQ; reset 0
  target : Nat := 0                -- R275; committed state code the sequence goes to (0 off, 1 on, 2 retention, 3 purge)
  stages : Nat := 0                -- R274 RSVIEW [28:24] STAGES; RGN_HEN stages enabled
  ret : Bool := false              -- R272; RGN_RET
  prg : Bool := false              -- R272; RGN_PRG
  prgDue : Option Nat := none      -- R275; tick at which RGN_PRG rises, TRET after RGN_RET fell
  agone : Bool := false            -- R272; RGN_AGONE as last sampled
  agoneAt : Nat := 0               -- R281; tick from which RGN_AGONE has been high in PURGING with RGN_PRG high
  purged : Bool := false           -- R274 RSVIEW [29] PURGED
  holding : Bool := false          -- R274 RSCOND [0] HOLDING
  forced : Bool := false           -- R274 RSCOND [1] FORCED
  overdue : Bool := false          -- R274 RSCOND [2] OVERDUE
  startfail : Bool := false        -- R274 RSCOND [3] STARTFAIL
  purgeslow : Bool := false        -- R274 RSCOND [4] PURGESLOW
  interval : Nat := 0              -- R275; present stage interval, 0.5 us units, at most 64
  nextAt : Nat := 0                -- R277; tick at which the present interval (or opening step) ends
  heldAt : Option Nat := none      -- R279; tick from which the present stage is held
  holdSum : Nat := 0               -- R279; held time of this start before the present hold, ticks
  at_ : Nat := 0                   -- R275; tick of entry to the present state
  tag : Option Byte := none        -- R282; tag of the outstanding FENCE
  lastBelow : Nat := 0             -- R276; tick of the last below exit of the fast window reported
  failSeen : Bool := false         -- R275; the last start ended in STARTFAIL and FALLING has not completed
  inService : Bool := false        -- R332; LIVE or FENCING on some cycle of this epoch
  deriving DecidableEq, Repr

/-- Kerf and shim of a region (R306 to R310, R323 to R328). -/
structure KerfDyn where
  kLoop : Nat := 0                 -- R306; last kerf ratio of the loop after the clamp of R252
  kPres : Nat := 60                -- R307; ratio presented on KRF (R449 step 1: 60 at reset)
  sLoop : Nat := 0                 -- R328; last shim intensity of the loop after the clamp of R252
  sPres : Nat := 0                 -- R327; intensity presented on KRF
  sCycles : Nat := 0               -- R332; cycles (CKS) of this epoch with a presented intensity other than 0
  sAt : Nat := 0                   -- R332; tick of the last change of the presented intensity, or of the epoch's start
  kerfed : Bool := false           -- R310; the presented ratio was not 0 on some cycle of this epoch
  all60 : Bool := true             -- R407; the presented ratio was 60 on every cycle of this epoch so far
  eKerfed : Bool := false          -- R310; the epoch that ended last was kerfed
  eCycles : Nat := 0               -- R332; its cycles with a presented intensity other than 0
  eService : Bool := false         -- R332; its sequencer was LIVE or FENCING on some cycle of it
  eCtx : Nat := 1                  -- R332; context committed during it
  eAll60 : Bool := false           -- R407; ratio 60 was presented on every cycle of it
  run60 : Nat := 0                 -- R311; consecutive runs presented 60 with the estimate above the allowance
  win : Nat := 0                   -- R323; shim window: 0 closed, 1 opened by BWAIT, 2 opened by announcement
  winAt : Nat := 0                 -- R323; tick at which the window opened
  annAt : Option Nat := none       -- R323; announced arrival, tick
  slack : Int := 0                 -- R345; slack of the latest BARRIER hint, us
  slackAt : Option Nat := none     -- R345; tick of its receipt
  staleEst : Bool := false         -- R305; the region is flagged stale
  deriving DecidableEq, Repr

/-- Extremes with their incomplete flag (R160, R161). -/
structure Track where
  v : Ext := {}                    -- R161; voltage extremes
  i : Ext := {}                    -- R161; current extremes
  inc : Bool := false              -- R161; tracking incomplete
  deriving DecidableEq, Repr

/-- Telemetry of a region in the hub (R159 to R164). -/
structure TelDyn where
  charge : BitVec 64 := 0          -- R163; region charge, quanta
  fine : BitVec 96 := 0            -- R163; region energy, fine units
  visible : BitVec 64 := 0         -- R164; visible region energy, uJ
  ledSeen : BitVec 64 := 0         -- R332; visible energy at the previous attribution
  epoch : BitVec 40 := 0           -- R163; charge of the last closed roll-up, quanta
  energy : Nat := 0                -- R223; energy of the last closed roll-up (LDH item RE)
  meanV : Nat := 0                 -- R164; epoch mean voltage code
  chInc : Bool := false            -- R65; charge incomplete
  exInc : Bool := false            -- R65; extremes incomplete
  vSub : Bool := false             -- R164; voltage substituted
  closed : Bool := false           -- R277; a roll-up has closed since BOOT
  inQ : BitVec 40 := 0             -- R163; quanta folded for the roll-up still open
  inRq : List Nat := []            -- R65; nodes whose RQ of the epoch that ended has come
  inV : List Nat := []             -- R65; nodes whose voltage RMM of it has come
  inI : List Nat := []             -- R65; nodes whose current RMM of it has come
  inExt : Track := {}              -- R65, R162; extremes gathered for the roll-up still open
  refV : Option Nat := none        -- R164; kind 0x05 sample of the reference pan for it
  altV : Option Nat := none        -- R164; kind 0x05 sample of the alternate reference pan for it
  ext : Track := {}                -- R508; epoch extremes
  host : Track := {}               -- R161; host tracking set
  mgmt : Track := {}               -- R161; management tracking set
  wxFast : Bool := false           -- R509 RWX [0] FAST
  wxSlowV : Bool := false          -- R509 RWX [1] SLOWV
  wxSlowI : Bool := false          -- R509 RWX [2] SLOWI
  idFast : NodeId := 0             -- R509 RWXF [15:0] FASTID
  atFast : Nat := 0                -- R159; CKS cycle of the exit recorded for FAST
  idSlowV : NodeId := 0            -- R509 RWXF [31:16] SLOWVID
  atSlowV : Nat := 0               -- R159; CKS cycle of the exit recorded for SLOWV
  idSlowI : NodeId := 0            -- R509 RWXI [15:0] SLOWIID
  atSlowI : Nat := 0               -- R159; CKS cycle of the exit recorded for SLOWI
  exFast : Nat := 0                -- R508; fast exits in the epoch, saturating 16 bits
  exSlowV : Nat := 0               -- R508; slow voltage exits, saturating 8 bits
  exSlowI : Nat := 0               -- R508; slow current exits, saturating 8 bits
  enFast : Nat := 0                -- R508; fast exits of the epoch that ended
  enSlowV : Nat := 0               -- R508; slow voltage exits of it
  enSlowI : Nat := 0               -- R508; slow current exits of it
  deriving DecidableEq, Repr

/-- The 1 ms figures the management core keeps of a region (R244, R297, R245). -/
structure UseDyn where
  sumE : Nat := 0                  -- R244; visible-energy sum of the running window, fine units of RE
  wInc : Bool := false             -- R244; the running window is not valid
  usage : Nat := 0                 -- R297; 1 ms mean usage of the last window, grains
  demand : Nat := 0                -- R297, R300; demand of the last recomputation, grains
  mboxAt : Nat := 0                -- R244; mailbox running sum at the window's start
  valid : Nat := 0                 -- R245; valid windows since BOOT, to 64
  onWin : Nat := 0                 -- R326; usage in the window before the shim onset, grains
  deriving DecidableEq, Repr

/-- Thermal and margin state of a region (R368 to R392). -/
structure ThDyn where
  td : Int := 0                    -- R368; last accepted out0 td, 1/64 C
  slope : Int := 0                 -- R368; its slope, 1/64 C per ms
  anchored : Bool := false         -- R368; an out0 value has been accepted
  out0At : Nat := 0                -- R369; tick of the last out0
  hostMax : Option Int := none     -- R392 RTHX TMAX; none is 0x8000
  hostMin : Option Int := none     -- R392 RTHX TMIN
  coreMax : Option Int := none     -- R371; management core's set, highest td
  coreMin : Option Int := none     -- R371; lowest td
  tdio : BitVec 16 := 0x8000       -- R392 RDIO [15:0] TDIO
  dseq : BitVec 8 := 0             -- R392 RDIO [23:16] SEQ
  dfail : Bool := false            -- R392 RDIO [24] FAILED
  stale : Bool := false            -- R392 RTHV [3] THSTALE
  lowconf : Bool := false          -- R392 RTHV [4] LOWCONF
  sigBit : Bool := false           -- R370; out1 bit 24 as last seen, for its rise
  staleQ : Nat := 0                -- R369; tick of the last THSTALE reading request
  gbmin : Nat := 50                -- R392 RTHV [15:8] GBMIN
  lslack : BitVec 16 := 0x7FFF     -- R392 RMRG LSLACK
  b5At : Nat := 0                  -- R380; tick from which the 10 ms in B5 count
  lowAt : Option Nat := none       -- R380; tick from which the region has stood in B3 or lower
  trimAt : Nat := 0                -- R390; tick of the last applied request
  trimmed : Bool := false          -- R390; a request has been applied since BOOT
  mmreq : Bool := false            -- R477; RGN_MMREQ
  mmsel : Nat := 0                 -- R477; RGN_MMSEL
  mmAt : Nat := 0                  -- R388; tick of the rise of RGN_MMREQ
  mmVals : List (BitVec 12) := []  -- R389; monitors answered in the read in hand
  retries : Nat := 0               -- R451; failed attempts of the forced reading
  forcedDone : Bool := false       -- R449; step 7's forced reading has completed
  deriving DecidableEq, Repr

/-- Everything the hub keeps of a region beside committed state. -/
structure Region where
  seq : SeqDyn := {}               -- R275; sequencer
  model : Int := 0                 -- R255; model of the instantaneous set-point, code
  modelAt : Nat := 0               -- R254; tick from which its steps count
  modelAtSet : Nat := 0            -- R275, R276; tick at which the model reached SETPT
  atSet : Bool := true             -- R255; the model equals SETPT
  krf : KerfDyn := {}              -- R306; kerf and shim
  tel : TelDyn := {}               -- R163; telemetry
  use : UseDyn := {}               -- R297; 1 ms figures
  th : ThDyn := {}                 -- R368; thermal and margin
  overcap : Nat := 0               -- R407; consecutive over-capacity epochs
  lastOver : Bool := false         -- R408 RFLT [24] OVERCAP
  clamped : Tbl Bool := []         -- R253; loop bindings whose last value was clamped or dropped, key 4 * loop + binding
  deriving DecidableEq, Repr

end Sys2Proof.Machine
end

