-- ==== Sys2Proof/Machine/StHub.lean ====
section
/-! DEFINITION. Staging, glue-up and snapshots (spec/01_architecture.md, spec/09_setpoints_glueup.md,
spec/05_telemetry.md), budget figures (spec/11_budget_kerf.md), shim sequence and ledger
(spec/12_hints_shim_ledger.md), the tide logic (spec/13_tide.md) and the fault machinery (spec/15_faults_spares.md). -/

namespace Sys2Proof.Machine

/-- Completion statuses (R259), with their codes in order. -/
inductive Status where
  | pending | done | superseded | overruled | denied | failed | loopClosed | clamped | committed
  deriving DecidableEq, Repr

/-- Sources of writes (R260, R265). -/
inductive WSrc where
  | host | accel | decoder | firmware | guard_
  deriving DecidableEq, Repr

/-- Writes to committed state as they stand in staging (R16, R258, R275, R319, R350, R376, R390, R398). -/
inductive CW where
  | reg (off sel : Nat) (v : Word) (aux : Nat)
  | order (r slot : Nat) (o : Order)
  | phase (r : Nat) (p : HPhase)
  | context (r c : Nat)
  | nodeMode (n : Nat) (h : Hdr) (v : Word)
  | nodeStage (n : Nat) (h : Hdr) (sel : Byte) (v : Word)
  | band (r b : Nat)
  | guardband (r g : Nat)
  | phcmd (n : Nat) (v : Nat)
  | holding (t : Option Nat)
  | trayCeil (g : Nat)
  | faultOrder (r : Nat)
  | capCeil (r g : Nat)
  | vret (on : Bool)
  | recompute
  deriving DecidableEq, Repr

/-- A staged write (R20, R21, R260 to R262). -/
structure SWrite where
  cw : CW                          -- what is written
  src : WSrc                       -- R260; source
  ticket : Option Nat := none      -- R258; ticket of a host write
  tag : Option Byte := none        -- R283; tag of an accelerator REQUEST
  grp : Nat := 0                   -- R262; bundle 1 to 255, a derived set above 255, 0 alone
  defer : Nat := 0                 -- R21; consecutive deferrals
  role : Nat := 0                  -- R411; rank of the role of a host write
  deriving DecidableEq, Repr

/-- A completion record (R258, R259, R501). -/
structure CRec where
  status : Status := .pending      -- R501 CRSTAT [3:0]
  known : Bool := false            -- R501 CRSTAT [4]
  bundled : Bool := false          -- R501 CRSTAT [5]
  held : Bool := false             -- R501 CRSTAT [6]
  bundle : Nat := 0                -- R501 CRSTAT [15:8]
  gen : Word := 0                  -- R501 CRGEN
  deriving DecidableEq, Repr

/-- A committed voltage command still slewing (R255). -/
structure VCmd where
  ticket : Option Nat              -- R258; its ticket
  targets : List ModelRef          -- R255; models that have not reached their set-point
  deriving DecidableEq, Repr

/-- Answer awaited from a hub child port for the set in hand (R59, R62). -/
structure PortExp where
  count : Nat := 0                 -- R62; matched ENDs expected through the port
  used : Bool := false             -- R62; the port carries part of the set
  ok : Option Bool := none         -- R61; the ACK received
  got : Nat := 0                   -- R61; count in it
  failing : NodeId := 0            -- R61; failing node named in it
  deriving DecidableEq, Repr

/-- The set in hand between staging close and boundary (R20, R60 to R63). -/
structure SetInHand where
  active : Bool := false           -- R20; a set is in hand
  writes : List SWrite := []       -- R21; its writes
  next : Committed := {}           -- R263; the committed state it composes
  ports : Tbl PortExp := []        -- R62; per hub child port
  verdict : Option Bool := none    -- R63; verdict sent
  gen : Word := 0                  -- R22; the generation it will produce
  starts : List CW := []           -- R275; MODE writes of the region starts that the set carries
  resync : List Nat := []          -- R64; nodes whose resynchronisation part goes with it
  deriving DecidableEq, Repr

/-- Staging and glue-up in the hub (R16 to R24, R258 to R264). -/
structure Staging where
  queue : List SWrite := []        -- R261; staged writes, oldest first; reset empty
  closed : Bool := false           -- R20; staging for the coming boundary has closed
  tag : BitVec 3 := 0              -- R43; epoch tag of the coming boundary
  hand : SetInHand := {}           -- R20; set in hand
  derived : Nat := 256             -- R29; next derived-set number
  vcmds : List VCmd := []          -- R255; committed voltage commands that still slew
  records : Tbl CRec := []         -- R258; completion records by ticket
  tkNext : BitVec 16 := 0          -- R438 TKNEXT; reset 0
  bundles : Tbl (List Nat) := []   -- R262; open bundles by number: their members' tickets, oldest first
  closing : List (List Nat) := []  -- R502; closed bundles with members still in the host write queue: their tickets
  heldW : List SWrite := []        -- R262; members that have passed the firmware's checks and wait for their bundle
  onsDue : List Nat := []          -- R275, R286; regions whose pan MODE on awaits the next open staging
  offsDue : List Nat := []         -- R275; regions whose pan MODE off awaits the next open staging
  deriving DecidableEq, Repr

/-- A snapshot slot (R166 to R169). -/
structure Snap where
  st : Nat := 0                    -- R507 SNPSTATn; 0 EMPTY, 1 PENDING, 2 READY
  filling : Bool := false          -- R166; latched at a boundary and being filled
  again : Bool := false            -- R166, R168; a request that came while filling
  againAt : Nat := 0               -- R168; tick from which the slot is PENDING for it
  late : Bool := false             -- R166; a request on the boundary's own CKS cycle: it counts as after the boundary
  got : Bool := false              -- R169; the roll-up of the latch boundary has been taken
  rst : Bool := false              -- R168; tracker-reset flag of the pending request
  rstDone : Bool := false          -- R508; tracker reset applied
  seq : Word := 0                  -- R507 SNPSEQn
  com : Committed := {}            -- R169; committed state of the boundary
  epoch : BitVec 64 := 0           -- R169; epoch number
  telGen : Word := 0               -- R169; telemetry generation
  words : Tbl Word := []           -- R508; words of the registers marked Y, by offset / 4
  tel : Tbl TelDyn := []           -- R508; region telemetry
  energies : Tbl (BitVec 64) := [] -- R508; rail energies 0 to 4, converter energies 5 to 7
  vib : Track := {}                -- R508; VIB epoch extremes
  vibHost : Track := {}            -- R508; VIB host tracking set
  views : Tbl (List Word) := []    -- R508; region block words that are not in committed state, by region
  deriving DecidableEq, Repr

/-- Die-wide telemetry (R161 to R166). -/
structure DieTel where
  epoch : BitVec 64 := 0           -- R163; epoch number of the last closed roll-up
  gen : Word := 0                  -- R169; generation in force during that epoch
  closed : Bool := false           -- R65; the roll-up of the epoch that ended has closed
  genWas : Word := 0               -- R23, R169; generation in force during the epoch that ended, until its roll-up closes
  winV : Tbl Nat := []             -- R480; sums of the rails' epoch mean voltages in the running 1 ms window, voltage codes
  winI : Tbl Nat := []             -- R480; sums of the rails' epoch mean currents in it, 0.1 A
  winVin : Nat := 0                -- R480; sum of the epoch means of PSG_VINS in it, mV
  winE : Tbl (BitVec 96) := []     -- R292, R480; converter energy at the window's start, fine units
  railFine : Tbl (BitVec 96) := [] -- R163; rail energy, fine units, VCORE 0 to VMIO 4
  convFine : Tbl (BitVec 96) := [] -- R165; converter energy, VIB, VQA, VQC
  rollups : Nat := 0               -- R244; roll-ups closed in the running 1 ms window, 0 to 124
  vibExt : Track := {}             -- R161; VIB extremes of the running epoch
  vibHost : Track := {}            -- R161; VIB host tracking set
  vibMgmt : Track := {}            -- R161; VIB management set
  snaps : Tbl Snap := []           -- R166; host slots 0 to 3, management slot 4
  deriving DecidableEq, Repr

/-- Budget figures of the management core and BUDCOND (R292 to R312). -/
structure Budget where
  rsvWin : List Nat := []          -- R296; last 8 window means of VRET and VQC power, grains, newest first
  vqa : Nat := 0                   -- R295; VQA mean power of the last window, grains
  vqc : Nat := 0                   -- R295; VQC mean power of the last window
  eta : Nat := 3481                -- R292; eta of the last window, Q0.12 (0.85 until the first window closes)
  deliv : Nat := 0                 -- R291; delivered power of the last 1 ms window, grains
  capshort : Bool := false         -- R312 BUDCOND [0]
  staleest : Bool := false         -- R312 BUDCOND [2]
  conserv : Bool := true           -- R312 BUDCOND [3]; reset 1
  shortmin : Bool := false         -- R312 BUDCOND [4]
  overWin : Nat := 0               -- R311; consecutive windows more than 1/32 over the cap
  clearAt : Nat := 0               -- R311; tick of the last moment at which a case held
  deriving DecidableEq, Repr

/-- The die shim sequence (R324, R325). -/
structure ShimSeq where
  st : Nat := 0                    -- R330 SHIMVIEW [1:0]; 0 IDLE, 1 HOLD, 2 TAPER
  iref : Nat := 0                  -- R330 SHIMFLR [15:0] REF, 0.1 A
  f : Nat := 0                     -- R330 SHIMFLR [31:16] FNOW; F in force, held in 0.01 A, shown in 0.1 A
  onset : Nat := 0                 -- R324; tick of the die's own onset
  tref : Nat := 0                  -- R325; t_ref, tick
  peers : List Nat := []           -- R325; receipt ticks of peer onset messages
  noneAt : Option Nat := none      -- R325; tick from which no window has been open
  updAt : Nat := 0                 -- R325, R326; tick of the last 100 us update
  deriving DecidableEq, Repr

/-- A ledger entry (R331). -/
structure LedEnt where
  energy : BitVec 64 := 0          -- R331; ENERGY, uJ
  active : Word := 0               -- R331; ACTIVE
  kerfed : Word := 0               -- R331; KERFED
  deriving DecidableEq, Repr

/-- A cached ledger entry (R334). -/
structure LedLine where
  ctx : Nat                        -- R334; context
  ent : LedEnt := {}               -- R334; value
  dirty : Bool := false            -- R335; differs from the window
  failed : Bool := false           -- R335; a write-back failed: dirty and pinned
  changed : Nat := 0               -- R335; epoch of its first change since the last write-back
  used : Nat := 0                  -- R334; epoch at which it was last charged
  ready : Bool := true             -- R334; its value has been fetched; until then the line holds what was charged since
  wb : Option LedEnt := none       -- R335; value of the write-back in hand
  deriving DecidableEq, Repr

/-- The energy ledger (R331 to R339). -/
structure Ledger where
  st : Nat := 0                    -- R339 LEDSTAT [1:0]; 0 disabled, 1 clearing, 2 enabled, 3 flushing
  fault : Bool := false            -- R339 LEDSTAT [2] LEDFAULT
  faultAt : Nat := 0               -- R335; tick of the last failed write
  stall : Bool := false            -- R339 LEDSTAT [3] LEDSTALL
  mis : Word := 0                  -- R339 LEDMIS
  total : BitVec 64 := 0           -- R339 LEDTOTAL
  cache : List LedLine := []       -- R334; cached entries, at most 4,096
  mem : Tbl LedEnt := []           -- R331; the installer's window as the hub has written it, by context
  clearPtr : Nat := 0              -- R336; clear pointer
  qst : Nat := 0                   -- R339 LQSTAT [1:0]; 0 empty, 1 pending, 2 ready
  qcount : Nat := 0                -- R339 LQREQ COUNT of the query in hand
  qArmed : Bool := false           -- R337; a roll-up has closed since the request: the results are held
  eLed : Bool := false             -- R336; the ledger was enabled during the epoch that ended last
  qctx : Tbl Nat := []             -- R339 LQCTXn
  qnames : List Nat := []          -- R337; contexts named when the query was filled
  qseq : Word := 0                 -- R339 LQSEQ
  qepoch : BitVec 64 := 0          -- R339 LQEPOCH
  qgen : Word := 0                 -- R339 LQGEN
  qtotal : BitVec 64 := 0          -- R339 LQTOTAL
  qres : Tbl LedEnt := []          -- R339 LQRESn
  deriving DecidableEq, Repr

/-- Tide states (R344), codes of TSTAT.STATE in order. -/
inductive TideSt where
  | out | member | frozen | settled | expelled
  deriving DecidableEq, Repr

/-- What the tide logic keeps of one peer (R347, R352 to R357, R364). -/
structure TPeer where
  inc : Nat := 0                   -- R364 TPINC; 0 unknown
  live : Bool := false             -- R364 TPID [25:24]; live
  dead : Bool := false             -- R364 TPID [25:24]; dead
  tx : Nat := 0                    -- R364 TPTX
  rx : Nat := 0                    -- R364 TPRX
  base : Nat := 1                  -- R352; window base
  mask : BitVec 64 := 0            -- R352; window mask
  nextSeq : Nat := 1               -- R351; next sequence number
  lastAt : Nat := 0                -- R355; tick of the last valid frame of the current incarnation
  advAt : Option Nat := none       -- R347; tick of its latest ADVERT
  urg : Int := 0                   -- R347; urgency advertised
  offer : Nat := 0                 -- R347; offer advertised
  want : Nat := 0                  -- R347; want advertised
  hold : Nat := 0                  -- R347; holding advertised
  flags : Byte := 0                -- R361; FLAGS advertised
  expAt : Option Nat := none       -- R357; tick of the last EXPELLED sent to it
  deriving DecidableEq, Repr

/-- An escrow entry (R351, R353). -/
structure Escrow where
  peer : Nat                       -- R351; peer entry index
  inc : Nat                        -- R351; peer incarnation
  seq : Nat                        -- R351; sequence number
  grains : Nat                     -- R351; grains
  superseded : Bool := false       -- R353; OUT or SUPERSEDED
  sentAt : Nat := 0                -- R353; tick of the last sending
  deriving DecidableEq, Repr

/-- A transfer planned and not yet debited (R347, R350). -/
structure Plan where
  peer : Nat                       -- R347; peer entry index
  grains : Nat                     -- R347; grains
  deriving DecidableEq, Repr

/-- The tide logic (R341 to R364). -/
structure Tide where
  st : TideSt := .out              -- R364 TSTAT [2:0]
  texpel : Bool := false           -- R364 TSTAT [3] TEXPEL
  staleFig : Bool := false         -- R364 TSTAT [4] STALEFIG
  inc : Nat := 0                   -- R364 TINC; from the store at BOOT
  h : Nat := 0                     -- R364 THOLD
  u : Int := 0                     -- R364 TFIG [15:0]
  offer : Nat := 0                 -- R364 TFIG [31:16]
  want : Nat := 0                  -- R364 TFIG2 [15:0]
  dropped : Nat := 0               -- R364 TDROP
  disc : Word := 0                 -- R364 TDISC
  relsum : Nat := 0                -- R364 TRELSUM
  peers : Tbl TPeer := []          -- R364; by peer entry 0 to 31
  escrow : List Escrow := []       -- R348; at most 128 entries, oldest first
  plans : List Plan := []          -- R350; planned transfers of the write in hand
  planned : Bool := false          -- R350; the lowered T of the plans is staged
  raised : Bool := false           -- R350; a raised T is due for staging
  winAt : Nat := 0                 -- R347; tick at which the present window began
  figAt : Nat := 0                 -- R349; tick at which the management core last refreshed the figures
  expelNext : Bool := false        -- R344; the next glue-up commits holding 0
  deriving DecidableEq, Repr

/-- What the hub keeps of one node (R396 to R404). -/
structure NodeFault where
  rcause : Nat := 0                -- R396 NODEVIEW [19:16] RCAUSE
  returns : Nat := 0               -- R396 NODEVIEW [21:20] RETURNS
  stflt : Bool := false            -- R396 NODEVIEW [7] STFLT as the hub knows it
  highAt : Nat := 0                -- R400; tick from which PAN_FLT_N has been high
  contact : Bool := false          -- R396 NODEVIEW [8] CONTACT
  local_ : Bool := false           -- R396 NODEVIEW [9] LOCAL
  adcLost : Nat := 0               -- R396 NODEVIEW [11:10] ADCLOST
  ooc : Bool := false              -- R396 NODEVIEW [13] OOC
  spath : Bool := false            -- R396 NODEVIEW [14] SPATH
  base : Bool := false             -- R396 NODEVIEW [15] BASE
  rb : Nat := 0                    -- R402; baseline resistance reported
  lost : Bool := false             -- R398, R404; counted lost
  missing : Bool := false          -- R52; described but missing
  st : PanSt := .off               -- R396 NODEVIEW [6:4]; state that the hub last knew the pan to enter
  stAt : Nat := 0                  -- R105, R396; tick of that entry
  outAt : Option Nat := none       -- R105; tick at which a committed MODE off began its ramp-out
  was : PanSt := .off              -- R105; state before HOLD
  wasFor : Nat := 0                -- R106; ticks spent in it before HOLD
  admitted : Bool := false         -- R108; a spare's MODE on addressed to it has been committed
  carry : Bool := false            -- R103, R396 NODEVIEW [12]; a sibling's report has had its pond set CARRYAUTO
  returning : Nat := 0             -- R288; 1 MODE off staged, 2 MODE on staged
  keepOn : Bool := false           -- R289, R401; a spare's MODE on kept for the region's next start
  onPath : Nat := 0                -- R69; adoption port at the hub, when adopted there
  deriving DecidableEq, Repr

/-- The fault machinery of the management core and the tallies (R395 to R416). -/
structure Faults where
  nodes : Tbl NodeFault := []      -- R396; by node key
  losses : List (Nat × Nat) := []  -- R398; lost pans of the open collection with their retire cause
  windowAt : Option Nat := none    -- R398; tick at which the present 32 us collection began
  prev : BitVec 18 := 0            -- R395; FLTSUM as last evaluated, for the rise of a bit
  sluAt : Option Nat := none       -- R395 FLTSUM [8]; tick of the last sluice fault, until its 1 ms ends
  talFault : Bool := false         -- R416 TALSTAT [2] TALFAULT
  talFresh : Bool := false         -- R416 TALSTAT [1] TALFRESH
  talReady : Bool := false         -- R416 TALSTAT [0] READY
  talVal : BitVec 64 := 0          -- R416 TALDAT
  talEp : BitVec 64 := 0           -- R416 TALEP
  talGen : Word := 0               -- R416 TALGEN
  tally : Tbl Nat := []            -- R413; increments since the last harvest, key of `tallyKey`
  taken : Tbl Nat := []            -- R415; increments taken by the harvest in hand
  totals : Tbl Nat := []           -- R415; totals loaded or last written
  hseq : Word := 0                 -- R416 TALSTAT [31:16]; harvest sequence
  harvesting : Bool := false       -- R415; a harvest write is in hand
  harvestAt : BitVec 64 := 0       -- R415; epoch of the last harvest or of BOOT
  excUsed : Tbl Nat := []          -- R69; exception entries that the hub has had written, by node key
  adopted : List Nat := []         -- R69, R70; roots of adopted subtrees, by node key
  disabledPorts : List Nat := []   -- R52, R71; hub ports (node key * 32 + port) disabled
  deriving DecidableEq, Repr

end Sys2Proof.Machine
end

