-- ==== Sys2Proof/Machine/StHost.lean ====
section
/-! DEFINITION. The host window, the management core and the store (spec/16_firmware_host.md, spec/17_startup.md,
spec/19_register_map.md), and the ports (spec/18_ports_clocks.md). -/

namespace Sys2Proof.Machine

/-- Block states (R461), with the codes of BSTATE (R438). -/
inductive BState where
  | off | guard_ | boot | standby | run | unattended | stopping | halted
  deriving DecidableEq, Repr

/-- Roles (R4). -/
inductive Role where
  | operator | installer | maker
  deriving DecidableEq, Repr

/-- A write waiting in the host write queue (R426): its offset, its selector value at arrival (R499), its data, the
holding shift of COEFSH, the role in force, its ticket and bundle. -/
structure HWrite where
  off : Nat
  sel : Nat
  v : Word
  aux : Nat := 0
  role : Role
  ticket : Option Nat := none
  bundle : Nat := 0
  deriving DecidableEq, Repr

/-- One entry of the log ring (R439). -/
structure LogEnt where
  seq : Word := 0                  -- R439; 0 is never used
  code : BitVec 16 := 0            -- R439 CODE
  level : Byte := 0                -- R439 LEVEL
  narg : Byte := 0                 -- R439 NARG
  arg0 : Word := 0                 -- R439 ARG0
  arg1 : Word := 0                 -- R439 ARG1
  deriving DecidableEq, Repr

/-- The host window's own registers (R424 to R445, R497 to R509). -/
structure HostWin where
  bstate : BState := .off          -- R438 BSTATE; reset 0
  hibeat : Nat := 0                -- R432; tick of the last heartbeat or attach
  atState : Nat := 0               -- R438 ATSTAT [1:0]
  atRefuse : Nat := 0              -- R438 ATSTAT [15:8]
  attachV : Word := 0              -- R440; value of the last ATTACH write
  sminor : Nat := 0                -- R438 ATSTAT [23:16]
  attaches : BitVec 8 := 0         -- R438 ATSTAT [31:24]
  intcause : BitVec 9 := 0         -- R429 INTCAUSE
  inten : BitVec 9 := 0            -- R429 INTEN
  role : Option Role := none       -- R425; session register, none 3
  sesState : Nat := 0              -- R438 SESSTAT [5:2]
  sesFails : Nat := 0              -- R438 SESSTAT [15:8]
  sesNum : Word := 0               -- R438 SESCNUM; 0 after reset
  sesReq : Role := .installer      -- R435; role requested by the challenge outstanding
  challenge : Tbl Word := []       -- R438 SESCHAL
  outstanding : Bool := false      -- R435; a challenge is outstanding
  resp : Tbl Word := []            -- R438 SESRESP
  lockAt : Nat := 0                -- R436; tick at which the lockout began
  lastWrite : Nat := 0             -- R436; tick of the last host write of any kind
  instkey : Tbl Word := []         -- R438 INSTKEY
  queue : List HWrite := []        -- R426; host write queue, oldest first
  last : Status := .pending        -- R501 HWSTAT [3:0]; reset 0
  lastTkt : Bool := false          -- R501 HWSTAT [4] TICKETED
  lastEmu : Option Nat := none     -- R501; the most recent write is emulated, without a ticket, and waits in the queue: its offset
  wrbnd : Nat := 0                 -- R501 WRBND [7:0]
  crsel : BitVec 16 := 0           -- R501 CRSEL
  regsel : Nat := 0                -- R500 REGSEL
  nodesel : Nat := 0               -- R396 NODESEL
  talsel : Word := 0               -- R416 TALSEL
  tpsel : Nat := 0                 -- R364 TPSEL
  logsel : Word := 0               -- R441 LOGSEL
  trcsel : Nat := 0                -- R444 TRCSEL
  loopsel : Nat := 0               -- R505 LOOPSEL
  coefsel : Nat := 0               -- R505 COEFSEL
  coefsh : Nat := 0                -- R505 COEFSH
  snpsel : Word := 0               -- R507 SNPSEL
  latch : Word := 0                -- R9; high word latched by the most recent low-word read
  rdData : Word := 0               -- R471; data of the last read (HST_TRD)
  imgState : Nat := 0              -- R506 IMGSTAT [2:0]
  imgReason : Nat := 0             -- R506 IMGSTAT [15:8]
  imgWords : BitVec 16 := 0        -- R506 IMGSTAT [31:16]
  imgOff : Nat := 0                -- R506 IMGOFF
  imgEnd : Nat := 0                -- R506; end of what the load has received, bytes
  imgTarget : Nat := 0             -- R506 IMGCTL TARGET of the load
  loglvl : Nat := 3                -- R441 LOGCTL; reset 3
  deriving DecidableEq, Repr

/-- The firmware's log ring and trace buffer (R439 to R444). -/
structure LogTrace where
  ring : Tbl LogEnt := []          -- R439; entry s at place s modulo 512
  head : Word := 0                 -- R441 LOGHEAD
  mask : Tbl Word := []            -- R444 TRCMASK
  en : Bool := false               -- R444 TRCCTL [0]
  stop : Bool := false             -- R444 TRCCTL [1]
  buf : List (BitVec 64) := []     -- R442; records, oldest first, at most 2,048
  wrapped : Bool := false          -- R442; the next record is the first after the buffer wrapped
  recSeq : BitVec 16 := 0          -- R442; next record sequence number
  deriving DecidableEq, Repr

/-- A firmware slot of the store (R419). -/
structure FwSlot where
  present : Bool := false          -- R419
  signer : Option (List Byte) := none -- R419; SHA-384 hash of the key with which its signature verifies
  version : Nat := 0               -- R419; version
  security : Nat := 0              -- R419; 16-bit security version
  length : Nat := 0                -- R506; its length, bytes
  words : Tbl Word := []           -- R506; words received
  deriving DecidableEq, Repr, Inhabited

/-- Persistent store and fuses (R447, R493). -/
structure Store where
  fw0 : FwSlot := {}               -- R493; firmware slot 0
  fw1 : FwSlot := {}               -- R493; firmware slot 1
  fwActive : Nat := 0              -- R493; active firmware slot
  fwPending : Option Nat := none   -- R419; slot marked pending
  jig0 : Image := {}               -- R493; jig image area 0
  jig1 : Image := {}               -- R493; jig image area 1
  jigActive : Nat := 0             -- R450; active area
  jigPending : Option Nat := none  -- R450; area marked pending
  jigFallback : Option Nat := none -- R450; area kept as the fallback
  words : Tbl Word := []           -- R506; words received into the area being loaded, by offset / 4
  factory : Tbl (List Word) := []  -- R447; factory coefficients A, B, C and I of each pan
  factoryOk : Bool := false        -- R447; the record is valid
  inst : Tbl (Option Word) := []   -- R448; installer record: value of each register it holds, by offset (per region, peer: offset + 65,536 * (index + 1))
  instOk : Bool := false           -- R447; the installer record is valid
  therm : Tbl CoefWord := []       -- R447; thermal calibration record: installer coefficients
  thermOk : Bool := false          -- R447; valid
  thermCfg : Nat := 0              -- R447; CONFTHR and TINLET of the record
  tallyA : Tbl Nat := []           -- R414; totals of record A
  tallyB : Tbl Nat := []           -- R414; totals of record B
  seqA : Word := 0                 -- R414; harvest sequence of A
  seqB : Word := 0                 -- R414; harvest sequence of B
  okA : Bool := false              -- R414; record A passes CRC and version
  okB : Bool := false              -- R414; record B passes
  incarnation : Nat := 0           -- R343; incarnation number
  instKey : Option (List Byte) := none -- R437; installer key, 32 bytes
  makerKey : Option (List Byte) := none -- R435; maker session key: x and y of the P-384 point, 96 bytes
  serial : BitVec 64 := 0          -- R438 DIESER; fuses
  fuseSec : Nat := 0               -- R419; fuse counter
  keyHashes : List (List Byte) := [] -- R435; SHA-384 key hashes in fuses
  dbgClosed : Bool := false        -- R494; the fuse that closes write instruments
  deriving DecidableEq, Repr, Inhabited

/-- Steps of a stop in progress (R382, R386, R459). -/
inductive StopKind where
  | none | thermal | pdown | warm | engine | coolant
  deriving DecidableEq, Repr

/-- Management core, boot, stops and halt latch (R418 to R423, R446 to R463, R381 to R387). -/
structure Sys where
  vaon : Bool := false             -- R446; VAON present (reset: see log)
  porstN : Bool := false           -- R460; PORST_N high
  ckeLost : Bool := false          -- R467; CKE absent, the block put into OFF by the guard
  coreRun : Bool := false          -- R418; the core runs (fetches instructions)
  ready : Bool := false            -- R422; firmware ready
  restart : Bool := false          -- R438 WDSTAT [8] RESTART
  mcheld : Bool := false           -- R438 WDSTAT [9] MCHELD
  expiries : Nat := 0              -- R438 WDSTAT [7:0], saturating 255
  expAt : List Nat := []           -- R423; ticks of the expiries in the last 600 s, newest first
  kickHalf : Bool := false         -- R421; 0x5A has been written
  kickAt : Nat := 0                -- R421; tick of the last kick
  coreAt : Nat := 0                -- R422; tick at which the present hold or start began
  fwSlot : Nat := 0                -- R419; slot running
  fwTried : Nat := 0               -- R419; slots tried since reset
  refuse : Nat := 0                -- R463 BOOTSTAT [7:0] REFUSE
  step : Nat := 0                  -- R463 BOOTSTAT [11:8] STEP
  nocfg : Bool := false            -- R463 BOOTSTAT [16] NOCFG
  calmiss : Bool := false          -- R463 BOOTSTAT [17] CALMISS
  fwfall : Bool := false           -- R463 BOOTSTAT [18] FWFALL
  jigfall : Bool := false          -- R463 BOOTSTAT [19] JIGFALL
  keepfail : Bool := false         -- R463 BOOTSTAT [20] KEEPFAIL
  cfgpart : Bool := false          -- R463 BOOTSTAT [21] CFGPART
  hkind : Nat := 0                 -- R463 HALTSTAT [3:0] HKIND; VAON-held latch, 0 when VAON rises
  vinwait : Bool := false          -- R463 HALTSTAT [4] VINWAIT
  cfgResult : Nat := 0             -- R463 CFGSTAT [1:0]
  cfgSaving : Bool := false        -- R448; a save is in hand
  nocfgRun : Bool := false         -- R454; RESTART in STANDBY with NOCFG is running steps 8 to 11
  jigTried : Bool := false         -- R450; the pending image has been tried in this BOOT
  stop : StopKind := .none         -- R382, R386, R459; stop in progress
  stopStep : Nat := 0              -- R382; last step completed
  stopAt : Nat := 0                -- R382; tick of its beginning
  drainDone : Bool := false        -- R382; TDRAIN has passed
  shLatched : Bool := false        -- R392 SHUTIND [0]
  shKind : Nat := 0                -- R392 SHUTIND [2:1]
  shCause : BitVec 4 := 0          -- R392 SHUTIND [7:4]
  shFirst : Nat := 0               -- R392 SHUTIND [17:8]
  engStopAt : Option Nat := none   -- R34; tick at which the engine-loss condition began
  enumAt : List (Nat × Nat) := []  -- R51; enumeration in hand: node and port being probed, the innermost first
  enumNext : Nat := 1              -- R50, R51; next free node ID
  enumAdopt : List (Nat × Nat) := [] -- R51; adoption ports still to be probed, the one in hand first
  probeAt : Nat := 0               -- R51; tick at which the PROBE in hand was sent
  timeEp : Nat := 0                -- R53; epoch at which the hub last sent TIME packets to every node
  fence : Nat := 0                 -- R282; next FENCE tag
  diodeQ : List Nat := []          -- R373; regions queued or being read, oldest first, at most 1,024
  image : Image := {}              -- R449; the running jig image
  deriving DecidableEq, Repr

/-- A hint source at HNT (R317, R321, R322, R472 to R474). -/
structure HintSrc where
  attached : Bool := false         -- R472; HNT_RDY high
  ver : Nat := 0                   -- R474; settled version, 0 disabled
  first : Bool := true             -- R317; no word accepted since the attach
  lastSeq : BitVec 8 := 0          -- R317; SEQ of the last accepted word
  lastAt : Option Nat := none      -- R317; tick of the last word that passed the port check
  check : BitVec 8 := 0            -- R322 HNTDROP [7:0]
  rate : BitVec 8 := 0             -- R322 HNTDROP [15:8]
  scope_ : BitVec 8 := 0           -- R322 HNTDROP [23:16]
  other : BitVec 8 := 0            -- R322 HNTDROP [31:24]
  gap : BitVec 8 := 0              -- R322 HNTGAP [7:0]
  accept : BitVec 24 := 0          -- R322 HNTGAP [31:8]
  deriving DecidableEq, Repr

/-- A dovetail port (R485 to R490). -/
structure Dvt where
  up : Bool := false               -- R490 DVTSTATp [0] UP
  rate : Nat := 0                  -- R490 DVTSTATp [2:1] RATE
  feat : BitVec 4 := 0             -- R490 DVTSTATp [7:4] FEAT
  pslot : Nat := 0                 -- R490 DVTSTATp [11:8] PSLOT
  miswire : Bool := false          -- R490 DVTSTATp [12] MISWIRE
  crcErr : BitVec 16 := 0          -- R490 DVTSTATp [31:16] CRCERR
  training : Bool := false         -- R486; training under way
  trainAt : Nat := 0               -- R486; tick of the last training attempt
  lastAt : Nat := 0                -- R487; tick of the last valid frame
  tx : List (Nat × List Byte) := [] -- R487; frames sent on the port and not yet taken by the peer: TYPE and bytes from TYPE on
  deriving DecidableEq, Repr

/-- The ports (R465 to R494). -/
structure Ports where
  hint : Tbl HintSrc := []         -- R472; sources 0 to 15
  krf : Tbl (Nat × Nat) := []      -- R475; last kerf-lane word of each region: ratio and intensity, reset 60 and 0
  krfAt : Tbl Nat := []            -- R476; tick of the last word of each region
  fence : List Word := []          -- R476; outgoing fence messages, oldest first, at most 64
  rfc : Tbl Nat := []              -- R475; KRF_RFC[n], n = 0 to 7
  page : Nat := 0                  -- R480 PAGE
  cml : Bool := false              -- R480; CML bit
  pmbOut : Nat := 0                -- R480; data of the last PMBus read
  pmbSeen : BitVec 9 := 0x38       -- R480; status conditions of the pages as last evaluated: rails off at reset
  alertN : Bool := true            -- R480; PMB_ALERT_N
  pmbRate : Nat := 0               -- R504 PMBSTAT [1:0]
  avs : Bool := false              -- R504 PMBSTAT [2]
  avsErr : Bool := false           -- R504 PMBSTAT [3]
  avsV : Nat := 0                  -- R504 PMBVIEW [15:0], mV
  avsI : Nat := 0                  -- R504 PMBVIEW [31:16], 10 mA
  avsStep : Nat := 0               -- R481; next AVSBus read: 0 Voltage, 1 Current, 2 Status
  avsAt : Nat := 0                 -- R481; tick of the last poll
  meanVin : Nat := 12000           -- R480; PSG_VINS mean over the last closed 1 ms window, mV
  meanV : Tbl Nat := []            -- R480; sensed rail voltage means, mV
  meanI : Tbl Nat := []            -- R480; summed PSG_IMON means, 0.1 A
  energyW : Tbl Nat := []          -- R480; rail energy of the last window, uJ
  trayAddr : Option Nat := none    -- R483; dynamic address
  trayVer : Nat := 1               -- R484; settled tray version
  ibi : Bool := false              -- R483; an in-band interrupt is pending
  ibiSeen : BitVec 16 := 0         -- R483; BSTATE and SHUTIND as last reported
  inlet : Int := 0                 -- R484 INLET, 1/64 C
  inletAt : Option Nat := none     -- R392 TRYSTAT [1]; tick of the last INLET
  trayOut : Nat := 0               -- R484; data of the last tray read
  trayHeld : Option Nat := none    -- R484; TCEIL held until a glue-up can carry it
  flowN : Bool := true             -- R482; TRY_FLOW_N (pull-up: high without a tray)
  flowAt : Nat := 0                -- R386; tick of its last change
  dvt : Tbl Dvt := []              -- R485; ports 0 to 3
  slots : Tbl Nat := []            -- R487; die ID + 1 at each board slot
  peerDroop : Option Nat := none   -- R490 DVTDIE [0]; tick at which PEERDROOP ends
  dslot : Nat := 0                 -- R490 DVTDIE [4:1]
  alertAt : Option Nat := none     -- R488; tick of the die's own last alert
  seenAlert : Tbl Nat := []        -- R489; tick + 1 of the last forwarded alert of each origin
  seenOnset : Tbl Nat := []        -- R489; the same for onsets
  presAt : Nat := 0                -- R487; tick of the last presence sending
  fabUp : Bool := false            -- R491; FAB_UP
  fabTx : List (List Byte) := []   -- R491; outgoing frames, oldest first, at most 256
  ir : Nat := 1                    -- R494; TAP instruction: 0 BYPASS, 1 IDCODE, 2 SAMPLE/PRELOAD, 3 EXTEST, 4 private
  dbgOpen : Bool := false          -- R494; write instruments open
  dbgChal : Tbl Word := []         -- R494; challenge issued over DBG
  intOut : Bool := false           -- R429; HST_INT
  deriving DecidableEq, Repr

end Sys2Proof.Machine
end

