-- ==== Sys2Proof/Config.lean ====
section
/-! DEFINITION. The free values: what the spec leaves open, as constants without a body. Each is applied to the counter
`State.free` (which the step advances) and to the number of the quantity, so nothing can be proved of any value. -/

namespace Sys2Proof

/-- Word `k` of a challenge drawn from the hub's random source (R435, R494). -/
opaque Config.challenge : Nat → Nat → BitVec 32
/-- What a converter channel measured over the epoch that has ended: phase currents 0 to 39 in 0.1 A (signed), rail
voltages 64 to 66 in mV, and their extremes (R165, R223, R480). No command of the table carries these measurements. -/
opaque Config.measure : Nat → Nat → BitVec 16
/-- Duty of a period in voltage mode or of a quiet rail, from the compensator whose coefficients the spec does not give
(R87, R128). -/
opaque Config.compensator : Nat → Nat → BitVec 32
/-- The store as the words written into one of its areas, by offset / 4, leave it (R232, R447, R493): the spec gives what an area
holds and no byte layout of it. -/
opaque Config.storeArea : Nat → List (Nat × BitVec 32) → Machine.Store → Machine.Store
/-- The frequency-lock factor after an adjustment, before its bounds (R83, R117): the spec gives the bounds and the aim,
not the amount. -/
opaque Config.klock : Nat → Rat

end Sys2Proof
end

