-- ==== Sys2Proof/Machine/StConv.lean ====
section
/-! DEFINITION. The intermediate bus converter as the hub controls it (spec/04_bus_converter.md): phase slots, rails,
the loop outputs in force and the conditions. -/

namespace Sys2Proof.Machine

/-- Phase slot states (R129, R130). -/
inductive PhSt where
  | off | active | provisional | shed | wake | spare | admitting | faulted | retired
  deriving DecidableEq, Repr

/-- Rail states (R132). -/
inductive RailSt where
  | off | delay | ramp | reg | sdelay | sramp | fault
  deriving DecidableEq, Repr

/-- The three levels of PSG_PWM (R112). -/
inductive Pwm where
  | low | mid | high
  deriving DecidableEq, Repr

/-- A phase slot (R111, R112, R119 to R131). -/
structure Phase where
  st : PhSt := .off                -- R129; slot state
  s : Nat := 0                     -- R131; ramp factor while in ADMIT, 1/64
  at_ : Nat := 0                   -- R130; tick of entry to the state, or of the last ADMIT step
  en : Bool := false               -- R112; PSG_EN
  pwm : Pwm := .low                -- R112; PSG_PWM as last commanded; see `State.pwmOut`
  fltN : Bool := true              -- R112; PSG_FLT_N
  fltAt : Nat := 0                 -- R409; tick from which PSG_FLT_N has been high
  enSeen : Bool := false           -- R165; PSG_EN has been high in the running epoch
  enWas : Bool := false            -- R165; it was in the epoch that ended
  serves : Option Rail := none     -- R130; the quiet rail that an admitted privileged spare serves
  trim : Int := 0                  -- R120; trim in force, 1/4 % steps
  ton : Rat := 0                   -- R117, R128; last on-time, ns
  onAt : Rat := 0                  -- R117; start of the last on-time, ns
  offAt : Rat := -100              -- R117; end of the last on-time, ns
  place : Nat := 0                 -- R128; offset of a privileged phase's period from phase 0, CKA cycles
  pk : Nat := 0                    -- R119; consecutive switching periods ended by PKLIM
  pkHit : Bool := false            -- R119; PKLIM ended the on-time of the present period
  pkAt : Nat := 0                  -- R136; tick of the last PKLIM ending
  overload : Bool := false         -- R119; phase overload condition
  ends : Nat := 0                  -- R120; consecutive TRIM outputs at an end
  trimLim : Bool := false          -- R120; trim limit condition
  readmits : Nat := 0              -- R409; re-admissions since BOOT
  respDue : Bool := false          -- R409; the spare response to its fault is still to be staged
  deriving DecidableEq, Repr

/-- A converter rail (R132, R135). -/
structure RailDyn where
  st : RailSt := .off              -- R132; rail state
  at_ : Nat := 0                   -- R132; tick of entry to the state
  inst : Int := 0                  -- R115; instantaneous set-point, code above 0.300 V (VIB: above its base)
  off : Int := 0                   -- R115; instantaneous offset, mV
  offReq : Int := 0                -- R115; offset ordered by VIBOFF or QOFF
  setAt : Nat := 0                 -- R254; tick from which the set-point slew counts
  offAt : Nat := 0                 -- R115; tick from which the offset slew counts
  ref : Nat := 0                   -- R132, R133; reference at the start of the present ramp, mV
  v : Nat := 0                     -- R132; last sensed voltage, mV
  de : Bool := false               -- R126; diode emulation
  klock : Rat := 1                 -- R117; frequency lock factor
  ov : Bool := false               -- R135; overvoltage condition
  ovAt : Nat := 0                  -- R135; tick of its onset
  ovFrom : Option Nat := none      -- R135; tick from which the sensed voltage has lain more than 10 % above the target
  heldLow : Bool := false          -- R135; held low by the overvoltage action
  notGood : Bool := false          -- R132; rail not good condition
  tried : Bool := false            -- R452; restarted once in step 9
  watch : Bool := false            -- R132; the 2 ms watch after the reference reached the set-point runs
  div : Nat := 300                 -- R129; divider in force, taken from QFDIV at a period of phase 0
  perAt : Nat := 0                 -- R128; tick at which phase 0's present period began
  rampT : Nat := 10                -- R132; stop ramp in force, 0.1 ms
  model : Int := 0                 -- R255; hub model of the instantaneous set-point
  modelAt : Nat := 0               -- R254; tick from which the model's steps count
  deriving DecidableEq, Repr

/-- The converter (R111 to R138). -/
structure ConvDyn where
  phases : Tbl Phase := []         -- R111; slots 0 to 39
  vib : RailDyn := {}              -- R132; rail VIB
  vqa : RailDyn := {}              -- R132; rail VQA
  vqc : RailDyn := {}              -- R132; rail VQC
  ntarget : Nat := 32              -- R121; phase count target, last NTARGET output
  rot : Nat := 0                   -- R116; slot after the last one fired
  fires : Nat := 0                 -- R117; firings since the frequency lock last moved
  shedHold : Option Nat := none    -- R125; tick at which the shed hold-off ends
  lastShed : Option Nat := none    -- R121; tick at which the previous shed began
  vin : Nat := 12000               -- R134; last PSG_VINS, mV at the input
  vinLow : Bool := false           -- R134; VIN low condition
  vinGoodAt : Option Nat := none   -- R449; tick from which VIN has lain between warning and over levels
  vinBadAt : Option Nat := none    -- R134; tick from which VIN has lain beyond the under or over level
  inStop : Bool := false           -- R134; input stop condition
  engLoss : Bool := false          -- R137; loop outputs are lost
  lastOutAt : Nat := 0             -- R137; tick of the last converter loop output
  meanI : Tbl Int := []            -- R223; epoch mean PSG_IMON of each slot, 0.1 A
  meanV : Tbl Nat := []            -- R223; epoch mean sensed voltage of each rail, voltage code
  deriving DecidableEq, Repr

end Sys2Proof.Machine
end

