-- ==== Sys2Proof/Machine/State.lean ====
section
/-! DEFINITION. The state of the block, the reasons a step can stop, and the state right after reset. Everything is
plain data; the parts are in the files St*.lean, one group of the spec each. -/

namespace Sys2Proof.Machine

/-- Reasons to stop. No rule of the spec makes the block stop on a command, so no meaning raises one. -/
inductive Fault where
  /-- Raised by nobody: the type is not empty only so that it has a name to show. Safe. -/
  | never
  deriving DecidableEq, Repr

/-- Reasons to refuse. -/
inductive Refusal where
  /-- Raised by an arm of `exec` whose command has no meaning in this model yet. Safe. -/
  | notModelled (mnemonic : String)
  deriving DecidableEq, Repr

/-- What a run reads of the hub, as in force at its dispatch cycle (R189, R223). -/
structure View where
  com : Committed := {}            -- R189; committed state
  regs : Tbl Region := []          -- R223; region figures of the last closed roll-up
  conv : ConvDyn := {}             -- R223; converter slots and rails
  epoch : BitVec 64 := 0           -- R223; epoch number
  deriving DecidableEq, Repr

/-- The block and the queue of commands that wait for it. -/
structure State where
  pending : List Instr := []       -- the commands that wait, first in first out; reset empty
  now : Nat := 0                   -- R19; time in CKR ticks since reset (R466), reset 0
  epochAt : Nat := 0               -- R19; tick of the last epoch boundary
  epoch : BitVec 64 := 0           -- R6, R163; number of the present epoch
  free : Nat := 0                  -- the model's own: how many free values have been drawn
  nodes : Tbl Node := []           -- R36; nodes by key, the hub is 0
  links : Tbl Link := []           -- R39; links, key 2 * node + (0 primary, 1 spare)
  pans : Tbl Pan := []             -- R73; pans by node key
  eng : Engine := {}               -- R171; the engine
  com : Committed := {}            -- R16; committed state
  safe : Committed := {}           -- R31; the hub guard's safe-state copy
  views : Tbl View := []           -- R189, R223; what the run in progress on a lane reads, by lane
  regs : Tbl Region := []          -- R269; hub state of each region
  conv : ConvDyn := {}             -- R111; the converter
  stg : Staging := {}              -- R20; staging and glue-up
  tel : DieTel := {}               -- R163; die telemetry and snapshots
  bud : Budget := {}               -- R292; budget figures
  shim : ShimSeq := {}             -- R324; shim sequence
  led : Ledger := {}               -- R331; energy ledger
  tide : Tide := {}                -- R343; tide logic
  flt : Faults := {}               -- R395; faults and tallies
  hw : HostWin := {}               -- R438; host window
  log : LogTrace := {}             -- R439; log ring and trace buffer
  store : Store := {}              -- R447; persistent store and fuses
  sys : Sys := {}                  -- R418; core, boot, stops
  ports : Ports := {}              -- R465; ports
  deriving DecidableEq, Repr

/-- The block under cold reset (R10, R461): VAON present, PORST_N still asserted, BSTATE OFF, every register at its reset
value. The command of PORST_N's release takes it to GUARD. -/
def State.reset : State :=
  { sys := { vaon := true } }

end Sys2Proof.Machine
end

