-- ==== Sys2Proof/Machine/Ops.lean ====
section
/-! DEFINITION. The named operations over the state: accessors of its tables, time, the interrupt causes, the log ring,
the tallies, fence messages, completion records and the nodes' parameters. Every meaning goes through these. -/

namespace Sys2Proof.Machine

/-! ### Time (R6, R466): CKR ticks of 1/2.4 GHz -/

/-- Ticks of a microsecond. -/
def usT : Nat := 2400
/-- Ticks of a millisecond. -/
def msT : Nat := 2400000
/-- Ticks of a second. -/
def secT : Nat := 2400000000
/-- Ticks of a CKE cycle (R466). -/
def ckeT : Nat := 2
/-- Ticks of a CKS cycle (R466). -/
def cksT : Nat := 4
/-- Ticks of an epoch: 4,800 CKS cycles (R6). -/
def epochT : Nat := 19200
/-- Epochs of a harvest period (R415). -/
def harvestEpochs : Nat := 75000000

/-- Time has come to at least `t`. -/
def State.reach (s : State) (t : Nat) : State := { s with now := max s.now t }
/-- The CKE cycle count of the present moment (R194, R228). -/
def State.cke (s : State) : Nat := s.now / ckeT
/-- An idle cycle: one CKE cycle passes (DESIGN CHOICE, log 2). -/
def idleCycle (s : State) : State := { s with now := s.now + ckeT }

/-- Clamp of an integer into a window; the floor wins over a ceiling below it (R249). -/
def clampI (x lo hi : Int) : Int := max lo (min x hi)
/-- Clamp of a natural number. -/
def clampN (x lo hi : Nat) : Nat := max lo (min x hi)
/-- A natural number saturating at `m`. -/
def satN (x m : Nat) : Nat := min x m
/-- A signed field of `w` bits in the low bits of a word. -/
def sfield (v : Word) (lo w : Nat) : Int := ((v >>> lo).setWidth w).toInt
/-- An unsigned field of `w` bits. -/
def ufield (v : Word) (lo w : Nat) : Nat := v.toNat / 2 ^ lo % 2 ^ w
/-- One bit of a word. -/
def bitOf (v : Word) (n : Nat) : Bool := v.getLsbD n
/-- A Boolean as a number. -/
def b2n (b : Bool) : Nat := if b then 1 else 0
/-- A signed number in a field of `w` bits, two's complement. -/
def encS (w : Nat) (x : Int) : Nat := (BitVec.ofInt w x).toNat
/-- Rounding to the nearest integer, a half towards plus infinity (R13). -/
def roundR (x : Rat) : Int := (x + 1 / 2).floor

/-! ### Accessors of the state's tables -/

/-- The node with a key (R36). -/
def State.node (s : State) (n : Nat) : Node := s.nodes.get {} n
/-- Change the node with a key. -/
def State.updNode (s : State) (n : Nat) (f : Node → Node) : State :=
  { s with nodes := s.nodes.set {} n (f (s.node n)) }
/-- The pan at a node (R73). -/
def State.pan (s : State) (n : Nat) : Pan := s.pans.get {} n
/-- Change the pan at a node. -/
def State.updPan (s : State) (n : Nat) (f : Pan → Pan) : State := { s with pans := s.pans.set {} n (f (s.pan n)) }
/-- The key of a link. -/
def linkKey (l : LinkId) : Nat := 2 * l.node + (match l.path with | .primary => 0 | .spare => 1)
/-- A link (R39). -/
def State.link (s : State) (l : LinkId) : Link := s.links.get {} (linkKey l)
/-- One direction of a link. -/
def State.dir (s : State) (l : LinkId) : Dir → LinkDir
  | .down => (s.link l).down
  | .up => (s.link l).up
/-- Change one direction of a link. -/
def State.updDir (s : State) (l : LinkId) (d : Dir) (f : LinkDir → LinkDir) : State :=
  let k := s.link l
  let k' := match d with
    | .down => { k with down := f k.down }
    | .up => { k with up := f k.up }
  { s with links := s.links.set {} (linkKey l) k' }
/-- Hub state of a region. -/
def State.reg (s : State) (r : Nat) : Region := s.regs.get {} r
/-- Change the hub state of a region. -/
def State.updReg (s : State) (r : Nat) (f : Region → Region) : State := { s with regs := s.regs.set {} r (f (s.reg r)) }
/-- Change the sequencer of a region. -/
def State.updSeq (s : State) (r : Nat) (f : SeqDyn → SeqDyn) : State := s.updReg r fun x => { x with seq := f x.seq }
/-- Change the kerf and shim part of a region. -/
def State.updKrf (s : State) (r : Nat) (f : KerfDyn → KerfDyn) : State := s.updReg r fun x => { x with krf := f x.krf }
/-- Change the telemetry of a region. -/
def State.updTel (s : State) (r : Nat) (f : TelDyn → TelDyn) : State := s.updReg r fun x => { x with tel := f x.tel }
/-- Change the thermal part of a region. -/
def State.updTh (s : State) (r : Nat) (f : ThDyn → ThDyn) : State := s.updReg r fun x => { x with th := f x.th }
/-- Change the 1 ms figures of a region. -/
def State.updUse (s : State) (r : Nat) (f : UseDyn → UseDyn) : State := s.updReg r fun x => { x with use := f x.use }
/-- Committed fields of a region. -/
def Committed.reg (c : Committed) (r : Nat) : CReg := c.regs.get {} r
/-- Change the committed fields of a region. -/
def Committed.updReg (c : Committed) (r : Nat) (f : CReg → CReg) : Committed :=
  { c with regs := c.regs.set {} r (f (c.reg r)) }
/-- The tree description of a region (R51). -/
def State.rimg (s : State) (r : Nat) : RegImg := s.sys.image.regs.get {} r
/-- The regions that the tree description defines, in ascending number. -/
def State.regions (s : State) : List Nat := (s.sys.image.regs.filter fun x => x.2.defined).map Prod.fst
/-- The tree description has the region. -/
def State.hasReg (s : State) (r : Nat) : Bool := (s.rimg r).defined
/-- A phase slot (R111). -/
def State.phase (s : State) (n : Nat) : Phase := s.conv.phases.get {} n
/-- Change the converter. -/
def State.updConv (s : State) (f : ConvDyn → ConvDyn) : State := { s with conv := f s.conv }
/-- Change a phase slot. -/
def State.updPhase (s : State) (n : Nat) (f : Phase → Phase) : State :=
  s.updConv fun c => { c with phases := c.phases.set {} n (f (c.phases.get {} n)) }
/-- A converter rail (R132). -/
def State.rail (s : State) : Rail → RailDyn
  | .vib => s.conv.vib
  | .vqa => s.conv.vqa
  | .vqc => s.conv.vqc
/-- Change a converter rail. -/
def State.updRail (s : State) (x : Rail) (f : RailDyn → RailDyn) : State :=
  s.updConv fun c => match x with
    | .vib => { c with vib := f c.vib }
    | .vqa => { c with vqa := f c.vqa }
    | .vqc => { c with vqc := f c.vqc }
/-- Number of a converter rail: VIB 0, VQA 1, VQC 2. -/
def railIdx : Rail → Nat
  | .vib => 0
  | .vqa => 1
  | .vqc => 2
/-- The rail of a number. -/
def railOf : Nat → Rail
  | 0 => .vib
  | 1 => .vqa
  | _ => .vqc
/-- What the hub knows of a node's faults (R396). -/
def State.nflt (s : State) (n : Nat) : NodeFault := s.flt.nodes.get {} n
/-- Change the fault machinery. -/
def State.updFlt (s : State) (f : Faults → Faults) : State := { s with flt := f s.flt }
/-- Change what the hub knows of a node. -/
def State.updNflt (s : State) (n : Nat) (f : NodeFault → NodeFault) : State :=
  s.updFlt fun x => { x with nodes := x.nodes.set {} n (f (x.nodes.get {} n)) }
/-- Change the host window. -/
def State.updHw (s : State) (f : HostWin → HostWin) : State := { s with hw := f s.hw }
/-- Change the staging logic. -/
def State.updStg (s : State) (f : Staging → Staging) : State := { s with stg := f s.stg }
/-- Change the system part. -/
def State.updSys (s : State) (f : Sys → Sys) : State := { s with sys := f s.sys }
/-- Change the ports. -/
def State.updPorts (s : State) (f : Ports → Ports) : State := { s with ports := f s.ports }
/-- Change the engine. -/
def State.updEng (s : State) (f : Engine → Engine) : State := { s with eng := f s.eng }
/-- Change the tide logic. -/
def State.updTide (s : State) (f : Tide → Tide) : State := { s with tide := f s.tide }
/-- Change the ledger. -/
def State.updLed (s : State) (f : Ledger → Ledger) : State := { s with led := f s.led }
/-- Change the shim sequence. -/
def State.updShim (s : State) (f : ShimSeq → ShimSeq) : State := { s with shim := f s.shim }
/-- Change the budget figures. -/
def State.updBud (s : State) (f : Budget → Budget) : State := { s with bud := f s.bud }
/-- Change the die telemetry. -/
def State.updDie (s : State) (f : DieTel → DieTel) : State := { s with tel := f s.tel }
/-- A tide peer (R364). -/
def State.tpeer (s : State) (p : Nat) : TPeer := s.tide.peers.get {} p
/-- Change a tide peer. -/
def State.updTPeer (s : State) (p : Nat) (f : TPeer → TPeer) : State :=
  s.updTide fun t => { t with peers := t.peers.set {} p (f (t.peers.get {} p)) }
/-- A hint source (R472). -/
def State.hsrc (s : State) (x : Nat) : HintSrc := s.ports.hint.get {} x
/-- Change a hint source. -/
def State.updHsrc (s : State) (x : Nat) (f : HintSrc → HintSrc) : State :=
  s.updPorts fun p => { p with hint := p.hint.set {} x (f (p.hint.get {} x)) }
/-- A dovetail port (R485). -/
def State.dvt (s : State) (p : Nat) : Dvt := s.ports.dvt.get {} p
/-- Change a dovetail port. -/
def State.updDvt (s : State) (p : Nat) (f : Dvt → Dvt) : State :=
  s.updPorts fun q => { q with dvt := q.dvt.set {} p (f (q.dvt.get {} p)) }
/-- A completion record (R258). -/
def State.crec (s : State) (t : Nat) : CRec := s.stg.records.get {} t
/-- Change a completion record that is held and has not reached its last status (R503). -/
def State.updRec (s : State) (t : Option Nat) (f : CRec → CRec) : State :=
  match t with
  | none => s
  | some k =>
    let c := s.crec k
    if c.known && (c.status = .pending || c.status = .committed) then
      s.updStg fun g => { g with records := g.records.set {} k (f c) }
    else s
/-- Reset content of a lane: 64 ACTIVE, and 18g + 16 and 18g + 17 of each group SPARE (R171). -/
def laneReset (i : Nat) : Lane := { st := if i % 18 < 16 then .active else .spareSt }
/-- A lane (R171): an unlisted lane is as at cold reset. -/
def State.lane (s : State) (i : Nat) : Lane :=
  if i % 18 < 16 then s.eng.lanes.get (laneReset 0) i else s.eng.lanes.get (laneReset 16) i
/-- Change a lane. -/
def State.updLane (s : State) (i : Nat) (f : Lane → Lane) : State :=
  s.updEng fun e =>
    if i % 18 < 16 then { e with lanes := e.lanes.set (laneReset 0) i (f (e.lanes.get (laneReset 0) i)) }
    else { e with lanes := e.lanes.set (laneReset 16) i (f (e.lanes.get (laneReset 16) i)) }
/-- Run-time part of a loop (R187). -/
def State.ldyn (s : State) (l : Nat) : LoopDyn := s.eng.dyn.get {} l
/-- Change the run-time part of a loop. -/
def State.updLdyn (s : State) (l : Nat) (f : LoopDyn → LoopDyn) : State :=
  s.updEng fun e => { e with dyn := e.dyn.set {} l (f (e.dyn.get {} l)) }
/-- A loop-table entry (R231). -/
def State.lent (s : State) (l : Nat) : LoopEnt := s.eng.loops.get {} l
/-- Committed mode of a loop (R195). -/
def Committed.loop (c : Committed) (l : Nat) : CLoop := c.loops.get {} l

/-! ### Places in the tree -/

/-- A range holds an ID. -/
def inRange (lo hi x : NodeId) : Bool := decide (lo.toNat ≤ x.toNat) && decide (x.toNat ≤ hi.toNat)
/-- Every node of a subtree by its ID range (R51). -/
def State.subtree (s : State) (n : Nat) : List Nat :=
  s.nodes.keys.filter fun c => decide ((s.node c).id ≠ 0) && inRange (s.node n).id (s.node n).subHi (s.node c).id

/-! ### Free values -/

/-- One free value has been drawn. -/
def State.draw (s : State) : State := { s with free := s.free + 1 }

/-! ### Interrupt causes, log ring, tallies -/

/-- Set a host interrupt cause (R429). -/
def State.cause (s : State) (b : Nat) : State :=
  s.updHw fun h => { h with intcause := h.intcause ||| (1 : BitVec 9) <<< b }
/-- Block state with its STATE cause (R429). -/
def State.setB (s : State) (b : BState) : State :=
  if s.hw.bstate = b then s else (s.updHw fun h => { h with bstate := b }).cause 5
/-- Write one log entry (R439, R441). -/
def State.logW (s : State) (code : BitVec 16) (level narg : Byte) (a0 a1 : Word) : State :=
  let q : Word := if s.log.head + 1 = 0 then 1 else s.log.head + 1
  let e : LogEnt := { seq := q, code := code, level := level, narg := narg, arg0 := a0, arg1 := a1 }
  let s := { s with log := { s.log with head := q, ring := s.log.ring.set {} (q.toNat % 512) e } }
  let lvl := if s.hw.sminor = 0 then 3 else s.hw.loglvl
  if lvl ≤ level.toNat then s.cause 7 else s
/-- Key of one tally value (R411, R416): ID, INDEX, BIN. -/
def tallyKey (id index bin : Nat) : Nat := (id * 1024 + index) * 16 + bin
/-- Add to a tally increment (R413). -/
def State.tally (s : State) (id index bin n : Nat) : State :=
  let k := tallyKey id index bin
  s.updFlt fun f => { f with tally := f.tally.set 0 k (f.tally.get 0 k + n) }
/-- A sluice fault stands for 1 ms (R395 FLTSUM [8]) and is tallied (0x0C, counter 9). -/
def State.sluiceFault (s : State) : State :=
  (s.updFlt fun f => { f with sluAt := some s.now }).tally 0x0C 0 9 1

/-! ### Fence messages (R282, R476) -/

/-- Layout of a fence message (R282). -/
def fenceWord (ty : Nat) (tag : Byte) (arg : Nat) (r : Nat) : Word :=
  BitVec.ofNat 32 (ty * 2 ^ 28 + tag.toNat * 2 ^ 20 + arg % 16 * 2 ^ 16 + r % 1024)
/-- Queue an outgoing fence message: in order, none dropped (R476). -/
def State.fenceMsg (s : State) (w : Word) : State := s.updPorts fun p => { p with fence := p.fence ++ [w] }

/-! ### Region facts -/

/-- Number of a rail of regions: VCORE 0 to VMIO 4 (R416). -/
def RRail.idx : RRail → Nat
  | .vcore => 0
  | .vsram => 1
  | .vret => 2
  | .vlink => 3
  | .vmio => 4
/-- Limits of a rail in set-point codes (R247). -/
def railLimits : RRail → Int × Int
  | .vcore => (150, 750)
  | .vsram => (250, 750)
  | .vret => (200, 300)
  | .vlink => (400, 650)
  | .vmio => (500, 700)
/-- Codes of committed region states (R269). -/
def RState.code : RState → Nat
  | .off => 0
  | .on => 1
  | .retention => 2
  | .purge => 3
/-- Codes of orders (R274). -/
def Order.code : Order → Nat
  | .none => 0
  | .on => 1
  | .off => 2
  | .retention => 3
  | .purge => 4
/-- The order of a code (R274). -/
def orderOfCode : Nat → Option Order
  | 0 => some .none
  | 1 => some .on
  | 2 => some .off
  | 3 => some .retention
  | 4 => some .purge
  | _ => none
/-- Codes of sequencer states (R275). -/
def SeqSt.code : SeqSt → Nat
  | .dark => 0
  | .retained => 1
  | .rising => 2
  | .staging => 3
  | .handover => 4
  | .live => 5
  | .fencing => 6
  | .lowering => 7
  | .falling => 8
  | .purging => 9
  | .purged => 10
/-- Codes of block states (R438). -/
def BState.code : BState → Nat
  | .off => 0
  | .guard_ => 1
  | .boot => 2
  | .standby => 3
  | .run => 4
  | .unattended => 5
  | .stopping => 6
  | .halted => 7
/-- Codes of statuses (R259). -/
def Status.code : Status → Nat
  | .pending => 0
  | .done => 1
  | .superseded => 2
  | .overruled => 3
  | .denied => 4
  | .failed => 5
  | .loopClosed => 6
  | .clamped => 7
  | .committed => 8
/-- Codes of phases of the hint stream (R315). -/
def HPhase.code : HPhase → Nat
  | .unhinted => 0
  | .prefill => 1
  | .decode => 2
  | .mixed => 3
/-- The phase of a code. -/
def hphaseOf : Nat → HPhase
  | 0 => .unhinted
  | 1 => .prefill
  | 2 => .decode
  | _ => .mixed
/-- Codes of pan states in NODEVIEW (R396). -/
def PanSt.code : PanSt → Nat
  | .off => 0
  | .prebias => 1
  | .shadow => 2
  | .run => 3
  | .hold => 4
  | .faulted => 5
  | .retired => 6
/-- Rank order of roles (R4). -/
def Role.rank : Role → Nat
  | .operator => 0
  | .installer => 1
  | .maker => 2
/-- The state of a pan at a moment as the hub knows it (R15, R396): what committed MODE values and EVENTs have told, with the times
of R105 and R109: PREBIAS lasts 2 us, SHADOW 256 us, a ramp-out 16 us, in which the pan reports the state it held. -/
def NodeFault.stNow (x : NodeFault) (now : Nat) : PanSt :=
  match x.outAt with
  | some t => if t + 16 * usT ≤ now then .off else x.st
  | none =>
    match x.st with
    | .prebias => if x.stAt + 258 * usT ≤ now then .run else if x.stAt + 2 * usT ≤ now then .shadow else .prebias
    | .shadow => if x.stAt + 256 * usT ≤ now then .run else .shadow
    | st => st
/-- The hub's knowledge brought up to a moment. -/
def NodeFault.known (x : NodeFault) (now : Nat) : NodeFault :=
  let st := x.stNow now
  { x with st := st, stAt := if x.st = .prebias then x.stAt + 2 * usT else x.stAt, outAt := if st = .off then none else x.outAt }
/-- A pan's state as the hub knows it. -/
def State.knownSt (s : State) (n : Nat) : PanSt := (s.nflt n).stNow s.now
/-- The pan runs, for all the hub knows. -/
def State.knownOn (s : State) (n : Nat) : Bool :=
  match s.knownSt n with
  | .prebias | .shadow | .run | .hold => true
  | .off | .faulted | .retired => false
/-- Raises of a share ramp that stand, of 64 (R105, R106). -/
def NodeFault.raises (x : NodeFault) (at_ : Nat) : Nat :=
  match x.st with
  | .prebias => 0
  | .shadow => min 64 ((at_ - x.stAt) / (4 * usT))
  | .hold => if x.was = .shadow then min 64 (x.wasFor / (4 * usT)) else 64
  | _ => 64
/-- A committed MODE to one pan as the hub follows it (R105): `live` says that other pans hold the region's grid up. -/
def NodeFault.mode (x : NodeFault) (req : Nat) (live : Bool) (now : Nat) : NodeFault :=
  let x := { x.known now with carry := false }
  if x.st = .retired then x
  else if req = 2 then { x with st := .retired, outAt := none, admitted := false }
  else if req = 1 then
    if x.st = .off then { x with st := if live then .prebias else .run, stAt := now }
    else match x.outAt with
      | some t =>
        let f := x.raises t * (16 * usT - (now - t)) / (16 * usT)
        { x with st := .shadow, outAt := none, stAt := now - 4 * usT * f }
      | none => x
  else if x.st = .faulted then (if x.stflt then x else { x with st := .off })
  else if x.st = .off then x
  else { x with outAt := some (x.outAt.getD now) }
/-- EVENT 0x17 as the hub follows it (R105, R106, R110). -/
def NodeFault.hold (x : NodeFault) (entered : Bool) (now : Nat) : NodeFault :=
  let x := x.known now
  if entered then { x with st := .hold, was := x.st, wasFor := now - x.stAt }
  else if x.st = .hold then { x with st := x.was, stAt := now - x.wasFor }
  else x
/-- The pans of a region that the hub knows in RUN or HOLD (R405). -/
def State.livePans (s : State) (r : Nat) : List Nat :=
  ((s.rimg r).pans ++ (s.rimg r).spares).filter fun n =>
    (s.knownSt n = .run || s.knownSt n = .hold) && !(s.nflt n).lost
/-- Carry capacity C of a region, mA (R405): 1.25 times the sum of the ratings, which are in 0.1 A. -/
def State.carryCap (s : State) (r : Nat) : Nat := ((s.livePans r).map fun n => 125 * (s.node n).rating).sum
/-- The region is short (R405). -/
def State.short (s : State) (r : Nat) : Bool :=
  decide ((s.livePans r).length < (s.rimg r).pans.length) &&
  !((s.rimg r).spares.any fun n => s.knownSt n = .prebias || s.knownSt n = .shadow)
/-- Normal service: STANDBY, RUN and UNATTENDED (R381). -/
def State.service (s : State) : Bool :=
  s.hw.bstate = .standby || s.hw.bstate = .run || s.hw.bstate = .unattended

end Sys2Proof.Machine
end

