-- ==== Sys2Proof/Machine/Conds.lean ====
section
/-! DEFINITION. Present conditions and what follows them without any command: FLTSUM (R395), BUDCOND (R312), the kerf
and shim values presented (R307, R309, R327), the refresh codes (R379), the PMBus status conditions (R480), the tray's
in-band interrupt (R483) and the host interrupt output (R429). `settle` brings all of these up to date; every meaning
that can move one ends in `done`. -/

namespace Sys2Proof.Machine

/-- Keys of the nodes that are pans. -/
def State.panKeys (s : State) : List Nat := s.nodes.keys.filter fun n =>
  match (s.node n).kind with
  | .pan | .privPan | .sparePan | .sparePriv => true
  | _ => false

/-- Lanes in one of the states counted as ACTIVE (R202, R504): ACTIVE, and CHECK unless a spare's. -/
def State.lanesActive (s : State) : Nat :=
  ((List.range 72).filter fun i => (s.lane i).st = .active || ((s.lane i).st = .check && !(s.lane i).wasSpare)).length
/-- Lanes SPARE, a spare's self-check included (R504). -/
def State.lanesSpare (s : State) : Nat :=
  ((List.range 72).filter fun i => (s.lane i).st = .spareSt || ((s.lane i).st = .check && (s.lane i).wasSpare)).length
/-- Lanes FAILED or RETEST (R504). -/
def State.lanesFailed (s : State) : Nat :=
  ((List.range 72).filter fun i => (s.lane i).st = .failed || (s.lane i).st = .retest).length
/-- Lanes in CHECK (R202, R504): a spare in its self-check stays SPARE. -/
def State.lanesCheck (s : State) : Nat := ((List.range 72).filter fun i => (s.lane i).st = .check && !(s.lane i).wasSpare).length

/-- Spares exhausted (R136): a phase in FAULTED and no SPARE phase of its kind, main or privileged. -/
def State.spareX (s : State) : Bool :=
  let kind (lo hi : Nat) (st : PhSt) : Bool :=
    (List.range 40).any fun n => decide (lo ≤ n) && decide (n < hi) && decide ((s.phase n).st = st)
  (kind 0 32 .faulted && !kind 0 32 .spare) || (kind 32 40 .faulted && !kind 32 40 .spare)

/-- The die fault summary (R395). -/
def State.fltsum (s : State) : BitVec 18 :=
  let pk := s.panKeys
  let bit (n : Nat) (b : Bool) : Nat := if b then 2 ^ n else 0
  BitVec.ofNat 18 (
    bit 0 (pk.any fun n => s.knownSt n = .faulted) +
    bit 1 (pk.any fun n => s.knownSt n = .retired) +
    bit 2 (pk.any fun n => (s.nflt n).contact) +
    bit 3 (s.regions.any fun r => s.service && (s.com.reg r).state = .on && s.short r) +
    bit 4 (s.regions.any fun r => (s.com.reg r).ccap ≠ 0) +
    bit 5 (s.regions.any fun r => (s.com.reg r).forder) +
    bit 6 (s.flt.nodes.any fun x => x.2.ooc) +
    bit 7 (s.flt.nodes.any fun x => x.2.missing) +
    bit 8 (match s.flt.sluAt with
      | none => false
      | some t => decide (s.now ≤ t + msT)) +
    bit 9 (pk.any fun n => (s.nflt n).local_ || (s.nflt n).adcLost ≠ 0) +
    bit 10 ((List.range 40).any fun n => (s.phase n).st = .faulted) +
    bit 11 s.spareX +
    bit 12 ((List.range 72).any fun i => (s.lane i).st = .failed) +
    bit 13 (decide (s.lanesActive < 64)) +
    bit 14 s.eng.engMem +
    bit 15 (s.eng.dyn.any fun x => x.2.flags ≠ 0) +
    bit 16 ((List.range 4).any fun p => s.com.tide.dvtEn.getLsbD p && !(s.dvt p).up) +
    bit 17 s.flt.talFault)

/-- The budget conditions (R312). -/
def State.budcond (s : State) : Nat :=
  b2n s.bud.capshort + 2 * b2n (decide (s.com.bud.spill ≠ 0)) + 4 * b2n s.bud.staleest + 8 * b2n s.bud.conserv +
    16 * b2n s.bud.shortmin

/-- Every region is presented ratio 60 and intensity 0: step 1 of the boot until the rail start step (R449, R446), a
refused boot (R453), OFF (R460), HALTED (R383), an orderly or coolant stop (R307, R386). -/
def State.held60 (s : State) : Bool :=
  match s.hw.bstate with
  | .off | .guard_ | .halted | .stopping => true
  | .boot => decide (s.sys.step < 9) || decide (s.sys.refuse ≠ 0)
  | _ => decide (s.sys.stop ≠ .none)

/-- Kerf ratio to present (R307). -/
def State.kerfOf (s : State) (r : Nat) : Nat :=
  if s.held60 then 60 else if (s.com.reg r).state = .on then (s.reg r).krf.kLoop else 0

/-- Shim intensity to present (R309, R327). -/
def State.shimOf (s : State) (r : Nat) : Nat :=
  if !s.held60 && s.com.shim.en && decide ((s.com.reg r).state = .on) && decide ((s.reg r).seq.st = .live) &&
     decide ((s.reg r).krf.win ≠ 0) && decide (s.kerfOf r = 0)
  then (s.reg r).krf.sLoop else 0

/-- Cycles (CKS) shown with a non-zero intensity up to now (R332). -/
def KerfDyn.cyclesTo (k : KerfDyn) (now : Nat) : Nat := if k.sPres = 0 then k.sCycles else k.sCycles + (now - k.sAt) / cksT

/-- One region's presented values brought up to date, with a kerf-lane word on any change (R307, R310, R327, R476). -/
def settleRegion (s : State) (r : Nat) : State :=
  let k := s.kerfOf r
  let i := s.shimOf r
  let x := (s.reg r).krf
  let s := s.updReg r fun y => { y with
    seq := { y.seq with inService := y.seq.inService || decide (y.seq.st = .live) || decide (y.seq.st = .fencing) },
    krf := { y.krf with
      kPres := k, sPres := i, kerfed := x.kerfed || decide (k ≠ 0), all60 := x.all60 && decide (k = 60),
      sCycles := if i = x.sPres then x.sCycles else x.cyclesTo s.now,
      sAt := if i = x.sPres then x.sAt else s.now } }
  if k = x.kPres ∧ i = x.sPres then s
  else s.updPorts fun p => { p with krf := p.krf.set (60, 0) r (k, i), krfAt := p.krfAt.set 0 r s.now }

/-- The refresh code of a memory controller (R379). -/
def State.refreshOf (s : State) (n : Nat) : Nat :=
  ((s.sys.image.memctl.get [] n).map fun r =>
    (s.sys.image.bands.get {} (8 * (s.rimg r).rail.idx + (s.com.reg r).band)).refresh).foldl max 0

/-- The status conditions of the PMBus pages (R480): [2:0] VOUT and [5:3] OFF of VIB, VQA, VQC; [6] IOUT; [7] INPUT;
[8] TEMPERATURE. -/
def State.pmbConds (s : State) : BitVec 9 :=
  let bit (n : Nat) (b : Bool) : Nat := if b then 2 ^ n else 0
  BitVec.ofNat 9 (
    bit 0 (s.conv.vib.ov || s.conv.vib.notGood) + bit 1 (s.conv.vqa.ov || s.conv.vqa.notGood) +
    bit 2 (s.conv.vqc.ov || s.conv.vqc.notGood) + bit 3 (s.conv.vib.st ≠ .reg) + bit 4 (s.conv.vqa.st ≠ .reg) +
    bit 5 (s.conv.vqc.st ≠ .reg) + bit 6 ((List.range 40).any fun n => (s.phase n).overload) +
    bit 7 (s.conv.vinLow || s.conv.inStop) + bit 8 (s.regions.any fun r => (s.com.reg r).band = 5))

/-- SHUTIND as a word (R392). -/
def State.shutind (s : State) : Nat :=
  b2n s.sys.shLatched + 2 * s.sys.shKind + 16 * s.sys.shCause.toNat + 256 * s.sys.shFirst

/-- Outputs and rising conditions brought up to date. -/
def settle (s : State) : State :=
  let s := s.regions.foldl settleRegion s
  let s := s.updPorts fun p => { p with
    rfc := (List.range 8).foldl (fun t n => t.set 0 n (s.refreshOf n)) p.rfc }
  let open_ := s.regions.any fun r => (s.reg r).krf.win ≠ 0
  let s := s.updShim fun h => { h with noneAt := if open_ then none else some (h.noneAt.getD s.now) }
  let f := s.fltsum
  let rise := f &&& ~~~ s.flt.prev
  let s := s.updFlt fun x => { x with prev := f }
  let s := if rise = 0 then s else s.cause 1
  let c := s.pmbConds
  let up := c &&& ~~~ s.ports.pmbSeen
  let s := s.updPorts fun p => { p with pmbSeen := c, alertN := p.alertN && decide (up = 0) }
  let i := BitVec.ofNat 16 (s.hw.bstate.code + 256 * (s.shutind % 256))
  let s := s.updPorts fun p => { p with ibi := p.ibi || decide (i ≠ p.ibiSeen), ibiSeen := i }
  s.updPorts fun p => { p with intOut := decide (s.hw.intcause &&& s.hw.inten ≠ 0) }

/-- The next state, its outputs settled. -/
def done (s : State) : Host.Outcome State Fault Refusal := .next (settle s)

end Sys2Proof.Machine
end

