-- ==== Sys2Proof/Machine/Compose.lean ====
section
/-! DEFINITION. Composition of committed values (R249, R251, R263, R266, R267, R292 to R300): what one glue-up makes of
its writes, and the status each write completes with. -/

namespace Sys2Proof.Machine

/-! ### Window offsets of ticketed registers (R498) -/

/-- A window's floor and ceiling in one word: ceiling [25:16], floor [9:0]. -/
def winF (v : Word) : Nat := ufield v 0 10
/-- Ceiling half. -/
def winC (v : Word) : Nat := ufield v 16 10

/-- Fields of a region register as a write of `v` leaves them (R248, R274). -/
def regWrite (off : Nat) (v : Word) (c : CReg) : CReg :=
  match off with
  | 0x1080 => { c with req := ufield v 0 10, slew := ufield v 16 9 }
  | 0x1084 => { c with ifloor := winF v, iceil := winC v }
  | 0x1088 => { c with mfloor := winF v, mceil := winC v }
  | 0x108C => { c with slewmax := ufield v 0 9, offlo := sfield v 16 8, offhi := sfield v 24 8 }
  | 0x109C => { c with stgint := ufield v 0 7, fenceto := ufield v 8 8 }
  | 0x10A0 => { c with inrush := ufield v 0 8, tret := ufield v 8 4, purgehold := ufield v 16 8 }
  | _ => c

/-- Converter parameters as a write leaves them, a value outside its range saturated to it (R114). -/
def convWrite (off : Nat) (v : Word) (c : CConv) : CConv :=
  match off with
  | 0x300 => { c with vibset := min 350 (ufield v 0 9) }
  | 0x304 => { c with vibwinC := min 350 (ufield v 16 9), vibwinF := min 350 (ufield v 0 9) }
  | 0x308 => { c with vibslew := clampN (ufield v 0 9) 1 500 }
  | 0x30C => { c with mfreq := clampN (ufield v 0 10) 400 1000 }
  | 0x310 => { c with mripple := ufield v 0 2 }
  | 0x314 => { c with fitted := v }
  | 0x318 => { c with spares := v }
  | 0x31C => { c with passign := v.setWidth 16 }
  | 0x320 => { c with minph := clampN (ufield v 0 6) 1 32 }
  | 0x324 =>
    let p := clampN (ufield v 0 10) 200 500
    { c with phrate := p, pklim := clampN c.pklim p (p * 8 / 5), shedmax := min c.shedmax p }
  | 0x328 => { c with pklim := clampN (ufield v 0 10) c.phrate (c.phrate * 8 / 5) }
  | 0x32C => { c with shedmax := min (ufield v 0 10) c.phrate }
  | 0x330 => { c with shedPermit := bitOf v 0, dePermit := bitOf v 1 }
  | 0x334 => { c with cdroop := clampN (ufield v 0 7) 10 100 }
  | 0x338 => { c with cstep := clampN (ufield v 0 10) 20 1000 }
  | 0x33C => { c with wake := clampN (ufield v 0 4) 1 8 }
  | 0x340 => { c with startVibD := min 1000 (ufield v 0 10), startVibR := clampN (ufield v 16 8) 1 200 }
  | 0x344 => { c with startVqaD := min 1000 (ufield v 0 10), startVqaR := clampN (ufield v 16 8) 1 200 }
  | 0x348 => { c with startVqcD := min 1000 (ufield v 0 10), startVqcR := clampN (ufield v 16 8) 1 200 }
  | 0x34C => { c with stopVibD := min 1000 (ufield v 0 10), stopVibR := clampN (ufield v 16 8) 1 200 }
  | 0x350 => { c with stopVqaD := min 1000 (ufield v 0 10), stopVqaR := clampN (ufield v 16 8) 1 200 }
  | 0x354 => { c with stopVqcD := min 1000 (ufield v 0 10), stopVqcR := clampN (ufield v 16 8) 1 200 }
  | 0x358 => { c with vinUnder := clampN (ufield v 0 8) 85 96, vinWarn := clampN (ufield v 8 8) 96 120,
                      vinOver := clampN (ufield v 16 8) 140 150 }
  | 0x35C => { c with qsetA := ufield v 0 10, qsetC := ufield v 16 10 }
  | 0x360 => { c with qwinF := ufield v 0 10, qwinC := ufield v 16 10 }
  | 0x364 => { c with qslew := clampN (ufield v 0 9) 1 500 }
  | 0x368 => { c with qfdivA := clampN (ufield v 0 9) 250 500, qfdivC := clampN (ufield v 16 9) 250 500 }
  | 0x36C => { c with qcompA := ufield v 0 2, qcompC := ufield v 4 2 }
  | _ => c

/-- Budget and class fields as a write leaves them (R294, R302). -/
def budWrite (off : Nat) (v : Word) (c : CBudget) : CBudget :=
  match off with
  | 0x200 => { c with opcap := ufield v 0 16 }
  | 0x204 => { c with incap := ufield v 0 16 }
  | 0x208 => { c with mkcap := ufield v 0 16, effconv := ufield v 16 16 }
  | 0x218 => { c with minC := ufield v 0 16, maxC := ufield v 16 16 }
  | 0x21C => { c with minM := ufield v 0 16, maxM := ufield v 16 16 }
  | 0x220 => { c with minL := ufield v 0 16, maxL := ufield v 16 16 }
  | 0x224 => { c with ord0 := ufield v 0 3, ord1 := ufield v 4 3, ord2 := ufield v 8 3, ord3 := ufield v 12 3,
                      dhead := ufield v 16 6, mkerf := bitOf v 24, kdown := ufield v 25 6 }
  | _ => c

/-- Shim and ledger fields as a write leaves them, values out of range saturated (R330, R339). -/
def shimWrite (off : Nat) (v : Word) (c : CShim) : CShim :=
  match off with
  | 0x5C0 => { c with en := bitOf v 0, floor := min (ufield v 1 7) 100, slope := max 1 (ufield v 8 16),
                      hold := ufield v 24 8 }
  | 0x5C4 => { c with slot := ufield v 0 4, stag := ufield v 8 8, annwait := max 1 (ufield v 16 8) }
  | 0x600 => { c with ledbase := (c.ledbase &&& 0xFFFFFFFF00000000) ||| ((v &&& 0xFF000000).setWidth 64) }
  | 0x604 => { c with ledbase := (c.ledbase &&& 0x00000000FFFFFFFF) ||| (v.setWidth 64 <<< 32) }
  | 0x608 => { c with leden := bitOf v 0 }
  | _ => c

/-- Tide and dovetail fields as a write leaves them; `sel` is the peer entry (R364, R490). -/
def tideWrite (off sel : Nat) (v : Word) (c : CTide) : CTide :=
  match off with
  | 0x800 => { c with group := v.toNat }
  | 0x804 => { c with dieId := ufield v 0 20 }
  | 0x808 => { c with h0 := ufield v 0 16 }
  | 0x810 => { c with gbud := c.gbud / 2 ^ 32 * 2 ^ 32 + v.toNat }
  | 0x814 => { c with gbud := c.gbud % 2 ^ 32 + v.toNat * 2 ^ 32 }
  | 0x818 => { c with ifloor := ufield v 0 16, iceil := ufield v 16 16 }
  | 0x81C => { c with mfloor := ufield v 0 16, mceil := ufield v 16 16 }
  | 0x820 => { c with tlimit := ufield v 0 11, udelta := ufield v 16 8, urgage := ufield v 24 8 }
  | 0x824 => { c with tlimmax := ufield v 0 11 }
  | 0x828 => { c with retryd := ufield v 0 8, retryf := ufield v 8 8, deadtime := ufield v 16 8 }
  | 0x82C => { c with ten := bitOf v 0, freeze := bitOf v 1 }
  | 0x860 =>
    let p := c.peers.get {} sel
    { c with peers := c.peers.set {} sel { p with die := ufield v 0 20, board := bitOf v 20, valid := bitOf v 21 } }
  | 0x864 =>
    let p := c.peers.get {} sel
    { c with peers := c.peers.set {} sel { p with expinc := v.toNat } }
  | 0x910 => { c with bslot := ufield v 0 4, ndies := ufield v 4 4, ring := bitOf v 8 }
  | _ =>
    if 0x920 ≤ off ∧ off ≤ 0x92C then
      let p := (off - 0x920) / 4
      { c with
        dvtEn := if bitOf v 0 then c.dvtEn ||| ((1 : BitVec 4) <<< p) else c.dvtEn &&& ~~~ ((1 : BitVec 4) <<< p),
        dvtMax := c.dvtMax.set 3 p (ufield v 1 2), dvtSlot := c.dvtSlot.set 0 p (ufield v 4 4) }
    else c

/-- A loop's committed mode written. -/
def CLoop.withMode (x : CLoop) (b : Bool) : CLoop := { x with closed := b }

/-- The loops of a loop's binding group, itself alone where the image gives none (R235, R236). -/
def groupOf (loops : Tbl LoopEnt) (l : Nat) : List Nat :=
  match (loops.get {} l).group with
  | [] => [l]
  | g => g

/-- Committed state with the fields of one register write changed (R498 names the register at each offset). -/
def Committed.write (loops : Tbl LoopEnt) (off sel : Nat) (v : Word) (aux : Nat) (c : Committed) : Committed :=
  if off < 0x280 then { c with bud := budWrite off v c.bud }
  else if off < 0x380 then { c with conv := convWrite off v c.conv }
  else if off ≤ 0x41C then { c with phcmd := c.phcmd.set 0 ((off - 0x380) / 4) (min 2 (ufield v 0 2)) }
  else if off < 0x540 then
    let x : CHint := { en := bitOf v 0, aen := bitOf v 1, tmask := (v >>> 8).setWidth 8 &&& 0xFE }
    { c with hnt := c.hnt.set {} ((off - 0x500) / 4) x }
  else if off ≤ 0x608 then { c with shim := shimWrite off v c.shim }
  else if off < 0x870 then { c with tide := tideWrite off sel v c.tide }
  else if off = 0x900 then
    { c with confthr := ufield v 0 8, tinlet := ufield v 8 8, tdrain := ufield v 16 8 }
  else if off < 0x940 then { c with tide := tideWrite off sel v c.tide }
  else if off = 0xC04 then
    { c with loops := (groupOf loops sel).foldl (fun t l => t.set {} l (CLoop.withMode (t.get {} l) (bitOf v 0))) c.loops }
  else if off = 0xC14 then
    { c with coef := c.coef.set {} sel { value := v, shift := max (-31) (BitVec.ofNat 6 aux).toInt } }
  else if 0xC20 ≤ off ∧ off ≤ 0xC2C then
    let x := c.loops.get {} sel
    { c with loops := c.loops.set {} sel { x with man := x.man.set 0 ((off - 0xC20) / 4) v } }
  else if 0x1080 ≤ off ∧ off ≤ 0x10A0 then c.updReg sel (regWrite off v)
  else c

/-! ### Order slots (R267) -/

/-- Strength of an order in the operator slot. -/
def opStrength : Order → Nat
  | .none => 0
  | .retention => 1
  | .off => 2
  | .purge => 3
  | .on => 4
/-- Strength of an order in the maker, installer and thermal slots. -/
def hiStrength : Order → Nat
  | .none => 0
  | .on => 1
  | .retention => 2
  | .off => 3
  | .purge => 4

/-- The order a slot takes from the writes of one boundary: the strongest; with no write, what it held. -/
def slotWinner (slot : Nat) (held : Order) (ws : List Order) : Order :=
  let str := if slot = 0 then opStrength else hiStrength
  match ws with
  | [] => held
  | w :: rest => rest.foldl (fun a b => if str a < str b then b else a) w

/-- What a slot holds: 0 operator, 1 installer, 2 maker, 3 thermal. -/
def CReg.slot (c : CReg) : Nat → Order
  | 0 => c.ops
  | 1 => c.ins
  | 2 => c.mks
  | _ => c.ths
/-- A slot written. -/
def CReg.setSlot (c : CReg) (n : Nat) (o : Order) : CReg :=
  match n with
  | 0 => { c with ops := o }
  | 1 => { c with ins := o }
  | 2 => { c with mks := o }
  | _ => { c with ths := o }
/-- Slots from the highest rank down (R265, R267). -/
def slotRank : List Nat := [2, 1, 3, 0]
/-- The slot whose order stands, if any. -/
def CReg.winner (c : CReg) : Option Nat := slotRank.find? fun n => c.slot n ≠ .none
/-- The committed state an order makes. -/
def Order.state : Order → RState
  | .on => .on
  | .retention => .retention
  | .purge => .purge
  | _ => .off
/-- A higher rank masks the slot's order. -/
def CReg.masked (c : CReg) (n : Nat) : Bool :=
  match c.winner with
  | some w => decide (w ≠ n)
  | none => false

/-- Orders written to a slot of a region by the set. -/
def ordersTo (ws : List SWrite) (r slot : Nat) : List Order :=
  ws.filterMap fun w => match w.cw with
    | .order r' sl o => if r' = r ∧ sl = slot then some o else none
    | _ => none

/-- All slots of a region updated (R263 step 1); a standing fault order leaves the maker slot off until a maker writes
none (R407). -/
def updSlots (ws : List SWrite) (r : Nat) (c : CReg) : CReg :=
  let f (c : CReg) (n : Nat) : CReg :=
    let o := slotWinner n (c.slot n) (ordersTo ws r n)
    let wrote := !(ordersTo ws r n).isEmpty
    if n = 2 ∧ c.forder then
      if wrote ∧ o = .none then { c.setSlot 2 .none with forder := false } else c
    else c.setSlot n o
  let c := [0, 1, 2, 3].foldl f c
  let fo := ws.any fun w => match w.cw with
    | .faultOrder r' => decide (r' = r)
    | _ => false
  let ons := (ws.filter fun w => match w.cw with
    | .order r' _ .on => decide (r' = r)
    | _ => false).length
  let c := if fo then { c with mks := .off, forder := true } else c
  { c with onWrites := ons }

/-! ### Windows and set-points (R249, R251) -/

/-- Composed limits of a region: maker, installer, band (R249). -/
structure Limits where
  lo1 : Int
  hi1 : Int
  lo2 : Int
  hi2 : Int
  lo3 : Int
  hi3 : Int
  deriving DecidableEq, Repr

/-- The limits that a region's committed inputs compose to (R249). -/
def limitsOf (rail : RRail) (b : BandRow) (c : CReg) : Limits :=
  let rl := railLimits rail
  let lo1 := max rl.1 (min c.mfloor rl.2)
  let hi1 := max lo1 (min c.mceil rl.2)
  let lo2 := max lo1 (min c.ifloor hi1)
  let hi2 := max lo2 (min c.iceil hi1)
  let lo3 := max lo2 (min b.floor hi2)
  let hi3 := max lo3 (min b.ceil hi2)
  { lo1 := lo1, hi1 := hi1, lo2 := lo2, hi2 := hi2, lo3 := lo3, hi3 := hi3 }

/-- A region's committed window and set-point (R249). -/
def composeVolt (rail : RRail) (b : BandRow) (c : CReg) : CReg :=
  let l := limitsOf rail b c
  { c with lo := l.lo3.toNat, hi := l.hi3.toNat, setpt := (max l.lo3 (min ((c.req : Int) + c.gb) l.hi3)).toNat }

/-- The band row of a region (R377). -/
def State.bandRow (s : State) (r b : Nat) : BandRow := s.sys.image.bands.get {} (8 * (s.rimg r).rail.idx + b)

/-- A region's committed state (R267, R271). -/
def composeState (guard_ vret vretOn : Bool) (c : CReg) : RState :=
  if guard_ then .off
  else if vret then (if vretOn then .on else .off)
  else match c.winner with
    | some n => (c.slot n).state
    | none => .off

/-- VIB, VQA and VQC set-points composed (R251): the request held within its window. -/
def vibOf (c : CConv) : Int := clampI c.vibset c.vibwinF c.vibwinC
/-- VQA set-point. -/
def vqaOf (c : CConv) : Int := clampI c.qsetA c.qwinF c.qwinC
/-- VQC set-point. -/
def vqcOf (c : CConv) : Int := clampI c.qsetC c.qwinF c.qwinC

/-! ### Caps (R292, R293) -/

/-- EFFCONV times eta in Q0.28, held within 0.60 and 0.98 (R292). -/
def convFactor (effconv eta : Nat) : Nat := max (min (effconv * eta) 263066746) 161061273
/-- An input-referred ceiling in delivered grains (R292). -/
def delivered (effconv eta g : Nat) : Nat := g * convFactor effconv eta / 2 ^ 28

/-- The orders of R293 that are present, with their ranks, highest rank first. -/
def capOrders (b : CBudget) : List (Nat × Nat) :=
  (if b.trayIn = 0 then [] else [(1, b.trcap)]) ++ [(3, b.mkcap)] ++
  (if b.incap = 0 then [] else [(4, b.incapd)]) ++ (if b.thcap = 0 then [] else [(5, b.thcap)]) ++
  (if b.holdOn then [(6, b.hold)] else []) ++ (if b.opcap = 0 then [] else [(7, b.opcap)])

/-- The standing order: the lowest, the highest rank among equals (R293). -/
def standing (os : List (Nat × Nat)) : Nat × Nat :=
  match os with
  | [] => (3, 0)
  | o :: rest => rest.foldl (fun a x => if x.2 < a.2 then x else a) o

/-- The die cap composed, with its views (R292 to R294). -/
def composeCap (eta : Nat) (b : CBudget) : CBudget :=
  let b := { b with
    trcap := min 65535 (if b.trayIn = 0 then 0 else delivered b.effconv eta b.trayIn),
    incapd := min 65535 (if b.incap = 0 then 0 else delivered b.effconv eta b.incap), eta := eta }
  let o := standing (capOrders b)
  { b with cap := o.2, src := o.1 }

/-! ### Classes and allowances (R295 to R300, R304) -/

/-- Class of a region rail: 0 compute, 1 memory, 2 links, none for the reserve (R295). -/
def classOf : RRail → Option Nat
  | .vcore => some 0
  | .vsram => some 1
  | .vmio => some 1
  | .vlink => some 2
  | .vret => none

/-- Demand from a usage: times 1 + DHEAD / 64, rounded up (R297). -/
def demandOf (dhead u : Nat) : Nat := (u * (64 + dhead) + 63) / 64

/-- The classes in the order of a code (R299). -/
def orderCode : Nat → List Nat
  | 0 => [0, 1, 2]
  | 1 => [0, 2, 1]
  | 2 => [1, 0, 2]
  | 3 => [1, 2, 0]
  | 4 => [2, 0, 1]
  | _ => [2, 1, 0]

/-- Three figures, one per class. -/
abbrev Tri := Nat × Nat × Nat
/-- Figure of a class. -/
def triGet (t : Tri) : Nat → Nat
  | 0 => t.1
  | 1 => t.2.1
  | _ => t.2.2
/-- Figure of a class raised. -/
def triAdd (t : Tri) (k x : Nat) : Tri :=
  match k with
  | 0 => (t.1 + x, t.2.1, t.2.2)
  | 1 => (t.1, t.2.1 + x, t.2.2)
  | _ => (t.1, t.2.1, t.2.2 + x)
/-- Sum of the three. -/
def triSum (t : Tri) : Nat := t.1 + t.2.1 + t.2.2

/-- Pass 1 over the classes in order: demand, by priority (R298). -/
def pass1 (dem max_ : Tri) : List Nat → Tri × Nat → Tri × Nat
  | [], x => x
  | k :: ks, (a, r) =>
    let x := min r (min (triGet dem k) (triGet max_ k) - triGet a k)
    pass1 dem max_ ks (triAdd a k x, r - x)
/-- A value at 32 bits, where pseudocode wraps (R13). -/
def u32 (x : Nat) : Nat := x % 2 ^ 32
/-- Pass 2: headroom, by weight (R298). -/
def pass2 (w max_ : Tri) (r0 : Nat) : List Nat → Tri × Nat → Tri × Nat
  | [], x => x
  | k :: ks, (a, r) =>
    let ws := u32 (triSum w)
    let x := min (if ws = 0 then 0 else u32 (r0 * triGet w k) / ws) (triGet max_ k - triGet a k)
    pass2 w max_ r0 ks (triAdd a k x, r - x)
/-- Remainders: one grain each while any is left and the class lies below its maximum (R298). -/
def passRem (max_ : Option Tri) : List Nat → Tri × Nat → Tri × Nat
  | [], x => x
  | k :: ks, (a, r) =>
    let room := match max_ with
      | none => true
      | some m => decide (triGet a k < triGet m k)
    if decide (0 < r) && room then passRem max_ ks (triAdd a k 1, r - 1) else passRem max_ ks (a, r)

/-- The division of the divisible budget among the classes, with the slack (R298). -/
def divide (d : Nat) (min_ max0 dem : Tri) (order : List Nat) : Tri × Nat :=
  let max_ : Tri := (max min_.1 max0.1, max min_.2.1 max0.2.1, max min_.2.2 max0.2.2)
  let smin := triSum min_
  if d < smin then
    let a : Tri := (u32 (d * min_.1) / smin, u32 (d * min_.2.1) / smin, u32 (d * min_.2.2) / smin)
    passRem none order (a, d - triSum a)
  else
    let p1 := pass1 dem max_ order (min_, d - smin)
    let w := if triSum dem = 0 then min_ else dem
    let p2 := pass2 w max_ p1.2 [0, 1, 2] p1
    passRem (some max_) order p2

/-- Parts of `total` in proportion to weights, remainders one grain each in list order; equal parts for zero weights
(R300). -/
def proportion (total : Nat) (ws : List Nat) : List Nat :=
  let w := if ws.sum = 0 then ws.map fun _ => 1 else ws
  if w.sum = 0 then []
  else
    let base := w.map fun x => total * x / w.sum
    let rem := total - base.sum
    base.zipIdx.map fun x => if x.2 < rem then x.1 + 1 else x.1

/-- The ceiling of a region that stands: the lower of the thermal and the capacity ceiling, 0 for none (R406). -/
def ceilOf (c : CReg) : Nat :=
  if c.thcap = 0 then c.ccap else if c.ccap = 0 then c.thcap else min c.thcap c.ccap

/-- A class allowance split among its regions (region, demand, ceiling), with what joins the slack (R300, R406). -/
def splitClass (a : Nat) (xs : List (Nat × Nat × Nat)) : List (Nat × Nat) × Nat :=
  let shares := proportion a (xs.map fun x => x.2.1)
  let lim (c v : Nat) : Nat := if c = 0 then v else min c v
  let rows := (xs.zip shares).map fun x => (x.1.1, x.1.2.1, x.1.2.2, x.2, lim x.1.2.2 x.2)
  let held := (rows.map fun x => x.2.2.2.1 - x.2.2.2.2).sum
  let cand := rows.filter fun x => decide (x.2.2.2.2 < x.2.1) && decide (x.2.2.2.2 = x.2.2.2.1)
  let extra := proportion held (cand.map fun x => x.2.1)
  let give := (cand.zip extra).map fun x => (x.1.1, min x.2 (lim x.1.2.2.1 x.1.2.1 - x.1.2.2.2.2))
  let add (r : Nat) : Nat := ((give.filter fun g => g.1 = r).map Prod.snd).sum
  let placed := (give.map Prod.snd).sum
  let un := if xs.isEmpty then a else held - placed
  (rows.map fun x => (x.1, x.2.2.2.2 + add x.1), un)

/-- Usage of a class: its regions committed on, and VQA in links (R295, R297). -/
def State.classUsage (s : State) (c : Committed) (k : Nat) : Nat :=
  (s.regions.map fun r =>
    if (c.reg r).state = .on ∧ classOf (s.rimg r).rail = some k then (s.reg r).use.usage else 0).sum +
  (if k = 2 then s.bud.vqa else 0)

/-- Allowances recomputed on composed state (R296 to R300, R304). -/
def recompute (s : State) (c : Committed) : Committed :=
  let b := composeCap s.bud.eta c.bud
  let rsv := s.bud.rsvWin.foldl max 0
  let d := b.cap - rsv
  let us : Tri := (s.classUsage c 0, s.classUsage c 1, s.classUsage c 2)
  let dem : Tri := (demandOf b.dhead us.1, demandOf b.dhead us.2.1, demandOf b.dhead us.2.2)
  let code := match b.diePhase with
    | .unhinted => b.ord0
    | .prefill => b.ord1
    | .decode => b.ord2
    | .mixed => b.ord3
  let (a, slack) := divide d (b.minC, b.minM, b.minL) (b.maxC, b.maxM, b.maxL) dem (orderCode code)
  let spill := (us.2.2 - a.2.2) + (if b.mkerf then 0 else us.2.1 - a.2.1)
  let ac := a.1 - spill
  let rows (k : Nat) : List (Nat × Nat × Nat) :=
    (s.regions.filter fun r => decide ((c.reg r).state = .on) && decide (classOf (s.rimg r).rail = some k)).map fun r =>
      (r, demandOf b.dhead (s.reg r).use.usage, ceilOf (c.reg r))
  let s0 := splitClass ac (rows 0)
  let s1 := splitClass a.2.1 (rows 1)
  let s2 := splitClass a.2.2 (rows 2)
  let un (k : Nat) (x : List (Nat × Nat) × Nat) : Nat := if (rows k).isEmpty then 0 else x.2
  let b := { b with acomp := ac, amem := a.2.1, alink := a.2.2, slack := min 65535 (slack + un 0 s0 + un 1 s1 + un 2 s2),
                    dcomp := min 65535 dem.1, dmem := min 65535 dem.2.1, dlink := min 65535 dem.2.2,
                    spill := min 65535 spill, reserve := min 65535 rsv }
  let c := { c with bud := b }
  let c := s.regions.foldl (fun c r => c.updReg r fun x => { x with rallow := 0 }) c
  (s0.1 ++ s1.1 ++ s2.1).foldl (fun c x => c.updReg x.1 fun y => { y with rallow := x.2 }) c

/-- The die phase (R299): from the regions committed on whose phase is hinted. -/
def diePhase (s : State) (c : Committed) : HPhase :=
  let ps := (s.regions.filter fun r => (c.reg r).state = .on).filterMap fun r =>
    match (c.reg r).phase with
    | .unhinted => none
    | p => some p
  match ps with
  | [] => .unhinted
  | p :: rest => if rest.all fun q => q = p then p else .mixed

/-! ### One glue-up's composition (R263) -/

/-- MODE of a pan at reset (R80): off, diode emulation permitted. -/
def modeReset : Nat := 4
/-- Carry in force in a pan (R102), as the hub knows it: the committed permit, or the CARRYAUTO that its pond has set. -/
def State.knownCarry (s : State) (n : Nat) : Bool := bitOf (BitVec.ofNat 32 (s.com.nodeMode.get modeReset n)) 3 || (s.nflt n).carry
/-- The pans that a MODE value commits in (R72, R108): the pan itself, or those of a region pond, where a spare that has not
been admitted does not take MODE on. -/
def State.modeTargets (s : State) (n : Nat) (v : Word) : List Nat :=
  match s.regions.find? fun r => (s.rimg r).pond = n with
  | some r => (s.rimg r).pans ++ (s.rimg r).spares.filter fun k => (s.nflt k).admitted || decide (ufield v 0 2 ≠ 1)
  | none => [n]
/-- A committed MODE value replaced: a retired pan stays retired (R105). -/
def newMode (old v : Nat) : Nat := if old % 4 = 2 then old else v % 32
/-- The pans that a staged value reaches (R54, R72): those of the target's subtree. -/
def State.pansUnder (s : State) (n : Nat) : List Nat := n :: (s.subtree n).filter fun k => decide (k ≠ n) && s.panKeys.contains k

/-- One write's own fields, region-state orders apart (those go through the slots). -/
def applyCW (s : State) (c : Committed) (w : SWrite) : Committed :=
  match w.cw with
  | .reg off sel v aux => c.write s.eng.loops off sel v aux
  | .order _ _ _ => c
  | .faultOrder _ => c
  | .phase r p => c.updReg r fun x => { x with phase := p }
  | .context r k => c.updReg r fun x => { x with ctx := k }
  | .nodeMode n _ v => (s.modeTargets n v).foldl (fun c k =>
      let c := { c with nodeMode := c.nodeMode.set modeReset k (newMode (c.nodeMode.get modeReset k) v.toNat) }
      match s.regions.find? fun r => (s.rimg r).pans.contains k || (s.rimg r).spares.contains k with
      | some r => c.updReg r fun x => { x with carry := bitOf v 3 }
      | none => c) c
  | .nodeStage n _ sel v =>
    { c with nodeStage := (s.pansUnder n).foldl (fun (t : Tbl (Option Word)) k => t.set none (256 * k + sel.toNat) (some v)) c.nodeStage }
  | .band r b => c.updReg r fun x => { x with band := b }
  | .guardband r g => c.updReg r fun x => { x with gb := g }
  | .phcmd n v => { c with phcmd := c.phcmd.set 0 n v }
  | .holding t =>
    { c with bud := { c.bud with hold := t.getD 0, holdOn := t.isSome } }
  | .trayCeil g => { c with bud := { c.bud with trayIn := g } }
  | .capCeil r g => c.updReg r fun x => { x with ccap := g }
  | .recompute => c
  | .vret b => { c with vretOn := b }

/-- A region's thermal ceiling in its band: a fraction of its rated power, grains (R377, R378). -/
def State.rtcapOf (s : State) (r : Nat) (c : CReg) : Nat :=
  let k := (s.bandRow r c.band).regCeil
  if k = 0 then 0
  else k * ((s.rimg r).pans.map fun n => 100 * (s.node n).rating).sum * (300 + c.setpt) / (64 * 125000)

/-- The die's thermal ceiling: of the highest band among the regions committed on (R378). -/
def State.thcapOf (s : State) (c : Committed) : Nat :=
  let on := s.regions.filter fun r => (c.reg r).state = .on
  let hi := (on.map fun r => (c.reg r).band).foldl max 0
  let cs := (on.filter fun r => decide ((c.reg r).band = hi)).map fun r => (s.bandRow r hi).dieCeil
  (cs.filter fun x => decide (x ≠ 0)).foldl (fun a x => if a = 0 then x else min a x) 0

/-- What R301 names as a reason to recompute differs between two committed states (the order table apart, R28). -/
def budgetMoved (s : State) (c c' : Committed) : Bool :=
  let k (b : CBudget) : List Nat := [b.opcap, b.incap, b.mkcap, b.effconv, b.trayIn, b.thcap, b.hold, b2n b.holdOn]
  let m (b : CBudget) : List Nat := [b.minC, b.maxC, b.minM, b.maxM, b.minL, b.maxL, b.dhead, b2n b.mkerf]
  decide (k c.bud ≠ k c'.bud) || decide (m c.bud ≠ m c'.bud) ||
  s.regions.any fun r => decide ((c.reg r).thcap ≠ (c'.reg r).thcap) || decide ((c.reg r).ccap ≠ (c'.reg r).ccap) ||
    decide ((c.reg r).state ≠ (c'.reg r).state)

/-- The loops that writes of one mode name, with their groups (R236). -/
def State.loopsOf (s : State) (ws : List SWrite) (close : Bool) : List Nat :=
  (ws.flatMap fun w => match w.cw with
    | .reg off sel v _ => if off = 0xC04 ∧ bitOf v 0 = close then groupOf s.eng.loops sel else []
    | _ => []).eraseDups
/-- Closed loops that a set opens, whether or not it closes them again (R196, R243). -/
def State.openedBy (s : State) (ws : List SWrite) : List Nat := (s.loopsOf ws false).filter fun l => (s.com.loop l).closed
/-- Loops that a set closes: open before it, or opened by it (R196, R198). -/
def State.closedBy (s : State) (c : Committed) (ws : List SWrite) : List Nat :=
  (s.loopsOf ws true).filter fun l => (c.loop l).closed && (!(s.com.loop l).closed || (s.openedBy ws).contains l)

/-- Each loop that opens takes its bindings' last sent values as manual values, unless the set writes them (R196). -/
def openLoops (s : State) (ws : List SWrite) (c : Committed) : Committed :=
  (s.openedBy ws).foldl (fun c l => (List.range 4).foldl (fun c b =>
    if ws.any fun w => match w.cw with
      | .reg off sel _ _ => decide (off = 0xC20 + 4 * b) && decide (sel = l)
      | _ => false
    then c
    else
      let x := c.loop l
      { c with loops := c.loops.set {} l { x with man := x.man.set 0 b (s.eng.outs.get {} (4 * l + b)).lastSent } }) c) c

/-- The tide holding follows TEN: H0 within CEIL at the boundary that sets it, no order once it is clear (R342, R344,
R350). -/
def tenHolding (was : Bool) (c : Committed) : Committed :=
  if was = false ∧ c.tide.ten then
    { c with bud := { c.bud with holdOn := true, hold := min c.tide.h0 (min c.tide.iceil c.tide.mceil) } }
  else if c.tide.ten then c
  else { c with bud := { c.bud with holdOn := false, hold := 0 } }

/-- The committed state that a set of writes composes from the present one (R263). -/
def compose (s : State) (ws : List SWrite) : Committed :=
  let c := ws.foldl (applyCW s) s.com
  let c := openLoops s ws c
  let c := s.regions.foldl (fun c r => c.updReg r (updSlots ws r)) c
  let c := s.regions.foldl (fun c r => c.updReg r fun x =>
    let x := composeVolt (s.rimg r).rail (s.bandRow r x.band) x
    let x := { x with state := composeState c.guardStop (decide ((s.rimg r).rail = RRail.vret)) c.vretOn x }
    { x with thcap := s.rtcapOf r x }) c
  let c := { c with bud := { c.bud with thcap := s.thcapOf c } }
  let c := tenHolding s.com.tide.ten c
  let c := { c with bud := { c.bud with diePhase := diePhase s c } }
  if s.sys.ready && (budgetMoved s s.com c || ws.any fun w => decide (w.cw = .recompute)) then recompute s c else c

/-! ### Statuses (R255, R259, R266, R267) -/

/-- Voltage targets of a write: the models whose requested value it changes (R255). -/
def vtargets (c : Committed) : CW → List ModelRef
  | .reg off sel v _ =>
    if off = 0x1080 then (if ufield v 0 10 ≠ (c.reg sel).req then [.region sel] else [])
    else if off = 0x300 then (if ufield v 0 9 ≠ c.conv.vibset then [.rail .vib] else [])
    else if off = 0x35C then
      (if ufield v 0 10 ≠ c.conv.qsetA then [.rail .vqa] else []) ++
      (if ufield v 16 10 ≠ c.conv.qsetC then [.rail .vqc] else [])
    else []
  | _ => []

/-- The composed set-point of a model. -/
def setOf (c : Committed) : ModelRef → Int
  | .region r => (c.reg r).setpt
  | .rail .vib => vibOf c.conv
  | .rail .vqa => vqaOf c.conv
  | .rail .vqc => vqcOf c.conv
/-- The request of a model, guardband included. -/
def reqOf (c : Committed) : ModelRef → Int
  | .region r => ((c.reg r).req : Int) + (c.reg r).gb
  | .rail .vib => c.conv.vibset
  | .rail .vqa => c.conv.qsetA
  | .rail .vqc => c.conv.qsetC
/-- The hub's model of an instantaneous set-point (R255). -/
def State.modelOf (s : State) : ModelRef → Int
  | .region r => (s.reg r).model
  | .rail x => (s.rail x).model
/-- A model is judged only while its region is committed on (R255). -/
def judged (c : Committed) : ModelRef → Bool
  | .region r => (c.reg r).state = .on
  | .rail _ => true

/-- Status and HELD of a register write that is no voltage command (R259, R266). -/
def plainStatus (s : State) (c : Committed) (off sel : Nat) : Status × Bool :=
  let x := c.reg sel
  let l := limitsOf (s.rimg sel).rail (s.bandRow sel x.band) x
  let cl (b : Bool) : Status × Bool := if b then (.clamped, true) else (.done, false)
  match off with
  | 0x200 => cl (decide (c.bud.opcap ≠ 0) && decide (c.bud.cap < c.bud.opcap))
  | 0x204 => cl (decide (c.bud.incap ≠ 0) && decide (c.bud.cap < c.bud.incapd))
  | 0x208 => cl (decide (c.bud.cap < c.bud.mkcap))
  | 0x300 => cl (decide (vibOf c.conv ≠ c.conv.vibset))
  | 0x35C => cl (decide (vqaOf c.conv ≠ c.conv.qsetA) || decide (vqcOf c.conv ≠ c.conv.qsetC))
  | 0x818 => cl (decide (c.tide.ifloor < c.tide.mfloor) || decide (c.tide.mceil < c.tide.iceil))
  | 0x820 => cl (decide (c.tide.tlimmax < c.tide.tlimit))
  | 0x1080 => cl (decide (x.slewmax < x.slew))
  | 0x1084 => cl (decide (l.lo2 ≠ x.ifloor) || decide (l.hi2 ≠ x.iceil))
  | 0x1088 => cl (decide (l.lo1 ≠ x.mfloor) || decide (l.hi1 ≠ x.mceil))
  | _ => (.done, false)

/-- Status and HELD of a write at the glue-up that commits it; a voltage command still slewing is COMMITTED. -/
def statusOf (s : State) (c : Committed) (w : SWrite) : Status × Bool :=
  match w.cw with
  | .order r slot o =>
    if (s.rimg r).rail = .vret then (.failed, false)
    else if c.guardStop then (.overruled, false)
    else
      let x := c.reg r
      if x.slot slot ≠ o then (.overruled, false)
      else if o ≠ .none ∧ x.masked slot then (.overruled, false)
      else (.done, false)
  | .reg off sel _ _ =>
    match vtargets s.com w.cw with
    | [] => plainStatus s c off sel
    | ts =>
      let held := decide (off = 0x1080) && decide ((c.reg sel).slewmax < (c.reg sel).slew)
      if ts.any fun t => setOf c t ≠ reqOf c t then (.clamped, true)
      else if ts.all fun t => !judged c t || decide (s.modelOf t = setOf c t) then (.done, held)
      else (.committed, held)
  | _ => (.done, false)

end Sys2Proof.Machine
end

