-- ==== Sys2Proof/Machine/EngOps.lean ====
section
/-! DEFINITION. The engine's input store and the posting of triggers (R180 to R183, R187): the one road by which samples,
hints, roll-ups, timers, loop outputs and firmware values reach loops. -/

namespace Sys2Proof.Machine

/-- Numbers of the values that firmware places in slots (R180): LIVE (R241). -/
def fwLive : Nat := 0
/-- EEST (R244). -/
def fwEest : Nat := 1
/-- EWIN (R244). -/
def fwEwin : Nat := 2
/-- TIN (R366). -/
def fwTin : Nat := 3
/-- SHIMR (R326). -/
def fwShimr : Nat := 4
/-- DIODE (R374). -/
def fwDiode : Nat := 5
/-- MMON (R389). -/
def fwMmon : Nat := 6

/-- The loops that a slot triggers, with the trigger's number (R178, R180). -/
def Engine.subscribers (e : Engine) (slot : Nat) : List (Nat × Nat) :=
  e.loops.flatMap fun x =>
    (List.range 8).filterMap fun t =>
      if x.2.used && x.2.tvalid.getLsbD t && decide (x.2.trigs.get 0 t = slot) then some (x.1, t) else none

/-- A trigger posted to a loop: pending, its bit set, the earliest posting and instant kept (R187, R188, R194). -/
def postTrigger (instant : Nat) (cke : Nat) (t : Nat) (d : LoopDyn) : LoopDyn :=
  { d with pending := true, pendMask := d.pendMask ||| (1 : BitVec 8) <<< t,
           firstInstant := if d.pending then d.firstInstant else instant,
           posted := if d.pending then d.posted else cke }

/-- A slot takes a value, with its instant, and posts its triggers (R180, R181, R220). Before dispatch has begun nothing
is posted (R449 step 4). -/
def State.slotSet (s : State) (slot : Nat) (v : Word) (instant : Nat) : State :=
  let s := s.updEng fun e => { e with
    input := e.input.set {} slot { value := v, instant := BitVec.ofNat 32 instant, stale := false, wrote := s.cke } }
  (s.eng.subscribers slot).foldl (fun s x => s.updLdyn x.1 (postTrigger instant s.cke x.2)) s

/-- The slots that a source writes (R180). -/
def Engine.slotsOf (e : Engine) (src : SlotSrc) : List Nat := (e.subs.filter fun x => x.src = src).map SubEnt.slot

/-- A source writes its slots (R180); one that the image does not subscribe writes nothing. -/
def State.slotWrite (s : State) (src : SlotSrc) (v : Word) (instant : Nat) : State :=
  (s.eng.slotsOf src).foldl (fun s k => s.slotSet k v instant) s

/-- A value that firmware places (R180): its instant is the write. -/
def State.fwPlace (s : State) (what r m : Nat) (v : Word) : State := s.slotWrite (.firmware what r m) v s.cke

/-- A step hint posted by the hub (R278, R316): lead in 10 ns units, amplitude in A, bit 31 set. -/
def State.postStep (s : State) (r lead amp : Nat) : State :=
  s.slotWrite (.hint 6 r) (BitVec.ofNat 32 (min lead 4095 + amp % 4096 * 2 ^ 16 + 2 ^ 31)) s.cke

end Sys2Proof.Machine
end

