-- ==== Sys2Proof/Machine/Region.lean ====
section
/-! DEFINITION. The region sequencer (R275 to R287), its handover from glue-up, its timed events, and the fence messages
from the accelerator (R282 to R284). -/

namespace Sys2Proof.Machine

/-- Ticks of a stage interval code: 0.5 us each (R274). -/
def stgT (code : Nat) : Nat := 1200 * code
/-- TRET of a region in ticks (R274). -/
def State.tretT (s : State) (r : Nat) : Nat := usT * (s.com.reg r).tret
/-- Target code from a committed state (R269). -/
def retentionCode : Nat := 2

/-- The load and capacity check of one region (R277): load at most 0.85 of the continuous limits in force, in mA; a
roll-up with its charge incomplete, or none since BOOT, fails. -/
def State.passes (s : State) (n : Nat) : Bool :=
  let t := (s.reg n).tel
  let cap := (((s.rimg n).pans ++ (s.rimg n).spares).map fun k =>
    if s.knownOn k ∧ s.knownSt k ≠ .prebias then (if s.knownCarry k then 125 else 100) * (s.node k).rating else 0).sum
  t.closed && !t.chInc && decide (t.epoch.toNat * 100 ≤ 85 * cap * 80)

/-- The regions that a headroom check visits: the region itself and each of its LIVE neighbours (R277). -/
def State.checked (s : State) (r : Nat) : List Nat :=
  r :: (s.rimg r).neigh.filter fun n => (s.reg n).seq.st = .live

/-- RELEASE sent, LIVE entered (R275): FORCED, OVERDUE and STARTFAIL clear. -/
def enterLive (s : State) (r : Nat) : State :=
  (s.updSeq r fun q => { q with st := .live, target := 1, forced := false, overdue := false, startfail := false,
                                holding := false, tag := none, at_ := s.now, inService := true }).fenceMsg (fenceWord 2 0 0 r)

/-- All stages enabled: HANDOVER, and LIVE at once when RGN_RET is low (R275). -/
def enterHandover (s : State) (r : Nat) : State :=
  let s := s.updSeq r fun q => { q with st := .handover, at_ := s.now, holding := false, heldAt := none }
  if (s.reg r).seq.ret then s else enterLive s r

/-- A stage is enabled; the next interval starts (R275, R277). -/
def enableStage (s : State) (r : Nat) (next : Nat) : State :=
  let q := (s.reg r).seq
  let held := match q.heldAt with
    | none => 0
    | some h => s.now - h
  let s := s.updSeq r fun q => { q with stages := q.stages + 1, interval := next, nextAt := s.now + stgT next,
                                        holding := false, heldAt := none, holdSum := q.holdSum + held }
  if 16 ≤ (s.reg r).seq.stages then enterHandover s r else s

/-- The headroom check for the next stage (R275, R277, R278). -/
def stageCheck (s : State) (r : Nat) : State :=
  let q := (s.reg r).seq
  let base := (s.com.reg r).stgint
  let bad := (s.checked r).filter fun n => !s.passes n
  if bad.isEmpty then enableStage s r (max base (q.interval / 2))
  else
    let iv := min 64 (2 * q.interval)
    let s := s.updSeq r fun q => { q with interval := iv, nextAt := s.now + stgT iv, holding := true,
                                          heldAt := some (q.heldAt.getD s.now) }
    bad.foldl (fun s n => s.postStep n (50 * iv) (s.com.reg r).inrush) s

/-- STAGING entered from `k` stages present, the check for the next one made at once (R275, R286). -/
def enterStaging (s : State) (r : Nat) : State :=
  let s := s.updSeq r fun q => { q with st := .staging, target := 1, interval := (s.com.reg r).stgint, at_ := s.now,
                                        heldAt := none, holdSum := 0, forced := false }
  if 16 ≤ (s.reg r).seq.stages then enterHandover s r else stageCheck s r

/-- RISING entered (R275): RGN_PRG low, PURGED cleared. -/
def enterRising (s : State) (r : Nat) : State :=
  s.updSeq r fun q => { q with st := .rising, target := 1, prg := false, prgDue := none, purged := false, stages := 0,
                               purgeslow := false, at_ := s.now, failSeen := false, holdSum := 0, heldAt := none }

/-- FALLING entered: pan MODE off is due at the next open staging (R275). -/
def enterFalling (s : State) (r : Nat) : State :=
  (s.updSeq r fun q => { q with st := .falling, at_ := s.now, holding := false, heldAt := none }).updStg fun g =>
    { g with offsDue := if g.offsDue.contains r then g.offsDue else g.offsDue ++ [r],
             onsDue := g.onsDue.filter fun x => x ≠ r }

/-- LOWERING entered for a target (R275): for retention RGN_RET rises and stages open after TRET. -/
def enterLowering (s : State) (r target : Nat) : State :=
  let keep := decide (target = retentionCode)
  let s := s.updSeq r fun q => { q with st := .lowering, target := target, at_ := s.now, holding := false, heldAt := none,
                                        overdue := false, tag := none, ret := q.ret || keep,
                                        nextAt := if keep then s.now + s.tretT r else s.now }
  if (s.reg r).seq.stages = 0 then enterFalling s r else s

/-- PURGING entered: from RETAINED and FALLING, RGN_PRG rises TRET after RGN_RET fell (R275). -/
def enterPurging (s : State) (r : Nat) (late : Bool) : State :=
  s.updSeq r fun q => { q with st := .purging, target := 3, ret := false, at_ := s.now, agoneAt := s.now, purgeslow := false,
                               prg := !late, prgDue := if late then some (s.now + s.tretT r) else none }

/-- A resting dark state (R275): FORCED clears. -/
def enterDark (s : State) (r : Nat) : State :=
  s.updSeq r fun q => { q with st := .dark, ret := false, prg := false, prgDue := none, forced := false, at_ := s.now }
/-- RETAINED (R275). -/
def enterRetained (s : State) (r : Nat) : State :=
  s.updSeq r fun q => { q with st := .retained, ret := true, prg := false, prgDue := none, forced := false, at_ := s.now }

/-- Pan MODE on due at the next open staging, RISING at once (R286). -/
def riseLater (s : State) (r : Nat) : State :=
  (enterRising s r).updStg fun g => { g with onsDue := if g.onsDue.contains r then g.onsDue else g.onsDue ++ [r],
                                             offsDue := g.offsDue.filter fun x => x ≠ r }

/-- FENCE sent with a new tag (R275, R282). -/
def sendFence (s : State) (r target : Nat) : State :=
  let tag := BitVec.ofNat 8 s.sys.fence
  let arg := match target with
    | 0 => 2
    | 2 => 3
    | _ => 4
  let s := s.updSys fun y => { y with fence := y.fence + 1 }
  (s.updSeq r fun q => { q with st := .fencing, target := target, tag := some tag, at_ := s.now }).fenceMsg (fenceWord 1 tag arg r)

/-- What the sequencer does when a glue-up hands it a committed state (R275, R286). `via` says that an accelerator
REQUEST made it. Pan MODE on of the first three rows stands in the same glue-up already. -/
def seqCommit (s : State) (r : Nat) (new : RState) (via : Bool) : State :=
  let t := new.code
  match (s.reg r).seq.st, new with
  | .dark, .on => enterRising s r
  | .purged, .on => enterRising s r
  | .retained, .on => enterRising s r
  | .dark, .retention => enterRetained s r
  | .dark, .purge => enterPurging s r false
  | .dark, .off => s
  | .retained, .off => enterDark s r
  | .retained, .purge => enterPurging s r true
  | .retained, .retention => s
  | .purged, .off => enterDark s r
  | .purged, .retention => enterRetained s r
  | .purged, .purge => s
  | .rising, .on => s
  | .rising, _ => enterLowering s r t
  | .staging, .on => s
  | .staging, _ => enterLowering s r t
  | .handover, .on => s
  | .handover, _ => enterLowering s r t
  | .live, .on => s
  | .live, _ => if via then enterLowering s r t else sendFence s r t
  | .fencing, .on => enterLive s r
  | .fencing, _ => s.updSeq r fun q => { q with target := t }
  | .lowering, .on => enterStaging s r
  | .lowering, _ => s.updSeq r fun q => { q with
      target := t, nextAt := if t = retentionCode ∧ q.ret = false then max q.nextAt (s.now + s.tretT r) else q.nextAt,
      ret := q.ret || decide (t = retentionCode) }
  | .falling, .on => s.updSeq r fun q => { q with target := 1 }
  | .falling, _ => s.updSeq r fun q => { q with target := t, ret := q.ret || decide (t = retentionCode) }
  | .purging, .on => riseLater s r
  | .purging, .off => enterDark s r
  | .purging, .retention => enterRetained s r
  | .purging, .purge => s

/-- Every sequencer in DARK and every RGN line low at once (R287). -/
def darkAll (s : State) : State :=
  s.regions.foldl (fun s r => s.updSeq r fun q =>
    { q with st := .dark, target := 0, stages := 0, ret := false, prg := false, prgDue := none, holding := false,
             forced := false, overdue := false, heldAt := none, tag := none, at_ := s.now }) s

/-- Every pan of the region is in OFF, FAULTED or RETIRED (R275). -/
def State.pansOff (s : State) (r : Nat) : Bool :=
  ((s.rimg r).pans ++ (s.rimg r).spares).all fun n =>
    !s.knownOn n

/-! ### Timed events of a sequencer -/

/-- RAIL_GOOD (R275, R276): the model has reached SETPT and no below exit has come for the 2 us since. -/
def execRailGood (r : Nat) (s : State) : Host.Outcome State Fault Refusal :=
  let q := (s.reg r).seq
  let from_ := max (s.reg r).modelAtSet q.lastBelow
  if q.st = .rising ∧ (s.reg r).atSet ∧ !s.stg.onsDue.contains r then done (enterStaging (s.reach (from_ + 2 * usT)) r) else done s

/-- STARTFAIL_TIMEOUT (R275): 200 us after the model reached SETPT without rail good. -/
def execStartfailTimeout (r : Nat) (s : State) : Host.Outcome State Fault Refusal :=
  let q := (s.reg r).seq
  if q.st = .rising ∧ (s.reg r).atSet ∧ !s.stg.onsDue.contains r then
    let s := s.reach ((s.reg r).modelAtSet + 200 * usT)
    done (enterFalling (s.updSeq r fun q => { q with startfail := true, failSeen := true }) r)
  else done s

/-- STAGING_INTERVAL (R275, R277 to R279): the present interval ends. -/
def execStagingInterval (r : Nat) (s : State) : Host.Outcome State Fault Refusal :=
  let q := (s.reg r).seq
  if q.st = .staging then
    let s := s.reach q.nextAt
    if q.forced then done (enableStage s r 64) else done (stageCheck s r)
  else done s

/-- FORCED_STAGING (R275, R279): the cumulative hold of this start reaches 200 us. -/
def execForcedStaging (r : Nat) (s : State) : Host.Outcome State Fault Refusal :=
  let q := (s.reg r).seq
  match q.heldAt with
  | none => done s
  | some h =>
    if q.st = .staging ∧ q.forced = false then
      let s := s.reach (h + (200 * usT - q.holdSum))
      let s := (s.updSeq r fun q => { q with forced := true }).tally 0x0E r 0 1
      done (enableStage s r 64)
    else done s

/-- HANDOVER_TRET (R275): TRET since stage 15, RGN_RET high. -/
def execHandoverTret (r : Nat) (s : State) : Host.Outcome State Fault Refusal :=
  let q := (s.reg r).seq
  if q.st = .handover ∧ q.ret then
    let s := s.reach (q.at_ + s.tretT r)
    done (enterLive (s.updSeq r fun q => { q with ret := false }) r)
  else done s

/-- The rank of the order that makes the committed state is 5 or higher (R275): a maker, installer or thermal slot. -/
def State.forcedRank (s : State) (r : Nat) : Bool :=
  match (s.com.reg r).winner with
  | some n => decide (n ≠ 0)
  | none => false

/-- FENCE_TIMEOUT (R275): FENCETO without DRAINED; during an orderly stop TDRAIN bounds the wait instead (R287). -/
def execFenceTimeout (r : Nat) (s : State) : Host.Outcome State Fault Refusal :=
  let q := (s.reg r).seq
  if q.st = .fencing ∧ s.com.guardStop = false then
    let s := s.reach (q.at_ + msT * (s.com.reg r).fenceto)
    if s.forcedRank r then done (enterLowering (s.tally 0x0E r 1 1) r q.target)
    else done (s.updSeq r fun q => { q with overdue := true })
  else done s

/-- STAGE_OPEN (R275): one stage opens every 0.5 us, the highest first; after the last, FALLING. -/
def execStageOpen (r : Nat) (s : State) : Host.Outcome State Fault Refusal :=
  let q := (s.reg r).seq
  if q.st = .lowering ∧ 0 < q.stages then
    let s := s.reach q.nextAt
    let s := s.updSeq r fun q => { q with stages := q.stages - 1, nextAt := s.now + 1200 }
    if (s.reg r).seq.stages = 0 then done (enterFalling s r) else done s
  else done s

/-- What a completed FALLING makes of the region (R275, R286). -/
def finishFalling (s : State) (r : Nat) : State :=
  let q := (s.reg r).seq
  let s := s.updSeq r fun q => { q with failSeen := false }
  if q.failSeen && decide (q.target = 1) then (if q.ret then enterRetained s r else enterDark s r)
  else match q.target with
    | 0 => enterDark s r
    | 1 => riseLater (if q.ret then enterRetained s r else enterDark s r) r
    | 2 => enterRetained s r
    | _ => enterPurging s r true

/-- FALLING_COMPLETE (R275): every region pan is in OFF, FAULTED or RETIRED. -/
def execFallingComplete (r : Nat) (s : State) : Host.Outcome State Fault Refusal :=
  if (s.reg r).seq.st = .falling ∧ s.pansOff r ∧ !s.stg.offsDue.contains r then done (finishFalling s r) else done s

/-- PURGE_CLAMP_TRET (R275): TRET after RGN_RET fell, RGN_PRG rises. -/
def execPurgeClampTret (r : Nat) (s : State) : Host.Outcome State Fault Refusal :=
  match (s.reg r).seq.prgDue with
  | some t =>
    let s := s.reach t
    done (s.updSeq r fun q => { q with prg := true, prgDue := none, agoneAt := s.now })
  | none => done s

/-- AGONE_CHANGE (R272, R281): the column changes RGN_AGONE; a break restarts the count. -/
def execAgoneChange (r : Nat) (level : Bool) (s : State) : Host.Outcome State Fault Refusal :=
  done (s.updSeq r fun q => { q with agone := level, agoneAt := if level && !q.agone then s.now else q.agoneAt })

/-- PURGE_COMPLETE (R275, R281): RGN_AGONE high without a break for PURGEHOLD, RGN_RET low and RGN_PRG high. -/
def execPurgeComplete (r : Nat) (s : State) : Host.Outcome State Fault Refusal :=
  let q := (s.reg r).seq
  if q.st = .purging ∧ q.agone ∧ q.prg ∧ q.ret = false then
    let s := s.reach (q.agoneAt + 10 * usT * (s.com.reg r).purgehold)
    done ((s.updSeq r fun q => { q with st := .purged, purged := true, purgeslow := false, at_ := s.now }).fenceMsg (fenceWord 5 0 0 r))
  else done s

/-- PURGESLOW (R274, R275): 10 ms in PURGING. -/
def execPurgeslow (r : Nat) (s : State) : Host.Outcome State Fault Refusal :=
  let q := (s.reg r).seq
  if q.st = .purging then done ((s.reach (q.at_ + 10 * msT)).updSeq r fun q => { q with purgeslow := true }) else done s

/-! ### Messages from the accelerator -/

/-- The fence lane accepts messages (R476): in every state but OFF and GUARD. -/
def State.fenceOpen (s : State) : Bool := !(s.hw.bstate = .off || s.hw.bstate = .guard_)

/-- DRAINED (R275, R282, R284): accepted from BOOT on, only with the outstanding FENCE's tag. -/
def execDrained (tag : Byte) (r : Nat) (s : State) : Host.Outcome State Fault Refusal :=
  let q := (s.reg r).seq
  if s.fenceOpen ∧ s.hasReg r ∧ q.st = .fencing ∧ q.tag = some tag then done (enterLowering s r q.target) else done s

/-- REFUSE for a REQUEST (R282, R283). -/
def refuse (s : State) (tag : Byte) (reason r : Nat) : State := s.fenceMsg (fenceWord 4 tag reason r)

end Sys2Proof.Machine
end

