-- ==== Sys2Proof/Machine/Stage.lean ====
section
/-! DEFINITION. Staging and completion of writes (R258 to R262, R283, R501 to R503), and the accelerator's REQUEST. -/

namespace Sys2Proof.Machine

/-- The field that a write names, for R260: two writes with one key are writes to the same field. -/
def cwKey : CW → List Nat
  | .reg off sel _ _ => [0, off, sel]
  | .order r slot _ => [1, r, slot]
  | .phase r _ => [2, r]
  | .context r _ => [3, r]
  | .nodeMode n _ _ => [4, n]
  | .nodeStage n _ sel _ => [5, n, sel.toNat]
  | .band r _ => [6, r]
  | .guardband r _ => [7, r]
  | .phcmd n _ => [8, n]
  | .holding _ => [9]
  | .trayCeil _ => [10]
  | .faultOrder r => [11, r]
  | .capCeil r _ => [12, r]
  | .recompute => [13]
  | .vret _ => [14]

/-- The count of a committed or denied write of a role (R411 ID 0x0B): 0 to 2 committed, 3 to 5 denied. -/
def State.tallyRole (s : State) (k : Nat) : State := s.tally 0x0B 0 k 1

/-- A write completes: its record takes the status, HELD and the generation where the status carries one (R259, R503),
and an accelerator REQUEST is answered (R283). -/
def State.complete (s : State) (w : SWrite) (st : Status) (held : Bool) (gen : Word) : State :=
  let carries := st = .done || st = .clamped || st = .committed
  let s := s.updRec w.ticket fun c => { c with status := st, held := held, gen := if carries then gen else c.gen }
  match w.src, w.tag, w.cw with
  | .accel, some t, .order r _ o =>
    if st = .done ∨ st = .clamped then s.fenceMsg (fenceWord 3 t o.code r)
    else if st = .overruled then refuse s t 1 r
    else if st = .superseded then refuse s t 3 r
    else if st = .failed then refuse s t (if (s.rimg r).rail = .vret then 4 else 2) r
    else s
  | _, _, _ => s

/-- An open of a loop followed by its close: both stand in one glue-up (R196, R243; log 26). -/
def openThenClose (x w : SWrite) : Bool :=
  match x.cw, w.cw with
  | .reg a l v _, .reg b m u _ => decide (a = 0xC04) && decide (b = 0xC04) && decide (l = m) && !bitOf v 0 && bitOf u 0
  | _, _ => false
/-- Writes that are in the way of a later one from the same source to the same field (R260). -/
def clashes (w x : SWrite) : Bool :=
  !openThenClose x w && decide (x.src = w.src) && decide (cwKey x.cw = cwKey w.cw) && (decide (w.src ≠ .firmware) || decide (w.grp = x.grp) || decide (w.grp = 0))

/-- A write joins the staging queue: an earlier one of the same source and field completes SUPERSEDED (R260); a full
queue fails the write, derived writes apart (R261). -/
def State.stage (s : State) (w : SWrite) : State :=
  let old := s.stg.queue.filter (clashes w)
  let s := old.foldl (fun s x => s.complete x .superseded false 0) s
  let keep := s.stg.queue.filter fun x => !clashes w x
  let queued (x : SWrite) : Bool := decide (x.src = .host) || decide (x.src = .accel) || decide (x.src = .decoder)
  if queued w ∧ 2048 ≤ ((s.stg.hand.writes ++ keep).filter queued).length then (s.updStg fun g => { g with queue := keep }).complete w .failed false 0
  else s.updStg fun g => { g with queue := keep ++ [w] }

/-- A set of derived writes is staged under one number (R29, R262): it commits or fails whole. -/
def State.stageSet (s : State) (cws : List CW) : State :=
  let g := s.stg.derived
  let s := s.updStg fun x => { x with derived := g + 1 }
  cws.foldl (fun s c => s.stage { cw := c, src := .firmware, grp := g }) s

/-- One write of a firmware policy (R260, R265). -/
def State.stageFw (s : State) (c : CW) : State := s.stage { cw := c, src := .firmware }

/-- A ticket for a host write to committed state, with its new record; the records of the 1,024 latest tickets are kept
(R258, R428). -/
def State.issue (s : State) : State × Nat :=
  let t := s.stg.tkNext.toNat
  let b := s.hw.wrbnd
  let r : CRec := { status := .pending, known := true, bundled := decide (b ≠ 0), bundle := b }
  let old := (t + 65536 - 1025) % 65536
  (s.updStg fun g => { g with
    tkNext := g.tkNext + 1, records := (g.records.set {} old {}).set {} t r,
    bundles := if b = 0 then g.bundles else g.bundles.set [] b (g.bundles.get [] b ++ [t]) }, t)

/-- The write is no member of the bundle. -/
def notMember (ts : List Nat) (w : SWrite) : Bool :=
  match w.ticket with
  | some t => !ts.contains t
  | none => true

/-- Every pending member of a bundle completes FAILED, and those already checked are dropped (R262, R502). -/
def State.failBundle (s : State) (ts : List Nat) : State :=
  let s := ts.foldl (fun s t => s.updRec (some t) fun c => { c with status := .failed }) s
  s.updStg fun g => { g with
    heldW := g.heldW.filter (notMember ts),
    closing := g.closing.filter (fun x => x ≠ ts) }

/-- Every open bundle is abandoned (R502). -/
def State.abandonBundles (s : State) : State :=
  let s := s.stg.bundles.foldl (fun s b => s.failBundle b.2) s
  s.updStg fun g => { g with bundles := [] }

/-- A closed bundle whose members have all been checked is staged whole; one with a member that has completed otherwise
fails whole (R262, R502). -/
def State.tryBundle (s : State) (ts : List Nat) : State :=
  let inQueue := s.hw.queue.any fun w => match w.ticket with
    | some t => ts.contains t
    | none => false
  if inQueue then s
  else
    let ws := ts.filterMap fun t => s.stg.heldW.find? fun w => w.ticket = some t
    let tooMany := decide (64 < ts.length)
    let bad := tooMany || ts.any fun t =>
      let c := (s.crec t).status
      c = .denied || c = .failed || c = .loopClosed
    let s := s.updStg fun g => { g with closing := g.closing.filter fun x => x ≠ ts }
    if bad then s.failBundle ts
    else
      let grp := s.stg.derived
      let s := s.updStg fun g => { g with
        derived := grp + 1,
        heldW := g.heldW.filter fun w => !(ws.contains w) }
      ws.foldl (fun s w => s.stage { w with grp := grp }) s

/-- A bundle's closing write takes effect (R502): no members, no change. -/
def State.closeBundle (s : State) (num : Nat) : State :=
  match s.stg.bundles.get [] num with
  | [] => s
  | ts =>
    let s := s.updStg fun g => { g with bundles := g.bundles.set [] num [], closing := g.closing ++ [ts] }
    s.tryBundle ts

/-- Every closed bundle looked at again, after the host write queue has moved (R502). -/
def State.tryBundles (s : State) : State := s.stg.closing.foldl (fun s ts => s.tryBundle ts) s

/-- REQUEST (R282 to R284): answered by block state, undefined regions and orders refused with reason 2. -/
def execRequest (tag : Byte) (arg : BitVec 4) (r : Nat) (s : State) : Host.Outcome State Fault Refusal :=
  if s.fenceOpen = false then done s
  else
    match orderOfCode arg.toNat with
    | none => done (refuse s tag 2 r)
    | some .none => done (refuse s tag 2 r)
    | some o =>
      if s.hasReg r = false then done (refuse s tag 2 r)
      else match s.hw.bstate with
        | .run | .unattended =>
          if (s.rimg r).rail = .vret then done (refuse s tag 4 r)
          else done (s.stage { cw := .order r 0 o, src := .accel, tag := some tag })
        | .stopping => done (refuse s tag 1 r)
        | _ => done (refuse s tag 2 r)

/-- FENCE_MESSAGE_DISCARD (R282): a message of a reserved type changes nothing. -/
def execFenceMessageDiscard (w : Word) (s : State) : Host.Outcome State Fault Refusal :=
  match w with
  | _ => done s

/-- KERF_RESEND (R476): every region's values go out on the kerf lanes again. -/
def execKerfResend (s : State) : Host.Outcome State Fault Refusal :=
  done (s.regions.foldl (fun s r => s.updPorts fun p => { p with
    krf := p.krf.set (60, 0) r ((s.reg r).krf.kPres, (s.reg r).krf.sPres), krfAt := p.krfAt.set 0 r s.now }) s)

end Sys2Proof.Machine
end

