-- ==== Sys2Proof/Machine/Hint.lean ====
section
/-! DEFINITION. The HNT port and the hint decoder (R314 to R322, R472 to R474), the shim windows and the die shim sequence
(R323 to R327). -/

namespace Sys2Proof.Machine

/-! ### Check codes (R473, R487) -/

/-- One bit of a CRC, most significant bit first. -/
def crcBit (w poly : Nat) (c : Nat) (b : Bool) : Nat :=
  let top := c / 2 ^ (w - 1) % 2
  let c' := c * 2 % 2 ^ w
  if (decide (top = 1)) != b then c' ^^^ poly else c'
/-- A CRC over bytes, each most significant bit first. -/
def crcBytes (w poly : Nat) (bytes : List Nat) (c : Nat) : Nat :=
  bytes.foldl (fun c x => (List.range 8).foldl (fun c i => crcBit w poly c (x / 2 ^ (7 - i) % 2 = 1)) c) c
/-- The CRC-8 of hint words (R473). -/
def crc8 (bytes : List Nat) : Nat := crcBytes 8 0x07 bytes 0
/-- The CRC-16 of activity and dovetail frames (R473, R487). -/
def crc16 (bytes : List Nat) : Nat := crcBytes 16 0x1021 bytes 0xFFFF
/-- The CRC-32 of IEEE 802.3 (R361): reflected, initial value and final XOR all ones. -/
def crc32 (bytes : List Nat) : Nat :=
  let step (c : Nat) (x : Nat) : Nat :=
    (List.range 8).foldl (fun c _ => if c % 2 = 1 then c / 2 ^^^ 0xEDB88320 else c / 2) (c ^^^ x)
  bytes.foldl step 0xFFFFFFFF ^^^ 0xFFFFFFFF
/-- The 8 bytes of a 64-bit word, most significant first. -/
def bytesBE (n : Nat) (w : Nat) : List Nat := (List.range n).map fun i => w / 2 ^ (8 * (n - 1 - i)) % 256

/-! ### Acceptance (R317, R474) -/

/-- Bits of a body that the type names (R315). -/
def bodyBits : Nat → Nat
  | 1 => 2
  | 2 => 16
  | 3 => 28
  | 4 => 40
  | 5 => 9
  | 6 => 24
  | 7 => 20
  | _ => 0

/-- Regions that the image assigns to a source, ascending (R317). -/
def State.srcRegions (s : State) (x : Nat) : List Nat := s.regions.filter fun r => (s.rimg r).src = some x

/-- Hint words are accepted in these block states (R317). -/
def State.hintState (s : State) : Bool := s.hw.bstate = .run || s.hw.bstate = .unattended

/-- What becomes of a word that passed the port check: accepted, or the HNTDROP field it counts in, first reason first
(R317): 1 RATE, 2 OTHER, 3 SCOPE; 0 accepted. -/
def State.hintVerdict (s : State) (ty : Nat) (h : Hint) : Nat :=
  let x := s.hsrc h.src
  let p := s.com.hnt.get {} h.src
  let late := match x.lastAt with
    | none => true
    | some t => decide (240 ≤ s.now - t)
  if late = false then 1
  else if s.hintState = false ∨ x.ver = 0 ∨ p.en = false ∨ ty = 0 ∨ 8 ≤ ty ∨ p.tmask.getLsbD ty = false ∨
      2 ^ bodyBits ty ≤ h.body.toNat ∨ (h.all ∧ (x.ver = 1 ∨ (s.sys.image.hintAll.get 0 h.src).getLsbD ty = false)) then 2
  else if h.all = false ∧ (s.srcRegions h.src).contains h.region = false then 3
  else 0

/-- The source's counters and history after a word that passed the port check (R317, R322). -/
def hintCount (now : Nat) (verdict : Nat) (h : Hint) (x : HintSrc) : HintSrc :=
  match verdict with
  | 1 => { x with lastAt := some now, rate := x.rate + 1 }
  | 2 => { x with lastAt := some now, other := x.other + 1 }
  | 3 => { x with lastAt := some now, scope_ := x.scope_ + 1 }
  | _ => { x with lastAt := some now, accept := x.accept + 1, lastSeq := h.seq, first := false,
                  gap := if x.first then x.gap else x.gap + (h.seq - x.lastSeq - 1) }

/-- Fields of a hint body. -/
def hfield (h : Hint) (lo w : Nat) : Nat := h.body.toNat / 2 ^ lo % 2 ^ w

/-- The slot value of a hint (R316). -/
def hintSlot (ty : Nat) (h : Hint) : Word :=
  match ty with
  | 1 => BitVec.ofNat 32 (hfield h 0 2)
  | 2 => BitVec.ofNat 32 (hfield h 0 16)
  | 3 => BitVec.ofNat 32 (hfield h 0 28)
  | 4 => BitVec.ofNat 32 (hfield h 24 16 + hfield h 0 8 * 2 ^ 16)
  | 5 => BitVec.ofNat 32 (hfield h 0 9)
  | _ => BitVec.ofNat 32 (hfield h 0 12 + hfield h 12 12 * 2 ^ 16)

/-- A shim window opened by BWAIT or closed (R323). -/
def State.bwaitWin (s : State) (r : Nat) (entry : Bool) : State :=
  s.updKrf r fun k => if entry then { k with win := 1, winAt := if k.win = 0 then s.now else k.winAt, annAt := none }
                      else { k with win := 0 }

/-- One region's share of an accepted hint (R315, R316, R319, R323). -/
def State.hintEffect (s : State) (ty : Nat) (h : Hint) (r : Nat) : State :=
  let slot (s : State) : State := s.slotWrite (.hint ty r) (hintSlot ty h) s.cke
  match ty with
  | 1 => (slot s).stage { cw := .phase r (hphaseOf (hfield h 0 2)), src := .decoder }
  | 4 => (slot s).updKrf r fun k => { k with annAt := some (s.now + 240 * hfield h 8 16),
                                             slack := (BitVec.ofNat 16 (hfield h 24 16)).toInt, slackAt := some s.now }
  | 5 => (slot s).bwaitWin r (decide (hfield h 8 1 = 1))
  | 7 => s.stage { cw := .context r (max 1 (hfield h 0 20)), src := .decoder }
  | _ => slot s

/-- A hint word that passed the port check arrives (R317 to R319); nothing of an absent source is counted (R474). -/
def State.hintIn (s : State) (ty : Nat) (h : Hint) : State :=
  if (s.hsrc h.src).attached = false ∨ 16 ≤ h.src then s
  else
    let v := s.hintVerdict ty h
    let s' := s.updHsrc h.src (hintCount s.now v h)
    if v ≠ 0 then s'
    else
      let rs := if h.all then s.srcRegions h.src else [h.region]
      rs.foldl (fun s r => s.hintEffect ty h r) s'

/-- The 64-bit word that a 72-bit transfer carries, as its common fields (R314, R473). -/
def hintOf (src : Nat) (w : BitVec 72) : Hint :=
  let x := w.toNat / 256
  { src := src, seq := BitVec.ofNat 8 (x / 2 ^ 52), all := decide (x / 2 ^ 51 % 2 = 1), region := x / 2 ^ 41 % 1024,
    body := BitVec.ofNat 41 x }

/-- HINT_WORD_CHECK (R317, R473): 72 bits arrive at HNT; a failed CRC-8 is counted under CHECK. -/
def execHintWordCheck (src : Nat) (w : BitVec 72) (s : State) : Host.Outcome State Fault Refusal :=
  if (s.hsrc src).attached = false ∨ 16 ≤ src then done s
  else if crc8 (bytesBE 8 (w.toNat / 256)) ≠ w.toNat % 256 then
    done (s.updHsrc src fun x => { x with check := x.check + 1 })
  else done (s.hintIn (w.toNat / 2 ^ 68) (hintOf src w))

/-- PHASE (R315, R319). -/
def execPhase (x : Hint) (s : State) : Host.Outcome State Fault Refusal := done (s.hintIn 1 x)
/-- BATCH (R315). -/
def execBatch (x : Hint) (s : State) : Host.Outcome State Fault Refusal := done (s.hintIn 2 x)
/-- KVGROW (R315). -/
def execKvgrow (x : Hint) (s : State) : Host.Outcome State Fault Refusal := done (s.hintIn 3 x)
/-- BARRIER (R315, R323, R345). -/
def execBarrier (x : Hint) (s : State) : Host.Outcome State Fault Refusal := done (s.hintIn 4 x)
/-- BWAIT (R315, R323). -/
def execBwait (x : Hint) (s : State) : Host.Outcome State Fault Refusal := done (s.hintIn 5 x)
/-- STEP (R315, R316). -/
def execStep (x : Hint) (s : State) : Host.Outcome State Fault Refusal := done (s.hintIn 6 x)
/-- CONTEXT (R315, R319). -/
def execContext (x : Hint) (s : State) : Host.Outcome State Fault Refusal := done (s.hintIn 7 x)

/-- The bytes that an activity frame's CRC covers (R473). -/
def frameBytes (seq : BitVec 16) (counts : List (BitVec 16)) : List Nat :=
  (seq :: counts).flatMap fun x => bytesBE 2 x.toNat

/-- ACTIVITY_FRAME (R320, R473, R474). -/
def execActivityFrame (src : Nat) (seq : BitVec 16) (counts : List (BitVec 16)) (crc : BitVec 16) (s : State) :
    Host.Outcome State Fault Refusal :=
  let x := s.hsrc src
  if x.attached = false ∨ 16 ≤ src then done s
  else if crc16 (frameBytes seq counts) ≠ crc.toNat then
    done (s.updHsrc src fun y => { y with check := y.check + 1 })
  else if s.hintState = false ∨ x.ver ≤ 1 ∨ (s.com.hnt.get {} src).aen = false then
    done (s.updHsrc src fun y => { y with other := y.other + 1 })
  else
    done (((s.sys.image.actList.get [] src).zip counts).foldl
      (fun s p => s.slotWrite (.activity p.1) (p.2.setWidth 32) s.cke) s)

/-- HNT_RDY_RISE (R317, R474): the source attaches, its version settles, its history is forgotten. -/
def execHntRdyRise (src : Nat) (ver : BitVec 4) (s : State) : Host.Outcome State Fault Refusal :=
  if 16 ≤ src then done s
  else done (s.updHsrc src fun x => { x with attached := true, ver := min 2 ver.toNat, first := true, lastAt := none })

/-- HNT_RDY_FALL (R474): the source is absent. -/
def execHntRdyFall (src : Nat) (s : State) : Host.Outcome State Fault Refusal :=
  if 16 ≤ src then done s else done (s.updHsrc src fun x => { x with attached := false })

/-! ### Shim windows and the die sequence -/

/-- Regions with an open window (R323). -/
def State.windows (s : State) : List Nat := s.regions.filter fun r => (s.reg r).krf.win ≠ 0

/-- SHIM_ANNOUNCED_ARRIVAL (R323). -/
def execShimAnnouncedArrival (r : Nat) (s : State) : Host.Outcome State Fault Refusal :=
  match (s.reg r).krf.annAt with
  | some t =>
    let s := s.reach t
    done (s.updKrf r fun k => { k with annAt := none, win := if k.win = 0 then 2 else k.win,
                                       winAt := if k.win = 0 then s.now else k.winAt })
  | none => done s

/-- ANNWAIT_EXPIRY (R323). -/
def execAnnwaitExpiry (r : Nat) (s : State) : Host.Outcome State Fault Refusal :=
  let k := (s.reg r).krf
  if k.win = 2 then
    done ((s.reach (k.winAt + 10 * usT * s.com.shim.annwait)).updKrf r fun k => { k with win := 0 })
  else done s

/-- The die's mean input current over the last complete 1 ms window, 0.1 A (R324): delivered power over the factor of
R292 and over VIN. -/
def State.irefNow (s : State) : Nat :=
  s.bud.deliv * 1250 * 2 ^ 28 / (convFactor s.com.bud.effconv s.bud.eta * max 1 s.ports.meanVin)

/-- Feature bit that a dovetail type needs (R486): droop alert 0 (written as type 4 here), shim onset 1, tide 2,
presence 3. -/
def dvtFeature : Nat → Nat
  | 1 => 2
  | 2 => 1
  | 3 => 3
  | _ => 0

/-- A frame leaves every enabled dovetail port that is up and carries its type; a miswired port carries presence alone
(R324, R486, R487, R490). -/
def State.dvtSendAll (s : State) (except : Option Nat) (ty : Nat) (bytes : List Byte) : State :=
  (List.range 4).foldl (fun s p =>
    if s.com.tide.dvtEn.getLsbD p && (s.dvt p).up && (!(s.dvt p).miswire || decide (ty = 3)) && (s.dvt p).feat.getLsbD (dvtFeature ty) && decide (except ≠ some p) then
      s.updDvt p fun d => { d with tx := d.tx ++ [(ty, bytes)] } else s) s

/-- Bytes of a dovetail frame from TYPE on: TYPE, origin, HOP, payload (R487). -/
def dvtBytes (ty origin hop : Nat) (payload : List Byte) : List Byte :=
  [BitVec.ofNat 8 ty, BitVec.ofNat 8 origin, BitVec.ofNat 8 hop] ++ payload

/-- SHIM_ONSET (R324, R325): the first window opens in IDLE. -/
def execShimOnset (s : State) : Host.Outcome State Fault Refusal :=
  if s.shim.st = 0 ∧ !s.windows.isEmpty then
    let i := s.irefNow
    let peers := s.shim.peers.filter fun t => s.now - t ≤ msT
    let s := s.updShim fun h => { h with st := 1, iref := i, f := s.com.shim.floor * i / 10, onset := s.now,
                                         tref := peers.foldl min s.now, updAt := s.now }
    let s := s.regions.foldl (fun s r => s.updUse r fun u => { u with onWin := u.usage }) s
    done (s.dvtSendAll none 2 (dvtBytes 2 s.com.tide.bslot 0 []))
  else done s

/-- TAPER_START (R325): at t_ref + HOLD + SLOT times STAG. -/
def execTaperStart (s : State) : Host.Outcome State Fault Refusal :=
  if s.shim.st = 1 then
    let c := s.com.shim
    let s := s.reach (s.shim.tref + 10 * usT * c.hold + c.slot * (10 * usT * c.stag))
    done (s.updShim fun h => { h with st := 2, updAt := s.now })
  else done s

/-- The delivered floor in grains (R326): F times VIN times the factor of R292. -/
def State.shimPF (s : State) : Nat :=
  s.shim.f * s.ports.meanVin * convFactor s.com.bud.effconv s.bud.eta / (12500 * 2 ^ 28)

/-- Targets placed in SHIMR for every region (R326). -/
def State.shimTargets (s : State) : State :=
  let ws := s.windows
  let pout := ((s.regions.filter fun r => !ws.contains r).map fun r => (s.reg r).tel.energy / 256).sum
  let sw := (ws.map fun r => (s.reg r).use.onWin).sum
  s.regions.foldl (fun s r =>
    let t := if ws.contains r ∧ sw ≠ 0 then (s.shimPF - pout) * (s.reg r).use.onWin / sw else 0
    s.fwPlace fwShimr r 0 (BitVec.ofNat 32 t)) s

/-- SHIM_TARGET_UPDATE (R325, R326): every 100 us in HOLD and TAPER; in TAPER the floor falls by its slope. -/
def execShimTargetUpdate (s : State) : Host.Outcome State Fault Refusal :=
  if s.shim.st = 0 then done s
  else
    let s := s.reach (s.shim.updAt + 100 * usT)
    let s := s.updShim fun h => { h with updAt := s.now, f := if h.st = 2 then h.f - s.com.shim.slope else h.f }
    done (if s.sys.ready then s.shimTargets else s)

/-- SHIM_IDLE (R323, R325): F has reached zero in TAPER, or no window has been open for 100 us. Every window closes and
every target is 0. -/
def execShimIdle (s : State) : Host.Outcome State Fault Refusal :=
  let idle (s : State) : State :=
    let s := s.updShim fun h => { h with st := 0 }
    let s := s.regions.foldl (fun s r => s.updKrf r fun k => { k with win := 0 }) s
    s.regions.foldl (fun s r => s.fwPlace fwShimr r 0 0) s
  if s.shim.st = 0 then done s
  else if s.shim.st = 2 ∧ s.shim.f = 0 then done (idle s)
  else match s.shim.noneAt with
    | some t => if s.windows.isEmpty then done (idle (s.reach (t + 100 * usT))) else done s
    | none => done s

end Sys2Proof.Machine
end

