-- ==== Sys2Proof/Machine/Ledger.lean ====
section
/-! DEFINITION. The energy ledger (R331 to R339): attribution, the cache, write-backs, the clear and queries. -/

namespace Sys2Proof.Machine

/-- Contexts committed to some region, and 0 and 1 (R334). -/
def State.pinned (s : State) (c : Nat) : Bool :=
  decide (c ≤ 1) || s.regions.any fun r => decide ((s.com.reg r).ctx = c)

/-- The cached line of a context. -/
def Ledger.line (l : Ledger) (c : Nat) : Option LedLine := l.cache.find? fun x => x.ctx = c
/-- Change the cached line of a context. -/
def Ledger.updLine (l : Ledger) (c : Nat) (f : LedLine → LedLine) : Ledger :=
  { l with cache := l.cache.map fun x => if x.ctx = c then f x else x }

/-- The clean unpinned line charged least recently (R334). -/
def State.victim (s : State) : Option LedLine :=
  (s.led.cache.filter fun x => !x.dirty && !x.failed && x.wb.isNone && !s.pinned x.ctx).foldl
    (fun a x => match a with
      | none => some x
      | some y => if x.used < y.used then some x else a) none

/-- A line for a context that is not cached: a free one, else the clean unpinned one charged least recently; at or above
the clear pointer its value is zero without a read (R334, R336). -/
def State.ledAlloc (s : State) (c : Nat) : Option State :=
  let fresh : LedLine := { ctx := c, ready := decide (s.led.clearPtr ≤ c), used := s.epoch.toNat }
  let put (l : Ledger) : Ledger := { l with cache := l.cache ++ [fresh], stall := false }
  if s.led.cache.length < 4096 then some (s.updLed put)
  else match s.victim with
    | some v => some (s.updLed fun l => put { l with cache := l.cache.filter fun x => x.ctx ≠ v.ctx })
    | none => none

/-- A context is cached, or made so (R334). -/
def State.ledReady (s : State) (c : Nat) : State × Bool :=
  match s.led.line c with
  | some _ => (s, true)
  | none => match s.ledAlloc c with
    | some s' => (s', true)
    | none => (s, false)

/-- One charge of a roll-up: context, amount, and whether its region was kerfed. -/
structure Charge where
  ctx : Nat
  amount : Nat
  kerfed : Bool
  region : Nat
  deriving DecidableEq, Repr

/-- What a region's increment is charged to (R332). -/
def chargesOf (vret : Bool) (k : KerfDyn) (r delta : Nat) : List Charge :=
  if vret || !k.eService || decide (k.eCtx = 1) then [⟨1, delta, k.eKerfed, r⟩]
  else
    let sh := delta * min k.eCycles 4800 / 4800
    (if sh = 0 then [] else [⟨0, sh, k.eKerfed, r⟩]) ++ [⟨k.eCtx, delta - sh, k.eKerfed, r⟩]

/-- A context's entry after the charges of one roll-up (R333). -/
def chargeEnt (cs : List Charge) (e : LedEnt) : LedEnt :=
  let sum := (cs.map Charge.amount).sum
  { energy := e.energy + BitVec.ofNat 64 sum,
    active := if cs.any (fun c => c.amount ≠ 0) then e.active + 1 else e.active,
    kerfed := if cs.any (fun c => c.kerfed && decide (c.amount ≠ 0)) then e.kerfed + 1 else e.kerfed }

/-- Attribution of one roll-up (R332 to R334): charges to contexts that no line can be had for go to context 1. -/
def State.attribute (s : State) : State :=
  let deltas := s.regions.map fun r => (r, ((s.reg r).tel.visible - (s.reg r).tel.ledSeen).toNat)
  let s := s.regions.foldl (fun s r => s.updTel r fun t => { t with ledSeen := t.visible }) s
  if s.led.eLed = false then s
  else
    let cs := deltas.flatMap fun x => chargesOf (decide ((s.rimg x.1).rail = .vret)) (s.reg x.1).krf x.1 x.2
    let need := (cs.map Charge.ctx).eraseDups
    let (s, missed) := need.foldl (fun (a : State × List Nat) c =>
      if cs.any fun x => x.ctx = c && decide (x.amount ≠ 0) then
        let (s', ok) := a.1.ledReady c
        if ok then (s', a.2) else (s', c :: a.2)
      else a) (s, [])
    let lost := cs.filter fun x => missed.contains x.ctx && decide (x.amount ≠ 0)
    let cs := cs.map fun x => if missed.contains x.ctx then { x with ctx := 1 } else x
    let need := (cs.map Charge.ctx).eraseDups
    let s := (s.ledReady 1).1
    let s := need.foldl (fun s c =>
      let mine := cs.filter fun x => x.ctx = c && decide (x.amount ≠ 0)
      if mine.isEmpty then s
      else s.updLed fun l => l.updLine c fun x =>
        { x with ent := chargeEnt mine x.ent, used := s.epoch.toNat, dirty := true,
                 changed := if x.dirty then x.changed else s.epoch.toNat }) s
    let total := (cs.map Charge.amount).sum
    s.updLed fun l => { l with total := l.total + BitVec.ofNat 64 total, mis := l.mis + BitVec.ofNat 32 lost.length,
                               stall := l.stall || !lost.isEmpty }

/-- The entry of a context as the cache and the window hold it. -/
def Ledger.entry (l : Ledger) (c : Nat) : LedEnt :=
  let m := if l.clearPtr ≤ c ∧ l.st = 1 ∧ (l.line c).isNone then {} else l.mem.get {} c
  match l.line c with
  | some x => if x.ready then x.ent
      else { energy := x.ent.energy + m.energy, active := x.ent.active + m.active, kerfed := x.ent.kerfed + m.kerfed }
  | none => m

/-- A pending query takes its results at a roll-up close, once the attributions are complete (R337). -/
def State.queryTake (s : State) : State :=
  if s.led.qst = 1 ∧ s.led.qArmed = false then
    s.updLed fun l =>
      let names := (List.range l.qcount).map fun i => l.qctx.get 0 i
      { l with qArmed := true, qnames := names, qepoch := s.tel.epoch, qgen := s.tel.gen, qtotal := l.total,
               qres := names.zipIdx.foldl (fun t x => t.set {} x.2 (l.entry x.1)) [] }
  else s

/-- LEDEN as a glue-up commits it (R335, R336). -/
def State.ledCommit (s : State) (was now_ : Bool) : State :=
  if was = now_ then s
  else if now_ then
    s.updLed fun l => { l with st := 1, cache := [], mem := [], clearPtr := 0, total := 0, fault := false, stall := false }
  else
    s.updLed fun l => { l with st := if l.cache.any fun x => x.dirty then 3 else 0,
                               cache := if l.cache.any fun x => x.dirty then l.cache else [] }

/-- LEDGER_WRITE_BACK (R335): a dirty entry's write to the window is issued. -/
def execLedgerWriteBack (ctx : Nat) (s : State) : Host.Outcome State Fault Refusal :=
  match s.led.line ctx with
  | some x =>
    if x.dirty ∧ x.ready ∧ x.wb = none then
      done (s.updLed fun l => l.updLine ctx fun x => { x with wb := some x.ent })
    else done s
  | none => done s

/-- LEDGER_WRITE_COMPLETE (R335, R471): the memory path completes the write, or signals HST_MERR; the last dirty entry of
a flush disables the ledger. -/
def execLedgerWriteComplete (ctx : Nat) (ok : Bool) (s : State) : Host.Outcome State Fault Refusal :=
  match s.led.line ctx with
  | some x =>
    match x.wb with
    | some v =>
      if ok then
        let s := s.updLed fun l =>
          let l := l.updLine ctx fun x => { x with wb := none, failed := false, dirty := decide (x.ent ≠ v),
                                                   changed := s.epoch.toNat }
          { l with mem := l.mem.set {} ctx v }
        done (s.updLed fun l => if l.st = 3 ∧ !(l.cache.any fun x => x.dirty) then { l with st := 0, cache := [] } else l)
      else
        done (s.updLed fun l =>
          let l := l.updLine ctx fun x => { x with wb := none, failed := true }
          { l with fault := true, faultAt := s.now })
    | none => done s
  | none => done s

/-- LEDFAULT_CLEAR (R335): 1 ms with no failed write. -/
def execLedfaultClear (s : State) : Host.Outcome State Fault Refusal :=
  if s.led.fault then done ((s.reach (s.led.faultAt + msT)).updLed fun l => { l with fault := false }) else done s

/-- LEDGER_FETCH_COMPLETE (R334): the window's value arrives and is added to what was charged since the allocation. -/
def execLedgerFetchComplete (ctx energy active kerfed : Nat) (s : State) : Host.Outcome State Fault Refusal :=
  match s.led.line ctx with
  | some x =>
    if x.ready then done s
    else done (s.updLed fun l => l.updLine ctx fun x => { x with
      ready := true,
      ent := { energy := x.ent.energy + BitVec.ofNat 64 energy, active := x.ent.active + BitVec.ofNat 32 active,
               kerfed := x.ent.kerfed + BitVec.ofNat 32 kerfed } })
  | none => done s

/-- LEDGER_QUERY_READY (R337): the results become readable and cause LEDQ rises. -/
def execLedgerQueryReady (s : State) : Host.Outcome State Fault Refusal :=
  if s.led.qst = 1 ∧ s.led.qArmed then
    done ((s.updLed fun l => { l with qst := 2, qArmed := false, qseq := l.qseq + 1 }).cause 4)
  else done s

/-- LEDGER_CLEAR_COMPLETE (R336): the clear pointer has passed every entry. -/
def execLedgerClearComplete (s : State) : Host.Outcome State Fault Refusal :=
  if s.led.st = 1 then done (s.updLed fun l => { l with st := 2, clearPtr := 1048576 }) else done s

end Sys2Proof.Machine
end

