-- ==== Sys2Proof/Machine/Tide.lean ====
section
/-! DEFINITION. The tide logic (R341 to R364): frames, receipt and crediting, escrow, windows and plans, death, expulsion
and release. -/

namespace Sys2Proof.Machine

/-! ### Frames (R361) -/

/-- A number in little-endian bytes. -/
def leBytes (n x : Nat) : List Byte := (List.range n).map fun i => BitVec.ofNat 8 (x / 2 ^ (8 * i))
/-- The number that little-endian bytes spell. -/
def leNat (bs : List Byte) : Nat := bs.foldr (fun b a => b.toNat + 256 * a) 0
/-- Bytes `lo` to `lo + n - 1` of a list, as a number. -/
def leAt (bs : List Byte) (lo n : Nat) : Nat := leNat ((bs.drop lo).take n)

/-- Bytes 0 to 59 of a frame (R361). -/
def frameBody (f : TideFrame) : List Byte :=
  [f.ty, f.ver] ++ leBytes 3 (f.dst % 2 ^ 20) ++ leBytes 3 (f.src % 2 ^ 20) ++ leBytes 4 f.group ++ leBytes 4 f.sinc ++
  leBytes 4 f.dinc ++ leBytes 6 f.seq ++ leBytes 2 f.grains ++ leBytes 2 (encS 16 f.urg) ++ leBytes 2 f.offer ++
  leBytes 2 f.want ++ leBytes 4 f.hold ++ [f.flags] ++ List.replicate 21 0
/-- The 64 bytes of a frame, CHECK included (R361). -/
def tideBytes (f : TideFrame) : List Byte :=
  frameBody f ++ leBytes 4 (crc32 ((frameBody f).map BitVec.toNat))
/-- The frame that 64 bytes spell; none where CHECK fails or the length is not 64 (R361). -/
def parseTide (bs : List Byte) : Option TideFrame :=
  if bs.length = 64 ∧ crc32 ((bs.take 60).map BitVec.toNat) = leAt bs 60 4 then
    some { ty := bs.getD 0 0, ver := bs.getD 1 0, dst := leAt bs 2 3, src := leAt bs 5 3, group := leAt bs 8 4,
           sinc := leAt bs 12 4, dinc := leAt bs 16 4, seq := leAt bs 20 6, grains := leAt bs 26 2,
           urg := (BitVec.ofNat 16 (leAt bs 28 2)).toInt, offer := leAt bs 30 2, want := leAt bs 32 2,
           hold := leAt bs 34 4, flags := bs.getD 38 0 }
  else none

/-- The frame passes the receiver's rules (R361). -/
def State.frameOk (s : State) (f : TideFrame) : Bool :=
  decide (f.ver = 1) && decide (1 ≤ f.ty.toNat) && decide (f.ty.toNat ≤ 5) && decide (f.group = s.com.tide.group) &&
  decide (f.dst = s.com.tide.dieId) && s.com.tide.ten

/-! ### Carriage (R360, R409, R489, R491) -/

/-- The port towards a board slot, choosing the direction with fewer hops; on a ring the other way where that port cannot
carry the frame (R409, R489). -/
def State.dvtRoute (s : State) (slot : Nat) : Option Nat :=
  let t := s.com.tide
  let n := t.ndies + 1
  let carries (p : Nat) : Bool := t.dvtEn.getLsbD p && (s.dvt p).up && !(s.dvt p).miswire && (s.dvt p).feat.getLsbD 2
  let portTo (x : Nat) : Option Nat := (List.range 4).find? fun p => decide (t.dvtSlot.get 0 p = x) && carries p
  let up := portTo ((t.bslot + 1) % n)
  let down := portTo ((t.bslot + n - 1) % n)
  if t.ring then
    if (slot + n - t.bslot) % n ≤ (t.bslot + n - slot) % n then up <|> down else down <|> up
  else if t.bslot < slot then up else down

/-- The board slot of a die, as presence has told it (R487). -/
def State.slotOfDie (s : State) (die : Nat) : Option Nat := (s.ports.slots.find? fun x => x.2 = die + 1).map Prod.fst

/-- The fabric queue after one more frame (R491): 256 at most, ADVERT frames dropped first. -/
def fabPush (q : List (List Byte)) (f : List Byte) : List (List Byte) :=
  if q.length < 256 then q ++ [f]
  else if f.getD 0 0 = 3 then q
  else match q.findIdx? fun x => x.getD 0 0 = 3 with
    | some i => q.eraseIdx i ++ [f]
    | none => q

/-- A frame is sent to a peer: over the dovetail for a board peer with a route, else through FAB (R360). -/
def State.tideSend (s : State) (p : Nat) (f : TideFrame) : State :=
  let e := s.com.tide.peers.get {} p
  let bs := tideBytes f
  let route := if e.board then (s.slotOfDie e.die).bind s.dvtRoute else none
  match route with
  | some k => s.updDvt k fun d => { d with tx := d.tx ++ [(1, dvtBytes 1 s.com.tide.bslot 0 bs)] }
  | none => if s.ports.fabUp then s.updPorts fun q => { q with fabTx := fabPush q.fabTx bs } else s

/-- A frame of this die to a peer with its common fields filled. -/
def State.tideFrame (s : State) (p : Nat) (ty : Byte) : TideFrame :=
  { ty := ty, ver := 1, dst := (s.com.tide.peers.get {} p).die, src := s.com.tide.dieId, group := s.com.tide.group,
    sinc := s.tide.inc, dinc := (s.tpeer p).inc, seq := 0, grains := 0, urg := 0, offer := 0, want := 0, hold := 0, flags := 0 }

/-- XFER of an escrow entry, the same at every sending (R351, R353). -/
def State.sendXfer (s : State) (e : Escrow) : State :=
  s.tideSend e.peer { s.tideFrame e.peer 1 with dinc := e.inc, seq := e.seq, grains := e.grains }

/-! ### State of the tide logic -/

/-- The effective floor (R346). -/
def tideFloor (t : CTide) : Nat := max t.ifloor t.mfloor
/-- The effective ceiling (R346). -/
def tideCeil (t : CTide) : Nat := min t.iceil t.mceil
/-- Planned debits not yet made. -/
def Tide.pendingDebits (t : Tide) : Nat := (t.plans.map Plan.grains).sum
/-- An entry towards a peer incarnation that is not expelled (R344). -/
def State.openEntries (s : State) : List Escrow :=
  s.tide.escrow.filter fun e => decide ((s.com.tide.peers.get {} e.peer).expinc < e.inc)

/-- FROZEN and SETTLED follow the open entries and planned debits (R344). -/
def State.tideSettle (s : State) : State :=
  let quiet := s.openEntries.isEmpty && s.tide.plans.isEmpty
  match s.tide.st with
  | .frozen => if quiet then s.updTide fun t => { t with st := .settled } else s
  | .settled => if quiet then s else s.updTide fun t => { t with st := .frozen }
  | _ => s

/-- A new peer incarnation is taken (R356). -/
def State.newInc (s : State) (p inc : Nat) : State :=
  let s := s.updTPeer p fun x => { x with inc := inc, base := 1, mask := 0, tx := 0, rx := 0, nextSeq := 1, live := true,
                                          dead := false, lastAt := s.now }
  s.updTide fun t => { t with escrow := t.escrow.map fun e =>
    if e.peer = p ∧ e.inc < inc then { e with superseded := true } else e }

/-- A frame from the current incarnation marks its peer live (R352, R355). -/
def State.markLive (s : State) (p sinc : Nat) : State :=
  if sinc = (s.tpeer p).inc then s.updTPeer p fun x => { x with live := true, dead := false, lastAt := s.now } else s

/-- EXPELLED sent to a peer, at most once per ms (R357). -/
def State.sendExpelled (s : State) (p : Nat) (f : TideFrame) : State :=
  let ok := match (s.tpeer p).expAt with
    | none => true
    | some t => decide (t + msT ≤ s.now)
  if ok then
    (s.updTPeer p fun x => { x with expAt := some s.now }).tideSend p { s.tideFrame p 5 with dinc := f.sinc, seq := f.seq }
  else s

/-- Bit `d` of a window mask. -/
def maskBit (m : BitVec 64) (d : Nat) : Bool := m.getLsbD d
/-- The window after its base has advanced over the bits set (R352). -/
def advanceWin : Nat → Nat → BitVec 64 → Nat × BitVec 64
  | 0, b, m => (b, m)
  | k + 1, b, m => if m.getLsbD 0 then advanceWin k (b + 1) (m >>> 1) else (b, m)

/-- A credit of a valid XFER (R350, R352). -/
def State.credit (s : State) (p : Nat) (f : TideFrame) : State :=
  let x := s.tpeer p
  let m := x.mask ||| (1 : BitVec 64) <<< (f.seq - x.base)
  let w := advanceWin 64 x.base m
  let s := s.updTPeer p fun x => { x with rx := x.rx + f.grains, base := w.1, mask := w.2 }
  let s := s.updTide fun t => { t with h := t.h + f.grains, raised := true }
  (s.tally 8 0 1 1).tally 8 0 3 f.grains

/-- What receipt of an XFER comes to (R352). -/
inductive XferCase where
  | stale | expelled | old | duplicate | beyond | credit
  deriving DecidableEq, Repr

/-- The case of an XFER from a peer, by the peer's window after any new incarnation is taken (R352). -/
def xferCase (inc expinc pinc base : Nat) (mask : BitVec 64) (f : TideFrame) : XferCase :=
  if f.dinc ≠ inc then .stale
  else if f.sinc ≤ expinc then .expelled
  else if f.sinc < pinc then .old
  else
    let base := if pinc < f.sinc then 1 else base
    let mask := if pinc < f.sinc then 0 else mask
    if f.seq < base then .duplicate
    else if f.seq - base < 64 then (if maskBit mask (f.seq - base) then .duplicate else .credit)
    else .beyond

/-- Receipt of an XFER (R352). -/
def State.recvXfer (s : State) (p : Nat) (f : TideFrame) : State :=
  let x := s.tpeer p
  let e := (s.com.tide.peers.get {} p).expinc
  let s := if e < f.sinc then s.markLive p f.sinc else s
  let adopt (s : State) : State := if x.inc < f.sinc then s.newInc p f.sinc else s
  let xack (s : State) : State := s.tideSend p { s.tideFrame p 2 with dinc := f.sinc, seq := f.seq, grains := f.grains }
  match xferCase s.tide.inc e x.inc x.base x.mask f with
  | .stale => s.tideSend p { s.tideFrame p 4 with dinc := f.dinc, seq := f.seq }
  | .expelled => s.sendExpelled p f
  | .old => s
  | .duplicate => xack (adopt s)
  | .beyond => adopt s
  | .credit => xack ((adopt s).credit p f)

/-- Receipt of any other frame: an expelled incarnation is answered, an older one ignored, a newer one taken (R355 to
R357), and then the type's own action runs. -/
def State.recvOther (s : State) (p : Nat) (f : TideFrame) (act : State → State) : State :=
  let e := (s.com.tide.peers.get {} p).expinc
  if f.sinc ≤ e then s.sendExpelled p f
  else if f.sinc < (s.tpeer p).inc then s
  else
    let s := if (s.tpeer p).inc < f.sinc then s.newInc p f.sinc else s
    act (s.markLive p f.sinc)

/-- XACK's own action (R353). -/
def xackAct (p : Nat) (f : TideFrame) (s : State) : State :=
  s.updTide fun t => { t with escrow := t.escrow.filter fun e => !(decide (e.peer = p) && decide (e.inc = f.sinc) && decide (e.seq = f.seq)) }

/-- STALE's own action (R353). -/
def staleAct (p : Nat) (f : TideFrame) (s : State) : State :=
  s.updTide fun t => { t with escrow := t.escrow.map fun e =>
    if e.peer = p ∧ e.inc = f.dinc ∧ e.seq = f.seq then { e with superseded := true } else e }

/-- ADVERT's own action (R347). -/
def advertAct (p : Nat) (f : TideFrame) (s : State) : State :=
  s.updTPeer p fun x => { x with advAt := some s.now, urg := f.urg, offer := f.offer, want := f.want, hold := f.hold, flags := f.flags }

/-- EXPELLED's own action: only where it names this die's incarnation (R344, R357). -/
def expelledAct (f : TideFrame) (s : State) : State :=
  if f.dinc = s.tide.inc ∧ s.tide.st ≠ .out ∧ s.tide.st ≠ .expelled then
    (s.updTide fun t => { t with st := .expelled, texpel := true, escrow := [], plans := [], planned := false,
                                 raised := false, expelNext := true }).stageFw (.holding (some 0))
  else s

/-- The peer entry that a frame's source names (R352). -/
def State.peerOf (s : State) (die : Nat) : Option Nat :=
  (List.range 32).find? fun p => (s.com.tide.peers.get {} p).valid && decide ((s.com.tide.peers.get {} p).die = die)

/-- A frame is discarded and counted (R352, R361). -/
def State.tideDiscard (s : State) : State := s.updTide fun t => { t with disc := t.disc + 1 }

/-- Receipt of a frame (R352, R353, R361). -/
def State.recvTide (s : State) (f : TideFrame) : State :=
  if s.frameOk f = false then s.tideDiscard
  else match s.peerOf f.src with
    | none => s.tideDiscard
    | some p =>
      let s := match f.ty.toNat with
        | 1 => s.recvXfer p f
        | 2 => s.recvOther p f (xackAct p f)
        | 3 => s.recvOther p f (advertAct p f)
        | 4 => s.recvOther p f (staleAct p f)
        | _ => s.recvOther p f (expelledAct f)
      s.tideSettle

/-- Receipt of 64 bytes (R361). -/
def State.recvBytes (s : State) (bs : List Byte) : State :=
  match parseTide bs with
  | some f => s.recvTide f
  | none => s.tideDiscard

/-- XFER (R352). -/
def execXfer (f : TideFrame) (s : State) : Host.Outcome State Fault Refusal := done (s.recvTide { f with ty := 1 })
/-- XACK (R353). -/
def execXack (f : TideFrame) (s : State) : Host.Outcome State Fault Refusal := done (s.recvTide { f with ty := 2 })
/-- ADVERT (R347). -/
def execAdvert (f : TideFrame) (s : State) : Host.Outcome State Fault Refusal := done (s.recvTide { f with ty := 3 })
/-- STALE (R353, R356). -/
def execStale (f : TideFrame) (s : State) : Host.Outcome State Fault Refusal := done (s.recvTide { f with ty := 4 })
/-- EXPELLED (R344, R357). -/
def execExpelled (f : TideFrame) (s : State) : Host.Outcome State Fault Refusal := done (s.recvTide { f with ty := 5 })
/-- TIDE_FRAME_DISCARD (R361): 64 bytes that fail CHECK or another rule are discarded and counted; bytes that pass every
rule are received. -/
def execTideFrameDiscard (bytes : List Byte) (s : State) : Host.Outcome State Fault Refusal := done (s.recvBytes bytes)

/-! ### Windows and plans (R345 to R351) -/

/-- The die's urgency (R345). -/
def State.urgency (s : State) : Int :=
  if s.tide.h < tideFloor s.com.tide then 32767
  else
    let sl := (s.regions.filter fun r => decide ((s.com.reg r).state = .on)).filterMap fun r =>
      match (s.reg r).krf.slackAt with
      | some t => if s.now ≤ t + 100 * usT * s.com.tide.urgage then some (s.reg r).krf.slack else none
      | none => none
    match sl with
    | [] => 0
    | x :: xs => clampI (-(xs.foldl min x)) (-32767) 32767

/-- The lowest order of R293 other than the tide holding. -/
def State.capWithoutTide (s : State) : Nat := (standing ((capOrders s.com.bud).filter fun o => o.1 ≠ 6)).2

/-- Need (R346): zero in STOPPING. -/
def State.tideNeed (s : State) : Nat :=
  if s.hw.bstate = .stopping then 0
  else
    let b := s.com.bud
    min (b.reserve + min b.dcomp b.maxC + min b.dmem b.maxM + min b.dlink b.maxL) s.capWithoutTide

/-- The figures of a window: urgency, offer, want (R345, R346). -/
def State.tideFigures (s : State) : Int × Nat × Nat :=
  let t := s.com.tide
  let need := s.tideNeed
  let avail := s.tide.h - s.tide.pendingDebits
  let frozen := s.tide.st = .frozen || s.tide.st = .settled
  (s.urgency, avail - max (tideFloor t) need, if frozen then 0 else min (tideCeil t) need - s.tide.h)

/-- ADVERT to every valid peer (R347, R349, R361). -/
def State.advertise (s : State) : State :=
  let st := s.tide
  let fl := b2n (st.st = .frozen || st.st = .settled) + 2 * b2n (st.st = .settled) + 4 * b2n st.staleFig
  (List.range 32).foldl (fun s p =>
    if (s.com.tide.peers.get {} p).valid then
      s.tideSend p { s.tideFrame p 3 with urg := st.u, offer := min 65535 (if st.staleFig then 0 else st.offer),
                                          want := min 65535 (if st.staleFig then 0 else st.want), hold := st.h,
                                          flags := BitVec.ofNat 8 fl }
    else s) s

/-- Candidates that qualify, in descending urgency and ascending die ID (R347). -/
def State.candidates (s : State) : List Nat :=
  let t := s.com.tide
  let above := decide (tideCeil t < s.tide.h)
  let ok := (List.range 32).filter fun p =>
    let x := s.tpeer p
    (t.peers.get {} p).valid && x.live && decide (0 < x.want) && decide (x.inc ≠ 0) &&
    (match x.advAt with
      | some a => decide (s.now ≤ a + 300 * usT)
      | none => false) && (above || decide (s.tide.u + t.udelta ≤ x.urg))
  ok.mergeSort fun a b =>
    let x := s.tpeer a
    let y := s.tpeer b
    decide (y.urg < x.urg) || (decide (x.urg = y.urg) && decide ((t.peers.get {} a).die ≤ (t.peers.get {} b).die))

/-- The window's transfers (R347, R348). -/
def planLoop (s : State) (limit : Nat) : List Nat → Nat → Nat → List Plan → List Plan
  | [], _, _, acc => acc
  | p :: ps, offer, spent, acc =>
    let x := s.tpeer p
    let g := min (min offer ((x.want + 1) / 2)) (min (limit - spent) 1024)
    let outs := ((s.tide.escrow.filter fun e => decide (e.peer = p) && decide (e.inc = x.inc)).length)
    if g = 0 ∨ 128 ≤ s.tide.escrow.length + acc.length ∨ 64 ≤ outs then planLoop s limit ps offer spent acc
    else planLoop s limit ps (offer - g) (spent + g) (acc ++ [⟨p, g⟩])

/-- TIDE_WINDOW (R346, R347, R349, R350): a window of 100 us starts. -/
def execTideWindow (s : State) : Host.Outcome State Fault Refusal :=
  if s.tide.st = .out then done s
  else
    let s := s.reach (s.tide.winAt + 100 * usT)
    let s := s.updTide fun t => { t with winAt := t.winAt + 100 * usT }
    let f := s.tideFigures
    let s := if s.sys.ready then
        s.updTide fun t => { t with u := f.1, offer := f.2.1, want := f.2.2, figAt := s.now, staleFig := false }
      else s
    let s := s.advertise
    if s.sys.ready ∧ s.tide.st = .member ∧ s.tide.plans.isEmpty ∧ s.hw.bstate ≠ .halted then
      let lim := min s.com.tide.tlimit s.com.tide.tlimmax
      let ps := planLoop s lim s.candidates s.tide.offer 0 []
      if ps.isEmpty then done s
      else
        let avail := s.tide.h - (ps.map Plan.grains).sum
        done ((s.updTide fun t => { t with plans := ps, planned := true }).stageFw
          (.holding (some (min avail (tideCeil s.com.tide)))))
    else done s

/-- TIDE_CREDIT_STAGE (R350, R358): the raised holding is staged. -/
def execTideCreditStage (s : State) : Host.Outcome State Fault Refusal :=
  if s.tide.raised ∧ s.sys.ready ∧ s.tide.st ≠ .out ∧ s.tide.st ≠ .expelled ∧ s.tide.planned = false then
    done ((s.updTide fun t => { t with raised := false }).stageFw
      (.holding (some (min (s.tide.h - s.tide.pendingDebits) (tideCeil s.com.tide)))))
  else done s

/-- One planned transfer debited at the boundary that commits the lowered holding (R351). -/
def State.debit (s : State) (p : Plan) : State :=
  let x := s.tpeer p.peer
  let e : Escrow := { peer := p.peer, inc := x.inc, seq := x.nextSeq, grains := p.grains, sentAt := s.now }
  let s := s.updTPeer p.peer fun x => { x with nextSeq := x.nextSeq + 1, tx := x.tx + p.grains }
  let s := s.updTide fun t => { t with h := t.h - p.grains, escrow := t.escrow ++ [e] }
  ((s.tally 8 0 0 1).tally 8 0 2 p.grains).sendXfer e

/-- The planned transfers' write has committed: they are debited (R350, R351). -/
def State.holdCommitted (s : State) : State :=
  if s.tide.expelNext then s.updTide fun t => { t with expelNext := false, h := 0 }
  else if s.tide.planned then
    let ps := s.tide.plans
    (ps.foldl (fun s p => s.debit p) (s.updTide fun t => { t with plans := [], planned := false })).tideSettle
  else s
/-- The write of planned transfers failed: they are abandoned (R350). -/
def State.holdFailed (s : State) : State := (s.updTide fun t => { t with plans := [], planned := false }).tideSettle

/-- Tide fields as a glue-up commits them (R343, R344, R357). -/
def State.tideCommit (s : State) (was now_ : CTide) : State :=
  let s :=
    if was.ten = false ∧ now_.ten then
      let inc := s.store.incarnation + 1
      let s := { s with store := { s.store with incarnation := inc } }
      { s with tide := { inc := inc, h := now_.h0, st := .member, winAt := s.now, figAt := s.now, disc := s.tide.disc,
                         dropped := s.tide.dropped } }
    else if was.ten ∧ now_.ten = false then
      { s with tide := { inc := s.tide.inc, disc := s.tide.disc, dropped := s.tide.dropped } }
    else s
  let s := match s.tide.st with
    | .member => if now_.freeze then s.updTide fun t => { t with st := .frozen } else s
    | .frozen => if now_.freeze then s else s.updTide fun t => { t with st := .member }
    | .settled => if now_.freeze then s else s.updTide fun t => { t with st := .member }
    | _ => s
  let gone (e : Escrow) : Bool := decide (e.inc ≤ (now_.peers.get {} e.peer).expinc)
  (s.updTide fun t => { t with escrow := t.escrow.filter fun e => !gone e,
                               dropped := (t.dropped + ((t.escrow.filter gone).map Escrow.grains).sum) % 2 ^ 32 }).tideSettle

/-- Retry interval of an entry (R353). -/
def State.retryT (s : State) (p : Nat) : Nat :=
  if (s.tpeer p).dead then msT * s.com.tide.deadtime
  else if (s.com.tide.peers.get {} p).board then usT * s.com.tide.retryd else 10 * usT * s.com.tide.retryf

/-- ESCROW_RETRY (R353): an OUT entry is sent again, unchanged. -/
def execEscrowRetry (peer : Nat) (seq : Nat) (s : State) : Host.Outcome State Fault Refusal :=
  match s.tide.escrow.find? fun e => decide (e.peer = peer) && decide (e.seq = seq) && !e.superseded with
  | some e =>
    let s := s.reach (e.sentAt + s.retryT peer)
    let s := s.updTide fun t => { t with escrow := t.escrow.map fun x => if x = e then { x with sentAt := s.now } else x }
    done (s.sendXfer e)
  | none => done s

/-- PEER_DEAD (R355): no valid frame of the current incarnation for DEADTIME. -/
def execPeerDead (peer : Nat) (s : State) : Host.Outcome State Fault Refusal :=
  if s.tide.st ≠ .out ∧ (s.tpeer peer).live then
    let s := s.reach ((s.tpeer peer).lastAt + msT * s.com.tide.deadtime)
    done ((s.updTPeer peer fun x => { x with live := false, dead := true }).tally 8 0 5 1)
  else done s

/-- TIDE_FIGURES_STALE (R349): the figures have not been refreshed for 1 ms. -/
def execTideFiguresStale (s : State) : Host.Outcome State Fault Refusal :=
  if s.tide.st ≠ .out ∧ s.sys.ready = false then
    done ((s.reach (s.tide.figAt + msT)).updTide fun t => { t with staleFig := true })
  else done s

/-- A release accepted in SETTLED (R344, R358); none where it is not. -/
def State.release (s : State) (g : Nat) : Option State :=
  if s.tide.st = .settled then
    some ((s.updTide fun t => { t with h := t.h + g, relsum := t.relsum + g, raised := true }).tally 8 0 4 1)
  else none

/-- Grains in entries towards dead or superseded incarnations (R364 TSTRD). -/
def State.stranded (s : State) : Nat :=
  ((s.tide.escrow.filter fun e => e.superseded || (s.tpeer e.peer).dead).map Escrow.grains).sum

end Sys2Proof.Machine
end

