-- ==== Sys2Proof/Machine/Therm.lean ====
section
/-! DEFINITION. The thermal model's inputs to the hub guard, diode readings, bands, monitors and guardband, and the stops
(R366 to R391). -/

namespace Sys2Proof.Machine

/-- The shutdown level, 118 C in 1/64 C (R381). -/
def shutLevel : Int := 7552

/-! ### Stops (R381 to R386) -/

/-- Every converter phase to PSG_PWM mid and PSG_EN low at once, every rail OFF (R132, R383). -/
def converterCut (s : State) : State :=
  let s := (List.range 40).foldl (fun s n => s.updPhase n fun p =>
    { p with en := false, pwm := .mid, st := if p.st = .retired then .retired else .off, s := 0, serves := none }) s
  [Rail.vib, Rail.vqa, Rail.vqc].foldl (fun s x => s.updRail x fun q => { q with st := .off, ref := 0, at_ := s.now, heldLow := false, watch := false }) s

/-- SHUTIND takes a stop: the first one's kind and region, every one's cause (R384). -/
def recordStop (s : State) (kind cause region : Nat) : State :=
  s.updSys fun y => { y with
    shKind := if y.shLatched then y.shKind else kind, shFirst := if y.shLatched then y.shFirst else region,
    shLatched := true, shCause := y.shCause ||| (1 : BitVec 4) <<< cause }

/-- The hub guard's stop state written at once, as a latched stop has it: every region off (R33, R267). -/
def guardAtOnce (s : State) : State :=
  let c := s.com
  { s with com := { c with guardStop := true, regs := c.regs.mapVals {} (fun _ x => { x with state := .off }) } }

/-- An immediate thermal stop (R381, R383): cause 0 model level, 1 diode level, 2 projection. -/
def immediateStop (s : State) (cause region : Nat) : State :=
  let s := recordStop s 2 cause region
  if s.hw.bstate = .halted ∧ s.sys.stop ≠ .coolant then s
  else
    let s := guardAtOnce (darkAll (converterCut s))
    let s := s.updSys fun y => { y with stop := .none, stopStep := 0, hkind := 2 }
    (s.tally 9 0 (if cause = 1 then 2 else 1) 1).setB .halted

/-- An orderly stop begins (R381, R382, R459): the block enters STOPPING; one in progress is kept (R385). -/
def orderlyStop (s : State) (k : StopKind) : State :=
  if s.sys.stop ≠ .none ∨ s.service = false then s
  else
    let s := s.updSys fun y => { y with stop := k, stopStep := 1, stopAt := s.now, drainDone := false }
    s.setB .stopping

/-- DBG test access counts as enabled: EXTEST loaded or a write instrument open (R494). -/
def State.dbgTest (s : State) : Bool := decide (s.ports.ir = 3) || s.ports.dbgOpen

/-- The hub guard's judgement of an accepted out0 value (R381). -/
def guardJudge (s : State) (r : Nat) (td slope : Int) : State :=
  if shutLevel ≤ td then immediateStop s 0 r
  else if 0 < slope ∧ 10 * shutLevel ≤ 10 * td + slope * (s.com.tdrain + 2) then
    if s.sys.stop ≠ .none then recordStop s 1 2 r
    else if s.service ∧ s.dbgTest = false ∧ s.sys.restart = false ∧ s.sys.mcheld = false ∧ s.sys.engStopAt = none then
      orderlyStop ((recordStop s 1 2 r).tally 9 0 0 1) .thermal
    else immediateStop s 2 r
  else s

/-- Larger of a set's maximum and a value. -/
def maxO (a : Option Int) (x : Int) : Option Int :=
  match a with
  | none => some x
  | some y => some (max y x)
/-- Smaller of a set's minimum and a value. -/
def minO (a : Option Int) (x : Int) : Option Int :=
  match a with
  | none => some x
  | some y => some (min y x)

/-- An out0 value of a thermal loop reaches the hub guard (R368, R369, R371, R380). -/
def guardInput (s : State) (r : Nat) (v : Word) : State :=
  let td := sfield v 0 16
  let slope := sfield v 16 16
  let s := s.updTh r fun h => { h with out0At := s.now, stale := false }
  if ufield v 16 16 = 0x8000 then s
  else
    let s := s.updTh r fun h => { h with
      td := td, slope := slope, anchored := true, hostMax := maxO h.hostMax td, hostMin := minO h.hostMin td,
      coreMax := maxO h.coreMax td, coreMin := minO h.coreMin td, b5At := if slope ≤ 0 then s.now else h.b5At }
    guardJudge s r td slope

/-- HUB_GUARD_THERMAL_INPUT (R369, R381): the computed out0 of a region's thermal loop, open or closed. -/
def execHubGuardThermalInput (r : Nat) (v : Word) (s : State) : Host.Outcome State Fault Refusal :=
  if s.hasReg r ∧ s.hw.bstate ≠ .off then done (guardInput s r v) else done s

/-! ### Diode readings (R369 to R374, R449, R451) -/

/-- A reading is requested: merged where the region is queued already (R373). -/
def State.diodeReq (s : State) (r : Nat) : State :=
  if s.hasReg r ∧ !s.sys.diodeQ.contains r then s.updSys fun y => { y with diodeQ := y.diodeQ ++ [r] } else s

/-- RGN_DSEL of a region: it is the first of its bus in the queue (R372, R477). -/
def State.dsel (s : State) (r : Nat) : Bool :=
  (s.sys.diodeQ.find? fun x => (s.rimg x).bus = (s.rimg r).bus) = some r

/-- Boundaries between bands, 1/64 C (R376). -/
def bandBounds : List Int := [40 * 64, 60 * 64, 80 * 64, 95 * 64, 105 * 64]

/-- The band after an evaluation (R376): up to the highest boundary reached, else down past every boundary that the
lowest lies 3 C below. -/
def nextBand (b : Nat) (hi lo : Int) : Nat :=
  let up := (bandBounds.filter fun x => decide (x ≤ hi)).length
  let dn := (bandBounds.filter fun x => decide (x - 192 ≤ lo)).length
  if b < up then up else if dn < b then dn else b

/-- Header of a packet to a region's pond (R72). -/
def State.pondHdr (s : State) (r : Nat) : Hdr := { bc := false, dst := (s.node (s.rimg r).pond).id }

/-- A band change staged with every change that it produces (R378, R391). -/
def State.stageBand (s : State) (r b : Nat) : State :=
  let row := s.bandRow r b
  let gb := if (s.rimg r).monitors then max (s.com.reg r).gb row.gbtab else row.gbtab
  s.stageSet [.band r b, .guardband r gb,
    .nodeStage (s.rimg r).pond (s.pondHdr r) 0x08 (BitVec.ofNat 32 (row.ripple + 16 * row.dead)), .recompute]

/-- One region's evaluation on a highest and a lowest td (R376). -/
def State.evalBand (s : State) (r : Nat) (hi lo : Int) : State :=
  let b := nextBand (s.com.reg r).band hi lo
  if b = (s.com.reg r).band then s else s.stageBand r b

/-- BAND_EVALUATION (R371, R376): every region, on the management core's extreme set, which it then empties. -/
def execBandEvaluation (s : State) : Host.Outcome State Fault Refusal :=
  if s.sys.ready = false then done s
  else done (s.regions.foldl (fun s r =>
    let h := (s.reg r).th
    let s := match h.coreMax, h.coreMin with
      | some hi, some lo => s.evalBand r hi lo
      | _, _ => s
    s.updTh r fun h => { h with coreMax := none, coreMin := none }) s)

/-- The management core works: its firmware runs, and is ready but in BOOT, whose steps are its own (R32, R422, R449). -/
def State.coreServes (s : State) : Bool := s.sys.coreRun && (s.sys.ready || decide (s.hw.bstate = .boot))

/-- DIODE_READING_COMPLETE (R372 to R374, R376, R381, R451): a reading of a queued region; one outside -20 C to 150 C, or
with no diode current, fails. A failed forced reading of BOOT is repeated twice. -/
def execDiodeReadingComplete (r : Nat) (reading : Option Int) (s : State) : Host.Outcome State Fault Refusal :=
  if !s.sys.diodeQ.contains r then done s
  else
    let s := s.updSys fun y => { y with diodeQ := y.diodeQ.filter fun x => x ≠ r }
    let good := match reading with
      | some t => if -1280 ≤ t ∧ t ≤ 9600 then some t else none
      | none => none
    let s := s.updTh r fun h => { h with dseq := h.dseq + 1 }
    match good with
    | some t =>
      let s := s.updTh r fun h => { h with tdio := BitVec.ofInt 16 t, dfail := false, lowconf := false, forcedDone := true }
      let s := if s.coreServes then (s.fwPlace fwDiode r 0 (BitVec.ofInt 32 t)).evalBand r t t else s
      done (if shutLevel ≤ t then immediateStop s 1 r else s)
    | none =>
      let s := s.updTh r fun h => { h with dfail := true, retries := h.retries + 1 }
      let again := decide (s.hw.bstate = .boot) && decide ((s.reg r).th.retries < 3)
      let s := if again then s.diodeReq r else s.updTh r fun h => { h with forcedDone := true, lowconf := h.lowconf || decide (s.hw.bstate = .boot) }
      done s

/-- THSTALE (R369): no out0 for 1 ms; a reading is queued then and every 10 ms while the condition stands. -/
def execThstale (r : Nat) (s : State) : Host.Outcome State Fault Refusal :=
  if s.hasReg r = false ∨ (s.rimg r).thLoop = none then done s
  else
    let h := (s.reg r).th
    let s := s.reach (if h.stale then h.staleQ + 10 * msT else h.out0At + msT)
    let s := s.updTh r fun h => { h with stale := true, staleQ := s.now }
    done (if s.sys.ready then s.diodeReq r else s)

/-- LOWCONF_QUEUE (R370): bit 24 of out1 as the mailbox shows it; its rise queues a reading. -/
def execLowconfQueue (r : Nat) (out1 : Word) (s : State) : Host.Outcome State Fault Refusal :=
  if s.hasReg r = false then done s
  else
    let rise := bitOf out1 24 && !(s.reg r).th.sigBit
    let s := s.updTh r fun h => { h with sigBit := bitOf out1 24, lowconf := h.lowconf || rise }
    done (if rise ∧ s.sys.ready then s.diodeReq r else s)

/-- TINLET_SUBSTITUTION (R366): no tray inlet for 1 s. -/
def execTinletSubstitution (s : State) : Host.Outcome State Fault Refusal :=
  if s.sys.ready = false then done s
  else
    let s := match s.ports.inletAt with
      | some t => s.reach (t + secT)
      | none => s
    done ((s.updPorts fun p => { p with inletAt := none }).fwPlace fwTin 0 0 (BitVec.ofNat 32 (64 * s.com.tinlet)))

/-! ### Thermal orders (R380) -/

/-- THERMAL_REGION_ORDER (R380): 10 ms in B5 with a positive slope in every accepted out0. -/
def execThermalRegionOrder (r : Nat) (s : State) : Host.Outcome State Fault Refusal :=
  if s.sys.ready ∧ (s.com.reg r).band = 5 ∧ (s.com.reg r).ths = .none ∧ 0 < (s.reg r).th.slope then
    let s := s.reach ((s.reg r).th.b5At + 10 * msT)
    done (s.stageFw (.order r 3 (if (s.rimg r).retPart.isSome then .retention else .off)))
  else done s

/-- THERMAL_ORDER_RELEASE (R380): 100 ms in B3 or lower. -/
def execThermalOrderRelease (r : Nat) (s : State) : Host.Outcome State Fault Refusal :=
  match (s.reg r).th.lowAt with
  | some t =>
    if s.sys.ready ∧ (s.com.reg r).ths ≠ .none ∧ (s.com.reg r).band ≤ 3 then
      done ((s.reach (t + 100 * msT)).stageFw (.order r 3 .none))
    else done s
  | none => done s

/-! ### Monitors and guardband (R388 to R391) -/

/-- The value of a monitor slot without a reading (R389). -/
def noSlack : Word := 0x8000
/-- All four monitor slots without a reading. -/
def State.noMonitors (s : State) (r : Nat) : State := (List.range 4).foldl (fun s m => s.fwPlace fwMmon r m noSlack) s

/-- MONITOR_READ (R388, R389): the management core raises RGN_MMREQ, or places 0x8000 where the region is not LIVE or
its model is not at SETPT. -/
def execMonitorRead (r : Nat) (s : State) : Host.Outcome State Fault Refusal :=
  if s.sys.ready = false ∨ s.hasReg r = false ∨ (s.rimg r).monitors = false then done s
  else if (s.reg r).seq.st = .live ∧ (s.reg r).atSet then
    done (s.updTh r fun h => { h with mmreq := true, mmsel := 0, mmAt := s.now, mmVals := [] })
  else done (s.noMonitors r)

/-- MONITOR_ANSWER (R388, R389): the column answers with the monitor selected; after the fourth the request falls. -/
def execMonitorAnswer (r m : Nat) (slack : BitVec 12) (s : State) : Host.Outcome State Fault Refusal :=
  let h := (s.reg r).th
  if h.mmreq ∧ m = h.mmsel ∧ m < 4 then
    let x : BitVec 16 := slack.signExtend 16
    let s := s.updTh r fun h => { h with
      mmVals := h.mmVals ++ [slack], mmsel := h.mmsel + 1, mmreq := decide (m < 3),
      lslack := if x.slt h.lslack then x else h.lslack }
    done (s.fwPlace fwMmon r m (slack.signExtend 32))
  else done s

/-- MONITOR_ANSWER_TIMEOUT (R388, R389): no answer within 10 us. -/
def execMonitorAnswerTimeout (r : Nat) (s : State) : Host.Outcome State Fault Refusal :=
  let h := (s.reg r).th
  if h.mmreq then
    done (((s.reach (h.mmAt + 10 * usT)).updTh r fun h => { h with mmreq := false }).noMonitors r)
  else done s

/-- GUARDBAND_TRIM (R246, R389, R390): a request word of the margin-trim loop. -/
def execGuardbandTrim (r : Nat) (w : Word) (s : State) : Host.Outcome State Fault Refusal :=
  let h := (s.reg r).th
  if s.sys.ready = false ∨ s.hasReg r = false ∨ (s.rimg r).monitors = false ∨ ufield w 16 16 = 0x8000 ∨
      (h.trimmed ∧ s.now < h.trimAt + 10 * msT) then done s
  else
    let g := (clampI ((s.com.reg r).gb + sfield w 0 8) 12 50).toNat
    let s := s.updTh r fun h => { h with trimmed := true, trimAt := s.now }
    if g = (s.com.reg r).gb then done s else done (s.stageFw (.guardband r g))

/-! ### Steps of the stops (R382, R386) -/

/-- Regions that are not on VRET (R271, R382). -/
def State.coreRegions (s : State) : List Nat := s.regions.filter fun r => decide ((s.rimg r).rail ≠ .vret)

/-- DRAIN_TIMEOUT (R382): TDRAIN after the stop began, every region still FENCING is lowered. -/
def execDrainTimeout (s : State) : Host.Outcome State Fault Refusal :=
  if s.sys.stop ≠ .none ∧ s.sys.stop ≠ .coolant ∧ s.com.guardStop then
    let s := s.reach (s.sys.stopAt + 240000 * s.com.tdrain)
    let s := s.updSys fun y => { y with drainDone := true, stopStep := max y.stopStep 3 }
    done (s.coreRegions.foldl (fun s r => if (s.reg r).seq.st = .fencing then enterLowering s r 0 else s) s)
  else done s

/-- Every dirty ledger entry's write-back issued (R335, R382). -/
def State.ledFlush (s : State) : State :=
  s.updLed fun l => { l with cache := l.cache.map fun x => if x.dirty && x.ready && x.wb.isNone then { x with wb := some x.ent } else x }

/-- Increments taken for a harvest; counting goes on into fresh ones (R415). -/
def State.harvestTake (s : State) : State :=
  if s.flt.harvesting then s
  else s.updFlt fun f => { f with
    harvesting := true, taken := f.tally.foldl (fun t x => t.set 0 x.1 (t.get 0 x.1 + x.2)) f.taken, tally := [] }

/-- STOP_REGIONS_DARK (R382 steps 4 and 5): every region but VRET is DARK. -/
def execStopRegionsDark (s : State) : Host.Outcome State Fault Refusal :=
  if s.sys.stop ≠ .none ∧ s.sys.stop ≠ .coolant ∧ s.com.guardStop ∧ s.sys.stopStep < 5 ∧
      s.coreRegions.all (fun r => (s.reg r).seq.st = .dark) then
    let s := s.updSys fun y => { y with stopStep := 5 }
    let s := (s.regions.filter fun r => decide ((s.rimg r).rail = .vret)).foldl (fun s r =>
      if (s.reg r).seq.st = .dark then s else enterLowering s r 0) s
    done (if s.sys.coreRun then s.ledFlush.harvestTake else s)
  else done s

/-- COOLANT_STOP (R33, R386): TRY_FLOW_N has stayed high for 50 us; the hub guard's stop state is written at the next boundary. -/
def execCoolantStop (s : State) : Host.Outcome State Fault Refusal :=
  if s.ports.flowN ∧ s.hw.bstate ≠ .off ∧ s.sys.stop ≠ .coolant ∧ (s.hw.bstate ≠ .halted ∨ s.sys.hkind = 0) then
    let s := s.reach (s.ports.flowAt + 50 * usT)
    let s := recordStop s 3 3 0
    let s := darkAll s
    let s := s.updSys fun y => { y with stop := .coolant, stopStep := 1, stopAt := s.now, hkind := 3 }
    done ((s.tally 9 0 3 1).setB .halted)
  else done s

end Sys2Proof.Machine
end

