-- ==== Sys2Proof/Machine/Conv.lean ====
section
/-! DEFINITION. The intermediate bus converter (R111 to R138, R409, R458): loop outputs, on-times, shedding and its
cancellation, phase states, rails, input and overvoltage protection. -/

namespace Sys2Proof.Machine

/-! ### Targets and slews (R82, R115, R254) -/

/-- Ticks between slew steps of a rate field: round(6,000 / r) CKS cycles (R82). -/
def slewT (r : Nat) : Nat := cksT * ((12000 + max 1 r) / (2 * max 1 r))

/-- Committed set-point code of a rail (R115, R251). -/
def State.railSet (s : State) : Rail → Int
  | .vib => vibOf s.com.conv
  | .vqa => vqaOf s.com.conv
  | .vqc => vqcOf s.com.conv
/-- Base voltage of a rail's codes, mV (R114). -/
def railBase : Rail → Int
  | .vib => 1600
  | _ => 300
/-- Window of a rail's target, codes (R114). -/
def State.railWin (s : State) : Rail → Int × Int
  | .vib => (s.com.conv.vibwinF, s.com.conv.vibwinC)
  | _ => (s.com.conv.qwinF, s.com.conv.qwinC)
/-- Slew rate of a rail. -/
def State.railSlew (s : State) : Rail → Nat
  | .vib => s.com.conv.vibslew
  | _ => s.com.conv.qslew
/-- Instantaneous target of a rail, mV (R115). -/
def State.railTarget (s : State) (x : Rail) : Int :=
  let w := s.railWin x
  railBase x + clampI ((s.rail x).inst + (s.rail x).off) w.1 w.2

/-- Start ramp, ticks. -/
def State.startRamp (s : State) : Rail → Nat
  | .vib => 240000 * s.com.conv.startVibR
  | .vqa => 240000 * s.com.conv.startVqaR
  | .vqc => 240000 * s.com.conv.startVqcR
/-- Committed set-point of a rail, mV. -/
def State.railMv (s : State) (x : Rail) : Nat := (railBase x + s.railSet x).toNat
/-- The reference of a rail, mV (R115, R132, R133): rising at set-point / start ramp in RAMP, falling at set-point / stop ramp in
SRAMP, nothing in OFF and DELAY, else the instantaneous target. -/
def State.railRef (s : State) (x : Rail) : Int :=
  let q := s.rail x
  match q.st with
  | .off | .delay => 0
  | .ramp => max q.ref (min (s.railMv x) (q.ref + s.railMv x * (s.now - q.at_) / max 1 (s.startRamp x)) : Nat)
  | .sramp => (q.ref - s.railMv x * (s.now - q.at_) / (240000 * max 1 q.rampT) : Nat)
  | _ => s.railTarget x

/-- An offset ordered by a loop: held so that set-point plus offset lies within the window (R252); its slew's steps
count from now where none was running (R115). -/
def State.orderOffset (s : State) (x : Rail) (o : Int) : State :=
  let w := s.railWin x
  let o := clampI o (w.1 - s.railSet x) (w.2 - s.railSet x)
  s.updRail x fun q => { q with offReq := o, offAt := if q.off = q.offReq then s.now else q.offAt }

/-- One step of an integer towards another. -/
def stepTo (x y : Int) : Int := if x < y then x + 1 else if y < x then x - 1 else x

/-- SLEW_STEP of a rail's set-point (R82, R115). -/
def State.stepRailSet (s : State) (x : Rail) : State :=
  let q := s.rail x
  if q.inst = s.railSet x then s
  else
    let s := s.reach (q.setAt + slewT (s.railSlew x))
    s.updRail x fun q => { q with inst := stepTo q.inst (s.railSet x), setAt := s.now }
/-- SLEW_STEP of a rail's offset (R115). -/
def State.stepRailOff (s : State) (x : Rail) : State :=
  let q := s.rail x
  if q.off = q.offReq then s
  else
    let s := s.reach (q.offAt + slewT (s.railSlew x))
    s.updRail x fun q => { q with off := stepTo q.off q.offReq, offAt := s.now }

/-! ### Phases -/

/-- Slots of the rotation's kind: main 0 to 31, privileged 32 to 39. -/
def mains : List Nat := List.range 32
/-- Privileged slots. -/
def privs : List Nat := (List.range 8).map (· + 32)
/-- PASSIGN of a privileged slot (R114). -/
def State.passign (s : State) (n : Nat) : Nat := s.com.conv.passign.toNat / 4 ^ (n - 32) % 4
/-- The slot is fitted (R111). -/
def State.fitted (s : State) (n : Nat) : Bool :=
  if n < 32 then bitOf s.com.conv.fitted n else decide (s.passign n ≠ 0)
/-- The slot starts as a spare (R114). -/
def State.spareSlot (s : State) (n : Nat) : Bool := if n < 32 then bitOf s.com.conv.spares n else decide (s.passign n = 3)
/-- The rail that a slot feeds (R111): an admitted privileged spare feeds the rail it was admitted for, none before. -/
def State.railOfSlot (s : State) (n : Nat) : Option Rail :=
  if n < 32 then some .vib
  else match s.passign n with
    | 1 => some .vqa
    | 2 => some .vqc
    | 3 => (s.phase n).serves
    | _ => none
/-- Fitted slots that feed a rail. -/
def State.slotsOfRail (s : State) (x : Rail) : List Nat := (List.range 40).filter fun n => s.fitted n && decide (s.railOfSlot n = some x)
/-- Privileged spares that feed no rail. -/
def State.idleSpares (s : State) : List Nat := privs.filter fun n => decide (s.passign n = 3) && (s.phase n).serves.isNone
/-- The rail that a spare is admitted for (R130, R409): that of the lowest faulted privileged slot, else VQA (DESIGN CHOICE,
log 118). -/
def State.spareRail (s : State) : Rail :=
  match privs.find? fun n => (s.phase n).st = .faulted with
  | some n => (s.railOfSlot n).getD .vqa
  | none => .vqa
/-- The quiet rail other than this one; VIB has none. -/
def otherQuiet : Rail → Option Rail
  | .vib => none
  | .vqa => some .vqc
  | .vqc => some .vqa
/-- Some phase, main or privileged, is in a state. -/
def State.anyIn (s : State) (st : PhSt) : Bool := (List.range 40).any fun n => (s.phase n).st = st
/-- PSG_EN rises (R112, R165). -/
def Phase.enable (p : Phase) : Phase := { p with en := true, enSeen := true }
/-- Main phases in a state. -/
def State.mainsIn (s : State) (st : PhSt) : List Nat := mains.filter fun n => (s.phase n).st = st
/-- The phase switches or can rejoin (R131). -/
def PhSt.running : PhSt → Bool
  | .active | .provisional | .shed | .wake | .admitting => true
  | _ => false

/-- Highest NTARGET that R125 allows: fitted main phases that are no spare, retired or faulted. -/
def State.maxTarget (s : State) : Nat :=
  (mains.filter fun n => s.fitted n && decide ((s.phase n).st ≠ .spare) && decide ((s.phase n).st ≠ .retired) &&
    decide ((s.phase n).st ≠ .faulted) && !(decide ((s.phase n).st = .off) && s.spareSlot n)).length
/-- NTARGET in force (R125). -/
def State.target (s : State) : Nat := min s.conv.ntarget s.maxTarget

/-- A phase after a cancellation at an instant (R124). -/
def Phase.cancelled (p : Phase) (now : Nat) : Phase :=
  match p.st with
  | .provisional => { p with st := .active, at_ := now }
  | .shed => { p.enable with st := .wake, at_ := now }
  | _ => p
/-- A cancellation (R124). -/
def State.cancel (s : State) : State :=
  let s := mains.foldl (fun s n => s.updPhase n fun p => p.cancelled s.now) s
  (s.updRail .vib fun q => { q with de := if q.st = .ramp then q.de else false }).updConv fun c =>
    { c with shedHold := some (s.now + 100 * usT) }

/-- Main phases that count for NTARGET: ACTIVE, ADMIT and WAKE (R125). -/
def State.counted (s : State) : Nat := (s.mainsIn .active).length + (s.mainsIn .admitting).length + (s.mainsIn .wake).length

/-- R125: phases are returned, then woken, lowest slot first, until NTARGET is met. -/
def State.raiseTarget (s : State) : State :=
  let s := (s.mainsIn .provisional).foldl (fun s n =>
    if s.counted < s.target then s.updPhase n fun p => { p with st := .active, at_ := s.now } else s) s
  (s.mainsIn .shed).foldl (fun s n =>
    if s.counted < s.target then s.updPhase n fun p => { p.enable with st := .wake, at_ := s.now } else s) s

/-! ### Loop outputs (R114, R137, R252) -/

/-- A loop output has reached the converter: the loss, if any, ends (R137). -/
def State.convOut (s : State) : State := s.updConv fun c => { c with lastOutAt := s.now, engLoss := false }

/-! The loop outputs as the converter control and the KRF port take them (R114, R252). An OUT of the engine and the command
of the output's arrival have the same effect (log 24). -/

/-- VIBOFF arrives. -/
def State.takeViboff (s : State) (v : Word) : State := s.convOut.orderOffset .vib (sfield v 0 8)
/-- QOFF arrives: VQA in [7:0], VQC in [15:8]. -/
def State.takeQoff (s : State) (v : Word) : State := (s.convOut.orderOffset .vqa (sfield v 0 8)).orderOffset .vqc (sfield v 8 8)
/-- NTARGET arrives (R125, R252). -/
def State.takeNtarget (s : State) (v : Word) : State :=
  (s.convOut.updConv fun c => { c with ntarget := min 32 (ufield v 0 6) }).raiseTarget
/-- The trim of a phase is frozen (R120). -/
def State.trimFrozen (s : State) (n : Nat) : Bool :=
  let p := s.phase n
  decide (p.st = .provisional) || decide (p.st = .wake) || decide (p.st = .admitting) || (decide (n < 32) && s.conv.vib.de)
/-- TRIM[n] arrives (R120): applied unless frozen; outputs at an end value are counted, and a trim that leaves it clears
the condition. -/
def State.takeTrim (s : State) (n : Nat) (v : Word) : State :=
  if 40 ≤ n then s
  else
    let t := clampI (sfield v 0 6) (-24) 24
    let s := s.convOut
    let atEnd := decide (t = 24) || decide (t = -24)
    s.updPhase n fun p => { p with
      trim := if s.trimFrozen n then p.trim else t, ends := if atEnd then p.ends + 1 else 0, trimLim := p.trimLim && atEnd }
/-- CANCEL arrives (R123 case 3). -/
def State.takeCancel (s : State) (v : Word) : State := if bitOf v 0 then s.convOut.cancel else s.convOut
/-- A kerf ratio arrives (R252, R307): held until the region's state rules let it be presented. -/
def State.takeKerf (s : State) (r : Nat) (v : Word) : State :=
  if s.hasReg r then
    let x := (clampI v.toInt 0 60).toNat
    let s := s.updKrf r fun k => { k with kLoop := x, run60 := if x = 60 then min 64 (k.run60 + 1) else 0 }
    if (s.reg r).krf.run60 = 64 ∧ s.bud.capshort = false then
      ((s.updBud fun b => { b with capshort := true, clearAt := s.now }).cause 2).tally 0x0F 0 0 1
    else s
  else s
/-- A shim intensity arrives (R252, R327, R328): 0 to 15, and 0 while shim is disabled. -/
def State.takeShim (s : State) (r : Nat) (v : Word) : State :=
  if s.hasReg r then
    s.updKrf r fun k => { k with sLoop := if s.com.shim.en then (clampI v.toInt 0 15).toNat else 0 }
  else s

/-- VIBOFF. -/
def execViboff (v : Word) (s : State) : Host.Outcome State Fault Refusal := done (s.takeViboff v)
/-- QOFF. -/
def execQoff (v : Word) (s : State) : Host.Outcome State Fault Refusal := done (s.takeQoff v)
/-- NTARGET. -/
def execNtarget (v : Word) (s : State) : Host.Outcome State Fault Refusal := done (s.takeNtarget v)
/-- TRIM. -/
def execTrim (n : Nat) (v : Word) (s : State) : Host.Outcome State Fault Refusal := done (s.takeTrim n v)
/-- CANCEL. -/
def execCancel (v : Word) (s : State) : Host.Outcome State Fault Refusal := done (s.takeCancel v)
/-- KERF_RATIO. -/
def execKerfRatio (r : Nat) (v : Word) (s : State) : Host.Outcome State Fault Refusal := done (s.takeKerf r v)
/-- SHIM_INTENSITY. -/
def execShimIntensity (r : Nat) (v : Word) (s : State) : Host.Outcome State Fault Refusal := done (s.takeShim r v)

/-- CONVERTER_OUTPUT_TIMEOUT (R34, R137): 10 us without a converter loop output; NTARGET is then the number of main slots, which
R125 limits. Where no dispatch has been made for 10 us either, the engine as a whole has stopped dispatching. -/
def execConverterOutputTimeout (s : State) : Host.Outcome State Fault Refusal :=
  if s.conv.engLoss then done s
  else
    let s := (s.reach (s.conv.lastOutAt + 10 * usT)).cancel
    let s := s.updConv fun c => { c with engLoss := true, ntarget := 32 }
    let s := [Rail.vib, .vqa, .vqc].foldl (fun s x => s.updRail x fun q => { q with
      offReq := 0, offAt := if q.off = q.offReq then s.now else q.offAt }) s
    let s := if s.eng.dispatching ∧ s.eng.lastRun + 10 * usT ≤ s.now ∧ s.sys.engStopAt = none then
        s.updSys fun y => { y with engStopAt := some s.now } else s
    done s.raiseTarget
/-- ENGINE_LOSS_TIMEOUT (R34): the engine has not resumed within 1 ms. -/
def execEngineLossTimeout (s : State) : Host.Outcome State Fault Refusal :=
  match s.sys.engStopAt with
  | some t => done (orderlyStop (s.reach (t + msT)) .engine)
  | none => done s

/-! ### On-times of the main phases (R116 to R119, R126, R127) -/

/-- VIN as sensed, with the time from which it has been good (R134, R449). -/
def State.noteVin (s : State) (vin : Nat) : State :=
  let c := s.com.conv
  let good := decide (100 * c.vinWarn ≤ vin) && decide (vin ≤ 100 * c.vinOver)
  let bad := decide (vin < 100 * c.vinUnder) || decide (100 * c.vinOver < vin)
  s.updConv fun x => { x with
    vin := vin, vinGoodAt := if good then some (x.vinGoodAt.getD s.now) else none,
    vinBadAt := if bad then some (x.vinBadAt.getD s.now) else none }
/-- A rail's voltage as sensed, with the time from which it has lain more than 10 % above the reference (R135). -/
def State.noteRail (s : State) (x : Rail) (v : Nat) : State :=
  let high := decide (11 * s.railRef x < 10 * (v : Int)) && decide ((s.rail x).st ≠ .off) && decide ((s.rail x).st ≠ .fault)
  s.updRail x fun q => { q with v := v, ovFrom := if high then some (q.ovFrom.getD s.now) else none }

/-- Main phases in rotation: ACTIVE, and ADMIT once it has joined (R116). -/
def State.rotation (s : State) : List Nat :=
  mains.filter fun n => (s.phase n).st = .active || ((s.phase n).st = .admitting && decide (0 < (s.phase n).s))
/-- The ramp factor of a phase (R117, R131). -/
def Phase.factor (p : Phase) : Rat := if p.st = .admitting then (p.s : Rat) / 64 else 1
/-- Amplitude of the injected ramp, mV (R114, R118). -/
def mrippleMv : Nat → Nat
  | 0 => 4
  | 1 => 6
  | 2 => 10
  | _ => 15
/-- The comparator fires (R118): VIB and the injected ramp at `ramp`/256 of its amplitude lie below the reference and the ramp's
mean. -/
def State.vibBelow (s : State) (v ramp : Nat) : Bool :=
  let a := mrippleMv s.com.conv.mripple
  decide (512 * (v : Int) + 2 * a * (ramp % 256 : Nat) < 512 * s.railRef .vib + 256 * a)
/-- A time in ns at the resolution of 104 ps, 1/32 of a CKA cycle (R117). -/
def quantT (x : Rat) : Rat := (roundR (x * 48 / 5) : Rat) * 5 / 48
/-- On-time of a main phase, ns (R117). -/
def State.mainTon (s : State) (vin n : Nat) : Rat :=
  let p := s.phase n
  let t : Rat := (s.railRef .vib : Rat) / (max 1 vin : Nat) * 1000000 / (s.com.conv.mfreq : Rat) * s.conv.vib.klock *
    (1 + (p.trim : Rat) / 400) * p.factor
  max 20 (quantT t)

/-- A moment in ns. -/
def nsOf (t : Nat) : Rat := (t : Rat) * 5 / 12
/-- The PSG_IMON at which a phase's low side goes off, 0.1 A (R126, R133): zero in diode emulation, 20 % of PHRATE sunk in SRAMP. -/
def State.imonFloor (s : State) (n : Nat) : Option Int :=
  match s.railOfSlot n with
  | some x =>
    if (s.rail x).st = .sramp then some (-((s.com.conv.phrate : Int) / 5))
    else if x = .vib ∧ s.conv.vib.de then some 0
    else none
  | none => none
/-- The low side of a phase that switches: off once its current, `i`, has come down to the floor. -/
def State.lowSide (s : State) (n : Nat) (i : Int) : Pwm :=
  match s.imonFloor n with
  | some f => if i ≤ f then .mid else .low
  | none => .low
/-- PSG_PWM of a phase after its on-time, with its PSG_IMON, 0.1 A (R112, R126, R133). -/
def State.settlePwm (s : State) (imon : List Int) (n : Nat) (p : Phase) : Phase :=
  if p.pwm = .low ∨ (p.pwm = .high ∧ p.offAt ≤ nsOf s.now) then { p with pwm := s.lowSide n (imon.getD n 0) } else p
/-- The level at the PSG_PWM pin (R111, R112, R135): low in a slot not fitted and while an overvoltage holds the rail; an on-time
that has run out leaves the low level. -/
def State.pwmOut (s : State) (n : Nat) : Pwm :=
  let p := s.phase n
  let held : Bool := match s.railOfSlot n with
    | some x => (s.rail x).heldLow
    | none => false
  if s.fitted n = false ∨ held then .low
  else if p.pwm = .high ∧ p.offAt ≤ nsOf s.now then .low
  else p.pwm
/-- The level at the PSG_EN pin (R111, R112). -/
def State.enOut (s : State) (n : Nat) : Bool := s.fitted n && (s.phase n).en
/-- An on-time of `ton` ns starts at `at_` ns. -/
def Phase.turnOn (at_ ton : Rat) (p : Phase) : Phase :=
  { p with ton := ton, onAt := at_, offAt := at_ + ton, pwm := .high, pk := if p.pkHit then p.pk else 0, pkHit := false }
/-- The rail's phases switch (R132). -/
def RailSt.switching : RailSt → Bool
  | .ramp | .reg | .sdelay | .sramp => true
  | _ => false

/-- CONVERTER_COMPARATOR_FIRE (R116 to R118, R134): an on-time in the next phase of the rotation whose minimum off-time of 100 ns
has elapsed. `imon` holds the phases' PSG_IMON. -/
def execConverterComparatorFire (vin v ramp : Nat) (imon : List Int) (s : State) : Host.Outcome State Fault Refusal :=
  let s := (s.noteVin vin).noteRail .vib v
  let q := s.conv.vib
  if q.st.switching = false ∨ q.heldLow ∨ s.vibBelow v ramp = false then done s
  else
    let s := s.rotation.foldl (fun s n => s.updPhase n (s.settlePwm imon n)) s
    let rot := s.rotation.filter fun n => decide ((s.phase n).offAt + 100 ≤ nsOf s.now)
    let next := (rot.find? fun n => decide (s.conv.rot ≤ n)) <|> rot.head?
    match next with
    | none => done s
    | some n =>
      let s := s.updPhase n fun p => p.turnOn (nsOf s.now) (s.mainTon vin n)
      done (s.updConv fun c => { c with rot := n + 1, fires := c.fires + 1 })

/-- CONVERTER_FREQ_LOCK (R117): every 64 periods of the mean phase k_lock moves within 0.80 to 1.20; frozen in diode emulation
(R127). By how much is open: a free value. -/
def execConverterFreqLock (s : State) : Host.Outcome State Fault Refusal :=
  if s.conv.vib.de ∨ s.conv.vib.st.switching = false ∨ s.conv.fires < 64 * s.rotation.length then done s
  else
    let k := max (4 / 5) (min (6 / 5) (Config.klock s.free))
    done ((s.draw.updRail .vib fun q => { q with klock := k }).updConv fun c => { c with fires := 0 })

/-- PHASE_PEAK_LIMIT (R119, R129): PSG_IMON, `cur` in 0.1 A, reaches PKLIM within an on-time, which ends; a period counts once. -/
def execPhasePeakLimit (n cur : Nat) (s : State) : Host.Outcome State Fault Refusal :=
  let p := s.phase n
  if n < 40 ∧ p.pwm = .high ∧ p.onAt ≤ nsOf s.now ∧ nsOf s.now < p.offAt ∧ s.com.conv.pklim ≤ cur then
    done (s.updPhase n fun p => { p with
      pwm := .low, offAt := nsOf s.now, ton := nsOf s.now - p.onAt, pk := if p.pkHit then p.pk else p.pk + 1, pkHit := true, pkAt := s.now })
  else done s

/-- PHASE_OVERLOAD (R119, R123 case 4): eight consecutive periods ended by PKLIM. -/
def execPhaseOverload (n : Nat) (s : State) : Host.Outcome State Fault Refusal :=
  if n < 40 ∧ 8 ≤ (s.phase n).pk then done ((s.updPhase n fun p => { p with overload := true }).cancel) else done s

/-- PHASE_OVERLOAD_CLEAR (R136): 1 ms without a PKLIM ending. -/
def execPhaseOverloadClear (n : Nat) (s : State) : Host.Outcome State Fault Refusal :=
  if n < 40 ∧ (s.phase n).overload then
    done ((s.reach ((s.phase n).pkAt + msT)).updPhase n fun p => { p with overload := false, pk := 0 })
  else done s

/-- TRIM_LIMIT (R120): 64 consecutive outputs at an end value. -/
def execTrimLimit (n : Nat) (s : State) : Host.Outcome State Fault Refusal :=
  if n < 40 ∧ 64 ≤ (s.phase n).ends then done (s.updPhase n fun p => { p with trimLim := true }) else done s

/-- The shed hold-off runs (R124). -/
def State.holdoff (s : State) : Bool :=
  match s.conv.shedHold with
  | some t => decide (s.now < t)
  | none => false

/-- SHED_BEGIN (R121): with every condition met, the highest ACTIVE main phase goes PROVISIONAL. `total` is the mean
total main-phase current over the last 8 us. -/
def execShedBegin (total : Nat) (s : State) : Host.Outcome State Fault Refusal :=
  let act := s.mainsIn .active
  let spaced : Bool := match s.conv.lastShed with
    | some t => decide (t + 2 * usT ≤ s.now)
    | none => true
  if s.com.conv.shedPermit ∧ s.conv.vib.st = .reg ∧ s.target < act.length ∧ s.com.conv.minph < act.length ∧
      s.anyIn .wake = false ∧ s.anyIn .admitting = false ∧ s.holdoff = false ∧ spaced = true ∧
      total ≤ s.com.conv.shedmax * (act.length - 1) then
    match act.getLast? with
    | some n =>
      let s := s.updPhase n fun p => { p with st := .provisional, pwm := .mid, at_ := s.now }
      done (s.updConv fun c => { c with lastShed := some s.now })
    | none => done s
  else done s

/-- PROVISIONAL_EXPIRY (R122). -/
def execProvisionalExpiry (n : Nat) (s : State) : Host.Outcome State Fault Refusal :=
  if n < 40 ∧ (s.phase n).st = .provisional then
    let s := s.reach ((s.phase n).at_ + 20 * usT)
    done (s.updPhase n fun p => { p with st := .shed, en := false, at_ := s.now })
  else done s

/-- VIB_DROOP_CROSSING (R123 case 1). -/
def execVibDroopCrossing (v : Nat) (s : State) : Host.Outcome State Fault Refusal :=
  let s := s.noteRail .vib v
  if s.conv.vib.st = .reg ∧ (v : Int) + s.com.conv.cdroop < s.railTarget .vib then done s.cancel else done s

/-- CURRENT_STEP_DETECTED (R123 case 2): the total current rises by `rise` (0.1 A) within 1 us. -/
def execCurrentStepDetected (rise : Nat) (s : State) : Host.Outcome State Fault Refusal :=
  if 10 * s.com.conv.cstep < rise then done s.cancel else done s

/-- SHED_HOLDOFF_EXPIRY (R124). -/
def execShedHoldoffExpiry (s : State) : Host.Outcome State Fault Refusal :=
  match s.conv.shedHold with
  | some t => done ((s.reach t).updConv fun c => { c with shedHold := none })
  | none => done s

/-- WAKE_ELAPSED (R130). -/
def execWakeElapsed (n : Nat) (s : State) : Host.Outcome State Fault Refusal :=
  if 40 ≤ n then done s
  else
    let p := s.phase n
    let s' := s.reach (p.at_ + usT * s.com.conv.wake)
    match p.st with
    | .wake => done (s'.updPhase n fun p => { p with st := .active, at_ := s'.now })
    | .admitting => if p.s = 0 then done (s'.updPhase n fun p => { p with s := 1, at_ := s'.now }) else done s
    | _ => done s

/-- ADMIT_RAMP_STEP (R130, R131): every 4 us the factor rises by 1/64; it stands at 1 for its last 4 us, and 256 us after the phase
joined it is ACTIVE. -/
def execAdmitRampStep (n : Nat) (s : State) : Host.Outcome State Fault Refusal :=
  let p := s.phase n
  if n < 40 ∧ p.st = .admitting ∧ 0 < p.s then
    let s := s.reach (p.at_ + 4 * usT)
    done (s.updPhase n fun p => if 64 ≤ p.s then { p with st := .active, s := 0, at_ := s.now }
                                else { p with s := p.s + 1, at_ := s.now })
  else done s

/-- A running phase whose PSG_FLT_N is low goes FAULTED (R130); a main phase causes a cancellation (R123 case 5). -/
def State.phaseFaulted (s : State) (n : Nat) : State :=
  let p := s.phase n
  if p.fltN = false ∧ p.st.running then
    let s := s.updPhase n fun p => { p with st := .faulted, pwm := .mid, en := false, s := 0, at_ := s.now, respDue := true }
    let s := s.tally 0x0C 0 5 1
    if n < 32 then s.cancel.raiseTarget else s
  else s
/-- PHASE_FAULT (R112, R123 case 5, R130): PSG_FLT_N falls, or rises again (`low` clear). -/
def execPhaseFault (n : Nat) (low : Bool) (s : State) : Host.Outcome State Fault Refusal :=
  if 40 ≤ n then done s
  else if low then done ((s.updPhase n fun p => { p with fltN := false }).phaseFaulted n)
  else done (s.updPhase n fun p => { p with fltN := true, fltAt := if p.fltN then p.fltAt else s.now })

/-- The lowest SPARE phase of the same kind (R409). -/
def State.sparePhase (s : State) (n : Nat) : Option Nat :=
  (if n < 32 then mains else privs).find? fun k => (s.phase k).st = .spare

/-- PHASE_SPARE_RESPONSE (R409): in one set the spare is taken in and the faulted phase retired; with no spare, once PSG_FLT_N
has been high for 10 ms, the phase itself is taken in again, or retired on a fourth fault. -/
def execPhaseSpareResponse (n : Nat) (s : State) : Host.Outcome State Fault Refusal :=
  let p := s.phase n
  if 40 ≤ n ∨ p.st ≠ .faulted ∨ p.respDue = false ∨ s.sys.ready = false then done s
  else match s.sparePhase n with
    | some k =>
      let s := s.updPhase n fun p => { p with respDue := false }
      done (((s.stageSet [.phcmd k 1, .phcmd n 2]).tally 0x0C 0 6 1).tally 0x0C 0 11 1)
    | none =>
      if 3 ≤ p.readmits then
        done (((s.updPhase n fun p => { p with respDue := false }).stageFw (.phcmd n 2)).tally 0x0C 0 11 1)
      else if p.fltN = false then done s
      else
        let s := s.reach (p.fltAt + 10 * msT)
        let s := s.updPhase n fun p => { p with respDue := false, readmits := p.readmits + 1 }
        done (((s.stageFw (.phcmd n 1)).tally 0x0C 0 6 1).tally 0x0C 0 11 1)

/-- CONVERTER_DE_ENTRY (R126): `mean` is the mean current per ACTIVE phase over the last 256 periods. -/
def execConverterDeEntry (mean : Int) (s : State) : Host.Outcome State Fault Refusal :=
  if s.com.conv.dePermit ∧ s.conv.vib.st = .reg ∧ (s.mainsIn .active).length = max s.target s.com.conv.minph ∧
      s.anyIn .provisional = false ∧ s.anyIn .wake = false ∧ s.anyIn .admitting = false ∧ s.holdoff = false ∧
      100 * mean < 8 * (s.com.conv.phrate : Int) then
    done (s.updRail .vib fun q => { q with de := true })
  else done s

/-- CONVERTER_DE_EXIT (R127): the mean over 16 firings exceeds 12 % of PHRATE; no cancellation. -/
def execConverterDeExit (mean : Int) (s : State) : Host.Outcome State Fault Refusal :=
  if (s.conv.vib.st = .reg ∨ s.conv.vib.st = .sdelay) ∧ 12 * (s.com.conv.phrate : Int) < 100 * mean then
    done (s.updRail .vib fun q => { q with de := false })
  else done s

/-- Nominal crossover of a QCOMP code, kHz (R128). -/
def qcrossKHz (c : Nat) : Nat := 40 + 20 * c
/-- QCOMP of a quiet rail (R114). -/
def State.qcomp (s : State) (x : Rail) : Nat := if x = .vqc then s.com.conv.qcompC else s.com.conv.qcompA
/-- On-time of a privileged phase, ns (R117, R128, R131): `part` of a period of `d` CKA cycles, with its trim and its ramp factor, on
the 104 ps grid. -/
def Phase.quietTon (p : Phase) (d : Nat) (part : Rat) : Rat := quantT (max 0 (min 1 part) * d * 10 / 3 * (1 + (p.trim : Rat) / 400) * p.factor)
/-- Place of phase `i` of `n` in a period of `d` CKA cycles (R128). -/
def quietPlace (i n d : Nat) : Nat := (2 * i * d + n) / (2 * n)

/-- QUIET_RAIL_PERIOD (R128, R129, R131): the rail's phase 0 starts a period, 300 MHz / d after its last; a new QFDIV and the phases'
offsets are taken there. The duty is the compensator's control voltage, a free value of the code's crossover, over VIN. -/
def execQuietRailPeriod (x : Rail) (vin : Nat) (imon : List Int) (s : State) : Host.Outcome State Fault Refusal :=
  let s := s.noteVin vin
  if x = .vib ∨ (s.rail x).st.switching = false ∨ (s.rail x).heldLow then done s
  else
    let s := s.reach ((s.rail x).perAt + 8 * (s.rail x).div)
    let d := if x = .vqa then s.com.conv.qfdivA else s.com.conv.qfdivC
    let ph := (s.slotsOfRail x).filter fun n => (s.phase n).st = .active || ((s.phase n).st = .admitting && decide (0 < (s.phase n).s))
    let vc (n : Nat) : Rat := ((Config.compensator s.free (64 * qcrossKHz (s.qcomp x) + n)).toNat : Rat)
    let s' := (s.updRail x fun q => { q with div := d, perAt := s.now }).draw
    done (ph.zipIdx.foldl (fun t y => t.updPhase y.1 fun p =>
      let p := s.settlePwm imon y.1 p
      let k := quietPlace y.2 ph.length d
      { p.turnOn (nsOf s.now + (k : Rat) * 10 / 3) (p.quietTon d (vc y.1 / (max 1 vin : Nat))) with place := k }) s')

/-! ### Phase commands (R130, R131) -/

/-- A retire of the phase would leave a rail that is not OFF without a phase that runs or can rejoin (R131). -/
def State.lastPhase (s : State) (n : Nat) : Bool :=
  match s.railOfSlot n with
  | some x => decide ((s.rail x).st ≠ .off) && !((s.slotsOfRail x).any fun k => decide (k ≠ n) && (s.phase k).st.running)
  | none => false

/-- A committed PHCMD applies at its boundary: the state after, and whether it failed (R130, R131). A slot not fitted has no state
to change. -/
def State.phaseCmd (s : State) (n v : Nat) : State × Bool :=
  let p := s.phase n
  match v with
  | 0 => (s, false)
  | 1 =>
    if s.fitted n ∧ (p.st = .spare ∨ (p.st = .faulted ∧ p.fltN)) then
      let x := if s.passign n = 3 ∧ 32 ≤ n ∧ p.serves.isNone then some s.spareRail else p.serves
      ((s.updPhase n fun p => { p.enable with st := .admitting, s := 0, at_ := s.now, serves := x }).phaseFaulted n, false)
    else (s, true)
  | _ =>
    if s.fitted n = false then (s, true)
    else if p.st = .retired then (s, false)
    else if s.lastPhase n then (s, true)
    else ((s.updPhase n fun p => { p with st := .retired, en := false, pwm := .mid, s := 0, at_ := s.now }).raiseTarget, false)

/-- What a glue-up moves in the converter (R111, R125): a slot that is no longer fitted is held low, and NTARGET is met at once. -/
def State.convMoved (s : State) : State :=
  let gone := (List.range 40).filter fun n => s.fitted n = false
  (gone.foldl (fun s n => s.updPhase n fun p => { p with
    st := if p.st = .retired then .retired else .off, en := false, pwm := .low, s := 0, serves := none }) s).raiseTarget

/-! ### Rails (R132, R133) -/

/-- Spares of the quiet rails that go OFF with a rail: those in no use, once the other quiet rail does not run (DESIGN CHOICE,
log 118). -/
def State.sparesOff (s : State) (x : Rail) : List Nat :=
  match otherQuiet x with
  | none => []
  | some y => if (s.rail y).st.switching then [] else s.idleSpares
/-- Every phase of a rail to PSG_PWM mid, PSG_EN low and OFF (R130, R132). -/
def State.railPhasesOff (s : State) (x : Rail) : State :=
  (s.slotsOfRail x ++ s.sparesOff x).foldl (fun s n => s.updPhase n fun p =>
    if p.st = .retired then p else { p with st := .off, en := false, pwm := .mid, s := 0, at_ := s.now, serves := none }) s

/-- Start command of a rail in OFF, or in FAULT with the condition absent (R132, R136). -/
def State.railStart (s : State) (x : Rail) : State :=
  let q := s.rail x
  if q.st = .off ∨ (q.st = .fault ∧ q.ov = false) then
    let c := s.com.conv
    let vinOk := decide (100 * c.vinUnder ≤ s.conv.vin) && decide (s.conv.vin ≤ 100 * c.vinOver)
    (s.updRail x fun q => { q with st := .delay, at_ := s.now, notGood := false, watch := false }).updConv fun y =>
      { y with inStop := y.inStop && !vinOk }
  else s
/-- Delay field of a rail's start, ticks (R114). -/
def State.startDelay (s : State) : Rail → Nat
  | .vib => 240000 * s.com.conv.startVibD
  | .vqa => 240000 * s.com.conv.startVqaD
  | .vqc => 240000 * s.com.conv.startVqcD
/-- Stop delay, ticks. -/
def State.stopDelay (s : State) : Rail → Nat
  | .vib => 240000 * s.com.conv.stopVibD
  | .vqa => 240000 * s.com.conv.stopVqaD
  | .vqc => 240000 * s.com.conv.stopVqcD
/-- Stop ramp, 0.1 ms. -/
def State.stopRamp (s : State) : Rail → Nat
  | .vib => s.com.conv.stopVibR
  | .vqa => s.com.conv.stopVqaR
  | .vqc => s.com.conv.stopVqcR

/-- RAIL_START_COMMAND (R132). -/
def execRailStartCommand (x : Rail) (s : State) : Host.Outcome State Fault Refusal := done (s.railStart x)

/-- RAIL_DELAY_ELAPSED (R130, R132, R133): the reference is preset from the sensed voltage and the phases join, a privileged phase
with its duty preset to that voltage over VIN. -/
def execRailDelayElapsed (x : Rail) (v : Nat) (s : State) : Host.Outcome State Fault Refusal :=
  if (s.rail x).st = .delay then
    let s := s.reach ((s.rail x).at_ + s.startDelay x)
    let s := s.updRail x fun q => { q with st := .ramp, at_ := s.now, v := v, ref := if 200 ≤ v then v else 0,
                                           de := decide (x = .vib), off := 0 }
    let d := (s.rail x).div
    let joining := s.slotsOfRail x ++ (if x = .vib then [] else s.idleSpares)
    let s := joining.foldl (fun s n => s.updPhase n fun p =>
      if p.st ≠ .off then p
      else if s.spareSlot n then { p with st := .spare, at_ := s.now }
      else if x = .vib then { p.enable with st := .active, at_ := s.now }
      else { p.enable with st := .active, at_ := s.now, ton := p.quietTon d ((v : Rat) / (max 1 s.conv.vin : Nat)) }) s
    done (joining.foldl State.phaseFaulted s)
  else done s

/-- RAIL_REF_REACHED (R132): the reference has risen at set-point / ramp. -/
def execRailRefReached (x : Rail) (s : State) : Host.Outcome State Fault Refusal :=
  let q := s.rail x
  if q.st = .ramp then
    let mv := s.railMv x
    let s := s.reach (q.at_ + s.startRamp x * (mv - q.ref) / max 1 mv)
    done (s.updRail x fun q => { q with st := .reg, at_ := s.now, ref := mv, inst := s.railSet x, de := false, watch := true })
  else done s

/-- A rail in FAULT outside BOOT, or overvoltage turned into FAULT: the block halts with kind 5, its rails down (R457,
R459). In BOOT the rail alone is in FAULT (R452). -/
def State.railFault (s : State) (x : Rail) : State :=
  let s := (s.railPhasesOff x).updRail x fun q => { q with st := .fault, at_ := s.now, watch := false, de := false, heldLow := false }
  match s.hw.bstate with
  | .boot | .off | .guard_ | .halted => s
  | _ =>
    if s.sys.nocfgRun then s
    else
      let cut := converterCut s
      let s := darkAll (cut.updRail x fun q => { q with st := .fault })
      let s := s.updSys fun y => { y with stop := .none, stopStep := 0, hkind := 5 }
      (s.tally 9 0 5 1).setB .halted

/-- RAIL_NOT_GOOD_TIMEOUT (R132, R136): 2 ms at the set-point; a sensed rail not within 5 % of it is not good. -/
def execRailNotGoodTimeout (x : Rail) (v : Nat) (s : State) : Host.Outcome State Fault Refusal :=
  let q := s.rail x
  if q.watch ∧ q.st = .reg then
    let s := s.reach (q.at_ + 2 * msT)
    let mv := s.railMv x
    let s := s.updRail x fun q => { q with watch := false, v := v }
    if 20 * v < 19 * mv ∨ 21 * mv < 20 * v then
      done ((s.updRail x fun q => { q with notGood := true }).railFault x)
    else done s
  else done s

/-- RAIL_STOP_COMMAND (R132). -/
def execRailStopCommand (x : Rail) (s : State) : Host.Outcome State Fault Refusal :=
  if (s.rail x).st = .reg then done (s.updRail x fun q => { q with st := .sdelay, at_ := s.now, watch := false }) else done s

/-- RAIL_STOP_DELAY_ELAPSED (R132): cancellation, and the reference falls. -/
def execRailStopDelayElapsed (x : Rail) (s : State) : Host.Outcome State Fault Refusal :=
  if (s.rail x).st = .sdelay then
    let s := s.reach ((s.rail x).at_ + s.stopDelay x)
    done (s.cancel.updRail x fun q => { q with st := .sramp, at_ := s.now, ref := (s.railRef x).toNat, rampT := s.stopRamp x, de := false })
  else done s

/-- RAIL_DOWN (R132): the sensed rail is at or below 0.20 V. -/
def execRailDown (x : Rail) (v : Nat) (s : State) : Host.Outcome State Fault Refusal :=
  let s := s.noteRail x v
  if (s.rail x).st = .sramp ∧ v ≤ 200 then
    done ((s.railPhasesOff x).updRail x fun q => { q with st := .off, at_ := s.now, ref := 0 })
  else done s

/-- The coolant-stop row of a rail (R132). -/
def State.railCoolant (s : State) (x : Rail) : State :=
  match (s.rail x).st with
  | .delay | .ramp | .reg | .sdelay =>
    s.updRail x fun q => { q with
      st := .sramp, at_ := s.now, ref := (s.railRef x).toNat, rampT := min 50 (s.stopRamp x), watch := false, de := false }
  | _ => s

/-! ### Protection (R134, R135) -/

/-- INPUT_STOP (R134, R458): VIN beyond the under or over level for 20 us. -/
def execInputStop (vin : Nat) (s : State) : Host.Outcome State Fault Refusal :=
  let s := s.noteVin vin
  let c := s.com.conv
  let out := decide (vin < 100 * c.vinUnder) || decide (100 * c.vinOver < vin)
  let up := [Rail.vib, .vqa, .vqc].any fun x => decide ((s.rail x).st ≠ .off)
  if out && up then
    let s := s.reach (s.conv.vinBadAt.getD s.now + 20 * usT)
    let s := darkAll (converterCut s)
    let s := s.updConv fun y => { y with inStop := true }
    let s := s.tally 9 0 4 1
    if s.hw.bstate = .halted then done s
    else
      let s := s.updSys fun y => { y with stop := .none, stopStep := 0, hkind := 4, vinwait := true }
      done ((if s.sys.coreRun then s.harvestTake else s).setB .halted)
  else done s

/-- A board-droop alert leaves every port that carries it, at most once per 100 us (R488); type 4 stands for the ordered
set. -/
def State.alertOut (s : State) : State :=
  let free := match s.ports.alertAt with
    | some t => decide (t + 100 * usT ≤ s.now)
    | none => true
  if free then
    (s.updPorts fun p => { p with alertAt := some s.now }).dvtSendAll none 4 [BitVec.ofNat 8 s.com.tide.bslot]
  else s

/-- VIN_LOW (R134, R488): VIN crosses the warning level, or the level of return 0.2 V above it. -/
def execVinLow (vin : Nat) (s : State) : Host.Outcome State Fault Refusal :=
  let s := s.noteVin vin
  let w := 100 * s.com.conv.vinWarn
  if vin < w then
    if s.conv.vinLow then done s else done ((s.updConv fun c => { c with vinLow := true }).alertOut)
  else if w + 200 ≤ vin then done (s.updConv fun c => { c with vinLow := false })
  else done s

/-- OVERVOLTAGE (R135): the sensed voltage exceeds the reference by more than 10 % for 1 us; PSG_PWM is held low on every phase of
the rail, and an on-time that runs ends. -/
def execOvervoltage (x : Rail) (v : Nat) (s : State) : Host.Outcome State Fault Refusal :=
  let s := s.noteRail x v
  match (s.rail x).ovFrom with
  | some t =>
    if (s.rail x).ov then done s
    else
      let s := s.reach (t + usT)
      let s := s.updRail x fun q => { q with ov := true, ovAt := s.now, heldLow := true }
      done ((s.slotsOfRail x).foldl (fun s n => s.updPhase n fun p =>
        if p.pwm = .high then { p with pwm := .low, offAt := min p.offAt (nsOf s.now) } else p) s)
  | none => done s

/-- OVERVOLTAGE_PERSISTS (R135): the excess has lasted 100 us. -/
def execOvervoltagePersists (x : Rail) (s : State) : Host.Outcome State Fault Refusal :=
  let q := s.rail x
  if q.ov ∧ q.heldLow ∧ q.st ≠ .off ∧ q.st ≠ .fault then done ((s.reach (q.ovAt + 100 * usT)).railFault x) else done s

/-- OVERVOLTAGE_CLEAR (R135, R136): the voltage is within 3 % of the target. -/
def execOvervoltageClear (x : Rail) (v : Nat) (s : State) : Host.Outcome State Fault Refusal :=
  let s := s.noteRail x v
  let t := s.railRef x
  if (s.rail x).ov ∧ 97 * t ≤ 100 * (v : Int) ∧ 100 * (v : Int) ≤ 103 * t then
    done (s.updRail x fun q => { q with ov := false, heldLow := false })
  else done s

/-! ### Models of set-points (R255) -/

/-- Whether the model stands at the committed set-point after a change: its commands complete (R255). -/
def State.modelReached (s : State) (k : ModelRef) : State :=
  let hit (c : VCmd) : Bool := c.targets.contains k && decide (c.targets.filter (· ≠ k) = [])
  let s := (s.stg.vcmds.filter hit).foldl (fun s c => s.updRec c.ticket fun r => { r with status := .done }) s
  s.updStg fun g => { g with
    vcmds := (g.vcmds.filter fun c => !hit c).map fun c => { c with targets := c.targets.filter (· ≠ k) } }

/-- SET_POINT_MODEL_STEP (R82, R254, R255). -/
def execSetPointModelStep (k : ModelRef) (s : State) : Host.Outcome State Fault Refusal :=
  match k with
  | .region r =>
    let x := s.reg r
    let c := s.com.reg r
    if s.hasReg r = false ∨ x.model = (c.setpt : Int) then done s
    else
      let s := s.reach (x.modelAt + slewT (min c.slew c.slewmax))
      let m := stepTo x.model c.setpt
      let s := s.updReg r fun y => { y with model := m, modelAt := s.now }
      if m = (c.setpt : Int) then
        done ((s.updReg r fun y => { y with atSet := true, modelAtSet := s.now }).modelReached k)
      else done s
  | .rail q =>
    let x := s.rail q
    if x.model = s.railSet q then done s
    else
      let s := s.reach (x.modelAt + slewT (s.railSlew q))
      let m := stepTo x.model (s.railSet q)
      let s := s.updRail q fun y => { y with model := m, modelAt := s.now }
      if m = s.railSet q then done (s.modelReached k) else done s

end Sys2Proof.Machine
end

