-- ==== Sys2Proof/Machine/Read.lean ====
section
/-! DEFINITION. Reads of the host window (R9, R424, R497 to R509): what stands at each offset, the 64-bit latch, and the
items of a snapshot. -/

namespace Sys2Proof.Machine

/-- A word from its fields: low bit, width, value. -/
def wordOf (fs : List (Nat × Nat × Nat)) : Word := BitVec.ofNat 32 ((fs.map fun f => f.2.2 % 2 ^ f.2.1 * 2 ^ f.1).sum)
/-- Low or high half of a 64-bit value. -/
def half (hi : Bool) (x : Nat) : Word := BitVec.ofNat 32 (if hi then x / 2 ^ 32 else x)

/-- Codes of converter slot states (R223). -/
def PhSt.code : PhSt → Nat
  | .off => 0
  | .active => 1
  | .provisional => 2
  | .shed => 3
  | .wake => 4
  | .spare => 5
  | .admitting => 6
  | .faulted => 7
  | .retired => 8
/-- Codes of rail states (R223). -/
def RailSt.code : RailSt → Nat
  | .off => 0
  | .delay => 1
  | .ramp => 2
  | .reg => 3
  | .sdelay => 4
  | .sramp => 5
  | .fault => 6
/-- Codes of tide states (R364). -/
def TideSt.code : TideSt → Nat
  | .out => 0
  | .member => 1
  | .frozen => 2
  | .settled => 3
  | .expelled => 4
/-- DESC kinds (R43). -/
def NodeKind.code : NodeKind → Nat
  | .absent => 0
  | .pond => 0
  | .pan => 1
  | .privPan => 2
  | .sparePan => 3
  | .sparePriv => 4

/-- The key of the node with an ID (R50). -/
def State.nodeOfId (s : State) (id : Nat) : Option Nat :=
  (s.nodes.find? fun x => decide (x.2.kind ≠ .absent) && decide (x.1 ≠ 0) && decide (x.2.id.toNat = id)).map Prod.fst
/-- The region whose pans, spares or pond a node is. -/
def State.regionOf (s : State) (n : Nat) : Option Nat :=
  s.regions.find? fun r => decide ((s.rimg r).pond = n) || (s.rimg r).pans.contains n || (s.rimg r).spares.contains n
/-- Carry is in force in a pan (R102). -/
def Pan.carryOn (p : Pan) : Bool := p.par.carryPermit || p.par.carryAuto

/-- NODEVIEW of a node ID (R396); above 0x2000 nothing. -/
def State.nodeView (s : State) (id : Nat) : Word :=
  if 0x2000 < id then 0
  else match s.nodeOfId id with
    | none => 0
    | some n =>
      let x := s.nflt n
      let pond := (s.node n).kind = .pond
      wordOf [(0, 3, if x.missing then 7 else (s.node n).kind.code), (4, 3, if pond then 7 else (s.knownSt n).code),
        (7, 1, b2n x.stflt), (8, 1, b2n x.contact), (9, 1, b2n x.local_), (10, 2, x.adcLost),
        (12, 1, b2n (s.knownCarry n && !pond)), (13, 1, b2n x.ooc), (14, 1, b2n x.spath), (15, 1, b2n x.base),
        (16, 4, x.rcause), (20, 2, x.returns), (22, 10, (s.regionOf n).getD 0)]

/-- Loop-table word `k` of a loop with its committed mode and flags (R231). -/
def State.loopWord (s : State) (l k : Nat) : Word :=
  let e := s.lent l
  if e.used = false then 0
  else match k with
    | 0 => wordOf [(31, 1, 1), (28, 3, e.cls), (27, 1, b2n (s.com.loop l).closed), (25, 2, e.mrole), (17, 8, e.rlim)]
    | 1 => wordOf [(16, 16, e.spacing), (0, 13, e.entry)]
    | 2 => wordOf [(0, 13, e.scribe)]
    | 3 => wordOf [(16, 16, e.sbase), (0, 10, e.slen - 1)]
    | 4 => wordOf [(16, 14, e.cbase), (0, 13, e.clen)]
    | 5 => e.tvalid.setWidth 32
    | 14 => 0
    | 15 => (s.ldyn l).flags.setWidth 32
    | k =>
      if k < 10 then wordOf [(0, 14, e.trigs.get 0 (2 * (k - 6))), (16, 14, e.trigs.get 0 (2 * (k - 6) + 1))]
      else e.binds.get 0 (k - 10)

/-- Word `k` of a region's block, from RVREQ on (R500). -/
def State.regWord (s : State) (r k : Nat) : Word :=
  if s.hasReg r = false then 0
  else
    let c := s.com.reg r
    let q := (s.reg r).seq
    let h := (s.reg r).th
    let t := (s.reg r).tel
    let sg (x : Int) := encS 8 x
    let lost := ((s.rimg r).pans ++ (s.rimg r).spares).filter fun n => (s.nflt n).lost
    let left := (s.rimg r).spares.filter fun n => decide (s.knownSt n = .off) && !(s.nflt n).lost
    match k with
    | 0 => wordOf [(0, 10, c.req), (16, 9, c.slew)]
    | 1 => wordOf [(0, 10, c.ifloor), (16, 10, c.iceil)]
    | 2 => wordOf [(0, 10, c.mfloor), (16, 10, c.mceil)]
    | 3 => wordOf [(0, 9, c.slewmax), (16, 8, sg c.offlo), (24, 8, sg c.offhi)]
    | 4 => wordOf [(0, 10, c.setpt), (10, 6, c.gb), (16, 10, c.lo)]
    | 5 => wordOf [(0, 10, c.hi)]
    | 7 => wordOf [(0, 7, c.stgint), (8, 8, c.fenceto)]
    | 8 => wordOf [(0, 8, c.inrush), (8, 4, c.tret), (16, 8, c.purgehold)]
    | 9 => wordOf [(0, 3, c.state.code), (4, 3, c.ops.code), (8, 3, c.ins.code), (12, 3, c.mks.code), (16, 3, c.ths.code),
        (20, 4, q.st.code), (24, 5, q.stages), (29, 1, b2n q.purged)]
    | 10 => wordOf [(0, 1, b2n q.holding), (1, 1, b2n q.forced), (2, 1, b2n q.overdue), (3, 1, b2n q.startfail),
        (4, 1, b2n q.purgeslow)]
    | 11 => wordOf [(0, 16, c.rallow), (16, 16, ceilOf c)]
    | 12 => wordOf [(0, 3, c.band), (3, 1, b2n h.stale), (4, 1, b2n h.lowconf), (5, 1, b2n (decide (c.ths ≠ .none))), (8, 8, h.gbmin)]
    | 13 => wordOf [(0, 16, (h.hostMax.map (encS 16)).getD 0x8000), (16, 16, (h.hostMin.map (encS 16)).getD 0x8000)]
    | 14 => wordOf [(0, 16, h.tdio.toNat), (16, 8, h.dseq.toNat), (24, 1, b2n h.dfail)]
    | 15 => wordOf [(0, 16, h.lslack.toNat)]
    | 16 => wordOf [(0, 8, min 255 (s.livePans r).length), (8, 8, min 255 lost.length), (16, 4, min 15 left.length),
        (20, 1, b2n (s.short r)), (21, 1, b2n (decide (c.ccap ≠ 0) && (decide (c.thcap = 0) || decide (c.ccap < c.thcap)))),
        (22, 1, b2n c.carry), (23, 1, b2n c.forder), (24, 1, b2n (s.reg r).lastOver)]
    | 17 => wordOf [(0, 16, s.carryCap r / 100), (16, 16, c.ccap)]
    | 18 => wordOf [(0, 2, c.phase.code), (8, 20, c.ctx)]
    | 19 => wordOf [(0, 1, b2n t.wxFast), (1, 1, b2n t.wxSlowV), (2, 1, b2n t.wxSlowI)]
    | 20 => wordOf [(0, 16, if t.wxFast then t.idFast.toNat else 0), (16, 16, if t.wxSlowV then t.idSlowV.toNat else 0)]
    | 21 => wordOf [(0, 16, if t.wxSlowI then t.idSlowI.toNat else 0)]
    | _ => 0

/-- Extremes as a snapshot item (R508). -/
def extItem (x : Track) : BitVec 64 := BitVec.ofNat 64
  (x.v.min.toNat + x.v.max.toNat * 2 ^ 16 + x.i.min.toNat * 2 ^ 32 + x.i.max.toNat * 2 ^ 48)

/-- State of a slot at a moment (R167, R168): PENDING from the CKS cycle after the one at which it became READY, when a request came
while it was filled. -/
def Snap.stAt (x : Snap) (now : Nat) : Nat := if x.again ∧ x.filling = false ∧ x.againAt ≤ now then 1 else x.st

/-- Item of a snapshot slot (R508). -/
def Snap.item (x : Snap) (loops : Tbl LoopEnt) (marks : Tbl Nat) (space i : Nat) : BitVec 64 :=
  match space with
  | 0 =>
    if i = 0 then x.seq.setWidth 64
    else if i = 1 then x.epoch
    else if i = 2 then x.com.gen.setWidth 64
    else if i = 3 then BitVec.ofNat 64 (b2n x.rstDone)
    else if i = 4 then x.telGen.setWidth 64
    else if 0x4000 ≤ i ∧ i < 0xC000 then
      let l := (i - 0x4000) / 4
      let m := (x.com.loop l).man
      match (i - 0x4000) % 4 with
      | 0 => BitVec.ofNat 64 (b2n (x.com.loop l).closed + 2 * b2n (loops.get {} l).used)
      | 1 => BitVec.ofNat 64 ((m.get 0 0).toNat + (m.get 0 1).toNat * 2 ^ 32)
      | 2 => BitVec.ofNat 64 ((m.get 0 2).toNat + (m.get 0 3).toNat * 2 ^ 32)
      | _ => 0
    else if 0xC000 ≤ i ∧ i < 0x10000 then
      let w := i - 0xC000
      let c := x.com.coef.get {} w
      BitVec.ofNat 64 (c.value.toNat + encS 6 c.shift * 2 ^ 32 + marks.get 2 w * 2 ^ 40)
    else 0
  | 1 => (x.words.get 0 i).setWidth 64
  | 2 =>
    let r := i / 64
    let t := x.tel.get {} r
    let k := i % 64
    if k < 22 then ((x.views.get [] r).getD k 0).setWidth 64
    else if k = 32 then t.charge
    else if k = 33 then t.visible
    else if k = 34 then t.epoch.setWidth 64
    else if k = 35 then BitVec.ofNat 64 (t.meanV % 2 ^ 16 + b2n t.chInc * 2 ^ 16 + b2n t.exInc * 2 ^ 17 + b2n t.vSub * 2 ^ 18 +
      b2n t.host.inc * 2 ^ 19 + t.exFast * 2 ^ 32 + t.exSlowV * 2 ^ 48 + t.exSlowI * 2 ^ 56)
    else if k = 36 then extItem t.ext
    else if k = 37 then extItem t.host
    else 0
  | _ => if i ≤ 7 then x.energies.get 0 i else if i = 8 then extItem x.vib else if i = 9 then extItem x.vibHost else 0

/-- The slot, space and index that SNPSEL names, and the item read: zero unless the slot is READY (R507). -/
def State.snapItem (s : State) : BitVec 64 :=
  let v := s.hw.snpsel
  let x := s.tel.snaps.get {} (ufield v 0 2)
  if x.stAt s.now = 2 then x.item s.eng.loops s.sys.image.marks (ufield v 2 2) (ufield v 4 16) else 0

/-- Words 0x0000 to 0x019C (R438, R429, R463, R392, R501, R504). -/
def State.readA (s : State) (off : Nat) : Word :=
  let h := s.hw
  let y := s.sys
  match off with
  | 0x0000 => 0x0301
  | 0x0004 => wordOf [(0, 4, h.bstate.code)]
  | 0x0010 => wordOf [(0, 2, h.atState), (8, 8, h.atRefuse), (16, 8, h.sminor), (24, 8, h.attaches.toNat)]
  | 0x0018 => wordOf [(0, 16, if h.hibeat = 0 then 0 else min 65535 ((s.now - h.hibeat) / msT))]
  | 0x001C => s.stg.tkNext.setWidth 32
  | 0x0020 => s.store.serial.setWidth 32
  | 0x0024 => half true s.store.serial.toNat
  | 0x0028 => h.intcause.setWidth 32
  | 0x002C => h.inten.setWidth 32
  | 0x0030 => wordOf [(0, 8, y.expiries), (8, 1, b2n y.restart), (9, 1, b2n y.mcheld)]
  | 0x0034 => wordOf [(0, 8, y.refuse), (8, 4, y.step), (16, 1, b2n y.nocfg), (17, 1, b2n y.calmiss), (18, 1, b2n y.fwfall),
      (19, 1, b2n y.jigfall), (20, 1, b2n y.keepfail), (21, 1, b2n y.cfgpart)]
  | 0x0038 => wordOf [(0, 4, y.hkind), (4, 1, b2n y.vinwait)]
  | 0x0044 => wordOf [(0, 2, y.cfgResult)]
  | 0x0048 => s.fltsum.setWidth 32
  | 0x004C => wordOf [(0, 5, s.budcond)]
  | 0x0050 => wordOf [(0, 18, s.shutind)]
  | 0x0054 => wordOf [(0, 1, b2n !s.ports.flowN), (1, 1, b2n (match s.ports.inletAt with
      | some t => decide (s.now ≤ t + secT)
      | none => false))]
  | 0x0058 => wordOf [(0, 4, h.last.code), (4, 1, b2n h.lastTkt), (16, 9, h.queue.length)]
  | 0x005C => wordOf [(0, 8, h.wrbnd)]
  | 0x0060 => h.crsel.setWidth 32
  | 0x0064 =>
    let c := s.crec h.crsel.toNat
    if c.known then wordOf [(0, 4, c.status.code), (4, 1, 1), (5, 1, b2n c.bundled), (6, 1, b2n c.held), (8, 8, c.bundle),
      (16, 16, h.crsel.toNat)] else 0
  | 0x0068 => let c := s.crec h.crsel.toNat
    if c.known then c.gen else 0
  | 0x006C => wordOf [(0, 7, s.lanesActive), (8, 7, s.lanesSpare), (16, 7, s.lanesFailed), (24, 4, s.lanesCheck)]
  | 0x0070 => wordOf [(0, 2, s.ports.pmbRate), (2, 1, b2n s.ports.avs), (3, 1, b2n s.ports.avsErr)]
  | 0x0074 => wordOf [(0, 16, s.ports.avsV), (16, 16, s.ports.avsI)]
  | 0x0078 =>
    let c := s.conv
    wordOf [(0, 1, b2n c.vinLow), (1, 1, b2n c.inStop), (2, 1, b2n c.vib.ov), (3, 1, b2n c.vqa.ov), (4, 1, b2n c.vqc.ov),
      (5, 1, b2n c.vib.notGood), (6, 1, b2n c.vqa.notGood), (7, 1, b2n c.vqc.notGood), (8, 1, b2n s.spareX),
      (9, 1, b2n (match c.shedHold with
        | some t => decide (s.now < t)
        | none => false)),
      (16, 4, c.vib.st.code), (20, 4, c.vqa.st.code), (24, 4, c.vqc.st.code)]
  | 0x0094 => wordOf ((List.range 32).map fun n => (n, 1, b2n (s.phase n).overload))
  | 0x0098 => wordOf ((List.range 8).map fun n => (n, 1, b2n (s.phase (32 + n)).overload))
  | 0x009C => wordOf ((List.range 32).map fun n => (n, 1, b2n (s.phase n).trimLim))
  | 0x00A0 => wordOf ((List.range 8).map fun n => (n, 1, b2n (s.phase (32 + n)).trimLim))
  | 0x0104 => wordOf [(0, 2, match h.role with
      | some r => r.rank
      | none => 3), (2, 4, h.sesState), (8, 8, h.sesFails), (16, 16, h.sesNum.toNat)]
  | 0x0110 => h.sesNum
  | _ =>
    if 0x80 ≤ off ∧ off ≤ 0x90 then wordOf ((List.range 8).map fun k => (4 * k, 4, (s.phase (8 * ((off - 0x80) / 4) + k)).st.code))
    else if 0x120 ≤ off ∧ off ≤ 0x13C then h.challenge.get 0 ((off - 0x120) / 4)
    else 0

/-- Words 0x0200 to 0x041C (R294, R302, R114). -/
def State.readB (s : State) (off : Nat) : Word :=
  let b := s.com.bud
  let c := s.com.conv
  match off with
  | 0x0200 => wordOf [(0, 16, b.opcap)]
  | 0x0204 => wordOf [(0, 16, b.incap)]
  | 0x0208 => wordOf [(0, 16, b.mkcap), (16, 16, b.effconv)]
  | 0x020C => wordOf [(0, 16, b.cap), (16, 3, b.src), (20, 12, b.eta)]
  | 0x0210 => wordOf [(0, 16, b.trcap), (16, 16, b.thcap)]
  | 0x0214 => wordOf [(0, 16, b.hold), (16, 16, b.incapd)]
  | 0x0218 => wordOf [(0, 16, b.minC), (16, 16, b.maxC)]
  | 0x021C => wordOf [(0, 16, b.minM), (16, 16, b.maxM)]
  | 0x0220 => wordOf [(0, 16, b.minL), (16, 16, b.maxL)]
  | 0x0224 => wordOf [(0, 3, b.ord0), (4, 3, b.ord1), (8, 3, b.ord2), (12, 3, b.ord3), (16, 6, b.dhead), (24, 1, b2n b.mkerf), (25, 6, b.kdown)]
  | 0x0228 => wordOf [(0, 16, b.acomp), (16, 16, b.amem)]
  | 0x022C => wordOf [(0, 16, b.alink), (16, 16, b.slack)]
  | 0x0230 => wordOf [(0, 16, b.dcomp), (16, 16, b.dmem)]
  | 0x0234 => wordOf [(0, 16, b.dlink), (16, 16, b.spill)]
  | 0x0238 => wordOf [(0, 16, b.reserve)]
  | 0x023C => wordOf [(0, 2, b.diePhase.code)]
  | 0x0300 => wordOf [(0, 9, c.vibset)]
  | 0x0304 => wordOf [(0, 9, c.vibwinF), (16, 9, c.vibwinC)]
  | 0x0308 => wordOf [(0, 9, c.vibslew)]
  | 0x030C => wordOf [(0, 10, c.mfreq)]
  | 0x0310 => wordOf [(0, 2, c.mripple)]
  | 0x0314 => c.fitted
  | 0x0318 => c.spares
  | 0x031C => c.passign.setWidth 32
  | 0x0320 => wordOf [(0, 6, c.minph)]
  | 0x0324 => wordOf [(0, 10, c.phrate)]
  | 0x0328 => wordOf [(0, 10, c.pklim)]
  | 0x032C => wordOf [(0, 10, c.shedmax)]
  | 0x0330 => wordOf [(0, 1, b2n c.shedPermit), (1, 1, b2n c.dePermit)]
  | 0x0334 => wordOf [(0, 7, c.cdroop)]
  | 0x0338 => wordOf [(0, 10, c.cstep)]
  | 0x033C => wordOf [(0, 4, c.wake)]
  | 0x0340 => wordOf [(0, 10, c.startVibD), (16, 8, c.startVibR)]
  | 0x0344 => wordOf [(0, 10, c.startVqaD), (16, 8, c.startVqaR)]
  | 0x0348 => wordOf [(0, 10, c.startVqcD), (16, 8, c.startVqcR)]
  | 0x034C => wordOf [(0, 10, c.stopVibD), (16, 8, c.stopVibR)]
  | 0x0350 => wordOf [(0, 10, c.stopVqaD), (16, 8, c.stopVqaR)]
  | 0x0354 => wordOf [(0, 10, c.stopVqcD), (16, 8, c.stopVqcR)]
  | 0x0358 => wordOf [(0, 8, c.vinUnder), (8, 8, c.vinWarn), (16, 8, c.vinOver)]
  | 0x035C => wordOf [(0, 10, c.qsetA), (16, 10, c.qsetC)]
  | 0x0360 => wordOf [(0, 10, c.qwinF), (16, 10, c.qwinC)]
  | 0x0364 => wordOf [(0, 9, c.qslew)]
  | 0x0368 => wordOf [(0, 9, c.qfdivA), (16, 9, c.qfdivC)]
  | 0x036C => wordOf [(0, 2, c.qcompA), (4, 2, c.qcompC)]
  | _ => if 0x380 ≤ off ∧ off ≤ 0x41C then wordOf [(0, 2, s.com.phcmd.get 0 ((off - 0x380) / 4))] else 0

/-- Words 0x0500 to 0x077C (R321, R322, R330, R339). -/
def State.readC (s : State) (off : Nat) : Word :=
  let l := s.led
  match off with
  | 0x05C0 => wordOf [(0, 1, b2n s.com.shim.en), (1, 7, s.com.shim.floor), (8, 16, s.com.shim.slope), (24, 8, s.com.shim.hold)]
  | 0x05C4 => wordOf [(0, 4, s.com.shim.slot), (8, 8, s.com.shim.stag), (16, 8, s.com.shim.annwait)]
  | 0x05C8 => wordOf [(0, 2, s.shim.st), (2, 11, s.windows.length)]
  | 0x05CC => wordOf [(0, 16, s.shim.iref), (16, 16, s.shim.f / 10)]
  | 0x0600 => half false s.com.shim.ledbase.toNat
  | 0x0604 => half true s.com.shim.ledbase.toNat
  | 0x0608 => wordOf [(0, 1, b2n s.com.shim.leden)]
  | 0x060C => wordOf [(0, 2, l.st), (2, 1, b2n l.fault), (3, 1, b2n l.stall), (16, 13, l.cache.length)]
  | 0x0610 => l.mis
  | 0x0618 => half false l.total.toNat
  | 0x061C => half true l.total.toNat
  | 0x0624 => wordOf [(0, 2, l.qst)]
  | 0x0628 => l.qseq
  | 0x062C => if l.qst = 2 then l.qgen else 0
  | 0x0630 => if l.qst = 2 then half false l.qepoch.toNat else 0
  | 0x0634 => if l.qst = 2 then half true l.qepoch.toNat else 0
  | 0x0638 => if l.qst = 2 then half false l.qtotal.toNat else 0
  | 0x063C => if l.qst = 2 then half true l.qtotal.toNat else 0
  | _ =>
    if 0x500 ≤ off ∧ off ≤ 0x53C then
      let p := s.com.hnt.get {} ((off - 0x500) / 4)
      wordOf [(0, 1, b2n p.en), (1, 1, b2n p.aen), (8, 8, p.tmask.toNat)]
    else if 0x540 ≤ off ∧ off ≤ 0x57C then
      let x := s.hsrc ((off - 0x540) / 4)
      wordOf [(0, 8, x.check.toNat), (8, 8, x.rate.toNat), (16, 8, x.scope_.toNat), (24, 8, x.other.toNat)]
    else if 0x580 ≤ off ∧ off ≤ 0x5BC then
      let x := s.hsrc ((off - 0x580) / 4)
      wordOf [(0, 8, x.gap.toNat), (8, 24, x.accept.toNat)]
    else if 0x640 ≤ off ∧ off ≤ 0x67C then wordOf [(0, 20, l.qctx.get 0 ((off - 0x640) / 4))]
    else if 0x680 ≤ off ∧ off ≤ 0x77C ∧ l.qst = 2 then
      let e := l.qres.get {} ((off - 0x680) / 16)
      match (off - 0x680) / 4 % 4 with
      | 0 => half false e.energy.toNat
      | 1 => half true e.energy.toNat
      | 2 => e.active
      | _ => e.kerfed
    else 0

/-- Words 0x0800 to 0x093C (R364, R392, R490). -/
def State.readD (s : State) (off sel : Nat) : Word :=
  let c := s.com.tide
  let t := s.tide
  let p := c.peers.get {} sel
  let x := s.tpeer sel
  let outs := (t.escrow.filter fun e => decide (e.peer = sel) && decide (e.inc = x.inc)).length
  match off with
  | 0x0800 => BitVec.ofNat 32 c.group
  | 0x0804 => wordOf [(0, 20, c.dieId)]
  | 0x0808 => wordOf [(0, 16, c.h0)]
  | 0x0810 => half false c.gbud
  | 0x0814 => half true c.gbud
  | 0x0818 => wordOf [(0, 16, c.ifloor), (16, 16, c.iceil)]
  | 0x081C => wordOf [(0, 16, c.mfloor), (16, 16, c.mceil)]
  | 0x0820 => wordOf [(0, 11, c.tlimit), (16, 8, c.udelta), (24, 8, c.urgage)]
  | 0x0824 => wordOf [(0, 11, c.tlimmax)]
  | 0x0828 => wordOf [(0, 8, c.retryd), (8, 8, c.retryf), (16, 8, c.deadtime)]
  | 0x082C => wordOf [(0, 1, b2n c.ten), (1, 1, b2n c.freeze)]
  | 0x0830 => wordOf [(0, 3, t.st.code), (3, 1, b2n t.texpel), (4, 1, b2n t.staleFig),
      (8, 8, ((List.range 32).filter fun p => (c.peers.get {} p).valid).length), (16, 8, t.escrow.length)]
  | 0x0834 => BitVec.ofNat 32 s.store.incarnation
  | 0x0838 => BitVec.ofNat 32 t.h
  | 0x083C => wordOf [(0, 16, encS 16 t.u), (16, 16, min 65535 t.offer)]
  | 0x0840 => wordOf [(0, 16, min 65535 t.want)]
  | 0x0844 => BitVec.ofNat 32 s.stranded
  | 0x0848 => BitVec.ofNat 32 t.dropped
  | 0x084C => t.disc
  | 0x0850 => half false t.relsum
  | 0x0854 => half true t.relsum
  | 0x085C => wordOf [(0, 5, s.hw.tpsel)]
  | 0x0860 => wordOf [(0, 20, p.die), (20, 1, b2n p.board), (21, 1, b2n p.valid),
      (24, 2, if x.dead then 2 else if x.live then 1 else 0), (26, 6, min 63 outs)]
  | 0x0864 => BitVec.ofNat 32 p.expinc
  | 0x0868 => BitVec.ofNat 32 x.inc
  | 0x0870 => half false x.tx
  | 0x0874 => half true x.tx
  | 0x0878 => half false x.rx
  | 0x087C => half true x.rx
  | 0x0900 => wordOf [(0, 8, s.com.confthr), (8, 8, s.com.tinlet), (16, 8, s.com.tdrain)]
  | 0x0908 => wordOf [(0, 11, s.sys.diodeQ.length)]
  | 0x0910 => wordOf [(0, 4, c.bslot), (4, 4, c.ndies), (8, 1, b2n c.ring)]
  | 0x0914 => wordOf [(0, 1, b2n (match s.ports.peerDroop with
      | some e => decide (s.now < e)
      | none => false)), (1, 4, s.ports.dslot)]
  | _ =>
    if 0x920 ≤ off ∧ off ≤ 0x92C then
      let k := (off - 0x920) / 4
      wordOf [(0, 1, b2n (c.dvtEn.getLsbD k)), (1, 2, c.dvtMax.get 3 k), (4, 4, c.dvtSlot.get 0 k)]
    else if 0x930 ≤ off ∧ off ≤ 0x93C then
      let d := s.dvt ((off - 0x930) / 4)
      wordOf [(0, 1, b2n d.up), (1, 2, d.rate), (4, 4, d.feat.toNat), (8, 4, d.pslot), (12, 1, b2n d.miswire), (16, 16, d.crcErr.toNat)]
    else 0

/-- Words 0x0A00 to 0x1000 (R396, R416, R441, R444, R505 to R509). -/
def State.readE (s : State) (off sel : Nat) : Word :=
  let h := s.hw
  let f := s.flt
  let rec_ := s.log.buf.getD sel 0
  let le := s.log.ring.get {} (h.logsel.toNat % 512)
  let shown := decide (h.logsel ≠ 0) && decide (le.seq = h.logsel)
  let first := (s.eng.dyn.find? fun x => x.2.flags ≠ 0).map Prod.fst
  match off with
  | 0x0A00 => wordOf [(0, 14, h.nodesel)]
  | 0x0A04 => s.nodeView h.nodesel
  | 0x0A08 => h.talsel
  | 0x0A0C => wordOf [(0, 1, b2n f.talReady), (1, 1, b2n f.talFresh), (2, 1, b2n f.talFault), (16, 16, f.hseq.toNat)]
  | 0x0A10 => half false f.talVal.toNat
  | 0x0A14 => half true f.talVal.toNat
  | 0x0A18 => half false f.talEp.toNat
  | 0x0A1C => half true f.talEp.toNat
  | 0x0A20 => f.talGen
  | 0x0B00 => s.log.head
  | 0x0B04 => h.logsel
  | 0x0B08 => wordOf [(0, 2, h.loglvl)]
  | 0x0B10 => if shown then le.seq else 0
  | 0x0B14 => if shown then wordOf [(0, 16, le.code.toNat), (16, 8, le.level.toNat), (24, 8, le.narg.toNat)] else 0
  | 0x0B18 => if shown then le.arg0 else 0
  | 0x0B1C => if shown then le.arg1 else 0
  | 0x0B20 => wordOf [(0, 1, b2n s.log.en), (1, 1, b2n s.log.stop)]
  | 0x0B24 => wordOf [(0, 12, s.log.buf.length), (12, 1, b2n (decide (2048 ≤ s.log.buf.length)))]
  | 0x0B28 => wordOf [(0, 11, h.trcsel)]
  | 0x0B30 => half false rec_.toNat
  | 0x0B34 => half true rec_.toNat
  | 0x0C00 => wordOf [(0, 13, h.loopsel)]
  | 0x0C08 => wordOf [(0, 13, first.getD 0), (31, 1, b2n first.isNone)]
  | 0x0C0C => wordOf [(0, 14, h.coefsel)]
  | 0x0C10 => wordOf [(0, 6, h.coefsh)]
  | 0x0C14 => (s.com.coef.get {} sel).value
  | 0x0C18 => wordOf [(0, 6, encS 6 (s.com.coef.get {} sel).shift), (8, 2, s.sys.image.marks.get 2 sel)]
  | 0x0D04 => wordOf [(0, 23, h.imgOff)]
  | 0x0D0C => wordOf [(0, 3, h.imgState), (8, 8, h.imgReason), (16, 16, h.imgWords.toNat)]
  | 0x0E04 => h.snpsel
  | 0x0E08 => half false s.snapItem.toNat
  | 0x0E0C => half true s.snapItem.toNat
  | 0x1000 => wordOf [(0, 10, h.regsel)]
  | _ =>
    if 0xB40 ≤ off ∧ off ≤ 0xB5C then s.log.mask.get 0 ((off - 0xB40) / 4)
    else if 0xC20 ≤ off ∧ off ≤ 0xC2C then (if (s.lent sel).used then (s.com.loop sel).man.get 0 ((off - 0xC20) / 4) else 0)
    else if 0xC40 ≤ off ∧ off ≤ 0xC7C then s.loopWord sel ((off - 0xC40) / 4)
    else if 0xE10 ≤ off ∧ off ≤ 0xE1C then wordOf [(0, 2, (s.tel.snaps.get {} ((off - 0xE10) / 4)).stAt s.now)]
    else if 0xE20 ≤ off ∧ off ≤ 0xE2C then (s.tel.snaps.get {} ((off - 0xE20) / 4)).seq
    else if 0xF00 ≤ off ∧ off ≤ 0xF7C then
      wordOf ((List.range 32).map fun b =>
        let t := (s.reg (8 * (off - 0xF00) + b)).tel
        (b, 1, b2n (t.wxFast || t.wxSlowV || t.wxSlowI)))
    else 0

/-- The word that stands at an offset, through a selector value, block state and latch apart (R498). -/
def State.peek (s : State) (off sel : Nat) : Word :=
  if off % 4 ≠ 0 then 0
  else if off < 0x200 then s.readA off
  else if off < 0x500 then s.readB off
  else if off < 0x800 then s.readC off
  else if off < 0xA00 then s.readD off sel
  else if off ≤ 0x1000 then s.readE off sel
  else if 0x1080 ≤ off ∧ off ≤ 0x10D4 then s.regWord sel ((off - 0x1080) / 4)
  else 0

/-- The selector that an offset is read or written through (R499). -/
def HostWin.selOf (h : HostWin) (off : Nat) : Nat :=
  if 0x85C < off ∧ off < 0x880 then h.tpsel
  else if 0xB30 ≤ off ∧ off ≤ 0xB34 then h.trcsel
  else if 0xC14 ≤ off ∧ off ≤ 0xC18 then h.coefsel
  else if 0xC00 < off ∧ off < 0xC80 then h.loopsel
  else if 0x1080 ≤ off then h.regsel
  else 0

/-- Low words of the 64-bit pairs (R9, R501). -/
def pairLow (off : Nat) : Bool :=
  [0x20, 0x64, 0x600, 0x618, 0x630, 0x638, 0x810, 0x850, 0x870, 0x878, 0xA10, 0xA18, 0xE08].contains off ||
  (decide (0x680 ≤ off) && decide (off ≤ 0x77C) && decide (off % 16 = 0))
/-- High words of the pairs. -/
def pairHigh (off : Nat) : Bool := decide (4 ≤ off) && pairLow (off - 4)

/-- What a read of the host window answers (R9, R424, R431, R497). -/
def State.hostRead (s : State) (off : Nat) : Word :=
  match s.hw.bstate with
  | .off => 0
  | .guard_ | .boot => if [0x0000, 0x0004, 0x0034, 0x0038, 0x0058].contains off then s.peek off 0 else 0
  | _ =>
    if off = 0xB08 ∧ s.hw.sminor = 0 then 0
    else if pairHigh off then s.hw.latch
    else s.peek off (s.hw.selOf off)

/-- A read's effect on the window: its data, and the latch of the high word where it is the low word of a pair (R9). -/
def State.doRead (s : State) (off : Nat) : State :=
  let v := s.hostRead off
  let served := s.service || s.hw.bstate = .stopping || s.hw.bstate = .halted
  s.updHw fun h => { h with
    rdData := v,
    latch := if served && pairLow off then s.peek (off + 4) (h.selOf off) else h.latch }

/-- LOW_WORD_READ (R9): reading the low word of a pair latches its high word. -/
def execLowWordRead (off : Nat) (s : State) : Host.Outcome State Fault Refusal := done (s.doRead off)

/-- SNPDAT_AUTO_READ (R507): a read of SNPDAT1; with AUTO set it adds 1 to INDEX. -/
def execSnpdatAutoRead (s : State) : Host.Outcome State Fault Refusal :=
  let s := s.doRead 0xE0C
  if bitOf s.hw.snpsel 31 ∧ s.hw.bstate ≠ .off ∧ s.hw.bstate ≠ .guard_ ∧ s.hw.bstate ≠ .boot then
    let i := (ufield s.hw.snpsel 4 16 + 1) % 65536
    done (s.updHw fun h => { h with snpsel := wordOf [(0, 4, h.snpsel.toNat), (4, 16, i), (31, 1, 1)] })
  else done s

end Sys2Proof.Machine
end

