-- ==== Sys2Proof/Machine/TreeOps.lean ====
section
/-! DEFINITION. Packets of the sluice tree, their carriage over a link under credits (R42 to R49), and routing (R54, R55):
the operations that every sender and receiver of packets goes through. -/

namespace Sys2Proof.Machine

/-! ### Packets (R42, R43) -/

/-- Class of a packet type (R43): C 0x1 to 0x4, 0x6, 0x7; T 0x8 to 0xA; the rest U. -/
def classOfTy (ty : BitVec 4) : PClass :=
  match ty.toNat with
  | 1 | 2 | 3 | 4 | 6 | 7 => .c
  | 8 | 9 | 10 => .t
  | _ => .u
/-- A packet from a type, a header and a body. -/
def pkt (ty : BitVec 4) (h : Hdr) (body : Nat) : Packet := { ty := ty, bc := h.bc, node := h.dst, body := BitVec.ofNat 43 body }
/-- WRITE of a SEL (R43). -/
def writePkt (h : Hdr) (sel : Nat) (v : Word) : Packet := pkt 3 h (sel * 2 ^ 35 + v.toNat)
/-- STAGE of a SEL under an epoch tag (R43). -/
def stagePkt (h : Hdr) (sel : Nat) (tag : BitVec 3) (v : Word) : Packet := pkt 4 h (sel * 2 ^ 35 + tag.toNat * 2 ^ 32 + v.toNat)
/-- EVENT from a node (R43): cause and detail. -/
def eventPkt (src : NodeId) (cause : Byte) (detail : Word) : Packet :=
  pkt 6 { bc := false, dst := src } (cause.toNat * 2 ^ 35 + detail.toNat)
/-- SAMPLE from a node (R43). -/
def samplePkt (src : NodeId) (kind : Byte) (v : Word) : Packet :=
  pkt 8 { bc := false, dst := src } (kind.toNat * 2 ^ 35 + v.toNat)
/-- The header that addresses one node. -/
def State.hdrOf (s : State) (n : Nat) : Hdr := { bc := false, dst := (s.node n).id }
/-- The header that addresses a node's whole subtree. -/
def State.bcOf (s : State) (n : Nat) : Hdr := { bc := true, dst := (s.node n).id }
/-- The header that addresses every node (R50). -/
def allHdr : Hdr := { bc := true, dst := 0xFFFF }

/-- The 64 bits of a packet (R42). -/
def Packet.bits (p : Packet) : BitVec 64 := p.ty ++ BitVec.ofBool p.bc ++ p.node ++ p.body
/-- Odd parity of a byte (R39): the line that makes the number of ones odd. -/
def oddParity (b : Byte) : Bool := (List.range 8).foldl (fun x i => x != b.getLsbD i) true
/-- The beats of a packet (R39): bits [63:56] first, the frame line high on the first. -/
def Packet.beats (p : Packet) : List Beat :=
  (List.range 8).map fun k =>
    let b : Byte := (p.bits >>> (56 - 8 * k)).setWidth 8
    { data := b, frame := decide (k = 0), parity := oddParity b }
/-- The code of a class on the credit-return lines (R39). -/
def creditCode : PClass → BitVec 2
  | .c => 1
  | .t => 2
  | .u => 3

/-! ### Credits and arbitration (R45 to R48) -/

/-- Credits of a class held by the sender. -/
def LinkDir.credit (d : LinkDir) : PClass → Nat
  | .c => d.creditC
  | .t => d.creditT
  | .u => d.creditU
/-- Buffers of a class at the receiver (R45). -/
def buffers : PClass → Nat
  | .c => 4
  | .t => 4
  | .u => 2
/-- Credits of a class changed. -/
def LinkDir.setCredit (d : LinkDir) (k : PClass) (n : Nat) : LinkDir :=
  match k with
  | .c => { d with creditC := n }
  | .t => { d with creditT := n }
  | .u => { d with creditU := n }
/-- Credits of a class on the wire back. -/
def LinkDir.back (d : LinkDir) : PClass → Nat
  | .c => d.backC
  | .t => d.backT
  | .u => d.backU
/-- Credits on the wire back changed. -/
def LinkDir.setBack (d : LinkDir) (k : PClass) (n : Nat) : LinkDir :=
  match k with
  | .c => { d with backC := n }
  | .t => { d with backT := n }
  | .u => { d with backU := n }
/-- Packets of a class lost on the wire since the last audit. -/
def LinkDir.lost (d : LinkDir) : PClass → Nat
  | .c => d.lostC
  | .t => d.lostT
  | .u => d.lostU
/-- Lost packets changed. -/
def LinkDir.setLost (d : LinkDir) (k : PClass) (n : Nat) : LinkDir :=
  match k with
  | .c => { d with lostC := n }
  | .t => { d with lostT := n }
  | .u => { d with lostU := n }
/-- A packet sent is counted (R47). -/
def LinkDir.countSent (d : LinkDir) (k : PClass) : LinkDir :=
  match k with
  | .c => { d with sentC := d.sentC + 1 }
  | .t => { d with sentT := d.sentT + 1 }
  | .u => { d with sentU := d.sentU + 1 }
/-- A packet received is counted (R47). -/
def LinkDir.countRecv (d : LinkDir) (k : PClass) : LinkDir :=
  match k with
  | .c => { d with recvC := d.recvC + 1 }
  | .t => { d with recvT := d.recvT + 1 }
  | .u => { d with recvU := d.recvU + 1 }
/-- Packets of a class on the wire or in the receiver's buffers. -/
def LinkDir.onWire (d : LinkDir) (k : PClass) : Nat := (d.wire.filter fun p => decide (classOfTy p.ty = k)).length

/-- Place in the queue of the first packet of a class that may go. While staging is closed, STAGE, END and set close go ahead
of WRITE packets (R46), and of no other packet of class C (R56): the place is that of the first class C packet which is no
WRITE, where that is one of them. -/
def LinkDir.firstOf (d : LinkDir) (closing : Bool) (k : PClass) : Option Nat :=
  if d.credit k = 0 then none
  else
    let any := d.queue.findIdx? fun p => decide (classOfTy p.ty = k)
    let ahead := d.queue.findIdx? fun p => decide (classOfTy p.ty = k) && decide (p.ty ≠ 3)
    match closing, ahead with
    | true, some i => if (d.queue[i]?.map fun p => decide (p.ty = 4)) = some true then some i else any
    | _, _ => any

/-- The packet that the port sends next (R46): class U, then C and T alternating. -/
def LinkDir.pick (d : LinkDir) (closing : Bool) : Option Nat :=
  match d.firstOf closing .u with
  | some i => some i
  | none =>
    match d.firstOf closing .c, d.firstOf closing .t with
    | some i, some j => some (if d.lastT then i else j)
    | some i, none => some i
    | none, j => j

/-- An audit carries the counts of the moment at which it leaves (R47). -/
def LinkDir.fillAudit (d : LinkDir) (p : Packet) : Packet :=
  if p.ty = 0xD ∧ p.body.toNat / 2 ^ 35 = 1 then
    { p with body := BitVec.ofNat 43 (2 ^ 35 + d.sentC.toNat * 65536 + d.sentT.toNat * 256 + d.sentU.toNat) }
  else p
/-- A cycle and an epoch field of TIME with `w` cycles more (R53): carry into the epoch field at 4,800. -/
def timeBody (cycle epoch w : Nat) : Nat :=
  (cycle + w) % 4800 * 2 ^ 27 + (epoch + (cycle + w) / 4800) % 65536 * 2 ^ 11
/-- A TIME packet states the cycle on which its first byte leaves: the cycles that it waited are added (R53). -/
def LinkDir.fillTime (now : Nat) (d : LinkDir) (p : Packet) : Packet :=
  if p.ty = 7 then
    let b := p.body.toNat
    { p with body := BitVec.ofNat 43 (timeBody (b / 2 ^ 27 % 8192) (b / 2 ^ 11 % 65536) ((now - d.timeIn.headD now) / cksT)) }
  else p
/-- One packet leaves the queue. -/
def LinkDir.sendAt (now : Nat) (d : LinkDir) (i : Nat) : LinkDir :=
  match d.queue[i]? with
  | none => d
  | some p =>
    let k := classOfTy p.ty
    let q := d.fillTime now (d.fillAudit p)
    let d := { d with
      queue := d.queue.eraseIdx i, wire := d.wire ++ [q], beats := q.beats,
      lastT := if k = PClass.u then d.lastT else decide (k = PClass.t),
      timeIn := if p.ty = 7 then d.timeIn.drop 1 else d.timeIn,
      timeOut := if p.ty = 7 then d.timeOut ++ [now] else d.timeOut }
    (d.setCredit k (d.credit k - 1)).countSent k

/-- Packets leave while a credit and a packet for it are there. -/
def LinkDir.pump (now : Nat) (closing : Bool) : Nat → LinkDir → LinkDir
  | 0, d => d
  | fuel + 1, d =>
    if d.resetting then d
    else match d.pick closing with
      | none => d
      | some i => LinkDir.pump now closing fuel (d.sendAt now i)

/-- A packet is given to a port: it waits for its credit (R45). -/
def LinkDir.push (now : Nat) (closing : Bool) (p : Packet) (d : LinkDir) : LinkDir :=
  let d := { d with queue := d.queue ++ [p], timeIn := if p.ty = 7 then d.timeIn ++ [now] else d.timeIn }
  d.pump now closing d.queue.length
/-- A WRITE replaces one of the same node and SEL that still waits at the port (R193). -/
def LinkDir.pushWrite (now : Nat) (closing : Bool) (p : Packet) (d : LinkDir) : LinkDir :=
  let same (q : Packet) : Bool := decide (q.ty = 3) && decide (q.bc = p.bc) && decide (q.node = p.node) &&
    decide (q.body.toNat / 2 ^ 35 = p.body.toNat / 2 ^ 35)
  match d.queue.findIdx? same with
  | some i => { d with queue := d.queue.set i p }
  | none => d.push now closing p

/-- A packet is sent over a link. -/
def State.sendOn (s : State) (l : LinkId) (d : Dir) (p : Packet) : State := s.updDir l d (LinkDir.push s.now s.stg.closed p)

/-! ### Routing (R54, R55) -/

/-- The link between a node and its active parent (R35). -/
def State.upLink (s : State) (n : Nat) : LinkId := { node := n, path := if (s.node n).onSpare then .spare else .primary }
/-- A node sends a packet up on its active parent port (R55). -/
def State.sendUp (s : State) (n : Nat) (p : Packet) : State := s.sendOn (s.upLink n) .up p
/-- The nodes at the child ports of a node, by port. -/
def State.children (s : State) (n : Nat) : List Nat :=
  s.nodes.keys.filter fun c => decide (c ≠ 0) && decide ((s.node c).kind ≠ .absent) && decide ((s.node c).parent = n) && !(s.node c).onSpare
/-- The nodes that reach a node over their spare path. -/
def State.adopted (s : State) (n : Nat) : List Nat :=
  s.nodes.keys.filter fun c => decide (c ≠ 0) && decide ((s.node c).kind ≠ .absent) && decide ((s.node c).spareParent = some n) && (s.node c).onSpare
/-- The link behind a port of a node: child ports from 0 (adoption ports are 16 + k at a pond, 32 + k at the hub). -/
def State.linkAt (s : State) (n port : Nat) : Option LinkId :=
  let base := if n = 0 then 32 else 16
  if port < base then ((s.children n).find? fun c => (s.node c).port = port).map fun c => { node := c, path := .primary }
  else (s.nodes.keys.find? fun c => decide (c ≠ 0) && decide ((s.node c).spareParent = some n) && decide ((s.node c).sparePort + base = port)).map
    fun c => { node := c, path := .spare }
/-- The port on which a pond or the hub forwards a packet for an ID (R54). -/
def State.portFor (s : State) (n : Nat) (id : NodeId) : Option Nat :=
  let x := s.node n
  match x.exc.find? fun e => e.2.valid && inRange e.2.lo e.2.hi id with
  | some e => some e.2.port
  | none => (x.ranges.find? fun e => e.2.used && !e.2.disabled && inRange e.2.lo e.2.hi id).map Prod.fst
/-- Every enabled child port of a node. -/
def State.openPorts (s : State) (n : Nat) : List Nat := ((s.node n).ranges.filter fun e => e.2.used && !e.2.disabled).map Prod.fst
/-- A packet goes out on a port, if something is behind it; a WRITE of the hub takes the place of one that waits (R193). -/
def State.sendPort (s : State) (n port : Nat) (p : Packet) : State :=
  match s.linkAt n port with
  | some l => if n = 0 ∧ p.ty = 3 then s.updDir l .down (LinkDir.pushWrite s.now s.stg.closed p) else s.sendOn l .down p
  | none => s
/-- The hub or a pond routes a downward packet onward (R54): for one ID on one port, for all on every enabled port. -/
def State.routeDown (s : State) (n : Nat) (p : Packet) : State :=
  if p.bc && (decide (p.node = 0xFFFF) || decide (p.node = (s.node n).id)) then (s.openPorts n).foldl (fun s k => s.sendPort n k p) s
  else match s.portFor n p.node with
    | some k => s.sendPort n k p
    | none => s
/-- The hub sends a packet (R54). -/
def State.hubSend (s : State) (p : Packet) : State := s.routeDown 0 p
/-- An EVENT leaves a node for the hub (R55). -/
def State.sendEvent (s : State) (n : Nat) (cause : Byte) (detail : Word) : State := s.sendUp n (eventPkt (s.node n).id cause detail)

/-! ### Packets that arrive (R45, R47, R54) -/

/-- The oldest packet of a link direction is this one: packets arrive in the order in which they were sent (R40). -/
def LinkDir.holds (d : LinkDir) (p : Packet) : Bool := decide (d.wire.head? = some p)
/-- A packet arrives and its buffer is freed: its credit goes on the wire back and it is counted as received. -/
def LinkDir.take (d : LinkDir) (p : Packet) : LinkDir :=
  if d.holds p then
    let k := classOfTy p.ty
    (({ d with wire := d.wire.tail, creditLine := creditCode k, timeOut := if p.ty = 7 then d.timeOut.drop 1 else d.timeOut } :
      LinkDir).setBack k (d.back k + 1)).countRecv k
  else d
/-- The packet is the next that a node receives on its active parent port; on its other one it receives nothing (R56). -/
def State.hasDown (s : State) (n : Nat) (p : Packet) : Bool := (s.dir (s.upLink n) .down).holds p
/-- A packet arrives from a link; on a node's active parent port it restarts the wait of R35. -/
def State.takeOn (s : State) (l : LinkId) (d : Dir) (p : Packet) : State :=
  let s := s.updDir l d (LinkDir.take · p)
  if d = Dir.down ∧ l = s.upLink l.node then s.updNode l.node fun x => { x with lastPkt := s.now } else s
/-- A node takes a downward packet from its active parent port. -/
def State.takeDown (s : State) (n : Nat) (p : Packet) : State :=
  (s.updDir (s.upLink n) .down (LinkDir.take · p)).updNode n fun x => { x with lastPkt := s.now }
/-- A parent takes an upward packet from a child's link. -/
def State.takeUp (s : State) (child : Nat) (p : Packet) : State := s.updDir (s.upLink child) .up (LinkDir.take · p)
/-- The links on which a node receives upward packets: the active links of its children and of the nodes it has adopted, and
the spare links of the others, which carry answers to probes (R51). -/
def State.below (s : State) (n : Nat) : List LinkId :=
  ((s.children n).map fun c => { node := c, path := .primary }) ++
  (s.nodes.keys.filter fun c => decide (c ≠ 0) && decide ((s.node c).kind ≠ .absent) && decide ((s.node c).spareParent = some n)).map
    fun c => { node := c, path := .spare }
/-- The link on which an upward packet is the next that a node receives. -/
def State.fromBelow (s : State) (n : Nat) (p : Packet) : Option LinkId := (s.below n).find? fun l => (s.dir l .up).holds p
/-- A node takes an upward packet from whichever of its child and adoption ports it came in on. -/
def State.takeInto (s : State) (n : Nat) (p : Packet) : State :=
  match s.fromBelow n p with
  | some l => s.updDir l .up (LinkDir.take · p)
  | none => s

/-- The nodes from a node up to the hub, over active paths. -/
def State.chain (s : State) : Nat → Nat → List Nat
  | 0, n => [n]
  | fuel + 1, n =>
    if n = 0 then [0]
    else n :: State.chain s fuel (if (s.node n).onSpare then (s.node n).spareParent.getD 0 else (s.node n).parent)
/-- The node, or one above it, holds its subtree until an adoption is confirmed (R35, R68). -/
def State.onPathHold (s : State) (n : Nat) : Bool := (s.chain 16 n).any fun k => decide (k ≠ 0) && (s.node k).pathHold
/-- A downward packet that reaches a node is for it (R50, R54, R72): its own ID, every node, or the ID of a pond above it that
passes the packet on. -/
def State.isFor (s : State) (n : Nat) (h : Hdr) : Bool :=
  decide ((s.node n).id ≠ 0) &&
  ((h.bc && decide (h.dst = 0xFFFF)) || (s.chain 16 n).any fun k => decide (k ≠ 0) && decide ((s.node k).id = h.dst))
/-- A node that does not consume a downward packet forwards it, or discards it and reports EVENT 0x04 (R54). The rule gives that
event no detail: it is 0 (DESIGN CHOICE, log 109). -/
def State.onward (s : State) (n : Nat) (p : Packet) : State :=
  if n = 0 then s
  else match (if (s.node n).kind = .pond then s.portFor n p.node else none) with
    | some k => s.sendPort n k p
    | none => s.sendEvent n 0x04 0
/-- A pond sends a packet on every enabled child port. -/
def State.toAll (s : State) (n : Nat) (p : Packet) : State := (s.openPorts n).foldl (fun s k => s.sendPort n k p) s
/-- The hub sends a packet to every node (R50): on its child ports, and to each adopted subtree under its root's ID, since
a pond forwards a broadcast on child ports only (R54, R70). -/
def State.hubAll (s : State) (p : Packet) : State :=
  let s := s.toAll 0 { p with bc := true, node := 0xFFFF }
  s.flt.adopted.foldl (fun s c => s.routeDown 0 { p with bc := true, node := (s.node c).id }) s
/-- The node that holds an ID. -/
def State.nodeById (s : State) (id : NodeId) : Option Nat :=
  if id = 0 then none else s.nodes.keys.find? fun n => decide ((s.node n).id = id)
/-- The region whose charge and extremes a child of the hub carries (R38, R70): its own, or that of its subtree. -/
def State.regionFor (s : State) (n : Nat) : Option Nat :=
  match s.regionOf n with
  | some r => some r
  | none => (s.subtree n).findSome? s.regionOf
/-- A privileged pan (R87). -/
def NodeKind.privileged : NodeKind → Bool
  | .privPan | .sparePriv => true
  | _ => false
/-- A pan of any kind. -/
def NodeKind.isPan : NodeKind → Bool
  | .pan | .privPan | .sparePan | .sparePriv => true
  | _ => false
/-- A spare pan (R108). -/
def NodeKind.isSpare : NodeKind → Bool
  | .sparePan | .sparePriv => true
  | _ => false
/-- A pan's regulation runs (R105). -/
def PanSt.runs : PanSt → Bool
  | .prebias | .shadow | .run | .hold => true
  | _ => false

/-! ### Link resets (R49) -/

/-- LINK packet (R43). -/
def linkPkt (sub c t u : Nat) : Packet := pkt 13 { bc := false, dst := 0 } (sub * 2 ^ 35 + c % 256 * 65536 + t % 256 * 256 + u % 256)
/-- A link direction as a reset leaves it (R49): what waits at the sender stays. -/
def LinkDir.cleared (x : LinkDir) : LinkDir :=
  { queue := x.queue, resetting := x.resetting, timeIn := x.timeIn, auditAt := x.auditAt, beats := x.beats, creditLine := x.creditLine }
/-- The opposite direction. -/
def otherDir : Dir → Dir
  | .down => .up
  | .up => .down
/-- A link direction that sends a LINK packet at its reset, and nothing else until the confirmation (R49). -/
def LinkDir.resetSend (p : Packet) (x : LinkDir) : LinkDir :=
  { x.cleared with resetting := true, wire := [p], creditU := 1, sentU := 1, beats := p.beats }
/-- A node asks for a reset of a link (R49): no other packet crosses it, either way, until the confirmation. -/
def State.askReset (s : State) (l : LinkId) : State :=
  (s.updDir l .up (LinkDir.resetSend (linkPkt 2 0 0 0))).updDir l .down fun x => { x.cleared with resetting := true }
/-- At power-up every node asks for a reset of the links on its parent ports (R49). -/
def State.powerLinks (s : State) : State :=
  (s.nodes.keys.filter fun n => decide (n ≠ 0) && decide ((s.node n).kind ≠ .absent)).foldl (fun s n =>
    let s := s.askReset { node := n, path := .primary }
    if (s.node n).spareParent.isSome then s.askReset { node := n, path := .spare } else s) s
/-- The path that a node uses is selected (R44 SEL 0x71); a switch resets the link (R49). -/
def State.selectPath (s : State) (n : Nat) (spare : Bool) : State :=
  let x := s.node n
  let now_ := spare && x.spareParent.isSome && !x.spareOff
  if now_ = x.onSpare then s
  else
    (s.updNode n fun y => { y with onSpare := now_, lastPkt := s.now }).askReset { node := n, path := if now_ then .spare else .primary }

/-! ### Carry set by ponds (R103) -/

/-- A pond sets CARRYAUTO in its other pan children in RUN. -/
def State.setCarry (s : State) (pond child : Nat) : State :=
  ((s.children pond).filter fun c => decide (c ≠ child) && (s.node c).kind.isPan && decide ((s.pan c).st = .run)).foldl
    (fun s c => s.sendPort pond (s.node c).port (writePkt (s.hdrOf c) 0x0F 1)) s

/-- A pan's parent has set CARRYAUTO in the pan's siblings in RUN (R103), as the hub knows from the report that caused it. -/
def State.siblingsCarry (s : State) (n : Nat) : State :=
  ((s.children (s.node n).parent).filter fun c => decide (c ≠ n) && decide ((s.node n).parent ≠ 0) && (s.node c).kind.isPan &&
    decide (s.knownSt c = .run)).foldl (fun s c => s.updNflt c fun x => { x with carry := true }) s

/-! ### TIME (R53) -/

/-- The hub sends one node a TIME packet: its own cycle and epoch plus 4 cycles for each link of the way; what the packet
waits at the port is added as it leaves (`LinkDir.fillTime`). -/
def State.sendTime (s : State) (n : Nat) : State :=
  s.hubSend (pkt 7 (s.hdrOf n) (timeBody ((s.now - s.epochAt) / cksT) s.epoch.toNat (4 * (s.node n).depth)))
/-- The hub sends every numbered node a TIME packet. -/
def State.timeAll (s : State) : State :=
  let s := (s.nodes.keys.filter fun n => decide (n ≠ 0) && decide ((s.node n).id ≠ 0)).foldl State.sendTime s
  s.updSys fun y => { y with timeEp := s.epoch.toNat }

/-! ### Enumeration (R51) -/

/-- Body of a PROBE (R43). -/
def probePkt (dst : NodeId) (port : Nat) (newId : NodeId) : Packet :=
  pkt 1 { bc := false, dst := dst } (port * 2 ^ 38 + newId.toNat * 2 ^ 22)
/-- The range of a port that is being probed with an ID, the range of the lower port closed (R51 step 2). -/
def probeRange (port : Nat) (id : NodeId) (t : Tbl PortRange) : Tbl PortRange :=
  let lower := ((t.filter fun e => decide (e.1 < port) && e.2.used).map Prod.fst).getLast?
  let t := match lower with
    | some k => Tbl.set {} t k { Tbl.get {} t k with hi := id - 1 }
    | none => t
  Tbl.set {} t port { lo := id, hi := 0xFFFE, used := true, disabled := (Tbl.get {} t port).disabled }
/-- Child ports of a node: 32 at the hub, 16 at a pond (R36). -/
def childPorts (n : Nat) : Nat := if n = 0 then 32 else 16
/-- Adoption ports of a node. -/
def adoptPorts (n : Nat) : Nat := if n = 0 then 8 else 4
/-- First adoption port code of a node. -/
def adoptBase (n : Nat) : Nat := if n = 0 then 32 else 16

/-- The port of a node behind which another stands. -/
def State.portTo (s : State) (n c : Nat) : Nat := if (s.node c).onSpare then adoptBase n + (s.node c).sparePort else (s.node c).port

/-- The PROBE for the place at hand is sent (R51 steps 1, 2 and 7). -/
def State.sendProbe (s : State) (n port : Nat) : State :=
  let s := s.updSys fun y => { y with probeAt := s.now }
  let id := BitVec.ofNat 16 s.sys.enumNext
  let child := decide (port < adoptBase n)
  let nid : NodeId := if child then id else 0
  if n = 0 then
    let s := if child then s.updNode 0 fun x => { x with ranges := probeRange port id x.ranges } else s
    s.sendPort 0 port (probePkt 0 0 nid)
  else s.hubSend (probePkt (s.node n).id port nid)

/-- The places whose adoption ports are probed after the primary tree is numbered: every pond, then the hub. -/
def State.adoptPlan (s : State) : List (Nat × Nat) :=
  ((s.nodes.keys.filter fun n => decide (n ≠ 0) && decide ((s.node n).id ≠ 0) && decide ((s.node n).kind = NodeKind.pond)) ++ [0]).flatMap
    fun n => (List.range (adoptPorts n)).map fun k => (n, adoptBase n + k)

/-- A node stands above the region ponds, in no region (R38). -/
def State.aboveRegions (s : State) (n : Nat) : Bool :=
  s.regions.any fun r => decide ((s.rimg r).pond ≠ n) && (s.chain 16 (s.rimg r).pond).contains n
/-- The roster that the hub writes (R44): the child ports with a numbered node. A pond above region ponds does not await
those that lead to them: it then forwards their acknowledgements and roll-ups unchanged (R55), so that the hub folds the
charge and the extremes of each region into that region (R67) (DEDUCED, log 71). -/
def State.rosterOf (s : State) (n : Nat) : Nat :=
  let kids := (s.children n).filter fun c => decide ((s.node c).id ≠ 0) && !(s.node c).portDisabled
  let mine := kids.filter fun c => !(s.aboveRegions n && (s.aboveRegions c || s.regions.any fun r => decide ((s.rimg r).pond = c)))
  (mine.map fun c => 2 ^ (s.node c).port).foldl (· + ·) 0
/-- A range that holds no ID (DESIGN CHOICE, log 108): how the hub tells a pond that a child port is disabled. -/
def emptyRange : Word := 0xFFFF0000
/-- A pond's subtree is complete: its last probed port `k` is closed and its roster written (R51 step 5). -/
def State.closePond (s : State) (n k : Nat) : State :=
  let top := BitVec.ofNat 16 (s.sys.enumNext - 1)
  let s := s.updNode n fun x => { x with subHi := top }
  let e := (s.node n).ranges.get {} k
  if n = 0 then
    (if e.used && !e.disabled then s.updNode 0 fun x => { x with ranges := x.ranges.set {} k { e with hi := top } } else s)
  else
    let off := (s.children n).any fun c => decide ((s.node c).port = k) && (s.node c).portDisabled
    let v := if off then emptyRange else BitVec.ofNat 32 (e.lo.toNat * 65536 + top.toNat)
    let s := s.hubSend (writePkt (s.hdrOf n) (0x80 + k) v)
    s.hubSend (writePkt (s.hdrOf n) 0x70 (BitVec.ofNat 32 (s.rosterOf n)))

/-- The next place after the one at hand has been answered or found empty: the next port, or up one pond; then the
adoption ports, and then none (R51). Each turn of the fuel leaves one finished pond. -/
def State.enumNextPlace : Nat → State → State
  | 0, s => s
  | fuel + 1, s =>
    match s.sys.enumAt with
    | [] => s
    | (n, p) :: up =>
      if p + 1 < childPorts n then (s.updSys fun y => { y with enumAt := (n, p + 1) :: up }).sendProbe n (p + 1)
      else
        let s := (s.closePond n p).updSys fun y => { y with enumAt := up }
        if up = [] then
          let plan := s.adoptPlan
          let s := s.updSys fun y => { y with enumAdopt := plan }
          match plan with
          | (n, p) :: _ => s.sendProbe n p
          | [] => s
        else State.enumNextPlace fuel s
/-- The adoption port at hand is done (R51 step 7). -/
def State.enumNextAdopt (s : State) : State :=
  let s := s.updSys fun y => { y with enumAdopt := y.enumAdopt.drop 1 }
  match s.sys.enumAdopt with
  | (n, p) :: _ => s.sendProbe n p
  | [] => s
/-- Enumeration begins at the hub's child port 0; a repeated step 5 compares the numbers already given. -/
def State.enumStart (s : State) : State :=
  if s.sys.enumNext = 1 then (s.updSys fun y => { y with enumAt := [(0, 0)], enumAdopt := [] }).sendProbe 0 0 else s
/-- Enumeration is in hand. -/
def State.enumerating (s : State) : Bool := !(s.sys.enumAt.isEmpty && s.sys.enumAdopt.isEmpty)

/-- No ID is left (R50, R52): every port still to be probed is disabled where something is behind it, and the open ponds
are closed. A pond that has just been numbered, and none of whose ports has been probed, stands for the port before its first:
it has no probed port to close and gets its roster alone. -/
def State.enumStop (s : State) (fresh : Bool) : State :=
  let s := s.sys.enumAt.zipIdx.foldl (fun s y =>
    let x := y.1
    let new := fresh && decide (y.2 = 0)
    let more := ((List.range (childPorts x.1)).filter fun k => (new || decide (x.2 < k)) && (s.linkAt x.1 k).isSome).map fun k => x.1 * 32 + k
    let s := s.updFlt fun f => { f with disabledPorts := f.disabledPorts ++ more }
    if new then
      (s.updNode x.1 fun z => { z with subHi := BitVec.ofNat 16 (s.sys.enumNext - 1) }).hubSend (writePkt (s.hdrOf x.1) 0x70 0)
    else s.closePond x.1 x.2) s
  let plan := s.adoptPlan
  let s := s.updSys fun y => { y with enumAt := [], enumAdopt := plan }
  match plan with
  | (n, p) :: _ => s.sendProbe n p
  | [] => s
/-- On to the next place of the primary tree. -/
def State.enumAdvance (s : State) : State := if 0x2000 < s.sys.enumNext then s.enumStop false else State.enumNextPlace 17 s

/-! ### Losses (R241, R398, R404) -/

/-- Coefficient c0 of a pan's sharing loop: of the loop that a node binding of SHARE sends to that pan; 1.0 without
one. -/
def State.weight (s : State) (n : Nat) : Nat :=
  let id := (s.node n).id
  match s.eng.loops.find? fun x => x.2.used && x.2.binds.any fun b =>
      decide (b.2.toNat / 2 ^ 28 = 1) && decide (b.2.toNat / 65536 % 512 = 0x05) && decide (b.2.toNat % 65536 = id.toNat) with
  | some x => (s.com.coef.get {} x.2.cbase).value.toNat
  | none => 0x40000000
/-- LIVE of a region (R241): round(2^31 * 0.0125 / sum of the weights of its pans in RUN, SHADOW or HOLD). A pan that a
committed MODE on is bringing there counts from the glue-up that commits it (R288, log 27). -/
def State.liveOf (s : State) (r : Nat) : Nat :=
  let w := ((((s.rimg r).pans ++ (s.rimg r).spares).filter fun n =>
    decide (s.com.nodeMode.get modeReset n % 4 = 1) && decide (s.knownSt n ≠ .faulted) && decide (s.knownSt n ≠ .retired) &&
    !(s.nflt n).lost).map s.weight).sum
  if w = 0 then 0 else (roundR ((2 ^ 61 : Nat) / (80 * w : Nat) : Rat)).toNat
/-- The management core rewrites LIVE of a region. -/
def State.setLive (s : State) (r : Nat) : State := if s.sys.ready then s.fwPlace fwLive r 0 (BitVec.ofNat 32 (s.liveOf r)) else s

/-- A pan is reported lost with the retire cause its response will carry: it joins the open collection, or opens one
(R398). -/
def State.lose (s : State) (n cause : Nat) : State :=
  let s := s.updNflt n fun x => { x with lost := true }
  let s := s.updFlt fun f => { f with
    losses := if f.losses.any fun x => x.1 = n then f.losses else f.losses ++ [(n, cause)],
    windowAt := some (f.windowAt.getD s.now) }
  match s.regionOf n with
  | some r => s.setLive r
  | none => s

/-- Every pan of a subtree counts as lost, and its nodes are marked out of contact (R404). -/
def State.loseSubtree (s : State) (n : Nat) : State :=
  (s.subtree n).foldl (fun s c =>
    let s := s.updNflt c fun x => { x with ooc := true }
    if (s.node c).kind.isPan then s.lose c 0 else s) s
/-- The parent's roster without the port of a silent node (R404). -/
def State.rosterWithout (s : State) (n : Nat) : State :=
  let p := (s.node n).parent
  if p = 0 then s
  else
    let m := (s.node p).roster &&& ~~~ ((1 : BitVec 16) <<< (s.node n).port)
    s.hubSend (writePkt (s.hdrOf p) 0x70 (m.setWidth 32))

end Sys2Proof.Machine
end

