-- ==== Sys2Proof/Machine/Boot.lean ====
section
/-! DEFINITION. Resets, the boot steps, restart and the ends of the stops (R382, R386, R419, R446 to R462, R467). -/

namespace Sys2Proof.Machine

/-! ### Resets (R10, R460, R461) -/

/-- What stays of a node through a reset: its wiring and description. -/
def Node.wiring (n : Node) : Node :=
  { kind := n.kind, parent := n.parent, port := n.port, spareParent := n.spareParent, sparePort := n.sparePort,
    depth := n.depth, height := n.height, rating := n.rating, wide := n.wide, ports := n.ports, revision := n.revision }

/-- The block after a reset: every register at its reset value, but the VAON-held latches, the store, the fuses, and the
levels on its pins (R10, R459, R460). Counters that count from cold reset stay through a warm one (R322). -/
def State.fresh (s : State) (cold : Bool) : State :=
  let z := State.reset
  { z with
    pending := s.pending, now := s.now, free := s.free, epochAt := s.now, store := s.store,
    nodes := s.nodes.mapVals {} (fun _ n => n.wiring),
    pans := s.pans.mapVals {} (fun _ p => { fltN := p.fltN }),
    regs := s.regs.mapVals {} (fun _ r => { seq := { agone := r.seq.agone } }),
    conv := { vin := s.conv.vin, vinGoodAt := s.conv.vinGoodAt,
              phases := s.conv.phases.mapVals {} (fun _ p => { fltN := p.fltN }) },
    sys := { vaon := s.sys.vaon, porstN := s.sys.porstN, hkind := s.sys.hkind, shLatched := s.sys.shLatched,
             shKind := s.sys.shKind, shCause := s.sys.shCause, shFirst := s.sys.shFirst },
    ports := { z.ports with
      hint := s.ports.hint.mapVals {} (fun _ x =>
        let k : HintSrc := if cold then {} else x
        { k with attached := x.attached, ver := x.ver, first := true, lastAt := none }),
      flowN := s.ports.flowN, flowAt := s.ports.flowAt, fabUp := s.ports.fabUp, ir := s.ports.ir,
      dbgOpen := s.ports.dbgOpen && !cold } }

/-- Step 1 (R49, R449, R457): every node asks for its link resets; GUARD, or HALTED on a halt latch of kind 1, 2, 3, 5 or 6. -/
def State.enterGuard (s : State) : State :=
  let s := s.powerLinks
  if s.sys.hkind = 0 ∨ s.sys.hkind = 4 then (s.updSys fun y => { y with step := 1 }).setB .guard_ else s.setB .halted

/-- A warm reset (R459): everything but the latches, the store and the fuses; the tally of warm resets counts it. -/
def State.warmReset (s : State) : State := ((s.fresh false).tally 0x0A 0 2 1).enterGuard

/-- Outputs at the entry to OFF (R460): phases, columns, kerf; every register resets. -/
def State.coldOff (s : State) : State := { s.fresh true with hw := { bstate := .off } }

/-- PORST_N_ASSERT (R460). -/
def execPorstNAssert (s : State) : Host.Outcome State Fault Refusal :=
  done (s.coldOff.updSys fun y => { y with porstN := false, ckeLost := false })

/-- PORST_N_RELEASE (R446, R449, R461): VAON is present; step 1. -/
def execPorstNRelease (s : State) : Host.Outcome State Fault Refusal :=
  if s.hw.bstate = .off ∧ s.sys.porstN = false then
    let rise := !s.sys.vaon
    let s := { s with epochAt := s.now }
    let s := (s.updSys fun y => { y with vaon := true, porstN := true, ckeLost := false }).tally 0x0A 0 1 1
    done ((if rise then s.tally 0x0A 0 0 1 else s).enterGuard)
  else done s

/-- VAON_REMOVED (R461): everything but the store and the fuses is lost. -/
def execVaonRemoved (s : State) : Host.Outcome State Fault Refusal :=
  done (s.coldOff.updSys fun _ => { vaon := false, porstN := false })

/-- CKE_ABSENT (R467): no CKE edge for 1 us: as under R460; OFF. -/
def execCkeAbsent (s : State) : Host.Outcome State Fault Refusal :=
  if s.hw.bstate = .off then done s
  else done ((s.reach (s.now + usT)).coldOff.updSys fun y => { y with ckeLost := true })

/-- CKR_PRESENT (R467): CKR present for 1 ms: GUARD; counted as a cold reset. -/
def execCkrPresent (s : State) : Host.Outcome State Fault Refusal :=
  if s.hw.bstate = .off ∧ s.sys.ckeLost then
    let s := s.reach (s.now + msT)
    let s := { s with epochAt := s.now }
    done (((s.updSys fun y => { y with ckeLost := false }).tally 0x0A 0 1 1).enterGuard)
  else done s

/-! ### Step 2: firmware (R419) -/

/-- A firmware slot of the store. -/
def Store.fw (t : Store) (k : Nat) : FwSlot := if k = 0 then t.fw0 else t.fw1
/-- A signature verifies with a key whose hash stands in fuses (R234, R419). -/
def Store.trusts (t : Store) (signer : Option (List Byte)) : Bool :=
  match signer with
  | some k => t.keyHashes.contains k
  | none => false
/-- A slot passes the boot ROM's check. -/
def State.fwOk (s : State) (k : Nat) : Bool :=
  let f := s.store.fw k
  f.present && s.store.trusts f.signer && decide (s.store.fuseSec ≤ f.security)
/-- Slots in the order in which the boot ROM tries them: pending or active first, then the other (R419). -/
def State.fwOrder (s : State) : List Nat :=
  let a := s.store.fwPending.getD s.store.fwActive
  [a, 1 - a]

/-- A refused boot (R453). -/
def State.refuseBoot (s : State) (code : Nat) : State :=
  (s.updSys fun y => { y with refuse := code, vinwait := false }).setB .boot

/-! ### Areas of the store (R447, R493) -/

/-- Words written into an area: 0 and 1 the firmware slots, 2 and 3 the jig image areas, 4 factory coefficients, 5 installer
record, 6 thermal calibration, 7 and 8 tally records, 9 keys and incarnation, 10 the markers. Nothing else of the store moves. -/
def Store.layOut (t : Store) (area : Nat) (words : Tbl Word) : Store :=
  let x := Config.storeArea area words t
  match area with
  | 0 => { t with fw0 := { x.fw0 with present := true, words := words } }
  | 1 => { t with fw1 := { x.fw1 with present := true, words := words } }
  | 2 => { t with jig0 := { x.jig0 with present := true } }
  | 3 => { t with jig1 := { x.jig1 with present := true } }
  | 4 => { t with factory := x.factory, factoryOk := x.factoryOk }
  | 5 => { t with inst := x.inst, instOk := x.instOk }
  | 6 => { t with therm := x.therm, thermOk := x.thermOk, thermCfg := x.thermCfg }
  | 7 => { t with tallyA := x.tallyA, seqA := x.seqA, okA := x.okA }
  | 8 => { t with tallyB := x.tallyB, seqB := x.seqB, okB := x.okB }
  | 9 => { t with instKey := x.instKey, makerKey := x.makerKey, incarnation := x.incarnation }
  | 10 => { t with fwActive := x.fwActive, fwPending := x.fwPending, jigActive := x.jigActive, jigPending := x.jigPending,
                   jigFallback := x.jigFallback }
  | _ => t

/-! ### Step 4: the jig image (R234, R450) -/

/-- A jig image area. -/
def Store.jig (t : Store) (k : Nat) : Image := if k = 0 then t.jig0 else t.jig1
/-- Refusal code of an image area at BOOT: none, signature against the key hashes in fuses, block version, absent (R234, R453). -/
def Store.check (t : Store) (k : Nat) : Nat :=
  let i := t.jig k
  if i.present = false then 0x22 else if t.trusts i.signer = false then 0x20 else if i.version ≠ 42 then 0x21 else 0

/-- Committed state as an image gives it (R248, R274, R294, R364, R392, R231). -/
def Image.committed (i : Image) : Committed :=
  let z : Committed := {}
  let regs := i.regs.foldl (fun (t : Tbl CReg) x => t.set {} x.1
    { req := x.2.idle, slew := x.2.slew, ifloor := x.2.mfloor, iceil := x.2.mceil, mfloor := x.2.mfloor, mceil := x.2.mceil,
      slewmax := x.2.slewmax, offlo := x.2.offlo, offhi := x.2.offhi, stgint := x.2.stgint, inrush := x.2.inrush, tret := x.2.tret,
      purgehold := x.2.purgehold }) ([] : Tbl CReg)
  let th := i.regs.filterMap fun x => x.2.thLoop
  let loops := i.loops.foldl (fun (t : Tbl CLoop) x => t.set {} x.1 { closed := x.2.imgClosed && !th.contains x.1 }) ([] : Tbl CLoop)
  { z with
    regs := regs, loops := loops, coef := i.coef, tdrain := i.tdrain,
    conv := { z.conv with
      vibwinC := i.conv.vibwinC, vibwinF := i.conv.vibwinF, phrate := i.conv.phrate, pklim := i.conv.pklim, wake := i.conv.wake,
      qwinF := i.conv.qwinF, qwinC := i.conv.qwinC, qcompA := i.conv.qcompA, qcompC := i.conv.qcompC },
    bud := { z.bud with mkcap := i.mkcap, effconv := i.effconv, cap := i.mkcap },
    tide := { z.tide with mfloor := i.tmfloor, mceil := i.tmceil } }

/-- The image is loaded: every engine memory, the tree description, the committed values it gives; dispatch begins and
loops that it loads closed take a first scribe run with a4 to a7 zero (R174, R237, R449, R456). -/
def State.loadImage (s : State) (i : Image) : State :=
  let c := i.committed
  let dyn := i.loops.foldl (fun (t : Tbl LoopDyn) x => t.set {} x.1 { scribeFirst := x.2.imgClosed }) ([] : Tbl LoopDyn)
  let s := { s with com := c, safe := c }
  let s := s.updEng fun e => { e with
    imem := i.imem, state := i.state, loops := i.loops, dyn := dyn, subs := i.subs, timers := i.timers, imgCopy := i.imem,
    input := [], outs := [], badWords := [], engMem := false, timerAt := none, dispatching := true, lastRun := s.now }
  let s := s.updConv fun x => { x with lastOutAt := s.now }
  s.updSys fun y => { y with image := i }

/-- Areas in the order in which step 4 tries them: pending, active, fallback (R450). -/
def State.jigOrder (s : State) : List Nat :=
  (if s.sys.jigTried then [] else s.store.jigPending.toList) ++ [s.store.jigActive] ++ s.store.jigFallback.toList

/-- Step 4 (R450): the first image that passes is loaded; with none, the boot is refused with the active image's code. -/
def State.bootImage (s : State) : State :=
  match s.jigOrder.find? fun k => s.store.check k = 0 with
  | some k =>
    let fall := decide (s.jigOrder.head? ≠ some k) || s.sys.jigfall
    let s := if s.store.jigPending.isSome ∧ s.store.jigPending ≠ some k then
        { s with store := { s.store with jigPending := none } } else s
    (s.loadImage (s.store.jig k)).updSys fun y => { y with step := 4, jigfall := fall }
  | none => s.refuseBoot (s.store.check s.store.jigActive)

/-- Step 3 (R414, R447): the records are read. -/
def State.bootRecords (s : State) : State :=
  let t := s.store
  let useB := t.okB && (!t.okA || decide (t.seqA.toNat < t.seqB.toNat))
  let s := s.updFlt fun f => { f with
    totals := if useB then t.tallyB else if t.okA then t.tallyA else [],
    hseq := if useB then t.seqB else if t.okA then t.seqA else 0, talFresh := !t.okA && !t.okB, harvestAt := s.epoch }
  s.updSys fun y => { y with nocfg := !t.instOk, calmiss := !t.factoryOk, step := 3 }

/-! ### Steps 5 to 7 -/

/-- Every described node that enumeration has not found is marked missing and, if it is a pan, lost (R52, R404). -/
def State.markMissing (s : State) : State :=
  let s := s.updFlt fun f => { f with nodes := f.nodes.mapVals {} fun _ x => { x with missing := false } }
  s.sys.image.nodes.foldl (fun s x =>
    if (s.node x.1).id = 0 then
      let s := s.updNflt x.1 fun k => { k with missing := true, lost := true, rcause := if (s.sys.image.kinds.get .absent x.1).isPan then 4 else k.rcause }
      s
    else s) s
/-- A region pond that is found and is no pond, or a pan found outside its region's pond, stops the boot (R52); a region pond
that is not found is a missing node like any other. -/
def State.pondBad (s : State) : Bool :=
  s.regions.any fun r =>
    let p := (s.rimg r).pond
    (decide ((s.node p).id ≠ 0) && decide ((s.node p).kind ≠ .pond)) ||
    ((s.rimg r).pans ++ (s.rimg r).spares).any fun n =>
      decide ((s.node n).id ≠ 0) && !inRange (s.node p).id (s.node p).subHi (s.node n).id

/-- Offsets of the registers of the installer record (R447): role I fields of R114, R294, R302, R330, R339, R490, R364,
with TGBUD and LEDBASE before what depends on them. -/
def instOffsets : List Nat :=
  [0x204, 0x218, 0x21C, 0x220, 0x224, 0x300, 0x308, 0x30C, 0x310, 0x314, 0x318, 0x31C, 0x320, 0x32C, 0x330, 0x334, 0x338,
   0x340, 0x344, 0x348, 0x34C, 0x350, 0x354, 0x358, 0x35C, 0x364, 0x368, 0x5C0, 0x5C4, 0x600, 0x604, 0x608,
   0x800, 0x804, 0x808, 0x810, 0x814, 0x818, 0x820, 0x828, 0x910, 0x920, 0x924, 0x928, 0x92C]
/-- Keys of the installer record: die-wide registers, RVIWIN and RSPAR of each region, TPID and TPEXP of each peer. -/
def State.instKeys (s : State) : List (Nat × Nat × Nat) :=
  (instOffsets.map fun o => (o, o, 0)) ++
  (s.regions.flatMap fun r => [0x1084, 0x109C].map fun o => (o + 65536 * (r + 1), o, r)) ++
  ((List.range 32).flatMap fun p => [0x860, 0x864].map fun o => (o + 65536 * (p + 1), o, p))

/-- A CALLOAD I word (R57, R148): the stored current gain in [11:0], the jig image's boost charge coefficient in [27:16]. -/
def State.callI (s : State) (n : Nat) (v : Word) : Word :=
  let k := match s.regionOf n with | some r => (s.rimg r).boostCoef | none => 0
  BitVec.ofNat 32 (v.toNat % 4096 + 65536 * (k % 4096))
/-- CALLOAD writes of the factory coefficients of a pan (R148, R153). -/
def State.sendFactory (s : State) (n : Nat) : State :=
  ((s.store.factory.get [] n).zipIdx).foldl (fun s x =>
    s.hubSend (writePkt (s.hdrOf n) (0x5C + x.2) (if x.2 = 3 then s.callI n x.1 else x.1))) s

/-- Step 6 (R449): factory coefficients, window bands, sample plans and the BANDSET of B0 to every node, and the
installer record; what is staged commits at the next boundary. -/
def State.bootStage (s : State) : State :=
  let s := if s.store.factoryOk then s.panKeys.foldl State.sendFactory s else s
  let st := s.sys.image.stages.map fun x => CW.nodeStage x.1 (s.hdrOf x.1) x.2.1 x.2.2
  let bs := s.regions.flatMap fun r =>
    let p := (s.rimg r).pond
    let c := s.com.reg r
    let planned (n : Nat) : Bool := s.sys.image.stages.any fun x => decide (x.1 = n) && decide (x.2.1 = 0x64)
    [CW.nodeStage p (s.pondHdr r) 0x08 (BitVec.ofNat 32 ((s.bandRow r 0).ripple + 16 * (s.bandRow r 0).dead)),
     CW.nodeStage p (s.pondHdr r) 0x01 (BitVec.ofNat 32 (min c.slew c.slewmax))] ++
    ([(s.rimg r).refPan, (s.rimg r).altPan].filter fun n => decide (n ≠ 0) && !planned n).map fun n =>
      CW.nodeStage n (s.hdrOf n) 0x64 1
  let rec_ := if s.store.instOk then s.instKeys.filterMap fun k =>
      (s.store.inst.get none k.1).map fun v => CW.reg k.2.1 k.2.2 v 0 else []
  let part := s.store.instOk && s.instKeys.any fun k => (s.store.inst.get none k.1).isNone
  let th := if s.store.thermOk then s.store.therm.map fun x => CW.reg 0xC14 x.1 x.2.value (encS 6 x.2.shift) else []
  let cfg := if s.store.thermOk then
      [CW.reg 0x900 0 (BitVec.ofNat 32 (s.store.thermCfg % 65536 + 65536 * s.com.tdrain)) 0] else []
  let s := if s.store.thermOk then s
    else s.regions.foldl (fun s r => s.updTh r fun h => { h with lowconf := true }) s
  (s.stageSet (st ++ bs ++ rec_ ++ th ++ cfg)).updSys fun y => { y with cfgpart := part }

/-- Thermal loops that the image loads closed and that are still open: they close in step 7 (R449). -/
def State.openThermal (s : State) : List Nat :=
  (s.regions.filterMap fun r => (s.rimg r).thLoop).filter fun l => (s.lent l).imgClosed && !(s.com.loop l).closed
/-- Every region's forced reading has completed (R449 step 7). -/
def State.allForced (s : State) : Bool := s.regions.all fun r => (s.reg r).th.forcedDone

/-- Step 5 done: the image stays and becomes the active one where it was pending, the tree is aligned by TIME packets, and
step 6 is staged (R53, R449, R450). -/
def State.bootAligned (s : State) : State :=
  let s := match s.store.jigPending with
    | some k => { s with store := { s.store with jigFallback := some s.store.jigActive, jigActive := k, jigPending := none } }
    | none => s
  (s.timeAll.updSys fun y => { y with step := 5 }).bootStage

/-- A pending image that stops the boot under R52 is discarded and steps 4 and 5 repeat with the active one, on the
numbers already given (R450). -/
def State.bootMismatch (s : State) : State :=
  match s.store.jigPending with
  | some _ =>
    let s := { s with store := { s.store with jigPending := none } }
    let s := (s.updSys fun y => { y with jigTried := true, jigfall := true }).bootImage
    if s.sys.refuse ≠ 0 then s
    else
      let s := s.markMissing
      if s.pondBad then s.refuseBoot 0x30 else s.bootAligned
  | none => s.refuseBoot 0x30

/-- Step 5 completes when the enumeration has: every described node is found or missing (R52, R449). -/
def State.bootEnum (s : State) : State :=
  if s.hw.bstate = .boot ∧ s.sys.refuse = 0 ∧ s.sys.step = 4 ∧ s.enumerating = false then
    let s := s.markMissing
    if s.pondBad then s.bootMismatch else s.bootAligned
  else s

/-- Step 5 begins where step 4 has passed. -/
def State.bootBegin (s : State) : State := if s.sys.step = 4 ∧ s.sys.refuse = 0 then s.enumStart.bootEnum else s

/-- FIRMWARE_START (R419, R449 steps 2 to 4, R461): the first slot that passes is started and BOOT entered; with none, a
refused BOOT. -/
def execFirmwareStart (s : State) : Host.Outcome State Fault Refusal :=
  if s.hw.bstate = .guard_ ∧ s.sys.step = 1 then
    match s.fwOrder.find? s.fwOk with
    | none => done (s.refuseBoot 0x10)
    | some k =>
      let fall := decide (s.fwOrder.head? ≠ some k)
      let s := s.updSys fun y => { y with
        coreRun := true, fwSlot := k, fwTried := if fall then 2 else 1, fwfall := fall, step := 2, kickAt := s.now, coreAt := s.now }
      done ((s.setB .boot).bootRecords.bootImage.bootBegin)
  else done s

/-- FIRMWARE_READY_TIMEOUT (R419): an image tried does not signal ready within 2 s: the other slot, once. -/
def execFirmwareReadyTimeout (s : State) : Host.Outcome State Fault Refusal :=
  if s.hw.bstate = .boot ∧ s.sys.refuse = 0 ∧ s.sys.coreRun ∧ s.sys.ready = false ∧ s.sys.restart = false ∧
      s.store.fwPending = some s.sys.fwSlot then
    let s := s.reach (s.sys.coreAt + 2 * secT)
    let k := 1 - s.sys.fwSlot
    let s := { s with store := { s.store with fwPending := none } }
    if s.sys.fwTried = 1 ∧ s.fwOk k then
      done (s.updSys fun y => { y with fwSlot := k, fwTried := 2, fwfall := true, coreAt := s.now, kickAt := s.now })
    else done ((s.updSys fun y => { y with coreRun := false }).refuseBoot 0x10)
  else done s

/-- What a boundary moves in the boot (R449): step 6 once its set has committed, with the forced readings requested;
step 7 once the readings are in and the bands and closes committed; step 10 once its orders have committed. -/
def State.bootBoundary (s : State) : State :=
  if s.sys.refuse ≠ 0 ∨ (s.hw.bstate ≠ .boot ∧ s.sys.nocfgRun = false) ∨ s.stg.queue ≠ [] then s
  else match s.sys.step with
    | 5 =>
      let s := s.updSys fun y => { y with step := 6 }
      s.regions.foldl State.diodeReq s
    | 6 =>
      if s.allForced = false then s
      else if s.openThermal ≠ [] then s.stageSet (s.openThermal.map fun l => CW.reg 0xC04 l 1 0)
      else if s.sys.nocfg then
        let s := (s.updSys fun y => { y with step := 12, ready := true }).tally 0x0A 0 3 1
        s.setB .standby
      else s.updSys fun y => { y with step := 7, vinwait := true }
    | 9 => s.updSys fun y => { y with step := 10 }
    | _ => s

/-! ### Steps 8 to 12 -/

/-- The boot, or a RESTART in STANDBY with NOCFG, is going through its steps (R449, R454). -/
def State.stepping (s : State) : Bool :=
  (decide (s.hw.bstate = .boot) && decide (s.sys.refuse = 0)) || s.sys.nocfgRun

/-- BOOT_VIN_GOOD (R449 steps 8 and 9): VIN has been good for 10 ms; the three rails are started. -/
def execBootVinGood (s : State) : Host.Outcome State Fault Refusal :=
  match s.conv.vinGoodAt with
  | none => done s
  | some t =>
    if s.stepping ∧ s.sys.step = 7 then
      let s := s.reach (t + 10 * msT)
      let s := s.updSys fun y => { y with step := 8, vinwait := false }
      done (((s.railStart .vib).railStart .vqa).railStart .vqc)
    else done s

/-- BOOT_RAILS_IN_REG (R271, R449 steps 9 and 10, R455): VRET regions on, then keep-alive regions on by the installer
slot. -/
def execBootRailsInReg (s : State) : Host.Outcome State Fault Refusal :=
  if s.stepping ∧ s.sys.step = 8 ∧ s.conv.vib.st = .reg ∧ s.conv.vqa.st = .reg ∧ s.conv.vqc.st = .reg then
    let s := s.updSys fun y => { y with step := 9 }
    let ka := (s.regions.filter fun r => (s.rimg r).keepAlive).map fun r => CW.order r 1 .on
    done (s.stageSet (.vret true :: ka))
  else done s

/-- Regions that step 10 orders on. -/
def State.bootRegions (s : State) : List Nat :=
  s.regions.filter fun r => (s.rimg r).keepAlive || decide ((s.rimg r).rail = .vret)

/-- BOOT_REGIONS_LIVE (R449 steps 11 and 12, R454, R462). -/
def execBootRegionsLive (s : State) : Host.Outcome State Fault Refusal :=
  if s.stepping ∧ s.sys.step = 10 ∧ s.bootRegions.all (fun r => decide ((s.reg r).seq.st = .live) || (s.reg r).seq.startfail) then
    let kf := s.regions.any fun r => (s.rimg r).keepAlive && (s.reg r).seq.startfail
    if s.sys.nocfgRun then
      done (s.updSys fun y => { y with step := 12, nocfg := false, nocfgRun := false, keepfail := kf })
    else
      let s := (s.updSys fun y => { y with step := 12, keepfail := kf, ready := true }).tally 0x0A 0 3 1
      done (s.setB .standby)
  else done s

/-- RAIL_FAULT_RETRY (R452): a rail in FAULT in step 9 is started once more after 100 ms; a second FAULT refuses the boot
and the other rails are stopped. -/
def execRailFaultRetry (x : Rail) (s : State) : Host.Outcome State Fault Refusal :=
  if s.stepping ∧ s.sys.step = 8 ∧ (s.rail x).st = .fault then
    if (s.rail x).tried then
      let s := [Rail.vib, .vqa, .vqc].foldl (fun s y => s.updRail y fun q =>
        if q.st = .reg then { q with st := .sdelay, at_ := s.now, watch := false } else q) s
      done (s.updSys fun y => { y with refuse := if x = .vib then 0x50 else 0x51, nocfgRun := false })
    else
      let s := s.reach ((s.rail x).at_ + 100 * msT)
      done ((s.updRail x fun q => { q with tried := true }).railStart x)
  else done s

/-- INPUT_STOP_RECOVERY (R458): VIN good for 100 ms: the latch is cleared and a warm reset made. -/
def execInputStopRecovery (s : State) : Host.Outcome State Fault Refusal :=
  match s.conv.vinGoodAt with
  | none => done s
  | some t =>
    if s.hw.bstate = .halted ∧ s.sys.hkind = 4 then
      done ((s.reach (t + 100 * msT)).updSys fun y => { y with hkind := 0 }).warmReset
    else done s

/-! ### Restart, warm reset and power-down (R387, R454, R459) -/

/-- RESTART accepted, or not (R387, R454, R457). With NOCFG it runs steps 8 to 11 in the state the block is in: a host that can
write RESTART has attached, and an attach leaves STANDBY (R433) (DEDUCED, log 29). -/
def State.doRestart (s : State) : Option State :=
  let flow := decide (s.ports.flowN = false) && decide (s.ports.flowAt + secT ≤ s.now)
  if s.hw.bstate = .halted ∧ ((s.sys.hkind = 3 ∧ flow) ∨ s.sys.hkind = 6) then
    some (s.updSys fun y => { y with hkind := 0 }).warmReset
  else if s.service ∧ s.sys.nocfg ∧ s.sys.nocfgRun = false then
    some (s.updSys fun y => { y with nocfgRun := true, step := 7, vinwait := true })
  else none

/-- The tally totals written to the record that does not hold the present sequence (R415). -/
def State.harvestDone (s : State) (ok : Bool) : State :=
  if s.flt.harvesting = false then s
  else if ok then
    let f := s.flt
    let q := f.hseq + 1
    let tot := f.taken.foldl (fun t x => t.set 0 x.1 (t.get 0 x.1 + x.2)) f.totals
    let toB := decide (s.store.seqA = f.hseq) && s.store.okA
    let st := if toB then { s.store with tallyB := tot, seqB := q, okB := true } else { s.store with tallyA := tot, seqA := q, okA := true }
    { s with store := st, flt := { f with totals := tot, hseq := q, taken := [], harvesting := false, talFault := false, harvestAt := s.epoch } }
  else s.updFlt fun f => { f with harvesting := false, talFault := true }

/-- WARM accepted, or not (R459): in RUN an orderly stop; in HALTED of kind 5 at once, with a harvest if the core runs. -/
def State.doWarm (s : State) : Option State :=
  if s.hw.bstate = .run then some (orderlyStop s .warm)
  else if s.hw.bstate = .halted ∧ s.sys.hkind = 5 then
    let s := s.updSys fun y => { y with hkind := 0 }
    some (if s.sys.coreRun then s.harvestTake.harvestDone true else s).warmReset
  else none
/-- PDOWN accepted, or not (R459). -/
def State.doPdown (s : State) : Option State := if s.hw.bstate = .run then some (orderlyStop s .pdown) else none

/-! ### Ends of the stops -/

/-- STOP_RAILS_DOWN (R382 step 7, R459, R461): the rails are down after an orderly stop. -/
def execStopRailsDown (s : State) : Host.Outcome State Fault Refusal :=
  let down := [Rail.vib, .vqa, .vqc].all fun x => decide ((s.rail x).st = .off) || decide ((s.rail x).st = .fault)
  if s.hw.bstate = .stopping ∧ s.sys.stopStep = 5 ∧ down then
    match s.sys.stop with
    | .warm => done (if s.sys.coreRun then s.harvestTake.harvestDone true else s).warmReset
    | .pdown => done ((s.updSys fun y => { y with stop := .none, stopStep := 7, hkind := 6 }).setB .halted)
    | _ => done ((s.updSys fun y => { y with stop := .none, stopStep := 7, hkind := 1 }).setB .halted)
  else done s

/-- COOLANT_RAIL_STOP (R386): every pan off, or 100 us after the debounce; then a running core writes back the ledger and
harvests. -/
def execCoolantRailStop (s : State) : Host.Outcome State Fault Refusal :=
  if s.sys.stop = .coolant ∧ s.sys.stopStep < 3 then
    let off := s.panKeys.all fun n => !s.knownOn n
    let s := if off then s else s.reach (s.sys.stopAt + 100 * usT)
    let s := ((s.railCoolant .vib).railCoolant .vqa).railCoolant .vqc
    let s := s.updSys fun y => { y with stopStep := 3 }
    done (if s.sys.coreRun then s.ledFlush.harvestTake else s)
  else done s

/-- The management core clears the flags of loops (R179). -/
def State.clearFlags (s : State) (ls : List Nat) : State := ls.foldl (fun s l => s.updLdyn l fun d => { d with flags := 0 }) s

/-- HARVEST (R179, R415): the increments are taken and the record written and read back; `stored` says that its check passed.
It falls due 75,000,000 epochs after the last, or in a stop that has taken the increments. `cleared` names the loops whose flags the
management core clears with it: when it clears them is open (DESIGN CHOICE, log 120). -/
def execHarvest (stored : Bool) (cleared : List Nat) (s : State) : Host.Outcome State Fault Refusal :=
  if s.sys.coreRun = false then done s
  else if s.flt.harvesting ∨ s.flt.harvestAt.toNat + harvestEpochs ≤ s.epoch.toNat then
    done ((s.harvestTake.harvestDone stored).clearFlags cleared)
  else done s

/-- HARVEST_RETRY (R415): 1 s after a failed harvest, the increments taken are written again. -/
def execHarvestRetry (stored : Bool) (s : State) : Host.Outcome State Fault Refusal :=
  if s.sys.coreRun ∧ s.flt.talFault ∧ s.flt.harvesting = false then
    done ((s.updFlt fun f => { f with harvesting := true }).harvestDone stored)
  else done s

end Sys2Proof.Machine
end

