-- ==== Sys2Proof/Machine/Crypto.lean ====
section
/-! DEFINITION. The cryptographic functions that sessions name by their standards (R435): SHA-256 and SHA-384
(FIPS 180-4), HMAC-SHA-256 (FIPS 198-1), ECDSA over P-384 (FIPS 186-5). Their constants are those of the standards
(PRESUMED, log 20). -/

namespace Sys2Proof.Machine

/-- Floor of the k-th root of `n`, by bisection over `bits` bits. -/
def rootK (k n : Nat) : Nat → Nat → Nat
  | 0, acc => acc
  | b + 1, acc => if (acc + 2 ^ b) ^ k ≤ n then rootK k n b (acc + 2 ^ b) else rootK k n b acc
/-- The first `n` primes from a starting point, with fuel. -/
def primesFrom : Nat → Nat → Nat → List Nat
  | 0, _, _ => []
  | _, 0, _ => []
  | fuel + 1, n + 1, p =>
    if ((List.range p).drop 2).all (fun d => p % d ≠ 0) then p :: primesFrom fuel n (p + 1) else primesFrom fuel (n + 1) (p + 1)
/-- The first 80 primes. -/
def primes80 : List Nat := primesFrom 500 80 2

/-- Width of a word and of the schedule of a SHA-2 function. -/
structure Sha where
  w : Nat
  rounds : Nat
  s0 : Nat × Nat × Nat
  s1 : Nat × Nat × Nat
  m0 : Nat × Nat × Nat
  m1 : Nat × Nat × Nat

/-- Parameters of SHA-256. -/
def sha256P : Sha :=
  { w := 32, rounds := 64, s0 := (2, 13, 22), s1 := (6, 11, 25), m0 := (7, 18, 3), m1 := (17, 19, 10) }
/-- Parameters of SHA-384 (and SHA-512). -/
def sha384P : Sha :=
  { w := 64, rounds := 80, s0 := (28, 34, 39), s1 := (14, 18, 41), m0 := (1, 8, 7), m1 := (19, 61, 6) }

/-- Rotation right of a `w`-bit number. -/
def rotr (w n x : Nat) : Nat := x / 2 ^ n + x % 2 ^ n * 2 ^ (w - n)
/-- Three rotations combined. -/
def sig3 (w : Nat) (t : Nat × Nat × Nat) (x : Nat) : Nat := rotr w t.1 x ^^^ rotr w t.2.1 x ^^^ rotr w t.2.2 x
/-- Two rotations and a shift combined. -/
def sig2 (w : Nat) (t : Nat × Nat × Nat) (x : Nat) : Nat := rotr w t.1 x ^^^ rotr w t.2.1 x ^^^ x / 2 ^ t.2.2
/-- Round constants: fraction bits of cube roots of primes. -/
def shaK (h : Sha) : List Nat := (primes80.take h.rounds).map fun p => rootK 3 (p * 2 ^ (3 * h.w)) (h.w + 4) 0 % 2 ^ h.w
/-- Initial hash values: fraction bits of square roots of primes. -/
def shaInit (h : Sha) (ps : List Nat) : List Nat := ps.map fun p => rootK 2 (p * 2 ^ (2 * h.w)) (h.w + 5) 0 % 2 ^ h.w

/-- The message schedule extended, newest word first. -/
def shaSched (h : Sha) : Nat → List Nat → List Nat
  | 0, ws => ws
  | n + 1, ws =>
    let x := (sig2 h.w h.m1 (ws.getD 1 0) + ws.getD 6 0 + sig2 h.w h.m0 (ws.getD 14 0) + ws.getD 15 0) % 2 ^ h.w
    shaSched h n (x :: ws)

/-- One round on the eight working words. -/
def shaRound (h : Sha) (v : List Nat) (kw : Nat × Nat) : List Nat :=
  let a := v.getD 0 0
  let b := v.getD 1 0
  let c := v.getD 2 0
  let e := v.getD 4 0
  let f := v.getD 5 0
  let g := v.getD 6 0
  let ch := (e &&& f) ^^^ ((2 ^ h.w - 1 - e) &&& g)
  let maj := (a &&& b) ^^^ (a &&& c) ^^^ (b &&& c)
  let t1 := v.getD 7 0 + sig3 h.w h.s1 e + ch + kw.1 + kw.2
  let t2 := sig3 h.w h.s0 a + maj
  [(t1 + t2) % 2 ^ h.w, a, b, c, (v.getD 3 0 + t1) % 2 ^ h.w, e, f, g]

/-- One block of 16 words. -/
def shaBlock (h : Sha) (ks : List Nat) (hv : List Nat) (ws : List Nat) : List Nat :=
  let sched := (shaSched h (h.rounds - 16) ws.reverse).reverse
  let v := (ks.zip sched).foldl (shaRound h) hv
  (hv.zip v).map fun x => (x.1 + x.2) % 2 ^ h.w

/-- The number that big-endian bytes spell. -/
def beNat (bs : List Nat) : Nat := bs.foldl (fun a b => a * 256 + b) 0
/-- A number in `n` big-endian bytes. -/
def beBytes (n x : Nat) : List Nat := (List.range n).map fun i => x / 2 ^ (8 * (n - 1 - i)) % 256
/-- A list cut into pieces of `n`, with fuel. -/
def chunks (n : Nat) : Nat → List Nat → List (List Nat)
  | 0, _ => []
  | k + 1, l => if l.isEmpty then [] else l.take n :: chunks n k (l.drop n)

/-- A SHA-2 digest: message bytes padded, hashed, the first `out` words as bytes. -/
def sha2 (h : Sha) (init : List Nat) (out : Nat) (msg : List Nat) : List Nat :=
  let bb := h.w * 2
  let lb := h.w / 4
  let zeros := (2 * bb - (msg.length + 1 + lb) % bb) % bb
  let padded := msg ++ [0x80] ++ List.replicate zeros 0 ++ beBytes lb (8 * msg.length)
  let blocks := chunks bb padded.length padded
  let hv := blocks.foldl (fun hv b => shaBlock h (shaK h) hv ((chunks (h.w / 8) 16 b).map beNat)) init
  (hv.take out).flatMap (beBytes (h.w / 8))

/-- SHA-256. -/
def sha256 (msg : List Nat) : List Nat := sha2 sha256P (shaInit sha256P (primes80.take 8)) 8 msg
/-- SHA-384. -/
def sha384 (msg : List Nat) : List Nat := sha2 sha384P (shaInit sha384P ((primes80.drop 8).take 8)) 6 msg
/-- HMAC-SHA-256 of a key of at most 64 bytes. -/
def hmac256 (key msg : List Nat) : List Nat :=
  let k := (if 64 < key.length then sha256 key else key)
  let k := k ++ List.replicate (64 - k.length) 0
  sha256 (k.map (fun b => b ^^^ 0x5C) ++ sha256 (k.map (fun b => b ^^^ 0x36) ++ msg))

/-! ### P-384 -/

/-- The field's prime. -/
def p384 : Nat := 2 ^ 384 - 2 ^ 128 - 2 ^ 96 + 2 ^ 32 - 1
/-- The group's order. -/
def n384 : Nat := 0xffffffffffffffffffffffffffffffffffffffffffffffffc7634d81f4372ddf581a0db248b0a77aecec196accc52973
/-- The curve's b. -/
def b384 : Nat := 0xb3312fa7e23ee7e4988e056be3f82d19181d9c6efe8141120314088f5013875ac656398d8a2ed19d2a85c8edd3ec2aef
/-- The base point's x. -/
def gx384 : Nat := 0xaa87ca22be8b05378eb1c71ef320ad746e1d3b628ba79b9859f741e082542a385502f25dbf55296c3a545e3872760ab7
/-- The base point's y. -/
def gy384 : Nat := 0x3617de4a96262c6f5d9e98bf9292dc29f8f41dbd289a147ce9da3113b5f0b8c00a60b1ce1d7e819d7a431d7c90ea0e5f

/-- Power modulo `m` of a `bits`-bit exponent. -/
def powMod (m b e : Nat) : Nat → Nat
  | 0 => 1 % m
  | k + 1 =>
    let r := powMod m b (e / 2) k
    let r2 := r * r % m
    if e % 2 = 1 then r2 * b % m else r2
/-- Inverse modulo a prime. -/
def invMod (m x : Nat) : Nat := powMod m (x % m) (m - 2) 384

/-- A point of the curve; none is the point at infinity. -/
abbrev Pt := Option (Nat × Nat)
/-- Difference modulo the field's prime. -/
def fsub (a b : Nat) : Nat := (a + p384 - b % p384) % p384
/-- Sum of two points. -/
def ptAdd (x y : Pt) : Pt :=
  match x, y with
  | none, q => q
  | p, none => p
  | some (x1, y1), some (x2, y2) =>
    if x1 = x2 ∧ (y1 + y2) % p384 = 0 then none
    else
      let l := if x1 = x2 then (3 * x1 * x1 + p384 - 3) % p384 * invMod p384 (2 * y1) % p384
               else fsub y2 y1 * invMod p384 (fsub x2 x1) % p384
      let x3 := fsub (l * l % p384) (x1 + x2)
      some (x3, fsub (l * fsub x1 x3 % p384) y1)
/-- Multiple of a point by a `bits`-bit number. -/
def ptMul (p : Pt) (k : Nat) : Nat → Pt
  | 0 => none
  | b + 1 =>
    let h := ptMul p (k / 2) b
    let d := ptAdd h h
    if k % 2 = 1 then ptAdd d p else d
/-- A point lies on the curve. -/
def onCurve (x y : Nat) : Bool :=
  decide (x < p384) && decide (y < p384) && decide (y * y % p384 = (x * x % p384 * x + (p384 - 3) * x + b384) % p384)

/-- ECDSA verification over P-384 with SHA-384: key x and y, signature r and s. -/
def ecdsa384 (qx qy r s : Nat) (msg : List Nat) : Bool :=
  if r = 0 ∨ n384 ≤ r ∨ s = 0 ∨ n384 ≤ s ∨ onCurve qx qy = false then false
  else
    let z := beNat (sha384 msg)
    let w := invMod n384 s
    match ptAdd (ptMul (some (gx384, gy384)) (z * w % n384) 384) (ptMul (some (qx, qy)) (r * w % n384) 384) with
    | none => false
    | some (x, _) => decide (x % n384 = r)

end Sys2Proof.Machine
end

