-- ==== Sys2Proof/Machine/Packs.lean ====
section
/-! DEFINITION. What a set of writes sends down the tree (R59, R60, R62, R64, R250, R275): its STAGE packets by target, the
load of each hub child port, the answers that it awaits, and the parts of a resynchronisation. -/

namespace Sys2Proof.Machine

/-- One STAGE packet to send: the node addressed, the header, SEL and value. -/
structure StageItem where
  n : Nat
  h : Hdr
  sel : Nat
  v : Word
  deriving DecidableEq, Repr

/-! ### Values that the hub keeps set (R34, R185) -/

/-- A node binding of the loop table reaches the node: it names an ID in the node's subtree, or a node above it (R34). -/
def State.wdBound (s : State) (n : Nat) : Bool :=
  let x := s.node n
  s.eng.loops.any fun l => l.2.used && l.2.binds.any fun b =>
    let d := b.2.toNat % 65536
    decide (b.2.toNat / 2 ^ 28 = 1) &&
    (decide (d = 0xFFFF) || (decide (x.id.toNat ≤ d) && decide (d ≤ x.subHi.toNat)) ||
      match s.nodeById (BitVec.ofNat 16 d) with
      | some m => (s.subtree m).contains n
      | none => false)
/-- The reference pans of the regions and their alternates. -/
def State.refPans (s : State) : List Nat :=
  (s.regions.flatMap fun r => [(s.rimg r).refPan, (s.rimg r).altPan]).filter fun n => decide (n ≠ 0)
/-- The value that goes to a node: the loop watchdog's enable and EPOCHSAMP bit 0 are kept set where they must be. -/
def State.kept (s : State) (n sel : Nat) (v : Word) : Word :=
  if sel = 0x06 ∧ s.wdBound n then v ||| 16
  else if sel = 0x64 ∧ s.refPans.contains n then v ||| 1
  else v
/-- EPOCHSAMP packets that follow a plan for a pond above reference pans (R185): those pans alone keep bit 0 set. -/
def State.refPlans (s : State) (xs : List StageItem) : List StageItem :=
  (xs.filter fun x => decide (x.sel = 0x64)).flatMap fun x =>
    (s.refPans.filter fun n => decide (n ≠ x.n) && (s.pansUnder x.n).contains n).map fun n => ⟨n, s.hdrOf n, 0x64, x.v ||| 1⟩

/-! ### The packets of a set -/

/-- MODE on (1) or off (0) for a region's pond: diode emulation permitted, the carry permit as committed (R275). -/
def State.modeWord (s : State) (r st : Nat) : Word := BitVec.ofNat 32 (st + 4 + 8 * b2n (s.com.reg r).carry)

/-- Sequencer states from which a committed on starts the region's pans in the same glue-up (R275). -/
def SeqSt.startsAtOnce : SeqSt → Bool
  | .dark | .retained | .purged => true
  | _ => false
/-- Regions whose start goes with a set: newly on, or on again after STARTFAIL by a write of on (R275). -/
def State.starts (s : State) (c : Committed) : List Nat :=
  s.regions.filter fun r =>
    (s.reg r).seq.st.startsAtOnce && decide ((c.reg r).state = .on) &&
    (decide ((s.com.reg r).state ≠ .on) || ((s.reg r).seq.startfail && decide (0 < (c.reg r).onWrites)))
/-- Writes that a region's start carries: MODE on to its pond, and to each spare whose MODE on was kept; a pan whose return
was kept takes MODE off first (R275, R289, R401). -/
def State.startWrites (s : State) (r : Nat) : List CW :=
  let m := s.rimg r
  let kept := (m.pans ++ m.spares).filter fun n => (s.nflt n).keepOn
  .nodeMode m.pond (s.pondHdr r) (s.modeWord r 1) ::
  kept.map fun n => .nodeMode n (s.hdrOf n) (s.modeWord r (if (s.pan n).st = .faulted then 0 else 1))
/-- The write is a MODE write that turns a region's pond on. -/
def State.modeOnOf (s : State) (c : CW) : Option Nat :=
  match c with
  | .nodeMode n _ v => if ufield v 0 2 = 1 then s.regions.find? fun r => (s.rimg r).pond = n else none
  | _ => none

/-- An accelerator REQUEST of the set is the order that makes the region's new state (R275, R283). -/
def viaRequest (ws : List SWrite) (r : Nat) (c : CReg) : Bool :=
  decide (c.winner = some 0) && ws.any fun w => decide (w.src = .accel) && match w.cw with
    | .order k slot o => decide (k = r) && decide (slot = 0) && decide (o = c.ops)
    | _ => false
/-- What a set composes with the starts that it carries: the committed state, and every MODE write of a start. -/
def State.composeSet (s : State) (ws : List SWrite) : Committed × List CW :=
  let c := compose s ws
  let c := s.regions.foldl (fun c r =>
    if (c.reg r).state = (s.com.reg r).state then c else c.updReg r fun x => { x with viaReq := viaRequest ws r x }) c
  let on := (s.starts c).flatMap s.startWrites
  (on.foldl (fun c x => applyCW s c { cw := x, src := .guard_ }) c, on)

/-- The rate that a region's pans take (R248): SLEW within SLEWMAX. -/
def CReg.rate (c : CReg) : Nat := min c.slew c.slewmax
/-- What a region's composed values send to its pond (R250). -/
def State.regionItems (s : State) (c : Committed) (r : Nat) : List StageItem :=
  let a := s.com.reg r
  let b := c.reg r
  let p := (s.rimg r).pond
  let it (sel v : Nat) : StageItem := ⟨p, s.pondHdr r, sel, BitVec.ofNat 32 v⟩
  (if a.setpt = b.setpt then [] else [it 0x00 b.setpt]) ++ (if a.rate = b.rate then [] else [it 0x01 b.rate]) ++
  (if a.lo = b.lo ∧ a.hi = b.hi then [] else [it 0x02 (b.hi * 65536 + b.lo)])
/-- What a write itself sends. -/
def CW.items : CW → List StageItem
  | .nodeMode n h v => [⟨n, h, 0x06, v⟩]
  | .nodeStage n h sel v => [⟨n, h, sel.toNat, v⟩]
  | _ => []
/-- A node takes part in glue-ups: numbered, in contact, its port enabled. -/
def State.inTree (s : State) (n : Nat) : Bool :=
  decide (n ≠ 0) && decide ((s.node n).id ≠ 0) && !(s.nflt n).ooc && !(s.node n).portDisabled
/-- A target, and each adopted subtree inside its own, which the target's pond no longer reaches (R54, R70). -/
def State.spread (s : State) (x : StageItem) : List StageItem :=
  let below := s.flt.adopted.filter fun a => decide (a ≠ x.n) && (s.subtree x.n).contains a
  (x :: below.map fun a => { x with n := a, h := { bc := x.h.bc || (s.node a).kind.isPan, dst := (s.node a).id } }).filter
    fun y => s.inTree y.n
/-- The STAGE packets of a set that composes to `c`, with the MODE writes of its starts. -/
def State.setItems (s : State) (ws : List SWrite) (c : Committed) (on : List CW) : List StageItem :=
  let own := (ws.map SWrite.cw).flatMap CW.items
  let xs := own ++ s.regions.flatMap (s.regionItems c) ++ on.flatMap CW.items
  ((xs ++ s.refPlans xs).map fun x => { x with v := s.kept x.n x.sel x.v }).flatMap s.spread

/-- The targets of a list of STAGE packets in order of first appearance (R59). -/
def targetsOf (xs : List StageItem) : List (Nat × Hdr) := (xs.map fun x => (x.n, x.h)).eraseDups
/-- STAGE and END packets of each target. -/
def targetLoads (xs : List StageItem) : List (Nat × Hdr × Nat) :=
  (targetsOf xs).map fun t => (t.1, t.2, (xs.filter fun x => decide ((x.n, x.h) = t)).length + 1)
/-- STAGE and END packets through each hub child port (R60). -/
def State.loadsOf (s : State) (xs : List StageItem) : Tbl Nat :=
  (targetLoads xs).foldl (fun (t : Tbl Nat) x =>
    match s.portFor 0 (s.node x.1).id with
    | some p => t.set 0 p (t.get 0 p + x.2.2)
    | none => t) ([] : Tbl Nat)
/-- The loads of a set of writes. -/
def State.setLoads (s : State) (ws : List SWrite) : Tbl Nat :=
  let x := s.composeSet ws
  s.loadsOf (s.setItems ws x.1 x.2)
/-- The highest load of a table. -/
def topLoad (t : Tbl Nat) : Nat := (t.map Prod.snd).foldl max 0

/-! ### Answers awaited (R62, R70) -/

/-- The child of the hub behind which a node stands: an adopted root above it, else a hub child. -/
def State.hubChild (s : State) (n : Nat) : Option Nat :=
  match (s.flt.adopted.filter fun a => (s.subtree a).contains n).getLast? with
  | some a => some a
  | none => (s.children 0).find? fun c => (s.subtree c).contains n
/-- The key of a child of the hub in the answers awaited: its port, or one of its own for an adopted subtree (R62, R70). -/
def State.portKey (s : State) (c : Nat) : Nat := if s.flt.adopted.contains c then 64 + c else (s.node c).port
/-- Nodes that will match a target's END (R61, R62): the pan addressed, or every node of the subtree that its child of the
hub answers for. -/
def State.matchers (s : State) (n : Nat) (h : Hdr) : Nat :=
  if (s.node n).kind.isPan ∧ h.bc = false then 1
  else ((s.subtree n).filter fun m => s.inTree m && decide (s.hubChild m = s.hubChild n)).length
/-- The answers that a list of STAGE packets awaits, by child of the hub (R62). -/
def State.expects (s : State) (xs : List StageItem) : Tbl PortExp :=
  (targetsOf xs).foldl (fun (t : Tbl PortExp) x =>
    match s.hubChild x.1 with
    | some c =>
      let k := s.portKey c
      let e := t.get {} k
      t.set {} k { e with used := true, count := e.count + s.matchers x.1 x.2 }
    | none => t) ([] : Tbl PortExp)

/-! ### Resynchronisation (R63, R64) -/

/-- The complete committed state of a pan as STAGE packets: its region's values, its MODE, and what has been staged to it. -/
def State.resyncItems (s : State) (c : Committed) (n : Nat) : List StageItem :=
  let it (sel : Nat) (v : Word) : StageItem := ⟨n, s.hdrOf n, sel, s.kept n sel v⟩
  let reg := match s.regions.find? fun r => (s.rimg r).pans.contains n || (s.rimg r).spares.contains n with
    | some r =>
      let x := c.reg r
      [it 0x00 (BitVec.ofNat 32 x.setpt), it 0x01 (BitVec.ofNat 32 x.rate), it 0x02 (BitVec.ofNat 32 (x.hi * 65536 + x.lo))]
    | none => []
  let own := (c.nodeStage.filter fun e => decide (e.1 / 256 = n) && decide (e.1 % 256 ≠ 0x06)).filterMap fun e =>
    e.2.map fun v => it (e.1 % 256) v
  reg ++ own.filter (fun x => !(reg.any fun y => decide (y.sel = x.sel))) ++ [it 0x06 (BitVec.ofNat 32 (c.nodeMode.get modeReset n))]
/-- The nodes of the next part: as many as keep every hub child port at 48 packets, none on a port that a set of its own
has to itself. -/
def State.resyncPart (s : State) (c : Committed) (alone : List Nat) : List Nat :=
  (s.nodes.keys.filter fun n => (s.node n).resyncDue && s.inTree n && (s.node n).kind.isPan).foldl (fun ns n =>
    let t := s.loadsOf ((ns ++ [n]).flatMap (s.resyncItems c))
    let p := s.portFor 0 (s.node n).id
    if topLoad t ≤ 48 ∧ !(alone.any fun a => decide (some a = p)) then ns ++ [n] else ns) []

/-! ### A bundle that can never be sent (R60) -/

/-- Writes grouped into units that are never split, in order of arrival: single writes, bundles, derived sets (R60). -/
def unitsOf : List SWrite → List (List SWrite)
  | [] => []
  | w :: rest =>
    let us := unitsOf rest
    if w.grp = 0 then [w] :: us
    else match us.find? fun u => u.any fun x => decide (x.grp = w.grp) with
      | some u => (w :: u) :: us.filter fun y => decide (y ≠ u)
      | none => [w] :: us
/-- Writes of a unit fail (R21, R60): each completes FAILED; a return in hand and planned transfers are abandoned. -/
def State.failWrites (s : State) (u : List SWrite) : State :=
  u.foldl (fun s w =>
    let s := s.complete w .failed false 0
    match w.cw with
    | .holding _ => s.holdFailed
    | .nodeMode n _ _ => s.updNflt n fun x => { x with returning := 0 }
    | .trayCeil g => s.updPorts fun p => { p with trayHeld := some (p.trayHeld.getD g) }
    | _ => s) s
/-- A host write or a bundle that alone needs more than 96 packets on a port fails when it reaches staging (R60). -/
def State.failOversize (s : State) : State :=
  (unitsOf s.stg.queue).foldl (fun s u =>
    let host := u.all fun w => decide (w.src = .host)
    if host && decide (96 < topLoad (s.setLoads u)) then
      (s.updStg fun g => { g with queue := g.queue.filter fun w => !u.contains w }).failWrites u
    else s) s

end Sys2Proof.Machine
end

