-- ==== Sys2Proof/Machine/Host.lean ====
section
/-! DEFINITION. The host window's writes (R424 to R437, R497 to R509), attach and sessions, the watchdog (R421 to R423),
the log ring, the trace buffer and image loading (R439 to R444, R506). -/

namespace Sys2Proof.Machine

/-! ### Kinds of offsets (R424, R498) -/

/-- How the hub takes a write to an offset; the role is the lowest of its fields. -/
inductive WKind where
  | unassigned | ro | hw | emu (r : Role) | ticket (r : Role)
  deriving DecidableEq, Repr

/-- Hardware writes (R424), ATTACH apart. -/
def hwOffs : List Nat :=
  [0x0C, 0x14, 0x28, 0x2C, 0x5C, 0x60, 0x85C, 0xA00, 0xA08, 0xB04, 0xB28, 0xC00, 0xC0C, 0xC10, 0xE00, 0xE04, 0x1000, 0x10CC]
/-- Single registers that take emulated writes and no ticket, with their roles. -/
def emuOffs : List (Nat × Role) :=
  [(0x3C, .installer), (0x40, .installer), (0x7C, .maker), (0x100, .operator), (0x108, .operator), (0x10C, .installer),
   (0x620, .operator), (0x858, .installer), (0x904, .operator), (0x90C, .operator), (0xB08, .operator), (0xB20, .maker),
   (0xD00, .maker), (0xD04, .maker), (0xD08, .maker)]
/-- Single registers of committed state, with their roles. -/
def tkOffs : List (Nat × Role) :=
  [(0x200, .operator), (0x204, .installer), (0x208, .maker), (0x218, .installer), (0x21C, .installer), (0x220, .installer),
   (0x224, .installer), (0x304, .maker), (0x324, .maker), (0x328, .maker), (0x33C, .maker), (0x360, .maker), (0x36C, .maker),
   (0x5C0, .installer), (0x5C4, .installer), (0x600, .installer), (0x604, .installer), (0x608, .installer),
   (0x800, .installer), (0x804, .installer), (0x808, .installer), (0x810, .installer), (0x814, .installer),
   (0x818, .installer), (0x81C, .maker), (0x820, .installer), (0x824, .maker), (0x828, .installer), (0x82C, .installer),
   (0x860, .installer), (0x864, .installer), (0x900, .installer), (0x910, .installer), (0xC04, .operator), (0xC14, .operator),
   (0x1080, .operator), (0x1084, .installer), (0x1088, .maker), (0x108C, .maker), (0x1098, .operator), (0x109C, .installer),
   (0x10A0, .maker)]
/-- An offset lies in a range. -/
def inR (lo hi off : Nat) : Bool := decide (lo ≤ off) && decide (off ≤ hi)
/-- Registers that the host can only read (R498). -/
def roOff (off : Nat) : Bool :=
  [0x00, 0x04, 0x10, 0x18, 0x1C, 0x20, 0x24, 0x30, 0x34, 0x38, 0x44, 0x48, 0x4C, 0x50, 0x54, 0x58, 0x64, 0x68, 0x6C, 0x70,
   0x74, 0x78, 0x104, 0x110, 0x20C, 0x210, 0x214, 0x5C8, 0x5CC, 0x60C, 0x610, 0x618, 0x61C, 0x908, 0x914, 0xA04, 0xA0C,
   0xB00, 0xB24, 0xB2C, 0xB30, 0xB34, 0xC08, 0xC18, 0xD0C, 0xE08, 0xE0C, 0x1090, 0x1094].contains off ||
  inR 0x80 0xA0 off || inR 0x120 0x13C off || inR 0x228 0x23C off || inR 0x540 0x5BC off || inR 0x624 0x63C off ||
  inR 0x680 0x77C off || inR 0x830 0x854 off || inR 0x868 0x87C off && decide (off ≠ 0x86C) || inR 0x930 0x93C off ||
  inR 0xA10 0xA20 off || inR 0xB10 0xB1C off || inR 0xC40 0xC7C off || inR 0xE10 0xE2C off || inR 0xF00 0xF7C off ||
  inR 0x10A4 0x10D4 off

/-- The kind of an offset (R424, R497, R498). -/
def wkind (off : Nat) : WKind :=
  if off % 4 ≠ 0 then .unassigned
  else if hwOffs.contains off ∨ inR 0x140 0x19C off then .hw
  else match (emuOffs.find? fun x => x.1 = off), (tkOffs.find? fun x => x.1 = off) with
    | some x, _ => .emu x.2
    | none, some x => .ticket x.2
    | none, none =>
      if inR 0x1A0 0x1BC off then .emu .installer
      else if inR 0x640 0x67C off then .emu .operator
      else if inR 0xB40 0xB5C off then .emu .maker
      else if inR 0x300 0x36C off ∨ inR 0x380 0x41C off ∨ inR 0x920 0x92C off then .ticket .installer
      else if inR 0x500 0x53C off ∨ inR 0xC20 0xC2C off then .ticket .operator
      else if roOff off then .ro
      else .unassigned

/-- The role of a code of MROLE or of a mark (R231, R505). -/
def roleOf : Nat → Role
  | 0 => .operator
  | 1 => .installer
  | _ => .maker

/-- The role that a write to fields of mixed roles needs (R274, R392, R463, R505). DEDUCED (log 122): the spec does not say how a
write of THCFG (CONFTHR and TINLET of the installer, TDRAIN of the maker) by an installer is judged; it is denied whole
exactly where its [23:16] differs from the committed TDRAIN. -/
def State.needRole (s : State) (off sel : Nat) (v : Word) (r : Role) : Role :=
  match off with
  | 0x3C => if bitOf v 1 then .maker else .installer
  | 0x900 => if ufield v 16 8 ≠ s.com.tdrain then .maker else .installer
  | 0x1098 => roleOf (min 2 (if ufield v 4 2 = 3 then 0 else ufield v 4 2))
  | 0xC14 => roleOf (s.sys.image.marks.get 2 sel)
  | _ => if off = 0xC04 ∨ inR 0xC20 0xC2C off then roleOf (s.lent sel).mrole else r

/-! ### Sessions and attach (R425, R430 to R437) -/

/-- A load in hand ends (R506). -/
def State.endLoad (s : State) : State :=
  if s.hw.imgState = 1 ∨ s.hw.imgState = 2 then s.updHw fun h => { h with imgState := 4, imgReason := 6 } else s
/-- An installer or maker session is in force. -/
def HostWin.elevated (h : HostWin) : Bool := decide (h.role = some .installer) || decide (h.role = some .maker)
/-- An installer or maker session ends (R436): the session register returns to operator. -/
def State.endSession (s : State) : State :=
  if s.hw.elevated then
    (s.updHw fun h => { h with role := some .operator, sesState := 0, outstanding := false }).endLoad
  else s
/-- The same, with its cause (R429). -/
def State.dropSession (s : State) : State := if s.hw.elevated then s.endSession.cause 6 else s

/-- The refusal code of an ATTACH value, the first that applies (R430); 0 none. -/
def State.attachCode (s : State) (v : Word) : Nat :=
  if ufield v 16 16 ≠ 0 then 4
  else if s.service = false then 2
  else if s.sys.restart ∨ s.sys.mcheld then 3
  else if ufield v 8 8 ≠ 3 then 1
  else 0

/-- ATTACH (R430, R433). -/
def State.attach (s : State) (v : Word) : State :=
  let c := s.attachCode v
  let s := s.updHw fun h => { h with attachV := v }
  if c ≠ 0 then
    s.updHw fun h => { h with atRefuse := c, atState := if h.role.isSome then 3 else 2 }
  else
    let s := s.dropSession
    let s := s.abandonBundles
    let s := s.updHw fun h => { h with
      role := some .operator, sesState := 0, outstanding := false, atState := 1, atRefuse := 0,
      sminor := min 1 (ufield v 0 8), attaches := h.attaches + 1, hibeat := s.now }
    s.setB .run

/-- Entry to UNATTENDED (R433, R436, R502). -/
def State.unattend (s : State) : State :=
  let s := s.dropSession
  let s := s.abandonBundles
  let s := s.updHw fun h => { h with role := none, sesState := 0, outstanding := false, atState := 0 }
  s.setB .unattended

/-- Words of a register array as bytes, byte 4 w + i in bits [8 i + 7 : 8 i] of word w (R435). -/
def wordBytes (t : Tbl Word) (n : Nat) : List Nat :=
  (List.range n).flatMap fun w => (List.range 4).map fun i => (t.get 0 w).toNat / 2 ^ (8 * i) % 256
/-- A number in little-endian bytes. -/
def natLE (n x : Nat) : List Nat := (List.range n).map fun i => x / 2 ^ (8 * i) % 256
/-- The message that a response signs (R435). -/
def State.sesMessage (s : State) : List Nat :=
  wordBytes s.hw.challenge 8 ++ natLE 8 s.store.serial.toNat ++ natLE 4 s.hw.sesNum.toNat
/-- The number that big-endian bytes spell. -/
def beNum (bs : List Nat) : Nat := bs.foldl (fun a b => 256 * a + b) 0
/-- The response verifies (R435). -/
def State.sesOk (s : State) : Bool :=
  let r := wordBytes s.hw.resp 24
  match s.hw.sesReq with
  | .installer => match s.store.instKey with
    | some k => decide (hmac256 (k.map BitVec.toNat) s.sesMessage = r.take 32)
    | none => false
  | _ => match s.store.makerKey with
    | some k =>
      let b := k.map BitVec.toNat
      s.store.keyHashes.any (fun h => decide (h.map BitVec.toNat = sha384 b)) &&
      ecdsa384 (beNum (b.take 48)) (beNum (b.drop 48)) (beNum (r.take 48)) (beNum (r.drop 48)) s.sesMessage
    | none => false

/-- A SESCTL request (R435 to R437): a challenge, or a refusal; whether it was served. -/
def State.sesRequest (s : State) (r : Role) : State × Bool :=
  if s.hw.sesState = 5 then (s, false)
  else if r = .installer ∧ s.store.instKey.isNone then
    (s.updHw fun h => { h with sesState := 6, outstanding := false }, false)
  else
    let ch := (List.range 8).foldl (fun (t : Tbl Word) k => t.set 0 k (Config.challenge s.free k)) ([] : Tbl Word)
    (s.draw.updHw fun h => { h with sesState := 1, sesReq := r, outstanding := true, challenge := ch, sesNum := h.sesNum + 1 }, true)

/-! ### Snapshot requests (R166, R168) -/

/-- A request for a slot (R166, R168): one on the boundary's own CKS cycle, the boundary not yet taken, counts as after it. -/
def State.snapReq (s : State) (slot : Nat) (rst : Bool) : State :=
  s.updDie fun d =>
    let x := d.snaps.get {} slot
    let late := decide (s.epochAt + epochT ≤ s.now)
    let x := if x.filling then { x with again := true, rst := x.rst || rst }
      else { x with st := 1, again := false, rst := x.rst || rst, late := if x.st = 1 then x.late else late }
    { d with snaps := d.snaps.set {} slot x }

/-! ### Hardware writes (R424) -/

/-- RWX of the region that REGSEL names (R509): written ones clear. -/
def State.rwxClear (s : State) (r : Nat) (v : Word) : State :=
  if s.hasReg r = false then s
  else s.updTel r fun t => { t with
    wxFast := t.wxFast && !bitOf v 0, wxSlowV := t.wxSlowV && !bitOf v 1, wxSlowI := t.wxSlowI && !bitOf v 2 }

/-- A hardware write takes effect. -/
def State.hwWrite (s : State) (off : Nat) (v : Word) : State :=
  match off with
  | 0x0C => if bitOf v 0 ∧ s.hw.bstate = .run then s.unattend else s
  | 0x14 => if s.hw.bstate = .run then s.updHw fun h => { h with hibeat := s.now } else s
  | 0x28 => s.updHw fun h => { h with intcause := h.intcause &&& ~~~ v.setWidth 9 }
  | 0x2C => s.updHw fun h => { h with inten := v.setWidth 9 }
  | 0x5C =>
    if bitOf v 8 then (s.closeBundle (ufield v 0 8)).failOversize.updHw fun h => { h with wrbnd := 0 }
    else s.updHw fun h => { h with wrbnd := ufield v 0 8 }
  | 0x60 => s.updHw fun h => { h with crsel := v.setWidth 16 }
  | 0x85C => s.updHw fun h => { h with tpsel := ufield v 0 5 }
  | 0xA00 => s.updHw fun h => { h with nodesel := ufield v 0 14 }
  | 0xA08 => (s.updHw fun h => { h with talsel := v &&& 0x3F3FFF }).updFlt fun f => { f with talReady := false }
  | 0xB04 => s.updHw fun h => { h with logsel := v }
  | 0xB28 => s.updHw fun h => { h with trcsel := ufield v 0 11 }
  | 0xC00 => s.updHw fun h => { h with loopsel := ufield v 0 13 }
  | 0xC0C => s.updHw fun h => { h with coefsel := ufield v 0 14 }
  | 0xC10 => s.updHw fun h => { h with coefsh := ufield v 0 6 }
  | 0xE00 => s.snapReq (ufield v 0 2) (bitOf v 4)
  | 0xE04 => s.updHw fun h => { h with snpsel := v &&& 0x800FFFFF }
  | 0x1000 => s.updHw fun h => { h with regsel := ufield v 0 10 }
  | 0x10CC => s.rwxClear s.hw.regsel v
  | _ => if inR 0x140 0x19C off then s.updHw fun h => { h with resp := h.resp.set 0 ((off - 0x140) / 4) v } else s

/-! ### Arrival of a write (R425 to R428, R497, R501) -/

/-- The status of the most recent write (R501). -/
def State.lastIs (s : State) (st : Status) : State := s.updHw fun h => { h with last := st }
/-- A write by a role below its field's completes DENIED (R425), a ticketed one with its ticket; it is tallied. -/
def State.denyWrite (s : State) (r : Role) (ticketed : Bool) : State :=
  let s := s.tallyRole (3 + r.rank)
  if ticketed then
    let x := s.issue
    (x.1.updRec (some x.2) fun c => { c with status := .denied }).updHw fun h => { h with last := .denied, lastTkt := true }
  else s.lastIs .denied
/-- An emulated write finds the queue full, the firmware restarting or held: FAILED on arrival (R426, R427). -/
def State.shutOut (s : State) : Bool := !s.sys.ready || decide (256 ≤ s.hw.queue.length)
/-- An emulated write arrives: it takes its ticket if it writes committed state, and waits (R426, R499). -/
def State.enqueue (s : State) (off : Nat) (v : Word) (r : Role) (ticketed : Bool) : State :=
  let sel := s.hw.selOf off
  if s.shutOut then
    if ticketed then
      let x := s.issue
      (x.1.updRec (some x.2) fun c => { c with status := .failed }).updHw fun h => { h with last := .failed, lastTkt := true }
    else s.lastIs .failed
  else
    let b := s.hw.wrbnd
    let x := if ticketed then (s.issue.1, some s.issue.2) else (s, none)
    x.1.updHw fun h => { h with
      last := .pending, lastTkt := ticketed, lastEmu := if ticketed then none else some off,
      queue := h.queue ++ [{ off := off, sel := sel, v := v, aux := h.coefsh, role := r, ticket := x.2,
                             bundle := if ticketed then b else 0 }] }

/-- A write reaches the hub (R424 to R427, R431, R497). -/
def State.arrive (s : State) (off : Nat) (v : Word) : State :=
  if s.hw.bstate = .off then s
  else
    let s := s.updHw fun h => { h with lastWrite := s.now, lastEmu := none, lastTkt := false }
    if s.hw.bstate = .guard_ ∨ s.hw.bstate = .boot then s.lastIs .failed
    else if off = 8 then (s.attach v).lastIs .done
    else if wkind off = .unassigned then s.lastIs .failed
    else match s.hw.role with
      | none => s.lastIs .denied
      | some r =>
        let sel := s.hw.selOf off
        match wkind off with
        | .hw => (s.hwWrite off v).lastIs .done
        | .emu need =>
          if off = 0xB08 ∧ s.hw.sminor = 0 then s.lastIs .failed
          else if r.rank < (s.needRole off sel v need).rank then s.denyWrite r false
          else s.enqueue off v r false
        | .ticket need =>
          if r.rank < (s.needRole off sel v need).rank then s.denyWrite r true else s.enqueue off v r true
        | _ => s.denyWrite r false

/-! ### The firmware's checks (R426) -/

/-- The firmware's ranges, windows and write-once conditions on a write to committed state. -/
def State.fwCheck (s : State) (off sel : Nat) (v : Word) : Bool :=
  let rng (lo hi x : Nat) : Bool := decide (lo ≤ x) && decide (x ≤ hi)
  let out := decide (s.tide.st = .out)
  let f := ufield v
  match off with
  | 0x208 => decide (f 0 16 ≠ 0)
  | 0x224 => rng 0 5 (f 0 3) && rng 0 5 (f 4 3) && rng 0 5 (f 8 3) && rng 0 5 (f 12 3) && rng 0 32 (f 16 6) && rng 1 60 (f 25 6)
  | 0x600 => !s.com.shim.leden
  | 0x604 => !s.com.shim.leden
  | 0x800 => out
  | 0x804 => out
  | 0x808 => out
  | 0x810 => out
  | 0x814 => out
  | 0x860 => out
  | 0x820 => rng 1 1024 (f 0 11) && rng 1 255 (f 24 8)
  | 0x824 => rng 1 1024 (f 0 11)
  | 0x828 => rng 5 255 (f 0 8) && rng 1 255 (f 8 8) && rng 1 255 (f 16 8)
  | 0x900 => rng 8 255 (f 0 8) && rng 1 100 (f 16 8)
  | 0x910 => !s.com.tide.ten
  | 0xC04 => (s.lent sel).used
  | 0x1080 => s.hasReg sel && rng 1 500 (f 16 9)
  | 0x1084 => s.hasReg sel
  | 0x1088 => s.hasReg sel
  | 0x108C => s.hasReg sel && rng 1 500 (f 0 9)
  | 0x1098 => s.hasReg sel && decide ((f 0 3) ≤ 4) && decide (f 4 2 ≤ 2)
  | 0x109C => s.hasReg sel && rng 1 64 (f 0 7) && rng 1 255 (f 8 8)
  | 0x10A0 => s.hasReg sel && rng 1 255 (f 0 8) && rng 1 15 (f 8 4) && rng 1 255 (f 16 8)
  | _ =>
    if inR 0xC20 0xC2C off then (s.lent sel).used
    else if inR 0x920 0x92C off then !s.com.tide.ten
    else true

/-- What a ticketed write writes. -/
def HWrite.cw (w : HWrite) : CW :=
  if w.off = 0x1098 then .order w.sel (ufield w.v 4 2) ((orderOfCode (ufield w.v 0 3)).getD .none)
  else if inR 0x380 0x41C w.off then .phcmd ((w.off - 0x380) / 4) (min 2 (ufield w.v 0 2))
  else .reg w.off w.sel w.v w.aux

/-- A ticketed write leaves the queue: checked, and staged or held for its bundle (R262, R426). -/
def State.passTicket (s : State) (w : HWrite) : State :=
  if s.fwCheck w.off w.sel w.v then
    let x : SWrite := { cw := w.cw, src := .host, ticket := w.ticket, role := w.role.rank }
    if w.bundle = 0 then s.stage x else s.updStg fun g => { g with heldW := g.heldW ++ [x] }
  else s.updRec w.ticket fun c => { c with status := .failed }

/-! ### Emulated writes without a ticket -/

/-- Byte count of the area that a load fills (R493). -/
def areaBytes (target : Nat) : Nat := if target = 1 then 0x200000 else 0x100000
/-- START of a load (R506): the area that is not active is prepared and a pending image of the target discarded. -/
def State.imgStart (s : State) (target : Nat) : State × Bool :=
  if (target ≠ 1 ∧ target ≠ 2) ∨ s.hw.imgState = 1 ∨ s.hw.imgState = 2 then (s, false)
  else
    let st := s.store
    let st := if target = 1 then
        let a := 1 - st.jigActive
        let st := { st with jigPending := none, words := [], jigFallback := if st.jigFallback = some a then none else st.jigFallback }
        if a = 0 then { st with jig0 := { st.jig0 with present := false, signer := none } }
        else { st with jig1 := { st.jig1 with present := false, signer := none } }
      else
        let st := { st with fwPending := none, words := [] }
        if st.fwActive = 1 then { st with fw0 := {} } else { st with fw1 := {} }
    ({ s with store := st }.updHw fun h => { h with imgState := 1, imgReason := 0, imgWords := 0, imgOff := 0, imgEnd := 0, imgTarget := target }, true)

/-- IMGCTL (R506): START, FINISH, ABORT; the first that is set counts. -/
def State.imgCtl (s : State) (v : Word) : State × Bool :=
  if bitOf v 8 then s.imgStart (ufield v 0 2)
  else if bitOf v 9 then
    (if s.hw.imgState = 1 then (s.updHw fun h => { h with imgState := 2 }, true) else (s, false))
  else if bitOf v 10 then (if s.hw.imgState = 1 ∨ s.hw.imgState = 2 then (s.endLoad, true) else (s, false))
  else (s, true)

/-- IMGDAT (R506). -/
def State.imgDat (s : State) (v : Word) : State × Bool :=
  if s.hw.imgState ≠ 1 then (s, false)
  else if areaBytes s.hw.imgTarget ≤ s.hw.imgOff then (s.updHw fun h => { h with imgReason := 3 }, false)
  else
    let s := { s with store := { s.store with words := s.store.words.set 0 (s.hw.imgOff / 4) v } }
    (s.updHw fun h => { h with imgOff := h.imgOff + 4, imgEnd := max h.imgEnd (h.imgOff + 4), imgWords := h.imgWords + 1 }, true)

/-- STOPCTL (R387, R392, R459): WARM, PDOWN, RESTART; the first that is set counts. -/
def State.stopCtl (s : State) (v : Word) : State × Bool :=
  let of (o : Option State) : State × Bool := match o with
    | some s' => (s', true)
    | none => (s, false)
  if bitOf v 1 then of s.doWarm else if bitOf v 2 then of s.doPdown else if bitOf v 0 then of s.doRestart else (s, true)

/-- SESCTL (R435, R438). -/
def State.sesCtl (s : State) (v : Word) : State × Bool :=
  if bitOf v 8 then (s.endSession, true)
  else match ufield v 0 2 with
    | 1 => s.sesRequest .installer
    | 2 => s.sesRequest .maker
    | _ => (s, false)

/-- THRST (R392). -/
def State.thrst (s : State) : State :=
  s.regions.foldl (fun s r => s.updTh r fun h => { h with hostMax := none, hostMin := none, lslack := 0x7FFF }) s
/-- DIOREQ (R373, R392). -/
def State.dioreq (s : State) (v : Word) : State × Bool :=
  if bitOf v 16 then (s.regions.foldl State.diodeReq s, true)
  else if s.hasReg (ufield v 0 10) then (s.diodeReq (ufield v 0 10), true) else (s, false)
/-- LQREQ (R337). -/
def State.lqreq (s : State) (v : Word) : State × Bool :=
  let n := ufield v 0 5
  if n = 0 ∨ 16 < n then (s, false)
  else (s.updLed fun l => { l with qst := 1, qcount := n, qArmed := false }, true)
/-- TRCCTL (R444). -/
def State.trcctl (s : State) (v : Word) : State :=
  let g := { s.log with en := bitOf v 0, stop := bitOf v 1 }
  { s with log := if bitOf v 2 then { g with buf := [], wrapped := false } else g }
/-- CKE cycles of a self-check (R200). -/
def checkCycles : Nat := 512
/-- The tick at which the self-checks of a lane's group that stand end; 0 where none stands (R200, R202). -/
def State.checkFrom (s : State) (lane : Nat) : Nat :=
  (List.range 18).foldl (fun t k =>
    let x := s.lane (18 * (lane / 18) + k)
    match x.st with
    | .check => max t (x.checkAt + ckeT * checkCycles)
    | .retest => max t (x.checkAt + ckeT * (16 * checkCycles))
    | _ => t) 0
/-- Every FAILED lane goes to RETEST (R202, R410); in one group the retests follow one another, since one lane of a group is in
self-check at a time (R200). -/
def State.laneRetest (s : State) : State :=
  (List.range 72).foldl (fun s i =>
    if (s.lane i).st = .failed then s.updLane i fun l => { l with st := .retest, checkAt := max s.now (s.checkFrom i) } else s) s
/-- INSTKEYGO (R437). -/
def State.keyGo (s : State) : State :=
  { s with store := { s.store with instKey := some ((wordBytes s.hw.instkey 8).map (BitVec.ofNat 8)) } }
/-- TREL (R358). -/
def State.trel (s : State) (v : Word) : State × Bool :=
  match s.release v.toNat with
  | some s' => (s', true)
  | none => (s, false)

/-- The firmware serves an emulated write that takes no ticket: the state, and whether it completes DONE. -/
def State.serveEmu (s : State) (off : Nat) (v : Word) : State × Bool :=
  match off with
  | 0x3C => s.stopCtl v
  | 0x40 => (if bitOf v 0 then s.updSys fun y => { y with cfgSaving := true } else s, true)
  | 0x7C => (if bitOf v 0 then s.laneRetest else s, true)
  | 0x100 => s.sesCtl v
  | 0x108 =>
    if bitOf v 0 = false then (s, true)
    else if s.hw.outstanding then (s.updHw fun h => { h with sesState := 2, outstanding := false }, true) else (s, false)
  | 0x10C => (if bitOf v 0 then s.keyGo else s, true)
  | 0x620 => s.lqreq v
  | 0x858 => s.trel v
  | 0x904 => s.dioreq v
  | 0x90C => (if bitOf v 0 then s.thrst else s, true)
  | 0xB08 => (s.updHw fun h => { h with loglvl := ufield v 0 2 }, true)
  | 0xB20 => (s.trcctl v, true)
  | 0xD00 => s.imgCtl v
  | 0xD04 => (s.updHw fun h => { h with imgOff := v.toNat / 4 * 4 % 2 ^ 23 }, true)
  | 0xD08 => s.imgDat v
  | _ =>
    if inR 0x1A0 0x1BC off then (s.updHw fun h => { h with instkey := h.instkey.set 0 ((off - 0x1A0) / 4) v }, true)
    else if inR 0x640 0x67C off then (s.updLed fun l => { l with qctx := l.qctx.set 0 ((off - 0x640) / 4) (ufield v 0 20) }, true)
    else if inR 0xB40 0xB5C off then ({ s with log := { s.log with mask := s.log.mask.set 0 ((off - 0xB40) / 4) v } }, true)
    else (s, false)

/-- The firmware takes the oldest write of the queue (R426, R501). -/
def State.serve (s : State) : State :=
  match s.hw.queue with
  | [] => s
  | w :: rest =>
    let s := s.updHw fun h => { h with queue := rest }
    match w.ticket with
    | some _ => (s.passTicket w).tryBundles.failOversize
    | none =>
      let x := s.serveEmu w.off w.v
      let latest := x.1.hw.lastEmu.isSome && x.1.hw.queue.isEmpty
      let s := if latest then x.1.updHw fun h => { h with last := if x.2 then .done else .failed, lastEmu := none } else x.1
      s.tryBundles

/-- A write of a row that the table names for itself: it arrives, and where nothing waited before it the firmware serves
it in the same step (DESIGN CHOICE, log 11). -/
def State.hostCmd (s : State) (off : Nat) (v : Word) : State :=
  let t := s.arrive off v
  if s.hw.queue.isEmpty ∧ t.sys.ready then t.serve else t

/-! ### Rows of the host window -/

/-- REGISTER_WRITE (R424 to R427): a write arrives; the firmware's part is HOST_QUEUE_SERVICE. -/
def execRegisterWrite (off : Nat) (v : Word) (s : State) : Host.Outcome State Fault Refusal := done (s.arrive off v)
/-- HOST_QUEUE_SERVICE (R426). -/
def execHostQueueService (s : State) : Host.Outcome State Fault Refusal := if s.sys.ready then done s.serve else done s
/-- ATTACH (R430). -/
def execAttach (v : Word) (s : State) : Host.Outcome State Fault Refusal := done (s.hostCmd 0x08 v)
/-- DETACH (R432). -/
def execDetach (v : Word) (s : State) : Host.Outcome State Fault Refusal := done (s.hostCmd 0x0C v)
/-- HBEAT (R432). -/
def execHbeat (v : Word) (s : State) : Host.Outcome State Fault Refusal := done (s.hostCmd 0x14 v)
/-- INTCAUSE (R429). -/
def execIntcause (v : Word) (s : State) : Host.Outcome State Fault Refusal := done (s.hostCmd 0x28 v)
/-- SESSION_REQUEST (R435): SESCTL with CLOSE clear. -/
def execSessionRequest (role : BitVec 2) (s : State) : Host.Outcome State Fault Refusal := done (s.hostCmd 0x100 (role.setWidth 32))
/-- SESSION_CLOSE (R436): SESCTL with CLOSE set. -/
def execSessionClose (role : BitVec 2) (s : State) : Host.Outcome State Fault Refusal :=
  done (s.hostCmd 0x100 (role.setWidth 32 ||| 0x100))
/-- SESGO (R435). -/
def execSesgo (v : Word) (s : State) : Host.Outcome State Fault Refusal := done (s.hostCmd 0x108 v)
/-- INSTKEYGO (R437). -/
def execInstkeygo (v : Word) (s : State) : Host.Outcome State Fault Refusal := done (s.hostCmd 0x10C v)
/-- WRBND (R502): a bundle is opened. -/
def execWrbnd (num : Byte) (s : State) : Host.Outcome State Fault Refusal := done (s.hostCmd 0x5C (num.setWidth 32))
/-- BUNDLE_CLOSE (R502): WRBND with CLOSE set. -/
def execBundleClose (num : Byte) (s : State) : Host.Outcome State Fault Refusal := done (s.hostCmd 0x5C (num.setWidth 32 ||| 0x100))
/-- SNPREQ (R161, R166, R507): the host's write, or the management core's request for its own slot. -/
def execSnpreq (core : Bool) (v : Word) (s : State) : Host.Outcome State Fault Refusal :=
  if core then (if s.sys.coreRun then done (s.snapReq 4 (bitOf v 4)) else done s) else done (s.hostCmd 0xE00 v)
/-- LQREQ (R337). -/
def execLqreq (v : Word) (s : State) : Host.Outcome State Fault Refusal := done (s.hostCmd 0x620 v)
/-- DIOREQ (R373). -/
def execDioreq (v : Word) (s : State) : Host.Outcome State Fault Refusal := done (s.hostCmd 0x904 v)
/-- THRST (R392). -/
def execThrst (v : Word) (s : State) : Host.Outcome State Fault Refusal := done (s.hostCmd 0x90C v)
/-- TALSEL (R416). -/
def execTalsel (v : Word) (s : State) : Host.Outcome State Fault Refusal := done (s.hostCmd 0xA08 v)
/-- TRCCTL_CLEAR (R444). -/
def execTrcctlClear (v : Word) (s : State) : Host.Outcome State Fault Refusal := done (s.hostCmd 0xB20 (v ||| 4))
/-- LOOP_OPEN (R195, R505): LOOPMODE 0 for the loop that LOOPSEL names. -/
def execLoopOpen (s : State) : Host.Outcome State Fault Refusal := done (s.hostCmd 0xC04 0)
/-- LOOP_CLOSE (R198, R505): LOOPMODE 1. -/
def execLoopClose (s : State) : Host.Outcome State Fault Refusal := done (s.hostCmd 0xC04 1)
/-- LOOPMAN (R195, R505). -/
def execLoopman (b : Fin 4) (v : Word) (s : State) : Host.Outcome State Fault Refusal := done (s.hostCmd (0xC20 + 4 * b.val) v)
/-- COEFVAL (R197, R505). -/
def execCoefval (v : Word) (s : State) : Host.Outcome State Fault Refusal := done (s.hostCmd 0xC14 v)
/-- IMAGE_START (R506). -/
def execImageStart (target : BitVec 2) (s : State) : Host.Outcome State Fault Refusal :=
  done (s.hostCmd 0xD00 (target.setWidth 32 ||| 0x100))
/-- IMGDAT (R506). -/
def execImgdat (v : Word) (s : State) : Host.Outcome State Fault Refusal := done (s.hostCmd 0xD08 v)
/-- IMAGE_FINISH (R506). -/
def execImageFinish (s : State) : Host.Outcome State Fault Refusal := done (s.hostCmd 0xD00 0x200)
/-- IMAGE_ABORT (R506). -/
def execImageAbort (s : State) : Host.Outcome State Fault Refusal := done (s.hostCmd 0xD00 0x400)
/-- RWX (R509). -/
def execRwx (v : Word) (s : State) : Host.Outcome State Fault Refusal := done (s.hostCmd 0x10CC v)
/-- RESTART (R387, R454). -/
def execRestart (s : State) : Host.Outcome State Fault Refusal := done (s.hostCmd 0x3C 1)
/-- WARM (R459). -/
def execWarm (s : State) : Host.Outcome State Fault Refusal := done (s.hostCmd 0x3C 2)
/-- PDOWN (R459). -/
def execPdown (s : State) : Host.Outcome State Fault Refusal := done (s.hostCmd 0x3C 4)
/-- CFGSAVE (R448). -/
def execCfgsave (v : Word) (s : State) : Host.Outcome State Fault Refusal := done (s.hostCmd 0x40 v)
/-- RVREQ of the region that REGSEL names (R248). -/
def execRvreq (v : Word) (s : State) : Host.Outcome State Fault Refusal := done (s.hostCmd 0x1080 v)
/-- VIBSET (R114). -/
def execVibset (v : Word) (s : State) : Host.Outcome State Fault Refusal := done (s.hostCmd 0x300 v)
/-- QSET (R114). -/
def execQset (v : Word) (s : State) : Host.Outcome State Fault Refusal := done (s.hostCmd 0x35C v)
/-- A value of RSORD (R274). -/
def rsord (code : Nat) (slot : BitVec 2) : Word := BitVec.ofNat 32 (code + 16 * slot.toNat)
/-- RSORD with none (R267). -/
def execOrderNone (slot : BitVec 2) (s : State) : Host.Outcome State Fault Refusal := done (s.hostCmd 0x1098 (rsord 0 slot))
/-- RSORD with on. -/
def execOrderOn (slot : BitVec 2) (s : State) : Host.Outcome State Fault Refusal := done (s.hostCmd 0x1098 (rsord 1 slot))
/-- RSORD with off. -/
def execOrderOff (slot : BitVec 2) (s : State) : Host.Outcome State Fault Refusal := done (s.hostCmd 0x1098 (rsord 2 slot))
/-- RSORD with retention. -/
def execOrderRetention (slot : BitVec 2) (s : State) : Host.Outcome State Fault Refusal := done (s.hostCmd 0x1098 (rsord 3 slot))
/-- RSORD with purge. -/
def execOrderPurge (slot : BitVec 2) (s : State) : Host.Outcome State Fault Refusal := done (s.hostCmd 0x1098 (rsord 4 slot))
/-- PHCMD that takes a phase in (R130, R131). -/
def execPhcmdAdmit (n : Nat) (s : State) : Host.Outcome State Fault Refusal :=
  if n < 40 then done (s.hostCmd (0x380 + 4 * n) 1) else done s
/-- PHCMD retire (R130, R131). -/
def execPhcmdRetire (n : Nat) (s : State) : Host.Outcome State Fault Refusal :=
  if n < 40 then done (s.hostCmd (0x380 + 4 * n) 2) else done s
/-- DCAPOP (R294). -/
def execDcapop (v : Word) (s : State) : Host.Outcome State Fault Refusal := done (s.hostCmd 0x200 v)
/-- DCAPIN (R294). -/
def execDcapin (v : Word) (s : State) : Host.Outcome State Fault Refusal := done (s.hostCmd 0x204 v)
/-- DCAPMK (R294). -/
def execDcapmk (v : Word) (s : State) : Host.Outcome State Fault Refusal := done (s.hostCmd 0x208 v)
/-- LEDCTL with LEDEN set (R336). -/
def execLedenSet (s : State) : Host.Outcome State Fault Refusal := done (s.hostCmd 0x608 1)
/-- LEDCTL with LEDEN clear (R335). -/
def execLedenClear (s : State) : Host.Outcome State Fault Refusal := done (s.hostCmd 0x608 0)
/-- LEDBASE (R331, R339), one word of the pair. -/
def execLedbase (high : Bool) (v : Word) (s : State) : Host.Outcome State Fault Refusal :=
  done (s.hostCmd (if high then 0x604 else 0x600) v)
/-- TCTL with TEN as its bit 0 (R342, R343). -/
def execTen (v : Word) (s : State) : Host.Outcome State Fault Refusal := done (s.hostCmd 0x82C v)
/-- TCTL with FREEZE as its bit 1 (R344); TEN stays as committed. -/
def execFreeze (v : Word) (s : State) : Host.Outcome State Fault Refusal :=
  done (s.hostCmd 0x82C (BitVec.ofNat 32 (b2n s.com.tide.ten + 2 * (v.toNat % 2))))
/-- TREL (R358). -/
def execTrel (v : Word) (s : State) : Host.Outcome State Fault Refusal := done (s.hostCmd 0x858 v)
/-- TPEXP of the peer that TPSEL names (R357). -/
def execExpinc (v : Word) (s : State) : Host.Outcome State Fault Refusal := done (s.hostCmd 0x864 v)

/-! ### Timed events of the host side -/

/-- HEARTBEAT_TIMEOUT (R432): 2 s in RUN without a heartbeat. -/
def execHeartbeatTimeout (s : State) : Host.Outcome State Fault Refusal :=
  if s.hw.bstate = .run then done (s.reach (s.hw.hibeat + 2 * secT)).unattend else done s

/-- SESSION_VERIFIED (R435, R436): the firmware has verified the response. -/
def execSessionVerified (s : State) : Host.Outcome State Fault Refusal :=
  if s.hw.sesState ≠ 2 ∨ s.hw.role = none then done s
  else if s.sesOk then
    done (s.updHw fun h => { h with sesState := 3, sesFails := 0, role := some h.sesReq })
  else
    let f := s.hw.sesFails + 1
    done ((s.updHw fun h => { h with
      sesFails := min 255 f, sesState := if 4 ≤ f then 5 else 4, lockAt := s.now }).tallyRole (3 + s.hw.sesReq.rank))

/-- SESSION_IDLE_TIMEOUT (R436): 600 s without a host write of any kind. -/
def execSessionIdleTimeout (s : State) : Host.Outcome State Fault Refusal :=
  if s.hw.elevated then done (s.reach (s.hw.lastWrite + 600 * secT)).dropSession else done s

/-- LOCKOUT_EXPIRY (R436): 60 s after the lockout began. -/
def execLockoutExpiry (s : State) : Host.Outcome State Fault Refusal :=
  if s.hw.sesState = 5 then done ((s.reach (s.hw.lockAt + 60 * secT)).updHw fun h => { h with sesState := 0 }) else done s

/-- The store with the words received read as what they mean in the area being loaded (R493, R506). The spec gives the sections of an
image (R232) and no byte layout: what the words spell is a free value (DESIGN CHOICE, log 123). -/
def State.received (s : State) : Store :=
  if s.hw.imgTarget = 1 then s.store.layOut (2 + (1 - s.store.jigActive)) s.store.words
  else s.store.layOut (1 - s.store.fwActive) s.store.words

/-- REASON of the check of a received image (R234, R419, R506), in the order of its codes: signature, block version, length, a store
write that failed, security version; 0 where it passes. -/
def State.imgFault (s : State) (written : Bool) : Nat :=
  let t := s.received
  if s.hw.imgTarget = 1 then
    let i := t.jig (1 - t.jigActive)
    if t.trusts i.signer = false then 1 else if i.version ≠ 42 then 2 else if i.length ≠ s.hw.imgEnd then 3
    else if written then 0 else 4
  else
    let f := t.fw (1 - t.fwActive)
    if t.trusts f.signer = false then 1 else if f.length ≠ s.hw.imgEnd then 3 else if written = false then 4
    else if f.security < t.fuseSec then 5 else 0

/-- IMAGE_CHECK_COMPLETE (R234, R419, R506): the check of the received image ends; one that passes is stored as pending, its words the
area's content. `written` says that the store took the writes. -/
def execImageCheckComplete (written : Bool) (s : State) : Host.Outcome State Fault Refusal :=
  if s.hw.imgState ≠ 2 then done s
  else if s.imgFault written ≠ 0 then done (s.updHw fun h => { h with imgState := 4, imgReason := s.imgFault written })
  else
    let t := s.received
    let t := if s.hw.imgTarget = 1 then { t with jigPending := some (1 - t.jigActive) } else { t with fwPending := some (1 - t.fwActive) }
    done ({ s with store := t }.updHw fun h => { h with imgState := 3, imgReason := 0 })

/-- CFGSAVE_COMPLETE (R448): the records are written from committed values, read back and checked. -/
def execCfgsaveComplete (ok : Bool) (s : State) : Host.Outcome State Fault Refusal :=
  if s.sys.cfgSaving = false then done s
  else if ok = false then done (s.updSys fun y => { y with cfgSaving := false, cfgResult := 2 })
  else
    let inst := s.instKeys.foldl (fun (t : Tbl (Option Word)) k => t.set none k.1 (some (s.peek k.2.1 k.2.2))) ([] : Tbl (Option Word))
    let words := (s.regions.filterMap fun r => (s.rimg r).thLoop).flatMap fun l =>
      ((List.range (s.lent l).clen).map fun i => (s.lent l).cbase + i).filter fun w => s.sys.image.marks.get 2 w = 1
    let th := words.foldl (fun (t : Tbl CoefWord) w => t.set {} w (s.com.coef.get {} w)) ([] : Tbl CoefWord)
    let s := { s with store := { s.store with inst := inst, instOk := true, therm := th, thermOk := true,
                                              thermCfg := s.com.confthr + 256 * s.com.tinlet } }
    done (s.updSys fun y => { y with cfgSaving := false, cfgResult := 1 })

/-! ### The watchdog and the firmware (R419, R421 to R423) -/

/-- KICK (R421): 0x5A and then 0xA5 to the kick register. -/
def execKick (w : Word) (s : State) : Host.Outcome State Fault Refusal :=
  if s.sys.coreRun = false then done s
  else if w = 0x5A then done (s.updSys fun y => { y with kickHalf := true })
  else if w = 0xA5 ∧ s.sys.kickHalf then done (s.updSys fun y => { y with kickHalf := false, kickAt := s.now })
  else done (s.updSys fun y => { y with kickHalf := false })

/-- Every write in the host write queue completes FAILED (R422). -/
def State.failQueue (s : State) : State :=
  let q := s.hw.queue
  let s := s.updHw fun h => { h with
    queue := [], last := if h.lastEmu.isSome then .failed else h.last, lastEmu := none }
  q.foldl (fun s w => s.updRec w.ticket fun c => { c with status := .failed }) s

/-- WATCHDOG_EXPIRY (R421 to R423, R502, R506). -/
def execWatchdogExpiry (s : State) : Host.Outcome State Fault Refusal :=
  if s.sys.coreRun = false ∨ s.sys.restart then done s
  else
    let s := s.reach (s.sys.kickAt + 4 * msT)
    let s := s.failQueue
    let s := s.dropSession.endLoad.abandonBundles.tryBundles
    let at_ := (s.now :: s.sys.expAt).filter fun t => s.now ≤ t + 600 * secT
    let held := decide (4 ≤ at_.length)
    done ((s.updSys fun y => { y with
      coreRun := false, ready := false, restart := true, mcheld := y.mcheld || held, expiries := min 255 (y.expiries + 1),
      expAt := at_, kickHalf := false, coreAt := s.now }).tally 9 0 6 1)

/-- CORE_RELEASE (R422): 1 ms after the expiry, into the boot ROM's restart path. -/
def execCoreRelease (s : State) : Host.Outcome State Fault Refusal :=
  if s.sys.restart ∧ s.sys.coreRun = false ∧ s.sys.mcheld = false then
    let s := s.reach (s.sys.coreAt + msT)
    done (s.updSys fun y => { y with coreRun := true, kickAt := s.now, coreAt := s.now })
  else done s

/-- An image that signals ready becomes active, and the fuse counter rises to its security version (R419). -/
def State.fwAccept (s : State) : State :=
  let st := s.store
  let k := s.sys.fwSlot
  { s with store := { st with
      fwActive := k, fwPending := if st.fwPending = some k then none else st.fwPending,
      fuseSec := max st.fuseSec (st.fw k).security } }

/-- FIRMWARE_READY (R419, R422): after a restart the hub accepts writes again; in BOOT the image becomes active. -/
def execFirmwareReady (s : State) : Host.Outcome State Fault Refusal :=
  if s.sys.coreRun = false then done s
  else if s.sys.restart then
    done ((s.fwAccept.updSys fun y => { y with restart := false, ready := true }).cause 8)
  else if s.hw.bstate = .boot ∧ s.sys.refuse = 0 then done s.fwAccept
  else done s

/-! ### Log, trace, tally reads -/

/-- The generation that a write staged now is to be committed under (R20, R22): that of the next glue-up whose staging is open. -/
def State.genNext (s : State) : Word := if s.stg.closed then s.com.gen + 2 else s.com.gen + 1

/-- The role that a session message is about (R440): of the challenge outstanding, or the role in force above operator, or the role
last asked for. -/
def State.sesRole (s : State) : Nat :=
  match s.hw.outstanding, s.hw.role with
  | false, some .installer => 1
  | false, some .maker => 2
  | _, _ => s.hw.sesReq.rank

/-- The code and the two arguments of a message (R440); none for a code of no range: host codes begin at 0x0001. -/
def State.logMsg (s : State) : LogMsg → Option (Nat × Word × Word)
  | .host k t => if k = 0 then none else
      some (k.toNat, s.hw.attachV, BitVec.ofNat 32 (match t with | some x => x.toNat | none => s.hw.atRefuse))
  | .session k => some (0x100 + k.toNat, BitVec.ofNat 32 s.sesRole, s.hw.sesNum)
  | .budget k => some (0x200 + k.toNat, BitVec.ofNat 32 s.com.bud.cap, s.genNext)
  | .tide k p g => some (0x300 + k.toNat, BitVec.ofNat 32 (s.com.tide.peers.get {} p).die, g.setWidth 32)
  | .thermal k r v => if s.hasReg r then some (0x400 + k.toNat, BitVec.ofNat 32 r, v) else none
  | .firmware k => some (0x500 + k.toNat, BitVec.ofNat 32 (s.store.fw s.sys.fwSlot).version, s.flt.hseq)

/-- LOG_ENTRY (R439 to R441): the running firmware writes an entry of a code range, with the range's arguments; an argument that the
entry does not use is zero (DESIGN CHOICE, log 121). -/
def execLogEntry (m : LogMsg) (level : Fin 4) (narg : Fin 3) (s : State) : Host.Outcome State Fault Refusal :=
  match s.logMsg m with
  | some (code, a0, a1) =>
    if s.sys.coreRun then
      done (s.logW (BitVec.ofNat 16 code) (BitVec.ofNat 8 level.val) (BitVec.ofNat 8 narg.val)
        (if narg.val = 0 then 0 else a0) (if narg.val = 2 then a1 else 0))
    else done s
  | none => done s

/-- A trace point's number and argument (R443). -/
def State.tracePt (s : State) : TracePt → Nat × Word
  | .hostQueue k =>
    (k.val, match s.hw.queue.head? with
      | some w => BitVec.ofNat 32 (w.ticket.getD 0 % 65536 + 65536 * (w.sel % 65536))
      | none => 0)
  | .derived k => (0x20 + k.val, s.genNext)
  | .budget k r => (0x40 + k.val, BitVec.ofNat 32 (r % 1024 + 65536 * (s.com.reg r).rallow))
  | .tide k p => (0x60 + k.val, BitVec.ofNat 32 ((s.com.tide.peers.get {} p).die % 2 ^ 20))
  | .thermal k r v => (0x80 + k.val, BitVec.ofNat 32 (r % 1024 + 65536 * v.toNat))
  | .fault k n c => (0xA0 + k.val, BitVec.ofNat 32 ((s.node n).id.toNat + 65536 * c.toNat))
  | .harvest k id => (0xC0 + k.val, id)

/-- One record of the trace buffer (R442): in wrap mode the oldest of 2,048 gives way. -/
def LogTrace.record (g : LogTrace) (p : Nat) (arg : Word) : LogTrace :=
  let full := decide (2048 ≤ g.buf.length)
  let flag := full && !g.wrapped
  let r : BitVec 64 := BitVec.ofNat 64 (g.recSeq.toNat + p * 2 ^ 16 + b2n flag * 2 ^ 24 + arg.toNat * 2 ^ 32)
  { g with buf := (if full then g.buf.drop 1 else g.buf) ++ [r], recSeq := g.recSeq + 1, wrapped := g.wrapped || full }

/-- TRACE_POINT (R442, R443): the running firmware passes a point; an enabled point writes one record, and in stop mode a full
buffer takes none. -/
def execTracePoint (p : TracePt) (s : State) : Host.Outcome State Fault Refusal :=
  let x := s.tracePt p
  let g := s.log
  if s.sys.coreRun ∧ g.en ∧ (g.mask.get 0 (x.1 / 32)).getLsbD (x.1 % 32) ∧ ¬ (g.stop ∧ 2048 ≤ g.buf.length) then
    done { s with log := g.record x.1 x.2 }
  else done s

end Sys2Proof.Machine
end

