-- ==== Sys2Proof/Machine/Mcode.lean ====
section
/-! DEFINITION. The encodings of the Mulith instructions (R212, R213, R215, R216, R218, R219, R222 to R224, R226, R228):
`mcode` gives the word of an instruction and `mdecode` the instruction of a word, refusing every word that R214 makes
illegal by its bits. Both leave the lane, which no word holds, to their caller. -/

namespace Sys2Proof.Machine

/-! ### Formats (R212), fields from the most significant down -/

/-- Format R. -/
def encR (op rd ra rb rc : Nat) : Word := BitVec.ofNat 32 (op * 2 ^ 26 + rd * 2 ^ 21 + ra * 2 ^ 16 + rb * 2 ^ 11 + rc * 2 ^ 6)
/-- Format I. -/
def encI (op rd ra imm : Nat) : Word := BitVec.ofNat 32 (op * 2 ^ 26 + rd * 2 ^ 21 + ra * 2 ^ 16 + imm)
/-- Format A. -/
def encA (op acc ra rb : Nat) : Word := BitVec.ofNat 32 (op * 2 ^ 26 + acc * 2 ^ 24 + ra * 2 ^ 16 + rb * 2 ^ 11)
/-- Format C. -/
def encC (op acc r rk f x k : Nat) : Word :=
  BitVec.ofNat 32 (op * 2 ^ 26 + acc * 2 ^ 24 + r * 2 ^ 19 + rk * 2 ^ 14 + f * 2 ^ 13 + x * 2 ^ 12 + k)
/-- Format G. -/
def encG (fn acc accb r s : Nat) : Word :=
  BitVec.ofNat 32 (0x2D * 2 ^ 26 + acc * 2 ^ 24 + accb * 2 ^ 22 + r * 2 ^ 17 + s * 2 ^ 11 + fn)
/-- Format M. -/
def encM (op rd ra off : Nat) : Word := BitVec.ofNat 32 (op * 2 ^ 26 + rd * 2 ^ 21 + ra * 2 ^ 16 + off)
/-- Format S (LDI). -/
def encS_ (rd ra what imm : Nat) : Word := BitVec.ofNat 32 (0x32 * 2 ^ 26 + rd * 2 ^ 21 + ra * 2 ^ 16 + what * 2 ^ 14 + imm)
/-- Format T (LDT). -/
def encT (rd t what : Nat) : Word := BitVec.ofNat 32 (0x33 * 2 ^ 26 + rd * 2 ^ 21 + t * 2 ^ 18 + what * 2 ^ 14)
/-- Format O (LDO). -/
def encO (rd ra what b loop : Nat) : Word :=
  BitVec.ofNat 32 (0x34 * 2 ^ 26 + rd * 2 ^ 21 + ra * 2 ^ 16 + what * 2 ^ 15 + b * 2 ^ 13 + loop)
/-- Format U (OUT). -/
def encU (b ra : Nat) : Word := BitVec.ofNat 32 (0x36 * 2 ^ 26 + b * 2 ^ 24 + ra * 2 ^ 16)
/-- Format B (BR). -/
def encB (cond ra rb target : Nat) : Word :=
  BitVec.ofNat 32 (0x38 * 2 ^ 26 + cond * 2 ^ 23 + ra * 2 ^ 18 + rb * 2 ^ 13 + target)
/-- Format J. -/
def encJ (fn target : Nat) : Word := BitVec.ofNat 32 (0x39 * 2 ^ 26 + fn * 2 ^ 24 + target)
/-- Format L. -/
def encL (cnt last : Nat) : Word := BitVec.ofNat 32 (0x3A * 2 ^ 26 + cnt * 2 ^ 16 + last)
/-- Format LR. -/
def encLR (ra max last : Nat) : Word := BitVec.ofNat 32 (0x3B * 2 ^ 26 + ra * 2 ^ 21 + max * 2 ^ 13 + last)
/-- Format Y (SYS). -/
def encY (fn rd : Nat) : Word := BitVec.ofNat 32 (0x3D * 2 ^ 26 + rd * 2 ^ 21 + fn)
/-- Format Z. -/
def encZ (op : Nat) : Word := BitVec.ofNat 32 (op * 2 ^ 26)

/-- The bit of a Boolean field. -/
def bit1 (b : Bool) : Nat := if b then 1 else 0

/-- The word of a Mulith instruction; none for every other command. -/
def mcode : Instr → Option Word
  | .mAdd _ rd ra rb => some (encR 0x01 rd ra rb 0)
  | .mSub _ rd ra rb => some (encR 0x02 rd ra rb 0)
  | .mAdds _ rd ra rb => some (encR 0x03 rd ra rb 0)
  | .mSubs _ rd ra rb => some (encR 0x04 rd ra rb 0)
  | .mAnd _ rd ra rb => some (encR 0x05 rd ra rb 0)
  | .mOr _ rd ra rb => some (encR 0x06 rd ra rb 0)
  | .mXor _ rd ra rb => some (encR 0x07 rd ra rb 0)
  | .mShl _ rd ra rb => some (encR 0x08 rd ra rb 0)
  | .mShr _ rd ra rb => some (encR 0x09 rd ra rb 0)
  | .mSra _ rd ra rb => some (encR 0x0A rd ra rb 0)
  | .mMin _ rd ra rb => some (encR 0x0B rd ra rb 0)
  | .mMax _ rd ra rb => some (encR 0x0C rd ra rb 0)
  | .mSlt _ rd ra rb => some (encR 0x0D rd ra rb 0)
  | .mSltu _ rd ra rb => some (encR 0x0E rd ra rb 0)
  | .mClmp _ rd ra rb rc => some (encR 0x0F rd ra rb rc)
  | .mMul _ rd ra rb => some (encR 0x10 rd ra rb 0)
  | .mMulq _ rd ra rb sh => some (encR 0x11 rd ra rb sh)
  | .mDivq _ rd ra rb sh => some (encR 0x12 rd ra rb sh)
  | .mAbss _ rd ra => some (encR 0x13 rd ra 0 0)
  | .mNegs _ rd ra => some (encR 0x14 rd ra 0 0)
  | .mAddi _ rd ra imm => some (encI 0x18 rd ra imm.toNat)
  | .mAndi _ rd ra imm => some (encI 0x19 rd ra imm.toNat)
  | .mOri _ rd ra imm => some (encI 0x1A rd ra imm.toNat)
  | .mXori _ rd ra imm => some (encI 0x1B rd ra imm.toNat)
  | .mLui _ rd imm => some (encI 0x1C rd 0 imm.toNat)
  | .mShli _ rd ra n => some (encI 0x1D rd ra n)
  | .mShri _ rd ra n => some (encI 0x1E rd ra n)
  | .mSrai _ rd ra n => some (encI 0x1F rd ra n)
  | .mSlti _ rd ra imm => some (encI 0x20 rd ra imm.toNat)
  | .mExt _ rd ra pos len sg => some (encI 0x21 rd ra (pos + len * 2 ^ 5 + bit1 sg * 2 ^ 10))
  | .mIns _ rd ra pos len => some (encI 0x22 rd ra (pos + len * 2 ^ 5))
  | .mSati _ rd ra n => some (encI 0x23 rd ra n)
  | .mMac _ acc ra rb => some (encA 0x28 acc ra rb)
  | .mMsu _ acc ra rb => some (encA 0x29 acc ra rb)
  | .mCmac _ acc r rk x k => some (encC 0x2A acc r rk 0 (bit1 x) k.toNat)
  | .mCmsu _ acc r rk x k => some (encC 0x2B acc r rk 0 (bit1 x) k.toNat)
  | .mCld _ r rk f x k => some (encC 0x2C 0 r rk (bit1 f) (bit1 x) k.toNat)
  | .mAclr _ acc => some (encG 0 acc 0 0 0)
  | .mAld _ acc r s => some (encG 1 acc 0 r s.toNat)
  | .mAadd _ acc accb => some (encG 2 acc accb 0 0)
  | .mAsub _ acc accb => some (encG 3 acc accb 0 0)
  | .mAsra _ acc s => some (encG 4 acc 0 0 s.toNat)
  | .mAshl _ acc s => some (encG 5 acc 0 0 s.toNat)
  | .mAmov _ r acc s => some (encG 6 acc 0 r s.toNat)
  | .mAhi _ r acc => some (encG 7 acc 0 r 0)
  | .mAlo _ r acc => some (encG 8 acc 0 r 0)
  | .mAput _ acc r rb => some (encG 9 acc 0 r rb)
  | .mAneg _ acc => some (encG 10 acc 0 0 0)
  | .mLds _ rd ra off => some (encM 0x30 rd ra off.toNat)
  | .mSts _ rs ra off => some (encM 0x31 rs ra off.toNat)
  | .mLdi _ rd ra what imm => some (encS_ rd ra what imm.toNat)
  | .mLdt _ rd t what => some (encT rd t what)
  | .mLdo _ rd ra what b loop => some (encO rd ra what b loop.toNat)
  | .mLdh _ rd ra imm => some (encI 0x35 rd ra imm.toNat)
  | .mOut _ b ra => some (encU b ra)
  | .mBeq _ ra rb t => some (encB 0 ra rb t.toNat)
  | .mBne _ ra rb t => some (encB 1 ra rb t.toNat)
  | .mBlt _ ra rb t => some (encB 2 ra rb t.toNat)
  | .mBge _ ra rb t => some (encB 3 ra rb t.toNat)
  | .mBltu _ ra rb t => some (encB 4 ra rb t.toNat)
  | .mBgeu _ ra rb t => some (encB 5 ra rb t.toNat)
  | .mBbs _ ra n t => some (encB 6 ra n t.toNat)
  | .mBbc _ ra n t => some (encB 7 ra n t.toNat)
  | .mJmp _ t => some (encJ 0 t.toNat)
  | .mCall _ t => some (encJ 1 t.toNat)
  | .mRet _ => some (encJ 2 0)
  | .mLoop _ cnt last => some (encL cnt.toNat last.toNat)
  | .mLoopr _ ra max last => some (encLR ra max.toNat last.toNat)
  | .mRfl _ rd => some (encY 0 rd)
  | .mRflc _ rd => some (encY 1 rd)
  | .mLfl _ rd => some (encY 2 rd)
  | .mCyc _ rd => some (encY 3 rd)
  | .mNow _ rd => some (encY 4 rd)
  | .mSysMode _ rd => some (encY 5 rd)
  | .mNop _ => some (encZ 0x3E)
  | .mEnd _ => some (encZ 0x3F)
  | _ => none

/-! ### Decoding -/

/-- A field of a word as a number. -/
def bitsN (w : Word) (lo n : Nat) : Nat := w.toNat / 2 ^ lo % 2 ^ n
/-- A register field. -/
def regF (w : Word) (lo : Nat) : Fin 32 := ⟨w.toNat / 2 ^ lo % 32, Nat.mod_lt _ (by decide)⟩
/-- A field of four values. -/
def accF (w : Word) (lo : Nat) : Fin 4 := ⟨w.toNat / 2 ^ lo % 4, Nat.mod_lt _ (by decide)⟩
/-- A trigger field. -/
def trigF (w : Word) (lo : Nat) : Fin 8 := ⟨w.toNat / 2 ^ lo % 8, Nat.mod_lt _ (by decide)⟩
/-- A `what` field of three values. -/
def whatF (w : Word) : Option (Fin 3) :=
  match bitsN w 14 2 with
  | 0 => some 0
  | 1 => some 1
  | 2 => some 2
  | _ => none
/-- A bit field of a given width. -/
def bvF (n : Nat) (w : Word) (lo : Nat) : BitVec n := BitVec.ofNat n (w.toNat / 2 ^ lo)
/-- A one-bit field. -/
def flagF (w : Word) (lo : Nat) : Bool := decide (bitsN w lo 1 = 1)
/-- The instruction, if its fields are as the format asks. -/
def allow (c : Bool) (i : Instr) : Option Instr := if c then some i else none

/-- Format R with rc zero. -/
def decR3 (w : Word) (f : Fin 32 → Fin 32 → Fin 32 → Instr) : Option Instr :=
  allow (decide (bitsN w 0 11 = 0)) (f (regF w 21) (regF w 16) (regF w 11))
/-- Format R with all four registers. -/
def decR4 (w : Word) (f : Fin 32 → Fin 32 → Fin 32 → Fin 32 → Instr) : Option Instr :=
  allow (decide (bitsN w 0 6 = 0)) (f (regF w 21) (regF w 16) (regF w 11) (regF w 6))
/-- Format R with rb and rc zero. -/
def decR2 (w : Word) (f : Fin 32 → Fin 32 → Instr) : Option Instr :=
  allow (decide (bitsN w 0 16 = 0)) (f (regF w 21) (regF w 16))
/-- Format I with the whole immediate. -/
def decI (w : Word) (f : Fin 32 → Fin 32 → BitVec 16 → Instr) : Option Instr := some (f (regF w 21) (regF w 16) (bvF 16 w 0))
/-- Format I with a count in its low five bits, the rest zero. -/
def decN (w : Word) (f : Fin 32 → Fin 32 → Fin 32 → Instr) : Option Instr :=
  allow (decide (bitsN w 5 11 = 0)) (f (regF w 21) (regF w 16) (regF w 0))
/-- Format C with F zero. -/
def decC (w : Word) (f : Fin 4 → Fin 32 → Fin 32 → Bool → BitVec 12 → Instr) : Option Instr :=
  allow (decide (bitsN w 13 1 = 0) && (flagF w 12 || decide (bitsN w 14 5 = 0)))
    (f (accF w 24) (regF w 19) (regF w 14) (flagF w 12) (bvF 12 w 0))
/-- Format B. -/
def decB (w : Word) (f : Fin 32 → Fin 32 → BitVec 13 → Instr) : Option Instr :=
  some (f (regF w 18) (regF w 13) (bvF 13 w 0))

/-- The accumulator group (R216): fields that a function does not use are zero, and fn 11 to 15 are reserved. -/
def mdecodeG (lane : Nat) (w : Word) : Option Instr :=
  let accb0 := decide (bitsN w 22 2 = 0)
  let r0 := decide (bitsN w 17 5 = 0)
  let s0 := decide (bitsN w 11 6 = 0)
  let a := accF w 24
  if bitsN w 4 7 ≠ 0 then none
  else match bitsN w 0 4 with
    | 0 => allow (accb0 && r0 && s0) (.mAclr lane a)
    | 1 => allow (accb0 && decide (bitsN w 11 6 ≤ 32)) (.mAld lane a (regF w 17) (bvF 6 w 11))
    | 2 => allow (r0 && s0) (.mAadd lane a (accF w 22))
    | 3 => allow (r0 && s0) (.mAsub lane a (accF w 22))
    | 4 => allow (accb0 && r0) (.mAsra lane a (bvF 6 w 11))
    | 5 => allow (accb0 && r0) (.mAshl lane a (bvF 6 w 11))
    | 6 => allow accb0 (.mAmov lane (regF w 17) a (bvF 6 w 11))
    | 7 => allow (accb0 && s0) (.mAhi lane (regF w 17) a)
    | 8 => allow (accb0 && s0) (.mAlo lane (regF w 17) a)
    | 9 => allow (accb0 && decide (bitsN w 16 1 = 0)) (.mAput lane a (regF w 17) (regF w 11))
    | 10 => allow (accb0 && r0 && s0) (.mAneg lane a)
    | _ => none

/-- BR (R226): every condition code is assigned. -/
def mdecodeB (lane : Nat) (w : Word) : Option Instr :=
  match bitsN w 23 3 with
  | 0 => decB w (.mBeq lane)
  | 1 => decB w (.mBne lane)
  | 2 => decB w (.mBlt lane)
  | 3 => decB w (.mBge lane)
  | 4 => decB w (.mBltu lane)
  | 5 => decB w (.mBgeu lane)
  | 6 => decB w (.mBbs lane)
  | _ => decB w (.mBbc lane)

/-- JMP, CALL and RET (R226): fn 3 is reserved. -/
def mdecodeJ (lane : Nat) (w : Word) : Option Instr :=
  if bitsN w 13 11 ≠ 0 then none
  else match bitsN w 24 2 with
    | 0 => some (.mJmp lane (bvF 13 w 0))
    | 1 => some (.mCall lane (bvF 13 w 0))
    | 2 => allow (decide (bitsN w 0 13 = 0)) (.mRet lane)
    | _ => none

/-- SYS (R228): fn 6 to 15 are reserved. -/
def mdecodeY (lane : Nat) (w : Word) : Option Instr :=
  if bitsN w 4 17 ≠ 0 then none
  else
    let rd := regF w 21
    match bitsN w 0 4 with
    | 0 => some (.mRfl lane rd)
    | 1 => some (.mRflc lane rd)
    | 2 => some (.mLfl lane rd)
    | 3 => some (.mCyc lane rd)
    | 4 => some (.mNow lane rd)
    | 5 => some (.mSysMode lane rd)
    | _ => none

/-- Opcodes 0x01 to 0x23 (R213, R215). -/
def mdecodeLow (lane : Nat) (w : Word) : Option Instr :=
  match bitsN w 26 6 with
  | 0x01 => decR3 w (.mAdd lane)
  | 0x02 => decR3 w (.mSub lane)
  | 0x03 => decR3 w (.mAdds lane)
  | 0x04 => decR3 w (.mSubs lane)
  | 0x05 => decR3 w (.mAnd lane)
  | 0x06 => decR3 w (.mOr lane)
  | 0x07 => decR3 w (.mXor lane)
  | 0x08 => decR3 w (.mShl lane)
  | 0x09 => decR3 w (.mShr lane)
  | 0x0A => decR3 w (.mSra lane)
  | 0x0B => decR3 w (.mMin lane)
  | 0x0C => decR3 w (.mMax lane)
  | 0x0D => decR3 w (.mSlt lane)
  | 0x0E => decR3 w (.mSltu lane)
  | 0x0F => decR4 w (.mClmp lane)
  | 0x10 => decR3 w (.mMul lane)
  | 0x11 => decR4 w (.mMulq lane)
  | 0x12 => decR4 w (.mDivq lane)
  | 0x13 => decR2 w (.mAbss lane)
  | 0x14 => decR2 w (.mNegs lane)
  | 0x18 => decI w (.mAddi lane)
  | 0x19 => decI w (.mAndi lane)
  | 0x1A => decI w (.mOri lane)
  | 0x1B => decI w (.mXori lane)
  | 0x1C => allow (decide (bitsN w 16 5 = 0)) (.mLui lane (regF w 21) (bvF 16 w 0))
  | 0x1D => decN w (.mShli lane)
  | 0x1E => decN w (.mShri lane)
  | 0x1F => decN w (.mSrai lane)
  | 0x20 => decI w (.mSlti lane)
  | 0x21 => allow (decide (bitsN w 11 5 = 0) && decide (bitsN w 0 5 + bitsN w 5 5 + 1 ≤ 32))
      (.mExt lane (regF w 21) (regF w 16) (regF w 0) (regF w 5) (flagF w 10))
  | 0x22 => allow (decide (bitsN w 10 6 = 0) && decide (bitsN w 0 5 + bitsN w 5 5 + 1 ≤ 32))
      (.mIns lane (regF w 21) (regF w 16) (regF w 0) (regF w 5))
  | 0x23 => decN w (.mSati lane)
  | _ => none

/-- Opcodes 0x28 to 0x3F (R213, R216 to R228). -/
def mdecodeHigh (lane : Nat) (w : Word) : Option Instr :=
  let a0 := decide (bitsN w 21 3 = 0) && decide (bitsN w 0 11 = 0)
  match bitsN w 26 6 with
  | 0x28 => allow a0 (.mMac lane (accF w 24) (regF w 16) (regF w 11))
  | 0x29 => allow a0 (.mMsu lane (accF w 24) (regF w 16) (regF w 11))
  | 0x2A => decC w (.mCmac lane)
  | 0x2B => decC w (.mCmsu lane)
  | 0x2C => allow (decide (bitsN w 24 2 = 0) && (flagF w 12 || decide (bitsN w 14 5 = 0)))
      (.mCld lane (regF w 19) (regF w 14) (flagF w 13) (flagF w 12) (bvF 12 w 0))
  | 0x2D => mdecodeG lane w
  | 0x30 => allow (decide (bitsN w 10 6 = 0)) (.mLds lane (regF w 21) (regF w 16) (bvF 10 w 0))
  | 0x31 => allow (decide (bitsN w 10 6 = 0)) (.mSts lane (regF w 21) (regF w 16) (bvF 10 w 0))
  | 0x32 => (whatF w).map fun x => .mLdi lane (regF w 21) (regF w 16) x (bvF 14 w 0)
  | 0x33 =>
    if bitsN w 16 2 = 0 ∧ bitsN w 0 14 = 0 then (whatF w).map fun x => .mLdt lane (regF w 21) (trigF w 18) x else none
  | 0x34 => some (.mLdo lane (regF w 21) (regF w 16) ⟨bitsN w 15 1, Nat.mod_lt _ (by decide)⟩ (accF w 13) (bvF 13 w 0))
  | 0x35 => decI w (.mLdh lane)
  | 0x36 => allow (decide (bitsN w 21 3 = 0) && decide (bitsN w 0 16 = 0)) (.mOut lane (accF w 24) (regF w 16))
  | 0x38 => mdecodeB lane w
  | 0x39 => mdecodeJ lane w
  | 0x3A => allow (decide (bitsN w 13 3 = 0)) (.mLoop lane (bvF 10 w 16) (bvF 13 w 0))
  | 0x3B => some (.mLoopr lane (regF w 21) (bvF 8 w 13) (bvF 13 w 0))
  | 0x3D => mdecodeY lane w
  | 0x3E => allow (decide (bitsN w 0 26 = 0)) (.mNop lane)
  | 0x3F => allow (decide (bitsN w 0 26 = 0)) (.mEnd lane)
  | _ => none

/-- The instruction of a word for a lane; none where its bits make it illegal (R213, R214). -/
def mdecode (lane : Nat) (w : Word) : Option Instr := if bitsN w 26 6 < 0x28 then mdecodeLow lane w else mdecodeHigh lane w

end Sys2Proof.Machine
end

