-- ==== Sys2Proof/Machine/Operands.lean ====
section
/-! DEFINITION. The arithmetic of the Mulith instructions on plain values (R208 to R211, R215 to R217): helpers of R210 on
exact integers, each with the flag that it raises. -/

namespace Sys2Proof.Machine

/-- sat32 (R210): the 32-bit pattern and whether it clamped. -/
def sat32 (x : Int) : Word × Bool :=
  if 2147483647 < x then (0x7FFFFFFF, true)
  else if x < -2147483648 then (0x80000000, true)
  else (BitVec.ofInt 32 x, false)
/-- sat64 (R210): the 64-bit pattern and whether it clamped. -/
def sat64 (x : Int) : BitVec 64 × Bool :=
  if 9223372036854775807 < x then (0x7FFFFFFFFFFFFFFF, true)
  else if x < -9223372036854775808 then (0x8000000000000000, true)
  else (BitVec.ofInt 64 x, false)
/-- rnd (R210): round half up, arithmetic shift right by `n`. -/
def rnd (x : Int) (n : Nat) : Int := if n = 0 then x else (x + 2 ^ (n - 1)) / 2 ^ n
/-- cprod (R210): the coefficient product and whether it saturated. -/
def cprod (a : Word) (c : CoefWord) : BitVec 64 × Bool :=
  let p := a.toInt * c.value.toInt
  if 0 ≤ c.shift then sat64 (p * 2 ^ c.shift.toNat) else sat64 (rnd p (-c.shift).toNat)

/-- Shift amount of a register operand: its bits [4:0] (R215). -/
def shAmt (b : Word) : Nat := b.toNat % 32
/-- A Boolean result as a register. -/
def boolW (b : Bool) : Word := if b then 1 else 0
/-- Signed minimum. -/
def minS (a b : Word) : Word := if a.toInt ≤ b.toInt then a else b
/-- Signed maximum. -/
def maxS (a b : Word) : Word := if a.toInt ≤ b.toInt then b else a
/-- CLMP (R215): a ceiling below the floor acts as the floor. -/
def clmpW (a b c : Word) : Word := minS (maxS a b) (maxS c b)
/-- MUL (R215): the low 32 bits of the product. -/
def mulW (a b : Word) : Word := BitVec.ofInt 32 (a.toInt * b.toInt)
/-- MULQ (R215). -/
def mulqW (a b : Word) (sh : Nat) : Word × Bool := sat32 (rnd (a.toInt * b.toInt) sh)
/-- DIVQ (R215): quotient truncated towards zero; division by zero saturates by the dividend's sign and sets sat. -/
def divqW (a b : Word) (sh : Nat) : Word × Bool :=
  if b = 0 then
    if 0 < a.toInt then (0x7FFFFFFF, true) else if a.toInt < 0 then (0x80000000, true) else (0, true)
  else sat32 (Int.tdiv (a.toInt * 2 ^ sh) b.toInt)
/-- ABSS (R215). -/
def abssW (a : Word) : Word × Bool := sat32 (a.toInt.natAbs : Int)
/-- NEGS (R215). -/
def negsW (a : Word) : Word × Bool := sat32 (-a.toInt)
/-- The mask of a field of `len` bits at `pos` (R215). -/
def fieldMask (pos len : Nat) : Word := BitVec.ofNat 32 ((2 ^ len - 1) * 2 ^ pos)
/-- EXT (R215). -/
def extW (a : Word) (pos len : Nat) (signed : Bool) : Word :=
  let x := a.toNat / 2 ^ pos % 2 ^ len
  if signed && decide (2 ^ (len - 1) ≤ x) then BitVec.ofInt 32 ((x : Int) - 2 ^ len) else BitVec.ofNat 32 x
/-- INS (R215). -/
def insW (d a : Word) (pos len : Nat) : Word :=
  let m := fieldMask pos len
  (d &&& ~~~m) ||| ((a <<< pos) &&& m)
/-- SATI (R215): clamped to -2^n to 2^n - 1, and whether the clamp acted. -/
def satiW (a : Word) (n : Nat) : Word × Bool :=
  let hi : Int := 2 ^ n - 1
  let lo : Int := -(2 ^ n)
  if hi < a.toInt then (BitVec.ofInt 32 hi, true)
  else if a.toInt < lo then (BitVec.ofInt 32 lo, true)
  else (a, false)

/-- MAC and MSU (R216): `sub` for the difference. -/
def macW (acc : BitVec 64) (a b : Word) (sub : Bool) : BitVec 64 × Bool :=
  let p := a.toInt * b.toInt
  sat64 (if sub then acc.toInt - p else acc.toInt + p)
/-- CMAC and CMSU (R216): either saturation raises the flag. -/
def cmacW (acc : BitVec 64) (a : Word) (c : CoefWord) (sub : Bool) : BitVec 64 × Bool :=
  let p := cprod a c
  let r := sat64 (if sub then acc.toInt - p.1.toInt else acc.toInt + p.1.toInt)
  (r.1, p.2 || r.2)
/-- ALD (R216). -/
def aldW (r : Word) (s : Nat) : BitVec 64 := BitVec.ofInt 64 (r.toInt * 2 ^ s)
/-- AADD and ASUB (R216). -/
def aaddW (a b : BitVec 64) (sub : Bool) : BitVec 64 × Bool :=
  sat64 (if sub then a.toInt - b.toInt else a.toInt + b.toInt)
/-- ASRA (R216). -/
def asraW (a : BitVec 64) (s : Nat) : BitVec 64 := BitVec.ofInt 64 (rnd a.toInt s)
/-- ASHL (R216). The shifted value is exact before sat64, beyond 96 bits too: R210 has nothing wrap unless the code says so
(DEDUCED, log 119). -/
def ashlW (a : BitVec 64) (s : Nat) : BitVec 64 × Bool := sat64 (a.toInt * 2 ^ s)
/-- AMOV (R216). -/
def amovW (a : BitVec 64) (s : Nat) : Word × Bool := sat32 (rnd a.toInt s)
/-- APUT (R216). -/
def aputW (hi lo : Word) : BitVec 64 := BitVec.ofNat 64 (hi.toNat * 2 ^ 32 + lo.toNat)
/-- AHI (R216). -/
def ahiW (a : BitVec 64) : Word := BitVec.ofNat 32 (a.toNat / 2 ^ 32)
/-- ALO (R216). -/
def aloW (a : BitVec 64) : Word := BitVec.ofNat 32 a.toNat
/-- ANEG (R216). -/
def anegW (a : BitVec 64) : BitVec 64 × Bool := sat64 (-a.toInt)

end Sys2Proof.Machine
end

