-- ==== Sys2Proof/Machine/Flags.lean ====
section
/-! DEFINITION. The lane's registers, accumulators and run flags, and the loop's sticky flags (R171, R178, R179, R211). -/

namespace Sys2Proof.Machine

/-- Numbers of the sticky flags (R231 W15). -/
def fOverflow : Nat := 0
/-- Saturation. -/
def fSaturation : Nat := 1
/-- Bounds. -/
def fBounds : Nat := 2
/-- Memory. -/
def fMemory : Nat := 3
/-- Run limit. -/
def fRunLimit : Nat := 4
/-- Suspect. -/
def fSuspect : Nat := 5
/-- Deadline missed. -/
def fDeadline : Nat := 6

/-- A sticky flag of a loop is set; its rise is tallied (R178, R411 tally 0x0D). -/
def State.loopFlag (s : State) (loop k : Nat) : State :=
  if (s.ldyn loop).flags.getLsbD k then s
  else (s.updLdyn loop fun d => { d with flags := d.flags ||| ((1 : BitVec 7) <<< k) }).tally 0x0D 0 k 1

/-- The run in progress on a lane (R187). -/
def State.mrun (s : State) (lane : Nat) : Option Run := (s.lane lane).run
/-- Change the run in progress. -/
def State.updRun (s : State) (lane : Nat) (f : Run → Run) : State := s.updLane lane fun l => { l with run := l.run.map f }
/-- A general register (R171). -/
def State.mreg (s : State) (lane : Nat) (r : Nat) : Word := (s.lane lane).regs.get 0 r
/-- A general register written. -/
def State.setMreg (s : State) (lane : Nat) (r : Nat) (v : Word) : State := s.updLane lane fun l => { l with regs := l.regs.set 0 r v }
/-- An accumulator (R171). -/
def State.macc (s : State) (lane : Nat) (a : Nat) : BitVec 64 := (s.lane lane).accs.get 0 a
/-- An accumulator written. -/
def State.setMacc (s : State) (lane : Nat) (a : Nat) (v : BitVec 64) : State := s.updLane lane fun l => { l with accs := l.accs.set 0 a v }
/-- The loop whose run a lane carries. -/
def State.mloop (s : State) (lane : Nat) : Nat := ((s.mrun lane).map Run.loop).getD 0

/-- Run flag ov and the loop's overflow flag (R211). -/
def State.raiseOv (s : State) (lane : Nat) (b : Bool) : State :=
  if b then (s.updRun lane fun r => { r with ov := true }).loopFlag (s.mloop lane) fOverflow else s
/-- Run flag sat and the loop's saturation flag (R211). -/
def State.raiseSat (s : State) (lane : Nat) (b : Bool) : State :=
  if b then (s.updRun lane fun r => { r with sat := true }).loopFlag (s.mloop lane) fSaturation else s
/-- The loop's bounds flag (R176). -/
def State.raiseBounds (s : State) (lane : Nat) : State := s.loopFlag (s.mloop lane) fBounds
/-- A register takes a result that may have saturated. -/
def State.putSat (s : State) (lane : Nat) (r : Nat) (x : Word × Bool) : State := (s.setMreg lane r x.1).raiseSat lane x.2
/-- An accumulator takes a result that may have saturated. -/
def State.putOv (s : State) (lane : Nat) (a : Nat) (x : BitVec 64 × Bool) : State := (s.setMacc lane a x.1).raiseOv lane x.2

end Sys2Proof.Machine
end

