-- ==== Sys2Proof/Machine/HubView.lean ====
section
/-! DEFINITION. The hub view that LDH reads (R223): items in force at the run's dispatch cycle. -/

namespace Sys2Proof.Machine

/-- One item of a region (items 0x00 to 0x0B). -/
def hubRegItem (v : View) (item r : Nat) : Option Word :=
  let c := v.com.reg r
  let t := (v.regs.get {} r).tel
  match item with
  | 0x00 => some (BitVec.ofNat 32 c.setpt)
  | 0x01 => some (BitVec.ofNat 32 c.gb)
  | 0x02 => some (BitVec.ofNat 32 (min c.slew c.slewmax))
  | 0x03 => some (BitVec.ofNat 32 c.state.code)
  | 0x04 => some (BitVec.ofNat 32 c.rallow)
  | 0x05 => some (BitVec.ofNat 32 c.band)
  | 0x06 => some (BitVec.ofNat 32 c.phase.code)
  | 0x07 => some (BitVec.ofNat 32 c.ctx)
  | 0x08 => some (BitVec.ofNat 32 (min t.epoch.toNat 0xFFFFFFFF))
  | 0x09 => some (BitVec.ofNat 32 t.energy)
  | 0x0A => some (BitVec.ofNat 32 t.meanV)
  | 0x0B => some (BitVec.ofNat 32 (b2n t.chInc + 2 * b2n t.exInc + 4 * b2n t.vSub))
  | _ => none
/-- One index of item DIE. -/
def hubDieItem (v : View) (i : Nat) : Option Word :=
  let b := v.com.bud
  match i with
  | 0 => some (BitVec.ofNat 32 b.cap)
  | 1 => some (BitVec.ofNat 32 b.acomp)
  | 2 => some (BitVec.ofNat 32 b.amem)
  | 3 => some (BitVec.ofNat 32 b.alink)
  | 4 => some (BitVec.ofNat 32 b.hold)
  | 5 => some v.com.gen
  | 6 => some (v.epoch.setWidth 32)
  | 7 => some (BitVec.ofNat 32 v.com.conv.vibset)
  | 8 => some (BitVec.ofNat 32 b.diePhase.code)
  | _ => none
/-- One index of item PHASE. -/
def hubPhaseItem (v : View) (i : Nat) : Option Word :=
  if i < 40 then some (BitVec.ofNat 32 (v.conv.phases.get {} i).st.code)
  else if 64 ≤ i ∧ i < 104 then some (BitVec.ofInt 32 (v.conv.meanI.get 0 (i - 64)))
  else none
/-- One index of item RAIL. -/
def hubRailItem (v : View) (i : Nat) : Option Word :=
  let q (x : Rail) : RailDyn := match x with
    | .vib => v.conv.vib
    | .vqa => v.conv.vqa
    | .vqc => v.conv.vqc
  if i < 3 then some (BitVec.ofNat 32 (q (railOf i)).st.code)
  else if 16 ≤ i ∧ i < 19 then some (BitVec.ofNat 32 (v.conv.meanV.get 0 (i - 16)))
  else none
/-- The word at a hub-view address; none where the table defines no item or index there (a region of the image only). -/
def State.hubItem (s : State) (lane h : Nat) : Option Word :=
  let v := s.views.get {} lane
  let item := h / 1024
  let i := h % 1024
  if item < 0x0C then (if s.hasReg i then hubRegItem v item i else none)
  else if item = 0x10 then hubDieItem v i
  else if item = 0x11 then hubPhaseItem v i
  else if item = 0x12 then hubRailItem v i
  else none

end Sys2Proof.Machine
end

