-- ==== Sys2Proof/Machine/Lane.lean ====
section
/-! DEFINITION. A run on a lane: its end, its issue slots and stalls, its control flow (R187 to R191, R207, R214, R226,
R227, R229, R230). Every Mulith instruction goes through `mStep`. -/

namespace Sys2Proof.Machine

/-- Deadline D of a class in CKE cycles (R186). -/
def deadlineOf : Nat → Nat
  | 0 => 600
  | 1 => 1200
  | 2 => 2400
  | 3 => 2400
  | 4 => 6000
  | 5 => 60000
  | 6 => 600000
  | _ => 6000000
/-- Bin of the loop-latency tally (R411, 0x04) for a time in CKE cycles: bin k ends at 100 ns * 2^k. -/
def latencyBin (c : Nat) : Nat := ((List.range 15).find? fun k => decide (c < 120 * 2 ^ k)).getD 15
/-- Run limit of a loop in slots (R231). -/
def LoopEnt.limit (e : LoopEnt) : Nat := 16 * (e.rlim + 1)

/-- The lane gives up its run, and with it the copy of the hub's values that the run read (R187, R189). -/
def State.freeLane (s : State) (lane : Nat) (loop : Nat) : State :=
  let s := (s.updLane lane fun l => { l with run := none }).updLdyn loop fun d => { d with running := false }
  { s with views := s.views.set {} lane {} }
/-- A run has ended (R190, R191): the deadline is checked and its trigger-to-completion time tallied. -/
def State.endRun (s : State) (lane : Nat) (r : Run) : State :=
  let s := if r.deadline < s.cke then s.loopFlag r.loop fDeadline else s
  (s.tally 0x04 (s.lent r.loop).cls (latencyBin (s.cke - r.posted)) 1).freeLane lane r.loop
/-- A run is aborted at a fetch (R177): it ends, and what it has written stands. -/
def State.abortRun (s : State) (lane : Nat) (r : Run) : State := s.freeLane lane r.loop

/-! ### Producers and stalls (R230) -/

/-- What an instruction reads that a producer in the slot before it may not have ready: accumulators read by an
accumulator-group instruction, registers read by BR, LOOPR or the SLT family. -/
structure Reads where
  accs : List Nat := []
  regs : List Nat := []

/-- Stall slots before an instruction (R230). -/
def stallOf (p : Producer) (x : Reads) : Nat :=
  match p with
  | .none => 0
  | .accum a => if x.accs.contains a then 1 else 0
  | .reg r => if x.regs.contains r then 1 else 0

/-! ### Control flow (R226, R227) -/

/-- Where the run goes after an instruction. -/
inductive Flow where
  | seq | jump (target : Nat) | call (target : Nat) | ret | openBody (last count : Nat) | skip (last : Nat) | stop
  deriving DecidableEq, Repr

/-- The instruction at `pc` has completed other than by a transfer: bodies that end there repeat or close (R227 item 4). -/
def afterBody (pc : Nat) : List Body → List Body × Nat
  | [] => ([], pc + 1)
  | b :: rest =>
    if pc = b.last then
      if 1 < b.left then ({ b with left := b.left - 1 } :: rest, b.first) else afterBody pc rest
    else (b :: rest, pc + 1)
/-- A taken branch or jump closes each innermost body whose end its target passes (R227 item 5). -/
def popPast (target : Nat) : List Body → List Body
  | [] => []
  | b :: rest => if b.last < target then popPast target rest else b :: rest

/-- The run after an instruction's transfer of control. -/
def Run.go (r : Run) : Flow → Run
  | .seq => let x := afterBody r.pc r.bodies; { r with bodies := x.1, pc := x.2 }
  | .jump t => { r with bodies := popPast t r.bodies, pc := t }
  | .call t => { r with calls := (r.pc + 1) :: r.calls, pc := t }
  | .ret => { r with calls := r.calls.tail, pc := r.calls.headD 0 }
  | .openBody last n => { r with bodies := { first := r.pc + 1, last := last, left := n } :: r.bodies, pc := r.pc + 1 }
  | .skip last => { r with pc := last + 1 }
  | .stop => r

/-- A transfer within the limits of R227; one outside them is illegal (R214). -/
def Run.allows (r : Run) : Flow → Bool
  | .jump t => decide (r.pc < t)
  | .call _ => decide (r.calls.length < 4)
  | .ret => decide (r.calls ≠ [])
  | .openBody last _ => decide (r.pc < last) && decide (r.bodies.length < 2) && r.bodies.all fun b => decide (last ≤ b.last)
  | .skip last => decide (r.pc < last)
  | _ => true
/-- An instruction that transfers control, whether or not it is taken, within the limits of R227. -/
def limitsOk (r : Run) (count : Nat) : Instr → Bool
  | .mBeq _ _ _ t => r.allows (.jump t.toNat)
  | .mBne _ _ _ t => r.allows (.jump t.toNat)
  | .mBlt _ _ _ t => r.allows (.jump t.toNat)
  | .mBge _ _ _ t => r.allows (.jump t.toNat)
  | .mBltu _ _ _ t => r.allows (.jump t.toNat)
  | .mBgeu _ _ _ t => r.allows (.jump t.toNat)
  | .mBbs _ _ _ t => r.allows (.jump t.toNat)
  | .mBbc _ _ _ t => r.allows (.jump t.toNat)
  | .mJmp _ t => r.allows (.jump t.toNat)
  | .mCall _ t => r.allows (.call t.toNat)
  | .mRet _ => r.allows .ret
  | .mLoop _ _ last => r.allows (.openBody last.toNat 1)
  | .mLoopr _ _ _ last => r.allows (if count = 0 then .skip last.toNat else .openBody last.toNat count)
  | _ => true

/-- Count of a LOOPR: the register clamped to 0 to max (R226). -/
def looprCount (a : Word) (max_ : BitVec 8) : Nat := (clampI a.toInt 0 (max_.toNat + 1)).toNat

/-! ### Issue -/

/-- What an instruction issues as: slots (R229), what it reads (R230), the producer it is for the next slot, where the
run goes, and the transfer that its encoding names, taken or not. -/
structure Issue where
  cost : Nat := 1
  reads : Reads := {}
  prod : Producer := .none
  flow : Flow := .seq
  xfer : Flow := .seq

/-- A lane issues the instruction whose word is `w`, if that word stands at its run's address, its transfer is within the
limits and its slots are within the run limit (R190, R207, R214, R229, R230): the stall, the effect `f`, the next address.
A word with an uncorrected error aborts the run that fetches it (R177). -/
def State.mStep (s : State) (lane : Nat) (w : Word) (x : Issue) (f : State → State) : State :=
  match s.mrun lane with
  | none => s
  | some r =>
    if s.eng.badWords.contains r.pc then s.abortRun lane r
    else if 8192 ≤ r.pc then s
    else if s.eng.imem.get 0 r.pc ≠ w then s
    else if r.allows x.xfer = false then s
    else
      let st := stallOf r.prod x.reads
      if (s.lent r.loop).limit < r.slots + st + x.cost then s
      else
        let s := (s.reach (r.startAt + ckeT * (r.slots + st))).updRun lane fun r => { r with slots := r.slots + st }
        (f s).updRun lane fun r => ({ r with slots := r.slots + x.cost, prod := x.prod } : Run).go x.flow

/-- Slots of an instruction with its stall, from the run's registers (R229, R230). -/
def needOf (reg : Nat → Word) (p : Producer) : Instr → Nat
  | .mDivq .. => 34
  | .mLdh .. => 2
  | .mJmp .. => 2
  | .mCall .. => 2
  | .mRet .. => 2
  | .mBeq _ a b _ => stallOf p { regs := [a, b] } + (if reg a = reg b then 2 else 1)
  | .mBne _ a b _ => stallOf p { regs := [a, b] } + (if reg a ≠ reg b then 2 else 1)
  | .mBlt _ a b _ => stallOf p { regs := [a, b] } + (if (reg a).toInt < (reg b).toInt then 2 else 1)
  | .mBge _ a b _ => stallOf p { regs := [a, b] } + (if (reg b).toInt ≤ (reg a).toInt then 2 else 1)
  | .mBltu _ a b _ => stallOf p { regs := [a, b] } + (if (reg a).toNat < (reg b).toNat then 2 else 1)
  | .mBgeu _ a b _ => stallOf p { regs := [a, b] } + (if (reg b).toNat ≤ (reg a).toNat then 2 else 1)
  | .mBbs _ a n _ => stallOf p { regs := [a] } + (if (reg a).getLsbD n then 2 else 1)
  | .mBbc _ a n _ => stallOf p { regs := [a] } + (if (reg a).getLsbD n then 1 else 2)
  | .mLoopr _ a m _ => stallOf p { regs := [a] } + (if looprCount (reg a) m = 0 then 2 else 1)
  | .mSlt _ _ a b => stallOf p { regs := [a, b] } + 1
  | .mSltu _ _ a b => stallOf p { regs := [a, b] } + 1
  | .mSlti _ _ a _ => stallOf p { regs := [a] } + 1
  | .mAadd _ a b => stallOf p { accs := [a, b] } + 1
  | .mAsub _ a b => stallOf p { accs := [a, b] } + 1
  | .mAsra _ a _ => stallOf p { accs := [a] } + 1
  | .mAshl _ a _ => stallOf p { accs := [a] } + 1
  | .mAmov _ _ a _ => stallOf p { accs := [a] } + 1
  | .mAhi _ _ a => stallOf p { accs := [a] } + 1
  | .mAlo _ _ a => stallOf p { accs := [a] } + 1
  | .mAneg _ a => stallOf p { accs := [a] } + 1
  | _ => 1

/-- The instruction at a run's address, legal by its bits and by R227; none where it is illegal (R214). -/
def State.legalAt (s : State) (lane : Nat) (r : Run) : Option Instr :=
  if 8192 ≤ r.pc then none
  else match mdecode lane (s.eng.imem.get 0 r.pc) with
    | none => none
    | some i =>
      let n := match i with
        | .mLoopr _ a m _ => looprCount (s.mreg lane a) m
        | _ => 1
      if limitsOk r n i then some i else none

end Sys2Proof.Machine
end

