-- ==== Sys2Proof/Machine/Out.lean ====
section
/-! DEFINITION. Where loop outputs go (R17, R192 to R196, R224, R225, R252, R253, R369). -/

namespace Sys2Proof.Machine

/-- A loop-output WRITE on one hub port: a newer one replaces one of the same node and SEL that waits there (R193). -/
def State.writePort (s : State) (p : Packet) (k : Nat) : State := s.sendPort 0 k p
/-- A loop-output WRITE leaves the hub (R50, R54, R192, R193): a broadcast on every port, and to each adopted subtree. -/
def State.loopWrite (s : State) (h : Hdr) (sel : Nat) (v : Word) : State :=
  let p := writePkt h sel v
  if h.bc ∧ h.dst = 0xFFFF then
    let s := (s.openPorts 0).foldl (fun s k => s.writePort p k) s
    s.flt.adopted.foldl (fun s c =>
      match s.portFor 0 (s.node c).id with
      | some k => s.writePort { p with node := (s.node c).id } k
      | none => s) s
  else match s.portFor 0 h.dst with
    | some k => s.writePort p k
    | none => s

/-- The region of the node that a loop output addresses (R38, R252): its own, or, for a pond above or beside a region's pond, the
one region that all pans below it belong to; none where they belong to several. -/
def State.nodeRegion (s : State) (n : Nat) : Option Nat :=
  match s.regionOf n with
  | some r => some r
  | none =>
    match (((s.subtree n).filter fun c => (s.node c).kind.isPan).filterMap s.regionOf).eraseDups with
    | [r] => some r
    | _ => none

/-- The value bits of a node's loop output after the hub's clamp (R252), with whether the clamp acted. DEDUCED (log 25): a
destination of no one region takes its OFFSET unclamped, and a SHARE broadcast to every node addresses no node whose DESC rating
could bound it and goes out unclamped. -/
def State.clampNode (s : State) (n : Option Nat) (sel : Nat) (v : Word) : Word × Bool :=
  let reg := n.bind s.nodeRegion
  if sel = 0x03 then
    match reg with
    | some r =>
      let x := sfield v 0 8
      let y := clampI x (s.com.reg r).offlo (s.com.reg r).offhi
      if y = x then (v, false) else (BitVec.ofNat 32 (encS 8 y), true)
    | none => (v, false)
  else if sel = 0x05 then
    match n with
    | some k =>
      let x := ufield v 0 20
      let y := min x (125 * (s.node k).rating)
      if y = x then (v, false) else (BitVec.ofNat 32 y, true)
    | none => (v, false)
  else (v, false)

/-- What the hub shows of a region's bindings (R253). -/
def State.noteClamped (s : State) (r key : Nat) (b : Bool) : State :=
  s.updReg r fun x => { x with clamped := x.clamped.set false key b }

/-- A loop output to a node (R192, R252, R253): dropped where the node's region is committed other than on. -/
def State.outNode (s : State) (key : Nat) (dest : Nat) (v : Word) : State :=
  let id : NodeId := BitVec.ofNat 16 dest
  let h : Hdr := { bc := decide (dest / 2 ^ 24 % 2 = 1), dst := id }
  let sel := dest / 2 ^ 16 % 256
  let n := s.nodeById id
  let c := s.clampNode n sel v
  match n.bind s.nodeRegion with
  | some r =>
    if (s.com.reg r).state = .on then (s.noteClamped r key c.2).loopWrite h sel c.1 else s.noteClamped r key true
  | none => s.loopWrite h sel c.1
/-- A loop output to the converter control, by its code (R225). -/
def State.outConv (s : State) (code : Nat) (v : Word) : State :=
  if code = 0 then s.takeViboff v
  else if code = 1 then s.takeQoff v
  else if code = 2 then s.takeNtarget v
  else if code = 3 then s.takeCancel v
  else if 8 ≤ code ∧ code < 48 then s.takeTrim (code - 8) v
  else s
/-- A loop output to the KRF port (R225, R252, R253). -/
def State.outKrf (s : State) (key dest : Nat) (v : Word) : State :=
  let r := dest % 1024
  if dest / 2 ^ 12 % 2 = 0 then
    (s.noteClamped r key (decide (v.toInt < 0) || decide (60 < v.toInt))).takeKerf r v
  else
    (s.noteClamped r key (decide (v.toInt < 0) || decide (15 < v.toInt) || (!s.com.shim.en && decide (v ≠ 0)))).takeShim r v

/-- A value goes to a binding's destination (R192, R225); `first` is the instant of the run's earliest trigger. -/
def State.outSend (s : State) (key : Nat) (bind : Word) (v : Word) (first : Nat) : State :=
  let dest := bind.toNat % 2 ^ 28
  match bind.toNat / 2 ^ 28 with
  | 1 => s.outNode key dest v
  | 2 => s.outConv (dest % 64) v
  | 3 => s.outKrf key dest v
  | 4 => s.slotSet (dest % 2 ^ 14) v first
  | 5 => if s.hasReg (dest % 1024) then guardInput s (dest % 1024) v else s
  | 6 => s.updEng fun e => { e with mbox := e.mbox.set 0 (dest % 4096) v, mboxW := e.mboxW.set 0 (dest % 4096) (s.now + 1) }
  | _ => s

/-- OUT (R194, R195, R224): a scribe run writes nothing; an unbound binding sets the bounds flag; the computed value and
its age are recorded and the value, or in an open loop the manual value, is sent. The hub guard always gets the computed
value (R369). -/
def State.outOf (s : State) (lane : Nat) (r : Run) (b : Nat) (v : Word) : State :=
  if r.scribe then s
  else
    let bind := (s.lent r.loop).binds.get 0 b
    let key := 4 * r.loop + b
    if bind.toNat / 2 ^ 28 = 0 then s.raiseBounds lane
    else
      let age := min ((s.cke + 2 ^ 32 - r.first % 2 ^ 32) % 2 ^ 32) 65535
      let man := (((s.views.get {} lane).com.loop r.loop).man).get 0 b
      let sent := if r.closed || decide (bind.toNat / 2 ^ 28 = 5) then v else man
      let s := s.updEng fun e => { e with
        outs := e.outs.set {} key { value := v, age := age, sent := r.closed, lastSent := sent } }
      s.outSend key bind sent r.first

end Sys2Proof.Machine
end

