-- ==== Sys2Proof/Machine/Mulith.lean ====
section
/-! DEFINITION. The Mulith instructions (R215 to R229): each issues through `mStep` with its own word and effect. A command
acts only where the lane's run has that word at its address (log 6). -/

namespace Sys2Proof.Machine

/-- The instruction issues, and the state settles. -/
def mDo (s : State) (lane : Nat) (w : Word) (x : Issue) (f : State → State) : Host.Outcome State Fault Refusal :=
  done (s.mStep lane w x f)

/-! ### Register arithmetic (R215) -/

/-- ADD (R215). -/
def execMAdd (lane : Nat) (rd ra rb : Fin 32) (s : State) : Host.Outcome State Fault Refusal :=
  mDo s lane (encR 0x01 rd ra rb 0) {} fun s => s.setMreg lane rd ((s.mreg lane ra) + (s.mreg lane rb))

/-- SUB (R215). -/
def execMSub (lane : Nat) (rd ra rb : Fin 32) (s : State) : Host.Outcome State Fault Refusal :=
  mDo s lane (encR 0x02 rd ra rb 0) {} fun s => s.setMreg lane rd ((s.mreg lane ra) - (s.mreg lane rb))

/-- ADDS (R215). -/
def execMAdds (lane : Nat) (rd ra rb : Fin 32) (s : State) : Host.Outcome State Fault Refusal :=
  mDo s lane (encR 0x03 rd ra rb 0) {} fun s => s.putSat lane rd (sat32 ((s.mreg lane ra).toInt + (s.mreg lane rb).toInt))

/-- SUBS (R215). -/
def execMSubs (lane : Nat) (rd ra rb : Fin 32) (s : State) : Host.Outcome State Fault Refusal :=
  mDo s lane (encR 0x04 rd ra rb 0) {} fun s => s.putSat lane rd (sat32 ((s.mreg lane ra).toInt - (s.mreg lane rb).toInt))

/-- AND (R215). -/
def execMAnd (lane : Nat) (rd ra rb : Fin 32) (s : State) : Host.Outcome State Fault Refusal :=
  mDo s lane (encR 0x05 rd ra rb 0) {} fun s => s.setMreg lane rd ((s.mreg lane ra) &&& (s.mreg lane rb))

/-- OR (R215). -/
def execMOr (lane : Nat) (rd ra rb : Fin 32) (s : State) : Host.Outcome State Fault Refusal :=
  mDo s lane (encR 0x06 rd ra rb 0) {} fun s => s.setMreg lane rd ((s.mreg lane ra) ||| (s.mreg lane rb))

/-- XOR (R215). -/
def execMXor (lane : Nat) (rd ra rb : Fin 32) (s : State) : Host.Outcome State Fault Refusal :=
  mDo s lane (encR 0x07 rd ra rb 0) {} fun s => s.setMreg lane rd ((s.mreg lane ra) ^^^ (s.mreg lane rb))

/-- SHL (R215). -/
def execMShl (lane : Nat) (rd ra rb : Fin 32) (s : State) : Host.Outcome State Fault Refusal :=
  mDo s lane (encR 0x08 rd ra rb 0) {} fun s => s.setMreg lane rd ((s.mreg lane ra) <<< shAmt (s.mreg lane rb))

/-- SHR (R215). -/
def execMShr (lane : Nat) (rd ra rb : Fin 32) (s : State) : Host.Outcome State Fault Refusal :=
  mDo s lane (encR 0x09 rd ra rb 0) {} fun s => s.setMreg lane rd ((s.mreg lane ra) >>> shAmt (s.mreg lane rb))

/-- SRA (R215). -/
def execMSra (lane : Nat) (rd ra rb : Fin 32) (s : State) : Host.Outcome State Fault Refusal :=
  mDo s lane (encR 0x0A rd ra rb 0) {} fun s => s.setMreg lane rd ((s.mreg lane ra).sshiftRight (shAmt (s.mreg lane rb)))

/-- MIN (R215). -/
def execMMin (lane : Nat) (rd ra rb : Fin 32) (s : State) : Host.Outcome State Fault Refusal :=
  mDo s lane (encR 0x0B rd ra rb 0) {} fun s => s.setMreg lane rd (minS (s.mreg lane ra) (s.mreg lane rb))

/-- MAX (R215). -/
def execMMax (lane : Nat) (rd ra rb : Fin 32) (s : State) : Host.Outcome State Fault Refusal :=
  mDo s lane (encR 0x0C rd ra rb 0) {} fun s => s.setMreg lane rd (maxS (s.mreg lane ra) (s.mreg lane rb))

/-- SLT (R215). -/
def execMSlt (lane : Nat) (rd ra rb : Fin 32) (s : State) : Host.Outcome State Fault Refusal :=
  mDo s lane (encR 0x0D rd ra rb 0) { reads := { regs := [ra.val, rb.val] } } fun s => s.setMreg lane rd (boolW (decide ((s.mreg lane ra).toInt < (s.mreg lane rb).toInt)))

/-- SLTU (R215). -/
def execMSltu (lane : Nat) (rd ra rb : Fin 32) (s : State) : Host.Outcome State Fault Refusal :=
  mDo s lane (encR 0x0E rd ra rb 0) { reads := { regs := [ra.val, rb.val] } } fun s => s.setMreg lane rd (boolW (decide ((s.mreg lane ra).toNat < (s.mreg lane rb).toNat)))

/-- CLMP (R215). -/
def execMClmp (lane : Nat) (rd ra rb rc : Fin 32) (s : State) : Host.Outcome State Fault Refusal :=
  mDo s lane (encR 0x0F rd ra rb rc) {} fun s => s.setMreg lane rd (clmpW (s.mreg lane ra) (s.mreg lane rb) (s.mreg lane rc))

/-- MUL (R215). -/
def execMMul (lane : Nat) (rd ra rb : Fin 32) (s : State) : Host.Outcome State Fault Refusal :=
  mDo s lane (encR 0x10 rd ra rb 0) { prod := .reg rd.val } fun s => s.setMreg lane rd (mulW (s.mreg lane ra) (s.mreg lane rb))

/-- MULQ (R215). -/
def execMMulq (lane : Nat) (rd ra rb sh : Fin 32) (s : State) : Host.Outcome State Fault Refusal :=
  mDo s lane (encR 0x11 rd ra rb sh) { prod := .reg rd.val } fun s => s.putSat lane rd (mulqW (s.mreg lane ra) (s.mreg lane rb) sh)

/-- DIVQ (R215, R229: 34 slots). -/
def execMDivq (lane : Nat) (rd ra rb sh : Fin 32) (s : State) : Host.Outcome State Fault Refusal :=
  mDo s lane (encR 0x12 rd ra rb sh) { cost := 34 } fun s => s.putSat lane rd (divqW (s.mreg lane ra) (s.mreg lane rb) sh)

/-- ABSS (R215). -/
def execMAbss (lane : Nat) (rd ra : Fin 32) (s : State) : Host.Outcome State Fault Refusal :=
  mDo s lane (encR 0x13 rd ra 0 0) {} fun s => s.putSat lane rd (abssW (s.mreg lane ra))

/-- NEGS (R215). -/
def execMNegs (lane : Nat) (rd ra : Fin 32) (s : State) : Host.Outcome State Fault Refusal :=
  mDo s lane (encR 0x14 rd ra 0 0) {} fun s => s.putSat lane rd (negsW (s.mreg lane ra))

/-- ADDI (R215). -/
def execMAddi (lane : Nat) (rd ra : Fin 32) (imm : BitVec 16) (s : State) : Host.Outcome State Fault Refusal :=
  mDo s lane (encI 0x18 rd ra imm.toNat) {} fun s => s.setMreg lane rd ((s.mreg lane ra) + imm.signExtend 32)

/-- ANDI (R215). -/
def execMAndi (lane : Nat) (rd ra : Fin 32) (imm : BitVec 16) (s : State) : Host.Outcome State Fault Refusal :=
  mDo s lane (encI 0x19 rd ra imm.toNat) {} fun s => s.setMreg lane rd ((s.mreg lane ra) &&& imm.setWidth 32)

/-- ORI (R215). -/
def execMOri (lane : Nat) (rd ra : Fin 32) (imm : BitVec 16) (s : State) : Host.Outcome State Fault Refusal :=
  mDo s lane (encI 0x1A rd ra imm.toNat) {} fun s => s.setMreg lane rd ((s.mreg lane ra) ||| imm.setWidth 32)

/-- XORI (R215). -/
def execMXori (lane : Nat) (rd ra : Fin 32) (imm : BitVec 16) (s : State) : Host.Outcome State Fault Refusal :=
  mDo s lane (encI 0x1B rd ra imm.toNat) {} fun s => s.setMreg lane rd ((s.mreg lane ra) ^^^ imm.setWidth 32)

/-- LUI (R215). -/
def execMLui (lane : Nat) (rd : Fin 32) (imm : BitVec 16) (s : State) : Host.Outcome State Fault Refusal :=
  mDo s lane (encI 0x1C rd 0 imm.toNat) {} fun s => s.setMreg lane rd (imm.setWidth 32 <<< 16)

/-- SHLI (R215). -/
def execMShli (lane : Nat) (rd ra n : Fin 32) (s : State) : Host.Outcome State Fault Refusal :=
  mDo s lane (encI 0x1D rd ra n) {} fun s => s.setMreg lane rd ((s.mreg lane ra) <<< n.val)

/-- SHRI (R215). -/
def execMShri (lane : Nat) (rd ra n : Fin 32) (s : State) : Host.Outcome State Fault Refusal :=
  mDo s lane (encI 0x1E rd ra n) {} fun s => s.setMreg lane rd ((s.mreg lane ra) >>> n.val)

/-- SRAI (R215). -/
def execMSrai (lane : Nat) (rd ra n : Fin 32) (s : State) : Host.Outcome State Fault Refusal :=
  mDo s lane (encI 0x1F rd ra n) {} fun s => s.setMreg lane rd ((s.mreg lane ra).sshiftRight n.val)

/-- SLTI (R215). -/
def execMSlti (lane : Nat) (rd ra : Fin 32) (imm : BitVec 16) (s : State) : Host.Outcome State Fault Refusal :=
  mDo s lane (encI 0x20 rd ra imm.toNat) { reads := { regs := [ra.val] } } fun s => s.setMreg lane rd (boolW (decide ((s.mreg lane ra).toInt < imm.toInt)))

/-- EXT (R215). A field that passes bit 31 is illegal (R214). -/
def execMExt (lane : Nat) (rd ra pos lenm1 : Fin 32) (signed : Bool) (s : State) : Host.Outcome State Fault Refusal :=
  if 32 < pos.val + lenm1.val + 1 then done s
  else mDo s lane (encI 0x21 rd ra (pos + lenm1 * 2 ^ 5 + bit1 signed * 2 ^ 10)) {} fun s =>
    s.setMreg lane rd (extW (s.mreg lane ra) pos (lenm1.val + 1) signed)

/-- INS (R215). -/
def execMIns (lane : Nat) (rd ra pos lenm1 : Fin 32) (s : State) : Host.Outcome State Fault Refusal :=
  if 32 < pos.val + lenm1.val + 1 then done s
  else mDo s lane (encI 0x22 rd ra (pos + lenm1 * 2 ^ 5)) {} fun s =>
    s.setMreg lane rd (insW (s.mreg lane rd) (s.mreg lane ra) pos (lenm1.val + 1))

/-- SATI (R215). -/
def execMSati (lane : Nat) (rd ra n : Fin 32) (s : State) : Host.Outcome State Fault Refusal :=
  mDo s lane (encI 0x23 rd ra n) {} fun s => s.putSat lane rd (satiW (s.mreg lane ra) n)

/-! ### Accumulators and coefficients (R216, R217) -/

/-- MAC (R216). -/
def execMMac (lane : Nat) (acc : Fin 4) (ra rb : Fin 32) (s : State) : Host.Outcome State Fault Refusal :=
  mDo s lane (encA 0x28 acc ra rb) { prod := .accum acc.val } fun s =>
    s.putOv lane acc (macW (s.macc lane acc) (s.mreg lane ra) (s.mreg lane rb) false)

/-- MSU (R216). -/
def execMMsu (lane : Nat) (acc : Fin 4) (ra rb : Fin 32) (s : State) : Host.Outcome State Fault Refusal :=
  mDo s lane (encA 0x29 acc ra rb) { prod := .accum acc.val } fun s =>
    s.putOv lane acc (macW (s.macc lane acc) (s.mreg lane ra) (s.mreg lane rb) true)

/-- The coefficient that an instruction names: index k, plus a register with X set; none outside the loop's range (R217). -/
def State.coefAt (s : State) (lane : Nat) (rk : Fin 32) (x : Bool) (k : BitVec 12) : Option CoefWord :=
  let e := s.lent (s.mloop lane)
  let i := k.toNat + (if x then (s.mreg lane rk).toNat else 0)
  if i < e.clen then some ((s.views.get {} lane).com.coef.get {} (e.cbase + i)) else none

/-- CMAC and CMSU: outside the range the accumulator stands and the bounds flag is set (R216, R217). -/
def State.cmac (s : State) (lane : Nat) (acc : Fin 4) (r : Fin 32) (c : Option CoefWord) (sub : Bool) : State :=
  match c with
  | some c => s.putOv lane acc (cmacW (s.macc lane acc) (s.mreg lane r) c sub)
  | none => s.raiseBounds lane

/-- CMAC (R216, R217). rk must be zero with X clear (R214). -/
def execMCmac (lane : Nat) (acc : Fin 4) (r rk : Fin 32) (x : Bool) (k : BitVec 12) (s : State) :
    Host.Outcome State Fault Refusal :=
  if x = false ∧ rk ≠ 0 then done s
  else mDo s lane (encC 0x2A acc r rk 0 (bit1 x) k.toNat) { prod := .accum acc.val } fun s =>
    s.cmac lane acc r (s.coefAt lane rk x k) false

/-- CMSU (R216, R217). rk must be zero with X clear (R214). -/
def execMCmsu (lane : Nat) (acc : Fin 4) (r rk : Fin 32) (x : Bool) (k : BitVec 12) (s : State) :
    Host.Outcome State Fault Refusal :=
  if x = false ∧ rk ≠ 0 then done s
  else mDo s lane (encC 0x2B acc r rk 0 (bit1 x) k.toNat) { prod := .accum acc.val } fun s =>
    s.cmac lane acc r (s.coefAt lane rk x k) true

/-- CLD (R216, R217): the value, or with F set the shift, of a coefficient; zero outside the range. -/
def execMCld (lane : Nat) (r rk : Fin 32) (f x : Bool) (k : BitVec 12) (s : State) : Host.Outcome State Fault Refusal :=
  if x = false ∧ rk ≠ 0 then done s
  else mDo s lane (encC 0x2C 0 r rk (bit1 f) (bit1 x) k.toNat) {} fun s =>
    match s.coefAt lane rk x k with
    | some c => s.setMreg lane r (if f then BitVec.ofInt 32 c.shift else c.value)
    | none => (s.setMreg lane r 0).raiseBounds lane

/-- ACLR (R216). -/
def execMAclr (lane : Nat) (acc : Fin 4) (s : State) : Host.Outcome State Fault Refusal :=
  mDo s lane (encG 0 acc 0 0 0) {} fun s => s.setMacc lane acc 0

/-- ALD (R216): a shift above 32 is illegal (R214). -/
def execMAld (lane : Nat) (acc : Fin 4) (r : Fin 32) (sh : BitVec 6) (s : State) : Host.Outcome State Fault Refusal :=
  if 32 < sh.toNat then done s
  else mDo s lane (encG 1 acc 0 r sh.toNat) {} fun s => s.setMacc lane acc (aldW (s.mreg lane r) sh.toNat)

/-- AADD (R216). -/
def execMAadd (lane : Nat) (acc accb : Fin 4) (s : State) : Host.Outcome State Fault Refusal :=
  mDo s lane (encG 2 acc accb 0 0) { reads := { accs := [acc.val, accb.val] } } fun s =>
    s.putOv lane acc (aaddW (s.macc lane acc) (s.macc lane accb) false)

/-- ASUB (R216). -/
def execMAsub (lane : Nat) (acc accb : Fin 4) (s : State) : Host.Outcome State Fault Refusal :=
  mDo s lane (encG 3 acc accb 0 0) { reads := { accs := [acc.val, accb.val] } } fun s =>
    s.putOv lane acc (aaddW (s.macc lane acc) (s.macc lane accb) true)

/-- ASRA (R216). -/
def execMAsra (lane : Nat) (acc : Fin 4) (sh : BitVec 6) (s : State) : Host.Outcome State Fault Refusal :=
  mDo s lane (encG 4 acc 0 0 sh.toNat) { reads := { accs := [acc.val] } } fun s =>
    s.setMacc lane acc (asraW (s.macc lane acc) sh.toNat)

/-- ASHL (R216). -/
def execMAshl (lane : Nat) (acc : Fin 4) (sh : BitVec 6) (s : State) : Host.Outcome State Fault Refusal :=
  mDo s lane (encG 5 acc 0 0 sh.toNat) { reads := { accs := [acc.val] } } fun s =>
    s.putOv lane acc (ashlW (s.macc lane acc) sh.toNat)

/-- AMOV (R216). -/
def execMAmov (lane : Nat) (r : Fin 32) (acc : Fin 4) (sh : BitVec 6) (s : State) : Host.Outcome State Fault Refusal :=
  mDo s lane (encG 6 acc 0 r sh.toNat) { reads := { accs := [acc.val] } } fun s =>
    s.putSat lane r (amovW (s.macc lane acc) sh.toNat)

/-- AHI (R216). -/
def execMAhi (lane : Nat) (r : Fin 32) (acc : Fin 4) (s : State) : Host.Outcome State Fault Refusal :=
  mDo s lane (encG 7 acc 0 r 0) { reads := { accs := [acc.val] } } fun s => s.setMreg lane r (ahiW (s.macc lane acc))

/-- ALO (R216). -/
def execMAlo (lane : Nat) (r : Fin 32) (acc : Fin 4) (s : State) : Host.Outcome State Fault Refusal :=
  mDo s lane (encG 8 acc 0 r 0) { reads := { accs := [acc.val] } } fun s => s.setMreg lane r (aloW (s.macc lane acc))

/-- APUT (R216). -/
def execMAput (lane : Nat) (acc : Fin 4) (r rb : Fin 32) (s : State) : Host.Outcome State Fault Refusal :=
  mDo s lane (encG 9 acc 0 r rb) {} fun s => s.setMacc lane acc (aputW (s.mreg lane r) (s.mreg lane rb))

/-- ANEG (R216). -/
def execMAneg (lane : Nat) (acc : Fin 4) (s : State) : Host.Outcome State Fault Refusal :=
  mDo s lane (encG 10 acc 0 0 0) { reads := { accs := [acc.val] } } fun s => s.putOv lane acc (anegW (s.macc lane acc))

/-! ### State block, inputs, outputs and the hub view (R218 to R223) -/

/-- Index into the loop's state block (R218). -/
def State.stateIdx (s : State) (lane : Nat) (ra : Fin 32) (off : BitVec 10) : Nat := (s.mreg lane ra).toNat + off.toNat

/-- LDS (R218). -/
def execMLds (lane : Nat) (rd ra : Fin 32) (off : BitVec 10) (s : State) : Host.Outcome State Fault Refusal :=
  mDo s lane (encM 0x30 rd ra off.toNat) {} fun s =>
    let e := s.lent (s.mloop lane)
    let j := s.stateIdx lane ra off
    if j < e.slen then s.setMreg lane rd (s.eng.state.get 0 (e.sbase + j)) else (s.setMreg lane rd 0).raiseBounds lane

/-- STS (R218): outside the block nothing is stored. -/
def execMSts (lane : Nat) (rs ra : Fin 32) (off : BitVec 10) (s : State) : Host.Outcome State Fault Refusal :=
  mDo s lane (encM 0x31 rs ra off.toNat) {} fun s =>
    let e := s.lent (s.mloop lane)
    let j := s.stateIdx lane ra off
    if j < e.slen then s.updEng fun g => { g with state := g.state.set 0 (e.sbase + j) (s.mreg lane rs) }
    else s.raiseBounds lane

/-- A quantity of an input slot (R219): value, age, instant. -/
def State.slotRead (s : State) (slot : Nat) (what : Fin 3) : Word :=
  let x := s.eng.input.get {} slot
  if what = 0 then x.value
  else if what = 1 then
    (if x.stale then 65535 else BitVec.ofNat 32 (min ((s.cke + 2 ^ 32 - x.instant.toNat) % 2 ^ 32) 65535))
  else x.instant

/-- LDI (R219). -/
def execMLdi (lane : Nat) (rd ra : Fin 32) (what : Fin 3) (imm : BitVec 14) (s : State) : Host.Outcome State Fault Refusal :=
  mDo s lane (encS_ rd ra what imm.toNat) {} fun s =>
    s.setMreg lane rd (s.slotRead (((s.mreg lane ra).toNat + imm.toNat) % 16384) what)

/-- LDT (R219). -/
def execMLdt (lane : Nat) (rd : Fin 32) (t : Fin 8) (what : Fin 3) (s : State) : Host.Outcome State Fault Refusal :=
  mDo s lane (encT rd t what) {} fun s =>
    let e := s.lent (s.mloop lane)
    if e.tvalid.getLsbD t then s.setMreg lane rd (s.slotRead (e.trigs.get 0 t) what)
    else (s.setMreg lane rd 0).raiseBounds lane

/-- LDO (R222). -/
def execMLdo (lane : Nat) (rd ra : Fin 32) (what : Fin 2) (b : Fin 4) (loop : BitVec 13) (s : State) :
    Host.Outcome State Fault Refusal :=
  mDo s lane (encO rd ra what b loop.toNat) {} fun s =>
    let l := ((s.mreg lane ra).toNat + loop.toNat) % 8192
    let e := s.lent l
    if e.used && decide ((e.binds.get 0 b).toNat / 2 ^ 28 ≠ 0) then
      let o := s.eng.outs.get {} (4 * l + b)
      s.setMreg lane rd (if what = 0 then o.value else BitVec.ofNat 32 o.age)
    else (s.setMreg lane rd 0).raiseBounds lane

/-- LDH (R223, R229: 2 slots). -/
def execMLdh (lane : Nat) (rd ra : Fin 32) (imm : BitVec 16) (s : State) : Host.Outcome State Fault Refusal :=
  mDo s lane (encI 0x35 rd ra imm.toNat) { cost := 2 } fun s =>
    match s.hubItem lane (((s.mreg lane ra).toNat + imm.toNat) % 65536) with
    | some v => s.setMreg lane rd v
    | none => (s.setMreg lane rd 0).raiseBounds lane

/-- OUT (R192 to R195, R224, R225). -/
def execMOut (lane : Nat) (b : Fin 4) (ra : Fin 32) (s : State) : Host.Outcome State Fault Refusal :=
  mDo s lane (encU b ra) {} fun s =>
    match s.mrun lane with
    | some r => s.outOf lane r b (s.mreg lane ra)
    | none => s

/-! ### Control flow (R226, R227, R229) -/

/-- How a branch issues: two slots and the transfer when taken, one slot when not; its target is checked either way. -/
def brIssue (regs : List Nat) (taken : Bool) (target : BitVec 13) : Issue :=
  { cost := if taken then 2 else 1, reads := { regs := regs }, flow := if taken then .jump target.toNat else .seq,
    xfer := .jump target.toNat }

/-- BEQ (R226). -/
def execMBeq (lane : Nat) (ra rb : Fin 32) (target : BitVec 13) (s : State) : Host.Outcome State Fault Refusal :=
  mDo s lane (encB 0 ra rb target.toNat)
    (brIssue [ra.val, rb.val] (decide ((s.mreg lane ra) = (s.mreg lane rb))) target) fun s => s

/-- BNE (R226). -/
def execMBne (lane : Nat) (ra rb : Fin 32) (target : BitVec 13) (s : State) : Host.Outcome State Fault Refusal :=
  mDo s lane (encB 1 ra rb target.toNat)
    (brIssue [ra.val, rb.val] (decide ((s.mreg lane ra) ≠ (s.mreg lane rb))) target) fun s => s

/-- BLT (R226). -/
def execMBlt (lane : Nat) (ra rb : Fin 32) (target : BitVec 13) (s : State) : Host.Outcome State Fault Refusal :=
  mDo s lane (encB 2 ra rb target.toNat)
    (brIssue [ra.val, rb.val] (decide ((s.mreg lane ra).toInt < (s.mreg lane rb).toInt)) target) fun s => s

/-- BGE (R226). -/
def execMBge (lane : Nat) (ra rb : Fin 32) (target : BitVec 13) (s : State) : Host.Outcome State Fault Refusal :=
  mDo s lane (encB 3 ra rb target.toNat)
    (brIssue [ra.val, rb.val] (decide ((s.mreg lane rb).toInt ≤ (s.mreg lane ra).toInt)) target) fun s => s

/-- BLTU (R226). -/
def execMBltu (lane : Nat) (ra rb : Fin 32) (target : BitVec 13) (s : State) : Host.Outcome State Fault Refusal :=
  mDo s lane (encB 4 ra rb target.toNat)
    (brIssue [ra.val, rb.val] (decide ((s.mreg lane ra).toNat < (s.mreg lane rb).toNat)) target) fun s => s

/-- BGEU (R226). -/
def execMBgeu (lane : Nat) (ra rb : Fin 32) (target : BitVec 13) (s : State) : Host.Outcome State Fault Refusal :=
  mDo s lane (encB 5 ra rb target.toNat)
    (brIssue [ra.val, rb.val] (decide ((s.mreg lane rb).toNat ≤ (s.mreg lane ra).toNat)) target) fun s => s

/-- BBS (R226). -/
def execMBbs (lane : Nat) (ra n : Fin 32) (target : BitVec 13) (s : State) : Host.Outcome State Fault Refusal :=
  mDo s lane (encB 6 ra n target.toNat) (brIssue [ra.val] ((s.mreg lane ra).getLsbD n) target) fun s => s

/-- BBC (R226). -/
def execMBbc (lane : Nat) (ra n : Fin 32) (target : BitVec 13) (s : State) : Host.Outcome State Fault Refusal :=
  mDo s lane (encB 7 ra n target.toNat) (brIssue [ra.val] (!(s.mreg lane ra).getLsbD n) target) fun s => s

/-- JMP (R226). -/
def execMJmp (lane : Nat) (target : BitVec 13) (s : State) : Host.Outcome State Fault Refusal :=
  mDo s lane (encJ 0 target.toNat) { cost := 2, flow := .jump target.toNat, xfer := .jump target.toNat } fun s => s

/-- CALL (R226, R227 item 2). -/
def execMCall (lane : Nat) (target : BitVec 13) (s : State) : Host.Outcome State Fault Refusal :=
  mDo s lane (encJ 1 target.toNat) { cost := 2, flow := .call target.toNat, xfer := .call target.toNat } fun s => s

/-- RET (R226, R227 item 2). -/
def execMRet (lane : Nat) (s : State) : Host.Outcome State Fault Refusal :=
  mDo s lane (encJ 2 0) { cost := 2, flow := .ret, xfer := .ret } fun s => s

/-- LOOP (R226, R227 items 3 and 4): count is cnt + 1. -/
def execMLoop (lane : Nat) (cnt : BitVec 10) (last : BitVec 13) (s : State) : Host.Outcome State Fault Refusal :=
  let f := Flow.openBody last.toNat (cnt.toNat + 1)
  mDo s lane (encL cnt.toNat last.toNat) { flow := f, xfer := f } fun s => s

/-- LOOPR (R226, R229): the register clamped to 0 to max + 1; with count 0 the body is passed over in two slots. -/
def execMLoopr (lane : Nat) (ra : Fin 32) (max : BitVec 8) (last : BitVec 13) (s : State) :
    Host.Outcome State Fault Refusal :=
  let n := looprCount (s.mreg lane ra) max
  let f := if n = 0 then Flow.skip last.toNat else Flow.openBody last.toNat n
  mDo s lane (encLR ra max.toNat last.toNat)
    { cost := if n = 0 then 2 else 1, reads := { regs := [ra.val] }, flow := f, xfer := f } fun s => s

/-! ### SYS, NOP and END (R226, R228) -/

/-- The run flags as a register: [0] ov, [1] sat. -/
def State.runFlags (s : State) (lane : Nat) : Word :=
  match s.mrun lane with
  | some r => BitVec.ofNat 32 (b2n r.ov + 2 * b2n r.sat)
  | none => 0

/-- RFL (R228). -/
def execMRfl (lane : Nat) (rd : Fin 32) (s : State) : Host.Outcome State Fault Refusal :=
  mDo s lane (encY 0 rd) {} fun s => s.setMreg lane rd (s.runFlags lane)

/-- RFLC (R228): the flags are read, then cleared; the loop's sticky flags stand (R211). -/
def execMRflc (lane : Nat) (rd : Fin 32) (s : State) : Host.Outcome State Fault Refusal :=
  mDo s lane (encY 1 rd) {} fun s =>
    (s.setMreg lane rd (s.runFlags lane)).updRun lane fun r => { r with ov := false, sat := false }

/-- LFL (R228). -/
def execMLfl (lane : Nat) (rd : Fin 32) (s : State) : Host.Outcome State Fault Refusal :=
  mDo s lane (encY 2 rd) {} fun s => s.setMreg lane rd ((s.ldyn (s.mloop lane)).flags.setWidth 32)

/-- CYC (R228): slots of the run so far, stalls included. -/
def execMCyc (lane : Nat) (rd : Fin 32) (s : State) : Host.Outcome State Fault Refusal :=
  mDo s lane (encY 3 rd) {} fun s => s.setMreg lane rd (BitVec.ofNat 32 (((s.mrun lane).map Run.slots).getD 0))

/-- NOW (R228). -/
def execMNow (lane : Nat) (rd : Fin 32) (s : State) : Host.Outcome State Fault Refusal :=
  mDo s lane (encY 4 rd) {} fun s => s.setMreg lane rd (BitVec.ofNat 32 s.cke)

/-- MODE (R228): [0] scribe run, [1] closed at dispatch. -/
def execMSysMode (lane : Nat) (rd : Fin 32) (s : State) : Host.Outcome State Fault Refusal :=
  mDo s lane (encY 5 rd) {} fun s =>
    match s.mrun lane with
    | some r => s.setMreg lane rd (BitVec.ofNat 32 (b2n r.scribe + 2 * b2n r.closed))
    | none => s

/-- NOP (R226). -/
def execMNop (lane : Nat) (s : State) : Host.Outcome State Fault Refusal := mDo s lane (encZ 0x3E) {} fun s => s

/-- END (R190, R191, R226): the run ends at the end of its slot. -/
def execMEnd (lane : Nat) (s : State) : Host.Outcome State Fault Refusal :=
  mDo s lane (encZ 0x3F) { flow := .stop } fun s =>
    match s.mrun lane with
    | some r => (s.reach (r.startAt + ckeT * (r.slots + 1))).endRun lane r
    | none => s

/-- ILLEGAL_INSTRUCTION (R207, R214): the run ends without executing it, and the loop's bounds flag is set. A word with an
uncorrected error aborts the run instead (R177). -/
def execIllegalInstruction (lane : Nat) (s : State) : Host.Outcome State Fault Refusal :=
  match s.mrun lane with
  | none => done s
  | some r =>
    if s.eng.badWords.contains r.pc then done (s.abortRun lane r)
    else if (s.legalAt lane r).isSome ∨ (s.lent r.loop).limit ≤ r.slots then done s
    else done ((((s.reach (r.startAt + ckeT * r.slots)).loopFlag r.loop fBounds).endRun lane r))

end Sys2Proof.Machine
end

