-- ==== Sys2Proof/Machine/Engine.lean ====
section
/-! DEFINITION. The engine around its runs (R171 to R206): timers, dispatch, run limits, self-check and spare lanes, the
scrub of its memories and the age of input slots. -/

namespace Sys2Proof.Machine

/-! ### Timers (R182) -/

/-- ENGINE_TIMER_TICK (R180, R182): the timer's next tick after the first boundary of BOOT. -/
def execEngineTimerTick (t : Nat) (s : State) : Host.Outcome State Fault Refusal :=
  let x := s.eng.timers.get {} t
  match s.eng.timerAt with
  | none => done s
  | some b =>
    if x.period = 0 ∨ 64 ≤ t then done s
    else
      let s := s.reach (b + usT * (x.phase + x.ticks * x.period))
      let y : Timer := { x with ticks := x.ticks + 1 }
      let s := s.updEng fun e => { e with timers := e.timers.set {} t y }
      done (s.slotWrite (.timer t) (BitVec.ofNat 32 y.ticks) s.cke)

/-! ### Dispatch (R173, R187 to R189, R195, R198, R199, R237) -/

/-- A loop with a scribe run or a normal dispatch pending is ready: no run in progress and, for a normal dispatch of
class 0, its spacing passed (R187, R198). -/
def State.readyAt (s : State) (l : Nat) : Option Nat :=
  let e := s.lent l
  let d := s.ldyn l
  if e.used = false ∨ d.running then none
  else match d.scribeAt with
    | some t => some (t + deadlineOf 0)
    | none =>
      if d.pending = false then none
      else
        let spaced := decide (e.cls ≠ 0) || (match d.lastDisp with
          | none => true
          | some t => decide (12 * e.spacing ≤ 5 * (s.now - t)))
        if spaced then some (d.posted + deadlineOf e.cls) else none
/-- The ready loop with the earliest absolute deadline, the lower index among equals (R188). -/
def State.nextLoop (s : State) : Option (Nat × Nat) :=
  s.eng.dyn.keys.foldl (fun best l =>
    match s.readyAt l, best with
    | none, b => b
    | some d, none => some (l, d)
    | some d, some b => if d < b.2 then some (l, d) else some b) none
/-- What a run dispatched now reads of the hub (R189, R223). -/
def State.viewNow (s : State) : View := { com := s.com, regs := s.regs, conv := s.conv, epoch := s.epoch }
/-- Registers a0 to a7 at dispatch (R173): the present sent values in a scribe run, zero in one that the image's closed mode
causes (R237). -/
def State.dispRegs (s : State) (l : Nat) (mask : BitVec 8) (age : Nat) (scribe image : Bool) : Tbl Word :=
  let put (t : Tbl Word) (k : Nat) (v : Word) : Tbl Word := t.set 0 k v
  let t := put (put (put (put [] 0 (BitVec.ofNat 32 l)) 1 (BitVec.ofNat 32 (s.lent l).sbase)) 2 (mask.setWidth 32)) 3 (BitVec.ofNat 32 age)
  if scribe && !image then
    (List.range 4).foldl (fun t b => put t (4 + b) (s.eng.outs.get {} (4 * l + b)).lastSent) t
  else t

/-- A loop is dispatched to a lane; an engine that had stopped dispatching has resumed (R34). -/
def State.dispatchTo (s : State) (lane l dl : Nat) : State :=
  let e := s.lent l
  let d := s.ldyn l
  let closed := (s.com.loop l).closed
  let boundary := d.scribeAt.isSome
  let suspect := !boundary && d.flags.getLsbD fSuspect && closed
  let image := !boundary && d.scribeFirst
  let scribe := boundary || suspect || image
  let age := if d.pending then min (s.cke - d.firstInstant) 65535 else 0
  let r : Run := { loop := l, pc := if scribe then e.scribe else e.entry, scribe := scribe, boundary := boundary, closed := closed,
                   startAt := s.now + ckeT, first := d.firstInstant, deadline := dl, mask := d.pendMask,
                   posted := match d.scribeAt with
                     | some t => t
                     | none => d.posted }
  let regs := s.dispRegs l d.pendMask age scribe image
  let s := s.updLane lane fun x => { x with
    run := some r, regs := regs, accs := [], since := if x.since.contains l then x.since else x.since ++ [l] }
  let s := { s with views := s.views.set {} lane s.viewNow }
  let s := (s.updEng fun e => { e with lastRun := s.now }).updSys fun y => { y with engStopAt := none }
  s.updLdyn l fun d =>
    let d := { d with running := true, lastDisp := some s.now, scribeFirst := false,
                      flags := if suspect then d.flags &&& ~~~ ((1 : BitVec 7) <<< fSuspect) else d.flags }
    if boundary then { d with scribeAt := none }
    else { d with pending := false, pendMask := 0 }

/-- DISPATCH (R188): a free active lane takes the ready loop with the earliest absolute deadline. -/
def execDispatch (lane : Nat) (s : State) : Host.Outcome State Fault Refusal :=
  let x := s.lane lane
  if lane < 72 ∧ s.eng.dispatching ∧ x.st = .active ∧ x.run = none then
    match s.nextLoop with
    | some (l, dl) => done (s.dispatchTo lane l dl)
    | none => done s
  else done s

/-- RUN_LIMIT (R190): the next instruction's slots do not fit the run limit. -/
def execRunLimit (lane : Nat) (s : State) : Host.Outcome State Fault Refusal :=
  match s.mrun lane with
  | none => done s
  | some r =>
    let need := match s.legalAt lane r with
      | some i => needOf (s.mreg lane) r.prod i
      | none => 1
    let lim := (s.lent r.loop).limit
    if lim < r.slots + need then
      done (((s.reach (r.startAt + ckeT * lim)).loopFlag r.loop fRunLimit).endRun lane r)
    else done s

/-! ### Self-check and spares (R200 to R203, R410) -/

/-- A lane of the group is in self-check, its retest included (R200, R202). -/
def State.groupBusy (s : State) (lane : Nat) : Bool := s.checkFrom lane ≠ 0
/-- SELF_CHECK_DUE (R200, R202): a free lane, active or spare, of a group in which no lane is in self-check. -/
def execSelfCheckDue (lane : Nat) (s : State) : Host.Outcome State Fault Refusal :=
  let x := s.lane lane
  if lane < 72 ∧ (x.st = .active ∨ x.st = .spareSt) ∧ x.run = none ∧ s.groupBusy lane = false then
    done (s.updLane lane fun y => { y with st := .check, wasSpare := decide (y.st = .spareSt), checkAt := s.now })
  else done s

/-- A lane counted as spare (R202, R504). -/
def State.isSpareLane (s : State) (i : Nat) : Bool :=
  decide ((s.lane i).st = .spareSt) || (decide ((s.lane i).st = .check) && (s.lane i).wasSpare)
/-- The lowest spare of the same group, or else of any group (R202). -/
def State.spareFor (s : State) (lane : Nat) : Option Nat :=
  match (List.range 18).find? fun k => s.isSpareLane (18 * (lane / 18) + k) with
  | some k => some (18 * (lane / 18) + k)
  | none => (List.range 72).find? s.isSpareLane
/-- A spare enters the pool; one that is in its self-check enters at its end (R202). -/
def State.admitLane (s : State) (i : Nat) : State :=
  s.updLane i fun x => if x.st = .spareSt then { x with st := .active } else { x with wasSpare := false }

/-- SELF_CHECK_COMPLETE (R200, R202): 512 cycles after its start. -/
def execSelfCheckComplete (lane : Nat) (correct : Bool) (s : State) : Host.Outcome State Fault Refusal :=
  let x := s.lane lane
  if 72 ≤ lane ∨ x.st ≠ .check then done s
  else
    let s := s.reach (x.checkAt + ckeT * checkCycles)
    if correct then
      done (s.updLane lane fun y => { y with st := if y.wasSpare then .spareSt else .active, wasSpare := false, since := [] })
    else if x.wasSpare then done (s.updLane lane fun y => { y with st := .failed, wasSpare := false, since := [] })
    else
      let s := x.since.foldl (fun s l => s.loopFlag l fSuspect) s
      let s := (s.updLane lane fun y => { y with st := .failed, since := [] }).tally 0x0C 0 7 1
      match s.spareFor lane with
      | some i => done (s.admitLane i)
      | none => done s

/-- LANE_REGISTER_ERROR (R200, R201): the run is aborted, its loop pending again with its mask and suspect, the lane in CHECK at
once; its program runs when no other lane of its group is in self-check. -/
def execLaneRegisterError (lane : Nat) (s : State) : Host.Outcome State Fault Refusal :=
  match s.mrun lane with
  | none => done s
  | some r =>
    let again (d : LoopDyn) : LoopDyn :=
      if r.boundary then { d with scribeAt := some r.posted }
      else { d with pending := true, pendMask := d.pendMask ||| r.mask, firstInstant := r.first, posted := r.posted }
    let s := ((s.freeLane lane r.loop).updLdyn r.loop again).loopFlag r.loop fSuspect
    let from_ := max s.now (s.checkFrom lane)
    done (s.updLane lane fun y => { y with st := .check, wasSpare := false, checkAt := from_ })

/-- RETEST (R202, R410): a maker's write of LANERT. -/
def execRetest (s : State) : Host.Outcome State Fault Refusal := done (s.hostCmd 0x7C 1)
/-- RETEST_COMPLETE (R202): 16 self-checks back to back. -/
def execRetestComplete (lane : Nat) (allCorrect : Bool) (s : State) : Host.Outcome State Fault Refusal :=
  let x := s.lane lane
  if 72 ≤ lane ∨ x.st ≠ .retest then done s
  else
    done ((s.reach (x.checkAt + ckeT * (16 * checkCycles))).updLane lane fun y => { y with
      st := if allCorrect then .spareSt else .failed, since := [] })

/-! ### Scrub (R177, R220) -/

/-- The loop whose state block holds a word (R176). -/
def State.blockLoop (s : State) (addr : Nat) : Option Nat :=
  (s.eng.loops.find? fun x => x.2.used && decide (x.2.sbase ≤ addr) && decide (addr < x.2.sbase + x.2.slen)).map Prod.fst
/-- The engine-memory condition stands while an instruction word waits for its rewrite (R177). -/
def Engine.setBad (e : Engine) (bad : List Nat) : Engine := { e with badWords := bad, engMem := decide (bad ≠ []) }

/-- SCRUB_ERROR (R177): a single-bit error is corrected and a coefficient repaired, so nothing is left to see; a state word
reads as zero with the memory flag; an instruction word aborts every run that fetches it. -/
def execScrubError (m : EngMem) (addr : Nat) (double : Bool) (s : State) : Host.Outcome State Fault Refusal :=
  if double = false then done s
  else match m with
    | .coef => done s
    | .state =>
      let s := s.updEng fun e => { e with state := e.state.set 0 addr 0 }
      match s.blockLoop addr with
      | some l => done (s.loopFlag l fMemory)
      | none => done s
    | .imem =>
      if 8192 ≤ addr then done s
      else
        let s := s.updEng fun e => e.setBad (if e.badWords.contains addr then e.badWords else e.badWords ++ [addr])
        done ((List.range 72).foldl (fun s i => match s.mrun i with
          | some r => if r.pc = addr then s.abortRun i r else s
          | none => s) s)
/-- INSTRUCTION_REWRITE (R177): the management core rewrites the word from the verified image. -/
def execInstructionRewrite (addr : Nat) (s : State) : Host.Outcome State Fault Refusal :=
  if s.eng.badWords.contains addr ∧ s.sys.coreRun then
    done (s.updEng fun e => { e.setBad (e.badWords.erase addr) with imem := e.imem.set 0 addr (e.imgCopy.get 0 addr) })
  else done s
/-- SLOT_STALE (R220): 65,536 CKE cycles after its last write. -/
def execSlotStale (slot : Nat) (s : State) : Host.Outcome State Fault Refusal :=
  let x := s.eng.input.get {} slot
  if x.stale then done s
  else
    let s := s.reach (ckeT * (x.wrote + 65536))
    done (s.updEng fun e => { e with input := e.input.set {} slot { x with stale := true } })

end Sys2Proof.Machine
end

