-- ==== Sys2Proof/Machine/Ports.lean ====
section
/-! DEFINITION. The ports PMB, TRY, DVT, FAB and DBG (R479 to R494). -/

namespace Sys2Proof.Machine

/-! ### PMBus (R479, R480). The places of the status bits are those of PMBus 1.4 (PRESUMED, log 21) -/

/-- The rail of a page; none for the die input. -/
def pageRail : Nat → Option Rail
  | 0 => some .vib
  | 1 => some .vqa
  | 2 => some .vqc
  | _ => none

/-- A transaction addressed to the block: the settled rate is the highest measured, a free value (R465, R479). -/
def State.pmbTouch (s : State) : State :=
  let k := (Config.measure s.free 80).toNat % 3 + 1
  s.draw.updPorts fun p => { p with pmbRate := max p.pmbRate k }
/-- The block answers: data out. -/
def State.pmbAnswer (s : State) (x : Nat) : State := s.pmbTouch.updPorts fun p => { p with pmbOut := x }

/-- Some phase of the page's rail is overloaded. -/
def State.pageOverload (s : State) : Bool :=
  match pageRail s.ports.page with
  | some x => (s.slotsOfRail x).any fun n => (s.phase n).overload
  | none => false
/-- The page's rail is not in REG. -/
def State.pageOff (s : State) : Bool :=
  match pageRail s.ports.page with
  | some x => decide ((s.rail x).st ≠ .reg)
  | none => false
/-- Overvoltage of the page's rail. -/
def State.pageOv (s : State) : Bool :=
  match pageRail s.ports.page with
  | some x => (s.rail x).ov
  | none => false
/-- The page's rail is not good. -/
def State.pageBad (s : State) : Bool :=
  match pageRail s.ports.page with
  | some x => (s.rail x).notGood
  | none => false
/-- Some region is in B5. -/
def State.anyB5 (s : State) : Bool := s.regions.any fun r => decide ((s.com.reg r).band = 5)

/-- STATUS_WORD of the present page (R480). -/
def State.statusWord (s : State) : Nat :=
  2 * b2n s.ports.cml + 4 * b2n s.anyB5 + 64 * b2n s.pageOff + 2 ^ 13 * b2n (s.conv.vinLow || s.conv.inStop) +
  2 ^ 14 * b2n s.pageOverload + 2 ^ 15 * b2n (s.pageOv || s.pageBad)

/-- LINEAR16 with exponent -12 of a voltage in mV (R480). -/
def linear16 (mv : Nat) : Nat := (roundR ((mv : Rat) * 4096 / 1000)).toNat % 65536
/-- The least exponent from -16 on whose mantissa fits 11 bits. -/
def lin11Exp (x : Rat) : Nat → Int → Int
  | 0, e => e
  | fuel + 1, e => if (roundR (x / (2 : Rat) ^ e)).natAbs ≤ 1023 then e else lin11Exp x fuel (e + 1)
/-- LINEAR11 of a number: the finest exponent that holds it (DESIGN CHOICE, log 21). -/
def linear11 (x : Rat) : Nat :=
  let e := lin11Exp x 31 (-16)
  encS 5 e * 2048 + encS 11 (roundR (x / (2 : Rat) ^ e))

/-- The page is one of 0 to 2. -/
def State.railPage (s : State) : Bool := decide (s.ports.page < 3)
/-- A command of pages 0 to 2: on page 3 the block answers no data (DESIGN CHOICE, log 21). -/
def State.onRails (s : State) (x : Nat) : State := if s.railPage then s.pmbAnswer x else s.pmbTouch
/-- A command of page 3. -/
def State.onInput (s : State) (x : Nat) : State := if s.railPage then s.pmbTouch else s.pmbAnswer x

/-- Input current in A (R480): AVSBus current if present, otherwise delivered power over the factor of R292 over VIN. -/
def State.inputAmps (s : State) : Rat :=
  if s.ports.avs then (s.ports.avsI : Rat) / 100
  else (s.bud.deliv : Rat) * 125 * 2 ^ 28 / (convFactor s.com.bud.effconv s.bud.eta * max 1 s.ports.meanVin : Nat)

/-- PAGE (R480): 0 to 3; another page sets CML (PRESUMED, log 21). -/
def execPage (v : Byte) (s : State) : Host.Outcome State Fault Refusal :=
  if v.toNat < 4 then done (s.pmbTouch.updPorts fun p => { p with page := v.toNat })
  else done (s.pmbTouch.updPorts fun p => { p with cml := true })
/-- CLEAR_FAULTS (R480). -/
def execClearFaults (s : State) : Host.Outcome State Fault Refusal := done (s.pmbTouch.updPorts fun p => { p with cml := false })
/-- CAPABILITY (R480): packet error checking, 1 MHz, SMBALERT#. -/
def execCapability (s : State) : Host.Outcome State Fault Refusal := done (s.pmbAnswer 0xD0)
/-- VOUT_MODE (R480): linear, exponent -12. -/
def execVoutMode (s : State) : Host.Outcome State Fault Refusal := done (s.onRails 0x14)
/-- STATUS_BYTE (R480). -/
def execStatusByte (s : State) : Host.Outcome State Fault Refusal := done (s.pmbAnswer (s.statusWord % 256))
/-- STATUS_WORD (R480). -/
def execStatusWord (s : State) : Host.Outcome State Fault Refusal := done (s.pmbAnswer s.statusWord)
/-- STATUS_VOUT (R480): overvoltage, rail not good. -/
def execStatusVout (s : State) : Host.Outcome State Fault Refusal := done (s.pmbAnswer (128 * b2n s.pageOv + 16 * b2n s.pageBad))
/-- STATUS_IOUT (R480): phase overload. -/
def execStatusIout (s : State) : Host.Outcome State Fault Refusal := done (s.pmbAnswer (128 * b2n s.pageOverload))
/-- STATUS_INPUT (R480): VIN low, input stop. -/
def execStatusInput (s : State) : Host.Outcome State Fault Refusal :=
  done (s.pmbAnswer (32 * b2n s.conv.vinLow + 16 * b2n s.conv.inStop))
/-- STATUS_TEMPERATURE (R480): any region in B5. -/
def execStatusTemperature (s : State) : Host.Outcome State Fault Refusal := done (s.pmbAnswer (128 * b2n s.anyB5))
/-- READ_VIN (R480). -/
def execReadVin (s : State) : Host.Outcome State Fault Refusal := done (s.onInput (linear11 ((s.ports.meanVin : Rat) / 1000)))
/-- READ_IIN (R480). -/
def execReadIin (s : State) : Host.Outcome State Fault Refusal := done (s.onInput (linear11 s.inputAmps))
/-- READ_VOUT (R480). -/
def execReadVout (s : State) : Host.Outcome State Fault Refusal := done (s.onRails (linear16 (s.ports.meanV.get 0 s.ports.page)))
/-- READ_IOUT (R480). -/
def execReadIout (s : State) : Host.Outcome State Fault Refusal :=
  done (s.onRails (linear11 ((s.ports.meanI.get 0 s.ports.page : Nat) / 10)))
/-- The highest td of any anchored region, 1/64 C; 0 with none. -/
def State.topTd (s : State) : Int :=
  match (s.regions.filter fun r => (s.reg r).th.anchored).map fun r => (s.reg r).th.td with
  | [] => 0
  | x :: xs => xs.foldl max x
/-- READ_TEMPERATURE_1 (R480). -/
def execReadTemperature1 (s : State) : Host.Outcome State Fault Refusal := done (s.onInput (linear11 ((s.topTd : Rat) / 64)))
/-- READ_POUT (R480): rail energy over 1 ms. -/
def execReadPout (s : State) : Host.Outcome State Fault Refusal :=
  done (s.onRails (linear11 ((s.ports.energyW.get 0 s.ports.page : Nat) / 1000)))
/-- READ_PIN (R480): VIN times READ_IIN. -/
def execReadPin (s : State) : Host.Outcome State Fault Refusal :=
  done (s.onInput (linear11 (s.inputAmps * s.ports.meanVin / 1000)))
/-- PMBUS_REVISION (R480). -/
def execPmbusRevision (s : State) : Host.Outcome State Fault Refusal := done (s.pmbAnswer 0x44)
/-- PMBUS_OTHER_WRITE (R480): CML is set and nothing else changes. -/
def execPmbusOtherWrite (code : Byte) (s : State) : Host.Outcome State Fault Refusal :=
  if code = 0 ∨ code = 3 then done s.pmbTouch else done (s.pmbTouch.updPorts fun p => { p with cml := true })
/-- ALERT_RESPONSE (R480). -/
def execAlertResponse (s : State) : Host.Outcome State Fault Refusal := done (s.pmbTouch.updPorts fun p => { p with alertN := true })

/-! ### AVSBus (R481) -/

/-- AVSBUS_POLL (R481): the reads of a 1 ms period begin. -/
def execAvsbusPoll (s : State) : Host.Outcome State Fault Refusal :=
  if s.ports.avs then
    let s := s.reach (s.ports.avsAt + msT)
    done (s.updPorts fun p => { p with avsAt := s.now, avsStep := 0 })
  else done s
/-- AVSBUS_REPLY (R481): kind 0 Voltage (mV), 1 Current (10 mA), 2 Status. -/
def execAvsbusReply (kind : Fin 3) (data : BitVec 16) (crcOk : Bool) (s : State) : Host.Outcome State Fault Refusal :=
  if s.ports.avs then
    if crcOk then
      done (s.updPorts fun p => { p with
        avsErr := false, avsStep := (kind.val + 1) % 3,
        avsV := if kind.val = 0 then data.toNat else p.avsV, avsI := if kind.val = 1 then data.toNat else p.avsI })
    else done (s.updPorts fun p => { p with avsErr := true, avsStep := (kind.val + 1) % 3 })
  else if s.hw.bstate = .boot ∧ kind.val = 2 ∧ crcOk then
    done (s.updPorts fun p => { p with avs := true, avsErr := false, avsAt := s.now })
  else done s

/-! ### Tray (R482 to R484) -/

/-- The tray is attached and the item has the settled version. -/
def State.trayOk (s : State) (ver : Nat) : Bool := s.ports.trayAddr.isSome && decide (ver ≤ s.ports.trayVer)

/-- DYNAMIC_ADDRESS_ASSIGNED (R465, R483): the tray attaches, on version 1 until it writes TVER. -/
def execDynamicAddressAssigned (addr : BitVec 7) (s : State) : Host.Outcome State Fault Refusal :=
  done (s.updPorts fun p => { p with trayAddr := some addr.toNat, trayVer := 1 })
/-- TVER (R484). -/
def execTver (data : List Byte) (s : State) : Host.Outcome State Fault Refusal :=
  match data with
  | [v] => if s.trayOk 1 then done (s.updPorts fun p => { p with trayVer := max 1 (min 2 v.toNat) }) else done s
  | _ => done s
/-- INLET (R366, R484): the management core places it in slot TIN. -/
def execInlet (data : List Byte) (s : State) : Host.Outcome State Fault Refusal :=
  match data with
  | [a, b] =>
    if s.trayOk 1 then
      let t : BitVec 16 := BitVec.ofNat 16 (a.toNat + 256 * b.toNat)
      let s := s.updPorts fun p => { p with inlet := t.toInt, inletAt := some s.now }
      done (if s.coreServes then s.fwPlace fwTin 0 0 (t.signExtend 32) else s)
    else done s
  | _ => done s
/-- TCEIL (R484): held until a glue-up can carry it with its allowances. -/
def execTceil (data : List Byte) (s : State) : Host.Outcome State Fault Refusal :=
  match data with
  | [a, b] => if s.trayOk 2 then done (s.updPorts fun p => { p with trayHeld := some (a.toNat + 256 * b.toNat) }) else done s
  | _ => done s
/-- STATE read by the tray (R484); the change it was told of in band is taken (DESIGN CHOICE, log 22). -/
def execTrayState (s : State) : Host.Outcome State Fault Refusal :=
  if s.trayOk 1 then
    done (s.updPorts fun p => { p with trayOut := s.hw.bstate.code + 256 * (s.shutind % 256), ibi := false })
  else done s
/-- CAP read by the tray (R484). -/
def execTrayCap (s : State) : Host.Outcome State Fault Refusal :=
  if s.trayOk 1 then done (s.updPorts fun p => { p with trayOut := s.com.bud.cap % 65536 }) else done s
/-- PDEL read by the tray (R484). -/
def execPdel (s : State) : Host.Outcome State Fault Refusal :=
  if s.trayOk 2 then done (s.updPorts fun p => { p with trayOut := min 65535 s.bud.deliv }) else done s
/-- TRY_FLOW_CHANGE (R386, R482): a change starts or breaks the debounce. -/
def execTryFlowChange (level : Bool) (s : State) : Host.Outcome State Fault Refusal :=
  if s.ports.flowN = level then done s else done (s.updPorts fun p => { p with flowN := level, flowAt := s.now })

/-! ### Dovetail (R485 to R490) -/

/-- Port p is enabled. -/
def State.dvtOn (s : State) (p : Nat) : Bool := decide (p < 4) && s.com.tide.dvtEn.getLsbD p
/-- The port is up and carries a type. -/
def State.dvtCarries (s : State) (p ty : Nat) : Bool :=
  s.dvtOn p && (s.dvt p).up && !(s.dvt p).miswire && (s.dvt p).feat.getLsbD (dvtFeature ty)
/-- A valid frame has come in on the port (R487). -/
def State.dvtHeard (s : State) (p : Nat) : State := s.updDvt p fun d => { d with lastAt := s.now }
/-- This die's feature bits (R486): every feature of the spec. -/
def ownFeatures : BitVec 4 := 0xF

/-- PRESENCE_TIMER (R487). -/
def execPresenceTimer (s : State) : Host.Outcome State Fault Refusal :=
  let s := s.reach (s.ports.presAt + 10 * usT)
  let s := s.updPorts fun p => { p with presAt := s.now }
  let t := s.com.tide
  done (s.dvtSendAll none 3 (dvtBytes 3 t.bslot 0 (leBytes 3 t.dieId ++ leBytes 4 t.group)))

/-- PRESENCE (R487, R490). -/
def execPresence (port origin die group : Nat) (s : State) : Host.Outcome State Fault Refusal :=
  match group with
  | _ =>
    if s.dvtOn port && (s.dvt port).up then
      let s := s.dvtHeard port
      let s := s.updDvt port fun d => { d with pslot := origin % 16, miswire := decide (origin % 16 ≠ s.com.tide.dvtSlot.get 0 port) }
      done (s.updPorts fun p => { p with slots := p.slots.set 0 (origin % 16) (die % 2 ^ 20 + 1) })
    else done s

/-- DVT_TIDE_FRAME (R360, R361, R489): the bytes from TYPE to the end of the payload; taken when addressed here,
otherwise forwarded towards DST. -/
def execDvtTideFrame (port : Nat) (bytes : List Byte) (s : State) : Host.Outcome State Fault Refusal :=
  if s.dvtCarries port 1 = false ∨ bytes.length ≠ 67 ∨ bytes.head? ≠ some 1 then done s
  else
    let s := s.dvtHeard port
    let pay := bytes.drop 3
    let dst := leAt pay 2 3
    if dst = s.com.tide.dieId then done (s.recvBytes pay)
    else match (s.slotOfDie dst).bind s.dvtRoute with
      | some k => done (s.updDvt k fun d => { d with tx := d.tx ++ [(1, bytes)] })
      | none => done s

/-- The message of an origin was forwarded within the last 1 ms. -/
def seenLately (now : Nat) (t : Tbl Nat) (origin : Nat) : Bool := decide (t.get 0 origin ≠ 0) && decide (now + 1 ≤ t.get 0 origin + msT)

/-- DVT_SHIM_ONSET (R325, R487, R489). -/
def execDvtShimOnset (port origin hop : Nat) (s : State) : Host.Outcome State Fault Refusal :=
  if s.dvtCarries port 2 = false then done s
  else
    let s := s.dvtHeard port
    if origin = s.com.tide.bslot then done s
    else
      let recent (t : Nat) : Bool := decide (s.now ≤ t + msT)
      let s := s.updShim fun h => { h with peers := h.peers.filter recent ++ [s.now], tref := if h.st = 0 then h.tref else min h.tref s.now }
      if seenLately s.now s.ports.seenOnset origin ∨ s.com.tide.ndies ≤ hop + 1 then done s
      else
        let s := s.updPorts fun p => { p with seenOnset := p.seenOnset.set 0 origin (s.now + 1) }
        done (s.dvtSendAll (some port) 2 (dvtBytes 2 origin (hop + 1) []))

/-- DROOP_ALERT (R488, R489). -/
def execDroopAlert (port origin : Nat) (s : State) : Host.Outcome State Fault Refusal :=
  if s.dvtCarries port 4 = false then done s
  else
    let s := s.updPorts fun p => { p with peerDroop := some (s.now + msT), dslot := origin % 16 }
    if origin = s.com.tide.bslot ∨ seenLately s.now s.ports.seenAlert origin then done s
    else
      let s := s.updPorts fun p => { p with seenAlert := p.seenAlert.set 0 origin (s.now + 1) }
      done (s.dvtSendAll (some port) 4 [BitVec.ofNat 8 origin])

/-- PEERDROOP_EXPIRY (R488). -/
def execPeerdroopExpiry (s : State) : Host.Outcome State Fault Refusal :=
  match s.ports.peerDroop with
  | some t => done ((s.reach t).updPorts fun p => { p with peerDroop := none })
  | none => done s

/-- DVT_FRAME_CRC_ERROR (R487, R490). -/
def execDvtFrameCrcError (port : Nat) (s : State) : Host.Outcome State Fault Refusal :=
  if s.dvtOn port && (s.dvt port).up then done (s.updDvt port fun d => { d with crcErr := d.crcErr + 1 }) else done s

/-- DVT_LINK_DOWN (R487). -/
def execDvtLinkDown (port : Nat) (s : State) : Host.Outcome State Fault Refusal :=
  if port < 4 ∧ (s.dvt port).up then
    let s := s.reach ((s.dvt port).lastAt + 100 * usT)
    done (s.updDvt port fun d => { d with up := false, trainAt := s.now })
  else done s

/-- DVT_LOCK_TIMEOUT (R486): one rate down, or down for good until the next training. -/
def execDvtLockTimeout (port : Nat) (s : State) : Host.Outcome State Fault Refusal :=
  if port < 4 ∧ (s.dvt port).training then
    let s := s.reach ((s.dvt port).trainAt + msT)
    done (s.updDvt port fun d => if d.rate = 0 then { d with training := false, trainAt := s.now }
                                 else { d with rate := d.rate - 1, trainAt := s.now })
  else done s

/-- DVT_RETRAIN (R486): every 100 ms a link that is down trains again, from 156.25 Mb/s. -/
def execDvtRetrain (port : Nat) (s : State) : Host.Outcome State Fault Refusal :=
  if s.dvtOn port && !(s.dvt port).up && !(s.dvt port).training then
    let s := s.reach ((s.dvt port).trainAt + 100 * msT)
    done (s.updDvt port fun d => { d with rate := 0, trainAt := s.now })
  else done s

/-- DVT_TRAINING (R486): the peer's capability character; a link without presence never comes up. -/
def execDvtTraining (port : Nat) (cap : Byte) (s : State) : Host.Outcome State Fault Refusal :=
  if s.dvtOn port && !(s.dvt port).up then
    let f : BitVec 4 := (cap >>> 4).setWidth 4 &&& ownFeatures
    let r := min (cap.toNat % 16) (s.com.tide.dvtMax.get 3 port)
    done (s.updDvt port fun d => { d with rate := r, feat := f, training := f.getLsbD 3, trainAt := s.now })
  else done s

/-- DVT_LOCK (R486): the link locks at the settled rate and comes up. -/
def execDvtLock (port : Nat) (s : State) : Host.Outcome State Fault Refusal :=
  if s.dvtOn port && (s.dvt port).training then
    done (s.updDvt port fun d => { d with up := true, training := false, lastAt := s.now, miswire := false })
  else done s

/-! ### Fabric (R491) -/

/-- FAB_FRAME (R361, R491). -/
def execFabFrame (bytes : List Byte) (s : State) : Host.Outcome State Fault Refusal := done (s.recvBytes bytes)
/-- FAB_UP_CHANGE (R491). -/
def execFabUpChange (level : Bool) (s : State) : Host.Outcome State Fault Refusal :=
  done (s.updPorts fun p => { p with fabUp := level })

/-! ### Test access (R453, R494) -/

/-- Every rail is OFF. -/
def State.railsOff (s : State) : Bool := [Rail.vib, .vqa, .vqc].all fun x => decide ((s.rail x).st = .off)
/-- A challenge over DBG drawn from the hub's random source. -/
def State.dbgDraw (s : State) : State :=
  let ch := (List.range 8).foldl (fun (t : Tbl Word) k => t.set 0 k (Config.challenge s.free k)) []
  s.draw.updPorts fun p => { p with dbgChal := ch }

/-- TAP_INSTRUCTION_LOAD (R494): BYPASS in place of EXTEST unless every rail is OFF; the private instruction shows a
fresh challenge. -/
def execTapInstructionLoad (ir : Nat) (s : State) : Host.Outcome State Fault Refusal :=
  let k := if ir = 3 ∧ s.railsOff = false then 0 else if 4 < ir then 0 else ir
  let s := s.updPorts fun p => { p with ir := k }
  done (if k = 4 then s.dbgDraw else s)

/-- The read instruments of the IEEE 1687 network (R494): BOOTSTAT, a record of the trace buffer, the counters of a link direction
for a class (R48), the coefficients and counters of a sense converter and the comparators of a pan (R139). No instrument shows
a conversion. -/
inductive DbgView where
  | bootstat
  | trace (k : Nat)
  | link (l : LinkId) (d : Dir) (c : PClass)
  | sense (n : Nat) (c : Conv)
  | comparators (n : Nat)
  deriving DecidableEq, Repr

/-- Credits held by the sender, packets sent and packets received of a class (R48). -/
def LinkDir.counters (d : LinkDir) : PClass → List Int
  | .c => [d.creditC, d.sentC.toNat, d.recvC.toNat]
  | .t => [d.creditT, d.sentT.toNat, d.recvT.toNat]
  | .u => [d.creditU, d.sentU.toNat, d.recvU.toNat]
/-- Offset, gain and skew in force of a converter, its updates (R143) and, for A and B, the counts of R145. -/
def Sense.counters (q : Sense) : Conv → List Int
  | .a => [q.coefA.offset, q.coefA.gain, q.coefA.skew, q.updA, q.endA.offset, q.endA.gain, q.endA.skew]
  | .b => [q.coefB.offset, q.coefB.gain, q.coefB.skew, q.updB, q.endB.offset, q.endB.gain, q.endB.skew]
  | .c => [q.coefC.offset, q.coefC.gain, q.coefC.skew, q.runs, 0, 0, 0]
  | .d => [q.coefD.offset, q.coefD.gain, q.coefD.skew, 0, 0, 0, 0]
/-- What a read instrument shows; none unless the private instruction is loaded. The read instruments are always open (R494). -/
def State.dbgRead (s : State) (v : DbgView) : Option (List Int) :=
  if s.ports.ir ≠ 4 then none
  else match v with
    | .bootstat => some [(s.readA 0x34).toNat]
    | .trace k => (s.log.buf[k]?).map fun r => [(r.toNat : Int)]
    | .link l .down c => some ((s.link l).down.counters c)
    | .link l .up c => some ((s.link l).up.counters c)
    | .sense n c => some ((s.pan n).sense.counters c)
    | .comparators n => some [(b2n (s.pan n).droopFired : Nat), (b2n (s.pan n).overFired : Nat)]

/-- The message that a response over DBG signs, as in R435. -/
def State.dbgMessage (s : State) : List Nat :=
  wordBytes s.ports.dbgChal 8 ++ natLE 8 s.store.serial.toNat ++ natLE 4 s.hw.sesNum.toNat
/-- The response verifies with the maker session key (R435, R494): r in bits 767 to 384, s below. -/
def State.dbgOk (s : State) (rs : BitVec 768) : Bool :=
  match s.store.makerKey with
  | some k =>
    let b := k.map BitVec.toNat
    s.store.keyHashes.any (fun h => decide (h.map BitVec.toNat = sha384 b)) &&
    ecdsa384 (beNum (b.take 48)) (beNum (b.drop 48)) (rs.toNat / 2 ^ 384) (rs.toNat % 2 ^ 384) s.dbgMessage
  | none => false

/-- DBG_MAKER_CHALLENGE (R494): a response that verifies opens the write instruments; a challenge serves once. -/
def execDbgMakerChallenge (rs : BitVec 768) (s : State) : Host.Outcome State Fault Refusal :=
  if s.ports.ir ≠ 4 ∨ s.store.dbgClosed then done s
  else done ((s.updPorts fun p => { p with dbgOpen := p.dbgOpen || s.dbgOk rs }).dbgDraw)

/-- DBG_TRST_N (R468, R494): the test access port resets, to IDCODE (PRESUMED of IEEE 1149.1, log 23). -/
def execDbgTrstN (s : State) : Host.Outcome State Fault Refusal :=
  done (s.updPorts fun p => { p with ir := 1, dbgOpen := false, dbgChal := [] })

/-- DBG_STORE_WRITE (R453, R494): the maker writes words into an area of the store. -/
def execDbgStoreWrite (area : Nat) (words : List Word) (s : State) : Host.Outcome State Fault Refusal :=
  if s.ports.dbgOpen ∧ s.ports.ir = 4 ∧ s.store.dbgClosed = false then
    done { s with store := s.store.layOut area (words.zipIdx.foldl (fun (t : Tbl Word) x => t.set 0 x.2 x.1) []) }
  else done s

end Sys2Proof.Machine
end

