-- ==== Sys2Proof/Machine/Pan.lean ====
section
/-! DEFINITION. The pan leaf (R73 to R110): its target, gates, states, parameters, and the events of its hardware. -/

namespace Sys2Proof.Machine

/-! ### Facts of a pan -/

/-- A pan is privileged (R87). -/
def State.privPan (s : State) (n : Nat) : Bool := (s.node n).kind.privileged
/-- A node is a pan. -/
def State.isPan (s : State) (n : Nat) : Bool := (s.node n).kind.isPan
/-- The continuous limit in force, mA (R73, R102): the rating is in 0.1 A. -/
def State.contLimit (s : State) (n : Nat) : Nat := (if (s.pan n).carryOn then 125 else 100) * (s.node n).rating
/-- The offset towards which inst_offset slews: 0 in HOLD (R34, R105). -/
def Pan.offTarget (p : Pan) : Int := if p.st = .hold then 0 else p.par.offset
/-- Boost arming in force: disarmed in HOLD (R34). -/
def Pan.armed (p : Pan) : Nat := if p.st = .hold then 0 else if p.par.boostArm = 3 then 1 else p.par.boostArm
/-- The sum of R81 before its clamps. -/
def Pan.rawTarget (p : Pan) : Int := p.instSet + p.instOff
/-- The sum of R81 lies in the window, so that its clamps leave it as it is. -/
def Pan.inWindow (p : Pan) : Bool := decide ((p.par.winFloor : Int) ≤ p.rawTarget) && decide (p.rawTarget ≤ (max p.par.winCeil p.par.winFloor : Nat))
/-- The instantaneous target, mV (R81). A reference that starts at 0 V, or was preset to the grid's voltage, slews to the window
from where it stands, and below 0.300 V the start ramp stands in for the DAC (R105). -/
def Pan.target (p : Pan) : Int :=
  if p.preset then 300 + clampI p.rawTarget (-300) 1023
  else
    let t := max p.rawTarget p.par.winFloor
    let t := min t (max p.par.winCeil p.par.winFloor : Nat)
    300 + min (max t 0) 1023
/-- Effective fraction of SHARE, 1/64 (R105): a ramp-out lowers it to 0 over 16 us. -/
def Pan.fracNow (p : Pan) (now : Nat) : Nat :=
  if p.rampOut then p.rampFrom - p.rampFrom * min (now - p.rampAt) (16 * usT) / (16 * usT) else p.frac
/-- The limiter's trim at a moment, mV (R75): released at 1 mV per us once the current is below the limit. -/
def Pan.limNow (p : Pan) (now : Nat) : Nat :=
  match p.limRel with
  | none => p.limTrim
  | some t => p.limTrim - (now - t) / usT
/-- The combined trim of the regulation point, 0.25 mV steps (R100): share trim and limiter trim together, never below -12 mV or
above +4 mV. -/
def Pan.trimNow (p : Pan) (now : Nat) : Int := clampI (p.shareTrim - 4 * p.limNow now) (-48) 16
/-- The local regulation point, code of 1/16 mV (R75, R100). -/
def Pan.regPoint (p : Pan) (now : Nat) : Int := 16 * p.target + 4 * p.trimNow now
/-- The dead time in force, ps (R86). -/
def Pan.deadPs (p : Pan) : Nat := 40 + 20 * p.par.deadTime
/-- Amplitude of the injected ramp, mV (R85). -/
def rippleMv : Nat → Nat
  | 0 => 3
  | 1 => 5
  | 2 => 8
  | _ => 12
/-- Nominal crossover of a compensator code, MHz (R87). -/
def crossoverMHz (c : Nat) : Nat := 10 + 5 * c
/-- The short-time limit in force, mA (R73, R74): 1.30 of the rating, and the continuous limit until 30 us after an excursion. -/
def State.shortLimit (s : State) (n : Nat) : Nat := if (s.pan n).excur = .holdoff then s.contLimit n else 130 * (s.node n).rating
/-- The per-phase peak limit, mA (R73): the maker's fraction of the rating, 0.60 to 1.00. -/
def State.peakLimit (s : State) (n : Nat) : Nat :=
  clampN (match s.regionOf n with | some r => (s.rimg r).peakPct | none => 90) 60 100 * (s.node n).rating
/-- A voltage code of 1/16 mV from mV (R151). -/
def codeOf (mv : Int) : Int := 16 * mv
/-- The charge of a boost firing is counted (R148), in the current window in which it ends (R150). -/
def Pan.addBoost (w ns : Nat) (p : Pan) : Pan :=
  let f := p.boostFrac + p.par.boostCoef * ns
  { p with boostFrac := f % 16, boostQ := p.boostQ + f / 16, boostWin := p.boostWin.set 0 w (p.boostWin.get 0 w + f / 16),
           charge := p.charge + BitVec.ofNat 32 (f / 16) }
/-- The current window of an epoch that began at a tick (R150): 60 CKS cycles each, 80 of them. -/
def windowOf (epochAt now : Nat) : Nat := min 79 ((now - epochAt) / (60 * cksT))
/-- The current window in which a pan stands. -/
def State.windowNow (s : State) (n : Nat) : Nat := windowOf (s.node n).epochAt s.now
/-- A boost that conducts stops, and the charge of its conduction is counted (R93, R148). -/
def Pan.endBoost (now w : Nat) (p : Pan) : Pan :=
  if p.bst then { p.addBoost w (min p.par.boostNs ((now - p.bstAt) * 5 / 12)) with bst := false } else p
/-- Every gate command low (R79, R97). -/
def Pan.gatesLow (now w : Nat) (p : Pan) : Pan :=
  { p.endBoost now w with hga := false, lga := false, hgb := false, lgb := false, shn := false, droopFired := false, overFired := false }
/-- The boost and the shunt follow their comparators (R79, R93 to R95): never both at once, the boost within its count, and both
high-side gates low while the overshoot comparator is fired. -/
def Pan.transient (now : Nat) (p : Pan) : Pan :=
  let p := if p.droopFired && !p.bst && !p.shn && decide (p.fired < p.par.boostMax) then { p with bst := true, fired := p.fired + 1, bstAt := now } else p
  if p.overFired then { p with shn := p.shn || !p.bst, hga := false, hgb := false } else p
/-- Sense converters that work in A's and in B's place (R145, R146): C stands for one of them after a swap. -/
def Sense.working (x : Sense) : Nat :=
  b2n (if x.cFor = 1 then decide (x.c ≠ .failed) else decide (x.a ≠ .failed)) +
  b2n (if x.cFor = 2 then decide (x.c ≠ .failed) else decide (x.b ≠ .failed))
/-- The window parts as a state leaves them (R156, R158): armed on entry to SHADOW, RUN and HOLD, disarmed elsewhere; a
part whose enable is clear, or that has no converter, is neither. -/
def Pan.armWindows (p : Pan) : Pan :=
  let on := p.st = .shadow || p.st = .run || p.st = .hold
  let arm (en : Bool) (w : Window) : Window := { w with st := if on && en then .armed else .disabled }
  let can := decide (0 < p.sense.working)
  { p with fast := arm (p.par.fwEn && can) p.fast, slowV := arm (p.par.svEn && can) p.slowV,
           slowI := arm p.par.siEn p.slowI }
/-- A change of state (R105): the windows follow (R158); an epoch that a change touches does not qualify (R402), and a
passage through OFF starts the contact judge anew. -/
def Pan.to (st : PanSt) (p : Pan) : Pan :=
  let c := if st = .off then {} else { p.contact with wholeRun := false }
  ({ p with st := st, contact := c } : Pan).armWindows

/-- An EVENT of causes 0x10 to 0x17 (R110): each at most once per epoch, but 0x13, 0x15 and 0x17 on every change. -/
def State.panEvent (s : State) (n : Nat) (cause : Nat) (detail : Word) : State :=
  let k := cause - 16
  if (s.pan n).sent.getLsbD k && !(cause = 0x13 || cause = 0x15 || cause = 0x17) then s
  else (s.updPan n fun p => { p with sent := p.sent ||| (1 : BitVec 8) <<< k }).sendEvent n (BitVec.ofNat 8 cause) detail
/-- Cause 0x16 when a clamp of the target acts (R81); none acts on a reference that still slews to the window (R105). -/
def State.noteClamp (s : State) (n : Nat) : State :=
  let p := s.pan n
  let lo := decide (p.rawTarget < p.par.winFloor)
  let hi := decide ((max p.par.winCeil p.par.winFloor : Nat) < p.rawTarget)
  if p.st.runs && !p.preset && (lo || hi) then
    (s.updPan n fun p => { p with clampSide := some hi }).panEvent n 0x16 (if lo then 0 else 1)
  else s

/-! ### States (R105 to R108) -/

/-- Entry to HOLD (R105): EVENT 0x17 detail 1; the ramp fraction is held (R106). -/
def State.enterHold (s : State) (n : Nat) : State :=
  let p := s.pan n
  if p.st = .run ∨ p.st = .shadow then
    let w := s.windowNow n
    (s.updPan n fun p => ((({ p.endBoost s.now w with
      before := p.st, offAt := if p.instOff = p.offTarget then s.now else p.offAt, droopFired := false } : Pan).transient s.now).to .hold)).panEvent n 0x17 1
  else s
/-- A regulation-group WRITE has been received (R105, R106): it ends HOLD. -/
def State.noteWrite (s : State) (n : Nat) : State :=
  let s := s.updPan n fun p => { p with lastWrite := s.now }
  if (s.pan n).st = .hold ∧ s.onPathHold n = false then
    (s.updPan n fun p => ({ p with rampAt := if p.rampOut then p.rampAt else s.now, offAt := if p.instOff = p.offTarget then s.now else p.offAt } :
      Pan).to p.before).panEvent n 0x17 0
  else s

/-- OFF entered (R105). -/
def Pan.enterOff (now w : Nat) (p : Pan) : Pan :=
  ({ p.gatesLow now w with en := false, rampOut := false, starting := false, preset := false, frac := 0, de := false } : Pan).to .off

/-- MODE on in OFF (R105): with the grid live through PREBIAS, the reference preset to the remote-sensed voltage at the DAC's
resolution of 1 mV; else from 0 V. Privileged pans never enter diode emulation (R88). -/
def State.panStart (s : State) (n : Nat) : State :=
  let de := !s.privPan n
  s.updPan n fun p =>
    if 3200 ≤ p.grid then
      ({ p with en := true, de := de, instSet := (p.grid : Int) / 16 - 300 - p.instOff, frac := 0, prebiasAt := s.now, starting := false,
                preset := true } : Pan).to .prebias
    else
      ({ p with en := true, de := de, instSet := -300 - p.instOff, setAt := s.now, frac := 64, starting := true, preset := true,
                sense := { p.sense with runAt := s.now } } : Pan).to .run

/-- A committed MODE takes effect (R105, R108, R103): `own` says that it was addressed to the pan itself without BC. -/
def State.applyMode (s : State) (n : Nat) (own : Bool) (v : Word) : State :=
  let req := ufield v 0 2
  let spare := (s.node n).kind.isSpare
  if spare && !(s.pan n).admitted && decide (req = 1) && !own then s
  else
    let s := s.updPan n fun p => { p with
      admitted := (p.admitted || (spare && decide (req = 1))) && decide (req ≠ 2),
      par := { p.par with modeReq := req, dePermit := bitOf v 2, carryPermit := bitOf v 3, loopWd := bitOf v 4, carryAuto := false } }
    let p := s.pan n
    let w := s.windowNow n
    if p.st = .retired then s
    else if req = 2 then
      s.updPan n fun p => ({ p.gatesLow s.now w with en := false, rampOut := false, starting := false, preset := false } : Pan).to .retired
    else if req = 1 then
      if p.st = .off then s.panStart n
      else if p.rampOut ∧ p.st.runs then
        s.updPan n fun p => ({ p with frac := p.fracNow s.now, rampOut := false, rampAt := s.now } : Pan).to .shadow
      else s
    else if p.st = .faulted then
      if p.fltN then s.updPan n fun p => p.enterOff s.now w else s
    else if p.st.runs ∧ p.rampOut = false then
      s.updPan n fun p => { p with rampOut := true, rampFrom := if p.st = .prebias then 0 else p.frac, rampAt := s.now }
    else s

/-! ### Parameters (R80, R153, R184) -/

/-- A committed parameter of the regulation group as a value leaves it, saturated to its range (R80). VMCOMP is for privileged pans
only: an ordinary pan that receives it holds the code, which acts on nothing, and reports no event (DESIGN CHOICE, log 113). -/
def regStage (sel : Nat) (v : Word) (q : PanPar) : PanPar :=
  match sel with
  | 0x00 => { q with setpt := ufield v 0 10 }
  | 0x01 => { q with slew := clampN (ufield v 0 9) 1 500 }
  | 0x02 => { q with winCeil := ufield v 16 10, winFloor := ufield v 0 10 }
  | 0x04 => { q with offslew := clampN (ufield v 0 9) 1 500 }
  | 0x07 => { q with freq := clampN (ufield v 0 8) 60 200 }
  | 0x08 => { q with ripple := ufield v 0 2, deadTime := ufield v 4 4 }
  | 0x0A => { q with droopNorm := clampN (ufield v 0 6) 8 63, droopPre := clampN (ufield v 8 6) 4 63 }
  | 0x0B => { q with overshoot := clampN (ufield v 0 6) 8 63 }
  | 0x0C => { q with boostNs := clampN (ufield v 0 7) 2 100, boostMax := clampN (ufield v 8 8) 1 255 }
  | 0x0D => { q with balance := bitOf v 0 }
  | 0x0E => { q with vmcomp := ufield v 0 2 }
  | _ => q
/-- A parameter of the window group as a value leaves it (R153). -/
def winStage (sel : Nat) (v : Word) (q : PanPar) : PanPar :=
  match sel with
  | 0x40 => { q with fwBelow := max 4 (ufield v 0 8), fwAbove := max 4 (ufield v 8 8), fwHyst := max 1 (ufield v 16 4), fwEn := bitOf v 20 }
  | 0x41 => { q with svBelow := ufield v 0 8, svAbove := ufield v 8 8, svHyst := ufield v 16 4, svEn := bitOf v 20 }
  | 0x42 => { q with siHigh := ufield v 0 12, siLow := ufield v 12 12, siHyst := ufield v 24 4, siEn := bitOf v 28 }
  | 0x43 => { q with sensesel := ufield v 0 2 }
  | 0x44 => { q with calEn := bitOf v 0, skewFreeze := bitOf v 1 }
  | _ => q
/-- A parameter of the sample plan as a value leaves it (R184). -/
def planStage (sel : Nat) (v : Word) (q : PanPar) : PanPar :=
  match sel with
  | 0x64 => { q with epochV := bitOf v 0, epochI := bitOf v 1 }
  | _ =>
    if 0x60 ≤ sel ∧ sel ≤ 0x63 then
      { q with streamKind := q.streamKind.set 0 (sel - 0x60) (ufield v 0 8), streamInt := q.streamInt.set 0 (sel - 0x60) (ufield v 8 16) }
    else q

/-- SEL codes that a pan takes in a STAGE (R80, R153, R184). -/
def panStageSel (sel : Nat) : Bool :=
  [0x00, 0x01, 0x02, 0x04, 0x06, 0x07, 0x08, 0x0A, 0x0B, 0x0C, 0x0D, 0x0E, 0x40, 0x41, 0x42, 0x43, 0x44,
   0x60, 0x61, 0x62, 0x63, 0x64].contains sel
/-- SEL codes that a pan takes in a WRITE (R80, R153). -/
def panWriteSel (sel : Nat) : Bool := [0x03, 0x05, 0x09, 0x0F, 0x5C, 0x5D, 0x5E, 0x5F].contains sel
/-- SEL codes that a pond passes on to its subtree when they are addressed to it without BC (R72, R184). -/
def passedSel (sel : Nat) : Bool := decide (sel < 0x10) || (decide (0x60 ≤ sel) && decide (sel ≤ 0x64))

/-- Swap of sense converters by SENSESEL at its boundary (R153): a converter judged failed does not return, and C serves
one of the two. -/
def senseSelect (k : Nat) (x : Sense) : Sense :=
  if x.c = .failed then x
  else
    let back (x : Sense) : Sense :=
      if x.cFor = 1 ∧ x.a ≠ .failed then { x with a := .inUse, c := .spare, cFor := 0 }
      else if x.cFor = 2 ∧ x.b ≠ .failed then { x with b := .inUse, c := .spare, cFor := 0 }
      else x
    match k with
    | 1 =>
      let x := if x.cFor = 1 then x else back x
      if x.cFor = 0 ∧ x.a ≠ .failed then { x with a := .spare, c := .inUse, cFor := 1, coefC := x.factC, nextC := x.factC } else x
    | 2 =>
      let x := if x.cFor = 2 then x else back x
      if x.cFor = 0 ∧ x.b ≠ .failed then { x with b := .spare, c := .inUse, cFor := 2, coefC := x.factC, nextC := x.factC } else x
    | _ => back x
/-- EVENT 0x24 (R157): converters lost, the converter replaced, D failed. -/
def swapDetail (x : Sense) (replaced : Nat) (d : Bool) : Word := BitVec.ofNat 32 (x.lost + 4 * replaced + 16 * b2n d)

/-- A window part after a change of its parameters (R158): armed anew where its enable or its band has changed. -/
def Window.rearmed (changed live : Bool) (w : Window) : Window := if changed then { w with st := if live then .armed else .disabled } else w
/-- A committed value takes effect in a pan at its boundary (R80, R105, R153, R158, R184, R254). R254 restarts the set-point's step
counter at a change of SETPT or SLEW; a change of OFFSLEW restarts that of the offset in the same way (DESIGN CHOICE, log 114). -/
def State.applyStage (s : State) (n : Nat) (h : Hdr) (sel : Nat) (v : Word) : State :=
  if sel = 0x06 then s.applyMode n (!h.bc && decide (h.dst = (s.node n).id)) v
  else if sel < 0x40 then
    let p := s.pan n
    let q := regStage sel v p.par
    let moved := decide (q.setpt ≠ p.par.setpt) || decide (q.slew ≠ p.par.slew)
    (s.updPan n fun p => { p with
      par := q, setAt := if moved then s.now else p.setAt,
      offAt := if q.offslew ≠ p.par.offslew then s.now else p.offAt,
      trimA := if q.balance then p.trimA else 0, trimB := if q.balance then p.trimB else 0,
      satA := if q.balance then p.satA else 0, satB := if q.balance then p.satB else 0 }).noteClamp n
  else if sel = 0x43 then
    let x := (s.pan n).sense
    let y := senseSelect (ufield v 0 2) x
    let s := s.updPan n fun p => { p with par := winStage sel v p.par, sense := y }
    if y.cFor ≠ x.cFor ∧ y.cFor ≠ 0 then s.sendEvent n 0x24 (swapDetail y (y.cFor - 1) (decide (y.d = .failed))) else s
  else if sel < 0x60 then
    s.updPan n fun p =>
      let q := winStage sel v p.par
      let on := p.st = .shadow || p.st = .run || p.st = .hold
      let can := on && decide (0 < p.sense.working)
      let old := p.par
      { p with
        par := q,
        fast := p.fast.rearmed (decide (old.fwBelow ≠ q.fwBelow ∨ old.fwAbove ≠ q.fwAbove ∨ old.fwHyst ≠ q.fwHyst ∨ old.fwEn ≠ q.fwEn)) (can && q.fwEn),
        slowV := p.slowV.rearmed (decide (old.svBelow ≠ q.svBelow ∨ old.svAbove ≠ q.svAbove ∨ old.svHyst ≠ q.svHyst ∨ old.svEn ≠ q.svEn)) (can && q.svEn),
        slowI := p.slowI.rearmed (decide (old.siHigh ≠ q.siHigh ∨ old.siLow ≠ q.siLow ∨ old.siHyst ≠ q.siHyst ∨ old.siEn ≠ q.siEn)) (on && q.siEn),
        sense := if !old.calEn && q.calEn then { p.sense with runAt := s.now } else p.sense }
  else s.updPan n fun p => { p with
    par := planStage sel v p.par, streamAt := if sel < 0x64 then p.streamAt.set 0 (sel - 0x60) s.now else p.streamAt }

/-- Coefficients of a CALLOAD (R153). -/
def coefOf (v : Word) : ConvCoef := { offset := sfield v 0 10, gain := sfield v 10 12, skew := sfield v 22 8 }
/-- Calibration restarts (R153). -/
def Sense.restart (now : Nat) (x : Sense) : Sense :=
  { x with runs := 0, updA := 0, updB := 0, endA := {}, endB := {}, converged := false, shadowB := false, runAt := now }

/-- A WRITE takes effect in a pan on arrival (R80, R93, R100, R105, R153). -/
def State.applyWrite (s : State) (n : Nat) (sel : Nat) (v : Word) : State :=
  match sel with
  | 0x03 =>
    let p := s.pan n
    let idle := decide (p.instOff = p.offTarget)
    ((s.noteWrite n).updPan n fun p => { p with
      par := { p.par with offset := sfield v 0 8 }, offAt := if idle then s.now else p.offAt }).noteClamp n
  | 0x05 => (s.noteWrite n).updPan n fun p => { p with par := { p.par with share := ufield v 0 20 } }
  | 0x09 =>
    let w := s.windowNow n
    (s.noteWrite n).updPan n fun p =>
      let q := if ufield v 0 2 = 0 then { p.endBoost s.now w with droopFired := false } else p
      ({ q with
        par := { q.par with boostArm := ufield v 0 2, shuntEn := bitOf v 2 }, de := q.de && decide (ufield v 0 2 ≠ 2),
        shn := q.shn && bitOf v 2, overFired := q.overFired && bitOf v 2 } : Pan).transient s.now
  | 0x0F => (s.noteWrite n).updPan n fun p => { p with par := { p.par with carryAuto := bitOf v 0 } }
  | 0x5C => s.updPan n fun p => { p with sense := { p.sense.restart s.now with nextA := coefOf v } }
  | 0x5D => s.updPan n fun p => { p with sense := { p.sense.restart s.now with nextB := coefOf v } }
  | 0x5E => s.updPan n fun p => { p with sense := { p.sense.restart s.now with nextC := coefOf v, factC := coefOf v } }
  | 0x5F => s.updPan n fun p => { p with sense := { p.sense with nextCur := some (sfield v 0 12, ufield v 16 12) } }
  | _ => s

/-! ### Slews (R82, R254) -/

/-- The set-point slew of a pan steps by 1 mV. -/
def State.stepPanSet (s : State) (n : Nat) : State :=
  let p := s.pan n
  if p.instSet = p.par.setpt then s
  else
    let s := s.reach (p.setAt + slewT p.par.slew)
    let s := s.updPan n fun p => { p with instSet := stepTo p.instSet p.par.setpt, setAt := s.now }
    let s := s.updPan n fun p => { p with
      starting := p.starting && decide (p.instSet ≠ p.par.setpt), preset := p.preset && decide (p.instSet ≠ p.par.setpt) && !p.inWindow }
    s.noteClamp n
/-- The offset slew of a pan steps by 1 mV. -/
def State.stepPanOff (s : State) (n : Nat) : State :=
  let p := s.pan n
  if p.instOff = p.offTarget then s
  else
    let s := s.reach (p.offAt + slewT p.par.offslew)
    (s.updPan n fun p => { p with instOff := stepTo p.instOff p.offTarget, offAt := s.now }).noteClamp n
/-- SLEW_STEP (R82, R115): a running slew of a pan or a rail steps; slews of a pan run while its stage is enabled, HOLD
included, and not in PREBIAS, whose reference is preset. -/
def execSlewStep (k : SlewRef) (s : State) : Host.Outcome State Fault Refusal :=
  match k with
  | .panSet n => if (s.pan n).st = .prebias then done s else done (s.stepPanSet n)
  | .panOff n => done (s.stepPanOff n)
  | .railSet x => done (s.stepRailSet x)
  | .railOff x => done (s.stepRailOff x)

/-! ### Modulation (R76, R83, R84, R87) -/

/-- The trim of a phase. -/
def Pan.trimOf (p : Pan) (b : Bool) : Int := if b then p.trimB else p.trimA
/-- One phase's on-time starts at `at_` ns for `ton` ns; the other phase's has ended, and its low side conducts, in diode emulation
until its current has reached zero (R79, R84, R89). The edges stand apart by the dead time (R86). -/
def Pan.onTime (b : Bool) (at_ ton : Rat) (iOther : Int) (p : Pan) : Pan :=
  let low := !(p.de && decide (iOther ≤ 0))
  let p := { p with ton := ton, nextB := !b, gapPs := p.deadPs, periods := if b then p.periods else p.periods + 1 }
  if b then { p with hgb := true, lgb := false, hga := false, lga := low, endOnB := at_ + ton }
  else { p with hga := true, lga := false, hgb := false, lgb := low, endOnA := at_ + ton }
/-- The first tick not before a moment in ns. -/
def tickOf (t : Rat) : Nat := ((t * 12 / 5).ceil).toNat
/-- The earliest start of a phase's next on-time, ns (R84): 0.60 ns after the end of its last. -/
def Pan.onFrom (b : Bool) (now : Nat) (p : Pan) : Rat := max (nsOf now) ((if b then p.endOnB else p.endOnA) + 3 / 5)
/-- The on-time of an ordinary pan, ns (R83, R84): VIB feed-forward, the frequency lock, the phase's balance trim. -/
def Pan.cotTon (p : Pan) (b : Bool) (vibs : Nat) : Rat :=
  let f : Rat := if vibs = 0 then 0 else (16 * p.target : Int) / (vibs : Rat)
  max (f * 1000 / (p.par.freq : Rat) * p.klock * (1 + (p.trimOf b : Rat) / 400)) (2 / 5)
/-- The comparator's sum lies below its threshold (R83, R85): the sensed voltage and the injected ramp at `ramp`/256 of its
amplitude, against the regulation point and the ramp's mean. -/
def Pan.fires (p : Pan) (now v ramp : Nat) : Bool :=
  let amp : Int := 16 * rippleMv p.par.ripple
  decide ((v : Int) + amp * (ramp % 256 : Nat) / 256 < p.regPoint now + amp / 2)

/-- COT_COMPARATOR_FIRE (R83 to R86, R89): the on-time of the next phase; held off while the shunt conducts (R95). -/
def execCotComparatorFire (n : Nat) (vibs v ramp : Nat) (iOther : Int) (s : State) : Host.Outcome State Fault Refusal :=
  let p := s.pan n
  if s.isPan n ∧ s.privPan n = false ∧ p.st.runs ∧ p.overFired = false ∧ p.fires s.now v ramp then
    let at_ := p.onFrom p.nextB s.now
    let s := s.reach (tickOf at_)
    done (s.updPan n fun p => { p.onTime p.nextB at_ (p.cotTon p.nextB vibs) iOther with vibs := vibs })
  else done s

/-- The on-time of a voltage-mode period, ns (R84, R87, R88): a duty of 1/1,024 resolution from the compensator's control voltage
(free value) with VIB feed-forward, lowered by the limiter, and the phase's balance trim; at least 0.40 ns on and 0.60 ns off. -/
def Pan.vmTon (p : Pan) (b : Bool) (vc vibs now : Nat) : Rat :=
  let v := vc - 16 * p.limNow now
  let duty := if vibs = 0 then 0 else min 1024 (1024 * v / vibs)
  max (2 / 5) (min (20 / 3 - 3 / 5) ((duty : Rat) / 1024 * 20 / 3 * (1 + (p.trimOf b : Rat) / 400)))
/-- VOLTAGE_MODE_PERIOD (R87): the phases of a privileged pan begin their 150 MHz periods in turn, phase B one CKA cycle after
phase A. -/
def execVoltageModePeriod (n : Nat) (p : Phase2) (vibs : Nat) (s : State) : Host.Outcome State Fault Refusal :=
  let q := s.pan n
  let b := decide (p = .b)
  if s.isPan n ∧ s.privPan n ∧ q.st.runs ∧ q.nextB = b then
    let s := s.reach (q.vmAt + 8)
    let vc := (Config.compensator s.free (crossoverMHz q.par.vmcomp)).toNat
    done ((s.updPan n fun q =>
      let t := q.vmTon b vc vibs s.now
      { (if q.overFired then { q with nextB := !b, ton := t } else q.onTime b (nsOf s.now) t 1) with vibs := vibs, vmAt := s.now }).draw)
  else done s

/-- FREQUENCY_LOCK_UPDATE (R83, R91): every 64 periods k_lock is adjusted within 0.75 to 1.25; suspended in diode emulation. -/
def execFrequencyLockUpdate (n : Nat) (s : State) : Host.Outcome State Fault Refusal :=
  let p := s.pan n
  if s.isPan n ∧ s.privPan n = false ∧ p.st.runs ∧ p.de = false ∧ p.lockAt + 64 ≤ p.periods then
    done ((s.updPan n fun p => { p with klock := max (3 / 4) (min (Config.klock s.free) (5 / 4)), lockAt := p.periods }).draw)
  else done s

/-- PEAK_LIMIT_REACHED (R73, R76, R110): the phase's current has reached the per-phase peak limit in its on-time, which ends. -/
def execPeakLimitReached (n : Nat) (p : Phase2) (cur : Nat) (s : State) : Host.Outcome State Fault Refusal :=
  let q := s.pan n
  let high : Bool := match p with | .a => q.hga | .b => q.hgb
  if s.isPan n ∧ q.st.runs ∧ high ∧ s.peakLimit n ≤ cur then
    let s := s.updPan n fun q => match p with
      | .a => { q with hga := false, lga := true, gapPs := q.deadPs, endOnA := nsOf s.now, peaks := q.peaks ||| 1 }
      | .b => { q with hgb := false, lgb := true, gapPs := q.deadPs, endOnB := nsOf s.now, peaks := q.peaks ||| 2 }
    done (s.panEvent n 0x11 ((s.pan n).peaks.setWidth 32))
  else done s

/-! ### Current limits (R74, R75) -/

/-- EXCURSION_START (R74, R75): the average current rises above the continuous limit; what the limiter has released of its trim
stays released. -/
def execExcursionStart (n : Nat) (i : Nat) (s : State) : Host.Outcome State Fault Refusal :=
  let p := s.pan n
  if s.isPan n ∧ p.st.runs ∧ p.excur = .none ∧ s.contLimit n < i then
    done (s.updPan n fun p => { p with excur := .active, excurAt := s.now, limTrim := p.limNow s.now, limRel := none })
  else done s
/-- EXCURSION_END (R74, R75): the average current is back at the continuous limit; the limiter releases its trim. -/
def execExcursionEnd (n : Nat) (i : Nat) (s : State) : Host.Outcome State Fault Refusal :=
  let p := s.pan n
  if (p.excur = .active ∨ (p.limTrim ≠ 0 ∧ p.limRel = none)) ∧ i ≤ s.contLimit n then
    done (s.updPan n fun p => { p with
      excur := if p.excur = .active then .holdoff else p.excur, excurAt := if p.excur = .active then s.now else p.excurAt,
      limRel := some (p.limRel.getD s.now) })
  else done s
/-- EXCURSION_LIMIT (R74, R75): the current would pass the short-time limit, or an excursion has lasted 10 us: the limiter lowers
the regulation point by up to 12 mV (how far is a free value) and holds it; cause 0x10. -/
def execExcursionLimit (n : Nat) (cur : Nat) (s : State) : Host.Outcome State Fault Refusal :=
  let p := s.pan n
  let short := decide (s.shortLimit n < cur)
  if s.isPan n ∧ p.st.runs ∧ s.contLimit n < cur ∧ (short = true ∨ p.excur = .active) then
    let s := if short then s else s.reach (p.excurAt + 10 * usT)
    let t := (Config.measure s.free 90).toNat % 13
    let s := (s.updPan n fun p => { p with limTrim := max (p.limNow s.now) t, limRel := none }).draw
    done (s.panEvent n 0x10 (if short then 1 else 0))
  else done s
/-- EXCURSION_HOLDOFF_EXPIRY (R74): 30 us after the excursion's end. -/
def execExcursionHoldoffExpiry (n : Nat) (s : State) : Host.Outcome State Fault Refusal :=
  let p := s.pan n
  if p.excur = .holdoff then done ((s.reach (p.excurAt + 30 * usT)).updPan n fun p => { p with excur := .none }) else done s

/-! ### Diode emulation (R89 to R91) -/

/-- DE_ENTRY (R89): mean current below 8 % of rating. -/
def execDeEntry (n : Nat) (mean : Nat) (s : State) : Host.Outcome State Fault Refusal :=
  let p := s.pan n
  if s.isPan n ∧ s.privPan n = false ∧ p.st.runs ∧ p.par.dePermit ∧ p.armed ≠ 2 ∧ p.excur ≠ .active ∧ mean < 8 * (s.node n).rating then
    done (s.updPan n fun p => { p with de := true })
  else done s
/-- DE_EXIT_MEAN (R90): mean current above 12 % of rating over 16 firings. -/
def execDeExitMean (n : Nat) (mean : Nat) (s : State) : Host.Outcome State Fault Refusal :=
  if (s.pan n).de ∧ 12 * (s.node n).rating < mean then done (s.updPan n fun p => { p with de := false }) else done s

/-! ### Balance and share (R92, R100, R101) -/

/-- BALANCE_UPDATE (R92): every 256 switching periods; frozen in diode emulation (R91) and while the boost conducts. -/
def execBalanceUpdate (n : Nat) (ia ib : Int) (s : State) : Host.Outcome State Fault Refusal :=
  let p := s.pan n
  if s.isPan n ∧ p.st.runs ∧ p.par.balance ∧ p.de = false ∧ p.bst = false ∧ p.balAt + 256 ≤ p.periods then
    let d : Int := if ib < ia then 1 else if ia < ib then -1 else 0
    let a := clampI (p.trimA - d) (-31) 31
    let b := clampI (p.trimB + d) (-31) 31
    let e (x : Int) (k : Nat) : Nat := if x = 31 ∨ x = -31 then min 64 (k + 1) else 0
    done (s.updPan n fun p => { p with trimA := a, trimB := b, satA := e a p.satA, satB := e b p.satB, balAt := p.periods })
  else done s
/-- BALANCE_TRIM_SATURATED (R92, R110): 64 consecutive updates at an end. -/
def execBalanceTrimSaturated (n : Nat) (p : Phase2) (s : State) : Host.Outcome State Fault Refusal :=
  match p with
  | .a => if 64 ≤ (s.pan n).satA then done (s.panEvent n 0x14 0) else done s
  | .b => if 64 ≤ (s.pan n).satB then done (s.panEvent n 0x14 1) else done s

/-- The share that a pan acts on, mA (R101, R105). The rules give neither the order of the ramp fraction and the cap nor a rounding:
the fraction is taken first and rounded down, then capped to the continuous limit (DESIGN CHOICE, log 115). -/
def State.effShare (s : State) (n : Nat) : Nat := min ((s.pan n).par.share * (s.pan n).fracNow s.now / 64) (s.contLimit n)
/-- SHARE_TRIM_UPDATE (R100): each 64 switching periods one 0.25 mV step towards equality, within -4 mV and +4 mV; `trimNow`
keeps the combined trim in its bounds. In PREBIAS the effective share is 0 and there is no comparison unless it ramps out
(R105). -/
def execShareTrimUpdate (n : Nat) (mean : Nat) (s : State) : Host.Outcome State Fault Refusal :=
  let p := s.pan n
  if s.isPan n ∧ ((p.st = .run ∧ p.starting = false) ∨ p.st = .shadow ∨ p.st = .hold ∨ p.rampOut) ∧
      p.shareAt + 64 ≤ p.periods then
    let t := s.effShare n
    let d : Int := if mean < t then 1 else if t < mean then -1 else 0
    done (s.updPan n fun p => { p with shareTrim := clampI (p.shareTrim + d) (-16) 16, shareAt := p.periods })
  else done s

/-! ### Transient circuit (R93 to R96) -/

/-- The droop threshold in force, mV (R93). -/
def Pan.droopMv (p : Pan) : Nat := if p.armed = 2 then p.par.droopPre else p.par.droopNorm
/-- DROOP_CROSSING (R90, R93, R94): the comparator fires unless the boost is disarmed; an ordinary pan leaves diode emulation at
once. The boost conducts while its count is not used up and the shunt does not conduct (R79). -/
def execDroopCrossing (n : Nat) (v : Nat) (s : State) : Host.Outcome State Fault Refusal :=
  let p := s.pan n
  if s.isPan n ∧ p.st.runs ∧ p.armed ≠ 0 ∧ p.droopFired = false ∧ (v : Int) < codeOf (p.target - p.droopMv) then
    done (s.updPan n fun p => ({ p with droopFired := true, de := false } : Pan).transient s.now)
  else done s
/-- BOOST_RECOVERY (R93): back within (threshold - 2 mV) of the target, after `ns` of conduction where the boost conducts. -/
def execBoostRecovery (n : Nat) (v ns : Nat) (s : State) : Host.Outcome State Fault Refusal :=
  let p := s.pan n
  if p.droopFired ∧ codeOf (p.target - (p.droopMv - 2 : Nat)) ≤ (v : Int) ∧ (p.bst = false ∨ ns ≤ p.par.boostNs) then
    let w := s.windowNow n
    done (s.updPan n fun p => ({ (if p.bst then p.addBoost w ns else p) with bst := false, droopFired := false } : Pan).transient s.now)
  else done s
/-- BOOST_CONDUCTION_LIMIT (R93, R94): the limit's nanoseconds after the boost began to conduct. -/
def execBoostConductionLimit (n : Nat) (s : State) : Host.Outcome State Fault Refusal :=
  let p := s.pan n
  if p.bst then
    let s := s.reach (p.bstAt + tickOf p.par.boostNs)
    let w := s.windowNow n
    done ((s.updPan n fun p => ({ p.addBoost w p.par.boostNs with bst := false, droopFired := false } : Pan).transient s.now).panEvent n 0x12 0)
  else done s
/-- BOOST_COUNT_USED (R94): the firings of the epoch are used up. -/
def execBoostCountUsed (n : Nat) (s : State) : Host.Outcome State Fault Refusal :=
  let p := s.pan n
  if s.isPan n ∧ p.par.boostMax ≤ p.fired then done (s.panEvent n 0x12 1) else done s
/-- OVERSHOOT_CROSSING (R95): both high-side gates are held low; with the boost conducting the shunt waits (R79, R96). -/
def execOvershootCrossing (n : Nat) (v : Nat) (s : State) : Host.Outcome State Fault Refusal :=
  let p := s.pan n
  if s.isPan n ∧ p.st.runs ∧ p.par.shuntEn ∧ p.overFired = false ∧ codeOf (p.target + p.par.overshoot) < (v : Int) then
    done (s.updPan n fun p => ({ p with overFired := true } : Pan).transient s.now)
  else done s
/-- SHUNT_RECOVERY (R95): the overshoot comparator is no longer fired. -/
def execShuntRecovery (n : Nat) (v : Nat) (s : State) : Host.Outcome State Fault Refusal :=
  let p := s.pan n
  if p.overFired ∧ (v : Int) ≤ codeOf (p.target + (p.par.overshoot - 2 : Nat)) then
    done (s.updPan n fun p => ({ p with shn := false, overFired := false } : Pan).transient s.now)
  else done s
/-- SHUNT_CONDUCTION_LIMIT (R95): 64 ns. -/
def execShuntConductionLimit (n : Nat) (s : State) : Host.Outcome State Fault Refusal :=
  if (s.pan n).shn then done (s.updPan n fun p => ({ p with shn := false, overFired := false } : Pan).transient s.now) else done s

/-- Local sense entered (R99): cause 0x13 detail 1. -/
def State.fallback (s : State) (n : Nat) : State :=
  let was := (s.pan n).local_
  let s := s.updPan n fun p => { p with
    local_ := true, localAt := s.now, usedLocal := true, contact := { p.contact with wholeRun := false } }
  if was then s else s.panEvent n 0x13 1
/-- COMPARATOR_CONFLICT (R96). -/
def execComparatorConflict (n : Nat) (s : State) : Host.Outcome State Fault Refusal :=
  let p := s.pan n
  if p.droopFired ∧ p.overFired then
    let w := s.windowNow n
    done ((s.updPan n fun p => { p.endBoost s.now w with shn := false, droopFired := false, overFired := false }).fallback n)
  else done s
/-- SENSE_FALLBACK (R98, R99): more than 100 mV between the remote-sensed voltage and PAN_VLO. -/
def execSenseFallback (n : Nat) (rs vlo : Nat) (s : State) : Host.Outcome State Fault Refusal :=
  if s.isPan n then
    let s := s.updPan n fun p => { p with grid := rs, vlo := vlo }
    if 1600 < max rs vlo - min rs vlo then done (s.fallback n) else done s
  else done s
/-- SENSE_RETURN (R99): 4,096 CKS cycles without the condition. -/
def execSenseReturn (n : Nat) (s : State) : Host.Outcome State Fault Refusal :=
  let p := s.pan n
  if p.local_ then
    done (((s.reach (p.localAt + 4096 * cksT)).updPan n fun p => { p with local_ := false }).panEvent n 0x13 0)
  else done s

/-! ### Stage fault and the timed steps of the states (R105) -/

/-- PAN_STAGE_FAULT (R97, R105, R110). -/
def execPanStageFault (n : Nat) (s : State) : Host.Outcome State Fault Refusal :=
  if s.isPan n ∧ (s.pan n).fltN then
    let s := s.updPan n fun p => { p with fltN := false }
    let p := s.pan n
    let w := s.windowNow n
    let s := if p.st = .off ∨ p.st.runs then
        s.updPan n fun p => ({ p.gatesLow s.now w with en := true, rampOut := false, starting := false, preset := false } : Pan).to .faulted
      else s
    done (s.panEvent n 0x15 1)
  else done s
/-- PAN_STAGE_FAULT_CLEAR (R110). -/
def execPanStageFaultClear (n : Nat) (s : State) : Host.Outcome State Fault Refusal :=
  if s.isPan n ∧ (s.pan n).fltN = false then done ((s.updPan n fun p => { p with fltN := true }).panEvent n 0x15 0) else done s
/-- PREBIAS_COMPLETE (R105): 1,200 CKS cycles after entry. -/
def execPrebiasComplete (n : Nat) (s : State) : Host.Outcome State Fault Refusal :=
  let p := s.pan n
  if p.st = .prebias ∧ p.rampOut = false then
    let s := s.reach (p.prebiasAt + 1200 * cksT)
    done (s.updPan n fun p => ({ p with frac := 0, rampAt := s.now, setAt := s.now, sense := { p.sense with runAt := s.now } } :
      Pan).to .shadow)
  else done s
/-- SHADOW_RAMP_STEP (R105): each 4 us; RUN when the effective share equals SHARE. -/
def execShadowRampStep (n : Nat) (s : State) : Host.Outcome State Fault Refusal :=
  let p := s.pan n
  if p.st = .shadow ∧ p.rampOut = false then
    let s := s.reach (p.rampAt + 4 * usT)
    let f := min 64 (p.frac + 1)
    done (s.updPan n fun p =>
      let p := { p with frac := f, rampAt := s.now }
      if f = 64 then p.to .run else p)
  else done s
/-- RAMP_OUT_COMPLETE (R105): 16 us after the commit of MODE off. -/
def execRampOutComplete (n : Nat) (s : State) : Host.Outcome State Fault Refusal :=
  let p := s.pan n
  if p.rampOut then
    let s := s.reach (p.rampAt + 16 * usT)
    let w := s.windowNow n
    done (s.updPan n fun p => p.enterOff s.now w)
  else done s
/-- PAN_LOOP_WATCHDOG_EXPIRY (R34, R105): 6,000 CKS cycles without a regulation-group WRITE. -/
def execPanLoopWatchdogExpiry (n : Nat) (s : State) : Host.Outcome State Fault Refusal :=
  let p := s.pan n
  if p.par.loopWd ∧ (p.st = .run ∨ p.st = .shadow) then
    done ((s.reach (p.lastWrite + 6000 * cksT)).enterHold n)
  else done s

end Sys2Proof.Machine
end

