-- ==== Sys2Proof/Machine/Sense.lean ====
section
/-! DEFINITION. The measuring part of a pan (R139 to R160): calibration, the spare converter, window comparators, sample
streams, the contact judge, the pan's tallies, and what a pan does at its epoch boundary. -/

namespace Sys2Proof.Machine

/-! ### Conversions (R140, R147, R150, R151) -/

/-- A conversion, in 1/16 of a 10-bit code, corrected with its converter's coefficients (R140, R153), as a voltage code of 1/16 mV
at `step`/16 of a code per 1/16 code; full scale stands for the end of the range (DEDUCED, log 116). -/
def ConvCoef.correct (c : ConvCoef) (step : Rat) (raw16 : Nat) : Rat :=
  if 1023 * 16 ≤ raw16 then 16384 * step
  else max 0 (min (16384 * step) (((raw16 : Int) + c.offset : Int) * (65536 + c.gain : Int) / 65536 * step))
/-- The pair average, code of 1/16 mV (R140): the mean of the corrected conversions in A's and in B's place, 1.5 mV a code; with one
converter left, its conversion alone (R146). -/
def Sense.pairAvg (x : Sense) (a16 b16 : Nat) : Nat :=
  let ca := (if x.cFor = 1 then x.coefC else x.coefA).correct (3 / 2) a16
  let cb := (if x.cFor = 2 then x.coefC else x.coefB).correct (3 / 2) b16
  let okA := if x.cFor = 1 then decide (x.c ≠ .failed) else decide (x.a ≠ .failed)
  let okB := if x.cFor = 2 then decide (x.c ≠ .failed) else decide (x.b ≠ .failed)
  (roundR (if okA && okB then (ca + cb) / 2 else if okA then ca else if okB then cb else 0)).toNat
/-- A mean of D's conversions, code of 1/16 mV (R147): 2 mV a code. -/
def Sense.stageV (x : Sense) (d16 : Nat) : Nat := (roundR (x.coefD.correct 2 d16)).toNat
/-- A value folded into extremes (R160). -/
def Ext.fold (e : Ext) (v : Nat) : Ext :=
  let w := BitVec.ofNat 16 (Nat.min v 65535)
  { min := if w.toNat < e.min.toNat then w else e.min, max := if e.max.toNat < w.toNat then w else e.max }
/-- Quanta of a current window after the factory current gain (R149, R153), rounded window by window (DESIGN CHOICE, log 117). -/
def PanPar.gained (p : PanPar) (q : Nat) : Nat := (roundR ((q * (16384 + p.curGain) : Int) / (16384 : Rat))).toNat
/-- The current of window `i` of an epoch, mA (R150): the quanta counted in it. -/
def Pan.windowCur (p : Pan) (m : EpochMeas) (i : Nat) : Nat := p.par.gained (m.windows.getD i 0) + p.boostWin.get 0 i
/-- The charge of an epoch that the phases delivered, quanta (R148). -/
def Pan.phaseQ (p : Pan) (m : EpochMeas) : Nat := ((List.range 80).map fun i => p.par.gained (m.windows.getD i 0)).sum
/-- The epoch mean of the remote-sensed voltage, code. -/
def Pan.meanV (p : Pan) (m : EpochMeas) : Nat := p.sense.pairAvg m.meanA m.meanB
/-- The epoch mean of the load-point drop, code (R98, R147): none on local sense or without D (R99). -/
def Pan.meanDrop (p : Pan) (m : EpochMeas) : Option Int :=
  if p.local_ || p.usedLocal || decide (p.sense.d = .failed) then none else some ((p.sense.stageV m.meanD : Int) - p.meanV m)

/-! ### Calibration and the spare converter (R142 to R147) -/

/-- Coefficients moved towards agreement by at most 1/4 LSB, 2^-14 and 0.25 ps, within their ranges (R143, R153). `diff`
is the mean difference from C in 1/16 LSB, `gdiff` the gain difference in 2^-16, `sdiff` the slope difference. -/
def moveCoef (freeze : Bool) (diff gdiff sdiff : Int) (c : ConvCoef) : ConvCoef :=
  { offset := clampI (c.offset + clampI diff (-4) 4) (-512) 511,
    gain := clampI (c.gain + clampI gdiff (-4) 4) (-2048) 2047,
    skew := if freeze then c.skew else clampI (c.skew + clampI sdiff (-1) 1) (-128) 127 }
/-- Consecutive updates at which each coefficient stands at an end of its range (R145). -/
def EndCount.next (c : ConvCoef) (e : EndCount) : EndCount :=
  { offset := if c.offset = -512 ∨ c.offset = 511 then min 8 (e.offset + 1) else 0,
    gain := if c.gain = -2048 ∨ c.gain = 2047 then min 8 (e.gain + 1) else 0,
    skew := if c.skew = -128 ∨ c.skew = 127 then min 8 (e.skew + 1) else 0 }
/-- A coefficient has stood at an end for 8 consecutive updates (R145). -/
def EndCount.full (e : EndCount) : Bool := decide (8 ≤ e.offset) || decide (8 ≤ e.gain) || decide (8 ≤ e.skew)
/-- Without a converter the fast window and the voltage slow window are disarmed (R146). -/
def Pan.noConverter (p : Pan) : Pan :=
  if p.sense.working = 0 then { p with fast := { p.fast with st := .disabled }, slowV := { p.slowV with st := .disabled } } else p
/-- Offset and gain corrected from the errors at 0.500 V and 1.000 V, 1/16 LSB (R143, R147); `span` is 16 times the codes
between the two references. -/
def refCoef (e05 e10 : Int) (span : Nat) (c : ConvCoef) : ConvCoef :=
  { c with offset := clampI (c.offset - (2 * e05 - e10)) (-512) 511,
           gain := clampI (c.gain - roundR ((e10 - e05 : Int) * 65536 / (span : Rat))) (-2048) 2047 }

/-- Converter A or B is judged failed (R145, R146): it is lost; C takes its place at the next boundary while it is the
spare. -/
def State.failConv (s : State) (n : Nat) (b : Bool) : State :=
  let x := (s.pan n).sense
  let already := if b then decide (x.b = .failed) else decide (x.a = .failed)
  if already then s
  else
    let lost := min 3 (x.lost + 1)
    let swap := decide (x.c = .spare) && decide (x.cFor = 0) && !x.swapA && !x.swapB
    let y := { x with lost := lost, failedNow := true }
    let y := if b then { y with b := .failed, swapB := swap } else { y with a := .failed, swapA := swap }
    let s := s.updPan n fun p => ({ p with sense := y } : Pan).noConverter
    if swap then s else s.sendEvent n 0x24 (swapDetail y (b2n b) (decide (y.d = .failed)))
/-- C has failed: as a spare it is lost for later; in use, a converter more is lost (R146). -/
def State.failC (s : State) (n : Nat) : State :=
  let x := (s.pan n).sense
  if x.c = .failed then s
  else
    let y := { x with c := .failed, lost := min 3 (x.lost + 1), failedNow := true, swapA := false, swapB := false }
    let s := s.updPan n fun p => ({ p with sense := y } : Pan).noConverter
    s.sendEvent n 0x24 (swapDetail y (x.cFor - 1) (decide (x.d = .failed)))
/-- D is judged failed (R147): EVENT 0x24 detail [4]. -/
def State.failD (s : State) (n : Nat) : State :=
  let x := (s.pan n).sense
  if x.d = .failed then s
  else
    let s := s.updPan n fun p => { p with sense := { p.sense with d := .failed, failedNow := true } }
    s.sendEvent n 0x24 (swapDetail x 0 true)

/-- The absolute check of every 64th run (R143, R147): C's and D's own coefficients corrected, EVENT 0x25 detail [1] when C
lies more than 8 LSB off, D failed beyond 16 LSB. -/
def State.refRun (s : State) (n : Nat) (r05 r10 d05 d10 : Int) : State :=
  let s := s.updPan n fun p => { p with sense := { p.sense with
    runs := p.sense.runs + 1, nextC := refCoef r05 r10 5333 p.sense.nextC,
    nextD := if p.sense.d = .failed then p.sense.nextD else refCoef d05 d10 4000 p.sense.nextD } }
  let s := if 128 < r05.natAbs ∨ 128 < r10.natAbs then s.sendEvent n 0x25 2 else s
  if 256 < d05.natAbs ∨ 256 < d10.natAbs then s.failD n else s

/-- Ticks of a shadow run (R143): 65,536 conversions at 150 MS/s. -/
def runT : Nat := 65536 * 16
/-- SHADOW_RUN_END (R143, R145, R157): C shadows A and B in turn; after a swap the two converters in use are moved towards each
other in the same turns, without an absolute check; a failed C shadows nothing. -/
def execShadowRunEnd (n : Nat) (diff gdiff sdiff ref05 ref10 dref05 dref10 : Int) (s : State) : Host.Outcome State Fault Refusal :=
  let p := s.pan n
  let x := p.sense
  let on := p.st = .shadow || p.st = .run || p.st = .hold
  if s.isPan n ∧ on ∧ p.par.calEn ∧ x.c ≠ .failed ∧ x.working = 2 then
    let s := s.reach (x.runAt + runT)
    let x := { x with runAt := s.now }
    let s := s.updPan n fun p => { p with sense := { p.sense with runAt := s.now } }
    if x.cFor = 0 ∧ x.c = .spare ∧ (x.runs + 1) % 64 = 0 then done (s.refRun n ref05 ref10 dref05 dref10)
    else
      let b := x.shadowB
      let viaC := decide (x.cFor = if b then 2 else 1)
      let c := moveCoef p.par.skewFreeze diff gdiff sdiff (if viaC then x.nextC else if b then x.nextB else x.nextA)
      let e := (if b then x.endB else x.endA).next c
      let y := { x with runs := x.runs + 1, shadowB := !b }
      let y := if viaC then { y with nextC := c } else if b then { y with nextB := c } else { y with nextA := c }
      let y := if b then { y with updB := min 32 (y.updB + 1), endB := e } else { y with updA := min 32 (y.updA + 1), endA := e }
      let conv := decide (y.updA = 32) && decide (y.updB = 32)
      let s := s.updPan n fun p => { p with sense := { y with converged := conv } }
      let s := if conv && !x.converged then s.sendEvent n 0x25 1 else s
      if (256 < diff.natAbs ∧ x.cFor = 0) ∨ (e.full = true ∧ viaC = false) then done (s.failConv n b) else done s
  else done s

/-- CONVERSION_CHECK_FAILURES (R145, R147): 4 failures in one epoch. -/
def execConversionCheckFailures (n : Nat) (k : Conv) (s : State) : Host.Outcome State Fault Refusal :=
  if s.isPan n then
    match k with
    | .a => done (s.failConv n false)
    | .b => done (s.failConv n true)
    | .c => done (s.failC n)
    | .d => done (s.failD n)
  else done s

/-! ### Window comparators (R154 to R158) -/

/-- FAST_WINDOW_EXIT (R90, R154, R157): the pair average of two conversions lies outside the fast window. -/
def execFastWindowExit (n : Nat) (ca cb : Nat) (s : State) : Host.Outcome State Fault Refusal :=
  let p := s.pan n
  let v := p.sense.pairAvg (16 * ca) (16 * cb)
  let lo := decide ((v : Int) < codeOf (p.target - p.par.fwBelow))
  let hi := decide (codeOf (p.target + p.par.fwAbove) < (v : Int))
  if s.isPan n ∧ p.fast.st = .armed ∧ (lo || hi) then
    let code : BitVec 16 := if p.sense.working < 2 then 0 else BitVec.ofNat 16 v
    let first := !p.fast.sentFirst
    let s := s.updPan n fun p => { p with
      de := false, vExt := p.vExt.fold v,
      fast := { p.fast with
        st := if lo then .exitedLow else .exitedHigh, sentFirst := true,
        count := if first then p.fast.count else satN (p.fast.count + 1) 255,
        lowLast := if first then p.fast.lowLast else lo, code := if first then p.fast.code else code } }
    done (if first then s.sendEvent n 0x20 (BitVec.ofNat 32 ((if lo then 0 else 1) + 256 + code.toNat * 65536)) else s)
  else done s
/-- FAST_WINDOW_REARM (R156): a pair average back inside the band, by at least the hysteresis on the side where it left. -/
def execFastWindowRearm (n : Nat) (ca cb : Nat) (s : State) : Host.Outcome State Fault Refusal :=
  let p := s.pan n
  let v := p.sense.pairAvg (16 * ca) (16 * cb)
  let low (k : Int) : Bool := decide (codeOf (p.target - p.par.fwBelow + k) ≤ (v : Int))
  let high (k : Int) : Bool := decide ((v : Int) ≤ codeOf (p.target + p.par.fwAbove - k))
  let back := match p.fast.st with
    | .exitedLow => low p.par.fwHyst && high 0
    | .exitedHigh => low 0 && high p.par.fwHyst
    | _ => false
  if back then done (s.updPan n fun p => { p with fast := { p.fast with st := .armed }, vExt := p.vExt.fold v }) else done s

/-- One evaluation of a slow window part (R156): below, above, and back inside the band by the hysteresis on the low or the high
side. -/
def slowEval (lo hi backLo backHi : Bool) (w : WinSt) : WinSt × Option Bool :=
  match w with
  | .armed => if lo then (.exitedLow, some false) else if hi then (.exitedHigh, some true) else (.armed, none)
  | .exitedLow => (if backLo then .armed else .exitedLow, none)
  | .exitedHigh => (if backHi then .armed else .exitedHigh, none)
  | .disabled => (.disabled, none)

/-- The slow window of the epoch that has ended, and the summary of its fast exits (R155, R157). -/
def State.slowWindows (s : State) (n : Nat) (m : EpochMeas) (inc : Nat) : State :=
  let p := s.pan n
  let q := p.par
  let vMean := p.meanV m
  let lo := (m.tMean : Int) - codeOf q.svBelow
  let hi := (m.tMean : Int) + codeOf q.svAbove
  let v := slowEval (decide ((vMean : Int) < lo)) (decide (hi < (vMean : Int)))
    (decide (lo + codeOf q.svHyst ≤ (vMean : Int)) && decide ((vMean : Int) ≤ hi))
    (decide ((vMean : Int) ≤ hi - codeOf q.svHyst) && decide (lo ≤ (vMean : Int))) p.slowV.st
  let i := slowEval (decide (inc < 80 * q.siLow)) (decide (80 * q.siHigh < inc))
    (decide (80 * (q.siLow + 8 * q.siHyst) ≤ inc) && decide (inc ≤ 80 * q.siHigh))
    (decide (inc + 640 * q.siHyst ≤ 80 * q.siHigh) && decide (80 * q.siLow ≤ inc)) p.slowI.st
  let s := s.updPan n fun p => { p with
    slowV := { p.slowV with st := v.1 }, slowI := { p.slowI with st := i.1 },
    fast := { p.fast with sentFirst := false, count := 0 } }
  let s := match v.2 with
    | some h => s.sendEvent n 0x22 (BitVec.ofNat 32 (b2n h + vMean % 65536 * 65536))
    | none => s
  let s := match i.2 with
    | some h => s.sendEvent n 0x22 (BitVec.ofNat 32 (b2n h + 4 + (roundR ((inc : Rat) / 80)).toNat % 65536 * 65536))
    | none => s
  if p.fast.count = 0 then s
  else s.sendEvent n 0x20 (BitVec.ofNat 32 (b2n (!p.fast.lowLast) + 2 + 256 * p.fast.count + p.fast.code.toNat * 65536))

/-! ### Streams (R152, R184, R185) -/

/-- Value of a SAMPLE: the quantity and the sender delay (R152). -/
def sampleWord (q : BitVec 16) (delay : Nat) : Word := BitVec.ofNat 32 (q.toNat + min delay 4095 * 2 ^ 20)
/-- The tick at which a stream's present interval ends (R184, R185): 100 ns are 240 ticks. -/
def Pan.streamEnd (p : Pan) (k : Nat) : Nat := p.streamAt.get 0 k + 240 * p.par.streamInt.get 0 k
/-- A stream is on (R184). -/
def Pan.streamOn (p : Pan) (k : Nat) : Bool :=
  decide (k < 4) && decide (p.par.streamInt.get 0 k ≠ 0) && [1, 2, 3, 4, 7].contains (p.par.streamKind.get 0 k)
/-- No stream before `k` ends its interval on the same CKS cycle and still waits (R185). -/
def Pan.streamTurn (p : Pan) (k : Nat) : Bool := (List.range k).all fun j => !p.streamOn j || decide (p.streamEnd k / cksT < p.streamEnd j / cksT)
/-- The quantity of a SAMPLE kind (R147, R152), from the means of the conversions over the interval, 1/16 code, and of the current,
mA: kind 0x03 reads as not available on local sense and without D. -/
def Pan.sampleOf (p : Pan) (kind ca cb cd : Nat) (cur : Int) : BitVec 16 :=
  if kind = 1 then BitVec.ofNat 16 (p.sense.pairAvg ca cb)
  else if kind = 3 then
    if p.local_ || decide (p.sense.d = .failed) then 0x8000
    else BitVec.ofInt 16 ((p.sense.stageV cd : Int) - p.sense.pairAvg ca cb)
  else if kind = 4 then BitVec.ofNat 16 (p.sense.stageV cd)
  else BitVec.ofInt 16 cur
/-- SAMPLE_STREAM_INTERVAL (R184, R185): one SAMPLE of the stream's kind, the streams of one CKS cycle in stream order; the next
interval follows back to back; kind 0x04 is not sent without D (R147). -/
def execSampleStreamInterval (n k ca cb cd : Nat) (cur : Int) (delay : Nat) (s : State) : Host.Outcome State Fault Refusal :=
  let p := s.pan n
  let kind := p.par.streamKind.get 0 k
  if s.isPan n ∧ p.streamOn k ∧ p.streamTurn k then
    let s := s.reach (p.streamEnd k)
    let s := s.updPan n fun q => { q with streamAt := q.streamAt.set 0 k (p.streamEnd k) }
    if kind = 4 ∧ p.sense.d = .failed then done s
    else done (s.sendUp n (samplePkt (s.node n).id (BitVec.ofNat 8 kind) (sampleWord (p.sampleOf kind ca cb cd cur) delay)))
  else done s

/-! ### The contact judge (R402, R403) -/

/-- Quanta of one epoch at a fraction of rating: rating in 0.1 A, 8,000 quanta each (R104, R402). -/
def ratedQ (rating : Nat) : Nat := 8000 * rating
/-- The epoch that has ended qualifies (R402). -/
def State.qualifies (s : State) (n : Nat) (m : EpochMeas) (inc : Nat) : Bool :=
  let p := s.pan n
  p.contact.wholeRun && decide (p.st = .run) && !p.local_ && !p.usedLocal && decide (p.sense.d ≠ .failed) &&
    decide (ratedQ (s.node n).rating * 2 < inc * 5) && (p.meanDrop m).isSome
/-- The judge at a boundary: sums to 1,000 qualifying epochs, then counts excess (R402, R403). -/
def State.judge (s : State) (n : Nat) (m : EpochMeas) (inc : Nat) : State :=
  let c := (s.pan n).contact
  let d := ((s.pan n).meanDrop m).getD 0
  let c :=
    if s.qualifies n m inc = false then c
    else if c.n < 1000 then { c with n := c.n + 1, sumD := c.sumD + d, sumI := c.sumI + inc, drop := d, cur := inc }
    else if c.stopped then c
    else { c with drop := d, cur := inc,
                  excess := if 130 * c.sumD * inc < 100 * d * c.sumI then min 64 (c.excess + 1) else 0 }
  s.updPan n fun p => { p with contact := { c with wholeRun := decide (p.st = .run) && !p.local_ } }
/-- R_b in 0.01 mOhm (R402): a drop code is 1/16 mV and a current unit 0.0125 mA, so d / i is 5,000 mOhm. -/
def Contact.rb (c : Contact) : Nat := if c.sumI = 0 then 0 else (roundR ((c.sumD : Rat) * 500000 / (c.sumI : Rat))).toNat
/-- CONTACT_BASELINE_FORMED (R402): cause 0x18 detail 1, or 3 beyond RPMAX. -/
def execContactBaselineFormed (n : Nat) (s : State) : Host.Outcome State Fault Refusal :=
  let c := (s.pan n).contact
  if s.isPan n ∧ c.n = 1000 ∧ c.formed = false then
    let rb := min 65535 c.rb
    let s := s.updPan n fun p => { p with contact := { p.contact with formed := true } }
    done (s.sendEvent n 0x18 (BitVec.ofNat 32 ((if s.sys.image.rpmax < rb then 3 else 1) + 65536 * rb)))
  else done s
/-- CONTACT_SUSPECT (R403): 64 consecutive qualifying epochs of excess drop; the pan stops counting. -/
def execContactSuspect (n : Nat) (s : State) : Host.Outcome State Fault Refusal :=
  let c := (s.pan n).contact
  if s.isPan n ∧ 64 ≤ c.excess ∧ c.stopped = false then
    done ((s.updPan n fun p => { p with contact := { p.contact with stopped := true } }).sendEvent n 0x18 2)
  else done s

/-! ### Tallies of a pan (R412) -/

/-- One epoch counted. -/
def State.panCount (s : State) (n : Nat) (m : EpochMeas) (inc : Nat) : State :=
  let r := (s.node n).rating
  s.updPan n fun p =>
    let t := p.tally
    let on := p.st = .shadow || p.st = .run || p.st = .hold
    let b := if r = 0 then 15 else min 15 (12 * inc / ratedQ r)
    { p with tally := { t with
        bins := if on then t.bins.set 0 b (satN (t.bins.get 0 b + 1) 65535) else t.bins,
        carry := if ratedQ r < inc then satN (t.carry + 1) 65535 else t.carry,
        boostEpochs := if 0 < p.fired then satN (t.boostEpochs + 1) 65535 else t.boostEpochs,
        firings := satN (t.firings + p.fired) 0xFFFFFFFF, reverse := satN (t.reverse + m.reverse) 0xFFFFFFFF } }
/-- TALLY_REPORT_INTERVAL (R412): at its slot of 32,768 epochs a pan reports its counts and starts from zero. -/
def execTallyReportInterval (n : Nat) (s : State) : Host.Outcome State Fault Refusal :=
  let x := s.node n
  if s.isPan n ∧ x.id ≠ 0 ∧ x.epochNo.toNat % 32768 = x.id.toNat * 4 % 32768 then
    let t := (s.pan n).tally
    let s := (List.range 8).foldl (fun s j => s.sendEvent n (BitVec.ofNat 8 (0x30 + j))
      (BitVec.ofNat 32 (t.bins.get 0 (2 * j) + 65536 * t.bins.get 0 (2 * j + 1)))) s
    let s := s.sendEvent n 0x38 (BitVec.ofNat 32 (t.carry + 65536 * t.boostEpochs))
    let s := s.sendEvent n 0x39 (BitVec.ofNat 32 t.reverse)
    let s := s.sendEvent n 0x3A (BitVec.ofNat 32 t.firings)
    done (s.updPan n fun p => { p with tally := {} })
  else done s

/-! ### The boundary (R65, R144, R145, R148, R160, R185) -/

/-- RQ packet (R43). -/
def rqPkt (src : NodeId) (tag : BitVec 3) (count : Nat) : Packet :=
  pkt 9 { bc := false, dst := src } (tag.toNat * 2 ^ 40 + count % 2 ^ 40)
/-- RMM packet (R43). -/
def rmmPkt (src : NodeId) (tag : BitVec 3) (cur inc : Bool) (e : Ext) : Packet :=
  pkt 10 { bc := false, dst := src } (tag.toNat * 2 ^ 40 + b2n cur * 2 ^ 38 + b2n inc * 2 ^ 37 + e.max.toNat * 2 ^ 16 + e.min.toNat)

/-- Converters swapped at a boundary (R145): C in place of the failed one, with its factory coefficients; EVENT 0x24. -/
def State.swapConv (s : State) (n : Nat) : State :=
  let x := (s.pan n).sense
  if x.swapA || x.swapB then
    let y := { x with
      c := .inUse, cFor := if x.swapA then 1 else 2, coefC := x.factC, nextC := x.factC, swapA := false, swapB := false,
      endA := if x.swapA then {} else x.endA, endB := if x.swapA then x.endB else {} }
    (s.updPan n fun p => { p with sense := y }).sendEvent n 0x24 (swapDetail y (if x.swapA then 0 else 1) (decide (x.d = .failed)))
  else s

/-- What a pan does at its epoch boundary with the epoch that has ended, `tag` being that epoch's number modulo 8: charge,
RQ and RMM (R65, R148, R160), slow windows (R155), epoch samples (R185), the contact judge (R402), its tallies (R412), and
the coefficients and converters that take force (R144, R145). -/
def State.panEpoch (s : State) (n : Nat) (tag : BitVec 3) (m : EpochMeas) : State :=
  let p := s.pan n
  let id := (s.node n).id
  let on := p.st = .shadow || p.st = .run || p.st = .hold
  let vMean := p.meanV m
  let inc := p.phaseQ m + p.boostQ
  let s := s.updPan n fun p => { p with
    charge := p.charge + BitVec.ofNat 32 (p.phaseQ m), grid := vMean,
    vExt := (p.vExt.fold (p.sense.pairAvg (16 * m.loA) (16 * m.loB))).fold (p.sense.pairAvg (16 * m.hiA) (16 * m.hiB)),
    iExt := (List.range 80).foldl (fun e i => e.fold (p.windowCur m i)) p.iExt }
  let s := s.sendUp n (rqPkt id tag (s.pan n).charge.toNat)
  let noConv := decide (p.sense.working = 0)
  let s := s.sendUp n (rmmPkt id tag false (p.usedLocal || p.sense.failedNow || noConv) (if !on || noConv then {} else (s.pan n).vExt))
  let s := s.sendUp n (rmmPkt id tag true false (if on then (s.pan n).iExt else {}))
  let s := s.slowWindows n m inc
  let delay := (Config.measure s.free 92).toNat % 17
  let s := if on && p.par.epochV then (s.sendUp n (samplePkt id 5 (sampleWord (BitVec.ofNat 16 vMean) delay))).draw else s
  let s := if on && p.par.epochI then
      (s.sendUp n (samplePkt id 6 (sampleWord (BitVec.ofNat 16 (roundR ((inc : Rat) / 80)).toNat) delay))).draw else s
  let s := (s.panCount n m inc).judge n m inc
  let s := s.swapConv n
  s.updPan n fun p => { p with
    boostQ := 0, boostWin := [], vExt := {}, iExt := {}, fired := 0, peaks := 0, sent := 0, clampSide := none, usedLocal := p.local_,
    par := match p.sense.nextCur with
      | some c => { p.par with curGain := c.1, boostCoef := c.2 }
      | none => p.par,
    sense := { p.sense with failedNow := false, nextCur := none, coefA := p.sense.nextA, coefB := p.sense.nextB, coefC := p.sense.nextC, coefD := p.sense.nextD } }

end Sys2Proof.Machine
end

