-- ==== Sys2Proof/Machine/Tree.lean ====
section
/-! DEFINITION. The commands of the sluice tree (R36 to R72): packets that reach a node, links and their credits,
enumeration, glue-up carriage at the nodes, roll-up carriage, and path switches. -/

namespace Sys2Proof.Machine

/-! ### Downward packets of the SEL groups (R44, R54, R61, R72) -/

/-- A STAGE joins the set that a node holds for a tag; another tag begins another set. -/
def HeldSet.add (tag : BitVec 3) (x : HeldStage) (k : HeldSet) : HeldSet :=
  if k.tag = tag then { k with stages := k.stages ++ [x] } else { tag := tag, stages := [x] }
/-- STAGE packets held under a header. -/
def HeldSet.count (k : HeldSet) (h : Hdr) : Nat := (k.stages.filter fun x => decide (x.h = h)).length

/-- EVENT 0x02: a SEL that the node does not implement, or in the wrong packet type (R44, R80). The rules give that event no
detail: it is 0 (DESIGN CHOICE, log 109). -/
def State.badSel (s : State) (n : Nat) : State := s.sendEvent n 0x02 0

/-- A node receives a STAGE (R54, R61, R63, R72): a pan holds it; a pond counts it in its set and passes it on, by BC to
every child port, without BC where R72 or R184 says so. -/
def State.recvStage (s : State) (n : Nat) (h : Hdr) (tag : BitVec 3) (sel : Nat) (v : Word) : State :=
  let p := stagePkt h sel tag v
  if n = 0 ∨ s.hasDown n p = false then s
  else
    let s := s.takeDown n p
    if s.isFor n h = false then s.onward n p
    else
      let hold (s : State) : State := s.updNode n fun x => { x with held := x.held.add tag ⟨h, BitVec.ofNat 8 sel, v⟩ }
      if s.isPan n then (if panStageSel sel then hold s else s.badSel n)
      else
        let ok := panStageSel sel && (h.bc || passedSel sel)
        let s := if ok then hold s else s.badSel n
        if ok || h.bc then s.toAll n p else s

/-- A pond passes a SHARE target to each child, scaled by the child's rating over its own, rounded as R13 says (R72). -/
def State.passShare (s : State) (n : Nat) (h : Hdr) (v : Word) : State :=
  (s.openPorts n).foldl (fun s k =>
    match s.linkAt n k with
    | some l =>
      let r := (s.node n).rating
      let x := if r = 0 then 0 else (roundR ((ufield v 0 20 * (s.node l.node).rating : Nat) / (r : Rat))).toNat
      s.sendOn l .down (writePkt h 0x05 (BitVec.ofNat 32 (min x 0xFFFFF)))
    | none => s) s

/-- A pond's own registers written (R44). -/
def Node.write (sel : Nat) (v : Word) (x : Node) : Node :=
  if sel = 0x70 then { x with roster := v.setWidth 16 }
  else if 0x72 ≤ sel ∧ sel < 0x7A then
    let k := (sel - 0x72) / 2
    let e := x.exc.get {} k
    if sel % 2 = 0 then { x with exc := x.exc.set {} k { e with lo := (v >>> 16).setWidth 16, hi := v.setWidth 16 } }
    else { x with exc := x.exc.set {} k { e with valid := bitOf v 31, port := ufield v 0 5 } }
  else if 0x80 ≤ sel ∧ sel < 0x90 then
    let e := x.ranges.get {} (sel - 0x80)
    let e := { e with lo := (v >>> 16).setWidth 16, hi := v.setWidth 16, used := true, disabled := decide (v = emptyRange) }
    { x with ranges := x.ranges.set {} (sel - 0x80) e }
  else x
/-- SEL codes of a pond's own registers. -/
def pondSel (sel : Nat) : Bool :=
  decide (sel = 0x70) || (decide (0x72 ≤ sel) && decide (sel < 0x7A)) || (decide (0x80 ≤ sel) && decide (sel < 0x90))

/-- The CKS cycle is that of a node's own boundary, whose committed values have not applied yet (R82). -/
def State.onBoundary (s : State) (n : Nat) : Bool :=
  let b := (s.node n).epochAt + epochT
  decide (b ≤ s.now) && decide (s.now < b + cksT)
/-- A node receives a WRITE (R44, R54, R72, R80): it applies on arrival, on a boundary's own cycle after the committed values of
that boundary (R82). -/
def State.recvWrite (s : State) (n : Nat) (h : Hdr) (sel : Nat) (v : Word) : State :=
  let p := writePkt h sel v
  if n = 0 ∨ s.hasDown n p = false then s
  else
    let s := s.takeDown n p
    if s.isFor n h = false then s.onward n p
    else if sel = 0x71 then
      let s := s.selectPath n (bitOf v 0)
      if h.bc ∧ s.isPan n = false then s.toAll n p else s
    else if s.isPan n then
      (if panWriteSel sel && decide (sel ≠ 0x0F) then
        (if s.onBoundary n then s.updPan n fun p => { p with late := p.late ++ [(sel, v)] } else s.applyWrite n sel v)
      else s.badSel n)
    else
      let s :=
        if pondSel sel then s.updNode n (Node.write sel v)
        else if h.bc && panWriteSel sel && decide (sel ≠ 0x0F) then s
        else if !h.bc && panWriteSel sel && decide (sel < 0x0F) then s
        else s.badSel n
      if h.bc then s.toAll n p
      else if sel = 0x05 then s.passShare n h v
      else if sel = 0x03 ∨ sel = 0x09 then s.toAll n p
      else s

/-- SETPT (R80). -/
def execSetpt (n : Nat) (h : Hdr) (tag : BitVec 3) (v : Word) (s : State) : Host.Outcome State Fault Refusal := done (s.recvStage n h tag 0x00 v)
/-- SLEW (R80, R254). -/
def execSlew (n : Nat) (h : Hdr) (tag : BitVec 3) (v : Word) (s : State) : Host.Outcome State Fault Refusal := done (s.recvStage n h tag 0x01 v)
/-- WINDOW (R80, R81). -/
def execWindow (n : Nat) (h : Hdr) (tag : BitVec 3) (v : Word) (s : State) : Host.Outcome State Fault Refusal := done (s.recvStage n h tag 0x02 v)
/-- OFFSET (R80, R81). -/
def execOffset (n : Nat) (h : Hdr) (v : Word) (s : State) : Host.Outcome State Fault Refusal := done (s.recvWrite n h 0x03 v)
/-- OFFSLEW (R80). -/
def execOffslew (n : Nat) (h : Hdr) (tag : BitVec 3) (v : Word) (s : State) : Host.Outcome State Fault Refusal := done (s.recvStage n h tag 0x04 v)
/-- SHARE (R72, R80, R100). -/
def execShare (n : Nat) (h : Hdr) (v : Word) (s : State) : Host.Outcome State Fault Refusal := done (s.recvWrite n h 0x05 v)
/-- MODE (R80, R105). -/
def execMode (n : Nat) (h : Hdr) (tag : BitVec 3) (v : Word) (s : State) : Host.Outcome State Fault Refusal := done (s.recvStage n h tag 0x06 v)
/-- FREQ (R80, R83). -/
def execFreq (n : Nat) (h : Hdr) (tag : BitVec 3) (v : Word) (s : State) : Host.Outcome State Fault Refusal := done (s.recvStage n h tag 0x07 v)
/-- BANDSET (R80, R85, R86). -/
def execBandset (n : Nat) (h : Hdr) (tag : BitVec 3) (v : Word) (s : State) : Host.Outcome State Fault Refusal := done (s.recvStage n h tag 0x08 v)
/-- ARM (R80, R90, R93). -/
def execArm (n : Nat) (h : Hdr) (v : Word) (s : State) : Host.Outcome State Fault Refusal := done (s.recvWrite n h 0x09 v)
/-- DROOP (R80, R93). -/
def execDroop (n : Nat) (h : Hdr) (tag : BitVec 3) (v : Word) (s : State) : Host.Outcome State Fault Refusal := done (s.recvStage n h tag 0x0A v)
/-- OVERSHOOT (R80, R95). -/
def execOvershoot (n : Nat) (h : Hdr) (tag : BitVec 3) (v : Word) (s : State) : Host.Outcome State Fault Refusal := done (s.recvStage n h tag 0x0B v)
/-- BOOSTLIM (R80, R94). -/
def execBoostlim (n : Nat) (h : Hdr) (tag : BitVec 3) (v : Word) (s : State) : Host.Outcome State Fault Refusal := done (s.recvStage n h tag 0x0C v)
/-- BALANCE (R80, R92). -/
def execBalance (n : Nat) (h : Hdr) (tag : BitVec 3) (v : Word) (s : State) : Host.Outcome State Fault Refusal := done (s.recvStage n h tag 0x0D v)
/-- VMCOMP (R80, R87). -/
def execVmcomp (n : Nat) (h : Hdr) (tag : BitVec 3) (v : Word) (s : State) : Host.Outcome State Fault Refusal := done (s.recvStage n h tag 0x0E v)
/-- CARRYAUTO (R80, R102, R103): only from the parent pond; from the hub it is no SEL that a pan takes. -/
def execCarryauto (n : Nat) (fromParent : Bool) (v : Word) (s : State) : Host.Outcome State Fault Refusal :=
  if s.isPan n = false ∨ s.hasDown n (writePkt (s.hdrOf n) 0x0F v) = false then done s
  else
    let s := s.takeDown n (writePkt (s.hdrOf n) 0x0F v)
    if fromParent then done (s.applyWrite n 0x0F v) else done (s.badSel n)
/-- FWIN (R153, R154). -/
def execFwin (n : Nat) (h : Hdr) (tag : BitVec 3) (v : Word) (s : State) : Host.Outcome State Fault Refusal := done (s.recvStage n h tag 0x40 v)
/-- SWINV (R153, R155). -/
def execSwinv (n : Nat) (h : Hdr) (tag : BitVec 3) (v : Word) (s : State) : Host.Outcome State Fault Refusal := done (s.recvStage n h tag 0x41 v)
/-- SWINI (R153, R155). -/
def execSwini (n : Nat) (h : Hdr) (tag : BitVec 3) (v : Word) (s : State) : Host.Outcome State Fault Refusal := done (s.recvStage n h tag 0x42 v)
/-- SENSESEL (R153). -/
def execSensesel (n : Nat) (h : Hdr) (tag : BitVec 3) (v : Word) (s : State) : Host.Outcome State Fault Refusal := done (s.recvStage n h tag 0x43 v)
/-- CALCTL (R153). -/
def execCalctl (n : Nat) (h : Hdr) (tag : BitVec 3) (v : Word) (s : State) : Host.Outcome State Fault Refusal := done (s.recvStage n h tag 0x44 v)
/-- CALLOAD (R142, R153): A, B and C; converter D has no such SEL. -/
def execCalload (n : Nat) (h : Hdr) (k : Conv) (v : Word) (s : State) : Host.Outcome State Fault Refusal :=
  match k with
  | .a => done (s.recvWrite n h 0x5C v)
  | .b => done (s.recvWrite n h 0x5D v)
  | .c => done (s.recvWrite n h 0x5E v)
  | .d => done s
/-- CALLOAD_I (R148, R153). -/
def execCalloadI (n : Nat) (h : Hdr) (v : Word) (s : State) : Host.Outcome State Fault Refusal := done (s.recvWrite n h 0x5F v)
/-- STREAM (R184, R185). -/
def execStream (n : Nat) (h : Hdr) (tag : BitVec 3) (k : Nat) (v : Word) (s : State) : Host.Outcome State Fault Refusal :=
  if k < 4 then done (s.recvStage n h tag (0x60 + k) v) else done s
/-- EPOCHSAMP (R184, R185). -/
def execEpochsamp (n : Nat) (h : Hdr) (tag : BitVec 3) (v : Word) (s : State) : Host.Outcome State Fault Refusal := done (s.recvStage n h tag 0x64 v)
/-- ROSTER (R44). -/
def execRoster (n : Nat) (h : Hdr) (v : Word) (s : State) : Host.Outcome State Fault Refusal := done (s.recvWrite n h 0x70 v)
/-- PARENT_SELECT (R44). -/
def execParentSelect (n : Nat) (h : Hdr) (v : Word) (s : State) : Host.Outcome State Fault Refusal := done (s.recvWrite n h 0x71 v)
/-- EXCEPTION_RANGE (R44, R54). -/
def execExceptionRange (n : Nat) (h : Hdr) (k : Nat) (v : Word) (s : State) : Host.Outcome State Fault Refusal :=
  if k < 4 then done (s.recvWrite n h (0x72 + 2 * k) v) else done s
/-- EXCEPTION_TARGET (R44, R54). -/
def execExceptionTarget (n : Nat) (h : Hdr) (k : Nat) (v : Word) (s : State) : Host.Outcome State Fault Refusal :=
  if k < 4 then done (s.recvWrite n h (0x73 + 2 * k) v) else done s
/-- CHILD_PORT_RANGE (R44, R54). -/
def execChildPortRange (n : Nat) (h : Hdr) (k : Nat) (v : Word) (s : State) : Host.Outcome State Fault Refusal :=
  if k < 16 then done (s.recvWrite n h (0x80 + k) v) else done s
/-- A node implements a SEL in a packet type (R44, R72, R80, R153, R184): a pan its parameters, a pond its own registers and
what it passes on; STAGE 0xFE and 0xFF are the set close and END. -/
def State.implements (s : State) (n : Nat) (h : Hdr) (stage : Bool) (sel : Nat) : Bool :=
  if stage then
    decide (0xFE ≤ sel) || (panStageSel sel && (s.isPan n || h.bc || passedSel sel))
  else if s.isPan n then decide (sel = 0x71) || panWriteSel sel
  else decide (sel = 0x71) || pondSel sel || (panWriteSel sel && decide (sel ≠ 0x0F) && (h.bc || decide (sel < 0x0F)))
/-- UNIMPLEMENTED_SEL (R44, R54): a packet with a SEL that the node does not implement is discarded with EVENT 0x02; one for
another node goes on, and one to a whole subtree is forwarded on the child ports too. -/
def execUnimplementedSel (n : Nat) (h : Hdr) (stage : Bool) (tag : BitVec 3) (sel : Byte) (v : Word) (s : State) :
    Host.Outcome State Fault Refusal :=
  if s.implements n h stage sel.toNat then done s
  else if stage then done (s.recvStage n h tag sel.toNat v)
  else done (s.recvWrite n h sel.toNat v)

/-! ### Glue-up carriage at the nodes (R59 to R63) -/

/-- ACK packet (R43). -/
def ackPkt (src : NodeId) (tag : BitVec 3) (ok : Bool) (count : Nat) (failing : NodeId) : Packet :=
  pkt 5 { bc := false, dst := src } (tag.toNat * 2 ^ 40 + b2n ok * 2 ^ 39 + count % 2 ^ 23 * 2 ^ 16 + failing.toNat)
/-- The rostered children of a pond, by port. -/
def State.rosterKids (s : State) (n : Nat) : List Nat :=
  (s.children n).filter fun c => (s.node n).roster.getLsbD (s.node c).port && decide ((s.node c).port < 16) && !(s.node c).portDisabled
/-- The first node that a pond names (R61): itself, else the first failing node of the answers in the order in which they came,
else a silent child, the lowest of the floorplan's numbers first. The rule says "first" of no order (DESIGN CHOICE, log 110). -/
def State.firstFailing (s : State) (n : Nat) : NodeId :=
  let x := s.node n
  if x.held.ok = false then x.id
  else match x.acks.find? fun a => decide (a.failing ≠ 0) with
    | some a => a.failing
    | none =>
      match (s.rosterKids n).find? fun c => !(x.acks.any fun a => decide (a.child = c)) with
      | some c => (s.node c).id
      | none => 0
/-- A pond's ACK leaves (R61). -/
def State.sendPondAck (s : State) (n : Nat) : State :=
  let x := s.node n
  let all := (s.rosterKids n).all fun c => x.acks.any fun a => decide (a.child = c)
  let ok := x.held.ok && all && x.acks.all fun a => a.ok
  let count := x.held.matched + (x.acks.map ChildAck.count).sum
  let s := s.sendUp n (ackPkt x.id x.held.tag ok count (if ok then 0 else s.firstFailing n))
  s.updNode n fun x => { x with acked := true }
/-- A pond answers when every rostered child has (R61). -/
def State.tryPondAck (s : State) (n : Nat) : State :=
  let x := s.node n
  if x.held.closed && !x.acked && (s.rosterKids n).all (fun c => x.acks.any fun a => decide (a.child = c)) then s.sendPondAck n else s

/-- SET_CLOSE (R61): ENDs matched, the node judged; a pan answers, a pond when its children have. -/
def execSetClose (n : Nat) (h : Hdr) (tag : BitVec 3) (s : State) : Host.Outcome State Fault Refusal :=
  let p := stagePkt h 0xFE tag 0
  if n = 0 ∨ s.hasDown n p = false then done s
  else
    let s := s.takeDown n p
    if s.isFor n h = false then done (s.onward n p)
    else
      let k := (s.node n).held
      let k : HeldSet := if k.tag = tag then k else { tag := tag }
      let good := k.ends.filter fun e => decide (e.count = k.count e.h)
      let ok := (k.ends.all fun e => decide (e.count = k.count e.h)) &&
        k.stages.all fun x => k.ends.any fun e => decide (e.h = x.h)
      let s := s.updNode n fun x => { x with
        held := { k with closed := true, matched := good.length, ok := ok }, acks := [], acked := false }
      if s.isPan n then
        let x := s.node n
        done (s.sendUp n (ackPkt x.id tag ok good.length (if ok then 0 else x.id)))
      else done ((s.toAll n p).tryPondAck n)

/-- STAGE_END (R59, R61, R72): a pond passes an END on as it passed the STAGE packets of its target. -/
def execStageEnd (n : Nat) (h : Hdr) (tag : BitVec 3) (count : Nat) (s : State) : Host.Outcome State Fault Refusal :=
  let p := stagePkt h 0xFF tag (BitVec.ofNat 32 (count % 65536))
  if n = 0 ∨ s.hasDown n p = false then done s
  else
    let s := s.takeDown n p
    if s.isFor n h = false then done (s.onward n p)
    else
      let s := s.updNode n fun x =>
        let k : HeldSet := if x.held.tag = tag then x.held else { tag := tag }
        { x with held := { k with ends := k.ends ++ [⟨h, count⟩] } }
      if s.isPan n then done s
      else if h.bc then done (s.toAll n p)
      else
        let k := (s.node n).held.count h
        if k = 0 then done s else done (s.toAll n (stagePkt h 0xFF tag (BitVec.ofNat 32 k)))

/-- VERDICT packet (R43). -/
def verdictPkt (h : Hdr) (tag : BitVec 3) (commit : Bool) (gen : Word) : Packet :=
  pkt 11 h (tag.toNat * 2 ^ 40 + b2n commit * 2 ^ 39 + gen.toNat)
/-- The hub gives its verdict on the set in hand (R62). A VERDICT defer carries the present committed generation, which is the
generation after that boundary (R43, R21; DESIGN CHOICE for a boundary at which a stop commits, log 111). -/
def State.giveVerdict (s : State) (commit : Bool) : State :=
  let s := s.updStg fun g => { g with hand := { g.hand with verdict := some commit } }
  s.hubAll (verdictPkt allHdr s.stg.tag commit (if commit then s.stg.hand.gen else s.com.gen))
/-- Every port that carries a target has answered ok with the expected count (R62). -/
def SetInHand.complete (x : SetInHand) : Bool :=
  x.ports.all fun p => !p.2.used || (decide (p.2.ok = some true) && decide (p.2.got = p.2.count))

/-- A pond awaits the packets of a child: it is rostered and came in on its own child port; an adoption port is transparent
(R55). -/
def State.awaits (s : State) (n child : Nat) (p : Packet) : Bool :=
  (s.rosterKids n).contains child && decide (s.fromBelow n p = some { node := child, path := .primary })
/-- ACK (R55, R61, R62): a rostered child's answer is folded, any other goes on upward. At the hub the answers that come from
behind one port add up; the hub commits as soon as every carrying port is in. -/
def execAck (n child : Nat) (tag : BitVec 3) (ok : Bool) (count : Nat) (failing : NodeId) (s : State) :
    Host.Outcome State Fault Refusal :=
  let p := ackPkt (s.node child).id tag ok count failing
  if s.fromBelow n p = none then done s
  else
    let mine := s.awaits n child p
    let s := s.takeInto n p
    if n = 0 then
      if s.stg.hand.active ∧ s.stg.hand.verdict = none ∧ s.stg.tag = tag then
        let k := s.portKey ((s.hubChild child).getD child)
        let s := s.updStg fun g =>
          let e := g.hand.ports.get {} k
          let e := { e with ok := some (e.ok.getD true && ok), got := e.got + count, failing := if e.failing = 0 then failing else e.failing }
          { g with hand := { g.hand with ports := g.hand.ports.set {} k e } }
        if s.stg.hand.complete then done (s.giveVerdict true) else done s
      else done s
    else if mine then
      let x := s.node n
      if x.held.closed ∧ x.held.tag = tag ∧ !x.acks.any (fun a => decide (a.child = child)) then
        done ((s.updNode n fun x => { x with acks := x.acks ++ [⟨child, ok, count, failing⟩] }).tryPondAck n)
      else done s
    else done (s.sendUp n p)

/-- POND_ACK_DEADLINE (R61): at B - 136 - 8d. -/
def execPondAckDeadline (n : Nat) (s : State) : Host.Outcome State Fault Refusal :=
  let x := s.node n
  if n ≠ 0 ∧ x.held.closed ∧ x.acked = false ∧ s.isPan n = false then
    done ((s.reach (x.epochAt + cksT * (4800 - 136 - 8 * x.depth))).sendPondAck n)
  else done s

/-- VERDICT (R54, R62, R63): a node takes the verdict on the set it holds; a pond passes it on. -/
def execVerdict (n : Nat) (h : Hdr) (tag : BitVec 3) (commit : Bool) (gen : Word) (s : State) : Host.Outcome State Fault Refusal :=
  let p := verdictPkt h tag commit gen
  if n = 0 ∨ s.hasDown n p = false then done s
  else
    let s := s.takeDown n p
    if s.isFor n h = false then done (s.onward n p)
    else
      let s := s.updNode n fun x =>
        let k : HeldSet := if x.held.tag = tag then x.held else { tag := tag }
        { x with held := if commit then { k with verdict := some true, gen := gen } else { tag := tag, verdict := some false } }
      if s.isPan n ∨ h.bc = false then done s else done (s.toAll n p)

/-! ### Roll-up carriage (R65, R66) -/

/-- Lowest minimum and highest maximum (R65). -/
def Ext.join (a b : Ext) : Ext := { min := if b.min.toNat < a.min.toNat then b.min else a.min, max := if a.max.toNat < b.max.toNat then b.max else a.max }
/-- A pond's own RQ and RMM packets leave (R65). -/
def State.sendRollup (s : State) (n : Nat) : State :=
  let x := s.node n
  let u := x.rollup
  let all (l : List Nat) : Bool := (s.rosterKids n).all l.contains
  let s := s.sendUp n (rqPkt x.id u.tag x.cum.toNat)
  let s := s.sendUp n (rmmPkt x.id u.tag false (u.vInc || !all u.vSeen) u.v)
  let s := s.sendUp n (rmmPkt x.id u.tag true (u.iInc || !all u.iSeen) u.i)
  s.updNode n fun x => { x with rollup := { x.rollup with sent := true } }
/-- A pond sends when it has the packets of every rostered child (R65). -/
def State.tryRollup (s : State) (n : Nat) : State :=
  let u := (s.node n).rollup
  if !u.sent && (s.rosterKids n).all (fun c => u.rqSeen.contains c && u.vSeen.contains c && u.iSeen.contains c) then s.sendRollup n else s
/-- The roll-up of a tag is the one in progress. -/
def Rollup.forTag (tag : BitVec 3) (u : Rollup) : Rollup := if u.tag = tag ∧ u.sent = false then u else { tag := tag, sent := false }

/-- The increment of a child's count (R66). -/
def rqInc (wide : Bool) (last count : Nat) : Nat :=
  let m := if wide then 2 ^ 40 else 2 ^ 32
  (count + m - last % m) % m

/-- RQ (R55, R66): a pond folds a rostered child's increment; the hub folds it into the child's region. -/
def execRq (n child : Nat) (tag : BitVec 3) (count : Nat) (s : State) : Host.Outcome State Fault Refusal :=
  let p := rqPkt (s.node child).id tag count
  if s.fromBelow n p = none then done s else
  let mine := s.awaits n child p
  let s := s.takeInto n p
  let x := s.node n
  let inc := rqInc (s.node child).wide (x.lastRq.get 0 child) count
  let region := s.regionFor child
  if n = 0 then
    let s := s.updNode 0 fun x => { x with lastRq := x.lastRq.set 0 child count }
    match region with
    | none => done s
    | some r => done (s.updTel r fun t => { t with
        inQ := t.inQ + BitVec.ofNat 40 inc,
        inRq := if s.tel.closed ∨ tag ≠ BitVec.ofNat 3 (s.epoch.toNat + 7) ∨ t.inRq.contains child then t.inRq else t.inRq ++ [child] })
  else if mine then
    let s := s.updNode n fun x =>
      let x := { x with lastRq := x.lastRq.set 0 child count, cum := x.cum + BitVec.ofNat 40 inc }
      if tag = x.rollup.tag ∧ x.rollup.sent then x
      else
        let u := x.rollup.forTag tag
        { x with rollup := { u with rqSeen := u.rqSeen ++ [child] } }
    done (s.tryRollup n)
  else done (s.sendUp n p)

/-- RMM (R55, R65): a late one is discarded, and the epoch's extremes stay incomplete. -/
def execRmm (n child : Nat) (tag : BitVec 3) (current incomplete : Bool) (vMax vMin : BitVec 16) (s : State) :
    Host.Outcome State Fault Refusal :=
  let e : Ext := { min := vMin, max := vMax }
  let p := rmmPkt (s.node child).id tag current incomplete e
  if s.fromBelow n p = none then done s else
  let mine := s.awaits n child p
  let s := s.takeInto n p
  if n = 0 then
    if tag = BitVec.ofNat 3 (s.epoch.toNat + 7) ∧ s.tel.closed = false then
      match s.regionFor child with
      | none => done s
      | some r => done (s.updTel r fun t =>
          let x := t.inExt
          let t := { t with inExt := { x with inc := x.inc || incomplete } }
          if current then { t with inExt := { t.inExt with i := x.i.join e }, inI := t.inI ++ [child] }
          else { t with inExt := { t.inExt with v := x.v.join e }, inV := t.inV ++ [child] })
    else done s
  else if mine then
    let x := s.node n
    if tag = x.rollup.tag ∧ x.rollup.sent then done s
    else
      let s := s.updNode n fun x =>
        let u := x.rollup.forTag tag
        { x with rollup :=
          if current then { u with i := u.i.join e, iInc := u.iInc || incomplete, iSeen := u.iSeen ++ [child] }
          else { u with v := u.v.join e, vInc := u.vInc || incomplete, vSeen := u.vSeen ++ [child] } }
      done (s.tryRollup n)
  else done (s.sendUp n p)

/-- POND_ROLLUP_DEADLINE (R65, R103): at B + 64h; a silent pan child sets carry in the others. -/
def execPondRollupDeadline (n : Nat) (s : State) : Host.Outcome State Fault Refusal :=
  let x := s.node n
  if n ≠ 0 ∧ s.isPan n = false ∧ x.rollup.sent = false then
    let s := s.reach (x.epochAt + cksT * 64 * x.height)
    let silent := (s.rosterKids n).filter fun c => s.isPan c && !x.rollup.rqSeen.contains c
    done (silent.foldl (fun s c => s.setCarry n c) (s.sendRollup n))
  else done s

/-! ### A node's own boundary (R19, R63, R65) -/

/-- NODE_EPOCH_BOUNDARY: the epoch that ended is reported, a committed set applies, a set of STAGE packets without a verdict is
discarded with EVENT 0x05. The rule gives that event no detail: it is 0 (DESIGN CHOICE, log 109). -/
def execNodeEpochBoundary (n : Nat) (m : EpochMeas) (s : State) : Host.Outcome State Fault Refusal :=
  let x := s.node n
  if n = 0 ∨ x.id = 0 then done s
  else
    let s := s.reach (x.epochAt + epochT)
    let tag : BitVec 3 := x.epochNo.setWidth 3
    let s := if s.isPan n then s.panEpoch n tag m else s
    let k := x.held
    let s :=
      if k.tag = tag + 1 ∧ k.verdict = some true then
        (if s.isPan n then k.stages.foldl (fun s y => s.applyStage n y.h y.sel.toNat y.v) s else s)
      else if k.verdict = none ∧ k.stages ≠ [] then s.sendEvent n 0x05 0
      else s
    let s := s.updNode n fun y => { y with
      epochNo := y.epochNo + 1, epochAt := y.epochAt + epochT, parity := [], held := {}, acks := [], acked := false,
      rollup := if s.isPan n then y.rollup else y.rollup.forTag tag }
    if s.isPan n then
      let late := (s.pan n).late
      let s := s.updPan n fun p => { p with late := [] }
      done ((late.foldl (fun s w => s.applyWrite n w.1 w.2) s).noteClamp n)
    else done (s.tryRollup n)

/-! ### TIME (R53) -/

/-- TIME: it is complete 4 CKS cycles after it left (R57); its node aligns its counter, or corrects it and reports EVENT 0x03; a
pond on the way holds it for some cycles and adds them. The rule gives that event no detail: it is 0 (DESIGN CHOICE, log 109). -/
def execTime (n : Nat) (h : Hdr) (cycle epoch hold : Nat) (s : State) : Host.Outcome State Fault Refusal :=
  let p := pkt 7 h (timeBody cycle epoch 0)
  if n = 0 ∨ s.hasDown n p = false then done s
  else
    let s := s.reach ((s.dir (s.upLink n) .down).timeOut.headD s.now + 4 * cksT)
    let s := s.takeDown n p
    if s.isFor n h = false then
      done ((s.reach (s.now + hold * cksT)).onward n (pkt 7 h (timeBody cycle epoch hold)))
    else
      let x := s.node n
      let differs := decide ((s.now - x.epochAt) / cksT ≠ cycle) || decide (x.epochNo.toNat % 65536 ≠ epoch % 65536)
      let s := if differs then s.updNode n fun x => { x with
          epochNo := BitVec.ofNat 64 (x.epochNo.toNat / 65536 * 65536 + epoch % 65536), epochAt := s.now - cksT * cycle } else s
      let s := s.updNode n fun x => { x with aligned := true }
      if differs && x.aligned then done (s.sendEvent n 0x03 0) else done s

/-- TIME_RESYNC_PERIOD (R53): every 4,096 epochs. -/
def execTimeResyncPeriod (s : State) : Host.Outcome State Fault Refusal :=
  if 5 ≤ s.sys.step ∧ s.sys.timeEp + 4096 ≤ s.epoch.toNat then done s.timeAll else done s

/-! ### Links (R40, R41, R45 to R49) -/

/-- CREDIT_RETURN (R45). -/
def execCreditReturn (l : LinkId) (d : Dir) (k : PClass) (s : State) : Host.Outcome State Fault Refusal :=
  done (s.updDir l d fun x =>
    if 0 < x.back k then ((x.setBack k (x.back k - 1)).setCredit k (x.credit k + 1)).pump s.now s.stg.closed x.queue.length else x)
/-- The receiver of a link direction and its port there (R41): 31 the primary and 30 the spare parent port, child ports from 0
(64 + k at the hub), adoption ports 16 + k (32 + k at the hub). -/
def State.receiver (s : State) (l : LinkId) (d : Dir) : Nat × Nat :=
  match d with
  | .down => (l.node, match l.path with | .primary => 31 | .spare => 30)
  | .up =>
    let x := s.node l.node
    match l.path with
    | .primary => (x.parent, if x.parent = 0 then 64 + x.port else x.port)
    | .spare => (x.spareParent.getD 0, adoptBase (x.spareParent.getD 0) + x.sparePort)
/-- PARITY_ERROR_PACKET (R40, R41, R48): the oldest packet on the wire is discarded, not counted as received, and stands as
on the wire until the next audit. -/
def execParityErrorPacket (l : LinkId) (d : Dir) (s : State) : Host.Outcome State Fault Refusal :=
  let s := s.updDir l d fun x => match x.wire with
    | [] => x
    | p :: rest =>
      let k := classOfTy p.ty
      ({ x with wire := rest, timeOut := if p.ty = 7 then x.timeOut.drop 1 else x.timeOut } : LinkDir).setLost k (x.lost k + 1)
  let r := s.receiver l d
  done (s.updNode r.1 fun x => { x with parity := x.parity.set 0 r.2 (x.parity.get 0 r.2 + 1) })

/-- Consecutive audits at which the sender held no credit of a class (R48). -/
def LinkDir.zero (x : LinkDir) : PClass → Nat
  | .c => x.zeroC
  | .t => x.zeroT
  | .u => x.zeroU
/-- An audit leaves: the classes without a credit are counted (R48), and the next audit falls due (R47). -/
def LinkDir.audited (now : Nat) (x : LinkDir) : LinkDir :=
  let n (credit z : Nat) : Nat := if credit = 0 then z + 1 else 0
  { x with auditAt := now, zeroC := n x.creditC x.zeroC, zeroT := n x.creditT x.zeroT, zeroU := n x.creditU x.zeroU }
/-- LINK_AUDIT_TIMER (R47): 256 CKS cycles after the last audit another goes to the port; its counts are those of the moment at
which it leaves. -/
def execLinkAuditTimer (l : LinkId) (d : Dir) (s : State) : Host.Outcome State Fault Refusal :=
  let s := s.reach ((s.dir l d).auditAt + 256 * cksT)
  done (s.updDir l d fun x => (x.audited s.now).push s.now s.stg.closed (linkPkt 1 0 0 0))
/-- Credits of a class returned by an audit (R47): what was sent and not received, modulo 256; what had been lost is no longer
on the wire (R48). -/
def LinkDir.restore (k : PClass) (sent recv : Nat) (x : LinkDir) : LinkDir :=
  (x.setLost k 0).setBack k (x.back k + (sent + 256 - recv) % 256)
/-- The receiver's side of an audit (R47): the credits, and the received counts set to the sent ones. -/
def LinkDir.auditIn (sentC sentT sentU : Nat) (x : LinkDir) : LinkDir :=
  let y := ((x.restore .c (sentC % 256) x.recvC.toNat).restore .t (sentT % 256) x.recvT.toNat).restore .u (sentU % 256) x.recvU.toNat
  { y with recvC := BitVec.ofNat 8 sentC, recvT := BitVec.ofNat 8 sentT, recvU := BitVec.ofNat 8 sentU }
/-- AUDIT (R47, R48). -/
def execAudit (l : LinkId) (d : Dir) (sentC sentT sentU : Nat) (s : State) : Host.Outcome State Fault Refusal :=
  let p := linkPkt 1 sentC sentT sentU
  if (s.dir l d).holds p then
    done ((s.updDir l d (LinkDir.auditIn sentC sentT sentU)).takeOn l d p)
  else done s
/-- RESET_REQUEST (R49): the far end resets the link and confirms; nothing else crosses until the confirmation has arrived. -/
def execResetRequest (l : LinkId) (d : Dir) (s : State) : Host.Outcome State Fault Refusal :=
  if (s.dir l d).holds (linkPkt 2 0 0 0) then
    let s := s.updDir l d fun x => { x.cleared with resetting := true }
    done (s.updDir l (otherDir d) (LinkDir.resetSend (linkPkt 3 0 0 0)))
  else done s
/-- RESET_DONE (R49): other packets cross again, both ways. -/
def execResetDone (l : LinkId) (d : Dir) (s : State) : Host.Outcome State Fault Refusal :=
  if (s.dir l d).holds (linkPkt 3 0 0 0) then
    let s := s.takeOn l d (linkPkt 3 0 0 0)
    let go (x : LinkDir) : LinkDir := ({ x with resetting := false } : LinkDir).pump s.now s.stg.closed x.queue.length
    done ((s.updDir l d go).updDir l (otherDir d) go)
  else done s
/-- CREDIT_INVARIANT_BREAK (R48): no credit across two audits while the receiver shows free buffers: a sluice fault. -/
def execCreditInvariantBreak (l : LinkId) (d : Dir) (k : PClass) (s : State) : Host.Outcome State Fault Refusal :=
  let x := s.dir l d
  if x.credit k = 0 ∧ 2 ≤ x.zero k ∧ x.onWire k < buffers k then done s.sluiceFault else done s

/-! ### Paths (R35, R41, R68 to R70, R103, R404) -/

/-- Adopt request (R43, R68). -/
def adoptPkt (lo hi : NodeId) : Packet := pkt 12 { bc := false, dst := lo } (lo.toNat * 2 ^ 24 + hi.toNat * 2 ^ 8)
/-- Every pan of a node's subtree holds its last committed set-point and share target (R34, R35). -/
def State.holdSubtree (s : State) (n : Nat) : State := ((s.subtree n).filter s.isPan).foldl State.enterHold s
/-- A node's path to its parent has failed (R35, R41, R68, R103): the parent sets carry in its other pans; the node switches to
its spare path, resets that link, asks for adoption and holds its subtree until the adoption is confirmed; where the spare
path has failed too, or there is none, it holds, and the hub counts the subtree out of contact. -/
def State.pathFailed (s : State) (n : Nat) : State :=
  let x := s.node n
  let parent := if x.onSpare then x.spareParent.getD 0 else x.parent
  let s := if parent ≠ 0 then s.setCarry parent n else s
  let s := s.updNode n fun y => { y with
    pathHold := true, badPrimary := y.badPrimary || !x.onSpare, badSpare := y.badSpare || x.onSpare }
  if x.onSpare = false ∧ x.spareParent.isSome ∧ x.spareOff = false ∧ x.badSpare = false then
    let s := s.updNode n fun y => { y with onSpare := true, lastPkt := s.now }
    let s := s.askReset { node := n, path := .spare }
    (s.sendUp n (adoptPkt x.id x.subHi)).holdSubtree n
  else ((s.holdSubtree n).rosterWithout n).loseSubtree n
/-- PARENT_PATH_TIMEOUT (R35, R57): 320 CKS cycles without a packet on the parent port. -/
def execParentPathTimeout (n : Nat) (s : State) : Host.Outcome State Fault Refusal :=
  if n = 0 ∨ (s.node n).id = 0 then done s else done ((s.reach ((s.node n).lastPkt + 320 * cksT)).pathFailed n)
/-- The parent port of a node on whose path it stands (R35): 30 the spare, 31 the primary. -/
def Node.parentPort (x : Node) : Nat := if x.onSpare then 30 else 31
/-- PARITY_LIMIT_REACHED (R41): on a parent port the path has failed, the one in use or the idle one; on a child port the node
reports the child (the EVENT's cause is not stated: a free value) and goes on, and the hub counts a sluice fault (R395). -/
def execParityLimitReached (n port : Nat) (s : State) : Host.Outcome State Fault Refusal :=
  if (s.node n).parity.get 0 port < 8 then done s
  else if n ≠ 0 ∧ port = (s.node n).parentPort then done (s.pathFailed n)
  else if n ≠ 0 ∧ (port = 30 ∨ port = 31) then
    done (s.updNode n fun y => { y with badPrimary := y.badPrimary || decide (port = 31), badSpare := y.badSpare || decide (port = 30) })
  else
    let s := if n = 0 then s else (s.sendEvent n (Config.measure s.free 91 |>.setWidth 8) (BitVec.ofNat 32 port)).draw
    done s.sluiceFault
/-- RESERVED_PACKET (R43): a packet of a reserved type that comes in on any port is discarded, and its receiver reports EVENT
0x01 upward. No node of the block sends one, so the port may bring one that its link direction did not carry (log 3). The
rule gives that event no detail: it is 0 (DESIGN CHOICE, log 109). -/
def execReservedPacket (l : LinkId) (d : Dir) (ty : BitVec 4) (s : State) : Host.Outcome State Fault Refusal :=
  if !(ty = 0 ∨ ty = 0xE ∨ ty = 0xF) then done s
  else
    let n := (s.receiver l d).1
    let s := match (s.dir l d).wire.head? with
      | some p => if p.ty = ty then s.takeOn l d p else s
      | none => s
    if n = 0 then done s else done (s.sendEvent n 0x01 0)
/-- UNROUTABLE_PACKET (R54): a packet for another node that matches no range is discarded, EVENT 0x04. Such a packet may come of
an upset of the routing alone, so the port may bring one that its link direction did not carry (log 3). -/
def execUnroutablePacket (n : Nat) (h : Hdr) (s : State) : Host.Outcome State Fault Refusal :=
  if n = 0 ∨ s.isFor n h ∨ ((s.node n).kind = .pond ∧ (s.portFor n h.dst).isSome) then done s
  else
    let s := match (s.dir (s.upLink n) .down).wire.head? with
      | some p => if p.bc = h.bc ∧ p.node = h.dst then s.takeDown n p else s
      | none => s
    done (s.sendEvent n 0x04 0)

/-- The exception entries that an adoption needs: pond and port, from the common ancestor down to the adoptive pond (R69). -/
def State.adoptEntries (s : State) (root pond port : Nat) : List (Nat × Nat) :=
  let old := s.chain 16 (s.node root).parent
  let up := s.chain 16 pond
  let path := match up.findIdx? old.contains with
    | some i => up.take (i + 1)
    | none => up
  match path with
  | [] => []
  | a :: rest => (a, adoptBase a + port) :: (rest.zip path).map fun x => (x.1, s.portTo x.1 x.2)
/-- The hub has an exception entry written: its own, or a pond's by two WRITEs (R69). -/
def State.putException (s : State) (lo hi : NodeId) (e : Nat × Nat) : State :=
  let k := s.flt.excUsed.get 0 e.1
  let r : Word := BitVec.ofNat 32 (lo.toNat * 65536 + hi.toNat)
  let t : Word := BitVec.ofNat 32 (2 ^ 31 + e.2)
  let s := s.updFlt fun f => { f with excUsed := f.excUsed.set 0 e.1 (k + 1) }
  if e.1 = 0 then s.updNode 0 fun x => { x with exc := x.exc.set {} k { lo := lo, hi := hi, valid := true, port := e.2 } }
  else
    let s := s.hubSend (writePkt (s.hdrOf e.1) (0x72 + 2 * k) r)
    s.hubSend (writePkt (s.hdrOf e.1) (0x73 + 2 * k) t)
/-- PATH packet of an action for a subtree (R43). -/
def pathPkt (h : Hdr) (action : Nat) (lo hi : NodeId) : Packet :=
  pkt 12 h (action * 2 ^ 40 + lo.toNat * 2 ^ 24 + hi.toNat * 2 ^ 8)
/-- The hub takes an adopt request (R67, R69, R70, R404): routes written, the old parent's roster cleared, adopt done,
resynchronisation; refused where a pond has no entry left. The hub goes on from the count of the subtree that the old parent
received last, so that no charge is folded twice (DEDUCED, log 112). -/
def State.adopt (s : State) (c : Nat) (lo hi : NodeId) : State :=
  let pond := (s.node c).spareParent.getD 0
  let port := (s.node c).sparePort
  let es := s.adoptEntries c pond port
  if es.any fun e => decide (4 ≤ s.flt.excUsed.get 0 e.1) then s
  else
    let s := es.foldl (fun s e => s.putException lo hi e) s
    let old := (s.node c).parent
    let s := s.updNode 0 fun x => { x with lastRq := x.lastRq.set 0 c ((s.node old).lastRq.get 0 c) }
    let s := if old ≠ 0 ∧ (s.nflt old).ooc = false then s.hubSend (pathPkt (s.hdrOf old) 2 lo hi) else s
    let s := s.hubSend (pathPkt { bc := false, dst := lo } 1 lo hi)
    let s := (s.subtree c).foldl (fun s k =>
      (s.updNflt k fun x => { x with ooc := false, spath := true, onPath := port }).updNode k fun x => { x with resyncDue := true }) s
    let s := s.updFlt fun f => { f with adopted := if f.adopted.contains c then f.adopted else f.adopted ++ [c] }
    (s.siblingsCarry c).tally 0x0C 0 8 1
/-- ADOPT_REQUEST (R55, R69): each pond on the way forwards it upward; the hub answers it. -/
def execAdoptRequest (n : Nat) (lo hi : NodeId) (s : State) : Host.Outcome State Fault Refusal :=
  let p := adoptPkt lo hi
  if s.fromBelow n p = none then done s
  else
    let s := s.takeInto n p
    if n ≠ 0 then done (s.sendUp n p)
    else match s.nodeById lo with
      | some c => done (s.adopt c lo hi)
      | none => done s
/-- ADOPT_DONE (R54, R68): the subtree's hold ends. -/
def execAdoptDone (n : Nat) (h : Hdr) (lo hi : NodeId) (s : State) : Host.Outcome State Fault Refusal :=
  let p := pathPkt h 1 lo hi
  if n = 0 ∨ s.hasDown n p = false then done s
  else
    let s := s.takeDown n p
    if s.isFor n h = false then done (s.onward n p)
    else done (s.updNode n fun x => { x with pathHold := false })
/-- ROSTER_REMOVE (R54, R69): the port of the subtree leaves the roster. -/
def execRosterRemove (n : Nat) (h : Hdr) (lo hi : NodeId) (s : State) : Host.Outcome State Fault Refusal :=
  let p := pathPkt h 2 lo hi
  if n = 0 ∨ s.hasDown n p = false then done s
  else
    let s := s.takeDown n p
    if s.isFor n h = false then done (s.onward n p)
    else match ((s.node n).ranges.find? fun e => e.2.used && inRange e.2.lo e.2.hi lo).map Prod.fst with
      | some k => done (s.updNode n fun x => { x with roster := x.roster &&& ~~~ ((1 : BitVec 16) <<< k) })
      | none => done s

/-! ### Enumeration (R51, R52) -/

/-- Body of a DESC packet (R43). -/
def descBody (kind ports : Nat) (wide : Bool) (rating revision : Nat) : Nat :=
  kind % 8 * 2 ^ 40 + ports % 32 * 2 ^ 35 + b2n wide * 2 ^ 34 + rating % 65536 * 2 ^ 18 + revision % 256 * 2 ^ 10
/-- The nodes below a node by the wiring, to a depth. -/
def State.wiredBelow (s : State) : Nat → Nat → List Nat
  | 0, _ => []
  | fuel + 1, n =>
    let kids := s.nodes.keys.filter fun c => decide (c ≠ 0) && decide ((s.node c).kind ≠ .absent) && decide ((s.node c).parent = n)
    kids ++ kids.flatMap (State.wiredBelow s fuel)
/-- The rating that a node declares (R72): a pond's is the sum of its active pans' ratings, which the wiring gives. -/
def State.ratingOf (s : State) (n : Nat) : Nat :=
  if (s.node n).kind = .pond then
    ((s.wiredBelow 15 n).map fun c => if (s.node c).kind = .pan ∨ (s.node c).kind = .privPan then (s.node c).rating else 0).sum
  else (s.node n).rating
/-- DESC packet (R43). -/
def State.descPkt (s : State) (n : Nat) : Packet :=
  let x := s.node n
  pkt 2 { bc := false, dst := x.id } (descBody x.kind.code x.ports x.wide (s.ratingOf n) x.revision)
/-- PROBE (R51): a node without an ID takes it and answers; a numbered pond repeats it on the port named; a numbered node
answers on its spare parent port. -/
def execProbe (n : Nat) (dst : NodeId) (port : Nat) (newId : NodeId) (s : State) : Host.Outcome State Fault Refusal :=
  let x := s.node n
  let p := probePkt dst port newId
  let first : LinkId := { node := n, path := .primary }
  let spare : LinkId := { node := n, path := .spare }
  if n = 0 ∨ x.kind = .absent then done s
  else if x.id ≠ 0 ∧ dst = 0 ∧ newId = 0 then
    if (s.dir spare .down).holds p then
      let s := s.takeOn spare .down p
      done (s.sendOn spare .up (s.descPkt n))
    else done s
  else if (s.dir first .down).holds p = false then done s
  else
    let s := s.takeOn first .down p
    if x.id = 0 then
      if newId = 0 then done s
      else
        let s := s.updNode n fun x => { x with id := newId, subHi := newId }
        done (s.sendUp n (s.descPkt n))
    else if dst = 0 then done s
    else if dst = x.id then
      if x.kind ≠ .pond then done s
      else if port < 16 then
        let s := s.updNode n fun x => { x with ranges := probeRange port newId x.ranges }
        done (s.sendPort n port (probePkt 0 0 newId))
      else done (s.sendPort n port (probePkt 0 0 0))
    else done (s.onward n p)
/-- The enumeration has moved; where it is complete, step 5 goes on (R449). -/
def State.enumMoved (s : State) : State := s.bootEnum
/-- PROBE_TIMEOUT (R51): 2,048 CKS cycles without an answer: the port is empty. -/
def execProbeTimeout (n port : Nat) (s : State) : Host.Outcome State Fault Refusal :=
  if s.sys.enumAt.head? = some (n, port) then
    done ((s.reach (s.sys.probeAt + 2048 * cksT)).enumAdvance).enumMoved
  else if s.sys.enumAt = [] ∧ s.sys.enumAdopt.head? = some (n, port) then
    done ((s.reach (s.sys.probeAt + 2048 * cksT)).enumNextAdopt).enumMoved
  else done s
/-- The kind of a DESC code (R43). -/
def kindOf : Nat → NodeKind
  | 0 => .pond
  | 1 => .pan
  | 2 => .privPan
  | 3 => .sparePan
  | 4 => .sparePriv
  | _ => .absent
/-- A port that enumeration disables (R52, R71): the hub's own, or a pond's by a range that holds no ID (DESIGN CHOICE, log 108). -/
def State.disablePort (s : State) (n p c : Nat) : State :=
  let s := s.updNode c fun x => { x with portDisabled := true }
  let s := s.updFlt fun f => { f with disabledPorts := f.disabledPorts ++ [n * 32 + p] }
  if n = 0 then s.updNode 0 fun x => { x with ranges := x.ranges.set {} p { x.ranges.get {} p with disabled := true } }
  else s.hubSend (writePkt (s.hdrOf n) (0x80 + p) emptyRange)
/-- The answer of the place at hand in the primary tree: the descriptor is recorded; a node that is not described, or too deep,
has its parent port disabled; a pond is numbered on before its next sibling (R51, R52, R71). -/
def State.described (s : State) (n p c : Nat) (kind ports : Nat) (wide : Bool) (rating revision : Nat) : State :=
  let s := s.updNode c fun x => { x with
    kind := kindOf kind, ports := ports, wide := wide, rating := rating, revision := revision, depth := (s.node n).depth + (if n = 0 then 0 else 1) }
  let s := s.updSys fun y => { y with enumNext := y.enumNext + 1 }
  let known := decide (s.sys.image.nodes.get 0 c ≠ 0) && decide ((s.node c).depth ≤ 15)
  if known then
    if (s.node c).kind = .pond then
      let s := s.updSys fun y => { y with enumAt := (c, 0) :: y.enumAt }
      if 0x2000 < s.sys.enumNext then s.enumStop true else s.sendProbe c 0
    else s.enumAdvance
  else (s.disablePort n p c).enumAdvance
/-- DESC (R51, R52, R55, R71): a pond forwards it upward; at the hub it is the answer of the place at hand. An answer from an
adoption port records the spare wiring, and disables a path that R37 forbids. -/
def execDesc (n : Nat) (src : NodeId) (kind ports : Nat) (wide : Bool) (rating revision : Nat) (s : State) :
    Host.Outcome State Fault Refusal :=
  let k := pkt 2 { bc := false, dst := src } (descBody kind ports wide rating revision)
  if s.fromBelow n k = none then done s
  else
    let s := s.takeInto n k
    if n ≠ 0 then done (s.sendUp n k)
    else match s.nodeById src, s.sys.enumAt, s.sys.enumAdopt with
      | some c, (m, p) :: _, _ =>
        if src.toNat ≠ s.sys.enumNext then done s else done (s.described m p c kind ports wide rating revision).enumMoved
      | some c, [], (m, _) :: _ =>
        let bad := (s.subtree c).contains m || decide (15 < (if m = 0 then 1 else (s.node m).depth + 1) + (s.node c).height)
        let s := if bad then s.updNode c fun x => { x with spareOff := true } else s
        done s.enumNextAdopt.enumMoved
      | _, _, _ => done s

end Sys2Proof.Machine
end

