-- ==== Sys2Proof/Machine/Telem.lean ====
section
/-! DEFINITION. The hub's telemetry (R158 to R169, R180, R244, R291, R301, R311, R412 to R416): samples, the roll-up and its
1 ms windows, recomputations, snapshots and the tally window. -/

namespace Sys2Proof.Machine

/-! ### Samples (R164, R180, R183) -/

/-- SAMPLE: its slot with its back-dated instant; kind 0x05 of a reference pan is kept for the roll-up. One that names no
slot is discarded and counted. -/
def State.sampleIn (s : State) (src : NodeId) (kind : Byte) (value : Word) : State :=
  let n := (s.nodeById src).getD 0
  let delay := ufield value 20 12
  let slots := s.eng.slotsOf (.sample src.toNat kind.toNat)
  let s := if kind = 5 ∧ s.tel.closed = false then
      s.regions.foldl (fun s r =>
        let s := if (s.rimg r).refPan = n then s.updTel r fun t => { t with refV := some (ufield value 0 16) } else s
        if (s.rimg r).altPan = n then s.updTel r fun t => { t with altV := some (ufield value 0 16) } else s) s
    else s
  if slots.isEmpty then s.updEng fun e => { e with discarded := e.discarded + 1 }
  else s.slotWrite (.sample src.toNat kind.toNat) value (s.cke - 2 * (delay + 4 * (s.node n).depth))
/-- SAMPLE (R55, R164, R180, R183): a pond forwards it upward; the hub takes it as `sampleIn` says. -/
def execSample (n : Nat) (src : NodeId) (kind : Byte) (value : Word) (s : State) : Host.Outcome State Fault Refusal :=
  let p := samplePkt src kind value
  if s.fromBelow n p = none then done s
  else if n ≠ 0 then done ((s.takeInto n p).sendUp n p)
  else done ((s.takeInto 0 p).sampleIn src kind value)

/-! ### Roll-up (R162 to R165) -/

/-- Extremes folded into a tracking set (R161). -/
def Track.fold (t x : Track) : Track := { v := t.v.join x.v, i := t.i.join x.i, inc := t.inc || x.inc }
/-- Fine units of a microjoule (R164). -/
def fineUJ : Nat := 160000000
/-- Fine units of 1/256 uJ (R221). -/
def fineRE : Nat := 625000

/-- A region's roll-up (R65, R161, R163, R164): its RQ and RMM come from its pond. -/
def State.rollRegion (s : State) (r : Nat) : State :=
  let m := s.rimg r
  let t := (s.reg r).tel
  let ooc := (m.pans ++ m.spares).any fun n => (s.nflt n).ooc
  let chInc := !t.inRq.contains m.pond || ooc
  let exInc := !t.inV.contains m.pond || !t.inI.contains m.pond || t.inExt.inc
  let v := match t.refV, t.altV with
    | some v, _ => v
    | none, some v => v
    | none, none => (300 + (s.com.reg r).setpt) * 16
  let sub := t.refV.isNone && t.altV.isNone
  let dq := t.inQ.toNat
  let fine := t.fine + BitVec.ofNat 96 (dq * v)
  let x : Track := { t.inExt with inc := exInc }
  let re := dq * v / fineRE
  let s := s.updTel r fun t => { t with
    charge := t.charge + BitVec.ofNat 64 dq, fine := fine, visible := BitVec.ofNat 64 (fine.toNat / fineUJ),
    epoch := t.inQ, energy := re, meanV := v, chInc := chInc, exInc := exInc, vSub := sub, closed := true,
    ext := x, host := t.host.fold x, mgmt := t.mgmt.fold x, inQ := 0, inRq := [], inV := [], inI := [], inExt := {}, refV := none, altV := none }
  let s := s.updDie fun d => { d with railFine := d.railFine.set 0 m.rail.idx (d.railFine.get 0 m.rail.idx + BitVec.ofNat 96 (dq * v)) }
  s.updUse r fun u => { u with sumE := u.sumE + re }

/-- What the converter measured over the epoch (R165, R223, R480): free values; a phase whose PSG_EN was low throughout
contributes nothing, and a negative product adds nothing. -/
def State.rollConv (s : State) : State :=
  let i (n : Nat) : Int := if (s.phase n).enWas then (Config.measure s.free n).toInt else 0
  let v (x : Rail) : Nat := (Config.measure s.free (64 + railIdx x)).toNat
  let rails : List Rail := [.vib, .vqa, .vqc]
  let sum (x : Rail) : Int := ((s.slotsOfRail x).map i).sum
  let vin := (Config.measure s.free 70).toNat
  let ext (lo hi : Nat) : Ext := { min := Config.measure s.free lo, max := Config.measure s.free hi }
  let vx : Track := { v := ext 71 72, i := ext 73 74 }
  let s := s.updConv fun c => { c with
    meanI := (List.range 40).foldl (fun (t : Tbl Int) n => t.set 0 n (i n)) ([] : Tbl Int),
    meanV := rails.foldl (fun (t : Tbl Nat) x => t.set 0 (railIdx x) (v x)) ([] : Tbl Nat) }
  (s.updDie fun d => { d with
    convFine := rails.foldl (fun (t : Tbl (BitVec 96)) x =>
      t.set 0 (railIdx x) (t.get 0 (railIdx x) + BitVec.ofNat 96 ((sum x).toNat * 8000 * v x))) d.convFine,
    winV := rails.foldl (fun (t : Tbl Nat) x => t.set 0 (railIdx x) (t.get 0 (railIdx x) + v x)) d.winV,
    winI := rails.foldl (fun (t : Tbl Nat) x => t.set 0 (railIdx x) (t.get 0 (railIdx x) + (sum x).toNat)) d.winI,
    winVin := d.winVin + vin, vibExt := vx, vibHost := d.vibHost.fold vx, vibMgmt := d.vibMgmt.fold vx }).draw

/-- What a roll-up counts of a region: band residency, droop depth, the over-capacity case of R407 (R411). -/
def State.rollTally (s : State) (r : Nat) : State :=
  let c := s.com.reg r
  let g := s.reg r
  let s := s.tally 0x02 r c.band 1
  let s := if g.seq.st = .live ∧ g.tel.exInc = false then
      let d := (300 + c.setpt) * 16 - g.tel.ext.v.min.toNat
      s.tally 0x03 (s.rimg r).rail.idx (min 15 (d / 64)) 1
    else s
  let full := g.krf.eAll60 && decide (s.carryCap r * 80 < g.tel.epoch.toNat)
  s.updReg r fun y => { y with lastOver := full, overcap := if full then min 16 (y.overcap + 1) else 0 }

/-- A slot has a value no older than 4,800 CKE cycles (R305). -/
def State.slotFresh (s : State) (k : Nat) : Bool :=
  let x := s.eng.input.get {} k
  !x.stale && decide (s.cke < x.wrote + 4800)
/-- Words that a roll-up places for a region: its charge and energy with the boundary as their instant, and the stale
marker in an activity slot that frames have not written (R180, R221, R305); the estimator's stale flag (R244, R305). -/
def State.rollSlots (s : State) (r : Nat) : State :=
  let t := (s.reg r).tel
  let at_ := s.epochAt / ckeT
  let s := s.slotWrite (.rollQ r) (BitVec.ofNat 32 (min t.epoch.toNat 0xFFFFFFFF)) at_
  let s := s.slotWrite (.rollE r) (BitVec.ofNat 32 (min t.energy 0xFFFFFFFF)) at_
  let old := (s.eng.slotsOf (.activity r)).any fun k => !s.slotFresh k
  let s := if old then s.slotWrite (.activity r) 0xFFFFFFFF s.cke else s
  match (s.rimg r).mbox with
  | none => s.updUse r fun u => { u with wInc := true }
  | some k =>
    let w := s.eng.mbox.get 0 k
    let fresh := decide (s.epochAt < s.eng.mboxW.get 0 k + epochT)
    let s := s.updKrf r fun y => { y with staleEst := bitOf w 31 }
    s.updUse r fun u => { u with wInc := u.wInc || t.chInc || t.vSub || !fresh || bitOf w 31 }

/-! ### Snapshots filled from the roll-up (R161, R166 to R169, R508) -/

/-- What a slot takes from the roll-up that closes after its latch boundary (R168, R169), `core` for the management core's slot with
the management core's tracking sets. -/
def State.fillSlot (s : State) (core : Bool) (x : Snap) : Snap :=
  let snapTel (t : TelDyn) : TelDyn := { t with
    exFast := t.enFast, exSlowV := t.enSlowV, exSlowI := t.enSlowI, host := if core then t.mgmt else t.host }
  let uj (f : BitVec 96) : BitVec 64 := BitVec.ofNat 64 (f.toNat / fineUJ)
  let en := (List.range 5).foldl (fun (t : Tbl (BitVec 64)) k => t.set 0 k (uj (s.tel.railFine.get 0 k))) ([] : Tbl (BitVec 64))
  { x with
    got := true, epoch := s.tel.epoch, telGen := s.tel.gen,
    tel := s.regions.foldl (fun (t : Tbl TelDyn) r => t.set {} r (snapTel (s.reg r).tel)) ([] : Tbl TelDyn),
    energies := (List.range 3).foldl (fun (t : Tbl (BitVec 64)) k => t.set 0 (5 + k) (uj (s.tel.convFine.get 0 k))) en,
    vib := s.tel.vibExt, vibHost := if core then s.tel.vibMgmt else s.tel.vibHost }
/-- The slots that wait for the roll-up take it; then the tracking sets whose reset was asked for are emptied (R161, R168). -/
def State.fillSnaps (s : State) : State :=
  let due (k : Nat) : Bool := (s.tel.snaps.get {} k).filling && !(s.tel.snaps.get {} k).got
  let host := (List.range 4).any fun k => due k && (s.tel.snaps.get {} k).rstDone
  let mgmt := due 4 && (s.tel.snaps.get {} 4).rstDone
  let s := s.updDie fun d => { d with
    snaps := d.snaps.mapVals {} fun k x => if x.filling ∧ x.got = false then s.fillSlot (decide (k = 4)) x else x,
    vibHost := if host then {} else d.vibHost, vibMgmt := if mgmt then {} else d.vibMgmt }
  s.regions.foldl (fun s r => s.updTel r fun t => { t with host := if host then {} else t.host, mgmt := if mgmt then {} else t.mgmt }) s

/-- ROLLUP_CLOSE (R162): at B + 1,024 CKS cycles. -/
def execRollupClose (s : State) : Host.Outcome State Fault Refusal :=
  if s.tel.closed ∨ s.epoch = 0 then done s
  else
    let s := s.reach (s.epochAt + 1024 * cksT)
    let s := s.regions.foldl State.rollRegion s
    let s := s.rollConv
    let s := s.updDie fun d => { d with epoch := s.epoch - 1, gen := d.genWas, closed := true, rollups := d.rollups + 1 }
    let s := s.fillSnaps
    let s := s.regions.foldl State.rollTally s
    let s := s.tally 0x0A 0 4 1
    let s := s.regions.foldl State.rollSlots s
    let s := s.updBud fun b => { b with staleest := s.regions.any fun r => (s.reg r).krf.staleEst }
    done s.attribute.queryTake

/-! ### 1 ms windows (R244, R291, R292, R296, R297, R311) -/

/-- Microjoules that a rail of the converter has delivered in the running window. -/
def State.winUJ (s : State) (x : Rail) : Nat := (s.tel.convFine.get 0 (railIdx x) - s.tel.winE.get 0 (railIdx x)).toNat / fineUJ
/-- The gain in use for a region's estimate, Q2.29, and its offset (R245, R303): its slots, or the maker's figures. -/
def State.calOf (s : State) (r : Nat) : Int × Int :=
  let m := s.rimg r
  let val (k : Option Nat) : Option Int := match k with
    | none => none
    | some k => let x := s.eng.input.get {} k; if x.stale then none else some x.value.toInt
  match val m.calg, val m.calo with
  | some g, some o => (g, o)
  | _, _ => ((m.gain * 115 / 100 : Nat), m.offs)
/-- CAPSHORT (R311): its rise raises the cause and is tallied. -/
def State.capRise (s : State) : State :=
  if s.bud.capshort then s else (((s.updBud fun b => { b with capshort := true }).cause 2).tally 0x0F 0 0 1)
/-- The window of one region closes: EEST and EWIN placed, its usage formed (R244, R297). -/
def State.closeUse (s : State) (r : Nat) : State :=
  let u := (s.reg r).use
  let now_ : Nat := match (s.rimg r).mbox with
    | some k => (s.eng.mbox.get 0 k).toNat % 2 ^ 31
    | none => 0
  let x : Nat := (now_ + 2 ^ 31 - u.mboxAt) % 2 ^ 31
  let c := s.calOf r
  let est : Int := (c.1 * (x : Int)) / 2 ^ 29 + c.2
  let usage := if (s.rimg r).rail = .vret then u.sumE / 32000 else (est / 32000).toNat
  let s := s.updUse r fun u => { u with
    mboxAt := now_, usage := usage, sumE := 0, wInc := false, valid := if u.wInc then u.valid else min 64 (u.valid + 1) }
  let s := s.fwPlace fwEest r 0 (BitVec.ofNat 32 x)
  s.fwPlace fwEwin r 0 (BitVec.ofNat 32 (u.sumE % 2 ^ 31 + b2n u.wInc * 2 ^ 31))

/-- CALIBRATION_WINDOW_CLOSE (R244): at every 125th roll-up close. -/
def execCalibrationWindowClose (s : State) : Host.Outcome State Fault Refusal :=
  if s.tel.rollups < 125 ∨ s.sys.ready = false then done s
  else
    let e := (s.regions.map fun r => (s.reg r).use.sumE).sum / 256
    let vret := ((s.regions.filter fun r => (s.rimg r).rail = RRail.vret).map fun r => (s.reg r).use.sumE).sum / 256
    let qa := s.winUJ .vqa
    let qc := s.winUJ .vqc
    let conv := s.winUJ .vib + qa + qc
    let deliv := e + qa + qc
    let s := s.regions.foldl State.closeUse s
    let above := decide (33 * (s.com.bud.cap * 125) < 32 * deliv)
    let s := s.updBud fun b => { b with
      rsvWin := ((vret + qc + 124) / 125 :: b.rsvWin).take 8, vqa := qa / 125, vqc := qc / 125, deliv := deliv / 125,
      eta := if conv = 0 then b.eta else min 4095 (deliv * 4096 / conv),
      overWin := if above then min 4 (b.overWin + 1) else 0,
      conserv := s.regions.any fun r => decide ((s.reg r).use.valid < 64) }
    let case1 := s.regions.any fun r => decide (64 ≤ (s.reg r).krf.run60)
    let s := if case1 ∨ s.bud.overWin = 4 then (s.updBud fun b => { b with clearAt := s.now }).capRise
      else if s.bud.clearAt + msT ≤ s.now then s.updBud fun b => { b with capshort := false } else s
    let rails : List Rail := [.vib, .vqa, .vqc]
    let s := s.updPorts fun p => { p with
      meanVin := s.tel.winVin / 125,
      meanV := rails.foldl (fun (t : Tbl Nat) x => t.set 0 (railIdx x) (s.tel.winV.get 0 (railIdx x) / 2000)) ([] : Tbl Nat),
      meanI := rails.foldl (fun (t : Tbl Nat) x => t.set 0 (railIdx x) (s.tel.winI.get 0 (railIdx x) / 125)) ([] : Tbl Nat),
      energyW := rails.foldl (fun (t : Tbl Nat) x => t.set 0 (railIdx x) (s.winUJ x)) ([] : Tbl Nat) }
    done (s.updDie fun d => { d with rollups := 0, winV := [], winI := [], winVin := 0, winE := d.convFine })

/-! ### Recomputation (R301, R399, R405) -/

/-- The capacity ceiling that a region should have: none unless it is short (R405). -/
def State.ccapOf (s : State) (r : Nat) : Nat :=
  if s.short r then 95 * s.carryCap r * (300 + (s.com.reg r).setpt) / 12500000 else 0
/-- The load of a region in the last closed roll-up exceeds the ratings of its pans in RUN or HOLD (R399). -/
def State.overRated (s : State) (r : Nat) : Bool :=
  decide (((s.livePans r).map fun n => 8000 * (s.node n).rating).sum < (s.reg r).tel.epoch.toNat)
/-- MODE of a pan with the carry permit set or clear. -/
def withCarry (v : Nat) (b : Bool) : Nat := v % 8 + 8 * b2n b + v / 16 * 16
/-- MODE writes that give every pan of a region that is on the carry permit `b` (R399). -/
def State.carryWrites (s : State) (r : Nat) (b : Bool) (skip : List Nat) : List CW :=
  ((((s.rimg r).pans ++ (s.rimg r).spares).filter fun n =>
      decide (s.com.nodeMode.get modeReset n % 4 = 1) && !skip.contains n && !(s.nflt n).ooc).map fun n =>
    CW.nodeMode n (s.hdrOf n) (BitVec.ofNat 32 (withCarry (s.com.nodeMode.get modeReset n) b)))
/-- What a recomputation stages beside the allowances: capacity ceilings that have changed, and carry permits that no
longer hold (R399, R405). -/
def State.recompWrites (s : State) : List CW :=
  (s.regions.filter fun r => decide ((s.com.reg r).state = .on)).flatMap fun r =>
    (if s.ccapOf r ≠ (s.com.reg r).ccap then [CW.capCeil r (s.ccapOf r)] else []) ++
    (if (s.com.reg r).carry && !s.short r && !s.overRated r then s.carryWrites r false [] else [])
/-- ALLOWANCE_RECOMPUTATION (R301): staged as one set, if a value changes. -/
def execAllowanceRecomputation (s : State) : Host.Outcome State Fault Refusal :=
  if s.sys.ready = false ∨ s.service = false then done s
  else
    let extra := s.recompWrites
    let c := recompute s s.com
    let b := c.bud
    let s := s.updBud fun x => { x with shortmin := decide (b.cap - b.reserve < b.minC + b.minM + b.minL) }
    if extra = [] ∧ c = s.com then done s else done (s.stageSet (CW.recompute :: extra))

/-! ### Snapshots (R166 to R169, R508) -/

/-- Offsets of the registers marked Y in R498. -/
def snapOffsets : List Nat :=
  let run (a b : Nat) : List Nat := (List.range ((b - a) / 4 + 1)).map fun k => a + 4 * k
  run 0x0 0x4 ++ run 0x30 0x38 ++ run 0x48 0x54 ++ [0x6C, 0x78] ++ run 0x80 0xA0 ++ run 0x200 0x23C ++ run 0x300 0x36C ++
  run 0x380 0x41C ++ run 0x500 0x53C ++ run 0x5C0 0x5CC ++ run 0x600 0x610 ++ run 0x800 0x808 ++ run 0x810 0x830 ++ [0x900] ++
  run 0x910 0x914 ++ run 0x920 0x93C
/-- A slot at its latch boundary (R166): the committed state and every present condition frozen. -/
def State.latchSlot (s : State) (x : Snap) : Snap :=
  { x with
    st := 1, filling := true, again := false, got := false, rstDone := x.rst, rst := false, com := s.com,
    words := snapOffsets.foldl (fun (t : Tbl Word) o => t.set 0 (o / 4) (s.peek o 0)) ([] : Tbl Word),
    views := s.regions.foldl (fun (t : Tbl (List Word)) r => t.set [] r ((List.range 22).map (s.regWord r))) ([] : Tbl (List Word)) }
/-- Every pending slot latches (R24). -/
def State.latchSnaps (s : State) : State :=
  s.updDie fun d => { d with snaps := d.snaps.mapVals {} fun _ x =>
    if x.late then { x with late := false } else if x.stAt s.now = 1 ∧ x.filling = false then s.latchSlot x else x }

/-- SNAPSHOT_READY (R168): the fill completes; a request that came meanwhile makes the slot PENDING on the next CKS cycle. Slot 4 is
the management core's. -/
def execSnapshotReady (slot : Nat) (s : State) : Host.Outcome State Fault Refusal :=
  let x := s.tel.snaps.get {} slot
  if x.filling = false ∨ x.got = false then done s
  else
    let y : Snap := { x with st := 2, filling := false, againAt := (s.now / cksT + 1) * cksT, seq := x.seq + 1 }
    let s := s.updDie fun d => { d with snaps := d.snaps.set {} slot y }
    if slot = 4 then done s else done (s.cause 3)

/-! ### Tally window (R416) -/

/-- The stored total plus the increments. -/
def State.tallyNow (s : State) (k : Nat) : Nat := s.flt.totals.get 0 k + s.flt.tally.get 0 k + s.flt.taken.get 0 k
/-- TALLY_VALUE_READY (R416). -/
def execTallyValueReady (s : State) : Host.Outcome State Fault Refusal :=
  if s.flt.talReady then done s
  else
    let w := s.hw.talsel
    let v := s.tallyNow (tallyKey (ufield w 16 6) (ufield w 0 10) (ufield w 10 4))
    done (s.updFlt fun f => { f with talReady := true, talVal := BitVec.ofNat 64 v, talEp := s.tel.epoch, talGen := s.tel.gen })

end Sys2Proof.Machine
end

