-- ==== Sys2Proof/Machine/Faults.lean ====
section
/-! DEFINITION. EVENT packets at ponds and at the hub, window exits and tally reports, and the management core's responses to
faults (R103, R110, R157, R159, R288, R395 to R409, R412). -/

namespace Sys2Proof.Machine

/-- A pan's own EVENT of a window exit at the hub (R159): pending bit, the first pan, the cause, the tally. -/
def State.windowExit (s : State) (src : NodeId) (cause : Byte) (detail : Word) : State :=
  match (s.nodeById src).bind s.regionOf with
  | none => s
  | some r =>
    let n := if bitOf detail 1 then ufield detail 8 8 else 1
    let t := (s.reg r).tel
    let summary := bitOf detail 1
    let bump (a b m : Nat) : Nat × Nat := if summary && !s.tel.closed then (a, satN (b + n) m) else (satN (a + n) m, b)
    let (kind, was) := if cause = 0x20 then (0, t.wxFast) else if bitOf detail 2 then (2, t.wxSlowI) else (1, t.wxSlowV)
    let c := s.now / cksT
    let pick (id : NodeId) (at_ : Nat) : NodeId × Nat := if was && !(decide (at_ = c) && decide (src.toNat < id.toNat)) then (id, at_) else (src, c)
    let s := s.updTel r fun t => match kind with
      | 0 => let k := bump t.exFast t.enFast 65535
             let p := pick t.idFast t.atFast
             { t with wxFast := true, idFast := p.1, atFast := p.2, exFast := k.1, enFast := k.2 }
      | 1 => let k := bump t.exSlowV t.enSlowV 255
             let p := pick t.idSlowV t.atSlowV
             { t with wxSlowV := true, idSlowV := p.1, atSlowV := p.2, exSlowV := k.1, enSlowV := k.2 }
      | _ => let k := bump t.exSlowI t.enSlowI 255
             let p := pick t.idSlowI t.atSlowI
             { t with wxSlowI := true, idSlowI := p.1, atSlowI := p.2, exSlowI := k.1, enSlowI := k.2 }
    let s := s.tally 0x06 r kind n
    if was then s else s.cause 0

/-- A tally report is added to its rail's or region's tally (R412). -/
def State.tallyIn (s : State) (src : NodeId) (cause : Byte) (detail : Word) : State :=
  match (s.nodeById src).bind s.regionOf with
  | none => s
  | some r =>
    let rail := (s.rimg r).rail.idx
    let lo := ufield detail 0 16
    let hi := ufield detail 16 16
    let k := cause.toNat - 0x30
    if k < 8 then (s.tally 0x01 rail (2 * k) lo).tally 0x01 rail (2 * k + 1) hi
    else if k = 8 then (s.tally 0x05 r 0 lo).tally 0x10 rail 1 hi
    else if k = 9 then s.tally 0x10 rail 2 detail.toNat
    else if k = 10 then s.tally 0x10 rail 0 detail.toNat
    else s

/-- A stage fault or a suspect contact reaches the hub (R398, R402, R403). -/
def State.lossIn (s : State) (src : NodeId) (cause : Byte) (detail : Word) : State :=
  match s.nodeById src with
  | none => s
  | some n =>
    if cause = 0x15 then
      if bitOf detail 0 then
        (((s.updNflt n fun x => { x with stflt := true, st := .faulted, outAt := none }).siblingsCarry n).tally 0x0C 0 0 1).lose n 1
      else s.updNflt n fun x => { x with stflt := false, highAt := s.now }
    else
      let k := ufield detail 0 2
      let s := if k = 1 ∨ k = 3 then s.updNflt n fun x => { x with base := true, rb := ufield detail 16 16 } else s
      if k = 2 ∨ k = 3 then (s.tally 0x0C 0 1 1).lose n 3 else s

/-- An EVENT at the hub (R157, R159, R396, R398, R412). -/
def State.hubEvent (s : State) (src : NodeId) (cause : Byte) (detail : Word) : State :=
  match s.nodeById src with
  | none => s
  | some n =>
    let c := cause.toNat
    if c = 0x05 then (n :: (s.subtree n).filter s.isPan).foldl (fun s k => s.updNode k fun x => { x with resyncDue := true }) s
    else if c = 0x13 then s.updNflt n fun x => { x with local_ := bitOf detail 0 }
    else if c = 0x15 ∨ c = 0x18 then s.lossIn src cause detail
    else if c = 0x17 then s.updNflt n fun x => x.hold (bitOf detail 0) s.now
    else if c = 0x20 ∨ c = 0x22 then s.windowExit src cause detail
    else if c = 0x24 then (s.updNflt n fun x => { x with adcLost := ufield detail 0 2 }).tally 0x0C 0 10 1
    else if 0x30 ≤ c ∧ c ≤ 0x3A then s.tallyIn src cause detail
    else s

/-- An EVENT is the next packet that the hub receives from some child. -/
def State.hubHas (s : State) (src : NodeId) (cause : Byte) (detail : Word) : Bool := (s.fromBelow 0 (eventPkt src cause detail)).isSome
/-- The hub takes an EVENT from the child behind which its source stands. -/
def State.takeEvent (s : State) (src : NodeId) (cause : Byte) (detail : Word) : State := s.takeInto 0 (eventPkt src cause detail)

/-- EVENT: a pond sends it on upward unchanged, and sets carry on cause 0x15 from a child (R55, R103); the hub takes it. -/
def execEvent (n : Nat) (src : NodeId) (cause : Byte) (detail : Word) (s : State) : Host.Outcome State Fault Refusal :=
  let p := eventPkt src cause detail
  if s.fromBelow n p = none then done s
  else if n = 0 then done ((s.takeEvent src cause detail).hubEvent src cause detail)
  else
    let s := (s.takeInto n p).sendUp n p
    match (s.children n).find? fun c => decide ((s.node c).id = src) with
    | some c => if cause = 0x15 then done (s.setCarry n c) else done s
    | none => done s
/-- STAGE_FAULT_EVENT (R103): the pond forwards the child's cause 0x15 and sets CARRYAUTO in the others. -/
def execStageFaultEvent (pond child : Nat) (s : State) : Host.Outcome State Fault Refusal :=
  let p := eventPkt (s.node child).id 0x15 1
  if pond = 0 ∨ !(s.children pond).contains child ∨ s.isPan child = false ∨ (s.dir (s.upLink child) .up).holds p = false then done s
  else
    done (((s.takeUp child p).sendUp pond p).setCarry pond child)
/-- WINDOW_EXIT_PENDING (R159). -/
def execWindowExitPending (src : NodeId) (cause : Byte) (detail : Word) (s : State) : Host.Outcome State Fault Refusal :=
  if (cause = 0x20 ∨ cause = 0x22) ∧ s.hubHas src cause detail then done ((s.takeEvent src cause detail).windowExit src cause detail) else done s
/-- TALLY_REPORT (R412). -/
def execTallyReport (src : NodeId) (cause : Byte) (detail : Word) (s : State) : Host.Outcome State Fault Refusal :=
  if 0x30 ≤ cause.toNat ∧ cause.toNat ≤ 0x3A ∧ s.hubHas src cause detail then done ((s.takeEvent src cause detail).tallyIn src cause detail) else done s
/-- LOSS_REPORT (R398). -/
def execLossReport (src : NodeId) (cause : Byte) (detail : Word) (s : State) : Host.Outcome State Fault Refusal :=
  if (cause = 0x15 ∨ cause = 0x18) ∧ s.hubHas src cause detail then done ((s.takeEvent src cause detail).lossIn src cause detail) else done s
/-- SLUICE_FAULT_EXPIRY (R395): 1 ms after the last sluice fault. -/
def execSluiceFaultExpiry (s : State) : Host.Outcome State Fault Refusal :=
  match s.flt.sluAt with
  | some t => done ((s.reach (t + msT)).updFlt fun f => { f with sluAt := none })
  | none => done s

/-! ### Responses (R288, R398 to R400, R407) -/

/-- One lost pan matched with a spare (R398): lost pan, retire cause, spare. -/
structure LossMatch where
  pan : Nat
  cause : Nat
  spare : Option Nat
  deriving DecidableEq, Repr
/-- The first spare of the same kind that is in OFF, not lost and not given away (R398). -/
def State.findSpare (s : State) (n : Nat) (used : List Nat) : Option Nat :=
  match s.regionOf n with
  | none => none
  | some r => (s.rimg r).spares.find? fun k =>
      decide (s.privPan k = s.privPan n) && decide (s.knownSt k = .off) && !(s.nflt k).lost && !(s.nflt k).missing && !used.contains k
/-- The losses of a collection in ascending node ID, each with its spare. -/
def State.matchLosses (s : State) : List (Nat × Nat) → List Nat → List LossMatch
  | [], _ => []
  | (n, c) :: rest, used =>
    let k := s.findSpare n used
    ⟨n, c, k⟩ :: s.matchLosses rest (used ++ k.toList)
/-- Insertion by node ID. -/
def State.insLoss (s : State) (x : Nat × Nat) : List (Nat × Nat) → List (Nat × Nat)
  | [] => [x]
  | y :: t => if (s.node x.1).id.toNat ≤ (s.node y.1).id.toNat then x :: y :: t else y :: s.insLoss x t
/-- A faulted pan without a spare is kept for its return, up to three times; every other loss is retired (R398, R400). -/
def State.retires (s : State) (m : LossMatch) : Option Nat :=
  if m.cause = 0 then none
  else if m.cause = 3 then some 3
  else if m.spare.isSome then some 1
  else if 3 ≤ (s.nflt m.pan).returns then some 2
  else none

/-- LOSS_RESPONSE (R398, R399, R405): 32 us after the first report, one derived set: spares on, lost pans retired, carry
permits, the capacity ceiling. A spare's MODE on in a region that is not LIVE is kept for its next start (R289, R401). -/
def execLossResponse (s : State) : Host.Outcome State Fault Refusal :=
  match s.flt.windowAt with
  | none => done s
  | some t =>
    if s.sys.ready = false ∨ s.service = false then done s
    else
      let s := s.reach (t + 32 * usT)
      let ms := s.matchLosses (s.flt.losses.foldl (fun l x => s.insLoss x l) []) []
      let live (n : Nat) : Bool := match s.regionOf n with
        | some r => decide ((s.reg r).seq.st = .live)
        | none => false
      let on := ms.filterMap fun m => m.spare
      let modeOn (n : Nat) (carry : Bool) : CW := .nodeMode n (s.hdrOf n) (BitVec.ofNat 32 (withCarry (s.com.nodeMode.get modeReset n / 4 * 4 + 1) carry))
      let off := ms.filterMap fun m => match s.retires m with
        | some c => some (m.pan, c)
        | none => none
      let rs := (ms.filterMap fun m => s.regionOf m.pan).eraseDups
      let admitted (r : Nat) : List Nat := on.filter fun k => decide (s.regionOf k = some r)
      let short (r : Nat) : Bool := s.short r && (admitted r).isEmpty
      let carry (r : Nat) : Bool := s.overRated r || short r
      let w := rs.flatMap fun r =>
        ((admitted r).filter live).map (fun k => modeOn k (carry r)) ++ s.carryWrites r (carry r) (off.map Prod.fst) ++
        (let c := if short r then 95 * s.carryCap r * (300 + (s.com.reg r).setpt) / 12500000 else 0
         if c ≠ (s.com.reg r).ccap then [CW.capCeil r c] else [])
      let w := w ++ off.map fun x => CW.nodeMode x.1 (s.hdrOf x.1) (BitVec.ofNat 32 (s.com.nodeMode.get modeReset x.1 / 4 * 4 + 2))
      let s := s.stageSet (if w.isEmpty then [] else w ++ [CW.recompute])
      let s := off.foldl (fun s x => s.updNflt x.1 fun k => { k with rcause := x.2, contact := k.contact || decide (x.2 = 3) }) s
      let s := (on.filter fun k => !live k).foldl (fun s k => s.updNflt k fun x => { x with keepOn := true }) s
      let s := (s.tally 0x0C 0 2 on.length).tally 0x0C 0 11 w.length
      done (s.updFlt fun f => { f with losses := [], windowAt := none })

/-- FAULTED_PAN_RETURN (R288, R289, R400): PAN_FLT_N high for 1 ms; at most three times per BOOT; MODE off first. In a region
that is not LIVE the return is kept for its next start. -/
def execFaultedPanReturn (n : Nat) (s : State) : Host.Outcome State Fault Refusal :=
  let x := s.nflt n
  if s.sys.ready ∧ s.knownSt n = .faulted ∧ x.stflt = false ∧ x.rcause = 0 ∧ x.returns < 3 ∧ x.returning = 0 ∧ x.keepOn = false ∧
      !(s.flt.losses.any fun y => decide (y.1 = n)) then
    let s := s.reach (x.highAt + msT)
    let live := match s.regionOf n with
      | some r => decide ((s.reg r).seq.st = .live)
      | none => false
    if live = false then
      done ((s.updNflt n fun x => { x with keepOn := true, returns := x.returns + 1 }).tally 0x0C 0 3 1)
    else
    let s := s.stageFw (.nodeMode n (s.hdrOf n) (BitVec.ofNat 32 (s.com.nodeMode.get modeReset n / 4 * 4)))
    done ((s.updNflt n fun x => { x with returning := 1, returns := x.returns + 1 }).tally 0x0C 0 3 1)
  else done s

/-- FAULT_ORDER (R407). -/
def execFaultOrder (r : Nat) (s : State) : Host.Outcome State Fault Refusal :=
  let g := s.reg r
  if s.sys.ready ∧ s.hasReg r ∧ (s.com.reg r).state = .on ∧ (s.com.reg r).forder = false ∧
      (((s.livePans r).isEmpty ∧ g.seq.st = .live) ∨ 16 ≤ g.overcap) then
    done ((s.stageFw (.faultOrder r)).tally 0x0C 0 4 1)
  else done s

end Sys2Proof.Machine
end

