-- ==== Sys2Proof/Machine/Glueup.lean ====
section
/-! DEFINITION. Glue-up at the hub (R16 to R31, R59 to R64, R195 to R198, R236, R237, R254 to R264, R275): the close of
staging, the acknowledgement deadline, the deferral limit and the epoch boundary. -/

namespace Sys2Proof.Machine

/-! ### What the hub stages by itself -/

/-- Writes staged by the hub as one unit, unless they stand in the queue already. -/
def State.stageHub (s : State) (cws : List CW) : State :=
  if cws.all fun c => s.stg.queue.any fun w => decide (w.cw = c) then s
  else
    let g := s.stg.derived
    let s := s.updStg fun x => { x with derived := g + 1 }
    cws.foldl (fun s c => s.stage { cw := c, src := .guard_, grp := g }) s
/-- MODE off to a region's pond (R275). -/
def State.offWrite (s : State) (r : Nat) : CW := .nodeMode (s.rimg r).pond (s.pondHdr r) (s.modeWord r 0)
/-- Pan MODE off and on that sequencers wait for (R275, R286), the coolant stop's MODE off (R386), and a tray ceiling held
until its allowances can commit with it (R484). -/
def State.stageAutos (s : State) : State :=
  let s := s.stg.offsDue.foldl (fun s r => s.stageHub [s.offWrite r]) s
  let s := s.stg.onsDue.foldl (fun s r => s.stageHub (s.startWrites r)) s
  let s := if s.sys.stop = .coolant ∧ s.sys.stopStep = 1 then s.stageHub (s.regions.map s.offWrite) else s
  match s.ports.trayHeld with
  | some g =>
    if s.sys.ready then (s.updPorts fun p => { p with trayHeld := none }).stageHub [.trayCeil g] else s
  | none => s

/-! ### The choice of a set (R21, R60, R197, R237) -/

/-- Units with a write deferred at four consecutive boundaries fail whole, and a sluice fault is reported (R21). -/
def State.deferLimit (s : State) : State :=
  let dead := (unitsOf s.stg.queue).filter fun u => u.any fun w => decide (4 ≤ w.defer)
  if dead.isEmpty then s
  else
    let s := s.updStg fun g => { g with queue := g.queue.filter fun w => !(dead.any fun u => u.contains w) }
    (dead.foldl State.failWrites s).sluiceFault

/-- The choice so far: units taken and kept back, the ports that units kept back need, and the ports that one unit has to
itself. -/
structure Pick where
  take : List (List SWrite) := []
  keep : List (List SWrite) := []
  blocked : List Nat := []
  alone : List Nat := []
  deriving DecidableEq, Repr
/-- What a derived write names (R60): a region, by number + 1; a node of none; nothing, which is 0. -/
def State.unitKey (s : State) (byNode : Bool) : CW → Nat
  | .order r _ _ | .phase r _ | .context r _ | .band r _ | .guardband r _ | .faultOrder r | .capCeil r _ => r + 1
  | .nodeMode n _ _ | .nodeStage n _ _ _ => if byNode then 2048 + n else
      match s.nodeRegion n with
      | some r => r + 1
      | none => 2048 + n
  | .reg .. | .phcmd .. | .holding _ | .trayCeil _ | .vret _ | .recompute => 0
/-- The writes of a derived set by what they name, in the order in which each is first named. -/
def State.partsBy (s : State) (byNode : Bool) (u : List SWrite) : List (List SWrite) :=
  ((u.map fun w => s.unitKey byNode w.cw).eraseDups).map fun k => u.filter fun w => decide (s.unitKey byNode w.cw = k)
/-- The leading parts that need at most 96 packets on any port, at least one, and the rest. -/
def State.cutParts (s : State) (gs : List (List SWrite)) : List SWrite × List SWrite :=
  gs.foldl (fun p g =>
    if p.2.isEmpty && (p.1.isEmpty || decide (topLoad (s.setLoads (p.1 ++ g)) ≤ 96)) then (p.1 ++ g, p.2)
    else (p.1, p.2 ++ g)) ([], [])
/-- A derived set that needs more than 96 packets on a port goes in parts, each complete for the regions it names, or, where one
region's writes alone need more, for the nodes (R60; DEDUCED, log 97). -/
def State.cutUnit (s : State) (u : List SWrite) : List SWrite × List SWrite :=
  if u.all (fun w => decide (w.src ≠ .host)) && decide (96 < topLoad (s.setLoads u)) then
    let x := s.cutParts (s.partsBy false u)
    if topLoad (s.setLoads x.1) ≤ 96 then x
    else
      let y := s.cutParts (s.partsBy true x.1)
      (y.1, y.2 ++ x.2)
  else (u, [])
/-- One unit is taken or kept back (R60). -/
def State.pickUnit (s : State) (k : Pick) (u : List SWrite) : Pick :=
  let own := s.setLoads u
  let before := s.setLoads k.take.flatten
  let after := s.setLoads (k.take.flatten ++ u)
  let ports := (own.keys ++ after.keys.filter fun p => decide (before.get 0 p < after.get 0 p)).eraseDups
  let big := decide (48 < topLoad own)
  let free := ports.all fun p => !k.blocked.contains p && !k.alone.contains p
  let fits := free && ports.all fun p => if big then decide (before.get 0 p = 0) else decide (after.get 0 p ≤ 48)
  if fits then { k with take := k.take ++ [u], alone := if big then k.alone ++ ports else k.alone }
  else { k with keep := k.keep ++ [u], blocked := k.blocked ++ ports }
/-- One unit of the queue, cut where it is too long for any set. -/
def State.pickCut (s : State) (k : Pick) (u : List SWrite) : Pick :=
  let x := s.cutUnit u
  let k := s.pickUnit k x.1
  if x.2.isEmpty then k else { k with keep := k.keep ++ [x.2], blocked := k.blocked ++ (s.setLoads x.2).keys }
/-- Units with a close beyond the 256 lowest loop indices (R237): those closes are carried to the next boundary, with the rest of a
bundle, whose members commit together; the other writes of a set that the hub has derived stay (DEDUCED, log 97). -/
def State.carried (s : State) (us : List (List SWrite)) : List (List SWrite × List SWrite) :=
  let all := (us.flatMap fun u => s.loopsOf u true).eraseDups
  let late (w : SWrite) : Bool := (s.loopsOf [w] true).any fun l => decide (256 ≤ (all.filter fun k => decide (k < l)).length)
  us.map fun u =>
    if u.any late = false then (u, [])
    else if u.any fun w => decide (w.src = .host) then ([], u)
    else (u.filter fun w => !late w, u.filter late)

/-- A coefficient write that some loop would still refuse after the opens of the set (R197). -/
def State.coefRefused (s : State) (us : List (List SWrite)) (w : SWrite) : Bool :=
  match w.cw with
  | .reg off sel _ _ =>
    decide (off = 0xC14) && s.eng.loops.any fun e =>
      e.2.used && decide (e.2.cbase ≤ sel) && decide (sel < e.2.cbase + e.2.clen) && (s.com.loop e.1).closed &&
      !(s.openedBy us.flatten).contains e.1
  | _ => false
/-- Refused coefficient writes complete LOOP CLOSED, and the rest of their bundles FAILED (R197, R262), until none is left. -/
def State.refuseCoefs : Nat → State → List (List SWrite) → State × List (List SWrite)
  | 0, s, us => (s, us)
  | fuel + 1, s, us =>
    let bad := us.filter fun u => u.any (s.coefRefused us)
    if bad.isEmpty then (s, us)
    else
      let s' := bad.foldl (fun t u => u.foldl (fun t w => t.complete w (if s.coefRefused us w then .loopClosed else .failed) false 0) t) s
      State.refuseCoefs fuel s' (us.filter fun u => !bad.contains u)

/-! ### The close of staging (R20, R59) -/

/-- The generation after another (R22, R264). -/
def nextGen (g : Word) : Word := if g + 1 = 0 then 1 else g + 1
/-- Committed values alone: what a change of which makes a generation (R22). -/
def Committed.values (c : Committed) : Committed :=
  { c with gen := 0, regs := c.regs.mapVals {} fun _ x => { x with onWrites := 0, viaReq := false } }
/-- The packets of a set and of the part that goes with it: each target's STAGE packets and its END, then one set close
(R59). -/
def State.sendSet (s : State) (xs : List StageItem) : State :=
  let s := (targetsOf xs).foldl (fun s t =>
    let ys := xs.filter fun x => decide ((x.n, x.h) = t)
    let s := ys.foldl (fun s x => s.hubSend (stagePkt x.h x.sel s.stg.tag x.v)) s
    s.hubSend (stagePkt t.2 0xFF s.stg.tag (BitVec.ofNat 32 ys.length))) s
  s.hubAll (stagePkt allHdr 0xFE s.stg.tag 0)
/-- The set in hand formed from the writes chosen, and sent. -/
def State.formSet (s : State) (ws : List SWrite) (alone : List Nat) : State :=
  let x := s.composeSet ws
  let gen := if x.1.values = s.com.values then s.com.gen else nextGen s.com.gen
  let c := { x.1 with gen := gen }
  let part := s.resyncPart c alone
  let xs := s.setItems ws c x.2 ++ part.flatMap (s.resyncItems c)
  let s := s.updStg fun g => { g with
    closed := true, tag := BitVec.ofNat 3 (s.epoch.toNat + 1),
    hand := { active := !(ws.isEmpty && part.isEmpty), writes := ws, next := c, ports := s.expects xs, gen := gen,
              verdict := if xs.isEmpty then some true else none, starts := x.2, resync := part } }
  if xs.isEmpty then s else s.sendSet xs

/-- STAGING_CLOSE (R20, R59, R60): 600 CKS cycles before the boundary. -/
def execStagingClose (s : State) : Host.Outcome State Fault Refusal :=
  if s.hw.bstate = .off ∨ s.stg.closed then done s
  else
    let s := s.reach (s.epochAt + 4200 * cksT)
    let s := s.stageAutos.deferLimit
    let us := unitsOf s.stg.queue
    let cs := s.carried us
    let k := ((cs.map Prod.fst).filter fun u => !u.isEmpty).foldl s.pickCut {}
    let keep := k.keep ++ cs.map Prod.snd
    let s := s.updStg fun g => { g with queue := us.flatten.filter fun w => keep.any fun u => u.contains w }
    let x := State.refuseCoefs (k.take.length + 1) s k.take
    done (x.1.formSet x.2.flatten k.alone)

/-! ### The deadline and the deferral (R21, R62) -/

/-- The set in hand is staged again, ahead of what has come since: one that a later write of its source and field has
overtaken completes SUPERSEDED (R21, R260). -/
def State.requeue (s : State) : State :=
  let ws := s.stg.hand.writes.map fun w => { w with defer := w.defer + 1 }
  let clash (w : SWrite) : Bool := s.stg.queue.any fun x => clashes x w
  let s := (ws.filter clash).foldl (fun s w => s.complete w .superseded false 0) s
  s.updStg fun g => { g with queue := (ws.filter fun w => !clash w) ++ g.queue, hand := {} }

/-- ACK_DEADLINE (R62): at B - 128. -/
def execAckDeadline (s : State) : Host.Outcome State Fault Refusal :=
  if s.stg.hand.active ∧ s.stg.hand.verdict = none then
    let s := s.reach (s.epochAt + 4672 * cksT)
    if s.stg.hand.complete then done (s.giveVerdict true) else done (s.giveVerdict false).requeue
  else done s

/-- SET_DEFERRAL_LIMIT (R21). -/
def execSetDeferralLimit (s : State) : Host.Outcome State Fault Refusal := done s.deferLimit

/-! ### The boundary (R20 to R24, R31, R263) -/

/-- The figures of the epoch that ended are set apart and the new epoch's begin (R310, R332, R407, R508). -/
def State.latchRegion (s : State) (r : Nat) : State :=
  s.updReg r fun y => { y with
    seq := { y.seq with inService := false },
    krf := { y.krf with
      eKerfed := y.krf.kerfed, eCycles := y.krf.cyclesTo s.now, eService := y.seq.inService, eCtx := (s.com.reg r).ctx,
      eAll60 := y.krf.all60, kerfed := decide (y.krf.kPres ≠ 0), all60 := decide (y.krf.kPres = 60), sCycles := 0, sAt := s.now },
    tel := { y.tel with
      enFast := y.tel.exFast, enSlowV := y.tel.exSlowV, enSlowI := y.tel.exSlowI, exFast := 0, exSlowV := 0, exSlowI := 0 } }
/-- The hub's epoch counter advances (R6, R19). -/
def State.newEpoch (s : State) : State :=
  let s := s.reach (s.epochAt + epochT)
  let s := { s with epochAt := s.epochAt + epochT, epoch := s.epoch + 1 }
  let s := s.regions.foldl State.latchRegion s
  let s := s.updDie fun d => { d with closed := false, genWas := s.com.gen }
  let s := s.updLed fun l => { l with eLed := s.com.shim.leden }
  let s := s.updNode 0 fun x => { x with parity := [] }
  let s := s.updConv fun c => { c with phases := c.phases.mapVals {} fun _ p => { p with enWas := p.enSeen || p.en, enSeen := p.en } }
  if s.eng.dispatching ∧ s.eng.timerAt = none then s.updEng fun e => { e with timerAt := some s.now } else s

/-- The hub guard's stop state over a committed state (R267). -/
def Committed.stopped (c : Committed) : Committed :=
  { c with guardStop := true, regs := c.regs.mapVals {} fun _ x => { x with state := .off, viaReq := false } }
/-- The state of an orderly or a coolant stop is due at this boundary (R33, R382, R386). -/
def State.stopDue (s : State) : Bool := decide (s.sys.stop ≠ .none) && !s.com.guardStop
/-- The set in hand commits at this boundary (R62). -/
def State.commits (s : State) : Bool := s.stg.hand.active && decide (s.stg.hand.verdict = some true)
/-- The committed state after this boundary; an open takes the values last sent at it (R196). -/
def State.boundaryCom (s : State) : Committed :=
  let c := if s.commits then openLoops s s.stg.hand.writes s.stg.hand.next else s.com
  let c := if s.com.guardStop || s.stopDue then c.stopped else c
  { c with gen := if s.stopDue && decide (c.gen = s.com.gen) then nextGen c.gen else c.gen }

/-- A region's model starts from 0 V where its pan MODE on commits (R105, R255, log 28). -/
def State.modelStart (s : State) (r : Nat) : State :=
  s.updReg r fun y => { y with model := -300, modelAt := s.now, atSet := false }
/-- Step counters and models after a change of a region's set-point or rate (R254). -/
def State.modelMoved (s : State) (old c : Committed) (r : Nat) : State :=
  let a := old.reg r
  let b := c.reg r
  if a.setpt = b.setpt ∧ a.rate = b.rate then s
  else s.updReg r fun y => { y with
    modelAt := s.now, modelAtSet := if !y.atSet && decide (y.model = b.setpt) then s.now else y.modelAtSet,
    atSet := decide (y.model = b.setpt) }
/-- The same of a converter rail (R115, R254). -/
def State.railMoved (s t : State) (x : Rail) : State :=
  if t.railSet x = s.railSet x ∧ t.railSlew x = s.railSlew x then s
  else s.updRail x fun q => { q with setAt := s.now, modelAt := s.now }

/-- A write completes at its glue-up (R23, R255, R256, R259): a voltage command that takes over a target supersedes the one
that still slews there, and one that slews itself waits for its models. -/
def State.finishWrite (s : State) (old c : Committed) (x : SWrite × Status × Bool) : State :=
  let w := x.1
  let ts := vtargets old w.cw
  let (s, st) := match w.cw with
    | .phcmd n v =>
      let y := s.phaseCmd n v
      (y.1, if y.2 then Status.failed else x.2.1)
    | _ => (s, x.2.1)
  let hit (k : VCmd) : Bool := k.targets.any ts.contains
  let s := (s.stg.vcmds.filter hit).foldl (fun s k => s.updRec k.ticket fun r => { r with status := .superseded }) s
  let s := s.updStg fun g => { g with vcmds := g.vcmds.filter fun k => !hit k }
  let s := if w.src = .host ∧ (st = .done ∨ st = .clamped ∨ st = .committed) then s.tallyRole w.role else s
  let s := s.complete w st x.2.2 c.gen
  if st = .committed then
    let left := ts.filter fun t => judged c t && decide (s.modelOf t ≠ setOf c t)
    s.updStg fun g => { g with vcmds := g.vcmds ++ [{ ticket := w.ticket, targets := left }] }
  else s

/-- A region takes its new committed state (R263 step 4, R275, R286): a start whose MODE on is not in the set waits for it,
and a MODE on that the region no longer wants is followed by MODE off. -/
def State.handOver (s : State) (old c : Committed) (modeOn : List Nat) (stopNow : Bool) (r : Nat) : State :=
  let a := old.reg r
  let b := c.reg r
  let was := (s.reg r).seq.st
  let s :=
    if a.state ≠ b.state then
      (if stopNow && decide ((s.rimg r).rail = .vret) then s else seqCommit s r b.state b.viaReq)
    else if b.state = .on ∧ (s.reg r).seq.startfail ∧ 0 < b.onWrites then
      (if was.startsAtOnce then enterRising s r
       else if was = .falling then s.updSeq r fun q => { q with failSeen := false, target := 1 } else s)
    else s
  let st := (s.reg r).seq.st
  let off (s : State) : State := s.updStg fun g => { g with
    offsDue := if g.offsDue.contains r then g.offsDue else g.offsDue ++ [r] }
  let drop (s : State) : State := s.updStg fun g => { g with onsDue := g.onsDue.filter fun x => decide (x ≠ r) }
  if modeOn.contains r then
    (if st = .rising then (drop s).modelStart r else off (drop s))
  else if st = .rising ∧ was ≠ .rising ∧ !s.stg.onsDue.contains r then
    s.updStg fun g => { g with onsDue := g.onsDue ++ [r] }
  else s

/-- What the commit of a MODE write to one pan moves (R288, R289, R401): a kept spare is admitted, and a return goes on from
MODE off to MODE on and then ends. -/
def State.modeDone (s : State) (c : CW) : State :=
  match c with
  | .nodeMode n h v =>
    if s.panKeys.contains n = false then s
    else
      let s := s.updNflt n fun x => { x with
        keepOn := false, returning := if x.keepOn ∧ ufield v 0 2 = 0 then 1 else x.returning }
      let x := s.nflt n
      if x.returning = 1 ∧ ufield v 0 2 = 0 then
        (s.updNflt n fun x => { x with returning := 2 }).stageFw
          (.nodeMode n h (BitVec.ofNat 32 (s.com.nodeMode.get modeReset n / 4 * 4 + 1)))
      else if x.returning = 2 ∧ ufield v 0 2 = 1 then s.updNflt n fun x => { x with returning := 0, lost := false }
      else s
  | _ => s

/-- What the hub knows of the pans that a committed MODE reaches (R15, R105, R108, R396): another pan of the region that runs holds
its grid up; a spare is admitted by a MODE on addressed to it without BC. -/
def State.modeKnown (s : State) (t : State) (c : CW) : State :=
  match c with
  | .nodeMode n h v =>
    (s.modeTargets n v).foldl (fun t k =>
      let live := match s.regionOf k with
        | some r => ((s.rimg r).pans ++ (s.rimg r).spares).any fun j => decide (j ≠ k) && s.knownOn j
        | none => false
      t.updNflt k fun x =>
        let y := x.mode (ufield v 0 2) live s.now
        { y with admitted := y.admitted || (decide (n = k) && !h.bc && decide (ufield v 0 2 = 1)) }) t
  | _ => t

/-- Region figures that follow a commit: the time in bands (R380) and the lowest guardband (R392). -/
def State.bandMoved (s : State) (old c : Committed) (r : Nat) : State :=
  let b := (c.reg r).band
  s.updTh r fun h => { h with
    b5At := if b = 5 ∧ (old.reg r).band ≠ 5 then s.now else h.b5At,
    lowAt := if b ≤ 3 then some (h.lowAt.getD s.now) else none, gbmin := min h.gbmin (c.reg r).gb }
/-- LIVE is rewritten where a pan MODE of the region has changed (R241). -/
def State.liveMoved (s : State) (old c : Committed) (r : Nat) : State :=
  let ns := (s.rimg r).pans ++ (s.rimg r).spares
  if ns.all fun n => decide (old.nodeMode.get modeReset n % 4 = c.nodeMode.get modeReset n % 4) then s else s.setLive r

/-- The glue-up's effects on everything beside committed state. -/
def State.glueEffects (s : State) (old c : Committed) (ws : List SWrite) (modes : List CW) (stopNow : Bool) : State :=
  let modeOn := modes.filterMap s.modeOnOf
  let offs := modes.filterMap fun m => match m with
    | .nodeMode n _ v => if ufield v 0 2 = 0 then s.regions.find? fun r => (s.rimg r).pond = n else none
    | _ => none
  let s := s.updStg fun g => { g with offsDue := g.offsDue.filter fun r => !offs.contains r }
  let s := s.regions.foldl (fun s r => s.handOver old c modeOn stopNow r) s
  let s := modes.foldl s.modeKnown s
  let s := modes.foldl State.modeDone s
  let s := s.regions.foldl (fun s r => (s.bandMoved old c r).liveMoved old c r) s
  let s := s.tideCommit old.tide c.tide
  let s := if ws.any fun w => match w.cw with
      | .holding _ => true
      | _ => false
    then s.holdCommitted else s
  let s := s.ledCommit old.shim.leden c.shim.leden
  if s.sys.stop = .coolant ∧ s.sys.stopStep = 1 ∧ (offs ≠ [] ∨ s.regions = []) then s.updSys fun y => { y with stopStep := 2 } else s

/-- The committed state of a glue-up takes force (R31, R198, R254, R263). -/
def State.glueUp (s : State) : State :=
  let old := s.com
  let c := s.boundaryCom
  let stopNow := s.stopDue
  let hand := s.stg.hand
  let ws := if s.commits then hand.writes else []
  let modes := if s.commits then ws.map SWrite.cw ++ hand.starts else []
  let closes := s.closedBy c ws
  let s1 := (modes.filterMap s.modeOnOf).foldl State.modelStart s
  let sts := ws.map fun w => (w, statusOf s1 c w)
  let t := { s with com := c, safe := c }
  let t := [Rail.vib, .vqa, .vqc].foldl (fun t x => t.railMoved s x) t
  let t := t.regions.foldl (fun t r => t.modelMoved old c r) t
  let t := t.glueEffects old c ws modes stopNow
  let t := sts.foldl (fun t x => t.finishWrite old c x) t
  let t := { t with com := { t.com with phcmd := [] } }.convMoved
  let t := closes.foldl (fun t l => t.updLdyn l fun d => { d with scribeAt := some t.cke }) t
  let t := (if s.commits then hand.resync else []).foldl (fun t n =>
    (t.updNode n fun x => { x with resyncDue := false }).updNflt n fun x => { x with lost := false }) t
  if stopNow && t.sys.ready then t.stageFw .recompute else t

/-- EPOCH_BOUNDARY (R20 to R24, R31, R33, R64, R166, R263): the epoch counter advances; the set in hand commits, or is staged
again; an orderly stop's state is written; snapshots latch. -/
def execEpochBoundary (s : State) : Host.Outcome State Fault Refusal :=
  if s.hw.bstate = .off then done s
  else
    let s := s.newEpoch
    let s := if s.stg.hand.active ∧ s.commits = false then s.requeue else s
    let s := if s.commits || s.stopDue then s.glueUp else s
    let s := s.updStg fun g => { g with hand := {}, closed := false }
    done s.latchSnaps.bootBoundary

end Sys2Proof.Machine
end

