-- ==== Sys2Proof/Machine/Dispatch.lean ====
section
/-! DEFINITION. One arm per command: each is one direct call of its meaning. -/

namespace Sys2Proof.Machine

/-- The effect of a command on everything but the queue. -/
def exec (i : Instr) (s : State) : Host.Outcome State Fault Refusal :=
  match i with
  | .epochBoundary => Sys2Proof.Machine.execEpochBoundary s
  | .stagingClose => Sys2Proof.Machine.execStagingClose s
  | .ackDeadline => Sys2Proof.Machine.execAckDeadline s
  | .setDeferralLimit => Sys2Proof.Machine.execSetDeferralLimit s
  | .nodeEpochBoundary n m => Sys2Proof.Machine.execNodeEpochBoundary n m s
  | .parentPathTimeout n => Sys2Proof.Machine.execParentPathTimeout n s
  | .parityLimitReached n port => Sys2Proof.Machine.execParityLimitReached n port s
  | .parityErrorPacket l d => Sys2Proof.Machine.execParityErrorPacket l d s
  | .reservedPacket l d ty => Sys2Proof.Machine.execReservedPacket l d ty s
  | .unroutablePacket n h => Sys2Proof.Machine.execUnroutablePacket n h s
  | .probe n dst port newId => Sys2Proof.Machine.execProbe n dst port newId s
  | .probeTimeout n port => Sys2Proof.Machine.execProbeTimeout n port s
  | .desc n src kind ports wide rating revision => Sys2Proof.Machine.execDesc n src kind ports wide rating revision s
  | .ack n child tag ok count failing => Sys2Proof.Machine.execAck n child tag ok count failing s
  | .pondAckDeadline n => Sys2Proof.Machine.execPondAckDeadline n s
  | .verdict n h tag commit gen => Sys2Proof.Machine.execVerdict n h tag commit gen s
  | .time n h cycle epoch hold => Sys2Proof.Machine.execTime n h cycle epoch hold s
  | .timeResyncPeriod => Sys2Proof.Machine.execTimeResyncPeriod s
  | .rq n child tag count => Sys2Proof.Machine.execRq n child tag count s
  | .rmm n child tag current incomplete vMax vMin => Sys2Proof.Machine.execRmm n child tag current incomplete vMax vMin s
  | .pondRollupDeadline n => Sys2Proof.Machine.execPondRollupDeadline n s
  | .linkAuditTimer l d => Sys2Proof.Machine.execLinkAuditTimer l d s
  | .audit l d sentC sentT sentU => Sys2Proof.Machine.execAudit l d sentC sentT sentU s
  | .resetRequest l d => Sys2Proof.Machine.execResetRequest l d s
  | .resetDone l d => Sys2Proof.Machine.execResetDone l d s
  | .creditInvariantBreak l d k => Sys2Proof.Machine.execCreditInvariantBreak l d k s
  | .adoptRequest n lo hi => Sys2Proof.Machine.execAdoptRequest n lo hi s
  | .adoptDone n h lo hi => Sys2Proof.Machine.execAdoptDone n h lo hi s
  | .rosterRemove n h lo hi => Sys2Proof.Machine.execRosterRemove n h lo hi s
  | .setpt n h tag v => Sys2Proof.Machine.execSetpt n h tag v s
  | .slew n h tag v => Sys2Proof.Machine.execSlew n h tag v s
  | .window n h tag v => Sys2Proof.Machine.execWindow n h tag v s
  | .offset n h v => Sys2Proof.Machine.execOffset n h v s
  | .offslew n h tag v => Sys2Proof.Machine.execOffslew n h tag v s
  | .share n h v => Sys2Proof.Machine.execShare n h v s
  | .mode n h tag v => Sys2Proof.Machine.execMode n h tag v s
  | .freq n h tag v => Sys2Proof.Machine.execFreq n h tag v s
  | .bandset n h tag v => Sys2Proof.Machine.execBandset n h tag v s
  | .arm n h v => Sys2Proof.Machine.execArm n h v s
  | .droop n h tag v => Sys2Proof.Machine.execDroop n h tag v s
  | .overshoot n h tag v => Sys2Proof.Machine.execOvershoot n h tag v s
  | .boostlim n h tag v => Sys2Proof.Machine.execBoostlim n h tag v s
  | .balance n h tag v => Sys2Proof.Machine.execBalance n h tag v s
  | .vmcomp n h tag v => Sys2Proof.Machine.execVmcomp n h tag v s
  | .carryauto n fromParent v => Sys2Proof.Machine.execCarryauto n fromParent v s
  | .fwin n h tag v => Sys2Proof.Machine.execFwin n h tag v s
  | .swinv n h tag v => Sys2Proof.Machine.execSwinv n h tag v s
  | .swini n h tag v => Sys2Proof.Machine.execSwini n h tag v s
  | .sensesel n h tag v => Sys2Proof.Machine.execSensesel n h tag v s
  | .calctl n h tag v => Sys2Proof.Machine.execCalctl n h tag v s
  | .calload n h k v => Sys2Proof.Machine.execCalload n h k v s
  | .calloadI n h v => Sys2Proof.Machine.execCalloadI n h v s
  | .stream n h tag k v => Sys2Proof.Machine.execStream n h tag k v s
  | .epochsamp n h tag v => Sys2Proof.Machine.execEpochsamp n h tag v s
  | .roster n h v => Sys2Proof.Machine.execRoster n h v s
  | .parentSelect n h v => Sys2Proof.Machine.execParentSelect n h v s
  | .exceptionRange n h k v => Sys2Proof.Machine.execExceptionRange n h k v s
  | .exceptionTarget n h k v => Sys2Proof.Machine.execExceptionTarget n h k v s
  | .childPortRange n h k v => Sys2Proof.Machine.execChildPortRange n h k v s
  | .setClose n h tag => Sys2Proof.Machine.execSetClose n h tag s
  | .stageEnd n h tag count => Sys2Proof.Machine.execStageEnd n h tag count s
  | .unimplementedSel n h stage tag sel v => Sys2Proof.Machine.execUnimplementedSel n h stage tag sel v s
  | .slewStep k => Sys2Proof.Machine.execSlewStep k s
  | .setPointModelStep k => Sys2Proof.Machine.execSetPointModelStep k s
  | .cotComparatorFire n vibs v ramp iOther => Sys2Proof.Machine.execCotComparatorFire n vibs v ramp iOther s
  | .frequencyLockUpdate n => Sys2Proof.Machine.execFrequencyLockUpdate n s
  | .peakLimitReached n p cur => Sys2Proof.Machine.execPeakLimitReached n p cur s
  | .excursionStart n idx => Sys2Proof.Machine.execExcursionStart n idx s
  | .excursionEnd n idx => Sys2Proof.Machine.execExcursionEnd n idx s
  | .excursionLimit n cur => Sys2Proof.Machine.execExcursionLimit n cur s
  | .excursionHoldoffExpiry n => Sys2Proof.Machine.execExcursionHoldoffExpiry n s
  | .deEntry n mean => Sys2Proof.Machine.execDeEntry n mean s
  | .deExitMean n mean => Sys2Proof.Machine.execDeExitMean n mean s
  | .balanceUpdate n ia ib => Sys2Proof.Machine.execBalanceUpdate n ia ib s
  | .balanceTrimSaturated n p => Sys2Proof.Machine.execBalanceTrimSaturated n p s
  | .shareTrimUpdate n mean => Sys2Proof.Machine.execShareTrimUpdate n mean s
  | .droopCrossing n v => Sys2Proof.Machine.execDroopCrossing n v s
  | .boostRecovery n v ns => Sys2Proof.Machine.execBoostRecovery n v ns s
  | .boostConductionLimit n => Sys2Proof.Machine.execBoostConductionLimit n s
  | .boostCountUsed n => Sys2Proof.Machine.execBoostCountUsed n s
  | .overshootCrossing n v => Sys2Proof.Machine.execOvershootCrossing n v s
  | .shuntRecovery n v => Sys2Proof.Machine.execShuntRecovery n v s
  | .shuntConductionLimit n => Sys2Proof.Machine.execShuntConductionLimit n s
  | .comparatorConflict n => Sys2Proof.Machine.execComparatorConflict n s
  | .senseFallback n rs vlo => Sys2Proof.Machine.execSenseFallback n rs vlo s
  | .senseReturn n => Sys2Proof.Machine.execSenseReturn n s
  | .panStageFault n => Sys2Proof.Machine.execPanStageFault n s
  | .panStageFaultClear n => Sys2Proof.Machine.execPanStageFaultClear n s
  | .prebiasComplete n => Sys2Proof.Machine.execPrebiasComplete n s
  | .shadowRampStep n => Sys2Proof.Machine.execShadowRampStep n s
  | .rampOutComplete n => Sys2Proof.Machine.execRampOutComplete n s
  | .panLoopWatchdogExpiry n => Sys2Proof.Machine.execPanLoopWatchdogExpiry n s
  | .fastWindowExit n ca cb => Sys2Proof.Machine.execFastWindowExit n ca cb s
  | .shadowRunEnd n diff gdiff sdiff ref05 ref10 dref05 dref10 => Sys2Proof.Machine.execShadowRunEnd n diff gdiff sdiff ref05 ref10 dref05 dref10 s
  | .conversionCheckFailures n k => Sys2Proof.Machine.execConversionCheckFailures n k s
  | .sampleStreamInterval n k ca cb cd cur delay => Sys2Proof.Machine.execSampleStreamInterval n k ca cb cd cur delay s
  | .tallyReportInterval n => Sys2Proof.Machine.execTallyReportInterval n s
  | .contactBaselineFormed n => Sys2Proof.Machine.execContactBaselineFormed n s
  | .contactSuspect n => Sys2Proof.Machine.execContactSuspect n s
  | .stageFaultEvent pond child => Sys2Proof.Machine.execStageFaultEvent pond child s
  | .lossReport src cause detail => Sys2Proof.Machine.execLossReport src cause detail s
  | .lossResponse => Sys2Proof.Machine.execLossResponse s
  | .faultedPanReturn n => Sys2Proof.Machine.execFaultedPanReturn n s
  | .faultOrder r => Sys2Proof.Machine.execFaultOrder r s
  | .windowExitPending src cause detail => Sys2Proof.Machine.execWindowExitPending src cause detail s
  | .tallyReport src cause detail => Sys2Proof.Machine.execTallyReport src cause detail s
  | .sample n src kind value => Sys2Proof.Machine.execSample n src kind value s
  | .rollupClose => Sys2Proof.Machine.execRollupClose s
  | .calibrationWindowClose => Sys2Proof.Machine.execCalibrationWindowClose s
  | .allowanceRecomputation => Sys2Proof.Machine.execAllowanceRecomputation s
  | .snapshotReady slot => Sys2Proof.Machine.execSnapshotReady slot s
  | .engineTimerTick t => Sys2Proof.Machine.execEngineTimerTick t s
  | .dispatch lane => Sys2Proof.Machine.execDispatch lane s
  | .runLimit lane => Sys2Proof.Machine.execRunLimit lane s
  | .selfCheckDue lane => Sys2Proof.Machine.execSelfCheckDue lane s
  | .selfCheckComplete lane correct => Sys2Proof.Machine.execSelfCheckComplete lane correct s
  | .laneRegisterError lane => Sys2Proof.Machine.execLaneRegisterError lane s
  | .scrubError m addr double => Sys2Proof.Machine.execScrubError m addr double s
  | .instructionRewrite addr => Sys2Proof.Machine.execInstructionRewrite addr s
  | .slotStale slot => Sys2Proof.Machine.execSlotStale slot s
  | .retest => Sys2Proof.Machine.execRetest s
  | .retestComplete lane allCorrect => Sys2Proof.Machine.execRetestComplete lane allCorrect s
  | .mAdd lane rd ra rb => Sys2Proof.Machine.execMAdd lane rd ra rb s
  | .mSub lane rd ra rb => Sys2Proof.Machine.execMSub lane rd ra rb s
  | .mAdds lane rd ra rb => Sys2Proof.Machine.execMAdds lane rd ra rb s
  | .mSubs lane rd ra rb => Sys2Proof.Machine.execMSubs lane rd ra rb s
  | .mAnd lane rd ra rb => Sys2Proof.Machine.execMAnd lane rd ra rb s
  | .mOr lane rd ra rb => Sys2Proof.Machine.execMOr lane rd ra rb s
  | .mXor lane rd ra rb => Sys2Proof.Machine.execMXor lane rd ra rb s
  | .mShl lane rd ra rb => Sys2Proof.Machine.execMShl lane rd ra rb s
  | .mShr lane rd ra rb => Sys2Proof.Machine.execMShr lane rd ra rb s
  | .mSra lane rd ra rb => Sys2Proof.Machine.execMSra lane rd ra rb s
  | .mMin lane rd ra rb => Sys2Proof.Machine.execMMin lane rd ra rb s
  | .mMax lane rd ra rb => Sys2Proof.Machine.execMMax lane rd ra rb s
  | .mSlt lane rd ra rb => Sys2Proof.Machine.execMSlt lane rd ra rb s
  | .mSltu lane rd ra rb => Sys2Proof.Machine.execMSltu lane rd ra rb s
  | .mClmp lane rd ra rb rc => Sys2Proof.Machine.execMClmp lane rd ra rb rc s
  | .mMul lane rd ra rb => Sys2Proof.Machine.execMMul lane rd ra rb s
  | .mMulq lane rd ra rb sh => Sys2Proof.Machine.execMMulq lane rd ra rb sh s
  | .mDivq lane rd ra rb sh => Sys2Proof.Machine.execMDivq lane rd ra rb sh s
  | .mAbss lane rd ra => Sys2Proof.Machine.execMAbss lane rd ra s
  | .mNegs lane rd ra => Sys2Proof.Machine.execMNegs lane rd ra s
  | .mAddi lane rd ra imm => Sys2Proof.Machine.execMAddi lane rd ra imm s
  | .mAndi lane rd ra imm => Sys2Proof.Machine.execMAndi lane rd ra imm s
  | .mOri lane rd ra imm => Sys2Proof.Machine.execMOri lane rd ra imm s
  | .mXori lane rd ra imm => Sys2Proof.Machine.execMXori lane rd ra imm s
  | .mLui lane rd imm => Sys2Proof.Machine.execMLui lane rd imm s
  | .mShli lane rd ra n => Sys2Proof.Machine.execMShli lane rd ra n s
  | .mShri lane rd ra n => Sys2Proof.Machine.execMShri lane rd ra n s
  | .mSrai lane rd ra n => Sys2Proof.Machine.execMSrai lane rd ra n s
  | .mSlti lane rd ra imm => Sys2Proof.Machine.execMSlti lane rd ra imm s
  | .mExt lane rd ra pos lenm1 signed => Sys2Proof.Machine.execMExt lane rd ra pos lenm1 signed s
  | .mIns lane rd ra pos lenm1 => Sys2Proof.Machine.execMIns lane rd ra pos lenm1 s
  | .mSati lane rd ra n => Sys2Proof.Machine.execMSati lane rd ra n s
  | .mMac lane acc ra rb => Sys2Proof.Machine.execMMac lane acc ra rb s
  | .mMsu lane acc ra rb => Sys2Proof.Machine.execMMsu lane acc ra rb s
  | .mCmac lane acc r rk x k => Sys2Proof.Machine.execMCmac lane acc r rk x k s
  | .mCmsu lane acc r rk x k => Sys2Proof.Machine.execMCmsu lane acc r rk x k s
  | .mCld lane r rk f x k => Sys2Proof.Machine.execMCld lane r rk f x k s
  | .mAclr lane acc => Sys2Proof.Machine.execMAclr lane acc s
  | .mAld lane acc r sh => Sys2Proof.Machine.execMAld lane acc r sh s
  | .mAadd lane acc accb => Sys2Proof.Machine.execMAadd lane acc accb s
  | .mAsub lane acc accb => Sys2Proof.Machine.execMAsub lane acc accb s
  | .mAsra lane acc sh => Sys2Proof.Machine.execMAsra lane acc sh s
  | .mAshl lane acc sh => Sys2Proof.Machine.execMAshl lane acc sh s
  | .mAmov lane r acc sh => Sys2Proof.Machine.execMAmov lane r acc sh s
  | .mAhi lane r acc => Sys2Proof.Machine.execMAhi lane r acc s
  | .mAlo lane r acc => Sys2Proof.Machine.execMAlo lane r acc s
  | .mAput lane acc r rb => Sys2Proof.Machine.execMAput lane acc r rb s
  | .mAneg lane acc => Sys2Proof.Machine.execMAneg lane acc s
  | .mLds lane rd ra off => Sys2Proof.Machine.execMLds lane rd ra off s
  | .mSts lane rs ra off => Sys2Proof.Machine.execMSts lane rs ra off s
  | .mLdi lane rd ra what imm => Sys2Proof.Machine.execMLdi lane rd ra what imm s
  | .mLdt lane rd t what => Sys2Proof.Machine.execMLdt lane rd t what s
  | .mLdo lane rd ra what b loop => Sys2Proof.Machine.execMLdo lane rd ra what b loop s
  | .mLdh lane rd ra imm => Sys2Proof.Machine.execMLdh lane rd ra imm s
  | .mOut lane b ra => Sys2Proof.Machine.execMOut lane b ra s
  | .mBeq lane ra rb target => Sys2Proof.Machine.execMBeq lane ra rb target s
  | .mBne lane ra rb target => Sys2Proof.Machine.execMBne lane ra rb target s
  | .mBlt lane ra rb target => Sys2Proof.Machine.execMBlt lane ra rb target s
  | .mBge lane ra rb target => Sys2Proof.Machine.execMBge lane ra rb target s
  | .mBltu lane ra rb target => Sys2Proof.Machine.execMBltu lane ra rb target s
  | .mBgeu lane ra rb target => Sys2Proof.Machine.execMBgeu lane ra rb target s
  | .mBbs lane ra n target => Sys2Proof.Machine.execMBbs lane ra n target s
  | .mBbc lane ra n target => Sys2Proof.Machine.execMBbc lane ra n target s
  | .mJmp lane target => Sys2Proof.Machine.execMJmp lane target s
  | .mCall lane target => Sys2Proof.Machine.execMCall lane target s
  | .mRet lane => Sys2Proof.Machine.execMRet lane s
  | .mLoop lane cnt last => Sys2Proof.Machine.execMLoop lane cnt last s
  | .mLoopr lane ra max last => Sys2Proof.Machine.execMLoopr lane ra max last s
  | .mRfl lane rd => Sys2Proof.Machine.execMRfl lane rd s
  | .mRflc lane rd => Sys2Proof.Machine.execMRflc lane rd s
  | .mLfl lane rd => Sys2Proof.Machine.execMLfl lane rd s
  | .mCyc lane rd => Sys2Proof.Machine.execMCyc lane rd s
  | .mNow lane rd => Sys2Proof.Machine.execMNow lane rd s
  | .mSysMode lane rd => Sys2Proof.Machine.execMSysMode lane rd s
  | .mNop lane => Sys2Proof.Machine.execMNop lane s
  | .mEnd lane => Sys2Proof.Machine.execMEnd lane s
  | .illegalInstruction lane => Sys2Proof.Machine.execIllegalInstruction lane s
  | .viboff v => Sys2Proof.Machine.execViboff v s
  | .qoff v => Sys2Proof.Machine.execQoff v s
  | .ntarget v => Sys2Proof.Machine.execNtarget v s
  | .trim n v => Sys2Proof.Machine.execTrim n v s
  | .cancel v => Sys2Proof.Machine.execCancel v s
  | .kerfRatio r v => Sys2Proof.Machine.execKerfRatio r v s
  | .shimIntensity r v => Sys2Proof.Machine.execShimIntensity r v s
  | .hubGuardThermalInput r v => Sys2Proof.Machine.execHubGuardThermalInput r v s
  | .converterOutputTimeout => Sys2Proof.Machine.execConverterOutputTimeout s
  | .engineLossTimeout => Sys2Proof.Machine.execEngineLossTimeout s
  | .converterComparatorFire vin v ramp imon => Sys2Proof.Machine.execConverterComparatorFire vin v ramp imon s
  | .converterFreqLock => Sys2Proof.Machine.execConverterFreqLock s
  | .phasePeakLimit n cur => Sys2Proof.Machine.execPhasePeakLimit n cur s
  | .phaseOverload n => Sys2Proof.Machine.execPhaseOverload n s
  | .phaseOverloadClear n => Sys2Proof.Machine.execPhaseOverloadClear n s
  | .trimLimit n => Sys2Proof.Machine.execTrimLimit n s
  | .shedBegin total => Sys2Proof.Machine.execShedBegin total s
  | .provisionalExpiry n => Sys2Proof.Machine.execProvisionalExpiry n s
  | .vibDroopCrossing v => Sys2Proof.Machine.execVibDroopCrossing v s
  | .currentStepDetected rise => Sys2Proof.Machine.execCurrentStepDetected rise s
  | .shedHoldoffExpiry => Sys2Proof.Machine.execShedHoldoffExpiry s
  | .wakeElapsed n => Sys2Proof.Machine.execWakeElapsed n s
  | .admitRampStep n => Sys2Proof.Machine.execAdmitRampStep n s
  | .phaseFault n low => Sys2Proof.Machine.execPhaseFault n low s
  | .phaseSpareResponse n => Sys2Proof.Machine.execPhaseSpareResponse n s
  | .converterDeEntry mean => Sys2Proof.Machine.execConverterDeEntry mean s
  | .converterDeExit mean => Sys2Proof.Machine.execConverterDeExit mean s
  | .railStartCommand x => Sys2Proof.Machine.execRailStartCommand x s
  | .railDelayElapsed x v => Sys2Proof.Machine.execRailDelayElapsed x v s
  | .railRefReached x => Sys2Proof.Machine.execRailRefReached x s
  | .railNotGoodTimeout x v => Sys2Proof.Machine.execRailNotGoodTimeout x v s
  | .railStopCommand x => Sys2Proof.Machine.execRailStopCommand x s
  | .railStopDelayElapsed x => Sys2Proof.Machine.execRailStopDelayElapsed x s
  | .railDown x v => Sys2Proof.Machine.execRailDown x v s
  | .inputStop vin => Sys2Proof.Machine.execInputStop vin s
  | .vinLow vin => Sys2Proof.Machine.execVinLow vin s
  | .overvoltage x v => Sys2Proof.Machine.execOvervoltage x v s
  | .overvoltagePersists x => Sys2Proof.Machine.execOvervoltagePersists x s
  | .railGood r => Sys2Proof.Machine.execRailGood r s
  | .startfailTimeout r => Sys2Proof.Machine.execStartfailTimeout r s
  | .stagingInterval r => Sys2Proof.Machine.execStagingInterval r s
  | .forcedStaging r => Sys2Proof.Machine.execForcedStaging r s
  | .handoverTret r => Sys2Proof.Machine.execHandoverTret r s
  | .fenceTimeout r => Sys2Proof.Machine.execFenceTimeout r s
  | .stageOpen r => Sys2Proof.Machine.execStageOpen r s
  | .fallingComplete r => Sys2Proof.Machine.execFallingComplete r s
  | .purgeClampTret r => Sys2Proof.Machine.execPurgeClampTret r s
  | .agoneChange r level => Sys2Proof.Machine.execAgoneChange r level s
  | .purgeComplete r => Sys2Proof.Machine.execPurgeComplete r s
  | .purgeslow r => Sys2Proof.Machine.execPurgeslow r s
  | .hintWordCheck src w => Sys2Proof.Machine.execHintWordCheck src w s
  | .phase x => Sys2Proof.Machine.execPhase x s
  | .batch x => Sys2Proof.Machine.execBatch x s
  | .kvgrow x => Sys2Proof.Machine.execKvgrow x s
  | .barrier x => Sys2Proof.Machine.execBarrier x s
  | .bwait x => Sys2Proof.Machine.execBwait x s
  | .step x => Sys2Proof.Machine.execStep x s
  | .context x => Sys2Proof.Machine.execContext x s
  | .activityFrame src seq counts crc => Sys2Proof.Machine.execActivityFrame src seq counts crc s
  | .hntRdyRise src ver => Sys2Proof.Machine.execHntRdyRise src ver s
  | .hntRdyFall src => Sys2Proof.Machine.execHntRdyFall src s
  | .shimAnnouncedArrival r => Sys2Proof.Machine.execShimAnnouncedArrival r s
  | .annwaitExpiry r => Sys2Proof.Machine.execAnnwaitExpiry r s
  | .shimOnset => Sys2Proof.Machine.execShimOnset s
  | .taperStart => Sys2Proof.Machine.execTaperStart s
  | .shimTargetUpdate => Sys2Proof.Machine.execShimTargetUpdate s
  | .shimIdle => Sys2Proof.Machine.execShimIdle s
  | .drained tag r => Sys2Proof.Machine.execDrained tag r s
  | .request tag arg r => Sys2Proof.Machine.execRequest tag arg r s
  | .fenceMessageDiscard w => Sys2Proof.Machine.execFenceMessageDiscard w s
  | .kerfResend => Sys2Proof.Machine.execKerfResend s
  | .xfer f => Sys2Proof.Machine.execXfer f s
  | .xack f => Sys2Proof.Machine.execXack f s
  | .advert f => Sys2Proof.Machine.execAdvert f s
  | .stale f => Sys2Proof.Machine.execStale f s
  | .expelled f => Sys2Proof.Machine.execExpelled f s
  | .tideFrameDiscard bytes => Sys2Proof.Machine.execTideFrameDiscard bytes s
  | .tideWindow => Sys2Proof.Machine.execTideWindow s
  | .tideCreditStage => Sys2Proof.Machine.execTideCreditStage s
  | .escrowRetry peer seq => Sys2Proof.Machine.execEscrowRetry peer seq s
  | .peerDead peer => Sys2Proof.Machine.execPeerDead peer s
  | .tideFiguresStale => Sys2Proof.Machine.execTideFiguresStale s
  | .presenceTimer => Sys2Proof.Machine.execPresenceTimer s
  | .presence port origin die group => Sys2Proof.Machine.execPresence port origin die group s
  | .dvtTideFrame port bytes => Sys2Proof.Machine.execDvtTideFrame port bytes s
  | .dvtShimOnset port origin hop => Sys2Proof.Machine.execDvtShimOnset port origin hop s
  | .droopAlert port origin => Sys2Proof.Machine.execDroopAlert port origin s
  | .peerdroopExpiry => Sys2Proof.Machine.execPeerdroopExpiry s
  | .dvtFrameCrcError port => Sys2Proof.Machine.execDvtFrameCrcError port s
  | .dvtLinkDown port => Sys2Proof.Machine.execDvtLinkDown port s
  | .dvtLockTimeout port => Sys2Proof.Machine.execDvtLockTimeout port s
  | .dvtRetrain port => Sys2Proof.Machine.execDvtRetrain port s
  | .dvtTraining port cap => Sys2Proof.Machine.execDvtTraining port cap s
  | .fabFrame bytes => Sys2Proof.Machine.execFabFrame bytes s
  | .fabUpChange level => Sys2Proof.Machine.execFabUpChange level s
  | .thstale r => Sys2Proof.Machine.execThstale r s
  | .lowconfQueue r out1 => Sys2Proof.Machine.execLowconfQueue r out1 s
  | .diodeReadingComplete r reading => Sys2Proof.Machine.execDiodeReadingComplete r reading s
  | .tinletSubstitution => Sys2Proof.Machine.execTinletSubstitution s
  | .bandEvaluation => Sys2Proof.Machine.execBandEvaluation s
  | .thermalRegionOrder r => Sys2Proof.Machine.execThermalRegionOrder r s
  | .thermalOrderRelease r => Sys2Proof.Machine.execThermalOrderRelease r s
  | .monitorRead r => Sys2Proof.Machine.execMonitorRead r s
  | .monitorAnswer r m slack => Sys2Proof.Machine.execMonitorAnswer r m slack s
  | .guardbandTrim r w => Sys2Proof.Machine.execGuardbandTrim r w s
  | .drainTimeout => Sys2Proof.Machine.execDrainTimeout s
  | .stopRegionsDark => Sys2Proof.Machine.execStopRegionsDark s
  | .stopRailsDown => Sys2Proof.Machine.execStopRailsDown s
  | .coolantStop => Sys2Proof.Machine.execCoolantStop s
  | .coolantRailStop => Sys2Proof.Machine.execCoolantRailStop s
  | .ledgerWriteBack ctx => Sys2Proof.Machine.execLedgerWriteBack ctx s
  | .ledgerWriteComplete ctx ok => Sys2Proof.Machine.execLedgerWriteComplete ctx ok s
  | .ledgerFetchComplete ctx energy active kerfed => Sys2Proof.Machine.execLedgerFetchComplete ctx energy active kerfed s
  | .ledgerQueryReady => Sys2Proof.Machine.execLedgerQueryReady s
  | .ledgerClearComplete => Sys2Proof.Machine.execLedgerClearComplete s
  | .harvest stored cleared => Sys2Proof.Machine.execHarvest stored cleared s
  | .harvestRetry stored => Sys2Proof.Machine.execHarvestRetry stored s
  | .watchdogExpiry => Sys2Proof.Machine.execWatchdogExpiry s
  | .coreRelease => Sys2Proof.Machine.execCoreRelease s
  | .firmwareReady => Sys2Proof.Machine.execFirmwareReady s
  | .firmwareReadyTimeout => Sys2Proof.Machine.execFirmwareReadyTimeout s
  | .kick w => Sys2Proof.Machine.execKick w s
  | .hostQueueService => Sys2Proof.Machine.execHostQueueService s
  | .registerWrite off v => Sys2Proof.Machine.execRegisterWrite off v s
  | .lowWordRead off => Sys2Proof.Machine.execLowWordRead off s
  | .attach v => Sys2Proof.Machine.execAttach v s
  | .detach v => Sys2Proof.Machine.execDetach v s
  | .hbeat v => Sys2Proof.Machine.execHbeat v s
  | .heartbeatTimeout => Sys2Proof.Machine.execHeartbeatTimeout s
  | .intcause v => Sys2Proof.Machine.execIntcause v s
  | .sessionRequest role => Sys2Proof.Machine.execSessionRequest role s
  | .sessionClose role => Sys2Proof.Machine.execSessionClose role s
  | .sesgo v => Sys2Proof.Machine.execSesgo v s
  | .sessionVerified => Sys2Proof.Machine.execSessionVerified s
  | .sessionIdleTimeout => Sys2Proof.Machine.execSessionIdleTimeout s
  | .lockoutExpiry => Sys2Proof.Machine.execLockoutExpiry s
  | .instkeygo v => Sys2Proof.Machine.execInstkeygo v s
  | .wrbnd num => Sys2Proof.Machine.execWrbnd num s
  | .bundleClose num => Sys2Proof.Machine.execBundleClose num s
  | .snpreq core v => Sys2Proof.Machine.execSnpreq core v s
  | .snpdatAutoRead => Sys2Proof.Machine.execSnpdatAutoRead s
  | .lqreq v => Sys2Proof.Machine.execLqreq v s
  | .dioreq v => Sys2Proof.Machine.execDioreq v s
  | .thrst v => Sys2Proof.Machine.execThrst v s
  | .talsel v => Sys2Proof.Machine.execTalsel v s
  | .tallyValueReady => Sys2Proof.Machine.execTallyValueReady s
  | .trcctlClear v => Sys2Proof.Machine.execTrcctlClear v s
  | .tracePoint p => Sys2Proof.Machine.execTracePoint p s
  | .logEntry m level narg => Sys2Proof.Machine.execLogEntry m level narg s
  | .loopOpen => Sys2Proof.Machine.execLoopOpen s
  | .loopClose => Sys2Proof.Machine.execLoopClose s
  | .loopman b v => Sys2Proof.Machine.execLoopman b v s
  | .coefval v => Sys2Proof.Machine.execCoefval v s
  | .imageStart target => Sys2Proof.Machine.execImageStart target s
  | .imgdat v => Sys2Proof.Machine.execImgdat v s
  | .imageFinish => Sys2Proof.Machine.execImageFinish s
  | .imageCheckComplete written => Sys2Proof.Machine.execImageCheckComplete written s
  | .imageAbort => Sys2Proof.Machine.execImageAbort s
  | .rwx v => Sys2Proof.Machine.execRwx v s
  | .restart => Sys2Proof.Machine.execRestart s
  | .warm => Sys2Proof.Machine.execWarm s
  | .pdown => Sys2Proof.Machine.execPdown s
  | .cfgsave v => Sys2Proof.Machine.execCfgsave v s
  | .cfgsaveComplete ok => Sys2Proof.Machine.execCfgsaveComplete ok s
  | .rvreq v => Sys2Proof.Machine.execRvreq v s
  | .vibset v => Sys2Proof.Machine.execVibset v s
  | .qset v => Sys2Proof.Machine.execQset v s
  | .orderNone slot => Sys2Proof.Machine.execOrderNone slot s
  | .orderOn slot => Sys2Proof.Machine.execOrderOn slot s
  | .orderOff slot => Sys2Proof.Machine.execOrderOff slot s
  | .orderRetention slot => Sys2Proof.Machine.execOrderRetention slot s
  | .orderPurge slot => Sys2Proof.Machine.execOrderPurge slot s
  | .phcmdAdmit n => Sys2Proof.Machine.execPhcmdAdmit n s
  | .phcmdRetire n => Sys2Proof.Machine.execPhcmdRetire n s
  | .dcapop v => Sys2Proof.Machine.execDcapop v s
  | .dcapin v => Sys2Proof.Machine.execDcapin v s
  | .dcapmk v => Sys2Proof.Machine.execDcapmk v s
  | .ledenSet => Sys2Proof.Machine.execLedenSet s
  | .ledenClear => Sys2Proof.Machine.execLedenClear s
  | .ledbase high v => Sys2Proof.Machine.execLedbase high v s
  | .ten v => Sys2Proof.Machine.execTen v s
  | .freeze v => Sys2Proof.Machine.execFreeze v s
  | .trel v => Sys2Proof.Machine.execTrel v s
  | .expinc v => Sys2Proof.Machine.execExpinc v s
  | .page v => Sys2Proof.Machine.execPage v s
  | .clearFaults => Sys2Proof.Machine.execClearFaults s
  | .capability => Sys2Proof.Machine.execCapability s
  | .voutMode => Sys2Proof.Machine.execVoutMode s
  | .statusByte => Sys2Proof.Machine.execStatusByte s
  | .statusWord => Sys2Proof.Machine.execStatusWord s
  | .statusVout => Sys2Proof.Machine.execStatusVout s
  | .statusIout => Sys2Proof.Machine.execStatusIout s
  | .statusInput => Sys2Proof.Machine.execStatusInput s
  | .statusTemperature => Sys2Proof.Machine.execStatusTemperature s
  | .readVin => Sys2Proof.Machine.execReadVin s
  | .readIin => Sys2Proof.Machine.execReadIin s
  | .readVout => Sys2Proof.Machine.execReadVout s
  | .readIout => Sys2Proof.Machine.execReadIout s
  | .readTemperature1 => Sys2Proof.Machine.execReadTemperature1 s
  | .readPout => Sys2Proof.Machine.execReadPout s
  | .readPin => Sys2Proof.Machine.execReadPin s
  | .pmbusRevision => Sys2Proof.Machine.execPmbusRevision s
  | .pmbusOtherWrite code => Sys2Proof.Machine.execPmbusOtherWrite code s
  | .alertResponse => Sys2Proof.Machine.execAlertResponse s
  | .avsbusPoll => Sys2Proof.Machine.execAvsbusPoll s
  | .avsbusReply kind data crcOk => Sys2Proof.Machine.execAvsbusReply kind data crcOk s
  | .dynamicAddressAssigned addr => Sys2Proof.Machine.execDynamicAddressAssigned addr s
  | .tver data => Sys2Proof.Machine.execTver data s
  | .inlet data => Sys2Proof.Machine.execInlet data s
  | .tceil data => Sys2Proof.Machine.execTceil data s
  | .trayState => Sys2Proof.Machine.execTrayState s
  | .trayCap => Sys2Proof.Machine.execTrayCap s
  | .pdel => Sys2Proof.Machine.execPdel s
  | .tryFlowChange level => Sys2Proof.Machine.execTryFlowChange level s
  | .porstNAssert => Sys2Proof.Machine.execPorstNAssert s
  | .porstNRelease => Sys2Proof.Machine.execPorstNRelease s
  | .vaonRemoved => Sys2Proof.Machine.execVaonRemoved s
  | .ckeAbsent => Sys2Proof.Machine.execCkeAbsent s
  | .ckrPresent => Sys2Proof.Machine.execCkrPresent s
  | .firmwareStart => Sys2Proof.Machine.execFirmwareStart s
  | .bootVinGood => Sys2Proof.Machine.execBootVinGood s
  | .bootRailsInReg => Sys2Proof.Machine.execBootRailsInReg s
  | .bootRegionsLive => Sys2Proof.Machine.execBootRegionsLive s
  | .railFaultRetry x => Sys2Proof.Machine.execRailFaultRetry x s
  | .inputStopRecovery => Sys2Proof.Machine.execInputStopRecovery s
  | .fastWindowRearm n ca cb => Sys2Proof.Machine.execFastWindowRearm n ca cb s
  | .creditReturn l d k => Sys2Proof.Machine.execCreditReturn l d k s
  | .event n src cause detail => Sys2Proof.Machine.execEvent n src cause detail s
  | .overvoltageClear x v => Sys2Proof.Machine.execOvervoltageClear x v s
  | .ledfaultClear => Sys2Proof.Machine.execLedfaultClear s
  | .sluiceFaultExpiry => Sys2Proof.Machine.execSluiceFaultExpiry s
  | .monitorAnswerTimeout r => Sys2Proof.Machine.execMonitorAnswerTimeout r s
  | .voltageModePeriod n p vibs => Sys2Proof.Machine.execVoltageModePeriod n p vibs s
  | .quietRailPeriod x vin imon => Sys2Proof.Machine.execQuietRailPeriod x vin imon s
  | .dvtLock port => Sys2Proof.Machine.execDvtLock port s
  | .tapInstructionLoad ir => Sys2Proof.Machine.execTapInstructionLoad ir s
  | .dbgMakerChallenge rs => Sys2Proof.Machine.execDbgMakerChallenge rs s
  | .dbgTrstN => Sys2Proof.Machine.execDbgTrstN s
  | .dbgStoreWrite area words => Sys2Proof.Machine.execDbgStoreWrite area words s

end Sys2Proof.Machine
end

