-- ==== Sys2Proof/WellFormed.lean ====
section
/-! DEFINITION. Which commands are well formed: their operands lie in the ranges that the spec gives them. `exec` gives
every command a meaning, well formed or not; a command that names no node, region, lane or slot of the machine changes
nothing of it. -/

namespace Sys2Proof

/-- A number below a bound. -/
def below (m x : Nat) : Bool := decide (x < m)
/-- A node key: the hub is 0, and a tree has at most 8,192 nodes (R50, R52). -/
def nodeOk (n : Nat) : Bool := decide (n ≤ 8192)
/-- A phase slot (R111). -/
def phaseOk (n : Nat) : Bool := decide (n < 40)
/-- A region number (R269). -/
def regionOk (r : Nat) : Bool := decide (r < 1024)
/-- A lane (R171). -/
def laneOk (l : Nat) : Bool := decide (l < 72)
/-- An offset of the 64 KiB host window (R497). -/
def offsetOk (o : Nat) : Bool := decide (o < 65536) && decide (o % 4 = 0)
/-- A hint word's source and region (R314, R472). -/
def hintOk (x : Hint) : Bool := decide (x.src < 16) && decide (x.region < 1024)
/-- A tide frame's fields fit their bytes (R361). -/
def frameOk (f : TideFrame) : Bool :=
  below (2 ^ 20) f.dst && below (2 ^ 20) f.src && below (2 ^ 32) f.group && below (2 ^ 32) f.sinc && below (2 ^ 32) f.dinc &&
  below (2 ^ 48) f.seq && below (2 ^ 16) f.grains && decide (-32768 ≤ f.urg) && decide (f.urg < 32768) &&
  below (2 ^ 16) f.offer && below (2 ^ 16) f.want && below (2 ^ 32) f.hold
/-- What slews: a pan's value or a rail's. -/
def slewRefOk : SlewRef → Bool
  | .panSet n => nodeOk n
  | .panOff n => nodeOk n
  | .railSet _ => true
  | .railOff _ => true
/-- What the hub models: a region or a rail. -/
def modelRefOk : ModelRef → Bool
  | .region r => regionOk r
  | .rail _ => true
/-- An address of an engine memory (R174, R177): 16,384 coefficients, 65,536 state words, 8,192 instructions. -/
def memOk (m : EngMem) (a : Nat) : Bool :=
  match m with
  | .coef => below 16384 a
  | .state => below 65536 a
  | .imem => below 8192 a
/-- A bit field that does not pass bit 31 (R214, R215). -/
def fieldOk (pos lenm1 : Fin 32) : Bool := decide (pos.val + lenm1.val + 1 ≤ 32)
/-- A coefficient index register is named only with X set (R214, R217). -/
def indexOk (rk : Fin 32) (x : Bool) : Bool := x || decide (rk = 0)

/-- A log message (R440): host codes begin at 0x0001; a peer entry, a region. -/
def logOk : LogMsg → Bool
  | .host k _ => decide (k ≠ 0)
  | .session _ => true
  | .budget _ => true
  | .tide _ p _ => below 32 p
  | .thermal _ r _ => regionOk r
  | .firmware _ => true
/-- What a trace point has in hand (R443): a region, a peer entry, a node. -/
def traceOk : TracePt → Bool
  | .hostQueue _ => true
  | .derived _ => true
  | .budget _ r => regionOk r
  | .tide _ p => below 32 p
  | .thermal _ r _ => regionOk r
  | .fault _ n _ => nodeOk n
  | .harvest _ _ => true

/-- The command's operands lie in their ranges. -/
def Instr.wf : Instr → Bool
  | .epochBoundary => true
  | .stagingClose => true
  | .ackDeadline => true
  | .setDeferralLimit => true
  | .nodeEpochBoundary n m => nodeOk n && decide (m.windows.length = 80) && below 1024 m.loA && below 1024 m.loB && below 1024 m.hiA && below 1024 m.hiB
  | .parentPathTimeout n => nodeOk n
  | .parityLimitReached n port => nodeOk n && below 96 port
  | .parityErrorPacket l _ => nodeOk l.node
  | .reservedPacket l _ _ => nodeOk l.node
  | .unroutablePacket n _ => nodeOk n
  | .probe n _ port _ => nodeOk n && below 20 port
  | .probeTimeout n port => nodeOk n && below 20 port
  | .desc n _ kind ports _ rating revision => nodeOk n && below 5 kind && below 17 ports && below (2 ^ 16) rating && below 256 revision
  | .ack n child _ _ count _ => nodeOk n && nodeOk child && below (2 ^ 23) count
  | .pondAckDeadline n => nodeOk n
  | .verdict n _ _ _ _ => nodeOk n
  | .time n _ cycle epoch _ => nodeOk n && below 4800 cycle && below (2 ^ 16) epoch
  | .timeResyncPeriod => true
  | .rq n child _ count => nodeOk n && nodeOk child && below (2 ^ 40) count
  | .rmm n child _ _ _ _ _ => nodeOk n && nodeOk child
  | .pondRollupDeadline n => nodeOk n
  | .linkAuditTimer l _ => nodeOk l.node
  | .audit l _ _ _ _ => nodeOk l.node
  | .resetRequest l _ => nodeOk l.node
  | .resetDone l _ => nodeOk l.node
  | .creditInvariantBreak l _ _ => nodeOk l.node
  | .adoptRequest n _ _ => nodeOk n
  | .adoptDone n _ _ _ => nodeOk n
  | .rosterRemove n _ _ _ => nodeOk n
  | .setpt n _ _ _ => nodeOk n
  | .slew n _ _ _ => nodeOk n
  | .window n _ _ _ => nodeOk n
  | .offset n _ _ => nodeOk n
  | .offslew n _ _ _ => nodeOk n
  | .share n _ _ => nodeOk n
  | .mode n _ _ _ => nodeOk n
  | .freq n _ _ _ => nodeOk n
  | .bandset n _ _ _ => nodeOk n
  | .arm n _ _ => nodeOk n
  | .droop n _ _ _ => nodeOk n
  | .overshoot n _ _ _ => nodeOk n
  | .boostlim n _ _ _ => nodeOk n
  | .balance n _ _ _ => nodeOk n
  | .vmcomp n _ _ _ => nodeOk n
  | .carryauto n _ _ => nodeOk n
  | .fwin n _ _ _ => nodeOk n
  | .swinv n _ _ _ => nodeOk n
  | .swini n _ _ _ => nodeOk n
  | .sensesel n _ _ _ => nodeOk n
  | .calctl n _ _ _ => nodeOk n
  | .calload n _ _ _ => nodeOk n
  | .calloadI n _ _ => nodeOk n
  | .stream n _ _ k _ => nodeOk n && below 4 k
  | .epochsamp n _ _ _ => nodeOk n
  | .roster n _ _ => nodeOk n
  | .parentSelect n _ _ => nodeOk n
  | .exceptionRange n _ k _ => nodeOk n && below 4 k
  | .exceptionTarget n _ k _ => nodeOk n && below 4 k
  | .childPortRange n _ k _ => nodeOk n && below 16 k
  | .setClose n _ _ => nodeOk n
  | .stageEnd n _ _ count => nodeOk n && below (2 ^ 16) count
  | .unimplementedSel n _ _ _ _ _ => nodeOk n
  | .slewStep k => slewRefOk k
  | .setPointModelStep k => modelRefOk k
  | .cotComparatorFire n _ _ _ _ => nodeOk n
  | .frequencyLockUpdate n => nodeOk n
  | .peakLimitReached n _ _ => nodeOk n
  | .excursionStart n _ => nodeOk n
  | .excursionEnd n _ => nodeOk n
  | .excursionLimit n _ => nodeOk n
  | .excursionHoldoffExpiry n => nodeOk n
  | .deEntry n _ => nodeOk n
  | .deExitMean n _ => nodeOk n
  | .balanceUpdate n _ _ => nodeOk n
  | .balanceTrimSaturated n _ => nodeOk n
  | .shareTrimUpdate n _ => nodeOk n
  | .droopCrossing n _ => nodeOk n
  | .boostRecovery n _ _ => nodeOk n
  | .boostConductionLimit n => nodeOk n
  | .boostCountUsed n => nodeOk n
  | .overshootCrossing n _ => nodeOk n
  | .shuntRecovery n _ => nodeOk n
  | .shuntConductionLimit n => nodeOk n
  | .comparatorConflict n => nodeOk n
  | .senseFallback n _ _ => nodeOk n
  | .senseReturn n => nodeOk n
  | .panStageFault n => nodeOk n
  | .panStageFaultClear n => nodeOk n
  | .prebiasComplete n => nodeOk n
  | .shadowRampStep n => nodeOk n
  | .rampOutComplete n => nodeOk n
  | .panLoopWatchdogExpiry n => nodeOk n
  | .fastWindowExit n _ _ => nodeOk n
  | .shadowRunEnd n _ _ _ _ _ _ _ => nodeOk n
  | .conversionCheckFailures n _ => nodeOk n
  | .sampleStreamInterval n k _ _ _ _ _ => nodeOk n && below 4 k
  | .tallyReportInterval n => nodeOk n
  | .contactBaselineFormed n => nodeOk n
  | .contactSuspect n => nodeOk n
  | .stageFaultEvent pond child => nodeOk pond && nodeOk child
  | .lossReport _ _ _ => true
  | .lossResponse => true
  | .faultedPanReturn n => nodeOk n
  | .faultOrder r => regionOk r
  | .windowExitPending _ _ _ => true
  | .tallyReport _ _ _ => true
  | .sample n _ _ _ => nodeOk n
  | .rollupClose => true
  | .calibrationWindowClose => true
  | .allowanceRecomputation => true
  | .snapshotReady slot => below 5 slot
  | .engineTimerTick t => below 64 t
  | .dispatch lane => laneOk lane
  | .runLimit lane => laneOk lane
  | .selfCheckDue lane => laneOk lane
  | .selfCheckComplete lane _ => laneOk lane
  | .laneRegisterError lane => laneOk lane
  | .scrubError m addr _ => memOk m addr
  | .instructionRewrite addr => below 8192 addr
  | .slotStale slot => below 16384 slot
  | .retest => true
  | .retestComplete lane _ => laneOk lane
  | .mAdd lane _ _ _ => laneOk lane
  | .mSub lane _ _ _ => laneOk lane
  | .mAdds lane _ _ _ => laneOk lane
  | .mSubs lane _ _ _ => laneOk lane
  | .mAnd lane _ _ _ => laneOk lane
  | .mOr lane _ _ _ => laneOk lane
  | .mXor lane _ _ _ => laneOk lane
  | .mShl lane _ _ _ => laneOk lane
  | .mShr lane _ _ _ => laneOk lane
  | .mSra lane _ _ _ => laneOk lane
  | .mMin lane _ _ _ => laneOk lane
  | .mMax lane _ _ _ => laneOk lane
  | .mSlt lane _ _ _ => laneOk lane
  | .mSltu lane _ _ _ => laneOk lane
  | .mClmp lane _ _ _ _ => laneOk lane
  | .mMul lane _ _ _ => laneOk lane
  | .mMulq lane _ _ _ _ => laneOk lane
  | .mDivq lane _ _ _ _ => laneOk lane
  | .mAbss lane _ _ => laneOk lane
  | .mNegs lane _ _ => laneOk lane
  | .mAddi lane _ _ _ => laneOk lane
  | .mAndi lane _ _ _ => laneOk lane
  | .mOri lane _ _ _ => laneOk lane
  | .mXori lane _ _ _ => laneOk lane
  | .mLui lane _ _ => laneOk lane
  | .mShli lane _ _ _ => laneOk lane
  | .mShri lane _ _ _ => laneOk lane
  | .mSrai lane _ _ _ => laneOk lane
  | .mSlti lane _ _ _ => laneOk lane
  | .mExt lane _ _ pos lenm1 _ => laneOk lane && fieldOk pos lenm1
  | .mIns lane _ _ pos lenm1 => laneOk lane && fieldOk pos lenm1
  | .mSati lane _ _ _ => laneOk lane
  | .mMac lane _ _ _ => laneOk lane
  | .mMsu lane _ _ _ => laneOk lane
  | .mCmac lane _ _ rk x _ => laneOk lane && indexOk rk x
  | .mCmsu lane _ _ rk x _ => laneOk lane && indexOk rk x
  | .mCld lane _ rk _ x _ => laneOk lane && indexOk rk x
  | .mAclr lane _ => laneOk lane
  | .mAld lane _ _ s => laneOk lane && below 33 s.toNat
  | .mAadd lane _ _ => laneOk lane
  | .mAsub lane _ _ => laneOk lane
  | .mAsra lane _ _ => laneOk lane
  | .mAshl lane _ _ => laneOk lane
  | .mAmov lane _ _ _ => laneOk lane
  | .mAhi lane _ _ => laneOk lane
  | .mAlo lane _ _ => laneOk lane
  | .mAput lane _ _ _ => laneOk lane
  | .mAneg lane _ => laneOk lane
  | .mLds lane _ _ _ => laneOk lane
  | .mSts lane _ _ _ => laneOk lane
  | .mLdi lane _ _ _ _ => laneOk lane
  | .mLdt lane _ _ _ => laneOk lane
  | .mLdo lane _ _ _ _ _ => laneOk lane
  | .mLdh lane _ _ _ => laneOk lane
  | .mOut lane _ _ => laneOk lane
  | .mBeq lane _ _ _ => laneOk lane
  | .mBne lane _ _ _ => laneOk lane
  | .mBlt lane _ _ _ => laneOk lane
  | .mBge lane _ _ _ => laneOk lane
  | .mBltu lane _ _ _ => laneOk lane
  | .mBgeu lane _ _ _ => laneOk lane
  | .mBbs lane _ _ _ => laneOk lane
  | .mBbc lane _ _ _ => laneOk lane
  | .mJmp lane _ => laneOk lane
  | .mCall lane _ => laneOk lane
  | .mRet lane => laneOk lane
  | .mLoop lane _ _ => laneOk lane
  | .mLoopr lane _ _ _ => laneOk lane
  | .mRfl lane _ => laneOk lane
  | .mRflc lane _ => laneOk lane
  | .mLfl lane _ => laneOk lane
  | .mCyc lane _ => laneOk lane
  | .mNow lane _ => laneOk lane
  | .mSysMode lane _ => laneOk lane
  | .mNop lane => laneOk lane
  | .mEnd lane => laneOk lane
  | .illegalInstruction lane => laneOk lane
  | .viboff _ => true
  | .qoff _ => true
  | .ntarget _ => true
  | .trim n _ => phaseOk n
  | .cancel _ => true
  | .kerfRatio r _ => regionOk r
  | .shimIntensity r _ => regionOk r
  | .hubGuardThermalInput r _ => regionOk r
  | .converterOutputTimeout => true
  | .engineLossTimeout => true
  | .converterComparatorFire _ _ _ _ => true
  | .converterFreqLock => true
  | .phasePeakLimit n _ => phaseOk n
  | .phaseOverload n => phaseOk n
  | .phaseOverloadClear n => phaseOk n
  | .trimLimit n => phaseOk n
  | .shedBegin _ => true
  | .provisionalExpiry n => phaseOk n
  | .vibDroopCrossing _ => true
  | .currentStepDetected _ => true
  | .shedHoldoffExpiry => true
  | .wakeElapsed n => phaseOk n
  | .admitRampStep n => phaseOk n
  | .phaseFault n _ => phaseOk n
  | .phaseSpareResponse n => phaseOk n
  | .converterDeEntry _ => true
  | .converterDeExit _ => true
  | .railStartCommand _ => true
  | .railDelayElapsed _ _ => true
  | .railRefReached _ => true
  | .railNotGoodTimeout _ _ => true
  | .railStopCommand _ => true
  | .railStopDelayElapsed _ => true
  | .railDown _ _ => true
  | .inputStop _ => true
  | .vinLow _ => true
  | .overvoltage _ _ => true
  | .overvoltagePersists _ => true
  | .railGood r => regionOk r
  | .startfailTimeout r => regionOk r
  | .stagingInterval r => regionOk r
  | .forcedStaging r => regionOk r
  | .handoverTret r => regionOk r
  | .fenceTimeout r => regionOk r
  | .stageOpen r => regionOk r
  | .fallingComplete r => regionOk r
  | .purgeClampTret r => regionOk r
  | .agoneChange r _ => regionOk r
  | .purgeComplete r => regionOk r
  | .purgeslow r => regionOk r
  | .hintWordCheck src _ => below 16 src
  | .phase x => hintOk x
  | .batch x => hintOk x
  | .kvgrow x => hintOk x
  | .barrier x => hintOk x
  | .bwait x => hintOk x
  | .step x => hintOk x
  | .context x => hintOk x
  | .activityFrame src _ counts _ => below 16 src && below 65 counts.length
  | .hntRdyRise src _ => below 16 src
  | .hntRdyFall src => below 16 src
  | .shimAnnouncedArrival r => regionOk r
  | .annwaitExpiry r => regionOk r
  | .shimOnset => true
  | .taperStart => true
  | .shimTargetUpdate => true
  | .shimIdle => true
  | .drained _ r => regionOk r
  | .request _ _ r => regionOk r
  | .fenceMessageDiscard _ => true
  | .kerfResend => true
  | .xfer f => frameOk f
  | .xack f => frameOk f
  | .advert f => frameOk f
  | .stale f => frameOk f
  | .expelled f => frameOk f
  | .tideFrameDiscard _ => true
  | .tideWindow => true
  | .tideCreditStage => true
  | .escrowRetry peer _ => below 32 peer
  | .peerDead peer => below 32 peer
  | .tideFiguresStale => true
  | .presenceTimer => true
  | .presence port origin die group => below 4 port && below 16 origin && below (2 ^ 20) die && below (2 ^ 32) group
  | .dvtTideFrame port _ => below 4 port
  | .dvtShimOnset port origin _ => below 4 port && below 16 origin
  | .droopAlert port origin => below 4 port && below 16 origin
  | .peerdroopExpiry => true
  | .dvtFrameCrcError port => below 4 port
  | .dvtLinkDown port => below 4 port
  | .dvtLockTimeout port => below 4 port
  | .dvtRetrain port => below 4 port
  | .dvtTraining port _ => below 4 port
  | .fabFrame _ => true
  | .fabUpChange _ => true
  | .thstale r => regionOk r
  | .lowconfQueue r _ => regionOk r
  | .diodeReadingComplete r _ => regionOk r
  | .tinletSubstitution => true
  | .bandEvaluation => true
  | .thermalRegionOrder r => regionOk r
  | .thermalOrderRelease r => regionOk r
  | .monitorRead r => regionOk r
  | .monitorAnswer r _ _ => regionOk r
  | .guardbandTrim r _ => regionOk r
  | .drainTimeout => true
  | .stopRegionsDark => true
  | .stopRailsDown => true
  | .coolantStop => true
  | .coolantRailStop => true
  | .ledgerWriteBack ctx => below (2 ^ 20) ctx
  | .ledgerWriteComplete ctx _ => below (2 ^ 20) ctx
  | .ledgerFetchComplete ctx _ _ _ => below (2 ^ 20) ctx
  | .ledgerQueryReady => true
  | .ledgerClearComplete => true
  | .harvest _ _ => true
  | .harvestRetry _ => true
  | .watchdogExpiry => true
  | .coreRelease => true
  | .firmwareReady => true
  | .firmwareReadyTimeout => true
  | .kick _ => true
  | .hostQueueService => true
  | .registerWrite off _ => offsetOk off
  | .lowWordRead off => offsetOk off
  | .attach _ => true
  | .detach _ => true
  | .hbeat _ => true
  | .heartbeatTimeout => true
  | .intcause _ => true
  | .sessionRequest _ => true
  | .sessionClose _ => true
  | .sesgo _ => true
  | .sessionVerified => true
  | .sessionIdleTimeout => true
  | .lockoutExpiry => true
  | .instkeygo _ => true
  | .wrbnd _ => true
  | .bundleClose _ => true
  | .snpreq _ _ => true
  | .snpdatAutoRead => true
  | .lqreq _ => true
  | .dioreq _ => true
  | .thrst _ => true
  | .talsel _ => true
  | .tallyValueReady => true
  | .trcctlClear _ => true
  | .tracePoint p => traceOk p
  | .logEntry m _ _ => logOk m
  | .loopOpen => true
  | .loopClose => true
  | .loopman _ _ => true
  | .coefval _ => true
  | .imageStart _ => true
  | .imgdat _ => true
  | .imageFinish => true
  | .imageCheckComplete _ => true
  | .imageAbort => true
  | .rwx _ => true
  | .restart => true
  | .warm => true
  | .pdown => true
  | .cfgsave _ => true
  | .cfgsaveComplete _ => true
  | .rvreq _ => true
  | .vibset _ => true
  | .qset _ => true
  | .orderNone _ => true
  | .orderOn _ => true
  | .orderOff _ => true
  | .orderRetention _ => true
  | .orderPurge _ => true
  | .phcmdAdmit n => phaseOk n
  | .phcmdRetire n => phaseOk n
  | .dcapop _ => true
  | .dcapin _ => true
  | .dcapmk _ => true
  | .ledenSet => true
  | .ledenClear => true
  | .ledbase _ _ => true
  | .ten _ => true
  | .freeze _ => true
  | .trel _ => true
  | .expinc _ => true
  | .page _ => true
  | .clearFaults => true
  | .capability => true
  | .voutMode => true
  | .statusByte => true
  | .statusWord => true
  | .statusVout => true
  | .statusIout => true
  | .statusInput => true
  | .statusTemperature => true
  | .readVin => true
  | .readIin => true
  | .readVout => true
  | .readIout => true
  | .readTemperature1 => true
  | .readPout => true
  | .readPin => true
  | .pmbusRevision => true
  | .pmbusOtherWrite _ => true
  | .alertResponse => true
  | .avsbusPoll => true
  | .avsbusReply _ _ _ => true
  | .dynamicAddressAssigned _ => true
  | .tver _ => true
  | .inlet _ => true
  | .tceil _ => true
  | .trayState => true
  | .trayCap => true
  | .pdel => true
  | .tryFlowChange _ => true
  | .porstNAssert => true
  | .porstNRelease => true
  | .vaonRemoved => true
  | .ckeAbsent => true
  | .ckrPresent => true
  | .firmwareStart => true
  | .bootVinGood => true
  | .bootRailsInReg => true
  | .bootRegionsLive => true
  | .railFaultRetry _ => true
  | .inputStopRecovery => true
  | .fastWindowRearm n _ _ => nodeOk n
  | .creditReturn l _ _ => nodeOk l.node
  | .event n _ _ _ => nodeOk n
  | .overvoltageClear _ _ => true
  | .ledfaultClear => true
  | .sluiceFaultExpiry => true
  | .monitorAnswerTimeout r => regionOk r
  | .voltageModePeriod n _ _ => nodeOk n
  | .quietRailPeriod _ _ _ => true
  | .dvtLock port => below 4 port
  | .tapInstructionLoad _ => true
  | .dbgMakerChallenge _ => true
  | .dbgTrstN => true
  | .dbgStoreWrite area _ => below 11 area

end Sys2Proof
end

