-- ==== Sys2Proof/Safety.lean ====
section
/-! DEFINITION. The terms in which claims about the block are made: that a command answers a next state of which something
holds, which parts of the state it may change, that the block's outputs stand as its state says, and that a link keeps its
credits. -/

namespace Sys2Proof.Machine

/-- The command answers a next state, and `P` holds of it. -/
def Answers (c : Instr) (s : State) (P : State → Prop) : Prop := ∃ t, exec c s = .next t ∧ P t

/-- The parts of the state, one for each group of its fields. -/
inductive Part where
  | now | epoch | free | nodes | links | pans | eng | com | safe | views | regs | conv | stg | tel | bud | shim | led | tide
  | flt | hw | log | store | sys | ports
  deriving DecidableEq, Repr

/-- Two regions are equal but for what follows from the state without any command: the presented kerf and shim values with
their counters, and the mark that the region is in service (`settle`). -/
def Region.kept (x y : Region) : Prop :=
  y.model = x.model ∧ y.modelAt = x.modelAt ∧ y.modelAtSet = x.modelAtSet ∧ y.atSet = x.atSet ∧ y.tel = x.tel ∧ y.use = x.use ∧
  y.th = x.th ∧ y.overcap = x.overcap ∧ y.lastOver = x.lastOver ∧ y.clamped = x.clamped ∧
  y.seq = { x.seq with inService := y.seq.inService } ∧
  y.krf = { x.krf with kPres := y.krf.kPres, sPres := y.krf.sPres, kerfed := y.krf.kerfed, all60 := y.krf.all60,
                       sCycles := y.krf.sCycles, sAt := y.krf.sAt }

/-- A part is the same in two states. Where the part has fields that follow from the rest of the state without any command
(presented values, FLTSUM's memory, raised interrupt causes, output levels), those are left aside. -/
def Part.same (s t : State) : Part → Prop
  | .now => t.now = s.now
  | .epoch => t.epoch = s.epoch ∧ t.epochAt = s.epochAt
  | .free => t.free = s.free
  | .nodes => t.nodes = s.nodes
  | .links => t.links = s.links
  | .pans => t.pans = s.pans
  | .eng => t.eng = s.eng
  | .com => t.com = s.com
  | .safe => t.safe = s.safe
  | .views => t.views = s.views
  | .regs => ∀ r, Region.kept (s.reg r) (t.reg r)
  | .conv => t.conv = s.conv
  | .stg => t.stg = s.stg
  | .tel => t.tel = s.tel
  | .bud => t.bud = s.bud
  | .shim => t.shim = { s.shim with noneAt := t.shim.noneAt }
  | .led => t.led = s.led
  | .tide => t.tide = s.tide
  | .flt => t.flt = { s.flt with prev := t.flt.prev }
  | .hw => t.hw = { s.hw with intcause := t.hw.intcause } ∧ ∀ b, s.hw.intcause.getLsbD b = true → t.hw.intcause.getLsbD b = true
  | .log => t.log = s.log
  | .store => t.store = s.store
  | .sys => t.sys = s.sys
  | .ports => t.ports = { s.ports with
      krf := t.ports.krf, krfAt := t.ports.krfAt, rfc := t.ports.rfc, pmbSeen := t.ports.pmbSeen, alertN := t.ports.alertN,
      ibi := t.ports.ibi, ibiSeen := t.ports.ibiSeen, intOut := t.ports.intOut }

/-- Between two states only the named parts may differ, and the queue of waiting commands does not. -/
def Only (ps : List Part) (s t : State) : Prop := t.pending = s.pending ∧ ∀ p, p ∉ ps → p.same s t

/-- The command completes: it answers a next state of which `P` holds, and changes only the named parts. -/
def Does (c : Instr) (s : State) (ps : List Part) (P : State → Prop) : Prop := Answers c s fun t => P t ∧ Only ps s t

/-- The commands that bring a STAGE packet to a node, each with its SEL (R80, R153, R184). -/
def stageCommands : List ((Nat → Hdr → BitVec 3 → Word → Instr) × Nat) :=
  [(.setpt, 0x00), (.slew, 0x01), (.window, 0x02), (.offslew, 0x04), (.mode, 0x06), (.freq, 0x07), (.bandset, 0x08),
   (.droop, 0x0A), (.overshoot, 0x0B), (.boostlim, 0x0C), (.balance, 0x0D), (.vmcomp, 0x0E), (.fwin, 0x40), (.swinv, 0x41),
   (.swini, 0x42), (.sensesel, 0x43), (.calctl, 0x44), (fun n h g v => .stream n h g 0 v, 0x60), (fun n h g v => .stream n h g 1 v, 0x61),
   (fun n h g v => .stream n h g 2 v, 0x62), (fun n h g v => .stream n h g 3 v, 0x63), (.epochsamp, 0x64)]

/-- A node other than the hub that a downward packet with this header is for (R54, R72). -/
def State.Receives (s : State) (n : Nat) (h : Hdr) : Prop := n ≠ 0 ∧ s.isFor n h = true

/-- The packet stands first on the link from the parent of such a node, so its reception is due (R40, R56). -/
def State.Gets (s : State) (n : Nat) (h : Hdr) (p : Packet) : Prop := s.Receives n h ∧ s.hasDown n p = true

/-- The pan at a node is `q` afterwards, and every other pan is as before. -/
def PanBecomes (s : State) (n : Nat) (q : Pan) (t : State) : Prop := t.pan n = q ∧ ∀ m, m ≠ n → t.pan m = s.pan m

/-- The lane is `l` afterwards, and every other lane is as before. -/
def LaneBecomes (s : State) (lane : Nat) (l : Lane) (t : State) : Prop := t.lane lane = l ∧ ∀ m, m ≠ lane → t.lane m = s.lane m

/-- A cancellation has been made (R124): each main phase provisional is active again, each shed one wakes, diode emulation
of VIB ends but in its ramp, and the shed hold-off runs. -/
def Cancelled (s t : State) : Prop :=
  (∀ n < 32, t.phase n = (s.phase n).cancelled s.now) ∧ (∀ n, 32 ≤ n → t.phase n = s.phase n) ∧
  t.conv.shedHold = some (s.now + 100 * usT) ∧ t.rail .vib = { s.rail .vib with de := decide ((s.rail .vib).st = .ramp) && (s.rail .vib).de }

/-- A phase is `p` afterwards, and every other phase is as before. -/
def PhaseBecomes (s : State) (n : Nat) (p : Phase) (t : State) : Prop := t.phase n = p ∧ ∀ m, m ≠ n → t.phase m = s.phase m

/-- A rail is `q` afterwards, and the other rails are as before. -/
def RailBecomes (s : State) (x : Rail) (q : RailDyn) (t : State) : Prop := t.rail x = q ∧ ∀ y, y ≠ x → t.rail y = s.rail y

/-- The run `r` of a lane can issue the word `w` as `x` (R177, R190, R207, R227, R229, R230): the word stands at its address
without an uncorrected error, its transfer of control is within the limits, and its slots fit the run limit. -/
def Issues (s : State) (lane : Nat) (w : Word) (x : Issue) (r : Run) : Prop :=
  s.mrun lane = some r ∧ s.eng.badWords.contains r.pc = false ∧ r.pc < 8192 ∧ s.eng.imem.get 0 r.pc = w ∧ r.allows x.xfer = true ∧
  r.slots + stallOf r.prod x.reads + x.cost ≤ (s.lent r.loop).limit

/-- The run after it has issued `x` (R226, R227, R229, R230): its slots with the stall, its producer, its next address. -/
def Run.after (r : Run) (x : Issue) : Run :=
  ({ r with slots := r.slots + stallOf r.prod x.reads + x.cost, prod := x.prod } : Run).go x.flow

/-- The lane has issued `x` and is `l` but for its run, and the clock has reached the slot of the instruction (R228). -/
def Issued (s : State) (lane : Nat) (r : Run) (x : Issue) (l : Lane) (t : State) : Prop :=
  LaneBecomes s lane { l with run := some (r.after x) } t ∧ t.now = max s.now (r.startAt + ckeT * (r.slots + stallOf r.prod x.reads))

/-- Sticky flag `k` of a loop is set if `b`, and nothing else of the loop changes (R178). -/
def FlagRaised (s : State) (loop k : Nat) (b : Bool) (t : State) : Prop :=
  t.ldyn loop = if b then { s.ldyn loop with flags := (s.ldyn loop).flags ||| ((1 : BitVec 7) <<< k) } else s.ldyn loop

/-- A host write is taken with role `r` (R424, R425, R430): the block is past its boot and the host is attached. -/
def State.Hosts (s : State) (r : Role) : Prop :=
  s.hw.bstate ≠ .off ∧ s.hw.bstate ≠ .guard_ ∧ s.hw.bstate ≠ .boot ∧ s.hw.role = some r

/-- The same, and the firmware serves it as it arrives (R426): no write waits and no closed bundle. -/
def State.HostServed (s : State) (r : Role) : Prop :=
  s.Hosts r ∧ s.hw.queue = [] ∧ s.sys.ready = true ∧ s.stg.closing = []

/-- The most recent write completed DONE and took no ticket (R501). -/
def HostDone (t : State) : Prop := t.hw.last = .done ∧ t.hw.lastTkt = false

/-- A write alone makes a set that the links can carry: at most 96 packets through any one port of the hub (R60). -/
def State.Fits (s : State) (w : SWrite) : Prop := topLoad (s.setLoads [w]) ≤ 96

/-- The commit queue takes one more host write (R262): nothing in it belongs to a bundle, bears the next ticket or is too large
for a set, and it has room. -/
def State.QueueOpen (s : State) : Prop :=
  (∀ x ∈ s.stg.queue, x.grp = 0 ∧ x.ticket ≠ some s.stg.tkNext.toNat ∧ s.Fits x) ∧
  s.stg.hand.writes.length + s.stg.queue.length < 2048

/-- A host write has taken the next ticket and waits in the commit queue with it (R258, R262). -/
def HostStaged (s : State) (r : Role) (c : CW) (t : State) : Prop :=
  t.hw.last = .pending ∧ t.hw.lastTkt = true ∧ t.stg.tkNext = s.stg.tkNext + 1 ∧
  (t.crec s.stg.tkNext.toNat).status = .pending ∧ (t.crec s.stg.tkNext.toNat).known = true ∧
  ({ cw := c, src := .host, ticket := some s.stg.tkNext.toNat, role := r.rank } : SWrite) ∈ t.stg.queue

/-- The outputs that follow from the state without any command stand as the rules say: HST_INT (R429), each region's kerf
ratio (R307) and shim intensity (R309, R327), and the refresh codes (R379). -/
def State.Presented (s : State) : Prop :=
  s.ports.intOut = decide (s.hw.intcause &&& s.hw.inten ≠ 0) ∧
  (∀ r ∈ s.regions, (s.reg r).krf.kPres = s.kerfOf r ∧ (s.reg r).krf.sPres = s.shimOf r) ∧
  ∀ n < 8, s.ports.rfc.get 0 n = s.refreshOf n

/-- A direction of a link holds its credits (R48): those at the sender, the packets on the wire, those lost and not yet
restored, and the credits on the wire back are the receiver's buffers, in each class. -/
def LinkDir.Balanced (d : LinkDir) : Prop := ∀ k, d.credit k + d.onWire k + d.lost k + d.back k = buffers k

/-- The parts of the state that a command may change, whatever its operands and the state. -/
def partsOf (c : Instr) : List Part :=
  match c with
  | .epochBoundary .. =>
      [.now, .epoch, .nodes, .eng, .com, .safe, .regs, .conv, .stg, .tel, .led, .tide, .flt, .hw, .store, .sys, .ports]
  | .stagingClose .. =>
      [.now, .links, .stg, .tide, .flt, .ports]
  | .ackDeadline .. =>
      [.now, .links, .stg, .ports]
  | .setDeferralLimit .. | .xfer .. | .xack .. | .advert .. | .stale .. | .expelled .. | .tideFrameDiscard ..
  | .dvtTideFrame .. | .fabFrame .. =>
      [.stg, .tide, .flt, .ports]
  | .nodeEpochBoundary .. =>
      [.now, .free, .nodes, .links, .pans]
  | .parentPathTimeout .. =>
      [.now, .nodes, .links, .pans, .eng, .flt]
  | .parityLimitReached .. =>
      [.free, .nodes, .links, .pans, .eng, .flt]
  | .parityErrorPacket .. | .reservedPacket .. | .unroutablePacket .. | .probe .. | .verdict .. | .audit .. | .resetDone ..
  | .adoptDone .. | .rosterRemove .. | .setpt .. | .slew .. | .window .. | .offslew .. | .mode .. | .freq .. | .bandset ..
  | .droop .. | .overshoot .. | .boostlim .. | .balance .. | .vmcomp .. | .fwin .. | .swinv .. | .swini .. | .sensesel ..
  | .calctl .. | .stream .. | .epochsamp .. | .setClose .. | .stageEnd .. =>
      [.nodes, .links]
  | .probeTimeout .. =>
      [.now, .nodes, .links, .eng, .com, .safe, .regs, .conv, .stg, .flt, .hw, .store, .sys, .ports]
  | .desc .. | .firmwareStart .. =>
      [.nodes, .links, .eng, .com, .safe, .regs, .conv, .stg, .flt, .hw, .store, .sys, .ports]
  | .ack .. =>
      [.nodes, .links, .stg]
  | .pondAckDeadline .. | .time .. | .pondRollupDeadline .. =>
      [.now, .nodes, .links]
  | .timeResyncPeriod .. =>
      [.links, .sys]
  | .rq .. | .rmm .. =>
      [.nodes, .links, .regs]
  | .linkAuditTimer .. =>
      [.now, .links]
  | .resetRequest .. | .stageFaultEvent .. | .creditReturn .. =>
      [.links]
  | .creditInvariantBreak .. | .tallyValueReady .. =>
      [.flt]
  | .adoptRequest .. =>
      [.nodes, .links, .flt]
  | .offset .. | .share .. | .arm .. | .carryauto .. | .calload .. | .calloadI .. | .roster .. | .parentSelect ..
  | .exceptionRange .. | .exceptionTarget .. | .childPortRange .. | .unimplementedSel .. =>
      [.nodes, .links, .pans]
  | .slewStep .. =>
      [.now, .links, .pans, .conv]
  | .setPointModelStep .. =>
      [.now, .regs, .conv, .stg]
  | .cotComparatorFire .. | .excursionHoldoffExpiry .. | .prebiasComplete .. | .shadowRampStep .. | .rampOutComplete .. =>
      [.now, .pans]
  | .frequencyLockUpdate .. =>
      [.free, .pans]
  | .peakLimitReached .. | .balanceTrimSaturated .. | .boostCountUsed .. | .comparatorConflict .. | .senseFallback ..
  | .panStageFault .. | .panStageFaultClear .. | .fastWindowExit .. | .conversionCheckFailures .. | .tallyReportInterval ..
  | .contactBaselineFormed .. | .contactSuspect .. =>
      [.links, .pans]
  | .excursionStart .. | .excursionEnd .. | .deEntry .. | .deExitMean .. | .balanceUpdate .. | .shareTrimUpdate ..
  | .droopCrossing .. | .boostRecovery .. | .overshootCrossing .. | .shuntRecovery .. | .shuntConductionLimit ..
  | .fastWindowRearm .. =>
      [.pans]
  | .excursionLimit .. =>
      [.now, .free, .links, .pans]
  | .boostConductionLimit .. | .senseReturn .. | .panLoopWatchdogExpiry .. | .shadowRunEnd .. | .sampleStreamInterval .. =>
      [.now, .links, .pans]
  | .lossReport .. =>
      [.links, .eng, .flt]
  | .lossResponse .. | .faultedPanReturn .. =>
      [.now, .stg, .flt, .ports]
  | .faultOrder .. =>
      [.stg, .flt, .ports]
  | .windowExitPending .. =>
      [.links, .regs, .flt]
  | .tallyReport .. =>
      [.links, .flt]
  | .sample .. =>
      [.links, .eng, .regs]
  | .rollupClose .. =>
      [.now, .free, .eng, .regs, .conv, .tel, .bud, .led, .flt]
  | .calibrationWindowClose .. =>
      [.eng, .regs, .tel, .bud, .flt, .ports]
  | .allowanceRecomputation .. =>
      [.stg, .bud, .ports]
  | .snapshotReady .. =>
      [.tel]
  | .engineTimerTick .. | .slotStale .. | .retestComplete .. =>
      [.now, .eng]
  | .dispatch .. =>
      [.eng, .views, .sys]
  | .runLimit .. | .mAdds .. | .mSubs .. | .mMulq .. | .mDivq .. | .mAbss .. | .mNegs .. | .mSati .. | .mMac .. | .mMsu ..
  | .mCmac .. | .mCmsu .. | .mCld .. | .mAadd .. | .mAsub .. | .mAshl .. | .mAmov .. | .mAneg .. | .mLds .. | .mSts ..
  | .mLdt .. | .mLdo .. | .mLdh .. | .mEnd .. | .illegalInstruction .. =>
      [.now, .eng, .views, .flt]
  | .selfCheckDue .. | .instructionRewrite .. =>
      [.eng]
  | .selfCheckComplete .. =>
      [.now, .eng, .flt]
  | .laneRegisterError .. | .scrubError .. =>
      [.eng, .views, .flt]
  | .retest .. | .hostQueueService .. | .attach .. | .detach .. | .hbeat .. | .intcause .. | .sessionRequest ..
  | .sessionClose .. | .sesgo .. | .instkeygo .. | .wrbnd .. | .bundleClose .. | .snpreq .. | .lqreq .. | .dioreq ..
  | .thrst .. | .talsel .. | .trcctlClear .. | .loopOpen .. | .loopClose .. | .loopman .. | .coefval .. | .imageStart ..
  | .imgdat .. | .imageFinish .. | .imageAbort .. | .rwx .. | .restart .. | .warm .. | .pdown .. | .cfgsave .. | .rvreq ..
  | .vibset .. | .qset .. | .orderNone .. | .orderOn .. | .orderOff .. | .orderRetention .. | .orderPurge .. | .phcmdAdmit ..
  | .phcmdRetire .. | .dcapop .. | .dcapin .. | .dcapmk .. | .ledenSet .. | .ledenClear .. | .ledbase .. | .ten ..
  | .freeze .. | .trel .. | .expinc .. =>
      [.epoch, .free, .nodes, .links, .pans, .eng, .com, .safe, .views, .regs, .conv, .stg, .tel, .bud, .shim, .led, .tide, .flt, .hw, .log, .store, .sys, .ports]
  | .mAdd .. | .mSub .. | .mAnd .. | .mOr .. | .mXor .. | .mShl .. | .mShr .. | .mSra .. | .mMin .. | .mMax .. | .mSlt ..
  | .mSltu .. | .mClmp .. | .mMul .. | .mAddi .. | .mAndi .. | .mOri .. | .mXori .. | .mLui .. | .mShli .. | .mShri ..
  | .mSrai .. | .mSlti .. | .mExt .. | .mIns .. | .mAclr .. | .mAld .. | .mAsra .. | .mAhi .. | .mAlo .. | .mAput ..
  | .mLdi .. | .mBeq .. | .mBne .. | .mBlt .. | .mBge .. | .mBltu .. | .mBgeu .. | .mBbs .. | .mBbc .. | .mJmp .. | .mCall ..
  | .mRet .. | .mLoop .. | .mLoopr .. | .mRfl .. | .mRflc .. | .mLfl .. | .mCyc .. | .mNow .. | .mSysMode .. | .mNop .. =>
      [.now, .eng, .views]
  | .mOut .. =>
      [.now, .links, .eng, .com, .views, .regs, .conv, .bud, .flt, .hw, .sys]
  | .viboff .. | .qoff .. | .ntarget .. | .trim .. | .cancel .. | .converterComparatorFire .. | .phasePeakLimit ..
  | .phaseOverload .. | .trimLimit .. | .shedBegin .. | .vibDroopCrossing .. | .currentStepDetected .. | .converterDeEntry ..
  | .converterDeExit .. | .railStartCommand .. | .railStopCommand .. | .railDown .. | .overvoltageClear .. =>
      [.conv]
  | .kerfRatio .. =>
      [.regs, .bud, .flt]
  | .shimIntensity .. | .agoneChange .. =>
      [.regs]
  | .hubGuardThermalInput .. =>
      [.com, .regs, .conv, .flt, .hw, .sys]
  | .converterOutputTimeout .. | .bootVinGood .. | .railFaultRetry .. =>
      [.now, .conv, .sys]
  | .engineLossTimeout .. =>
      [.now, .hw, .sys]
  | .converterFreqLock .. =>
      [.free, .conv]
  | .phaseOverloadClear .. | .provisionalExpiry .. | .shedHoldoffExpiry .. | .wakeElapsed .. | .admitRampStep ..
  | .railRefReached .. | .railStopDelayElapsed .. | .overvoltage .. =>
      [.now, .conv]
  | .phaseFault .. =>
      [.conv, .flt]
  | .phaseSpareResponse .. =>
      [.now, .conv, .stg, .flt, .ports]
  | .railDelayElapsed .. =>
      [.now, .conv, .flt]
  | .railNotGoodTimeout .. | .inputStop .. | .overvoltagePersists .. =>
      [.now, .regs, .conv, .flt, .hw, .sys]
  | .vinLow .. =>
      [.conv, .ports]
  | .railGood .. | .stagingInterval .. =>
      [.now, .eng, .regs, .ports]
  | .startfailTimeout .. | .stageOpen .. =>
      [.now, .regs, .stg]
  | .forcedStaging .. =>
      [.now, .regs, .flt, .ports]
  | .handoverTret .. | .purgeComplete .. =>
      [.now, .regs, .ports]
  | .fenceTimeout .. =>
      [.now, .regs, .stg, .flt]
  | .fallingComplete .. | .drained .. =>
      [.regs, .stg]
  | .purgeClampTret .. | .purgeslow .. | .shimAnnouncedArrival .. | .annwaitExpiry .. =>
      [.now, .regs]
  | .hintWordCheck .. | .phase .. | .batch .. | .kvgrow .. | .barrier .. | .bwait .. | .step .. | .context .. =>
      [.eng, .regs, .stg, .ports]
  | .activityFrame .. | .inlet .. =>
      [.eng, .ports]
  | .hntRdyRise .. | .hntRdyFall .. | .kerfResend .. | .presence .. | .droopAlert .. | .dvtFrameCrcError .. | .dvtTraining ..
  | .fabUpChange .. | .avsbusReply .. | .dynamicAddressAssigned .. | .tver .. | .tceil .. | .trayState .. | .trayCap ..
  | .pdel .. | .tryFlowChange .. | .dvtLock .. | .dbgTrstN .. =>
      [.ports]
  | .shimOnset .. =>
      [.regs, .shim, .ports]
  | .taperStart .. =>
      [.now, .shim]
  | .shimTargetUpdate .. =>
      [.now, .eng, .shim]
  | .shimIdle .. =>
      [.now, .eng, .regs, .shim]
  | .request .. =>
      [.stg, .ports]
  | .fenceMessageDiscard .. =>
      []
  | .tideWindow .. =>
      [.now, .stg, .tide, .ports]
  | .tideCreditStage .. =>
      [.stg, .tide, .ports]
  | .escrowRetry .. =>
      [.now, .tide, .ports]
  | .peerDead .. =>
      [.now, .tide, .flt]
  | .tideFiguresStale .. =>
      [.now, .tide]
  | .presenceTimer .. | .peerdroopExpiry .. | .dvtLinkDown .. | .dvtLockTimeout .. | .dvtRetrain .. | .avsbusPoll .. =>
      [.now, .ports]
  | .dvtShimOnset .. =>
      [.shim, .ports]
  | .thstale .. =>
      [.now, .regs, .sys]
  | .lowconfQueue .. =>
      [.regs, .sys]
  | .diodeReadingComplete .. =>
      [.eng, .com, .regs, .conv, .stg, .flt, .hw, .sys, .ports]
  | .tinletSubstitution .. =>
      [.now, .eng, .ports]
  | .bandEvaluation .. | .guardbandTrim .. =>
      [.regs, .stg, .ports]
  | .thermalRegionOrder .. | .thermalOrderRelease .. =>
      [.now, .stg, .ports]
  | .monitorRead .. | .monitorAnswer .. =>
      [.eng, .regs]
  | .drainTimeout .. =>
      [.now, .regs, .stg, .sys]
  | .stopRegionsDark .. =>
      [.regs, .stg, .led, .flt, .sys]
  | .stopRailsDown .. =>
      [.epoch, .nodes, .links, .pans, .eng, .com, .safe, .views, .regs, .conv, .stg, .tel, .bud, .shim, .led, .tide, .flt, .hw, .log, .store, .sys, .ports]
  | .coolantStop .. =>
      [.now, .regs, .flt, .hw, .sys]
  | .coolantRailStop .. =>
      [.now, .conv, .led, .flt, .sys]
  | .ledgerWriteBack .. | .ledgerWriteComplete .. | .ledgerFetchComplete .. | .ledgerQueryReady .. | .ledgerClearComplete .. =>
      [.led]
  | .harvest .. =>
      [.eng, .flt, .store]
  | .harvestRetry .. =>
      [.flt, .store]
  | .watchdogExpiry .. =>
      [.now, .stg, .flt, .hw, .sys, .ports]
  | .coreRelease .. =>
      [.now, .sys]
  | .firmwareReady .. | .cfgsaveComplete .. =>
      [.store, .sys]
  | .firmwareReadyTimeout .. =>
      [.now, .hw, .store, .sys]
  | .kick .. =>
      [.sys]
  | .registerWrite .. =>
      [.regs, .stg, .tel, .tide, .flt, .hw, .ports]
  | .lowWordRead .. | .snpdatAutoRead .. =>
      [.hw]
  | .heartbeatTimeout .. =>
      [.now, .stg, .hw]
  | .sessionVerified .. =>
      [.flt, .hw]
  | .sessionIdleTimeout .. | .lockoutExpiry .. =>
      [.now, .hw]
  | .tracePoint .. | .logEntry .. =>
      [.log]
  | .imageCheckComplete .. =>
      [.hw, .store]
  | .page .. | .clearFaults .. | .capability .. | .voutMode .. | .statusByte .. | .statusWord .. | .statusVout ..
  | .statusIout .. | .statusInput .. | .statusTemperature .. | .readVin .. | .readIin .. | .readVout .. | .readIout ..
  | .readTemperature1 .. | .readPout .. | .readPin .. | .pmbusRevision .. | .pmbusOtherWrite .. | .alertResponse ..
  | .tapInstructionLoad .. | .dbgMakerChallenge .. =>
      [.free, .ports]
  | .porstNAssert .. | .vaonRemoved .. =>
      [.epoch, .nodes, .links, .pans, .eng, .com, .safe, .views, .regs, .conv, .stg, .tel, .bud, .shim, .led, .tide, .flt, .hw, .log, .sys, .ports]
  | .porstNRelease .. =>
      [.epoch, .links, .flt, .hw, .sys]
  | .ckeAbsent .. | .inputStopRecovery .. =>
      [.now, .epoch, .nodes, .links, .pans, .eng, .com, .safe, .views, .regs, .conv, .stg, .tel, .bud, .shim, .led, .tide, .flt, .hw, .log, .sys, .ports]
  | .ckrPresent .. =>
      [.now, .epoch, .links, .flt, .hw, .sys]
  | .bootRailsInReg .. =>
      [.stg, .sys, .ports]
  | .bootRegionsLive .. =>
      [.flt, .hw, .sys]
  | .event .. =>
      [.nodes, .links, .eng, .regs, .flt]
  | .ledfaultClear .. =>
      [.now, .led]
  | .sluiceFaultExpiry .. =>
      [.now, .flt]
  | .monitorAnswerTimeout .. =>
      [.now, .eng, .regs]
  | .voltageModePeriod .. =>
      [.now, .free, .pans]
  | .quietRailPeriod .. =>
      [.now, .free, .conv]
  | .dbgStoreWrite .. =>
      [.store]

/-- Every engine input slot that the source feeds holds the value, marked fresh (R184, R316). -/
def Posted (s : State) (src : SlotSrc) (v : Word) (t : State) : Prop :=
  ∀ k ∈ s.eng.slotsOf src, (t.eng.input.get {} k).value = v ∧ (t.eng.input.get {} k).stale = false

/-- The command completes: it answers a next state of which `P` holds, and changes only the parts it may ever change. -/
def Completes (c : Instr) (s : State) (P : State → Prop) : Prop := Does c s (partsOf c) P

end Sys2Proof.Machine
end

