-- ==== Sys2Proof/Certificates/Slice0/Obligations.lean ====
section
/-! DEFINITION. The statements about the machine that the provers prove: one proposition each, over every state and every
operand that meets its hypotheses. `Does c s parts P` says that the command completes: exec answers a next state that
satisfies P and differs from s only in the named parts (Sys2Proof/Safety.lean). -/

open Sys2Proof Sys2Proof.Machine

/-- A step runs the command at the front of the queue; on an empty queue one CKE cycle passes. For every state: if the queue
is c followed by rest, step is exec of c on the state whose queue is rest; if the queue is empty, step answers a next
state that differs only in the time, which moves on by one CKE cycle (two CKR ticks). The idle cycle is the model's
choice (log entry 2). (95_what_each_step_holds.md, 18_ports_clocks.md) -/
def Obligations.StepTakesTheFrontCommand : Prop :=
  (∀ (c : Instr) (rest : List Instr) (s : State), s.pending = c :: rest → step s = exec c (s.withPending rest)) ∧
  (∀ s : State, s.pending = [] → ∃ t, step s = .next t ∧ t.now = s.now + 2 ∧ Only [.now] s t)

/-- Every step answers a next state, and the queue loses exactly its front command. For every state the step answers a next
state, never a fault or a refusal, and the queue of the next state is the tail of the queue before: commands are taken
first in, first out, and no command puts another into the queue. Derived: no rule calls any command undefined, so none
stops (NOTES.md, Stops). (95_what_each_step_holds.md) -/
def Obligations.StepAnswersANextStateAndKeepsTheQueueInOrder : Prop :=
  ∀ (s : State), ∃ t, step s = .next t ∧ t.pending = s.pending.tail

/-- Every command changes only the parts of State that the frame table names for it. For every command c and states s, t: if
exec c on s answers next t, every part of State that the table partsOf does not name for c is unchanged (the queue among
them; of a region, only the presented kerf and shim values with their counters, which follow from the state without any
command, may follow). This is the frame of all 438 commands in one statement; the table is the reader's overview of who
writes what (R15). (01_architecture.md, 95_what_each_step_holds.md) -/
def Obligations.EveryCommandKeepsToItsParts : Prop :=
  ∀ (c : Instr) (s t : State), exec c s = .next t → Only (partsOf c) s t

/-- Every step keeps the registered outputs equal to what the state calls for. For every state s whose interrupt pin, whose
kerf and shim ratios of every region in use and whose eight refresh-factor codes are the ones that the registers and the
committed state call for, if step answers next t, the same holds of t. (18_ports_clocks.md, 11_budget_kerf.md,
12_hints_shim_ledger.md) -/
def Obligations.StepKeepsTheOutputsPresented : Prop :=
  ∀ s t : State, s.Presented → step s = .next t → t.Presented

/-- Reset presents the outputs its state calls for and holds every link in balance. At State.reset the interrupt pin, the
kerf and shim ratios and the refresh-factor codes are those the reset state calls for, and on every link direction and
for every class the credits, packets, lost packets and returning credits sum to the buffers of that class.
(18_ports_clocks.md, 02_sluice_tree.md) -/
def Obligations.ResetPresentsItsOutputs : Prop := State.reset.Presented ∧ (∀ l d, (State.reset.dir l d).Balanced)

/-- A pan holds each of the 22 implemented STAGE packets until its set is decided. For each of the 22 STAGE commands that a
pan implements, every header addressed to a pan and every tag and value, when that packet stands first on the link from
the pan's parent: the command completes, the packet leaves the link, the pan's held set gains the packet (a set of
another tag is dropped first), the time of the last packet is noted, nothing else of that node or of any other node
changes, and only links and nodes change at all. (03_pan_leaf.md, 09_setpoints_glueup.md, 02_sluice_tree.md) -/
def Obligations.StagePacketsAreHeldUntilTheVerdict : Prop :=
  ∀ x ∈ stageCommands, ∀ (n : Nat) (h : Hdr) (tag : BitVec 3) (v : Word) (s : State),
    s.Gets n h (stagePkt h x.2 tag v) → s.isPan n = true →
    Does (x.1 n h tag v) s [.links, .nodes] fun t =>
      (t.node n = { s.node n with held :=
        if (s.node n).held.tag = tag then
          { (s.node n).held with stages := (s.node n).held.stages ++ [⟨h, BitVec.ofNat 8 x.2, v⟩] }
        else { tag := tag, stages := [⟨h, BitVec.ofNat 8 x.2, v⟩] }, lastPkt := s.now }) ∧
      t.links = (s.takeDown n (stagePkt h x.2 tag v)).links ∧
      (∀ m, m ≠ n → t.node m = s.node m)

/-- OFFSET, SHARE, ARM, CARRYAUTO and the current calibration load are taken on arrival. For a pan whose packet stands first
on the link from its parent, on a cycle that is not the cycle of its epoch boundary: OFFSET sets the offset to the
signed low byte, SHARE the share to the low 20 bits, ARM the boost arming and the shunt enable (a disarm releases a
boost, a disable a shunt), CARRYAUTO the automatic carry bit, each noting the time of the last loop write; the
calibration load of the current waits in the pan for the next boundary. Each command completes; no other pan changes,
and only links, nodes and pans change. (03_pan_leaf.md, 05_telemetry.md) -/
def Obligations.PanWritesTakeEffectOnArrival : Prop :=
  ∀ (n : Nat) (h : Hdr) (v : Word) (s : State), s.Receives n h → s.isPan n = true → s.onBoundary n = false →
    (s.hasDown n (writePkt h 0x03 v) = true → Does (.offset n h v) s [.links, .nodes, .pans] fun t =>
      (t.pan n).par = { (s.pan n).par with offset := (v.setWidth 8).toInt } ∧ (t.pan n).lastWrite = s.now ∧
      ∀ m, m ≠ n → t.pan m = s.pan m) ∧
    (s.hasDown n (writePkt h 0x05 v) = true → Does (.share n h v) s [.links, .nodes, .pans] fun t =>
      (t.pan n).par = { (s.pan n).par with share := v.toNat % 2 ^ 20 } ∧ (t.pan n).lastWrite = s.now ∧
      ∀ m, m ≠ n → t.pan m = s.pan m) ∧
    (s.hasDown n (writePkt h 0x09 v) = true → Does (.arm n h v) s [.links, .nodes, .pans] fun t =>
      (t.pan n).par = { (s.pan n).par with boostArm := v.toNat % 4, shuntEn := v.getLsbD 2 } ∧ (t.pan n).lastWrite = s.now ∧
      (v.toNat % 4 = 0 → (t.pan n).bst = false ∧ (t.pan n).droopFired = false) ∧
      (v.getLsbD 2 = false → (t.pan n).shn = false ∧ (t.pan n).overFired = false) ∧
      ∀ m, m ≠ n → t.pan m = s.pan m) ∧
    (s.hasDown n (writePkt (s.hdrOf n) 0x0F v) = true → Does (.carryauto n true v) s [.links, .nodes, .pans] fun t =>
      (t.pan n).par = { (s.pan n).par with carryAuto := v.getLsbD 0 } ∧ (t.pan n).lastWrite = s.now ∧
      ∀ m, m ≠ n → t.pan m = s.pan m) ∧
    (s.hasDown n (writePkt h 0x5F v) = true → Does (.calloadI n h v) s [.links, .nodes, .pans] fun t =>
      t.pan n = { s.pan n with sense := { (s.pan n).sense with
        nextCur := some ((v.setWidth 12).toInt, v.toNat / 2 ^ 16 % 2 ^ 12) } } ∧
      ∀ m, m ≠ n → t.pan m = s.pan m)

/-- A calibration load of converter A, B or C waits for the boundary and restarts calibration. For a pan that receives
CALLOAD for converter A, B or C, off the cycle of its boundary: the coefficients decoded from the word (10-bit offset,
12-bit gain, 8-bit skew, signed) become the next coefficients of that converter (for C the factory ones too), the
calibration run counters, its ends and the start of the run restart, and no other pan changes. (05_telemetry.md) -/
def Obligations.CalibrationLoadsWaitForTheBoundary : Prop :=
  ∀ (n : Nat) (h : Hdr) (v : Word) (s : State), s.Receives n h → s.isPan n = true → s.onBoundary n = false →
    let c : ConvCoef := { offset := (v.setWidth 10).toInt, gain := ((v >>> 10).setWidth 12).toInt, skew := ((v >>> 22).setWidth 8).toInt }
    let again : Sense := { (s.pan n).sense with
      runs := 0, updA := 0, updB := 0, endA := {}, endB := {}, converged := false, shadowB := false, runAt := s.now }
    (s.hasDown n (writePkt h 0x5C v) = true → Does (.calload n h .a v) s [.links, .nodes, .pans] fun t =>
      t.pan n = { s.pan n with sense := { again with nextA := c } } ∧ ∀ m, m ≠ n → t.pan m = s.pan m) ∧
    (s.hasDown n (writePkt h 0x5D v) = true → Does (.calload n h .b v) s [.links, .nodes, .pans] fun t =>
      t.pan n = { s.pan n with sense := { again with nextB := c } } ∧ ∀ m, m ≠ n → t.pan m = s.pan m) ∧
    (s.hasDown n (writePkt h 0x5E v) = true → Does (.calload n h .c v) s [.links, .nodes, .pans] fun t =>
      t.pan n = { s.pan n with sense := { again with nextC := c, factC := c } } ∧ ∀ m, m ≠ n → t.pan m = s.pan m)

/-- WRITE packets set a pond's roster, parent selection, exception and child-port ranges. For a pond that receives the
packet: ROSTER sets the 16 child bits; PARENT selects the spare path only where there is one and it is not off; an
exception range or target sets entry k below 4; a child port range sets port k below 16, marks it used, and disables the
port when the range is the empty one, 0xFFFF above 0x0000 (that this range disables the port is the model's choice, log
entry 108). Every other entry, every other field of the node but the time of its last packet, and every other node are
unchanged. (02_sluice_tree.md) -/
def Obligations.PondRegistersAreWritten : Prop :=
  ∀ (n : Nat) (h : Hdr) (v : Word) (s : State), s.Receives n h → s.isPan n = false →
    let x : Node := { s.node n with lastPkt := s.now }
    (s.hasDown n (writePkt h 0x70 v) = true → Does (.roster n h v) s [.links, .nodes] fun t =>
      t.node n = { x with roster := v.setWidth 16 } ∧ ∀ m, m ≠ n → t.node m = s.node m) ∧
    (s.hasDown n (writePkt h 0x71 v) = true → Does (.parentSelect n h v) s [.links, .nodes] fun t =>
      t.node n = { x with onSpare := v.getLsbD 0 && x.spareParent.isSome && !x.spareOff } ∧
      ∀ m, m ≠ n → t.node m = s.node m) ∧
    (∀ k < 4, s.hasDown n (writePkt h (0x72 + 2 * k) v) = true → Does (.exceptionRange n h k v) s [.links, .nodes] fun t =>
      (t.node n).exc.get {} k = { x.exc.get {} k with lo := (v >>> 16).setWidth 16, hi := v.setWidth 16 } ∧
      (∀ j, j ≠ k → (t.node n).exc.get {} j = x.exc.get {} j) ∧
      t.node n = { x with exc := (t.node n).exc } ∧ ∀ m, m ≠ n → t.node m = s.node m) ∧
    (∀ k < 4, s.hasDown n (writePkt h (0x73 + 2 * k) v) = true → Does (.exceptionTarget n h k v) s [.links, .nodes] fun t =>
      (t.node n).exc.get {} k = { x.exc.get {} k with valid := v.getLsbD 31, port := v.toNat % 32 } ∧
      (∀ j, j ≠ k → (t.node n).exc.get {} j = x.exc.get {} j) ∧
      t.node n = { x with exc := (t.node n).exc } ∧ ∀ m, m ≠ n → t.node m = s.node m) ∧
    (∀ k < 16, s.hasDown n (writePkt h (0x80 + k) v) = true → Does (.childPortRange n h k v) s [.links, .nodes] fun t =>
      (t.node n).ranges.get {} k = { x.ranges.get {} k with
        lo := (v >>> 16).setWidth 16, hi := v.setWidth 16, used := true, disabled := decide (v = 0xFFFF0000) } ∧
      (∀ j, j ≠ k → (t.node n).ranges.get {} j = x.ranges.get {} j) ∧
      t.node n = { x with ranges := (t.node n).ranges } ∧ ∀ m, m ≠ n → t.node m = s.node m)

/-- A SEL that a node does not implement is discarded and reported with EVENT cause 0x02. For a node that receives a STAGE
or a WRITE with a SEL it does not implement, whatever its tag and value: the command completes, the packet leaves the
link, the node sends EVENT 0x02 upward, a pond passes a broadcast packet on to its child ports, and only links and nodes
change. The detail 0 of the EVENT is the model's choice (log entry 109). (R44) -/
def Obligations.UnimplementedSelIsReported : Prop :=
  ∀ (n : Nat) (h : Hdr) (st : Bool) (tag : BitVec 3) (sel : Byte) (v : Word) (s : State), s.implements n h st sel.toNat = false →
    let p := if st then stagePkt h sel.toNat tag v else writePkt h sel.toNat v
    s.Gets n h p → Does (.unimplementedSel n h st tag sel v) s [.links, .nodes] fun t =>
      let u := (s.takeDown n p).sendEvent n 0x02 0
      t.links = (if s.isPan n = false ∧ h.bc = true then u.toAll n p else u).links

/-- A pan counts a set's packets at its close, answers it, and keeps the verdict. For a pan whose packet stands first on the
link from its parent: END adds its count to the held set (a set of another tag is dropped first); the set close compares
each END's count with the stages held and asks that every stage has its END, records how many agree, clears the answers
collected and sends ACK upward with the result and the failing node (its own ID on a mismatch); a commit verdict is kept
with its generation; an abort verdict drops the set. No other node changes. (02_sluice_tree.md, 01_architecture.md) -/
def Obligations.SetsAreAnsweredAndVerdictsKept : Prop :=
  ∀ (n : Nat) (h : Hdr) (tag : BitVec 3) (s : State), s.Receives n h → s.isPan n = true →
    let k : HeldSet := if (s.node n).held.tag = tag then (s.node n).held else { tag := tag }
    (∀ count, s.hasDown n (stagePkt h 0xFF tag (BitVec.ofNat 32 (count % 65536))) = true → Does (.stageEnd n h tag count) s [.links, .nodes] fun t =>
      (t.node n).held = { k with ends := k.ends ++ [⟨h, count⟩] } ∧ ∀ m, m ≠ n → t.node m = s.node m) ∧
    (s.hasDown n (stagePkt h 0xFE tag 0) = true →
      let good := k.ends.filter fun e => decide (e.count = k.count e.h)
      let ok := (k.ends.all fun e => decide (e.count = k.count e.h)) && k.stages.all fun x => k.ends.any fun e => decide (e.h = x.h)
      Does (.setClose n h tag) s [.links, .nodes] fun t =>
        (t.node n).held = { k with closed := true, matched := good.length, ok := ok } ∧ (t.node n).acks = [] ∧
        (t.node n).acked = false ∧ (∀ m, m ≠ n → t.node m = s.node m) ∧
        t.links = ((s.takeDown n (stagePkt h 0xFE tag 0)).sendUp n
          (ackPkt (s.node n).id tag ok good.length (if ok then 0 else (s.node n).id))).links) ∧
    (∀ gen, s.hasDown n (verdictPkt h tag true gen) = true → Does (.verdict n h tag true gen) s [.links, .nodes] fun t =>
      (t.node n).held = { k with verdict := some true, gen := gen } ∧ ∀ m, m ≠ n → t.node m = s.node m) ∧
    (∀ gen, s.hasDown n (verdictPkt h tag false gen) = true → Does (.verdict n h tag false gen) s [.links, .nodes] fun t =>
      (t.node n).held = { tag := tag, verdict := some false } ∧ ∀ m, m ≠ n → t.node m = s.node m)

/-- Staging closes 4,200 cycles, the answers are due 4,672 cycles into an epoch, and the boundary commits. Outside OFF, the
staging close moves the time to at least 4,200 CKS cycles after the boundary, closes staging and gives the set the next
epoch's tag. At the answer deadline (4,672 cycles) a complete set gets the verdict commit and an incomplete one is
dropped. At the epoch boundary the epoch number and the boundary time advance; the committed state and the safe-state
copy stay as they were when no set commits; when one commits and the guard orders no stop they become the staged state,
with each loop that the set opens taking as its manual value the output last sent before the boundary, and with the
phase commands cleared in the committed state. (01_architecture.md, 09_setpoints_glueup.md) -/
def Obligations.GlueUpCommitsAtTheBoundary : Prop :=
  ∀ s : State,
    (s.hw.bstate ≠ .off → s.stg.closed = false →
      Does .stagingClose s [.now, .links, .stg, .tide, .flt, .ports] fun t =>
        t.now = max s.now (s.epochAt + 4200 * cksT) ∧ t.stg.closed = true ∧ t.stg.tag = BitVec.ofNat 3 (s.epoch.toNat + 1)) ∧
    (s.stg.hand.active = true → s.stg.hand.verdict = none →
      Does .ackDeadline s [.now, .links, .stg, .ports] fun t =>
        t.now = max s.now (s.epochAt + 4672 * cksT) ∧
        (s.stg.hand.complete = true → t.stg.hand = { s.stg.hand with verdict := some true }) ∧
        (s.stg.hand.complete = false → t.stg.hand = {})) ∧
    (s.hw.bstate ≠ .off → Does .epochBoundary s (partsOf .epochBoundary) fun t =>
      t.epoch = s.epoch + 1 ∧ t.epochAt = s.epochAt + epochT ∧ t.now = max s.now (s.epochAt + epochT) ∧
      (s.commits = false → s.stopDue = false → t.com = s.com ∧ t.safe = s.safe) ∧
      (s.commits = true → s.stopDue = false → s.com.guardStop = false →
        let n := openLoops s s.stg.hand.writes s.stg.hand.next
        t.com = { n with phcmd := [] } ∧ t.safe = n))

/-- The credit invariant of R48 survives every link command. For every state in which, on every link direction and for every
class, credits held, packets on the wire (a lost packet counted until the next audit) and credits on the way back sum to
the buffers of the class, each of the commands credit return, audit timer, reset request, reset done and parity error
completes and leaves the same invariant on every link direction, and so does an audit whose sent counts exceed the
receiver's counts by exactly the lost packets of each class. (A packet is taken from the receiver's buffer in the step
that processes it: log entry 3.) (02_sluice_tree.md) -/
def Obligations.LinkCommandsKeepTheCreditInvariant : Prop :=
  ∀ s : State, (∀ l d, (s.dir l d).Balanced) → ∀ (l : LinkId) (d : Dir) (k : PClass),
    (∀ x ∈ [Instr.creditReturn l d k, .linkAuditTimer l d, .resetRequest l d, .resetDone l d, .parityErrorPacket l d],
      Does x s [.now, .links, .nodes] fun t => ∀ m e, (t.dir m e).Balanced) ∧
    (∀ c t u : Nat, let x := s.dir l d
      (c % 256 + 256 - x.recvC.toNat) % 256 = x.lostC → (t % 256 + 256 - x.recvT.toNat) % 256 = x.lostT →
      (u % 256 + 256 - x.recvU.toNat) % 256 = x.lostU →
      Does (.audit l d c t u) s [.links, .nodes] fun t => ∀ m e, (t.dir m e).Balanced)

/-- Credits return, audits restore lost credits, parity errors lose a packet, resets refill a link. What each link command
does to its direction: a credit return gives the sender one credit of the class and lets what waits go out; an audit
timer sends an AUDIT and counts, per class, an audit that found the sender without credit; an AUDIT first on the wire
restores every missing credit of its class and sets the receiver's counts to the counts it carries; a parity error turns
the first packet on the wire into a lost one of its class and counts at the receiver's port; a class starved over two
audits whose receiver has room sets the sluice fault; a reset request refills all credits, empties the wire, zeroes the
counts and sends the confirmation; the confirmation ends the reset in both directions. Every other direction is
unchanged where the command names one. (02_sluice_tree.md) -/
def Obligations.LinkCommandsMoveCredits : Prop :=
  ∀ (s : State) (l : LinkId) (d : Dir),
    let x := s.dir l d
    (∀ k, 0 < x.back k → Does (.creditReturn l d k) s [.links] fun t =>
      t.dir l d = ((x.setBack k (x.back k - 1)).setCredit k (x.credit k + 1)).pump s.now s.stg.closed x.queue.length ∧
      ∀ m e, (m, e) ≠ (l, d) → t.dir m e = s.dir m e) ∧
    (Does (.linkAuditTimer l d) s [.now, .links] fun t =>
      t.now = max s.now (x.auditAt + 256 * cksT) ∧
      t.dir l d = ({ x with
        auditAt := t.now, zeroC := if x.creditC = 0 then x.zeroC + 1 else 0, zeroT := if x.creditT = 0 then x.zeroT + 1 else 0,
        zeroU := if x.creditU = 0 then x.zeroU + 1 else 0 } : LinkDir).push t.now s.stg.closed (linkPkt 1 0 0 0) ∧
      ∀ m e, (m, e) ≠ (l, d) → t.dir m e = s.dir m e) ∧
    (∀ c t u, x.holds (linkPkt 1 c t u) = true → Does (.audit l d c t u) s [.links, .nodes] fun t' =>
      (t'.dir l d).lostC = 0 ∧ (t'.dir l d).backC = x.backC + (c % 256 + 256 - x.recvC.toNat) % 256 ∧
      (t'.dir l d).lostT = 0 ∧ (t'.dir l d).backT = x.backT + (t % 256 + 256 - x.recvT.toNat) % 256 ∧
      (t'.dir l d).lostU = 0 ∧ (t'.dir l d).backU = x.backU + (u % 256 + 256 - x.recvU.toNat) % 256 + 1 ∧
      (t'.dir l d).recvC = BitVec.ofNat 8 c ∧ (t'.dir l d).recvT = BitVec.ofNat 8 t ∧
      (t'.dir l d).recvU = BitVec.ofNat 8 u + 1 ∧ (t'.dir l d).wire = x.wire.tail ∧
      ∀ m e, (m, e) ≠ (l, d) → t'.dir m e = s.dir m e) ∧
    (∀ p rest, x.wire = p :: rest → Does (.parityErrorPacket l d) s [.links, .nodes] fun t =>
      (t.dir l d).wire = rest ∧ (t.dir l d).queue = x.queue ∧
      (∀ k, (t.dir l d).lost k = x.lost k + (if classOfTy p.ty = k then 1 else 0) ∧ (t.dir l d).credit k = x.credit k ∧
        (t.dir l d).back k = x.back k) ∧
      (t.dir l d).recvC = x.recvC ∧ (t.dir l d).recvT = x.recvT ∧ (t.dir l d).recvU = x.recvU ∧
      (t.node (s.receiver l d).1).parity.get 0 (s.receiver l d).2 = (s.node (s.receiver l d).1).parity.get 0 (s.receiver l d).2 + 1 ∧
      ∀ m e, (m, e) ≠ (l, d) → t.dir m e = s.dir m e) ∧
    (∀ k, x.credit k = 0 → 2 ≤ x.zero k → x.onWire k < buffers k →
      Does (.creditInvariantBreak l d k) s [.flt] fun t => t.flt.sluAt = some s.now) ∧
    (x.holds (linkPkt 2 0 0 0) = true → Does (.resetRequest l d) s [.links] fun t =>
      (∀ k, (t.dir l d).credit k = buffers k ∧ (t.dir l d).onWire k = 0) ∧ (t.dir l d).resetting = true ∧
      (t.dir l d).sentC = 0 ∧ (t.dir l d).recvC = 0 ∧ (t.dir l d).queue = x.queue ∧
      (t.dir l (otherDir d)).wire = [linkPkt 3 0 0 0] ∧ (t.dir l (otherDir d)).resetting = true) ∧
    (x.holds (linkPkt 3 0 0 0) = true → Does (.resetDone l d) s [.links, .nodes] fun t =>
      let y := x.take (linkPkt 3 0 0 0)
      let z := s.dir l (otherDir d)
      t.dir l d = ({ y with resetting := false } : LinkDir).pump s.now s.stg.closed y.queue.length ∧
      t.dir l (otherDir d) = ({ z with resetting := false } : LinkDir).pump s.now s.stg.closed z.queue.length)

/-- ACK, charge and extreme reports are collected at ponds and at the hub; deadlines send what has come. A pond that awaits
it adds a child's first ACK of the closed set, and passes on one it does not await; the hub records the ACK at the
child's port. A pond's deadline sends what it has. A charge report adds its increment (mod the width of the report) to
the pond's cumulative count or, at the hub, to the region's input charge; an extreme report joins the tag's running
minimum and maximum of voltage or current and its incomplete mark, at the hub of the closed epoch and before the roll-up
close; the roll-up deadline sends it. In each case the report stands first on the link from the child. Every other node
is unchanged. (02_sluice_tree.md, 05_telemetry.md) -/
def Obligations.AnswersAndRollupsClimbTheTree : Prop :=
  ∀ s : State,
    (∀ n child tag ok count failing, n ≠ 0 → s.awaits n child (ackPkt (s.node child).id tag ok count failing) = true → (s.node n).held.closed = true →
      (s.node n).held.tag = tag → (s.node n).acks.any (fun a => decide (a.child = child)) = false →
      Does (.ack n child tag ok count failing) s [.nodes, .links] fun t =>
        (t.node n).acks = (s.node n).acks ++ [⟨child, ok, count, failing⟩] ∧ ∀ m, m ≠ n → t.node m = s.node m) ∧
    (∀ n child tag ok count failing, n ≠ 0 → let p := ackPkt (s.node child).id tag ok count failing
      s.fromBelow n p ≠ none → s.awaits n child p = false → Does (.ack n child tag ok count failing) s [.nodes, .links] fun t =>
        t.links = ((s.takeInto n p).sendUp n p).links ∧ t.nodes = s.nodes) ∧
    (∀ child tag ok count failing, s.stg.hand.active = true → s.stg.hand.verdict = none → s.stg.tag = tag →
      s.fromBelow 0 (ackPkt (s.node child).id tag ok count failing) ≠ none →
      Does (.ack 0 child tag ok count failing) s [.links, .stg] fun t =>
        let k := s.portKey ((s.hubChild child).getD child)
        let e := s.stg.hand.ports.get {} k
        t.stg.hand.ports.get {} k = { e with
          ok := some (e.ok.getD true && ok), got := e.got + count, failing := if e.failing = 0 then failing else e.failing }) ∧
    (∀ n, n ≠ 0 → s.isPan n = false → (s.node n).held.closed = true → (s.node n).acked = false →
      Does (.pondAckDeadline n) s [.now, .nodes, .links] fun t => (t.node n).acked = true ∧
        t.now = max s.now ((s.node n).epochAt + cksT * (4800 - 136 - 8 * (s.node n).depth)) ∧ ∀ m, m ≠ n → t.node m = s.node m) ∧
    (∀ n child tag count, n ≠ 0 → s.awaits n child (rqPkt (s.node child).id tag count) = true →
      Does (.rq n child tag count) s [.nodes, .links] fun t =>
        (t.node n).cum = (s.node n).cum + BitVec.ofNat 40 (rqInc (s.node child).wide ((s.node n).lastRq.get 0 child) count) ∧
        (t.node n).lastRq.get 0 child = count ∧ ∀ m, m ≠ n → t.node m = s.node m) ∧
    (∀ child tag count r, s.regionFor child = some r → s.fromBelow 0 (rqPkt (s.node child).id tag count) ≠ none →
      Does (.rq 0 child tag count) s [.nodes, .links, .regs] fun t =>
        (t.reg r).tel.inQ = (s.reg r).tel.inQ + BitVec.ofNat 40 (rqInc (s.node child).wide ((s.node 0).lastRq.get 0 child) count) ∧
        (t.node 0).lastRq.get 0 child = count) ∧
    (∀ n child tag cur inc vMax vMin, n ≠ 0 →
      s.awaits n child (rmmPkt (s.node child).id tag cur inc { min := vMin, max := vMax }) = true → (s.node n).rollup.tag = tag → (s.node n).rollup.sent = false →
      Does (.rmm n child tag cur inc vMax vMin) s [.nodes, .links] fun t =>
        (t.node n).rollup.v = (if cur then (s.node n).rollup.v else (s.node n).rollup.v.join { min := vMin, max := vMax }) ∧
        (t.node n).rollup.i = (if cur then (s.node n).rollup.i.join { min := vMin, max := vMax } else (s.node n).rollup.i) ∧
        (t.node n).rollup.vInc = ((s.node n).rollup.vInc || (!cur && inc)) ∧
        (t.node n).rollup.iInc = ((s.node n).rollup.iInc || (cur && inc)) ∧ ∀ m, m ≠ n → t.node m = s.node m) ∧
    (∀ child tag cur inc vMax vMin r, tag = BitVec.ofNat 3 (s.epoch.toNat + 7) → s.tel.closed = false → s.regionFor child = some r →
      s.fromBelow 0 (rmmPkt (s.node child).id tag cur inc { min := vMin, max := vMax }) ≠ none →
      Does (.rmm 0 child tag cur inc vMax vMin) s [.links, .regs] fun t =>
        (t.reg r).tel.inExt.v = (if cur then (s.reg r).tel.inExt.v else (s.reg r).tel.inExt.v.join { min := vMin, max := vMax }) ∧
        (t.reg r).tel.inExt.i = (if cur then (s.reg r).tel.inExt.i.join { min := vMin, max := vMax } else (s.reg r).tel.inExt.i) ∧
        (t.reg r).tel.inExt.inc = ((s.reg r).tel.inExt.inc || inc)) ∧
    (∀ n, n ≠ 0 → s.isPan n = false → (s.node n).rollup.sent = false →
      Does (.pondRollupDeadline n) s [.now, .nodes, .links] fun t => (t.node n).rollup.sent = true ∧
        t.now = max s.now ((s.node n).epochAt + cksT * 64 * (s.node n).height) ∧ ∀ m, m ≠ n → t.node m = s.node m)

/-- A lost parent path moves a node to its spare; reserved and unroutable packets are reported; TIME aligns. At a node below
the hub: a parent path timeout, 320 cycles after the last packet, selects the spare path where there is one, it is not
off and it has not failed, marks the path hold, and every running pan of the node's subtree enters HOLD; without a spare
parent the subtree holds too. Eight parity errors of the parent port fail its path; of a child port they report a sluice
fault. A reserved packet type first on any link into the node is taken off and reported with cause 0x01; a packet for no
port of the node with cause 0x04; TIME, measured from the instant it left the parent plus 4 cycles, aligns the epoch
count and boundary; an adoption's end ends the hold; a roster removal clears the child's bit; PROBE gives an unnumbered
node its ID. The detail 0 of these EVENTs is the model's choice (log entry 109). (02_sluice_tree.md) -/
def Obligations.PathsAndPacketsAtANode : Prop :=
  ∀ (s : State) (n : Nat), n ≠ 0 →
    ((s.node n).id ≠ 0 → (s.node n).onSpare = false → (s.node n).spareParent.isSome = true → (s.node n).spareOff = false →
      (s.node n).badSpare = false → Does (.parentPathTimeout n) s [.now, .nodes, .links, .pans, .eng, .flt] fun t =>
        t.now = max s.now ((s.node n).lastPkt + 320 * cksT) ∧ (t.node n).onSpare = true ∧ (t.node n).pathHold = true ∧
        (t.node n).badPrimary = true ∧ (∀ c ∈ s.subtree n, s.isPan c = true → (s.pan c).st = .run → (t.pan c).st = .hold) ∧
        ∀ m, m ≠ n → t.node m = s.node m) ∧
    ((s.node n).id ≠ 0 → (s.node n).spareParent = none →
      Does (.parentPathTimeout n) s [.now, .nodes, .links, .pans, .eng, .flt] fun t =>
        t.now = max s.now ((s.node n).lastPkt + 320 * cksT) ∧ (t.node n).pathHold = true ∧
        (∀ c ∈ s.subtree n, s.isPan c = true → (s.pan c).st = .run → (t.pan c).st = .hold)) ∧
    (8 ≤ (s.node n).parity.get 0 (s.node n).parentPort →
      Does (.parityLimitReached n (s.node n).parentPort) s [.free, .nodes, .links, .pans, .eng, .flt] fun t => (t.node n).pathHold = true) ∧
    (∀ port, port ≠ 30 → port ≠ 31 → 8 ≤ (s.node n).parity.get 0 port →
      Does (.parityLimitReached n port) s [.free, .nodes, .links, .pans, .eng, .flt] fun t =>
        t.flt.sluAt = some s.now ∧ t.nodes = s.nodes) ∧
    (∀ (l : LinkId) (d : Dir) (ty : BitVec 4) p, ty = 0 ∨ ty = 0xE ∨ ty = 0xF → (s.dir l d).wire.head? = some p → p.ty = ty →
      (s.receiver l d).1 = n → Does (.reservedPacket l d ty) s [.nodes, .links] fun t =>
        t.links = ((s.takeOn l d p).sendEvent n 0x01 0).links) ∧
    (∀ h p, s.isFor n h = false → ((s.node n).kind = .pond → s.portFor n h.dst = none) →
      (s.dir (s.upLink n) .down).wire.head? = some p → p.bc = h.bc → p.node = h.dst →
      Does (.unroutablePacket n h) s [.nodes, .links] fun t => t.links = ((s.takeDown n p).sendEvent n 0x04 0).links) ∧
    (∀ h cycle epoch hold, s.Gets n h (pkt 7 h (timeBody cycle epoch 0)) →
      Does (.time n h cycle epoch hold) s [.now, .nodes, .links] fun t =>
        t.now = max s.now ((s.dir (s.upLink n) .down).timeOut.headD s.now + 4 * cksT) ∧ (t.node n).aligned = true ∧
        (t.node n).epochNo.toNat % 65536 = epoch % 65536 ∧
        ((t.now - (s.node n).epochAt) / cksT ≠ cycle → (t.node n).epochAt = t.now - cksT * cycle) ∧
        ∀ m, m ≠ n → t.node m = s.node m) ∧
    (∀ h lo hi, s.Gets n h (pathPkt h 1 lo hi) → Does (.adoptDone n h lo hi) s [.nodes, .links] fun t =>
      (t.node n).pathHold = false ∧ ∀ m, m ≠ n → t.node m = s.node m) ∧
    (∀ h lo hi k x, s.Gets n h (pathPkt h 2 lo hi) →
      (s.node n).ranges.find? (fun e => e.2.used && inRange e.2.lo e.2.hi lo) = some (k, x) →
      Does (.rosterRemove n h lo hi) s [.nodes, .links] fun t =>
        (t.node n).roster = (s.node n).roster &&& ~~~ ((1 : BitVec 16) <<< k) ∧ ∀ m, m ≠ n → t.node m = s.node m) ∧
    (∀ dst port newId, (s.node n).kind ≠ .absent → (s.node n).id = 0 → newId ≠ 0 →
      (s.dir { node := n, path := .primary } .down).holds (probePkt dst port newId) = true →
      Does (.probe n dst port newId) s [.nodes, .links] fun t =>
        (t.node n).id = newId ∧ (t.node n).subHi = newId ∧ ∀ m, m ≠ n → t.node m = s.node m)

/-- At its epoch boundary a pan applies a committed STAGE packet, saturated to its range. For a numbered, unspared pan
holding a committed set of the coming epoch's tag with one STAGE packet and no late write: the node boundary advances
the node's epoch number and boundary time and clears the held set; a waiting current calibration takes force; and the
pan's parameters change exactly as the packet's SEL says, each field saturated to its range, for every implemented SEL.
Every other node is unchanged. (03_pan_leaf.md, 05_telemetry.md, 09_setpoints_glueup.md) -/
def Obligations.CommittedValuesApplyAtTheNodeBoundary : Prop :=
  ∀ (s : State) (n : Nat) (m : EpochMeas) (h : Hdr) (sel : Byte) (v : Word),
    n ≠ 0 → (s.node n).id ≠ 0 → s.isPan n = true → (s.node n).kind.isSpare = false →
    (s.node n).held.tag = (s.node n).epochNo.setWidth 3 + 1 → (s.node n).held.verdict = some true → (s.node n).held.stages = [⟨h, sel, v⟩] → (s.pan n).late = [] →
    Does (.nodeEpochBoundary n m) s [.now, .free, .nodes, .links, .pans] fun t =>
      (t.node n).epochNo = (s.node n).epochNo + 1 ∧ (t.node n).epochAt = (s.node n).epochAt + epochT ∧ (t.node n).held = {} ∧
      (∀ k, k ≠ n → t.node k = s.node k) ∧
      let q := match (s.pan n).sense.nextCur with
        | some c => { (s.pan n).par with curGain := c.1, boostCoef := c.2 }
        | none => (s.pan n).par
      let p := (t.pan n).par
      (sel = 0x00 → p = { q with setpt := v.toNat % 1024 }) ∧
      (sel = 0x01 → p = { q with slew := max 1 (min (v.toNat % 512) 500) }) ∧
      (sel = 0x02 → p = { q with winCeil := v.toNat / 2 ^ 16 % 1024, winFloor := v.toNat % 1024 }) ∧
      (sel = 0x04 → p = { q with offslew := max 1 (min (v.toNat % 512) 500) }) ∧
      (sel = 0x06 → p = { q with modeReq := v.toNat % 4, dePermit := v.getLsbD 2, carryPermit := v.getLsbD 3, loopWd := v.getLsbD 4, carryAuto := false }) ∧
      (sel = 0x07 → p = { q with freq := max 60 (min (v.toNat % 256) 200) }) ∧
      (sel = 0x08 → p = { q with ripple := v.toNat % 4, deadTime := v.toNat / 2 ^ 4 % 16 }) ∧
      (sel = 0x0A → p = { q with droopNorm := max 8 (min (v.toNat % 64) 63), droopPre := max 4 (min (v.toNat / 2 ^ 8 % 64) 63) }) ∧
      (sel = 0x0B → p = { q with overshoot := max 8 (min (v.toNat % 64) 63) }) ∧
      (sel = 0x0C → p = { q with boostNs := max 2 (min (v.toNat % 128) 100), boostMax := max 1 (min (v.toNat / 2 ^ 8 % 256) 255) }) ∧
      (sel = 0x0D → p = { q with balance := v.getLsbD 0 }) ∧
      (sel = 0x0E → p = { q with vmcomp := v.toNat % 4 }) ∧
      (sel = 0x40 → p = { q with fwBelow := max 4 (v.toNat % 256), fwAbove := max 4 (v.toNat / 2 ^ 8 % 256), fwHyst := max 1 (v.toNat / 2 ^ 16 % 16), fwEn := v.getLsbD 20 }) ∧
      (sel = 0x41 → p = { q with svBelow := v.toNat % 256, svAbove := v.toNat / 2 ^ 8 % 256, svHyst := v.toNat / 2 ^ 16 % 16, svEn := v.getLsbD 20 }) ∧
      (sel = 0x42 → p = { q with siHigh := v.toNat % 4096, siLow := v.toNat / 2 ^ 12 % 4096, siHyst := v.toNat / 2 ^ 24 % 16, siEn := v.getLsbD 28 }) ∧
      (sel = 0x43 → p = { q with sensesel := v.toNat % 4 }) ∧
      (sel = 0x44 → p = { q with calEn := v.getLsbD 0, skewFreeze := v.getLsbD 1 }) ∧
      (∀ k, k < 4 → sel = BitVec.ofNat 8 (0x60 + k) → p = { q with
        streamKind := q.streamKind.set 0 k (v.toNat % 256), streamInt := q.streamInt.set 0 k (v.toNat / 2 ^ 8 % 65536) }) ∧
      (sel = 0x64 → p = { q with epochV := v.getLsbD 0, epochI := v.getLsbD 1 })

/-- TIME is sent again every 4,096 epochs; a probe without answer goes to the next port; DESC takes the ID. The hub sends
TIME again after 4,096 epochs; a probe timeout after 2,048 cycles moves on to the next port of the node probed; a DESC
first on a link into the hub, with the ID next in order, from a node the image knows, at a depth of at most 15, records
the node's description and depth and starts probing it, leaving every other node unchanged; a pond passes a DESC or an
adoption request up; an adoption request at the hub marks the subtree adopted where the ponds on its way have free
exception entries. (02_sluice_tree.md) -/
def Obligations.EnumerationAndAdoptionAdvance : Prop :=
  ∀ s : State,
    (5 ≤ s.sys.step → s.sys.timeEp + 4096 ≤ s.epoch.toNat →
      Does .timeResyncPeriod s [.links, .sys] fun t => t.sys = { s.sys with timeEp := s.epoch.toNat }) ∧
    (∀ n p up, s.sys.enumAt = (n, p) :: up → p + 1 < childPorts n → s.sys.enumNext ≤ 0x2000 →
      Does (.probeTimeout n p) s (partsOf (.probeTimeout n p)) fun t =>
        t.now = max s.now (s.sys.probeAt + 2048 * cksT) ∧ t.sys = { s.sys with enumAt := (n, p + 1) :: up, probeAt := t.now }) ∧
    (∀ src ports wide rating revision c n p up, s.fromBelow 0 (pkt 2 { bc := false, dst := src } (descBody 0 ports wide rating revision)) ≠ none →
      s.nodeById src = some c → s.sys.enumAt = (n, p) :: up → src.toNat = s.sys.enumNext →
      s.sys.image.nodes.get 0 c ≠ 0 → (s.node n).depth + (if n = 0 then 0 else 1) ≤ 15 → s.sys.enumNext < 0x2000 → c ≠ 0 →
      Does (.desc 0 src 0 ports wide rating revision) s (partsOf (.desc 0 src 0 ports wide rating revision)) fun t =>
        t.node c = { s.node c with kind := .pond, ports := ports, wide := wide, rating := rating, revision := revision,
                                   depth := (s.node n).depth + (if n = 0 then 0 else 1) } ∧
        t.sys = { s.sys with enumNext := s.sys.enumNext + 1, enumAt := (c, 0) :: (n, p) :: up, probeAt := s.now } ∧
        ∀ m, m ≠ c → t.node m = s.node m) ∧
    (∀ n src kind ports wide rating revision, n ≠ 0 → let k := pkt 2 { bc := false, dst := src } (descBody kind ports wide rating revision)
      s.fromBelow n k ≠ none → Does (.desc n src kind ports wide rating revision) s [.nodes, .links] fun t =>
        t.links = ((s.takeInto n k).sendUp n k).links ∧ t.nodes = s.nodes) ∧
    (∀ lo hi c, s.fromBelow 0 (adoptPkt lo hi) ≠ none → s.nodeById lo = some c →
      (s.adoptEntries c ((s.node c).spareParent.getD 0) (s.node c).sparePort).any (fun e => decide (4 ≤ s.flt.excUsed.get 0 e.1)) = false →
      Does (.adoptRequest 0 lo hi) s [.nodes, .links, .flt] fun t => c ∈ t.flt.adopted) ∧
    (∀ n lo hi, n ≠ 0 → s.fromBelow n (adoptPkt lo hi) ≠ none → Does (.adoptRequest n lo hi) s [.nodes, .links] fun t =>
      t.links = ((s.takeInto n (adoptPkt lo hi)).sendUp n (adoptPkt lo hi)).links ∧ t.nodes = s.nodes)

/-- Excursions start above the continuous limit and end below it; limits, emulation and trims follow. For a pan: a current
above the continuous limit (1.25 times the rating under carry) starts an excursion, a current at or below it ends it
into a 30 us hold-off; the combined limit acts at once above the limit in force (the short-time limit 1.30 times the
rating, the continuous limit during hold-off) and 10 us into an excursion above the continuous limit, and is reported
once per epoch; a phase current at its peak limit turns off that phase's high gate and is reported once per epoch; diode
emulation starts below 8 % and ends above 12 % of the rating; every 256 periods the balance trims move one step towards
equal phase currents within -31 to 31, 64 updates at an end are reported; every 64 periods the share trim moves one step
within -16 to 16. No other pan changes. (03_pan_leaf.md) -/
def Obligations.CurrentLimitsAndTrimsOfAPan : Prop :=
  ∀ (s : State) (n : Nat),
    let p := s.pan n
    let limit := (if p.par.carryPermit || p.par.carryAuto then 125 else 100) * (s.node n).rating
    (∀ i, s.isPan n = true → p.st.runs = true → p.excur = .none → limit < i →
      Does (.excursionStart n i) s [.pans] (PanBecomes s n { p with excur := .active, excurAt := s.now, limTrim := p.limNow s.now, limRel := none })) ∧
    (∀ i, p.excur = .active → i ≤ limit →
      Does (.excursionEnd n i) s [.pans] (PanBecomes s n { p with excur := .holdoff, excurAt := s.now, limRel := some (p.limRel.getD s.now) })) ∧
    (p.excur = .holdoff → Does (.excursionHoldoffExpiry n) s [.now, .pans] fun t =>
      PanBecomes s n { p with excur := .none } t ∧ t.now = max s.now (p.excurAt + 30 * usT)) ∧
    (∀ i, s.isPan n = true → p.st.runs = true → p.excur = .active → limit < i → i ≤ 130 * (s.node n).rating →
      Does (.excursionLimit n i) s [.now, .free, .links, .pans] fun t =>
        t.now = max s.now (p.excurAt + 10 * usT) ∧ (t.pan n).limTrim ≤ max 12 p.limTrim ∧ (t.pan n).limRel = none ∧ t.free = s.free + 1 ∧
        (t.pan n).sent.getLsbD 0 = true ∧ ∀ m, m ≠ n → t.pan m = s.pan m) ∧
    (∀ i, s.isPan n = true → p.st.runs = true → limit < i → (if p.excur = .holdoff then limit else 130 * (s.node n).rating) < i →
      Does (.excursionLimit n i) s [.now, .free, .links, .pans] fun t =>
        t.now = s.now ∧ (t.pan n).limTrim ≤ max 12 p.limTrim ∧ (t.pan n).limRel = none ∧ t.free = s.free + 1 ∧
        (t.pan n).sent.getLsbD 0 = true ∧ ∀ m, m ≠ n → t.pan m = s.pan m) ∧
    (∀ i, s.isPan n = true → p.st.runs = true → p.hga = true → s.peakLimit n ≤ i → p.sent.getLsbD 1 = false →
      Does (.peakLimitReached n .a i) s [.links, .pans] fun t =>
        PanBecomes s n { p with hga := false, lga := true, gapPs := p.deadPs, endOnA := nsOf s.now, peaks := p.peaks ||| 1, sent := p.sent ||| 2 } t ∧
        t.links = (s.sendEvent n 0x11 ((p.peaks ||| 1).setWidth 32)).links) ∧
    (∀ i, s.isPan n = true → p.st.runs = true → p.hgb = true → s.peakLimit n ≤ i → p.sent.getLsbD 1 = true →
      Does (.peakLimitReached n .b i) s [.links, .pans] fun t =>
        PanBecomes s n { p with hgb := false, lgb := true, gapPs := p.deadPs, endOnB := nsOf s.now, peaks := p.peaks ||| 2 } t ∧ t.links = s.links) ∧
    (∀ mean, s.isPan n = true → s.privPan n = false → p.st.runs = true → p.par.dePermit = true → p.armed ≠ 2 → p.excur ≠ .active →
      mean < 8 * (s.node n).rating → Does (.deEntry n mean) s [.pans] (PanBecomes s n { p with de := true })) ∧
    (∀ mean, p.de = true → 12 * (s.node n).rating < mean → Does (.deExitMean n mean) s [.pans] (PanBecomes s n { p with de := false })) ∧
    (∀ ia ib : Int, s.isPan n = true → p.st.runs = true → p.par.balance = true → p.de = false → p.bst = false → p.balAt + 256 ≤ p.periods →
      Does (.balanceUpdate n ia ib) s [.pans] fun t =>
        (ib < ia → (t.pan n).trimA = max (-31) (min (p.trimA - 1) 31) ∧ (t.pan n).trimB = max (-31) (min (p.trimB + 1) 31)) ∧
        (ia < ib → (t.pan n).trimA = max (-31) (min (p.trimA + 1) 31) ∧ (t.pan n).trimB = max (-31) (min (p.trimB - 1) 31)) ∧
        ∀ m, m ≠ n → t.pan m = s.pan m) ∧
    (64 ≤ p.satA → p.sent.getLsbD 4 = false → Does (.balanceTrimSaturated n .a) s [.links, .pans] fun t =>
      PanBecomes s n { p with sent := p.sent ||| 16 } t ∧ t.links = (s.sendEvent n 0x14 0).links) ∧
    (64 ≤ p.satB → p.sent.getLsbD 4 = false → Does (.balanceTrimSaturated n .b) s [.links, .pans] fun t =>
      PanBecomes s n { p with sent := p.sent ||| 16 } t ∧ t.links = (s.sendEvent n 0x14 1).links) ∧
    (∀ mean, s.isPan n = true → p.st = .run → p.starting = false → p.shareAt + 64 ≤ p.periods →
      Does (.shareTrimUpdate n mean) s [.pans] fun t =>
        (mean < s.effShare n → (t.pan n).shareTrim = max (-16) (min (p.shareTrim + 1) 16)) ∧
        (s.effShare n < mean → (t.pan n).shareTrim = max (-16) (min (p.shareTrim - 1) 16)) ∧
        t.pan n = { p with shareTrim := (t.pan n).shareTrim, shareAt := p.periods } ∧ ∀ m, m ≠ n → t.pan m = s.pan m)

/-- Droop fires boost and overshoot fires shunt when armed; each is released, limited and counted. For a pan: a voltage
below the armed droop threshold fires the comparator, ends diode emulation and fires boost within its count limit; boost
ends 2 mV above the threshold or at its conduction limit, which is reported, with its charge taken into account; a
voltage above the overshoot threshold fires the enabled comparator and stops both high gates, with the shunt unless a
boost is under way; the shunt ends 2 mV below the threshold or at its limit; both comparators fired fire neither, put
the pan on local sense and are reported (R96, R99). No other pan changes. (03_pan_leaf.md) -/
def Obligations.TransientCircuitsFireAndRelease : Prop :=
  ∀ (s : State) (n : Nat),
    let p := s.pan n
    let w := s.windowNow n
    (∀ v : Nat, s.isPan n = true → p.st.runs = true → p.armed ≠ 0 → p.droopFired = false → p.bst = false → p.shn = false → p.overFired = false →
      (v : Int) < 16 * (p.target - (if p.armed = 2 then p.par.droopPre else p.par.droopNorm)) →
      Does (.droopCrossing n v) s [.pans]
        (PanBecomes s n (if p.fired < p.par.boostMax then
            { p with droopFired := true, bst := true, fired := p.fired + 1, bstAt := s.now, de := false }
          else { p with droopFired := true, de := false }))) ∧
    (∀ v, p.armed = 0 → Does (.droopCrossing n v) s [] fun _ => True) ∧
    (∀ v ns : Nat, p.droopFired = true → p.bst = true → p.overFired = false → ns ≤ p.par.boostNs → 16 * (p.target - (p.droopMv - 2 : Nat)) ≤ (v : Int) →
      Does (.boostRecovery n v ns) s [.pans] (PanBecomes s n { p.addBoost w ns with bst := false, droopFired := false })) ∧
    (∀ v ns : Nat, p.droopFired = true → p.bst = false → p.overFired = false → 16 * (p.target - (p.droopMv - 2 : Nat)) ≤ (v : Int) →
      Does (.boostRecovery n v ns) s [.pans] (PanBecomes s n { p with bst := false, droopFired := false })) ∧
    (p.bst = true → p.overFired = false → p.sent.getLsbD 2 = false → Does (.boostConductionLimit n) s [.now, .links, .pans] fun t =>
      let at' := max s.now (p.bstAt + tickOf p.par.boostNs)
      t.now = at' ∧
      PanBecomes s n { p.addBoost (windowOf (s.node n).epochAt at') p.par.boostNs with bst := false, droopFired := false, sent := p.sent ||| 4 } t ∧
      t.links = ((s.reach at').sendEvent n 0x12 0).links) ∧
    (s.isPan n = true → p.par.boostMax ≤ p.fired → p.sent.getLsbD 2 = false → Does (.boostCountUsed n) s [.links, .pans] fun t =>
      PanBecomes s n { p with sent := p.sent ||| 4 } t ∧ t.links = (s.sendEvent n 0x12 1).links) ∧
    (∀ v : Nat, s.isPan n = true → p.st.runs = true → p.par.shuntEn = true → p.overFired = false → p.bst = false → p.droopFired = false →
      16 * (p.target + p.par.overshoot) < (v : Int) →
      Does (.overshootCrossing n v) s [.pans] (PanBecomes s n { p with overFired := true, shn := true, hga := false, hgb := false })) ∧
    (∀ v : Nat, s.isPan n = true → p.st.runs = true → p.par.shuntEn = true → p.overFired = false → p.bst = true →
      16 * (p.target + p.par.overshoot) < (v : Int) →
      Does (.overshootCrossing n v) s [.pans] (PanBecomes s n { p with overFired := true, hga := false, hgb := false })) ∧
    (∀ v : Nat, p.overFired = true → p.droopFired = false → (v : Int) ≤ 16 * (p.target + (p.par.overshoot - 2 : Nat)) →
      Does (.shuntRecovery n v) s [.pans] (PanBecomes s n { p with shn := false, overFired := false })) ∧
    (p.shn = true → p.droopFired = false → Does (.shuntConductionLimit n) s [.pans] (PanBecomes s n { p with shn := false, overFired := false })) ∧
    (p.droopFired = true → p.overFired = true → p.local_ = false → Does (.comparatorConflict n) s [.links, .pans] fun t =>
      PanBecomes s n { p.endBoost s.now w with
        shn := false, droopFired := false, overFired := false, local_ := true, localAt := s.now, usedLocal := true,
        contact := { p.contact with wholeRun := false }, sent := p.sent ||| 8 } t ∧
      t.links = (s.sendEvent n 0x13 1).links)

/-- On-times, frequency lock, target slews and the set-point models move one step at a time. An ordinary pan's comparator
fires while the sensed voltage with the injected ripple, its mean removed, is below the target with the trims, not
before the phase's minimum off-time of 0.60 ns; the on-time follows the ratio of target to bus voltage, the lock factor
and the phase trim, and is at least 0.40 ns; the phases alternate. A privileged pan's period of 8 ticks takes its on-
time from its compensator (a free value) with both bounds; the lock factor, updated every 64 periods, is a free value
within 3/4 to 5/4. Each slew step moves a pan's or rail's instantaneous value one unit towards its target at its slew
rate; the set-point models of regions and rails step likewise and mark the region at its set-point on arrival, releasing
the commands that waited for it. (03_pan_leaf.md, 04_bus_converter.md, 09_setpoints_glueup.md) -/
def Obligations.ModulatorsAndSlewsStep : Prop :=
  ∀ (s : State) (n : Nat),
    let p := s.pan n
    (∀ (vibs v ramp : Nat) (io : Int), s.isPan n = true → s.privPan n = false → p.st.runs = true → p.overFired = false → vibs ≠ 0 →
      (v : Int) + 16 * rippleMv p.par.ripple * (ramp % 256 : Nat) / 256 < 16 * p.target + 4 * p.trimNow s.now + 8 * rippleMv p.par.ripple →
      Does (.cotComparatorFire n vibs v ramp io) s [.now, .pans] fun t =>
        let a := max (nsOf s.now) ((if p.nextB then p.endOnB else p.endOnA) + 3 / 5)
        let ton := max ((16 * p.target : Int) / (vibs : Rat) * 1000 / (p.par.freq : Rat) * p.klock * (1 + (p.trimOf p.nextB : Rat) / 400)) (2 / 5)
        t.now = max s.now (tickOf a) ∧ PanBecomes s n { p.onTime p.nextB a ton io with vibs := vibs } t ∧ (t.pan n).ton = ton ∧
        (t.pan n).nextB = (!p.nextB) ∧ (t.pan n).hga = (!p.nextB) ∧ (t.pan n).hgb = p.nextB ∧
        (p.nextB = false → (t.pan n).lga = false) ∧ (p.nextB = true → (t.pan n).lgb = false)) ∧
    (∀ x vibs, s.isPan n = true → s.privPan n = true → p.st.runs = true → p.nextB = decide (x = .b) → p.overFired = false →
      Does (.voltageModePeriod n x vibs) s [.now, .free, .pans] fun t =>
        t.now = max s.now (p.vmAt + 8) ∧
        PanBecomes s n { p.onTime p.nextB (nsOf t.now) (t.pan n).ton 1 with vibs := vibs, vmAt := t.now } t ∧
        2 / 5 ≤ (t.pan n).ton ∧ (t.pan n).ton ≤ 20 / 3 - 3 / 5 ∧ t.free = s.free + 1) ∧
    (s.isPan n = true → s.privPan n = false → p.st.runs = true → p.de = false → p.lockAt + 64 ≤ p.periods →
      Does (.frequencyLockUpdate n) s [.free, .pans] fun t =>
        PanBecomes s n { p with klock := (t.pan n).klock, lockAt := p.periods } t ∧ 3 / 4 ≤ (t.pan n).klock ∧ (t.pan n).klock ≤ 5 / 4 ∧ t.free = s.free + 1) ∧
    (p.st ≠ .prebias → p.instSet ≠ p.par.setpt → Does (.slewStep (.panSet n)) s [.now, .links, .pans] fun t =>
      t.now = max s.now (p.setAt + slewT p.par.slew) ∧ (t.pan n).setAt = t.now ∧
      (p.instSet < p.par.setpt → (t.pan n).instSet = p.instSet + 1) ∧ ((p.par.setpt : Int) < p.instSet → (t.pan n).instSet = p.instSet - 1) ∧
      ∀ m, m ≠ n → t.pan m = s.pan m) ∧
    (p.instOff ≠ p.offTarget → Does (.slewStep (.panOff n)) s [.now, .links, .pans] fun t =>
      t.now = max s.now (p.offAt + slewT p.par.offslew) ∧ (t.pan n).offAt = t.now ∧
      (p.instOff < p.offTarget → (t.pan n).instOff = p.instOff + 1) ∧ (p.offTarget < p.instOff → (t.pan n).instOff = p.instOff - 1) ∧
      ∀ m, m ≠ n → t.pan m = s.pan m) ∧
    (∀ x, (s.rail x).inst ≠ s.railSet x → Does (.slewStep (.railSet x)) s [.now, .conv] fun t =>
      t.now = max s.now ((s.rail x).setAt + slewT (s.railSlew x)) ∧
      t.rail x = { s.rail x with inst := if (s.rail x).inst < s.railSet x then (s.rail x).inst + 1 else (s.rail x).inst - 1, setAt := t.now } ∧
      ∀ y, y ≠ x → t.rail y = s.rail y) ∧
    (∀ x, (s.rail x).off ≠ (s.rail x).offReq → Does (.slewStep (.railOff x)) s [.now, .conv] fun t =>
      t.now = max s.now ((s.rail x).offAt + slewT (s.railSlew x)) ∧
      t.rail x = { s.rail x with off := if (s.rail x).off < (s.rail x).offReq then (s.rail x).off + 1 else (s.rail x).off - 1, offAt := t.now } ∧
      ∀ y, y ≠ x → t.rail y = s.rail y) ∧
    (∀ r, s.hasReg r = true → (s.reg r).model < ((s.com.reg r).setpt : Int) - 1 →
      Does (.setPointModelStep (.region r)) s [.now, .regs] fun t =>
        t.now = max s.now ((s.reg r).modelAt + slewT (min (s.com.reg r).slew (s.com.reg r).slewmax)) ∧
        (t.reg r).model = (s.reg r).model + 1 ∧ (t.reg r).modelAt = t.now ∧ ∀ k, k ≠ r → (t.reg k).model = (s.reg k).model) ∧
    (∀ r, s.hasReg r = true → (s.reg r).model = ((s.com.reg r).setpt : Int) - 1 →
      Does (.setPointModelStep (.region r)) s [.now, .regs, .stg] fun t =>
        (t.reg r).model = (s.com.reg r).setpt ∧ (t.reg r).modelAt = t.now ∧ (t.reg r).atSet = true ∧ (t.reg r).modelAtSet = t.now ∧
        ∀ c ∈ t.stg.vcmds, ModelRef.region r ∉ c.targets) ∧
    (∀ x, (s.rail x).model ≠ s.railSet x → Does (.setPointModelStep (.rail x)) s [.now, .conv, .stg] fun t =>
      t.now = max s.now ((s.rail x).modelAt + slewT (s.railSlew x)) ∧
      t.rail x = { s.rail x with model := if (s.rail x).model < s.railSet x then (s.rail x).model + 1 else (s.rail x).model - 1, modelAt := t.now } ∧
      ∀ y, y ≠ x → t.rail y = s.rail y)

/-- A pan falls back to local sense, faults, ramps in through PREBIAS and SHADOW, holds and ramps out. For a pan: remote and
local sense more than 100 mV apart put it on local sense, reported, and 4,096 good cycles bring it back; a stage fault
stops every gate, counts the charge of a boost under way and is reported with the fault's rise and fall; PREBIAS ends
after 1,200 cycles in SHADOW, whose share climbs in 64 steps of 4 us to RUN; the ramp-out ends in OFF with the stage
disabled; an expired loop watchdog holds a running pan and is reported. Committed parameters are unchanged throughout,
and so is every other pan. At a pond, a stage-fault EVENT first on the link from a child pan is passed up and sets the
automatic carry of its neighbours. (03_pan_leaf.md) -/
def Obligations.PansPassThroughTheirStates : Prop :=
  ∀ (s : State) (n : Nat),
    let p := s.pan n
    (∀ rs vlo, s.isPan n = true → max rs vlo - min rs vlo ≤ 1600 →
      Does (.senseFallback n rs vlo) s [.links, .pans] fun t => PanBecomes s n { p with grid := rs, vlo := vlo } t ∧ t.links = s.links) ∧
    (∀ rs vlo, s.isPan n = true → 1600 < max rs vlo - min rs vlo → p.local_ = false →
      Does (.senseFallback n rs vlo) s [.links, .pans] fun t =>
        PanBecomes s n { p with
          grid := rs, vlo := vlo, local_ := true, localAt := s.now, usedLocal := true,
          contact := { p.contact with wholeRun := false }, sent := p.sent ||| 8 } t ∧ t.links = (s.sendEvent n 0x13 1).links) ∧
    (p.local_ = true → Does (.senseReturn n) s [.now, .links, .pans] fun t =>
      (PanBecomes s n { p with local_ := false, sent := p.sent ||| 8 } t ∧ t.links = ((s.reach (p.localAt + 4096 * cksT)).sendEvent n 0x13 0).links) ∧
      t.now = max s.now (p.localAt + 4096 * cksT)) ∧
    (s.isPan n = true → p.fltN = true → (p.st = .off ∨ p.st.runs = true) → Does (.panStageFault n) s [.links, .pans] fun t =>
      let q := t.pan n
      q.st = .faulted ∧ q.fltN = false ∧ q.en = true ∧ q.hga = false ∧ q.lga = false ∧ q.hgb = false ∧ q.lgb = false ∧
      q.bst = false ∧ q.shn = false ∧ q.par = p.par ∧ q.charge = (p.endBoost s.now (s.windowNow n)).charge ∧ (∀ m, m ≠ n → t.pan m = s.pan m) ∧
      t.links = (s.sendEvent n 0x15 1).links) ∧
    (s.isPan n = true → p.fltN = false → Does (.panStageFaultClear n) s [.links, .pans] fun t =>
      PanBecomes s n { p with fltN := true, sent := p.sent ||| 32 } t ∧ t.links = (s.sendEvent n 0x15 0).links) ∧
    (p.st = .prebias → p.rampOut = false → Does (.prebiasComplete n) s [.now, .pans] fun t =>
      t.now = max s.now (p.prebiasAt + 1200 * cksT) ∧ (t.pan n).st = .shadow ∧ (t.pan n).frac = 0 ∧ (t.pan n).rampAt = t.now ∧
      (t.pan n).par = p.par ∧ ∀ m, m ≠ n → t.pan m = s.pan m) ∧
    (p.st = .shadow → p.rampOut = false → p.frac < 63 → Does (.shadowRampStep n) s [.now, .pans] fun t =>
      t.now = max s.now (p.rampAt + 4 * usT) ∧ PanBecomes s n { p with frac := p.frac + 1, rampAt := t.now } t) ∧
    (p.st = .shadow → p.rampOut = false → p.frac = 63 → Does (.shadowRampStep n) s [.now, .pans] fun t =>
      t.now = max s.now (p.rampAt + 4 * usT) ∧ (t.pan n).st = .run ∧ (t.pan n).frac = 64 ∧ (t.pan n).par = p.par ∧
      ∀ m, m ≠ n → t.pan m = s.pan m) ∧
    (p.rampOut = true → Does (.rampOutComplete n) s [.now, .pans] fun t =>
      let q := t.pan n
      t.now = max s.now (p.rampAt + 16 * usT) ∧ q.st = .off ∧ q.en = false ∧ q.rampOut = false ∧ q.frac = 0 ∧
      q.hga = false ∧ q.lga = false ∧ q.hgb = false ∧ q.lgb = false ∧ q.par = p.par ∧ ∀ m, m ≠ n → t.pan m = s.pan m) ∧
    (p.par.loopWd = true → (p.st = .run ∨ p.st = .shadow) → p.overFired = false → Does (.panLoopWatchdogExpiry n) s [.now, .links, .pans] fun t =>
      let q := t.pan n
      t.now = max s.now (p.lastWrite + 6000 * cksT) ∧ q.st = .hold ∧ q.before = p.st ∧ q.bst = false ∧ q.frac = p.frac ∧ q.shn = p.shn ∧
      q.par = p.par ∧ (∀ m, m ≠ n → t.pan m = s.pan m) ∧ t.links = ((s.reach (p.lastWrite + 6000 * cksT)).sendEvent n 0x17 1).links) ∧
    (∀ c, n ≠ 0 → c ∈ s.children n → s.isPan c = true → (s.dir (s.upLink c) .up).holds (eventPkt (s.node c).id 0x15 1) = true → Does (.stageFaultEvent n c) s [.links] fun t =>
      let e := eventPkt (s.node c).id 0x15 1
      t.links = (((s.takeUp c e).sendUp n e).setCarry n c).links)

/-- Converters are calibrated, failed and replaced; windows fire and rearm; streams and reports are sent. For a pan: a
shadow run within limits moves the next coefficients of the shadowed converter by a bounded step; a failed conversion
check marks its converter failed, the spare takes its place at the boundary where it is free, and windows without a
converter are disabled; a fast window, judged on the corrected pair average, reports its first exit and counts later
ones, with code 0 on one converter, and rearms only inside both limits; a sample stream sends at its interval's end, in
stream order, the corrected average or the invalid code of a failed converter; the tally report clears the tally; a
contact baseline is reported when formed, and a suspect contact once. (05_telemetry.md, 03_pan_leaf.md,
15_faults_spares.md) -/
def Obligations.SenseConvertersAndWindowsAct : Prop :=
  ∀ (s : State) (n : Nat),
    let p := s.pan n
    let x := p.sense
    (∀ diff gdiff sdiff a b c d : Int, s.isPan n = true → p.st = .run → p.par.calEn = true → x.c = .spare → x.cFor = 0 → x.a ≠ .failed → x.b ≠ .failed →
      (x.runs + 1) % 64 ≠ 0 → x.shadowB = false → diff.natAbs ≤ 256 → x.updA < 31 →
      -512 < x.nextA.offset + clampI diff (-4) 4 → x.nextA.offset + clampI diff (-4) 4 < 511 →
      (x.endA.next (moveCoef p.par.skewFreeze diff gdiff sdiff x.nextA)).full = false →
      Does (.shadowRunEnd n diff gdiff sdiff a b c d) s [.now, .links, .pans] fun t =>
        t.now = max s.now (x.runAt + runT) ∧
        PanBecomes s n { p with sense := { x with
          runAt := t.now, runs := x.runs + 1, shadowB := true, updA := x.updA + 1, endA := x.endA.next (moveCoef p.par.skewFreeze diff gdiff sdiff x.nextA),
          nextA := moveCoef p.par.skewFreeze diff gdiff sdiff x.nextA, converged := false } } t ∧
        (t.pan n).sense.nextA.offset = x.nextA.offset + clampI diff (-4) 4 ∧ t.links = s.links) ∧
    (s.isPan n = true → x.d ≠ .failed → Does (.conversionCheckFailures n .d) s [.links, .pans] fun t =>
      PanBecomes s n { p with sense := { x with d := .failed, failedNow := true } } t ∧ t.links = (s.sendEvent n 0x24 (swapDetail x 0 true)).links) ∧
    (s.isPan n = true → x.a ≠ .failed → x.b ≠ .failed → x.c = .spare → x.cFor = 0 → x.swapA = false → x.swapB = false → x.lost = 0 →
      Does (.conversionCheckFailures n .a) s [.links, .pans] fun t =>
        PanBecomes s n { p with sense := { x with a := .failed, lost := 1, failedNow := true, swapA := true } } t ∧ t.links = s.links) ∧
    (s.isPan n = true → x.a = .failed → x.b ≠ .failed → x.c ≠ .spare → x.cFor = 0 → x.lost = 2 →
      Does (.conversionCheckFailures n .b) s [.links, .pans] fun t =>
        PanBecomes s n { p with
          sense := { x with b := .failed, lost := 3, failedNow := true, swapB := false },
          fast := { p.fast with st := .disabled }, slowV := { p.slowV with st := .disabled } } t) ∧
    (s.isPan n = true → x.a ≠ .failed → x.c ≠ .failed → x.cFor = 0 → x.lost = 0 → Does (.conversionCheckFailures n .c) s [.links, .pans] fun t =>
      PanBecomes s n { p with sense := { x with
        c := .failed, lost := 1, failedNow := true, swapA := false, swapB := false } } t) ∧
    (∀ ca cb : Nat, s.isPan n = true → p.fast.st = .armed → p.fast.sentFirst = false → x.working = 2 →
      (x.pairAvg (16 * ca) (16 * cb) : Int) < 16 * (p.target - p.par.fwBelow) →
      Does (.fastWindowExit n ca cb) s [.links, .pans] fun t =>
        let v := x.pairAvg (16 * ca) (16 * cb)
        PanBecomes s n { p with de := false, vExt := p.vExt.fold v, fast := { p.fast with st := .exitedLow, sentFirst := true } } t ∧
        t.links = (s.sendEvent n 0x20 (BitVec.ofNat 32 (256 + v % 65536 * 65536))).links) ∧
    (∀ ca cb : Nat, s.isPan n = true → p.fast.st = .armed → p.fast.sentFirst = true → ¬ (x.pairAvg (16 * ca) (16 * cb) : Int) < 16 * (p.target - p.par.fwBelow) →
      16 * (p.target + p.par.fwAbove) < (x.pairAvg (16 * ca) (16 * cb) : Int) → p.fast.count < 255 →
      Does (.fastWindowExit n ca cb) s [.links, .pans] fun t =>
        let v := x.pairAvg (16 * ca) (16 * cb)
        PanBecomes s n { p with de := false, vExt := p.vExt.fold v, fast := { p.fast with
          st := .exitedHigh, count := p.fast.count + 1, lowLast := false, code := if x.working < 2 then 0 else BitVec.ofNat 16 v } } t ∧
        t.links = s.links) ∧
    (∀ ca cb : Nat, p.fast.st = .exitedLow → 16 * (p.target - p.par.fwBelow + p.par.fwHyst) ≤ (x.pairAvg (16 * ca) (16 * cb) : Int) →
      (x.pairAvg (16 * ca) (16 * cb) : Int) ≤ 16 * (p.target + p.par.fwAbove) →
      Does (.fastWindowRearm n ca cb) s [.pans] (PanBecomes s n { p with
        fast := { p.fast with st := .armed }, vExt := p.vExt.fold (x.pairAvg (16 * ca) (16 * cb)) })) ∧
    (∀ ca cb : Nat, p.fast.st = .exitedHigh → (x.pairAvg (16 * ca) (16 * cb) : Int) ≤ 16 * (p.target + p.par.fwAbove - p.par.fwHyst) →
      16 * (p.target - p.par.fwBelow) ≤ (x.pairAvg (16 * ca) (16 * cb) : Int) →
      Does (.fastWindowRearm n ca cb) s [.pans] (PanBecomes s n { p with
        fast := { p.fast with st := .armed }, vExt := p.vExt.fold (x.pairAvg (16 * ca) (16 * cb)) })) ∧
    (∀ k ca cb cd cur delay, s.isPan n = true → k < 4 → p.par.streamInt.get 0 k ≠ 0 → p.par.streamKind.get 0 k = 1 → p.streamTurn k = true →
      Does (.sampleStreamInterval n k ca cb cd cur delay) s [.now, .links, .pans] fun t =>
        let e := p.streamAt.get 0 k + 240 * p.par.streamInt.get 0 k
        t.now = max s.now e ∧
        PanBecomes s n { p with streamAt := p.streamAt.set 0 k e } t ∧
        t.links = ((s.reach e).sendUp n (samplePkt (s.node n).id 1 (sampleWord (BitVec.ofNat 16 (x.pairAvg ca cb)) delay))).links) ∧
    (∀ k ca cb cd cur delay, s.isPan n = true → k < 4 → p.par.streamInt.get 0 k ≠ 0 → p.par.streamKind.get 0 k = 3 → x.d = .failed → p.streamTurn k = true →
      Does (.sampleStreamInterval n k ca cb cd cur delay) s [.now, .links, .pans] fun t =>
        t.links = ((s.reach (p.streamEnd k)).sendUp n (samplePkt (s.node n).id 3 (sampleWord 0x8000 delay))).links) ∧
    (s.isPan n = true → (s.node n).id ≠ 0 → (s.node n).epochNo.toNat % 32768 = (s.node n).id.toNat * 4 % 32768 →
      Does (.tallyReportInterval n) s [.links, .pans] (PanBecomes s n { p with tally := {} })) ∧
    (s.isPan n = true → p.contact.n = 1000 → p.contact.formed = false → p.contact.rb ≤ s.sys.image.rpmax → p.contact.rb < 65536 →
      Does (.contactBaselineFormed n) s [.links, .pans] fun t =>
        PanBecomes s n { p with contact := { p.contact with formed := true } } t ∧
        t.links = (s.sendEvent n 0x18 (BitVec.ofNat 32 (1 + 65536 * p.contact.rb))).links) ∧
    (s.isPan n = true → p.contact.n = 1000 → p.contact.formed = false → s.sys.image.rpmax < p.contact.rb → p.contact.rb < 65536 →
      Does (.contactBaselineFormed n) s [.links, .pans] fun t =>
        PanBecomes s n { p with contact := { p.contact with formed := true } } t ∧
        t.links = (s.sendEvent n 0x18 (BitVec.ofNat 32 (3 + 65536 * p.contact.rb))).links) ∧
    (s.isPan n = true → 64 ≤ p.contact.excess → p.contact.stopped = false → Does (.contactSuspect n) s [.links, .pans] fun t =>
      PanBecomes s n { p with contact := { p.contact with stopped := true } } t ∧ t.links = (s.sendEvent n 0x18 2).links)

/-- Node events, losses, window exits, tallies and samples reach the hub's records. Each report stands first on a link into
the node named. A pond passes an EVENT and a SAMPLE up. At the hub an alignment report marks the node and the pans below
it for resynchronisation; sense and converter reports set its view and tally; stage-fault and contact reports enter and
leave the loss window, and the loss response after 32 us retires the node. A faulted pan of a live region whose fault
input is high returns at most three times through a staged MODE; a maker fault order is staged after 16 epochs over the
cap. Window exits set the pending bit, the first pan and the count; tally reports add to one tally alone; a sample
reaches its input slot or is counted discarded; a set deferred four times is dropped with the sluice fault, which lasts
1 ms. (15_faults_spares.md, 05_telemetry.md, 06_mulith_engine.md) -/
def Obligations.NodeReportsReachTheFaultRecords : Prop :=
  ∀ (s : State),
    (∀ n src cause detail, n ≠ 0 → cause ≠ 0x15 → (s.fromBelow n (eventPkt src cause detail)).isSome = true → Does (.event n src cause detail) s [.links] fun t =>
      let p := eventPkt src cause detail
      t.links = ((s.takeInto n p).sendUp n p).links) ∧
    (∀ m src detail, s.nodeById src = some m → s.hubHas src 0x05 detail = true → Does (.event 0 src 0x05 detail) s [.nodes, .links] fun t =>
      t.node m = { s.node m with resyncDue := true } ∧
      (∀ k ∈ s.subtree m, s.isPan k = true → t.node k = { s.node k with resyncDue := true }) ∧
      (∀ k, k ≠ m → k ∉ s.subtree m → t.node k = s.node k) ∧
      t.links = (s.takeInto 0 (eventPkt src 0x05 detail)).links) ∧
    (∀ m src detail, s.nodeById src = some m → s.hubHas src 0x13 detail = true → Does (.event 0 src 0x13 detail) s [.links, .flt] fun t =>
      t.nflt m = { s.nflt m with local_ := bitOf detail 0 } ∧ ∀ k, k ≠ m → t.nflt k = s.nflt k) ∧
    (∀ m src detail, s.nodeById src = some m → s.hubHas src 0x24 detail = true → Does (.event 0 src 0x24 detail) s [.links, .flt] fun t =>
      t.nflt m = { s.nflt m with adcLost := ufield detail 0 2 } ∧ (∀ k, k ≠ m → t.nflt k = s.nflt k) ∧
      t.flt.tally.get 0 (tallyKey 0x0C 0 10) = s.flt.tally.get 0 (tallyKey 0x0C 0 10) + 1) ∧
    (∀ m src detail, s.nodeById src = some m → bitOf detail 0 = true → s.hubHas src 0x15 detail = true → Does (.lossReport src 0x15 detail) s [.links, .eng, .flt] fun t =>
      (t.nflt m).stflt = true ∧ (t.nflt m).st = .faulted ∧ (t.nflt m).outAt = none ∧ (t.nflt m).lost = true ∧ (t.nflt m).rcause = (s.nflt m).rcause ∧ (t.flt.losses.any fun x => decide (x.1 = m)) = true ∧
      t.flt.windowAt = some (s.flt.windowAt.getD s.now)) ∧
    (∀ m src detail, s.nodeById src = some m → bitOf detail 0 = false → s.hubHas src 0x15 detail = true → Does (.lossReport src 0x15 detail) s [.links, .flt] fun t =>
      t.nflt m = { s.nflt m with stflt := false, highAt := s.now } ∧ t.flt.losses = s.flt.losses) ∧
    (∀ m src rb, s.nodeById src = some m → rb < 65536 → s.hubHas src 0x18 (BitVec.ofNat 32 (1 + 65536 * rb)) = true →
      Does (.lossReport src 0x18 (BitVec.ofNat 32 (1 + 65536 * rb))) s [.links, .flt] fun t =>
        t.nflt m = { s.nflt m with base := true, rb := rb } ∧ t.flt.losses = s.flt.losses) ∧
    (∀ m src, s.nodeById src = some m → s.hubHas src 0x18 2 = true → Does (.lossReport src 0x18 2) s [.links, .eng, .flt] fun t =>
      (t.nflt m).lost = true ∧ (t.flt.losses.any fun x => decide (x.1 = m)) = true) ∧
    (∀ at_ n, s.flt.windowAt = some at_ → s.sys.ready = true → s.service = true → s.flt.losses = [(n, 3)] →
      Does .lossResponse s [.now, .stg, .flt, .ports] fun t =>
        t.now = max s.now (at_ + 32 * usT) ∧ t.flt.losses = [] ∧ t.flt.windowAt = none ∧ (t.nflt n).rcause = 3 ∧ (t.nflt n).contact = true) ∧
    (∀ n r, s.sys.ready = true → s.knownSt n = .faulted → (s.nflt n).stflt = false → (s.nflt n).rcause = 0 →
      (s.nflt n).returns < 3 → (s.nflt n).returning = 0 → (s.nflt n).keepOn = false → (s.flt.losses.any fun y => decide (y.1 = n)) = false →
      s.regionOf n = some r → (s.reg r).seq.st = .live →
      Does (.faultedPanReturn n) s [.now, .stg, .flt, .ports] fun t =>
        t.now = max s.now ((s.nflt n).highAt + msT) ∧
        t.nflt n = { s.nflt n with returning := 1, returns := (s.nflt n).returns + 1 } ∧
        ∃ w ∈ t.stg.queue, w.cw = .nodeMode n (s.hdrOf n) (BitVec.ofNat 32 (s.com.nodeMode.get modeReset n / 4 * 4))) ∧
    (∀ r, s.sys.ready = true → s.hasReg r = true → (s.com.reg r).state = .on → (s.com.reg r).forder = false →
      16 ≤ (s.reg r).overcap → Does (.faultOrder r) s [.stg, .flt, .ports] fun t => ∃ w ∈ t.stg.queue, w.cw = .faultOrder r) ∧
    (∀ m r src detail, s.nodeById src = some m → s.regionOf m = some r → bitOf detail 1 = false → (s.reg r).tel.wxFast = false → s.hubHas src 0x20 detail = true →
      Does (.windowExitPending src 0x20 detail) s [.links, .regs, .flt] fun t =>
        (t.reg r).tel.wxFast = true ∧ (t.reg r).tel.idFast = src ∧ (t.reg r).tel.exFast = min ((s.reg r).tel.exFast + 1) 65535 ∧
        t.hw.intcause.getLsbD 0 = true) ∧
    (∀ m r src detail, s.nodeById src = some m → s.regionOf m = some r → s.hubHas src 0x39 detail = true →
      Does (.tallyReport src 0x39 detail) s [.links, .flt] fun t =>
        let k := tallyKey 0x10 (s.rimg r).rail.idx 2
        t.flt.tally.get 0 k = s.flt.tally.get 0 k + detail.toNat ∧ ∀ j, j ≠ k → t.flt.tally.get 0 j = s.flt.tally.get 0 j) ∧
    (∀ n src kind value, n ≠ 0 → (s.fromBelow n (samplePkt src kind value)).isSome = true → Does (.sample n src kind value) s [.links] fun t =>
      t.links = ((s.takeInto n (samplePkt src kind value)).sendUp n (samplePkt src kind value)).links) ∧
    (∀ src kind value, kind ≠ 5 → (s.fromBelow 0 (samplePkt src kind value)).isSome = true → s.eng.slotsOf (.sample src.toNat kind.toNat) = [] →
      Does (.sample 0 src kind value) s [.links, .eng] fun t => t.eng.discarded = s.eng.discarded + 1) ∧
    (∀ src kind value k, kind ≠ 5 → (s.fromBelow 0 (samplePkt src kind value)).isSome = true → s.eng.slotsOf (.sample src.toNat kind.toNat) = [k] →
      Does (.sample 0 src kind value) s [.links, .eng] fun t => (t.eng.input.get {} k).value = value ∧ (t.eng.input.get {} k).stale = false) ∧
    ((∀ w ∈ s.stg.queue, w.defer < 4) → Does .setDeferralLimit s [] fun _ => True) ∧
    (∀ w ∈ s.stg.queue, s.stg.queue = [w] → 4 ≤ w.defer → (∀ h, w.cw ≠ .holding h) → Does .setDeferralLimit s [.stg, .tide, .flt, .ports] fun t =>
      t.stg.queue = [] ∧ t.flt.sluAt = some s.now) ∧
    (∀ at_, s.flt.sluAt = some at_ → Does .sluiceFaultExpiry s [.now, .flt] fun t => t.flt.sluAt = none ∧ t.now = max s.now (at_ + msT))

/-- The roll-up close takes each region's charge; windows, recomputation and snapshots follow. At the roll-up close (1,024
cycles) of an epoch after the first, the closed epoch, its generation and every region's charge are taken over and the
running sums restart; a second close in the epoch changes nothing. The calibration window of 125 roll-ups closes and
restarts; an allowance recomputation stages a set only where the result differs from the committed state; a filling
snapshot whose contents were taken at its roll-up becomes ready, its sequence number one higher, and raises its
interrupt cause (slot 4, the management core's, none). Other slots are unchanged. (05_telemetry.md, 11_budget_kerf.md,
19_register_map.md) -/
def Obligations.RollupsWindowsAndSnapshotsClose : Prop :=
  ∀ (s : State),
    (s.tel.closed = false → s.epoch ≠ 0 → Does .rollupClose s (partsOf .rollupClose) fun t =>
      t.now = max s.now (s.epochAt + 1024 * cksT) ∧ t.tel.closed = true ∧ t.tel.epoch = s.epoch - 1 ∧ t.tel.gen = s.tel.genWas ∧
      t.tel.rollups = s.tel.rollups + 1 ∧ t.free = s.free + 1 ∧
      ∀ r ∈ s.regions, (t.reg r).tel.inQ = 0 ∧ (t.reg r).tel.closed = true ∧
        (t.reg r).tel.charge = (s.reg r).tel.charge + (s.reg r).tel.inQ.setWidth 64) ∧
    (s.tel.closed = true → Does .rollupClose s [] fun _ => True) ∧
    (125 ≤ s.tel.rollups → s.sys.ready = true → Does .calibrationWindowClose s (partsOf .calibrationWindowClose) fun t =>
      t.tel = { s.tel with rollups := 0, winV := [], winI := [], winVin := 0, winE := s.tel.convFine } ∧
      (∀ r ∈ s.regions, (t.reg r).use.sumE = 0 ∧ (t.reg r).use.wInc = false)) ∧
    (s.sys.ready = true → s.service = true → s.recompWrites = [] → recompute s s.com = s.com →
      Does .allowanceRecomputation s [.bud] fun _ => True) ∧
    (s.sys.ready = true → s.service = true → s.recompWrites = [] → recompute s s.com ≠ s.com →
      Does .allowanceRecomputation s [.stg, .bud, .ports] fun t => ∃ w ∈ t.stg.queue, w.cw = .recompute) ∧
    (∀ slot, (s.tel.snaps.get {} slot).filling = true → (s.tel.snaps.get {} slot).got = true →
      Does (.snapshotReady slot) s [.tel] fun t =>
        t.tel.snaps.get {} slot = { s.tel.snaps.get {} slot with
          st := 2, filling := false, againAt := (s.now / cksT + 1) * cksT, seq := (s.tel.snaps.get {} slot).seq + 1 } ∧
        (slot ≠ 4 → t.hw.intcause.getLsbD 3 = true) ∧
        ∀ k, k ≠ slot → t.tel.snaps.get {} k = s.tel.snaps.get {} k)

/-- Timers and slots age, the scheduler dispatches, lanes are checked and replaced, memory is scrubbed. A timer tick comes
at its phase and period, writes its count to its slot and counts on; a slot not written for 65,536 cycles turns stale. A
dispatch gives a free lane the next loop with R0 to R3 set, all other registers and accumulators zero, the committed
view taken, the loop marked running and any engine-loss time cleared; a scribe runs at its own entry and keeps the
loop's pending triggers. An idle lane of a group with none in check goes to self-check and comes back as it was, or
fails and is replaced, or leaves its loop faulted where no spare is left; a retest ends in the spare pool or failed; a
lane register error aborts the run, makes the loop pending again and sends the lane to self-check. A corrected scrub
error changes nothing; an uncorrected one zeroes a state word with the loop's flag or queues an instruction rewrite.
(06_mulith_engine.md, 08_jigs.md) -/
def Obligations.SchedulerChecksLanesAndMemory : Prop :=
  ∀ (s : State),
    (∀ k b slot, s.eng.timerAt = some b → (s.eng.timers.get {} k).period ≠ 0 → k < 64 → s.eng.slotsOf (.timer k) = [slot] →
      Does (.engineTimerTick k) s [.now, .eng] fun t =>
        let x := s.eng.timers.get {} k
        t.now = max s.now (b + usT * (x.phase + x.ticks * x.period)) ∧
        (t.eng.input.get {} slot).value = BitVec.ofNat 32 (x.ticks + 1) ∧ (t.eng.input.get {} slot).stale = false ∧
        t.eng.timers.get {} k = { x with ticks := x.ticks + 1 }) ∧
    (∀ slot, (s.eng.input.get {} slot).stale = false → Does (.slotStale slot) s [.now, .eng] fun t =>
      t.eng = { s.eng with input := s.eng.input.set {} slot { s.eng.input.get {} slot with stale := true } } ∧
      t.now = max s.now (ckeT * ((s.eng.input.get {} slot).wrote + 65536))) ∧
    (∀ lane l dl, lane < 72 → s.eng.dispatching = true → (s.lane lane).st = .active → (s.lane lane).run = none → s.nextLoop = some (l, dl) →
      (s.ldyn l).scribeAt = none → (s.ldyn l).scribeFirst = false → (s.ldyn l).flags.getLsbD 5 = false →
      Does (.dispatch lane) s [.eng, .views, .sys] fun t =>
        let d := s.ldyn l
        (t.lane lane).run = some {
          loop := l, pc := (s.lent l).entry, scribe := false, closed := (s.com.loop l).closed, startAt := s.now + ckeT,
          first := d.firstInstant, posted := d.posted, deadline := dl, mask := d.pendMask } ∧
        t.mreg lane 0 = BitVec.ofNat 32 l ∧ t.mreg lane 1 = BitVec.ofNat 32 (s.lent l).sbase ∧ t.mreg lane 2 = d.pendMask.setWidth 32 ∧
        t.mreg lane 3 = BitVec.ofNat 32 (if d.pending then min (s.cke - d.firstInstant) 65535 else 0) ∧ (∀ k, 3 < k → t.mreg lane k = 0) ∧ (∀ k, t.macc lane k = 0) ∧ (∀ m, m ≠ lane → t.lane m = s.lane m) ∧
        t.ldyn l = { d with running := true, lastDisp := some s.now, pending := false, pendMask := 0 } ∧
        t.views.get {} lane = s.viewNow ∧ t.eng.lastRun = s.now ∧ t.sys = { s.sys with engStopAt := none }) ∧
    (∀ lane l dl at_, lane < 72 → s.eng.dispatching = true → (s.lane lane).st = .active → (s.lane lane).run = none → s.nextLoop = some (l, dl) →
      (s.ldyn l).scribeAt = some at_ → Does (.dispatch lane) s [.eng, .views, .sys] fun t =>
        (∃ r, (t.lane lane).run = some r ∧ r.loop = l ∧ r.pc = (s.lent l).scribe ∧ r.scribe = true ∧ r.boundary = true ∧ r.posted = at_) ∧
        (t.ldyn l).running = true ∧ (t.ldyn l).scribeAt = none ∧ (t.ldyn l).scribeFirst = false ∧ (t.ldyn l).pending = (s.ldyn l).pending ∧
        (t.ldyn l).pendMask = (s.ldyn l).pendMask) ∧
    (∀ lane, lane < 72 → ((s.lane lane).st = .active ∨ (s.lane lane).st = .spareSt) → (s.lane lane).run = none → s.groupBusy lane = false →
      Does (.selfCheckDue lane) s [.eng] (LaneBecomes s lane { s.lane lane with
        st := .check, wasSpare := decide ((s.lane lane).st = .spareSt), checkAt := s.now })) ∧
    (∀ lane, lane < 72 → (s.lane lane).st = .check → Does (.selfCheckComplete lane true) s [.now, .eng] fun t =>
      LaneBecomes s lane { s.lane lane with
        st := if (s.lane lane).wasSpare then .spareSt else .active, wasSpare := false, since := [] } t ∧
      t.now = max s.now ((s.lane lane).checkAt + ckeT * 512)) ∧
    (∀ lane, lane < 72 → (s.lane lane).st = .check → (s.lane lane).wasSpare = true → Does (.selfCheckComplete lane false) s [.now, .eng] fun t =>
      LaneBecomes s lane { s.lane lane with st := .failed, wasSpare := false, since := [] } t) ∧
    (∀ lane l, lane < 72 → (s.lane lane).st = .check → (s.lane lane).wasSpare = false → (s.lane lane).since = [l] → s.spareFor lane = none →
      Does (.selfCheckComplete lane false) s [.now, .eng, .flt] fun t =>
        LaneBecomes s lane { s.lane lane with st := .failed, since := [] } t ∧ (t.ldyn l).flags.getLsbD 5 = true) ∧
    (∀ lane, lane < 72 → (s.lane lane).st = .retest → (Does (.retestComplete lane true) s [.now, .eng]
        (LaneBecomes s lane { s.lane lane with st := .spareSt, since := [] })) ∧
      Does (.retestComplete lane false) s [.now, .eng] (LaneBecomes s lane { s.lane lane with st := .failed, since := [] })) ∧
    (∀ lane r, s.mrun lane = some r → r.boundary = false → Does (.laneRegisterError lane) s [.eng, .views, .flt] fun t =>
      s.now ≤ (t.lane lane).checkAt ∧
      LaneBecomes s lane { s.lane lane with run := none, st := .check, wasSpare := false, checkAt := (t.lane lane).checkAt } t ∧
      (t.ldyn r.loop).running = false ∧ (t.ldyn r.loop).pending = true ∧ (t.ldyn r.loop).pendMask = (s.ldyn r.loop).pendMask ||| r.mask ∧
      (t.ldyn r.loop).flags.getLsbD 5 = true) ∧
    (∀ m addr, Does (.scrubError m addr false) s [] fun _ => True) ∧
    (∀ addr, Does (.scrubError .coef addr true) s [] fun _ => True) ∧
    (∀ addr l, s.blockLoop addr = some l → Does (.scrubError .state addr true) s [.eng, .flt] fun t =>
      t.eng.state.get 0 addr = 0 ∧ (t.ldyn l).flags.getLsbD 3 = true ∧ ∀ k, k ≠ addr → t.eng.state.get 0 k = s.eng.state.get 0 k) ∧
    (∀ addr, addr < 8192 → Does (.scrubError .imem addr true) s [.eng, .views] fun t =>
      t.eng.badWords.contains addr = true ∧ t.eng.engMem = true) ∧
    (∀ addr, s.eng.badWords.contains addr = true → s.sys.coreRun = true → Does (.instructionRewrite addr) s [.eng] fun t =>
      t.eng.imem.get 0 addr = s.eng.imgCopy.get 0 addr ∧ t.eng.badWords = s.eng.badWords.erase addr)

/-- The register instructions of Mulith without saturation: result, operands read, cost, frame. For every lane whose run
stands at the word of the instruction and can still issue it: ADD, SUB, AND, OR, XOR, SHL, SHR, SRA, MIN, MAX, SLT,
SLTU, CLMP, MUL, ADDI, ANDI, ORI, XORI, LUI, SHLI, SHRI, SRAI, SLTI, EXT and INS complete with the destination register
holding the stated result, every other register and every accumulator unchanged, and the run advanced with the
instruction's cost and hazards. (07_mulith_isa.md, 06_mulith_engine.md) -/
def Obligations.RegisterArithmeticOfTheMulith : Prop :=
  ∀ (s : State) (lane : Nat) (r : Run),
    let a := fun k : Fin 32 => s.mreg lane k
    let sets := fun (x : Issue) (rd : Fin 32) (v : Word) => Issued s lane r x { s.lane lane with regs := (s.lane lane).regs.set 0 rd v }
    (∀ (rd ra rb : Fin 32), Issues s lane (encR 0x01 rd ra rb 0) {} r →
      Does (.mAdd lane rd ra rb) s [.now, .eng] (sets {} rd (a ra + a rb))) ∧
    (∀ (rd ra rb : Fin 32), Issues s lane (encR 0x02 rd ra rb 0) {} r →
      Does (.mSub lane rd ra rb) s [.now, .eng] (sets {} rd (a ra - a rb))) ∧
    (∀ (rd ra rb : Fin 32), Issues s lane (encR 0x05 rd ra rb 0) {} r →
      Does (.mAnd lane rd ra rb) s [.now, .eng] (sets {} rd (a ra &&& a rb))) ∧
    (∀ (rd ra rb : Fin 32), Issues s lane (encR 0x06 rd ra rb 0) {} r →
      Does (.mOr lane rd ra rb) s [.now, .eng] (sets {} rd (a ra ||| a rb))) ∧
    (∀ (rd ra rb : Fin 32), Issues s lane (encR 0x07 rd ra rb 0) {} r →
      Does (.mXor lane rd ra rb) s [.now, .eng] (sets {} rd (a ra ^^^ a rb))) ∧
    (∀ (rd ra rb : Fin 32), Issues s lane (encR 0x08 rd ra rb 0) {} r →
      Does (.mShl lane rd ra rb) s [.now, .eng] (sets {} rd (a ra <<< ((a rb).toNat % 32)))) ∧
    (∀ (rd ra rb : Fin 32), Issues s lane (encR 0x09 rd ra rb 0) {} r →
      Does (.mShr lane rd ra rb) s [.now, .eng] (sets {} rd (a ra >>> ((a rb).toNat % 32)))) ∧
    (∀ (rd ra rb : Fin 32), Issues s lane (encR 0x0A rd ra rb 0) {} r →
      Does (.mSra lane rd ra rb) s [.now, .eng] (sets {} rd ((a ra).sshiftRight ((a rb).toNat % 32)))) ∧
    (∀ (rd ra rb : Fin 32), Issues s lane (encR 0x0B rd ra rb 0) {} r →
      Does (.mMin lane rd ra rb) s [.now, .eng] (sets {} rd (if (a ra).toInt ≤ (a rb).toInt then a ra else a rb))) ∧
    (∀ (rd ra rb : Fin 32), Issues s lane (encR 0x0C rd ra rb 0) {} r →
      Does (.mMax lane rd ra rb) s [.now, .eng] (sets {} rd (if (a ra).toInt ≤ (a rb).toInt then a rb else a ra))) ∧
    (∀ (rd ra rb : Fin 32), Issues s lane (encR 0x0D rd ra rb 0) { reads := { regs := [ra.val, rb.val] } } r →
      Does (.mSlt lane rd ra rb) s [.now, .eng] (sets { reads := { regs := [ra.val, rb.val] } } rd (if (a ra).toInt < (a rb).toInt then 1 else 0))) ∧
    (∀ (rd ra rb : Fin 32), Issues s lane (encR 0x0E rd ra rb 0) { reads := { regs := [ra.val, rb.val] } } r →
      Does (.mSltu lane rd ra rb) s [.now, .eng] (sets { reads := { regs := [ra.val, rb.val] } } rd (if (a ra).toNat < (a rb).toNat then 1 else 0))) ∧
    (∀ (rd ra rb rc : Fin 32), Issues s lane (encR 0x0F rd ra rb rc) {} r →
      Does (.mClmp lane rd ra rb rc) s [.now, .eng] (sets {} rd (clmpW (a ra) (a rb) (a rc)))) ∧
    (∀ (rd ra rb : Fin 32), Issues s lane (encR 0x10 rd ra rb 0) { prod := .reg rd.val } r →
      Does (.mMul lane rd ra rb) s [.now, .eng] (sets { prod := .reg rd.val } rd (BitVec.ofInt 32 ((a ra).toInt * (a rb).toInt)))) ∧
    (∀ (rd ra : Fin 32) (imm : BitVec 16), Issues s lane (encI 0x18 rd ra imm.toNat) {} r →
      Does (.mAddi lane rd ra imm) s [.now, .eng] (sets {} rd (a ra + imm.signExtend 32))) ∧
    (∀ (rd ra : Fin 32) (imm : BitVec 16), Issues s lane (encI 0x19 rd ra imm.toNat) {} r →
      Does (.mAndi lane rd ra imm) s [.now, .eng] (sets {} rd (a ra &&& imm.setWidth 32))) ∧
    (∀ (rd ra : Fin 32) (imm : BitVec 16), Issues s lane (encI 0x1A rd ra imm.toNat) {} r →
      Does (.mOri lane rd ra imm) s [.now, .eng] (sets {} rd (a ra ||| imm.setWidth 32))) ∧
    (∀ (rd ra : Fin 32) (imm : BitVec 16), Issues s lane (encI 0x1B rd ra imm.toNat) {} r →
      Does (.mXori lane rd ra imm) s [.now, .eng] (sets {} rd (a ra ^^^ imm.setWidth 32))) ∧
    (∀ (rd : Fin 32) (imm : BitVec 16), Issues s lane (encI 0x1C rd 0 imm.toNat) {} r →
      Does (.mLui lane rd imm) s [.now, .eng] (sets {} rd (imm.setWidth 32 <<< 16))) ∧
    (∀ (rd ra n : Fin 32), Issues s lane (encI 0x1D rd ra n) {} r →
      Does (.mShli lane rd ra n) s [.now, .eng] (sets {} rd (a ra <<< n.val))) ∧
    (∀ (rd ra n : Fin 32), Issues s lane (encI 0x1E rd ra n) {} r →
      Does (.mShri lane rd ra n) s [.now, .eng] (sets {} rd (a ra >>> n.val))) ∧
    (∀ (rd ra n : Fin 32), Issues s lane (encI 0x1F rd ra n) {} r →
      Does (.mSrai lane rd ra n) s [.now, .eng] (sets {} rd ((a ra).sshiftRight n.val))) ∧
    (∀ (rd ra : Fin 32) (imm : BitVec 16), Issues s lane (encI 0x20 rd ra imm.toNat) { reads := { regs := [ra.val] } } r →
      Does (.mSlti lane rd ra imm) s [.now, .eng] (sets { reads := { regs := [ra.val] } } rd (if (a ra).toInt < imm.toInt then 1 else 0))) ∧
    (∀ (rd ra pos lenm1 : Fin 32) (signed : Bool), pos.val + lenm1.val + 1 ≤ 32 →
      Issues s lane (encI 0x21 rd ra (pos + lenm1 * 2 ^ 5 + bit1 signed * 2 ^ 10)) {} r →
      Does (.mExt lane rd ra pos lenm1 signed) s [.now, .eng] (sets {} rd (extW (a ra) pos (lenm1.val + 1) signed))) ∧
    (∀ (rd ra pos lenm1 : Fin 32), pos.val + lenm1.val + 1 ≤ 32 → Issues s lane (encI 0x22 rd ra (pos + lenm1 * 2 ^ 5)) {} r →
      Does (.mIns lane rd ra pos lenm1) s [.now, .eng] (sets {} rd (insW (a rd) (a ra) pos (lenm1.val + 1))))

/-- The saturating instructions of Mulith store the clamped result and raise SAT or OV when it was clamped. For every lane
whose run stands at the instruction: ADDS, SUBS, MULQ, DIVQ, ABSS, NEGS, SATI and AMOV store the 32-bit result clamped
to the range and raise the loop's SAT flag exactly when it was clamped; MAC, MSU, AADD, ASUB, ASHL, ANEG, CMAC and CMSU
do the same to an accumulator with OV. A coefficient index beyond the loop's length changes no accumulator and raises
the bounds flag. (07_mulith_isa.md, 06_mulith_engine.md) -/
def Obligations.SaturatingResultsRaiseTheirFlags : Prop :=
  ∀ (s : State) (lane : Nat) (r : Run),
    let a := fun k : Fin 32 => s.mreg lane k
    let acc := fun k : Fin 4 => s.macc lane k
    let L := s.lane lane
    let satResult := fun (x : Issue) (rd : Fin 32) (v : Word × Bool) (t : State) =>
      Issued s lane (if v.2 then { r with sat := true } else r) x { L with regs := L.regs.set 0 rd v.1 } t ∧ FlagRaised s r.loop 1 v.2 t
    let ovResult := fun (x : Issue) (k : Fin 4) (v : BitVec 64 × Bool) (t : State) =>
      Issued s lane (if v.2 then { r with ov := true } else r) x { L with accs := L.accs.set 0 k v.1 } t ∧ FlagRaised s r.loop 0 v.2 t
    let coef := fun i : Nat => (s.views.get {} lane).com.coef.get {} ((s.lent r.loop).cbase + i)
    (∀ rd ra rb : Fin 32, Issues s lane (encR 0x03 rd ra rb 0) {} r →
      Does (.mAdds lane rd ra rb) s [.now, .eng, .flt] (satResult {} rd (sat32 ((a ra).toInt + (a rb).toInt)))) ∧
    (∀ rd ra rb : Fin 32, Issues s lane (encR 0x04 rd ra rb 0) {} r →
      Does (.mSubs lane rd ra rb) s [.now, .eng, .flt] (satResult {} rd (sat32 ((a ra).toInt - (a rb).toInt)))) ∧
    (∀ rd ra rb sh : Fin 32, Issues s lane (encR 0x11 rd ra rb sh) { prod := .reg rd.val } r →
      Does (.mMulq lane rd ra rb sh) s [.now, .eng, .flt] (satResult { prod := .reg rd.val } rd (sat32 (rnd ((a ra).toInt * (a rb).toInt) sh)))) ∧
    (∀ rd ra rb sh : Fin 32, Issues s lane (encR 0x12 rd ra rb sh) { cost := 34 } r →
      Does (.mDivq lane rd ra rb sh) s [.now, .eng, .flt] (satResult { cost := 34 } rd (divqW (a ra) (a rb) sh))) ∧
    (∀ rd ra : Fin 32, Issues s lane (encR 0x13 rd ra 0 0) {} r →
      Does (.mAbss lane rd ra) s [.now, .eng, .flt] (satResult {} rd (sat32 (a ra).toInt.natAbs))) ∧
    (∀ rd ra : Fin 32, Issues s lane (encR 0x14 rd ra 0 0) {} r →
      Does (.mNegs lane rd ra) s [.now, .eng, .flt] (satResult {} rd (sat32 (-(a ra).toInt)))) ∧
    (∀ rd ra n : Fin 32, Issues s lane (encI 0x23 rd ra n) {} r →
      Does (.mSati lane rd ra n) s [.now, .eng, .flt] (satResult {} rd (satiW (a ra) n))) ∧
    (∀ (k : Fin 4) (ra rb : Fin 32), Issues s lane (encA 0x28 k ra rb) { prod := .accum k.val } r →
      Does (.mMac lane k ra rb) s [.now, .eng, .flt] (ovResult { prod := .accum k.val } k (sat64 ((acc k).toInt + (a ra).toInt * (a rb).toInt)))) ∧
    (∀ (k : Fin 4) (ra rb : Fin 32), Issues s lane (encA 0x29 k ra rb) { prod := .accum k.val } r →
      Does (.mMsu lane k ra rb) s [.now, .eng, .flt] (ovResult { prod := .accum k.val } k (sat64 ((acc k).toInt - (a ra).toInt * (a rb).toInt)))) ∧
    (∀ k j : Fin 4, Issues s lane (encG 2 k j 0 0) { reads := { accs := [k.val, j.val] } } r →
      Does (.mAadd lane k j) s [.now, .eng, .flt] (ovResult { reads := { accs := [k.val, j.val] } } k (sat64 ((acc k).toInt + (acc j).toInt)))) ∧
    (∀ k j : Fin 4, Issues s lane (encG 3 k j 0 0) { reads := { accs := [k.val, j.val] } } r →
      Does (.mAsub lane k j) s [.now, .eng, .flt] (ovResult { reads := { accs := [k.val, j.val] } } k (sat64 ((acc k).toInt - (acc j).toInt)))) ∧
    (∀ (k : Fin 4) (sh : BitVec 6), Issues s lane (encG 5 k 0 0 sh.toNat) { reads := { accs := [k.val] } } r →
      Does (.mAshl lane k sh) s [.now, .eng, .flt] (ovResult { reads := { accs := [k.val] } } k (sat64 ((acc k).toInt * 2 ^ sh.toNat)))) ∧
    (∀ k : Fin 4, Issues s lane (encG 10 k 0 0 0) { reads := { accs := [k.val] } } r →
      Does (.mAneg lane k) s [.now, .eng, .flt] (ovResult { reads := { accs := [k.val] } } k (sat64 (-(acc k).toInt)))) ∧
    (∀ (rd : Fin 32) (k : Fin 4) (sh : BitVec 6), Issues s lane (encG 6 k 0 rd sh.toNat) { reads := { accs := [k.val] } } r →
      Does (.mAmov lane rd k sh) s [.now, .eng, .flt] (satResult { reads := { accs := [k.val] } } rd (sat32 (rnd (acc k).toInt sh.toNat)))) ∧
    (∀ (k : Fin 4) (rr rk : Fin 32) (x : Bool) (i : BitVec 12), (x = true ∨ rk = 0) →
      i.toNat + (if x then (a rk).toNat else 0) < (s.lent r.loop).clen → Issues s lane (encC 0x2A k rr rk 0 (bit1 x) i.toNat) { prod := .accum k.val } r →
      Does (.mCmac lane k rr rk x i) s [.now, .eng, .flt]
        (ovResult { prod := .accum k.val } k (cmacW (acc k) (a rr) (coef (i.toNat + (if x then (a rk).toNat else 0))) false))) ∧
    (∀ (k : Fin 4) (rr rk : Fin 32) (x : Bool) (i : BitVec 12), (x = true ∨ rk = 0) →
      i.toNat + (if x then (a rk).toNat else 0) < (s.lent r.loop).clen → Issues s lane (encC 0x2B k rr rk 0 (bit1 x) i.toNat) { prod := .accum k.val } r →
      Does (.mCmsu lane k rr rk x i) s [.now, .eng, .flt]
        (ovResult { prod := .accum k.val } k (cmacW (acc k) (a rr) (coef (i.toNat + (if x then (a rk).toNat else 0))) true))) ∧
    (∀ (k : Fin 4) (rr rk : Fin 32) (x : Bool) (i : BitVec 12), (x = true ∨ rk = 0) →
      (s.lent r.loop).clen ≤ i.toNat + (if x then (a rk).toNat else 0) → Issues s lane (encC 0x2A k rr rk 0 (bit1 x) i.toNat) { prod := .accum k.val } r →
      Does (.mCmac lane k rr rk x i) s [.now, .eng, .flt] fun t => Issued s lane r { prod := .accum k.val } L t ∧ FlagRaised s r.loop 2 true t)

/-- Loads, stores and reads of a Mulith run take the words of its own regions; outside them they read zero. For every lane
whose run stands at the instruction: CLD, ACLR, ALD, ASRA, AHI, ALO, APUT, LDS, STS, LDI, LDT, LDO, LDH, CSR and the
version reads complete with the stated value in their destination; STS writes exactly one word of the loop's state
block; an index beyond the loop's coefficients, state or bound outputs reads as zero (a store writes nothing) and raises
the bounds flag. (07_mulith_isa.md, 06_mulith_engine.md) -/
def Obligations.LoadsStoresAndReadsOfARun : Prop :=
  ∀ (s : State) (lane : Nat) (r : Run),
    let a := fun k : Fin 32 => s.mreg lane k
    let acc := fun k : Fin 4 => s.macc lane k
    let L := s.lane lane
    let e := s.lent r.loop
    let cycle := max s.now (r.startAt + ckeT * r.slots) / ckeT
    let slot := fun (k : Nat) (what : Fin 3) =>
      let x := s.eng.input.get {} k
      if what = 0 then x.value
      else if what = 1 then (if x.stale then 65535 else BitVec.ofNat 32 (min ((cycle + 2 ^ 32 - x.instant.toNat) % 2 ^ 32) 65535))
      else x.instant
    let coef := fun i : Nat => (s.views.get {} lane).com.coef.get {} (e.cbase + i)
    let setReg := fun (x : Issue) (rd : Fin 32) (v : Word) => Issued s lane r x { L with regs := L.regs.set 0 rd v }
    let setAcc := fun (x : Issue) (k : Fin 4) (v : BitVec 64) => Issued s lane r x { L with accs := L.accs.set 0 k v }
    let zeroed := fun (x : Issue) (rd : Fin 32) (t : State) =>
      Issued s lane r x { L with regs := L.regs.set 0 rd 0 } t ∧ FlagRaised s r.loop 2 true t
    (∀ (rr rk : Fin 32) (f x : Bool) (i : BitVec 12), (x = true ∨ rk = 0) → Issues s lane (encC 0x2C 0 rr rk (bit1 f) (bit1 x) i.toNat) {} r →
      let j := i.toNat + (if x then (a rk).toNat else 0)
      (j < e.clen → Does (.mCld lane rr rk f x i) s [.now, .eng]
        (setReg {} rr (if f then BitVec.ofInt 32 (coef j).shift else (coef j).value))) ∧
      (e.clen ≤ j → Does (.mCld lane rr rk f x i) s [.now, .eng, .flt] (zeroed {} rr))) ∧
    (∀ k : Fin 4, Issues s lane (encG 0 k 0 0 0) {} r → Does (.mAclr lane k) s [.now, .eng] (setAcc {} k 0)) ∧
    (∀ (k : Fin 4) (rr : Fin 32) (sh : BitVec 6), sh.toNat ≤ 32 → Issues s lane (encG 1 k 0 rr sh.toNat) {} r →
      Does (.mAld lane k rr sh) s [.now, .eng] (setAcc {} k (BitVec.ofInt 64 ((a rr).toInt * 2 ^ sh.toNat)))) ∧
    (∀ (k : Fin 4) (sh : BitVec 6), Issues s lane (encG 4 k 0 0 sh.toNat) { reads := { accs := [k.val] } } r →
      Does (.mAsra lane k sh) s [.now, .eng] (setAcc { reads := { accs := [k.val] } } k (BitVec.ofInt 64 (rnd (acc k).toInt sh.toNat)))) ∧
    (∀ (rd : Fin 32) (k : Fin 4), Issues s lane (encG 7 k 0 rd 0) { reads := { accs := [k.val] } } r →
      Does (.mAhi lane rd k) s [.now, .eng] (setReg { reads := { accs := [k.val] } } rd (BitVec.ofNat 32 ((acc k).toNat / 2 ^ 32)))) ∧
    (∀ (rd : Fin 32) (k : Fin 4), Issues s lane (encG 8 k 0 rd 0) { reads := { accs := [k.val] } } r →
      Does (.mAlo lane rd k) s [.now, .eng] (setReg { reads := { accs := [k.val] } } rd (BitVec.ofNat 32 (acc k).toNat))) ∧
    (∀ (k : Fin 4) (rr rb : Fin 32), Issues s lane (encG 9 k 0 rr rb) {} r →
      Does (.mAput lane k rr rb) s [.now, .eng] (setAcc {} k (BitVec.ofNat 64 ((a rr).toNat * 2 ^ 32 + (a rb).toNat)))) ∧
    (∀ (rd ra : Fin 32) (off : BitVec 10), Issues s lane (encM 0x30 rd ra off.toNat) {} r →
      let j := (a ra).toNat + off.toNat
      (j < e.slen → Does (.mLds lane rd ra off) s [.now, .eng] (setReg {} rd (s.eng.state.get 0 (e.sbase + j)))) ∧
      (e.slen ≤ j → Does (.mLds lane rd ra off) s [.now, .eng, .flt] (zeroed {} rd))) ∧
    (∀ (rs ra : Fin 32) (off : BitVec 10), Issues s lane (encM 0x31 rs ra off.toNat) {} r →
      let j := (a ra).toNat + off.toNat
      (j < e.slen → Does (.mSts lane rs ra off) s [.now, .eng] fun t =>
        Issued s lane r {} L t ∧ t.eng.state = s.eng.state.set 0 (e.sbase + j) (a rs)) ∧
      (e.slen ≤ j → Does (.mSts lane rs ra off) s [.now, .eng, .flt] fun t =>
        Issued s lane r {} L t ∧ FlagRaised s r.loop 2 true t ∧ t.eng.state = s.eng.state)) ∧
    (∀ (rd ra : Fin 32) (what : Fin 3) (imm : BitVec 14), Issues s lane (encS_ rd ra what imm.toNat) {} r →
      Does (.mLdi lane rd ra what imm) s [.now, .eng] (setReg {} rd (slot (((a ra).toNat + imm.toNat) % 16384) what))) ∧
    (∀ (rd : Fin 32) (k : Fin 8) (what : Fin 3), Issues s lane (encT rd k what) {} r →
      (e.tvalid.getLsbD k = true → Does (.mLdt lane rd k what) s [.now, .eng] (setReg {} rd (slot (e.trigs.get 0 k) what))) ∧
      (e.tvalid.getLsbD k = false → Does (.mLdt lane rd k what) s [.now, .eng, .flt] (zeroed {} rd))) ∧
    (∀ (rd ra : Fin 32) (what : Fin 2) (b : Fin 4) (l : BitVec 13), Issues s lane (encO rd ra what b l.toNat) {} r →
      let q := ((a ra).toNat + l.toNat) % 8192
      let o := s.eng.outs.get {} (4 * q + b)
      let bound := (s.lent q).used = true ∧ ((s.lent q).binds.get 0 b).toNat / 2 ^ 28 ≠ 0
      (bound → Does (.mLdo lane rd ra what b l) s [.now, .eng] (setReg {} rd (if what = 0 then o.value else BitVec.ofNat 32 o.age))) ∧
      (¬ bound → Does (.mLdo lane rd ra what b l) s [.now, .eng, .flt] (zeroed {} rd))) ∧
    (∀ (rd ra : Fin 32) (imm : BitVec 16), Issues s lane (encI 0x35 rd ra imm.toNat) { cost := 2 } r →
      (∀ v, s.hubItem lane (((a ra).toNat + imm.toNat) % 65536) = some v → Does (.mLdh lane rd ra imm) s [.now, .eng] (setReg { cost := 2 } rd v)) ∧
      (s.hubItem lane (((a ra).toNat + imm.toNat) % 65536) = none → Does (.mLdh lane rd ra imm) s [.now, .eng, .flt] (zeroed { cost := 2 } rd))) ∧
    (∀ rd : Fin 32, Issues s lane (encY 0 rd) {} r → Does (.mRfl lane rd) s [.now, .eng] (setReg {} rd (BitVec.ofNat 32 (b2n r.ov + 2 * b2n r.sat)))) ∧
    (∀ rd : Fin 32, Issues s lane (encY 1 rd) {} r → Does (.mRflc lane rd) s [.now, .eng]
      (Issued s lane { r with ov := false, sat := false } {} { L with regs := L.regs.set 0 rd (BitVec.ofNat 32 (b2n r.ov + 2 * b2n r.sat)) })) ∧
    (∀ rd : Fin 32, Issues s lane (encY 2 rd) {} r → Does (.mLfl lane rd) s [.now, .eng] (setReg {} rd ((s.ldyn r.loop).flags.setWidth 32))) ∧
    (∀ rd : Fin 32, Issues s lane (encY 3 rd) {} r → Does (.mCyc lane rd) s [.now, .eng] (setReg {} rd (BitVec.ofNat 32 r.slots))) ∧
    (∀ rd : Fin 32, Issues s lane (encY 4 rd) {} r → Does (.mNow lane rd) s [.now, .eng] (setReg {} rd (BitVec.ofNat 32 cycle))) ∧
    (∀ rd : Fin 32, Issues s lane (encY 5 rd) {} r →
      Does (.mSysMode lane rd) s [.now, .eng] (setReg {} rd (BitVec.ofNat 32 (b2n r.scribe + 2 * b2n r.closed)))) ∧
    (Issues s lane (encZ 0x3E) {} r → Does (.mNop lane) s [.now, .eng] (Issued s lane r {} L))

/-- Branches, calls, hardware loops, outputs and the ends of a run move the pc and the loop as stated. For every lane whose
run stands at the instruction: branches, jumps, calls, returns, the repeat instructions and no-operation move the run's
pc as stated; OUT gives the bound output its value and marks it sent; END, FAULT and the exhausted run limit end the run
with the loop, the lane and the flags as stated; the stage and post instructions act once. (07_mulith_isa.md,
06_mulith_engine.md, 08_jigs.md) -/
def Obligations.ControlFlowAndRunEnds : Prop :=
  ∀ (s : State) (lane : Nat) (r : Run),
    let a := fun k : Fin 32 => s.mreg lane k
    let L := s.lane lane
    let ended := fun (t : State) =>
      LaneBecomes s lane { L with run := none } t ∧ (t.ldyn r.loop).running = false ∧ t.views.get {} lane = {}
    (∀ (ra rb : Fin 32) (t : BitVec 13),
      let x := brIssue [ra.val, rb.val] (decide (a ra = a rb)) t
      Issues s lane (encB 0 ra rb t.toNat) x r → Does (.mBeq lane ra rb t) s [.now, .eng] (Issued s lane r x L)) ∧
    (∀ (ra rb : Fin 32) (t : BitVec 13),
      let x := brIssue [ra.val, rb.val] (decide (a ra ≠ a rb)) t
      Issues s lane (encB 1 ra rb t.toNat) x r → Does (.mBne lane ra rb t) s [.now, .eng] (Issued s lane r x L)) ∧
    (∀ (ra rb : Fin 32) (t : BitVec 13),
      let x := brIssue [ra.val, rb.val] (decide ((a ra).toInt < (a rb).toInt)) t
      Issues s lane (encB 2 ra rb t.toNat) x r → Does (.mBlt lane ra rb t) s [.now, .eng] (Issued s lane r x L)) ∧
    (∀ (ra rb : Fin 32) (t : BitVec 13),
      let x := brIssue [ra.val, rb.val] (decide ((a rb).toInt ≤ (a ra).toInt)) t
      Issues s lane (encB 3 ra rb t.toNat) x r → Does (.mBge lane ra rb t) s [.now, .eng] (Issued s lane r x L)) ∧
    (∀ (ra rb : Fin 32) (t : BitVec 13),
      let x := brIssue [ra.val, rb.val] (decide ((a ra).toNat < (a rb).toNat)) t
      Issues s lane (encB 4 ra rb t.toNat) x r → Does (.mBltu lane ra rb t) s [.now, .eng] (Issued s lane r x L)) ∧
    (∀ (ra rb : Fin 32) (t : BitVec 13),
      let x := brIssue [ra.val, rb.val] (decide ((a rb).toNat ≤ (a ra).toNat)) t
      Issues s lane (encB 5 ra rb t.toNat) x r → Does (.mBgeu lane ra rb t) s [.now, .eng] (Issued s lane r x L)) ∧
    (∀ (ra n : Fin 32) (t : BitVec 13),
      let x := brIssue [ra.val] ((a ra).getLsbD n) t
      Issues s lane (encB 6 ra n t.toNat) x r → Does (.mBbs lane ra n t) s [.now, .eng] (Issued s lane r x L)) ∧
    (∀ (ra n : Fin 32) (t : BitVec 13),
      let x := brIssue [ra.val] (!(a ra).getLsbD n) t
      Issues s lane (encB 7 ra n t.toNat) x r → Does (.mBbc lane ra n t) s [.now, .eng] (Issued s lane r x L)) ∧
    (∀ t : BitVec 13, Issues s lane (encJ 0 t.toNat) { cost := 2, flow := .jump t.toNat, xfer := .jump t.toNat } r →
      Does (.mJmp lane t) s [.now, .eng] (Issued s lane r { cost := 2, flow := .jump t.toNat, xfer := .jump t.toNat } L)) ∧
    (∀ t : BitVec 13, Issues s lane (encJ 1 t.toNat) { cost := 2, flow := .call t.toNat, xfer := .call t.toNat } r →
      Does (.mCall lane t) s [.now, .eng] (Issued s lane r { cost := 2, flow := .call t.toNat, xfer := .call t.toNat } L)) ∧
    (Issues s lane (encJ 2 0) { cost := 2, flow := .ret, xfer := .ret } r → Does (.mRet lane) s [.now, .eng] (Issued s lane r { cost := 2, flow := .ret, xfer := .ret } L)) ∧
    (∀ (cnt : BitVec 10) (last : BitVec 13),
      let f := Flow.openBody last.toNat (cnt.toNat + 1)
      Issues s lane (encL cnt.toNat last.toNat) { flow := f, xfer := f } r →
      Does (.mLoop lane cnt last) s [.now, .eng] (Issued s lane r { flow := f, xfer := f } L)) ∧
    (∀ (ra : Fin 32) (mx : BitVec 8) (last : BitVec 13),
      let n := (max 0 (min (a ra).toInt (mx.toNat + 1))).toNat
      let f := if n = 0 then Flow.skip last.toNat else Flow.openBody last.toNat n
      let x : Issue := { cost := if n = 0 then 2 else 1, reads := { regs := [ra.val] }, flow := f, xfer := f }
      Issues s lane (encLR ra mx.toNat last.toNat) x r → Does (.mLoopr lane ra mx last) s [.now, .eng] (Issued s lane r x L)) ∧
    (∀ (x : Issue) (t : Nat), x.flow = .jump t → (r.after x).pc = t ∧ (r.after x).bodies = popPast t r.bodies ∧ (r.after x).calls = r.calls) ∧
    (∀ (x : Issue) (t : Nat), x.flow = .call t → (r.after x).pc = t ∧ (r.after x).calls = (r.pc + 1) :: r.calls) ∧
    (∀ (x : Issue) (p : Nat) (rest : List Nat), x.flow = .ret → r.calls = p :: rest → (r.after x).pc = p ∧ (r.after x).calls = rest) ∧
    (∀ (x : Issue) (last n : Nat), x.flow = .openBody last n →
      (r.after x).pc = r.pc + 1 ∧ (r.after x).bodies = { first := r.pc + 1, last := last, left := n } :: r.bodies) ∧
    (∀ (x : Issue) (b : Body) (rest : List Body), x.flow = .seq → r.bodies = b :: rest →
      (r.pc ≠ b.last → (r.after x).pc = r.pc + 1 ∧ (r.after x).bodies = r.bodies) ∧
      (r.pc = b.last → 1 < b.left → (r.after x).pc = b.first ∧ (r.after x).bodies = { b with left := b.left - 1 } :: rest) ∧
      (r.pc = b.last → b.left ≤ 1 → rest = [] → (r.after x).pc = r.pc + 1 ∧ (r.after x).bodies = [])) ∧
    (Issues s lane (encZ 0x3F) { flow := .stop } r → Does (.mEnd lane) s [.now, .eng, .views, .flt] fun t =>
      ended t ∧ t.now = max s.now (r.startAt + ckeT * (r.slots + 1)) ∧
      (r.deadline < t.now / ckeT → (t.ldyn r.loop).flags.getLsbD 6 = true)) ∧
    (∀ (b : Fin 4) (ra : Fin 32), Issues s lane (encU b ra) {} r → r.scribe = true → Does (.mOut lane b ra) s [.now, .eng] (Issued s lane r {} L)) ∧
    (∀ (b : Fin 4) (ra : Fin 32), Issues s lane (encU b ra) {} r → r.scribe = false → ((s.lent r.loop).binds.get 0 b).toNat / 2 ^ 28 = 0 →
      Does (.mOut lane b ra) s [.now, .eng, .flt] fun t => Issued s lane r {} L t ∧ FlagRaised s r.loop 2 true t) ∧
    (∀ (b : Fin 4) (ra : Fin 32), Issues s lane (encU b ra) {} r → r.scribe = false → ((s.lent r.loop).binds.get 0 b).toNat / 2 ^ 28 ≠ 0 →
      Does (.mOut lane b ra) s (partsOf (.mOut lane b ra)) fun t =>
        let bind := (s.lent r.loop).binds.get 0 b
        let o := t.eng.outs.get {} (4 * r.loop + b)
        Issued s lane r {} L t ∧ o.value = a ra ∧ o.sent = r.closed ∧ o.age = min ((t.now / ckeT + 2 ^ 32 - r.first % 2 ^ 32) % 2 ^ 32) 65535 ∧
        (r.closed = true → o.lastSent = a ra) ∧
        (bind.toNat / 2 ^ 28 = 6 → t.eng.mbox.get 0 (bind.toNat % 4096) = o.lastSent)) ∧
    (∀ i, s.mrun lane = some r → s.legalAt lane r = some i → (s.lent r.loop).limit < r.slots + needOf (s.mreg lane) r.prod i →
      Does (.runLimit lane) s [.now, .eng, .views, .flt] fun t =>
        ended t ∧ (t.ldyn r.loop).flags.getLsbD 4 = true ∧ t.now = max s.now (r.startAt + ckeT * (s.lent r.loop).limit)) ∧
    (s.mrun lane = some r → s.eng.badWords.contains r.pc = false → s.legalAt lane r = none → r.slots < (s.lent r.loop).limit →
      Does (.illegalInstruction lane) s [.now, .eng, .views, .flt] fun t =>
        ended t ∧ (t.ldyn r.loop).flags.getLsbD 2 = true ∧ t.now = max s.now (r.startAt + ckeT * r.slots)) ∧
    (s.mrun lane = some r → s.eng.badWords.contains r.pc = true →
      Does (.illegalInstruction lane) s [.eng, .views] fun t => ended t ∧ (t.ldyn r.loop).flags = (s.ldyn r.loop).flags)

/-- Host writes of committed state pass the role check, take the next ticket and wait for glue-up. For a host of role r with
the management core ready and the queues below their limits: each of the 23 host commands that write committed state
(loop opening, closing and coefficients, set-points, orders, phase commands, caps, ledger and tide settings and FREEZE),
whose register asks no higher role, whose value the firmware check accepts and whose packets alone fit a set of 96,
completes with the write staged under the next ticket and with nothing else staged. That the write is served in the step
of its arrival is the model's choice (log entry 11). (16_firmware_host.md, 19_register_map.md, 09_setpoints_glueup.md) -/
def Obligations.HostWritesOfCommittedStateTakeTickets : Prop :=
  ∀ (s : State) (r : Role) (v : Word) (b : Fin 4) (slot : BitVec 2) (n : Fin 40) (high : Bool), s.HostServed r → s.QueueOpen → s.hw.wrbnd = 0 →
    (∀ c ∈ (
   [(.loopOpen, 0xC04, 0), (.loopClose, 0xC04, 1), (.loopman b v, 0xC20 + 4 * b.val, v), (.coefval v, 0xC14, v),
   (.rvreq v, 0x1080, v), (.vibset v, 0x300, v), (.qset v, 0x35C, v), (.orderNone slot, 0x1098, rsord 0 slot),
   (.orderOn slot, 0x1098, rsord 1 slot), (.orderOff slot, 0x1098, rsord 2 slot), (.orderRetention slot, 0x1098, rsord 3 slot),
   (.orderPurge slot, 0x1098, rsord 4 slot), (.phcmdAdmit n.val, 0x380 + 4 * n.val, 1), (.phcmdRetire n.val, 0x380 + 4 * n.val, 2),
   (.dcapop v, 0x200, v), (.dcapin v, 0x204, v), (.dcapmk v, 0x208, v), (.ledenSet, 0x608, 1), (.ledenClear, 0x608, 0),
   (.ledbase high v, if high then 0x604 else 0x600, v), (.ten v, 0x82C, v), (.expinc v, 0x864, v)] : List (Instr × Nat × Word)), ∀ need, wkind c.2.1 = .ticket need → (s.needRole c.2.1 (s.hw.selOf c.2.1) c.2.2 need).rank ≤ r.rank →
      s.fwCheck c.2.1 (s.hw.selOf c.2.1) c.2.2 = true →
      (let k : CW := HWrite.cw { off := c.2.1, sel := s.hw.selOf c.2.1, v := c.2.2, aux := s.hw.coefsh, role := r }
       s.Fits { cw := k, src := .host, ticket := some s.stg.tkNext.toNat, role := r.rank }) →
      Does c.1 s [.stg, .hw, .ports] (HostStaged s r
        (HWrite.cw { off := c.2.1, sel := s.hw.selOf c.2.1, v := c.2.2, aux := s.hw.coefsh, role := r }))) ∧
    (∀ need, wkind 0x82C = .ticket need → need.rank ≤ r.rank →
      (let k : CW := .reg 0x82C 0 (BitVec.ofNat 32 (b2n s.com.tide.ten + 2 * (v.toNat % 2))) s.hw.coefsh
       s.Fits { cw := k, src := .host, ticket := some s.stg.tkNext.toNat, role := r.rank }) →
      Does (.freeze v) s [.stg, .hw, .ports] (HostStaged s r
        (.reg 0x82C 0 (BitVec.ofNat 32 (b2n s.com.tide.ten + 2 * (v.toNat % 2))) s.hw.coefsh)))

/-- Heartbeat, detach, bundles, snapshot requests, selectors and the interrupt enables act at once. For a host of role r:
HBEAT restarts the heartbeat in RUN alone; DETACH returns the block to UNATTENDED; a bundle opens, and closes where it
is empty and nothing queued is in a group or too large; SNPREQ fills the slot or asks for another fill, and the
management core's request does so for slot 4; TALSEL, the eight selector registers, INTEN and the response words take
their written bits; a write of RWX clears exactly the selected region's bits written as one. Each host write completes
with status done where the statement names it and changes only the parts named. (16_firmware_host.md,
19_register_map.md) -/
def Obligations.HostWritesThatTheHubServesItself : Prop :=
  ∀ (s : State) (r : Role), s.Hosts r →
    (∀ v, s.hw.bstate = .run → Does (.hbeat v) s [.hw] fun t => t.hw.hibeat = s.now ∧ HostDone t ∧ t.hw.role = some r) ∧
    (∀ v, s.hw.bstate ≠ .run → Does (.hbeat v) s [.hw] fun t => t.hw.hibeat = s.hw.hibeat ∧ HostDone t) ∧
    (∀ v : Word, v.getLsbD 0 = true → s.hw.bstate = .run → Does (.detach v) s [.stg, .hw, .ports] fun t =>
      t.hw.bstate = .unattended ∧ t.hw.role = none ∧ t.hw.atState = 0 ∧ t.hw.intcause.getLsbD 5 = true ∧ HostDone t) ∧
    (∀ num, num ≠ 0 → Does (.wrbnd num) s [.hw] fun t => t.hw.wrbnd = num.toNat ∧ HostDone t) ∧
    (∀ num, s.stg.bundles.get [] num.toNat = [] → (∀ x ∈ s.stg.queue, x.grp = 0 ∧ s.Fits x) → Does (.bundleClose num) s [.hw] fun t => t.hw.wrbnd = 0 ∧ HostDone t) ∧
    (∀ v : Word, (s.tel.snaps.get {} (v.toNat % 4)).filling = false → Does (.snpreq false v) s [.tel, .hw] fun t =>
      (t.tel.snaps.get {} (v.toNat % 4)).st = 1 ∧ (t.tel.snaps.get {} (v.toNat % 4)).filling = false ∧
      (t.tel.snaps.get {} (v.toNat % 4)).rst = ((s.tel.snaps.get {} (v.toNat % 4)).rst || v.getLsbD 4) ∧ HostDone t) ∧
    (∀ v : Word, (s.tel.snaps.get {} (v.toNat % 4)).filling = true → Does (.snpreq false v) s [.tel, .hw] fun t =>
      (t.tel.snaps.get {} (v.toNat % 4)).again = true ∧ (t.tel.snaps.get {} (v.toNat % 4)).st = (s.tel.snaps.get {} (v.toNat % 4)).st ∧ HostDone t) ∧
    (∀ v : Word, s.sys.coreRun = true → (s.tel.snaps.get {} 4).filling = false → Does (.snpreq true v) s [.tel] fun t =>
      (t.tel.snaps.get {} 4).st = 1 ∧ (t.tel.snaps.get {} 4).rst = ((s.tel.snaps.get {} 4).rst || v.getLsbD 4) ∧
      ∀ k, k ≠ 4 → t.tel.snaps.get {} k = s.tel.snaps.get {} k) ∧
    (∀ v, Does (.talsel v) s [.flt, .hw] fun t => t.hw.talsel = v &&& 0x3F3FFF ∧ t.flt.talReady = false ∧ HostDone t) ∧
    (∀ v : Word, s.hasReg s.hw.regsel = true → Does (.rwx v) s [.regs, .hw] fun t =>
      let x := (s.reg s.hw.regsel).tel
      (t.reg s.hw.regsel).tel = { x with wxFast := x.wxFast && !v.getLsbD 0, wxSlowV := x.wxSlowV && !v.getLsbD 1, wxSlowI := x.wxSlowI && !v.getLsbD 2 } ∧
      HostDone t) ∧
    (∀ off v sel, wkind off = .hw → (off, sel) ∈ [(0x60, v.toNat % 2 ^ 16), (0x85C, v.toNat % 2 ^ 5), (0xA00, v.toNat % 2 ^ 14), (0xB28, v.toNat % 2 ^ 11),
        (0xC00, v.toNat % 2 ^ 13), (0xC0C, v.toNat % 2 ^ 14), (0xC10, v.toNat % 2 ^ 6), (0x1000, v.toNat % 2 ^ 10)] →
      Does (.registerWrite off v) s [.hw] fun t => HostDone t ∧
        t.hw.crsel = (if off = 0x60 then v.setWidth 16 else s.hw.crsel) ∧ t.hw.tpsel = (if off = 0x85C then sel else s.hw.tpsel) ∧
        t.hw.nodesel = (if off = 0xA00 then sel else s.hw.nodesel) ∧ t.hw.trcsel = (if off = 0xB28 then sel else s.hw.trcsel) ∧
        t.hw.loopsel = (if off = 0xC00 then sel else s.hw.loopsel) ∧ t.hw.coefsel = (if off = 0xC0C then sel else s.hw.coefsel) ∧
        t.hw.coefsh = (if off = 0xC10 then sel else s.hw.coefsh) ∧ t.hw.regsel = (if off = 0x1000 then sel else s.hw.regsel)) ∧
    (∀ v, Does (.registerWrite 0x2C v) s [.hw] fun t => t.hw.inten = v.setWidth 9 ∧ t.ports.intOut = decide (t.hw.intcause &&& t.hw.inten ≠ 0)) ∧
    (∀ k v, k < 24 → Does (.registerWrite (0x140 + 4 * k) v) s [.hw] fun t => t.hw.resp.get 0 k = v)

/-- Sessions, images, releases, restarts and stops are served or answered FAILED as the role and state allow. For a host
served by the firmware: session requests give a fresh challenge (a free value) and count, are refused in lockout and
closed or submitted as stated; the installer key, the ledger query, the diode reading, the thermal reset, the trace
control, the image load commands, RESTART, WARM, PDOWN, CFGSAVE and TREL act as the role and the state allow, and
otherwise answer FAILED. RESTART with NOCFG in any service state: log entry 29. (16_firmware_host.md,
14_thermal_margin.md, 17_startup.md, 13_tide.md) -/
def Obligations.HostCommandsThatTheFirmwareServes : Prop :=
  ∀ (s : State) (r : Role), s.HostServed r →
    (r = .maker → Does .retest s [.eng, .hw] fun t => HostDone t ∧
      (∀ i < 72, t.lane i = if (s.lane i).st = .failed then { s.lane i with st := .retest, checkAt := (t.lane i).checkAt } else s.lane i) ∧
      ∀ i < 72, (s.lane i).st = .failed → s.now ≤ (t.lane i).checkAt) ∧
    (∀ v : BitVec 2, s.hw.sesState ≠ 5 → (v = 1 ∧ s.store.instKey.isSome = true) ∨ v = 2 → Does (.sessionRequest v) s [.free, .hw] fun t =>
      t.hw.sesState = 1 ∧ t.hw.outstanding = true ∧ t.hw.sesReq = (if v = 1 then .installer else .maker) ∧ t.hw.sesNum = s.hw.sesNum + 1 ∧
      (∀ k < 8, t.hw.challenge.get 0 k = Config.challenge s.free k) ∧ t.hw.role = some r ∧ HostDone t) ∧
    (∀ v, s.hw.sesState = 5 → Does (.sessionRequest v) s [.hw] fun t => t.hw.last = .failed ∧ t.hw.sesState = 5 ∧ t.hw.outstanding = s.hw.outstanding) ∧
    (∀ v, s.hw.elevated = true → s.hw.imgState ≠ 1 → s.hw.imgState ≠ 2 → Does (.sessionClose v) s [.hw] fun t => t.hw.role = some .operator ∧ t.hw.sesState = 0 ∧ t.hw.outstanding = false ∧ HostDone t) ∧
    (∀ v : Word, v.getLsbD 0 = true → s.hw.outstanding = true → Does (.sesgo v) s [.hw] fun t => t.hw.sesState = 2 ∧ t.hw.outstanding = false ∧ HostDone t) ∧
    (∀ v : Word, v.getLsbD 0 = true → s.hw.outstanding = false → Does (.sesgo v) s [.hw] fun t => t.hw.last = .failed) ∧
    (∀ v : Word, v.getLsbD 0 = true → r ≠ .operator → Does (.instkeygo v) s [.store, .hw] fun t =>
      t.store = { s.store with instKey := some ((wordBytes s.hw.instkey 8).map (BitVec.ofNat 8)) } ∧ HostDone t) ∧
    (∀ v : Word, 1 ≤ v.toNat % 32 → v.toNat % 32 ≤ 16 → Does (.lqreq v) s [.led, .hw] fun t =>
      t.led = { s.led with qst := 1, qcount := v.toNat % 32, qArmed := false } ∧ HostDone t) ∧
    (∀ v : Word, v.toNat % 32 = 0 ∨ 16 < v.toNat % 32 → Does (.lqreq v) s [.hw] fun t => t.hw.last = .failed) ∧
    (∀ v : Word, v.getLsbD 16 = false → s.hasReg (v.toNat % 1024) = true → Does (.dioreq v) s [.sys, .hw] fun t =>
      t.sys = { s.sys with diodeQ := if s.sys.diodeQ.contains (v.toNat % 1024) then s.sys.diodeQ else s.sys.diodeQ ++ [v.toNat % 1024] } ∧ HostDone t) ∧
    (∀ v : Word, v.getLsbD 0 = true → Does (.thrst v) s [.regs, .hw] fun t => HostDone t ∧
      ∀ k ∈ s.regions, (t.reg k).th.hostMax = none ∧ (t.reg k).th.hostMin = none ∧ (t.reg k).th.lslack = 0x7FFF) ∧
    (∀ v : Word, r = .maker → Does (.trcctlClear v) s [.log, .hw] fun t =>
      t.log = { s.log with en := v.getLsbD 0, stop := v.getLsbD 1, buf := [], wrapped := false } ∧ HostDone t) ∧
    (∀ v : BitVec 2, r = .maker → v = 1 ∨ v = 2 → s.hw.imgState ≠ 1 → s.hw.imgState ≠ 2 → Does (.imageStart v) s [.store, .hw] fun t =>
      t.hw.imgState = 1 ∧ t.hw.imgReason = 0 ∧ t.hw.imgWords = 0 ∧ t.hw.imgOff = 0 ∧ t.hw.imgEnd = 0 ∧ t.hw.imgTarget = v.toNat ∧ t.store.words = [] ∧ HostDone t ∧
      (if v = 1 then t.store.jigPending = none ∧ t.store.jigActive = s.store.jigActive else t.store.fwPending = none ∧ t.store.fwActive = s.store.fwActive)) ∧
    (∀ v, r = .maker → s.hw.imgState = 1 → s.hw.imgOff < areaBytes s.hw.imgTarget → Does (.imgdat v) s [.store, .hw] fun t =>
      t.store = { s.store with words := s.store.words.set 0 (s.hw.imgOff / 4) v } ∧ t.hw.imgOff = s.hw.imgOff + 4 ∧ t.hw.imgEnd = max s.hw.imgEnd (s.hw.imgOff + 4) ∧ t.hw.imgWords = s.hw.imgWords + 1 ∧ HostDone t) ∧
    (∀ v, r = .maker → s.hw.imgState = 1 → areaBytes s.hw.imgTarget ≤ s.hw.imgOff → Does (.imgdat v) s [.hw] fun t => t.hw.imgReason = 3 ∧ t.hw.last = .failed) ∧
    (r = .maker → s.hw.imgState = 1 → Does .imageFinish s [.hw] fun t => t.hw.imgState = 2 ∧ HostDone t) ∧
    (r = .maker → s.hw.imgState = 1 ∨ s.hw.imgState = 2 → Does .imageAbort s [.hw] fun t => t.hw.imgState = 4 ∧ t.hw.imgReason = 6 ∧ HostDone t) ∧
    (r ≠ .operator → s.service = true → s.sys.nocfg = true → s.sys.nocfgRun = false → Does .restart s [.sys, .hw] fun t =>
      t.sys = { s.sys with nocfgRun := true, step := 7, vinwait := true } ∧ HostDone t) ∧
    (r ≠ .operator → s.service = true → s.sys.nocfg = false → Does .restart s [.hw] fun t => t.hw.last = .failed) ∧
    (r = .maker → s.hw.bstate = .run → s.sys.stop = .none → Does .warm s [.sys, .hw] fun t =>
      t.sys = { s.sys with stop := .warm, stopStep := 1, stopAt := s.now, drainDone := false } ∧ t.hw.bstate = .stopping ∧ HostDone t) ∧
    (r ≠ .operator → s.hw.bstate = .run → s.sys.stop = .none → Does .pdown s [.sys, .hw] fun t =>
      t.sys = { s.sys with stop := .pdown, stopStep := 1, stopAt := s.now, drainDone := false } ∧ t.hw.bstate = .stopping ∧ HostDone t) ∧
    (∀ v : Word, v.getLsbD 0 = true → r ≠ .operator → Does (.cfgsave v) s [.sys, .hw] fun t => t.sys = { s.sys with cfgSaving := true } ∧ HostDone t) ∧
    (∀ v : Word, r ≠ .operator → s.tide.st = .settled → Does (.trel v) s [.tide, .flt, .hw] fun t =>
      t.tide = { s.tide with h := s.tide.h + v.toNat, relsum := s.tide.relsum + v.toNat, raised := true } ∧ HostDone t) ∧
    (∀ v : Word, r ≠ .operator → s.tide.st ≠ .settled → Does (.trel v) s [.hw] fun t => t.hw.last = .failed)

/-- Attaching, denied and failed writes, low-word reads, heartbeat loss and sessions. An accepted ATTACH opens the window as
operator in RUN and keeps its value, a refused one records its reason; a write in GUARD or BOOT or to an unassigned
offset fails, one without a session is denied, one of too low a role is denied and counted, an emulated one waits in the
queue of 256 or fails when it is full or the core is not ready; the queue's front is served. A read answers the register
and latches its pair; SNPDAT steps its index when automatic; 2 s without heartbeat leave the host window; a session
response is accepted, refused or locks out after four failures; idle sessions end after 600 s and lockout after 60 s.
(16_firmware_host.md, 19_register_map.md) -/
def Obligations.AttachSessionsAndHostReads : Prop :=
  ∀ (s : State),
    (∀ v : Word, s.service = true → s.attachCode v = 0 → s.hw.queue = [] → Does (.attach v) s [.stg, .hw, .ports] fun t =>
      t.hw.bstate = .run ∧ t.hw.role = some .operator ∧ t.hw.atState = 1 ∧ t.hw.atRefuse = 0 ∧ t.hw.sminor = min 1 (v.toNat % 256) ∧
      t.hw.hibeat = s.now ∧ t.hw.attaches = s.hw.attaches + 1 ∧ t.hw.sesState = 0 ∧ t.hw.attachV = v ∧ HostDone t) ∧
    (∀ v : Word, s.hw.bstate ≠ .off → s.hw.bstate ≠ .guard_ → s.hw.bstate ≠ .boot → s.attachCode v ≠ 0 → s.hw.queue = [] → Does (.attach v) s [.hw] fun t =>
      t.hw.bstate = s.hw.bstate ∧ t.hw.role = s.hw.role ∧ t.hw.atRefuse = s.attachCode v ∧ t.hw.attachV = v ∧ HostDone t) ∧
    (∀ off v, s.hw.bstate = .guard_ ∨ s.hw.bstate = .boot → Does (.registerWrite off v) s [.hw] fun t => t.hw.last = .failed ∧ t.hw.bstate = s.hw.bstate) ∧
    (∀ off v, s.service = true → wkind off = .unassigned → off ≠ 8 → Does (.registerWrite off v) s [.hw] fun t => t.hw.last = .failed) ∧
    (∀ off v, s.service = true → wkind off ≠ .unassigned → off ≠ 8 → s.hw.role = none → Does (.registerWrite off v) s [.hw] fun t => t.hw.last = .denied) ∧
    (∀ off v r need, s.Hosts r → wkind off = .emu need → r.rank < (s.needRole off (s.hw.selOf off) v need).rank → (off = 0xB08 → s.hw.sminor ≠ 0) →
      Does (.registerWrite off v) s [.flt, .hw] fun t =>
        t.hw.last = .denied ∧ t.flt.tally.get 0 (tallyKey 0x0B 0 (3 + r.rank)) = s.flt.tally.get 0 (tallyKey 0x0B 0 (3 + r.rank)) + 1) ∧
    (∀ off v r need, s.Hosts r → wkind off = .emu need → ¬ r.rank < (s.needRole off (s.hw.selOf off) v need).rank → off ≠ 0xB08 → s.sys.ready = true → s.hw.queue.length < 256 →
      Does (.registerWrite off v) s [.hw] fun t => t.hw.last = .pending ∧
        t.hw.queue = s.hw.queue ++ [{ off := off, sel := s.hw.selOf off, v := v, aux := s.hw.coefsh, role := r }]) ∧
    (∀ off v r need, s.Hosts r → wkind off = .emu need → ¬ r.rank < (s.needRole off (s.hw.selOf off) v need).rank → off ≠ 0xB08 → s.hw.queue.length = 256 ∨ s.sys.ready = false →
      Does (.registerWrite off v) s [.hw] fun t => t.hw.last = .failed ∧ t.hw.queue = s.hw.queue) ∧
    (∀ w rest, s.sys.ready = true → s.stg.closing = [] → s.hw.queue = w :: rest → w.ticket = none → w.off = 0xD04 → Does .hostQueueService s [.hw] fun t =>
      t.hw.queue = rest ∧ t.hw.imgOff = w.v.toNat / 4 * 4 % 2 ^ 23) ∧
    (∀ off, Does (.lowWordRead off) s [.hw] fun t => t.hw.rdData = s.hostRead off ∧
      t.hw.latch = if (s.service || decide (s.hw.bstate = .stopping) || decide (s.hw.bstate = .halted)) && pairLow off then s.peek (off + 4) (s.hw.selOf off) else s.hw.latch) ∧
    (s.hw.snpsel.getLsbD 31 = true → s.service = true → Does .snpdatAutoRead s [.hw] fun t =>
      t.hw.rdData = s.hostRead 0xE0C ∧ t.hw.snpsel.toNat % 16 = s.hw.snpsel.toNat % 16 ∧ t.hw.snpsel.getLsbD 31 = true ∧
      t.hw.snpsel.toNat / 16 % 65536 = (s.hw.snpsel.toNat / 16 % 65536 + 1) % 65536) ∧
    (s.hw.snpsel.getLsbD 31 = false → Does .snpdatAutoRead s [.hw] fun t => t.hw.rdData = s.hostRead 0xE0C ∧ t.hw.snpsel = s.hw.snpsel) ∧
    (s.hw.bstate = .run → Does .heartbeatTimeout s [.now, .stg, .hw, .ports] fun t =>
      t.hw.bstate = .unattended ∧ t.hw.role = none ∧ t.hw.atState = 0 ∧ t.now = max s.now (s.hw.hibeat + 2 * secT) ∧ t.hw.intcause.getLsbD 5 = true) ∧
    (∀ r, s.hw.sesState = 2 → s.hw.role = some r → s.sesOk = true → Does .sessionVerified s [.hw] fun t =>
      t.hw.role = some s.hw.sesReq ∧ t.hw.sesState = 3 ∧ t.hw.sesFails = 0) ∧
    (∀ r, s.hw.sesState = 2 → s.hw.role = some r → s.sesOk = false → Does .sessionVerified s [.flt, .hw] fun t =>
      t.hw.role = some r ∧ t.hw.sesState = (if 4 ≤ s.hw.sesFails + 1 then 5 else 4) ∧ t.hw.sesFails = min 255 (s.hw.sesFails + 1) ∧
      (3 ≤ s.hw.sesFails → t.hw.lockAt = s.now)) ∧
    (s.hw.elevated = true → Does .sessionIdleTimeout s [.now, .hw] fun t =>
      t.hw.role = some .operator ∧ t.hw.sesState = 0 ∧ t.hw.intcause.getLsbD 6 = true ∧ t.now = max s.now (s.hw.lastWrite + 600 * secT)) ∧
    (s.hw.sesState = 5 → Does .lockoutExpiry s [.now, .hw] fun t => t.hw.sesState = 0 ∧ t.now = max s.now (s.hw.lockAt + 60 * secT))

/-- An image check ends in the other area or in a reason; log entries and trace records are kept in order. A received jig or
firmware image is checked in the model's order (log entry 123): a bad signature ends in reason 1, a jig of another image
version in 2, a length that is not the received one in 3, a failed write in 4, firmware of too low a security number in
5; a passed image becomes pending in the area that is not active. A message of one of the six ranges (codes 1 to 0x5FF)
takes the next sequence number, its ring place and its arguments, and raises the interrupt at its level; an enabled
trace point (below 0xE0) appends one record with the next record number; a disabled trace or a full stopping buffer
changes nothing. Which event writes which code is the model's choice (log entry 121). (16_firmware_host.md) -/
def Obligations.ImageChecksTracesAndLogEntries : Prop :=
  ∀ (s : State),
    (∀ w, s.hw.imgState = 2 → s.hw.imgTarget = 1 →
      let i := s.received.jig (1 - s.received.jigActive)
      let bad := if s.received.trusts i.signer = false then 1 else if i.version ≠ 42 then 2 else if i.length ≠ s.hw.imgEnd then 3 else if w then 0 else 4
      (bad ≠ 0 → Does (.imageCheckComplete w) s [.hw] fun t => t.hw.imgState = 4 ∧ t.hw.imgReason = bad) ∧
      (bad = 0 → Does (.imageCheckComplete w) s [.store, .hw] fun t => t.hw.imgState = 3 ∧ t.hw.imgReason = 0 ∧
        t.store = { s.received with jigPending := some (1 - s.received.jigActive) })) ∧
    (∀ w, s.hw.imgState = 2 → s.hw.imgTarget ≠ 1 →
      let f := s.received.fw (1 - s.received.fwActive)
      let bad := if s.received.trusts f.signer = false then 1 else if f.length ≠ s.hw.imgEnd then 3 else if w = false then 4
        else if f.security < s.received.fuseSec then 5 else 0
      (bad ≠ 0 → Does (.imageCheckComplete w) s [.hw] fun t => t.hw.imgState = 4 ∧ t.hw.imgReason = bad) ∧
      (bad = 0 → Does (.imageCheckComplete w) s [.store, .hw] fun t => t.hw.imgState = 3 ∧ t.hw.imgReason = 0 ∧
        t.store = { s.received with fwPending := some (1 - s.received.fwActive) })) ∧
    (∀ m level narg code a0 a1, s.sys.coreRun = true → s.logMsg m = some (code, a0, a1) → Does (.logEntry m level narg) s [.log, .hw] fun t =>
      let q : Word := if s.log.head + 1 = 0 then 1 else s.log.head + 1
      0 < code ∧ code < 0x600 ∧ t.log.head = q ∧ t.log.ring.get {} (q.toNat % 512) = {
        seq := q, code := BitVec.ofNat 16 code, level := BitVec.ofNat 8 level.val, narg := BitVec.ofNat 8 narg.val,
        arg0 := if narg.val = 0 then 0 else a0, arg1 := if narg.val = 2 then a1 else 0 } ∧
      ((if s.hw.sminor = 0 then 3 else s.hw.loglvl) ≤ level.val → t.hw.intcause.getLsbD 7 = true)) ∧
    (∀ m level narg, s.logMsg m = none → Does (.logEntry m level narg) s [] fun _ => True) ∧
    (∀ p, let x := s.tracePt p
      s.sys.coreRun = true → s.log.en = true → (s.log.mask.get 0 (x.1 / 32)).getLsbD (x.1 % 32) = true → s.log.buf.length < 2048 →
      Does (.tracePoint p) s [.log] fun t =>
        x.1 < 0xE0 ∧ t.log.buf = s.log.buf ++ [BitVec.ofNat 64 (s.log.recSeq.toNat + x.1 * 2 ^ 16 + x.2.toNat * 2 ^ 32)] ∧ t.log.recSeq = s.log.recSeq + 1) ∧
    (∀ p, s.log.en = false → Does (.tracePoint p) s [] fun _ => True) ∧
    (∀ p, s.log.stop = true → 2048 ≤ s.log.buf.length → Does (.tracePoint p) s [] fun _ => True)

/-- Converter loop outputs act on arrival; their loss falls back to safe values. VIBOFF and QOFF set the offset requests
clamped to the rails' windows; NTARGET sets the phase target; TRIM sets a phase's trim clamped to -24 to 24 with its
count of saturated updates, and is ignored while the phase's trim is frozen; CANCEL with its bit set cancels a shed
(R124); kerf and shim outputs set the region's ratio, clamped, and 64 kerf outputs of 60 in a row raise the shortage
bit; 10 us without outputs cancel a shed, take zero offsets and, where the dispatching engine has run nothing for 10 us,
start the engine-loss time, whose end begins the orderly engine stop; the level of AGONE is kept with its time.
(04_bus_converter.md, 11_budget_kerf.md, 12_hints_shim_ledger.md, 10_region_power.md) -/
def Obligations.ConverterLoopOutputsArrive : Prop :=
  ∀ (s : State),
    (∀ v : Word, Does (.viboff v) s [.conv] fun t =>
      (t.rail .vib).offReq = clampI (v.setWidth 8).toInt ((s.railWin .vib).1 - s.railSet .vib) ((s.railWin .vib).2 - s.railSet .vib) ∧
      (t.rail .vqa) = s.rail .vqa ∧ (t.rail .vqc) = s.rail .vqc ∧ t.conv.lastOutAt = s.now ∧ t.conv.engLoss = false) ∧
    (∀ v : Word, Does (.qoff v) s [.conv] fun t =>
      (t.rail .vqa).offReq = clampI (sfield v 0 8) ((s.railWin .vqa).1 - s.railSet .vqa) ((s.railWin .vqa).2 - s.railSet .vqa) ∧
      (t.rail .vqc).offReq = clampI (sfield v 8 8) ((s.railWin .vqc).1 - s.railSet .vqc) ((s.railWin .vqc).2 - s.railSet .vqc) ∧
      (t.rail .vib) = s.rail .vib ∧ t.conv.lastOutAt = s.now ∧ t.conv.engLoss = false) ∧
    (∀ v : Word, s.mainsIn .provisional = [] → s.mainsIn .shed = [] → Does (.ntarget v) s [.conv] fun t =>
      t.conv = { s.conv with ntarget := min 32 (v.toNat % 64), lastOutAt := s.now, engLoss := false }) ∧
    (∀ n v, n < 40 → s.trimFrozen n = false → Does (.trim n v) s [.conv] fun t =>
      let x := clampI (v.setWidth 6).toInt (-24) 24
      let e := decide (x = 24) || decide (x = -24)
      PhaseBecomes s n { s.phase n with trim := x, ends := if e then (s.phase n).ends + 1 else 0, trimLim := (s.phase n).trimLim && e } t) ∧
    (∀ n v, n < 40 → s.trimFrozen n = true → Does (.trim n v) s [.conv] fun t =>
      (t.phase n).trim = (s.phase n).trim ∧ ∀ m, m ≠ n → t.phase m = s.phase m) ∧
    (∀ v : Word, v.getLsbD 0 = true → Does (.cancel v) s [.conv] fun t => Cancelled s t ∧ t.conv.lastOutAt = s.now) ∧
    (∀ v : Word, v.getLsbD 0 = false → Does (.cancel v) s [.conv] fun t => t.conv = { s.conv with lastOutAt := s.now, engLoss := false }) ∧
    (∀ r v, s.hasReg r = true → (s.reg r).krf.run60 < 63 → Does (.kerfRatio r v) s [.regs, .flt] fun t =>
      let x := (clampI v.toInt 0 60).toNat
      (t.reg r).krf.kLoop = x ∧ (t.reg r).krf.run60 = (if x = 60 then (s.reg r).krf.run60 + 1 else 0)) ∧
    (∀ r v, s.hasReg r = true → 63 ≤ (s.reg r).krf.run60 → 60 ≤ v.toInt → s.bud.capshort = false → Does (.kerfRatio r v) s [.regs, .bud, .flt, .hw] fun t =>
      t.bud.capshort = true ∧ t.bud.clearAt = s.now ∧ t.hw.intcause.getLsbD 2 = true ∧ (t.reg r).krf.run60 = 64 ∧
      t.flt.tally.get 0 (tallyKey 0x0F 0 0) = s.flt.tally.get 0 (tallyKey 0x0F 0 0) + 1) ∧
    (∀ r v, s.hasReg r = true → Does (.shimIntensity r v) s [.regs] fun t =>
      (t.reg r).krf.sLoop = if s.com.shim.en then (clampI v.toInt 0 15).toNat else 0) ∧
    (s.conv.engLoss = false → Does .converterOutputTimeout s [.now, .conv, .sys] fun t =>
      t.conv.engLoss = true ∧ t.now = max s.now (s.conv.lastOutAt + 10 * usT) ∧
      t.sys.engStopAt = (if s.eng.dispatching = true ∧ s.eng.lastRun + 10 * usT ≤ t.now ∧ s.sys.engStopAt = none then some t.now else s.sys.engStopAt) ∧
      (∀ x, (t.rail x).offReq = 0) ∧ t.conv.shedHold = some (t.now + 100 * usT)) ∧
    (∀ a, s.sys.engStopAt = some a → s.service = true → s.sys.stop = .none → Does .engineLossTimeout s [.now, .sys, .hw] fun t =>
      t.now = max s.now (a + msT) ∧ t.sys.stop = .engine ∧ t.sys.stopStep = 1 ∧ t.hw.bstate = .stopping ∧ t.hw.intcause.getLsbD 5 = true) ∧
    (∀ r level, Does (.agoneChange r level) s [.regs] fun t =>
      (t.reg r).seq.agone = level ∧ (t.reg r).seq.agoneAt = if level && !(s.reg r).seq.agone then s.now else (s.reg r).seq.agoneAt)

/-- A phase 20 us in PROVISIONAL takes PSG_EN low and enters SHED. For every state and phase slot below 40 in PROVISIONAL:
the expiry command completes at a time at least 20 us after the phase entered PROVISIONAL, the phase is in SHED with
PSG_EN low from then on, and every other field of the phase, every other phase and every rail is unchanged. (A
cancellation takes the phase out of PROVISIONAL, so the hypothesis says that there was none.) (R122; stated) -/
def Obligations.ProvisionalPhasesAreShed : Prop :=
  ∀ (s : State) (n : Nat), n < 40 → (s.phase n).st = .provisional →
    Does (.provisionalExpiry n) s [.now, .conv] fun t =>
      t.now = max s.now ((s.phase n).at_ + 20 * usT) ∧
      PhaseBecomes s n { s.phase n with st := .shed, en := false, at_ := t.now } t ∧ ∀ x, t.rail x = s.rail x

/-- A shed begins exactly when all its conditions hold, with the highest ACTIVE main phase. For every state and mean total
current: if the shed permit is set, VIB is in REG, the ACTIVE main phases exceed both NTARGET and MINPH, no phase of any
rail is in WAKE or ADMIT, the hold-off has expired, at least 2 us have passed since the previous shed began, and the
current divided by (ACTIVE count - 1) is at or below SHEDMAX, then the ACTIVE main phase of the highest slot leaves the
rotation and is PROVISIONAL with PSG_PWM mid and PSG_EN as it was, every other phase is unchanged, and the instant of
the shed is kept; if any of the conditions fails, nothing changes. (R121; stated) -/
def Obligations.ShedBeginsUnderItsConditions : Prop :=
  ∀ (s : State) (total : Nat),
    let active := s.mainsIn .active
    let conditions := s.com.conv.shedPermit = true ∧ (s.rail .vib).st = .reg ∧ s.target < active.length ∧ s.com.conv.minph < active.length ∧
      s.anyIn .wake = false ∧ s.anyIn .admitting = false ∧ (∀ a, s.conv.shedHold = some a → a ≤ s.now) ∧
      (∀ a, s.conv.lastShed = some a → a + 2 * usT ≤ s.now) ∧ total ≤ s.com.conv.shedmax * (active.length - 1)
    (∀ n, conditions → n ∈ active → (∀ m ∈ active, m ≤ n) → Does (.shedBegin total) s [.conv] fun t =>
      PhaseBecomes s n { s.phase n with st := .provisional, pwm := .mid, at_ := s.now } t ∧ (t.phase n).en = (s.phase n).en ∧
      n ∉ t.rotation ∧ t.conv.lastShed = some s.now) ∧
    (¬ conditions → Does (.shedBegin total) s [] fun _ => True)

/-- Both comparators fired: the pan fires neither and falls back to local sense. For every state and pan whose droop and
overshoot comparators are both fired: the command completes with boost and shunt off and both comparators released, the
pan on local sense from that instant, its parameters unchanged, and every other pan unchanged. (R96; stated) -/
def Obligations.ComparatorConflictFallsBackToLocalSense : Prop :=
  ∀ (s : State) (n : Nat), (s.pan n).droopFired = true → (s.pan n).overFired = true →
    Does (.comparatorConflict n) s [.links, .pans] fun t =>
      (t.pan n).bst = false ∧ (t.pan n).shn = false ∧ (t.pan n).droopFired = false ∧ (t.pan n).overFired = false ∧
      (t.pan n).local_ = true ∧ (t.pan n).localAt = s.now ∧ (t.pan n).par = (s.pan n).par ∧ ∀ m, m ≠ n → t.pan m = s.pan m

/-- In diode emulation the balance trims and the lock factor stand, and on leaving it they are as they were. For every state
and pan in diode emulation: a balance update and a frequency-lock update change nothing of the pan, and an exit on the
mean current above 12 % of the rating ends the emulation with both balance trims and the lock factor as they were and
every other pan unchanged. (R91; stated) -/
def Obligations.TrimsAndLockAreFrozenInDiodeEmulation : Prop :=
  ∀ (s : State) (n : Nat), (s.pan n).de = true →
    (∀ ia ib, Does (.balanceUpdate n ia ib) s [] fun t => t.pan n = s.pan n) ∧
    (Does (.frequencyLockUpdate n) s [] fun t => t.pan n = s.pan n) ∧
    (∀ mean, 12 * (s.node n).rating < mean → Does (.deExitMean n mean) s [.pans] fun t =>
      (t.pan n).de = false ∧ (t.pan n).trimA = (s.pan n).trimA ∧ (t.pan n).trimB = (s.pan n).trimB ∧ (t.pan n).klock = (s.pan n).klock ∧
      ∀ m, m ≠ n → t.pan m = s.pan m)

/-- Carry is in force by the MODE permit or CARRYAUTO and makes the continuous limit 1.25 times the rating. For every state
and node: carry is in force exactly when the pan's carry permit or its CARRYAUTO is set; under carry the continuous
limit is 1.25 times the rating, and without it the rating (in mA, the rating being in 0.1 A); and a running pan's
excursion starts exactly on a current above that limit. (R102; stated) -/
def Obligations.CarryRaisesTheContinuousLimit : Prop :=
  ∀ (s : State) (n : Nat),
    ((s.pan n).carryOn = true ↔ (s.pan n).par.carryPermit = true ∨ (s.pan n).par.carryAuto = true) ∧
    ((s.pan n).carryOn = true → 100 * s.contLimit n = 125 * (100 * (s.node n).rating)) ∧
    ((s.pan n).carryOn = false → s.contLimit n = 100 * (s.node n).rating) ∧
    (∀ i, s.isPan n = true → (s.pan n).st.runs = true → (s.pan n).excur = .none → s.contLimit n < i →
      Does (.excursionStart n i) s [.pans] (PanBecomes s n { s.pan n with excur := .active, excurAt := s.now, limTrim := (s.pan n).limNow s.now, limRel := none })) ∧
    (∀ i, i ≤ s.contLimit n → Does (.excursionStart n i) s [] fun t => t.pan n = s.pan n)

/-- Comparator firings rotate the phases; PKLIM, overload, trim limit, shedding and cancellation act on them. VIB's
comparator fires while the sensed voltage with the injected ripple, its mean removed, is below the reference: the next
phase of the rotation whose off-time of 100 ns has passed turns on for at least 20 ns with PSG_PWM high, the rotation
moves on, and the other phases keep their settled levels. A current at PKLIM during an on-time ends it and counts once a
period; 8 in a row mark an overload and cancel a shed, which 1 ms without clears; 64 saturated trims set the trim limit;
a shed begins under its conditions with the last ACTIVE phase, and 20 us later the phase is SHED. A droop of VIB beyond
CDROOP or a current step beyond CSTEP cancels; below them only the sensed voltage is noted. The hold-off ends at its
time. Every phase not named is unchanged. (04_bus_converter.md) -/
def Obligations.MainPhasesSwitchAndAreShed : Prop :=
  ∀ (s : State) (n : Nat),
    let p := s.phase n
    (∀ (vin v ramp : Nat) (imon : List Int), s.conv.vib.st.switching = true → s.conv.vib.heldLow = false →
      512 * (v : Int) + 2 * mrippleMv s.com.conv.mripple * (ramp % 256 : Nat) < 512 * s.railRef .vib + 256 * mrippleMv s.com.conv.mripple →
      (((s.rotation.filter fun k => decide ((s.phase k).offAt + 100 ≤ nsOf s.now)).find? fun k => decide (s.conv.rot ≤ k)) <|>
        (s.rotation.filter fun k => decide ((s.phase k).offAt + 100 ≤ nsOf s.now)).head?) = some n →
      Does (.converterComparatorFire vin v ramp imon) s [.conv] fun t =>
        t.phase n = (s.settlePwm imon n p).turnOn (nsOf s.now) (s.mainTon vin n) ∧ (t.phase n).pwm = .high ∧ 20 ≤ (t.phase n).ton ∧
        (∀ m, m ≠ n → t.phase m = if m ∈ s.rotation then s.settlePwm imon m (s.phase m) else s.phase m) ∧
        t.conv.rot = n + 1 ∧ t.conv.fires = s.conv.fires + 1 ∧ t.conv.vin = vin) ∧
    (∀ cur, n < 40 → p.pwm = .high → p.onAt ≤ nsOf s.now → nsOf s.now < p.offAt → s.com.conv.pklim ≤ cur → Does (.phasePeakLimit n cur) s [.conv]
      (PhaseBecomes s n { p with
        pwm := .low, offAt := nsOf s.now, ton := nsOf s.now - p.onAt, pk := if p.pkHit then p.pk else p.pk + 1, pkHit := true, pkAt := s.now })) ∧
    (n < 40 → 8 ≤ p.pk → Does (.phaseOverload n) s [.conv] (Cancelled (s.updPhase n fun p => { p with overload := true }))) ∧
    (n < 40 → p.overload = true → Does (.phaseOverloadClear n) s [.now, .conv] fun t =>
      PhaseBecomes s n { p with overload := false, pk := 0 } t ∧ t.now = max s.now (p.pkAt + msT)) ∧
    (n < 40 → 64 ≤ p.ends → Does (.trimLimit n) s [.conv] (PhaseBecomes s n { p with trimLim := true })) ∧
    (∀ total, s.com.conv.shedPermit = true → s.conv.vib.st = .reg → s.target < (s.mainsIn .active).length →
      s.com.conv.minph < (s.mainsIn .active).length → s.anyIn .wake = false → s.anyIn .admitting = false → s.conv.shedHold = none →
      (∀ a, s.conv.lastShed = some a → a + 2 * usT ≤ s.now) → total ≤ s.com.conv.shedmax * ((s.mainsIn .active).length - 1) →
      (s.mainsIn .active).getLast? = some n → Does (.shedBegin total) s [.conv] fun t =>
        PhaseBecomes s n { p with st := .provisional, pwm := .mid, at_ := s.now } t ∧ t.conv.lastShed = some s.now) ∧
    (n < 40 → p.st = .provisional → Does (.provisionalExpiry n) s [.now, .conv] fun t =>
      t.now = max s.now (p.at_ + 20 * usT) ∧ PhaseBecomes s n { p with st := .shed, en := false, at_ := t.now } t) ∧
    (∀ v : Nat, s.conv.vib.st = .reg → (v : Int) + s.com.conv.cdroop < s.railTarget .vib → Does (.vibDroopCrossing v) s [.conv]
      (Cancelled (s.noteRail .vib v))) ∧
    (∀ v : Nat, s.railTarget .vib ≤ (v : Int) + s.com.conv.cdroop → Does (.vibDroopCrossing v) s [.conv]
      fun t => (t.rail .vib).v = v ∧ (t.rail .vib).st = (s.rail .vib).st ∧ (t.rail .vib).de = (s.rail .vib).de ∧
        (∀ y, y ≠ .vib → t.rail y = s.rail y) ∧ ∀ m, t.phase m = s.phase m) ∧
    (∀ rise, 10 * s.com.conv.cstep < rise → Does (.currentStepDetected rise) s [.conv] (Cancelled s)) ∧
    (∀ rise, rise ≤ 10 * s.com.conv.cstep → Does (.currentStepDetected rise) s [] fun _ => True) ∧
    (∀ a, s.conv.shedHold = some a → Does .shedHoldoffExpiry s [.now, .conv] fun t => t.conv = { s.conv with shedHold := none } ∧ t.now = max s.now a)

/-- Phases wake, ramp in, fault and are spared; diode emulation, frequency lock and quiet-rail periods follow. For every
phase slot: WAKE ends in ACTIVE after its time, ADMIT joins after the same time and ramps in 64 steps of 4 us to ACTIVE;
PSG_FLT_N low on a running phase takes it out with its tally and cancels a shed if it is a main one, on another it is
only noted, and so is its rise; the response stages the spare's admission with the phase's retirement, or a re-admission
10 ms after PSG_FLT_N rose, or its retirement after three. Diode emulation of VIB begins on its conditions, over all
slots, below 8 % and ends above 12 % of the phase rating in REG or the stop delay; the lock factor, every 64 firings per
phase, is a free value within 0.80 to 1.20; a quiet rail's period of its divider drives each ACTIVE slot from its place
with a duty drawn from a free value. Everything not named is unchanged. (04_bus_converter.md, 15_faults_spares.md) -/
def Obligations.PhasesWakeFaultAndAreSpared : Prop :=
  ∀ (s : State) (n : Nat), n < 40 →
    let p := s.phase n
    (p.st = .wake → Does (.wakeElapsed n) s [.now, .conv] fun t =>
      t.now = max s.now (p.at_ + usT * s.com.conv.wake) ∧ PhaseBecomes s n { p with st := .active, at_ := t.now } t) ∧
    (p.st = .admitting → p.s = 0 → Does (.wakeElapsed n) s [.now, .conv] fun t =>
      t.now = max s.now (p.at_ + usT * s.com.conv.wake) ∧ PhaseBecomes s n { p with s := 1, at_ := t.now } t) ∧
    (p.st = .admitting → 0 < p.s → p.s < 64 → Does (.admitRampStep n) s [.now, .conv] fun t =>
      t.now = max s.now (p.at_ + 4 * usT) ∧ PhaseBecomes s n { p with s := p.s + 1, at_ := t.now } t) ∧
    (p.st = .admitting → 64 ≤ p.s → Does (.admitRampStep n) s [.now, .conv] fun t =>
      t.now = max s.now (p.at_ + 4 * usT) ∧ PhaseBecomes s n { p with st := .active, s := 0, at_ := t.now } t) ∧
    (p.st.running = true → n < 32 → Does (.phaseFault n true) s [.conv, .flt] fun t =>
      Cancelled (s.updPhase n fun p => { p with st := .faulted, fltN := false, pwm := .mid, en := false, s := 0, at_ := s.now, respDue := true }) t ∧
      t.flt.tally.get 0 (tallyKey 0x0C 0 5) = s.flt.tally.get 0 (tallyKey 0x0C 0 5) + 1) ∧
    (p.st.running = true → 32 ≤ n → Does (.phaseFault n true) s [.conv, .flt] fun t =>
      PhaseBecomes s n { p with st := .faulted, fltN := false, pwm := .mid, en := false, s := 0, at_ := s.now, respDue := true } t ∧
      t.flt.tally.get 0 (tallyKey 0x0C 0 5) = s.flt.tally.get 0 (tallyKey 0x0C 0 5) + 1) ∧
    (p.st.running = false → Does (.phaseFault n true) s [.conv] (PhaseBecomes s n { p with fltN := false })) ∧
    (Does (.phaseFault n false) s [.conv] (PhaseBecomes s n { p with fltN := true, fltAt := if p.fltN then p.fltAt else s.now })) ∧
    (∀ k, p.st = .faulted → p.respDue = true → s.sys.ready = true → s.sparePhase n = some k →
      Does (.phaseSpareResponse n) s [.conv, .stg, .flt, .ports] fun t =>
        PhaseBecomes s n { p with respDue := false } t ∧ (∃ w ∈ t.stg.queue, w.cw = .phcmd k 1) ∧ (∃ w ∈ t.stg.queue, w.cw = .phcmd n 2)) ∧
    (p.st = .faulted → p.respDue = true → s.sys.ready = true → s.sparePhase n = none → 3 ≤ p.readmits →
      Does (.phaseSpareResponse n) s [.conv, .stg, .flt, .ports] fun t =>
        PhaseBecomes s n { p with respDue := false } t ∧ ∃ w ∈ t.stg.queue, w.cw = .phcmd n 2) ∧
    (p.st = .faulted → p.respDue = true → s.sys.ready = true → s.sparePhase n = none → p.readmits < 3 → p.fltN = true →
      Does (.phaseSpareResponse n) s [.now, .conv, .stg, .flt, .ports] fun t =>
        t.now = max s.now (p.fltAt + 10 * msT) ∧ PhaseBecomes s n { p with respDue := false, readmits := p.readmits + 1 } t ∧
        ∃ w ∈ t.stg.queue, w.cw = .phcmd n 1) ∧
    (∀ mean : Int, s.com.conv.dePermit = true → s.conv.vib.st = .reg → (s.mainsIn .active).length = max s.target s.com.conv.minph →
      s.anyIn .provisional = false → s.anyIn .wake = false → s.anyIn .admitting = false → s.conv.shedHold = none →
      100 * mean < 8 * (s.com.conv.phrate : Int) → Does (.converterDeEntry mean) s [.conv] (RailBecomes s .vib { s.rail .vib with de := true })) ∧
    (∀ mean : Int, s.conv.vib.st = .reg ∨ s.conv.vib.st = .sdelay → 12 * (s.com.conv.phrate : Int) < 100 * mean →
      Does (.converterDeExit mean) s [.conv] (RailBecomes s .vib { s.rail .vib with de := false })) ∧
    (s.conv.vib.de = false → s.conv.vib.st.switching = true → 64 * s.rotation.length ≤ s.conv.fires → Does .converterFreqLock s [.free, .conv] fun t =>
      RailBecomes s .vib { s.rail .vib with klock := (t.rail .vib).klock } t ∧ 4 / 5 ≤ (t.rail .vib).klock ∧ (t.rail .vib).klock ≤ 6 / 5 ∧
      t.conv.fires = 0 ∧ t.free = s.free + 1) ∧
    (∀ (x : Rail) (vin : Nat) (imon : List Int), x ≠ .vib → (s.rail x).st.switching = true → (s.rail x).heldLow = false →
      Does (.quietRailPeriod x vin imon) s [.free, .now, .conv] fun t =>
        t.now = max s.now ((s.rail x).perAt + 8 * (s.rail x).div) ∧
        RailBecomes s x { s.rail x with div := if x = .vqa then s.com.conv.qfdivA else s.com.conv.qfdivC, perAt := t.now } t ∧ t.free = s.free + 1 ∧
        t.conv.vin = vin ∧ (∀ m, m ∉ s.slotsOfRail x → t.phase m = s.phase m) ∧
        ∀ m ∈ s.slotsOfRail x, (s.phase m).st = .active → (t.phase m).pwm = .high ∧
          (t.phase m).onAt = nsOf t.now + ((t.phase m).place : Rat) * 10 / 3 ∧ (t.phase m).offAt = (t.phase m).onAt + (t.phase m).ton)

/-- A WRITE that arrives on the cycle of the pan's boundary is ordered after the committed values. For a pan that receives
OFFSET, SHARE, ARM or a calibration load, standing first on the link from its parent, on the very CKS cycle of its epoch
boundary: the command completes, the pan gains the write in its list of late writes and nothing else of it changes (the
boundary applies the list after the committed values), and no other pan changes. (03_pan_leaf.md, 05_telemetry.md) -/
def Obligations.WritesOnTheBoundaryCycleWait : Prop :=
  ∀ (n : Nat) (h : Hdr) (v : Word) (s : State), s.Receives n h → s.isPan n = true → s.onBoundary n = true →
    ∀ x ∈ ([(.offset, 0x03), (.share, 0x05), (.arm, 0x09), (fun n h v => .calload n h .a v, 0x5C), (fun n h v => .calload n h .b v, 0x5D),
            (fun n h v => .calload n h .c v, 0x5E), (.calloadI, 0x5F)] : List ((Nat → Hdr → Word → Instr) × Nat)),
      s.hasDown n (writePkt h x.2 v) = true → Does (x.1 n h v) s [.links, .nodes, .pans] fun t =>
        t.pan n = { s.pan n with late := (s.pan n).late ++ [(x.2, v)] } ∧ ∀ m, m ≠ n → t.pan m = s.pan m

/-- Rails start through DELAY and RAMP to REG, stop through SDELAY and SRAMP to OFF, and hold overvoltage low. For each
rail: a start command in OFF, or in FAULT without overvoltage, enters DELAY; the delay's end enters RAMP, preset to a
sensed voltage of at least 0.20 V, with VIB in diode emulation and the rail's idle phases active (privileged spares
standing by); the ramp's end enters REG at the set-point and starts the not-good watch; a stop command enters SDELAY,
the delay's end SRAMP from the target; at or below 0.20 V the rail is OFF with its phases off, and otherwise only the
voltage is noted. VIN below its warning raises the input warning, 0.2 V above it clears it. A voltage above 1.10 times
the reference for 1 us holds the rail's phases low, and within 3 % releases them. Other rails are unchanged.
(04_bus_converter.md) -/
def Obligations.RailsStartRegulateAndStop : Prop :=
  ∀ (s : State) (x : Rail),
    let q := s.rail x
    (q.st = .off ∨ (q.st = .fault ∧ q.ov = false) → Does (.railStartCommand x) s [.conv]
      (RailBecomes s x { q with st := .delay, at_ := s.now, notGood := false, watch := false })) ∧
    (∀ v, q.st = .delay → (∀ m, (s.phase m).fltN = true) → Does (.railDelayElapsed x v) s [.now, .conv, .flt] fun t =>
      t.now = max s.now (q.at_ + s.startDelay x) ∧
      RailBecomes s x { q with st := .ramp, at_ := t.now, v := v, ref := if 200 ≤ v then v else 0, de := decide (x = .vib), off := 0 } t ∧
      ∀ n ∈ s.slotsOfRail x, (s.phase n).st = .off →
        (t.phase n).st = (if s.spareSlot n then .spare else .active) ∧ (s.spareSlot n = false → (t.phase n).en = true)) ∧
    (q.st = .ramp → Does (.railRefReached x) s [.now, .conv] fun t =>
      t.now = max s.now (q.at_ + s.startRamp x * (s.railMv x - q.ref) / max 1 (s.railMv x)) ∧
      RailBecomes s x { q with st := .reg, at_ := t.now, ref := s.railMv x, inst := s.railSet x, de := false, watch := true } t) ∧
    (q.st = .reg → Does (.railStopCommand x) s [.conv] (RailBecomes s x { q with st := .sdelay, at_ := s.now, watch := false })) ∧
    (q.st = .sdelay → Does (.railStopDelayElapsed x) s [.now, .conv] fun t =>
      t.now = max s.now (q.at_ + s.stopDelay x) ∧
      t.rail x = { q with st := .sramp, at_ := t.now, ref := (s.railTarget x).toNat, rampT := s.stopRamp x, de := false } ∧
      t.conv.shedHold = some (t.now + 100 * usT)) ∧
    (∀ v, q.st = .sramp → v ≤ 200 → Does (.railDown x v) s [.conv] fun t =>
      (t.rail x).st = .off ∧ (t.rail x).v = v ∧ (∀ y, y ≠ x → t.rail y = s.rail y) ∧
      ∀ n ∈ s.slotsOfRail x, (s.phase n).st ≠ .retired → (t.phase n).st = .off ∧ (t.phase n).en = false ∧ (t.phase n).pwm = .mid) ∧
    (∀ v, q.st ≠ .sramp ∨ 200 < v → Does (.railDown x v) s [.conv] fun t => (t.rail x).st = q.st ∧ (t.rail x).v = v) ∧
    (∀ vin, vin < 100 * s.com.conv.vinWarn → s.conv.vinLow = false → Does (.vinLow vin) s [.conv, .ports] fun t =>
      t.conv.vinLow = true ∧ t.conv.vin = vin) ∧
    (∀ vin, 100 * s.com.conv.vinWarn + 200 ≤ vin → Does (.vinLow vin) s [.conv] fun t => t.conv.vinLow = false ∧ t.conv.vin = vin) ∧
    (∀ v : Nat, q.st ≠ .off → q.st ≠ .fault → q.ov = false → 11 * s.railRef x < 10 * (v : Int) → Does (.overvoltage x v) s [.now, .conv] fun t =>
      t.now = max s.now (q.ovFrom.getD s.now + usT) ∧
      RailBecomes s x { q with v := v, ovFrom := some (q.ovFrom.getD s.now), ov := true, ovAt := t.now, heldLow := true } t ∧
      ∀ n ∈ s.slotsOfRail x, (t.phase n).pwm ≠ .high) ∧
    (∀ v : Nat, q.ov = true → 97 * s.railRef x ≤ 100 * (v : Int) → 100 * (v : Int) ≤ 103 * s.railRef x →
      Does (.overvoltageClear x v) s [.conv] fun t => (t.rail x).ov = false ∧ (t.rail x).heldLow = false ∧ (t.rail x).v = v ∧
        ∀ y, y ≠ x → t.rail y = s.rail y)

/-- A rail not good, a lasting overvoltage or a bad input stop the block; recovery and retry restart it. For each rail: 2 ms
after REG, a voltage within 5 % ends the watch; outside it the rail is in FAULT in boot, and in a service state the
block halts with every phase and region off. Overvoltage that lasts 100 us halts it likewise. In boot a rail in FAULT
without overvoltage is started again once after 100 ms, and refuses the boot with 0x50 (VIB) or 0x51 at its second
fault. VIN outside its limits for 20 us while the rails are on halts the block; within them the bad time is forgotten;
100 ms of good VIN after such a halt begin the start again. (04_bus_converter.md, 17_startup.md) -/
def Obligations.RailFaultsAndInputStopsEndTheRun : Prop :=
  ∀ (s : State) (x : Rail),
    let q := s.rail x
    let halted := fun (k : Nat) (t : State) =>
      t.hw.bstate = .halted ∧ t.sys.hkind = k ∧ t.sys.stop = .none ∧ t.hw.intcause.getLsbD 5 = true ∧
      (∀ n < 40, (t.phase n).en = false ∧ (t.phase n).pwm = .mid) ∧ ∀ r ∈ s.regions, (t.reg r).seq.st = .dark
    let bad := fun v : Nat => 20 * v < 19 * s.railMv x ∨ 21 * s.railMv x < 20 * v
    (∀ v, q.watch = true → q.st = .reg → ¬ bad v → Does (.railNotGoodTimeout x v) s [.now, .conv] fun t =>
      t.now = max s.now (q.at_ + 2 * msT) ∧ RailBecomes s x { q with watch := false, v := v } t) ∧
    (∀ v, q.watch = true → q.st = .reg → bad v → s.hw.bstate = .boot → Does (.railNotGoodTimeout x v) s [.now, .conv] fun t =>
      (t.rail x).st = .fault ∧ (t.rail x).notGood = true ∧ ∀ y, y ≠ x → t.rail y = s.rail y) ∧
    (∀ v, q.watch = true → q.st = .reg → bad v → s.service = true → s.sys.nocfgRun = false →
      Does (.railNotGoodTimeout x v) s [.now, .regs, .conv, .flt, .hw, .sys] fun t => halted 5 t ∧ (t.rail x).st = .fault) ∧
    (q.ov = true → q.heldLow = true → q.st = .reg → s.service = true → s.sys.nocfgRun = false →
      Does (.overvoltagePersists x) s [.now, .regs, .conv, .flt, .hw, .sys] fun t =>
        halted 5 t ∧ (t.rail x).st = .fault ∧ t.now = max s.now (q.ovAt + 100 * usT)) ∧
    (s.stepping = true → s.sys.step = 8 → q.st = .fault → q.tried = false → q.ov = false → Does (.railFaultRetry x) s [.now, .conv] fun t =>
      t.now = max s.now (q.at_ + 100 * msT) ∧
      RailBecomes s x { q with tried := true, st := .delay, at_ := t.now, notGood := false, watch := false } t) ∧
    (s.stepping = true → s.sys.step = 8 → q.st = .fault → q.tried = true → Does (.railFaultRetry x) s [.conv, .sys] fun t =>
      t.sys.refuse = (if x = .vib then 0x50 else 0x51) ∧ t.sys.nocfgRun = false ∧ ∀ y, (t.rail y).st ≠ .reg) ∧
    (∀ vin, vin < 100 * s.com.conv.vinUnder ∨ 100 * s.com.conv.vinOver < vin → q.st ≠ .off → s.hw.bstate ≠ .halted →
      Does (.inputStop vin) s [.now, .regs, .conv, .flt, .hw, .sys] fun t =>
        halted 4 t ∧ t.sys.vinwait = true ∧ t.conv.inStop = true ∧ t.now = max s.now (s.conv.vinBadAt.getD s.now + 20 * usT)) ∧
    (∀ vin, 100 * s.com.conv.vinUnder ≤ vin → vin ≤ 100 * s.com.conv.vinOver → Does (.inputStop vin) s [.conv] fun t =>
      t.conv.vin = vin ∧ t.conv.vinBadAt = none) ∧
    (∀ a, s.conv.vinGoodAt = some a → s.hw.bstate = .halted → s.sys.hkind = 4 →
      Does .inputStopRecovery s (partsOf .inputStopRecovery) fun t =>
        t.now = max s.now (a + 100 * msT) ∧ t.hw.bstate = .guard_ ∧ t.sys.hkind = 0 ∧ t.sys.step = 1)

/-- Each region sequencer event completes with the region's next state, stage count and time. For every region: RISING with
the set-point reached 2 us long stages; 200 us without goes FALLING with the start failure set; each staging interval
adds a stage or holds, a forced one adds a stage, and the last leads to LIVE or the handover; a hold of 200 us forces
the staging; a handover ends LIVE after its time with a fence message; a fence past its time is overdue, or gives way
where the order's rank forces it; LOWERING opens one stage at a time and falls with the last; FALLING ends DARK,
RETAINED or PURGING by the target once the pans are off; the purge clamp follows after its time, a purge completes its
hold after the rail is gone, and one of 10 ms is marked slow. Times are exact lower bounds. (10_region_power.md) -/
def Obligations.RegionSequencersGoThroughTheirStates : Prop :=
  ∀ (s : State) (r : Nat),
    let q := (s.reg r).seq
    let started := fun t : State => (t.reg r).seq.st = .staging ∧
      ((t.reg r).seq.stages = q.stages + 1 ∨ ((t.reg r).seq.stages = q.stages ∧ (t.reg r).seq.holding = true))
    (q.st = .rising → (s.reg r).atSet = true → r ∉ s.stg.onsDue → q.stages < 15 → Completes (.railGood r) s fun t =>
      t.now = max s.now (max (s.reg r).modelAtSet q.lastBelow + 2 * usT) ∧ started t) ∧
    (q.st = .rising → (s.reg r).atSet = true → r ∉ s.stg.onsDue → Completes (.startfailTimeout r) s fun t =>
      t.now = max s.now ((s.reg r).modelAtSet + 200 * usT) ∧ (t.reg r).seq.st = .falling ∧ (t.reg r).seq.startfail = true ∧ r ∈ t.stg.offsDue) ∧
    (q.st = .staging → q.forced = false → q.stages < 15 → Completes (.stagingInterval r) s fun t => t.now = max s.now q.nextAt ∧ started t) ∧
    (q.st = .staging → q.forced = true → q.stages < 15 → Completes (.stagingInterval r) s fun t =>
      t.now = max s.now q.nextAt ∧ (t.reg r).seq.st = .staging ∧ (t.reg r).seq.stages = q.stages + 1 ∧ (t.reg r).seq.nextAt = t.now + stgT 64) ∧
    (q.st = .staging → q.forced = true → 15 ≤ q.stages → Completes (.stagingInterval r) s fun t =>
      t.now = max s.now q.nextAt ∧ (t.reg r).seq.st = (if q.ret then .handover else .live) ∧ (t.reg r).seq.stages = q.stages + 1) ∧
    (∀ h, q.st = .staging → q.forced = false → q.heldAt = some h → q.stages < 15 → Completes (.forcedStaging r) s fun t =>
      t.now = max s.now (h + (200 * usT - q.holdSum)) ∧ (t.reg r).seq.forced = true ∧ (t.reg r).seq.stages = q.stages + 1 ∧
      t.flt.tally.get 0 (tallyKey 0x0E r 0) = s.flt.tally.get 0 (tallyKey 0x0E r 0) + 1) ∧
    (q.st = .handover → q.ret = true → Completes (.handoverTret r) s fun t =>
      t.now = max s.now (q.at_ + s.tretT r) ∧ (t.reg r).seq.st = .live ∧ (t.reg r).seq.ret = false ∧ (t.reg r).seq.stages = q.stages ∧
      t.ports.fence = s.ports.fence ++ [fenceWord 2 0 0 r]) ∧
    (q.st = .fencing → s.com.guardStop = false → s.forcedRank r = false → Completes (.fenceTimeout r) s fun t =>
      t.now = max s.now (q.at_ + msT * (s.com.reg r).fenceto) ∧ (t.reg r).seq.st = .fencing ∧ (t.reg r).seq.overdue = true) ∧
    (q.st = .fencing → s.com.guardStop = false → s.forcedRank r = true → 0 < q.stages → Completes (.fenceTimeout r) s fun t =>
      t.now = max s.now (q.at_ + msT * (s.com.reg r).fenceto) ∧ (t.reg r).seq.st = .lowering ∧ (t.reg r).seq.target = q.target ∧
      t.flt.tally.get 0 (tallyKey 0x0E r 1) = s.flt.tally.get 0 (tallyKey 0x0E r 1) + 1) ∧
    (q.st = .lowering → 1 < q.stages → Completes (.stageOpen r) s fun t =>
      t.now = max s.now q.nextAt ∧ (t.reg r).seq.st = .lowering ∧ (t.reg r).seq.stages = q.stages - 1 ∧ (t.reg r).seq.nextAt = t.now + 1200) ∧
    (q.st = .lowering → q.stages = 1 → Completes (.stageOpen r) s fun t =>
      t.now = max s.now q.nextAt ∧ (t.reg r).seq.st = .falling ∧ (t.reg r).seq.stages = 0 ∧ r ∈ t.stg.offsDue) ∧
    (q.st = .falling → s.pansOff r = true → r ∉ s.stg.offsDue → q.failSeen = false → q.target = 0 → Completes (.fallingComplete r) s fun t =>
      (t.reg r).seq.st = .dark ∧ (t.reg r).seq.ret = false ∧ (t.reg r).seq.prg = false) ∧
    (q.st = .falling → s.pansOff r = true → r ∉ s.stg.offsDue → q.failSeen = false → q.target = 2 → Completes (.fallingComplete r) s fun t =>
      (t.reg r).seq.st = .retained ∧ (t.reg r).seq.ret = true ∧ (t.reg r).seq.prg = false) ∧
    (q.st = .falling → s.pansOff r = true → r ∉ s.stg.offsDue → q.failSeen = false → q.target = 3 → Completes (.fallingComplete r) s fun t =>
      (t.reg r).seq.st = .purging ∧ (t.reg r).seq.ret = false ∧ (t.reg r).seq.prg = false ∧ (t.reg r).seq.prgDue = some (s.now + s.tretT r)) ∧
    (∀ a, q.prgDue = some a → Completes (.purgeClampTret r) s fun t =>
      t.now = max s.now a ∧ (t.reg r).seq.prg = true ∧ (t.reg r).seq.prgDue = none ∧ (t.reg r).seq.agoneAt = t.now) ∧
    (q.st = .purging → q.agone = true → q.prg = true → q.ret = false → Completes (.purgeComplete r) s fun t =>
      t.now = max s.now (q.agoneAt + 10 * usT * (s.com.reg r).purgehold) ∧ (t.reg r).seq.st = .purged ∧ (t.reg r).seq.purged = true ∧
      (t.reg r).seq.purgeslow = false ∧ t.ports.fence = s.ports.fence ++ [fenceWord 5 0 0 r]) ∧
    (q.st = .purging → Completes (.purgeslow r) s fun t =>
      t.now = max s.now (q.at_ + 10 * msT) ∧ (t.reg r).seq.purgeslow = true ∧ (t.reg r).seq.st = .purging)

/-- Every hint is counted by its verdict; a good one reaches its slots, windows and staged words. For every attached hint
source: a hint whose verdict is not good is counted and changes neither engine nor staging; a good PHASE hint reaches
its slots and stages the phase, BATCH, KVGROW and STEP reach their slots, BARRIER announces the arrival with its slack,
BWAIT opens or closes the window, CONTEXT stages the context. A hint word with a bad CRC-8 is counted, one with a good
CRC acts as its type; an activity frame is counted when its CRC-16 is bad or it may not be used, and otherwise feeds its
slot. HNT_RDY rising attaches the source with its version, falling detaches it. Clauses on good hints name one region
(not ALL); the staging queue has room. (12_hints_shim_ledger.md, 18_ports_clocks.md) -/
def Obligations.HintsAreTakenOrCounted : Prop :=
  ∀ (s : State) (x : Hint), (s.hsrc x.src).attached = true → x.src < 16 →
    let p := s.hsrc x.src
    let counted := fun (ty : Nat) (t : State) => t.hsrc x.src = hintCount s.now (s.hintVerdict ty x) x p
    let room := s.stg.hand.writes.length + s.stg.queue.length < 2048
    (∀ c ∈ [(Instr.phase x, 1), (Instr.batch x, 2), (Instr.kvgrow x, 3), (Instr.barrier x, 4), (Instr.bwait x, 5), (Instr.step x, 6), (Instr.context x, 7)],
      s.hintVerdict c.2 x ≠ 0 → Completes c.1 s fun t => counted c.2 t ∧ t.eng = s.eng ∧ t.stg = s.stg) ∧
    (x.all = false → s.hintVerdict 1 x = 0 → room → Completes (.phase x) s fun t =>
      counted 1 t ∧ Posted s (.hint 1 x.region) (hintSlot 1 x) t ∧
      { cw := .phase x.region (hphaseOf (hfield x 0 2)), src := .decoder } ∈ t.stg.queue) ∧
    (x.all = false → s.hintVerdict 2 x = 0 → Completes (.batch x) s fun t => counted 2 t ∧ Posted s (.hint 2 x.region) (hintSlot 2 x) t) ∧
    (x.all = false → s.hintVerdict 3 x = 0 → Completes (.kvgrow x) s fun t => counted 3 t ∧ Posted s (.hint 3 x.region) (hintSlot 3 x) t) ∧
    (x.all = false → s.hintVerdict 4 x = 0 → Completes (.barrier x) s fun t =>
      counted 4 t ∧ Posted s (.hint 4 x.region) (hintSlot 4 x) t ∧ (t.reg x.region).krf.annAt = some (s.now + 240 * hfield x 8 16) ∧
      (t.reg x.region).krf.slack = (BitVec.ofNat 16 (hfield x 24 16)).toInt ∧ (t.reg x.region).krf.slackAt = some s.now) ∧
    (x.all = false → s.hintVerdict 5 x = 0 → Completes (.bwait x) s fun t =>
      counted 5 t ∧ Posted s (.hint 5 x.region) (hintSlot 5 x) t ∧
      (t.reg x.region).krf.win = (if hfield x 8 1 = 1 then 1 else 0) ∧
      (hfield x 8 1 = 1 → (t.reg x.region).krf.annAt = none)) ∧
    (x.all = false → s.hintVerdict 6 x = 0 → Completes (.step x) s fun t => counted 6 t ∧ Posted s (.hint 6 x.region) (hintSlot 6 x) t) ∧
    (x.all = false → s.hintVerdict 7 x = 0 → room → Completes (.context x) s fun t =>
      counted 7 t ∧ t.eng = s.eng ∧ { cw := .context x.region (max 1 (hfield x 0 20)), src := .decoder } ∈ t.stg.queue) ∧
    (∀ w : BitVec 72, crc8 (bytesBE 8 (w.toNat / 256)) ≠ w.toNat % 256 → Completes (.hintWordCheck x.src w) s fun t =>
      t.hsrc x.src = { p with check := p.check + 1 } ∧ t.eng = s.eng ∧ t.stg = s.stg) ∧
    (∀ w : BitVec 72, crc8 (bytesBE 8 (w.toNat / 256)) = w.toNat % 256 → x = hintOf x.src w → s.hintVerdict (w.toNat / 2 ^ 68) x ≠ 0 →
      Completes (.hintWordCheck x.src w) s fun t => counted (w.toNat / 2 ^ 68) t ∧ t.eng = s.eng ∧ t.stg = s.stg) ∧
    (∀ w : BitVec 72, crc8 (bytesBE 8 (w.toNat / 256)) = w.toNat % 256 → x = hintOf x.src w → x.all = false → w.toNat / 2 ^ 68 = 6 → s.hintVerdict 6 x = 0 →
      Completes (.hintWordCheck x.src w) s fun t => counted 6 t ∧ Posted s (.hint 6 x.region) (hintSlot 6 x) t) ∧
    (∀ seq counts (crc : BitVec 16), crc16 (frameBytes seq counts) ≠ crc.toNat → Completes (.activityFrame x.src seq counts crc) s fun t =>
      t.hsrc x.src = { p with check := p.check + 1 } ∧ t.eng = s.eng) ∧
    (∀ seq counts (crc : BitVec 16), crc16 (frameBytes seq counts) = crc.toNat →
      s.hintState = false ∨ p.ver ≤ 1 ∨ (s.com.hnt.get {} x.src).aen = false → Completes (.activityFrame x.src seq counts crc) s fun t =>
        t.hsrc x.src = { p with other := p.other + 1 } ∧ t.eng = s.eng) ∧
    (∀ seq counts (crc : BitVec 16) a v, crc16 (frameBytes seq counts) = crc.toNat → s.hintState = true → 1 < p.ver → (s.com.hnt.get {} x.src).aen = true →
      (s.sys.image.actList.get [] x.src).zip counts = [(a, v)] → Completes (.activityFrame x.src seq counts crc) s fun t =>
        Posted s (.activity a) (v.setWidth 32) t ∧ t.hsrc x.src = p) ∧
    (∀ ver : BitVec 4, Completes (.hntRdyRise x.src ver) s fun t =>
      t.hsrc x.src = { p with attached := true, ver := min 2 ver.toNat, first := true, lastAt := none }) ∧
    (Completes (.hntRdyFall x.src) s fun t => t.hsrc x.src = { p with attached := false })

/-- Shim windows open, taper and close; fence messages and kerf words are taken and sent. An announced arrival opens the
announced window at its time, and the wait's end closes it. The shim begins with the first window, keeps its current and
floor, begins the taper after the hold and its board slot's stagger, steps every 100 us by the slope in the taper, and
ends with every window closed when the taper reaches zero or 100 us after the last window. A DRAINED message with the
region's tag moves a fencing region with stages on to LOWERING; a power request is refused with a message where its
order is none, and staged where the region may take it; a message with an error changes neither the fence queue nor
staging; the kerf lane sends every region's present ratios again. (12_hints_shim_ledger.md, 10_region_power.md,
11_budget_kerf.md, 18_ports_clocks.md) -/
def Obligations.ShimWindowsAndFencesMove : Prop :=
  ∀ (s : State) (r : Nat),
    let k := (s.reg r).krf
    let q := (s.reg r).seq
    (∀ a, k.annAt = some a → Completes (.shimAnnouncedArrival r) s fun t =>
      t.now = max s.now a ∧ (t.reg r).krf.annAt = none ∧ (t.reg r).krf.win = (if k.win = 0 then 2 else k.win)) ∧
    (k.win = 2 → Completes (.annwaitExpiry r) s fun t =>
      t.now = max s.now (k.winAt + 10 * usT * s.com.shim.annwait) ∧ (t.reg r).krf.win = 0) ∧
    (s.shim.st = 0 → s.windows ≠ [] → Completes .shimOnset s fun t =>
      t.shim.st = 1 ∧ t.shim.iref = s.irefNow ∧ t.shim.f = s.com.shim.floor * s.irefNow / 10 ∧ t.shim.onset = s.now ∧ t.shim.updAt = s.now) ∧
    (s.shim.st = 1 → Completes .taperStart s fun t =>
      t.now = max s.now (s.shim.tref + 10 * usT * s.com.shim.hold + s.com.shim.slot * (10 * usT * s.com.shim.stag)) ∧
      t.shim.st = 2 ∧ t.shim.updAt = t.now ∧ t.shim.f = s.shim.f) ∧
    (s.shim.st ≠ 0 → Completes .shimTargetUpdate s fun t =>
      t.now = max s.now (s.shim.updAt + 100 * usT) ∧ t.shim.updAt = t.now ∧ t.shim.st = s.shim.st ∧
      t.shim.f = (if s.shim.st = 2 then s.shim.f - s.com.shim.slope else s.shim.f)) ∧
    (s.shim.st = 2 → s.shim.f = 0 → Completes .shimIdle s fun t => t.shim.st = 0 ∧ ∀ r ∈ s.regions, (t.reg r).krf.win = 0) ∧
    (∀ a, s.shim.st = 1 → s.shim.noneAt = some a → s.windows = [] → Completes .shimIdle s fun t =>
      t.now = max s.now (a + 100 * usT) ∧ t.shim.st = 0 ∧ ∀ r ∈ s.regions, (t.reg r).krf.win = 0) ∧
    (∀ tag, s.fenceOpen = true → s.hasReg r = true → q.st = .fencing → q.tag = some tag → 0 < q.stages → Completes (.drained tag r) s fun t =>
      (t.reg r).seq.st = .lowering ∧ (t.reg r).seq.target = q.target ∧ (t.reg r).seq.tag = none) ∧
    (∀ tag (arg : BitVec 4), s.fenceOpen = true → orderOfCode arg.toNat = none ∨ orderOfCode arg.toNat = some .none → Completes (.request tag arg r) s fun t =>
      t.ports.fence = s.ports.fence ++ [fenceWord 4 tag 2 r] ∧ t.stg = s.stg) ∧
    (∀ tag (arg : BitVec 4) o, s.fenceOpen = true → orderOfCode arg.toNat = some o → o ≠ .none → s.hasReg r = true → (s.rimg r).rail ≠ .vret →
      s.hw.bstate = .run ∨ s.hw.bstate = .unattended → s.stg.hand.writes.length + s.stg.queue.length < 2048 → Completes (.request tag arg r) s fun t =>
        { cw := .order r 0 o, src := .accel, tag := some tag } ∈ t.stg.queue) ∧
    (∀ w, Completes (.fenceMessageDiscard w) s fun t => t.ports.fence = s.ports.fence ∧ t.stg = s.stg) ∧
    (Completes .kerfResend s fun t =>
      ∀ r ∈ s.regions, t.ports.krf.get (60, 0) r = ((t.reg r).krf.kPres, (t.reg r).krf.sPres) ∧ t.ports.krfAt.get 0 r = s.now)

/-- Tide frames of a known peer credit, confirm, advertise or expel; bad ones are discarded and counted. For a member die
and a peer whose incarnation is current and not expelled: a good XFER whose case is credit adds its grains to the
holding and is counted, a duplicate or one beyond the window changes neither; XACK clears the confirmed escrow; ADVERT
takes the peer's figures; STALE marks the escrow superseded; EXPELLED of the die's own incarnation ends its membership.
A frame that fails its checks is only counted, whether it arrives as a command, as bytes or over the fabric, and good
fabric bytes act as their frame. A raised holding is staged; a window of 100 us refreshes the figures; an escrow's retry
changes no holding; a peer silent for its dead time is dead and counted; 1 ms without figures marks them stale.
(13_tide.md, 18_ports_clocks.md) -/
def Obligations.TideFramesAndWindowsAreTaken : Prop :=
  ∀ (s : State) (f : TideFrame) (p : Nat), s.peerOf f.src = some p → s.tide.st = .member →
    (s.com.tide.peers.get {} p).expinc < f.sinc → (s.tpeer p).inc = f.sinc →
    let x := s.tpeer p
    let case_ := xferCase s.tide.inc (s.com.tide.peers.get {} p).expinc x.inc x.base x.mask f
    let ok := fun ty : Byte => s.frameOk { f with ty := ty } = true
    (ok 1 → case_ = .credit → Completes (.xfer f) s fun t =>
      t.tide.h = s.tide.h + f.grains ∧ t.tide.raised = true ∧ (t.tpeer p).rx = x.rx + f.grains ∧ (t.tpeer p).live = true ∧
      t.flt.tally.get 0 (tallyKey 8 0 1) = s.flt.tally.get 0 (tallyKey 8 0 1) + 1) ∧
    (ok 1 → case_ = .duplicate ∨ case_ = .beyond → Completes (.xfer f) s fun t => t.tide.h = s.tide.h ∧ (t.tpeer p).rx = x.rx) ∧
    (ok 2 → Completes (.xack f) s fun t =>
      t.tide.escrow = s.tide.escrow.filter fun e => !(decide (e.peer = p) && decide (e.inc = f.sinc) && decide (e.seq = f.seq))) ∧
    (ok 3 → Completes (.advert f) s fun t => let y := t.tpeer p
      y.advAt = some s.now ∧ y.urg = f.urg ∧ y.offer = f.offer ∧ y.want = f.want ∧ y.hold = f.hold ∧ y.flags = f.flags ∧ y.live = true ∧ y.lastAt = s.now) ∧
    (ok 4 → Completes (.stale f) s fun t =>
      t.tide.escrow = s.tide.escrow.map fun e => if e.peer = p ∧ e.inc = f.dinc ∧ e.seq = f.seq then { e with superseded := true } else e) ∧
    (ok 5 → f.dinc = s.tide.inc → Completes (.expelled f) s fun t =>
      t.tide.st = .expelled ∧ t.tide.texpel = true ∧ t.tide.escrow = [] ∧ t.tide.plans = [] ∧ ∃ w ∈ t.stg.queue, w.cw = .holding (some 0)) ∧
    (∀ c ∈ [(Instr.xfer f, (1 : Byte)), (Instr.xack f, 2), (Instr.advert f, 3), (Instr.stale f, 4), (Instr.expelled f, 5)], ¬ ok c.2 →
      Completes c.1 s fun t => t.tide = { s.tide with disc := s.tide.disc + 1 }) ∧
    (∀ bytes, parseTide bytes = none → Completes (.tideFrameDiscard bytes) s fun t => t.tide = { s.tide with disc := s.tide.disc + 1 }) ∧
    (∀ bytes, parseTide bytes = none → Completes (.fabFrame bytes) s fun t => t.tide = { s.tide with disc := s.tide.disc + 1 }) ∧
    (∀ bytes, parseTide bytes = some { f with ty := 3 } → ok 3 → Completes (.fabFrame bytes) s fun t =>
      (t.tpeer p).offer = f.offer ∧ (t.tpeer p).want = f.want ∧ (t.tpeer p).hold = f.hold ∧ (t.tpeer p).lastAt = s.now) ∧
    (s.tide.raised = true → s.sys.ready = true → s.tide.planned = false → Completes .tideCreditStage s fun t =>
      t.tide.raised = false ∧ ∃ w ∈ t.stg.queue, w.cw = .holding (some (min (s.tide.h - s.tide.pendingDebits) (tideCeil s.com.tide)))) ∧
    (Completes .tideWindow s fun t => t.now = max s.now (s.tide.winAt + 100 * usT) ∧ t.tide.winAt = s.tide.winAt + 100 * usT ∧
      (s.sys.ready = true → t.tide.figAt = t.now ∧ t.tide.staleFig = false)) ∧
    (∀ e ∈ s.tide.escrow, e.superseded = false → Completes (.escrowRetry e.peer e.seq) s fun t => s.now ≤ t.now ∧ t.tide.h = s.tide.h) ∧
    (x.live = true → Completes (.peerDead p) s fun t =>
      t.now = max s.now (x.lastAt + msT * s.com.tide.deadtime) ∧ (t.tpeer p).live = false ∧ (t.tpeer p).dead = true ∧
      t.flt.tally.get 0 (tallyKey 8 0 5) = s.flt.tally.get 0 (tallyKey 8 0 5) + 1) ∧
    (s.sys.ready = false → Completes .tideFiguresStale s fun t => t.now = max s.now (s.tide.figAt + msT) ∧ t.tide.staleFig = true)

/-- Die-to-die links train, lock, carry tide, shim, presence and droop frames, and go down. For each enabled die link:
training takes the lower rate and the common features, a lock brings the link up, a lock timeout of 1 ms lowers the rate
or ends training, 100 us without a frame take the link down, and 100 ms later it trains again. A frame with a bad CRC is
counted. A presence frame records the peer's slot, a miswiring and the die at that slot. A tide frame for the die is
taken, one for another is forwarded on its route; a shim onset of another die is kept and forwarded, a droop alert sets
PEERDROOP for 1 ms and is forwarded, each once. PEERDROOP ends at its time, presence is sent every 10 us, and FAB_UP is
kept. (18_ports_clocks.md, 13_tide.md, 12_hints_shim_ledger.md) -/
def Obligations.DieLinksTrainCarryFramesAndGoDown : Prop :=
  ∀ (s : State) (p : Nat), s.dvtOn p = true →
    let d := s.dvt p
    (∀ cap, d.up = false → Completes (.dvtTraining p cap) s fun t => let y := t.dvt p
      y.rate = min (cap.toNat % 16) (s.com.tide.dvtMax.get 3 p) ∧ y.feat = (cap >>> 4).setWidth 4 &&& ownFeatures ∧
      y.training = y.feat.getLsbD 3 ∧ y.up = false ∧ y.trainAt = s.now) ∧
    (d.training = true → Completes (.dvtLock p) s fun t =>
      (t.dvt p).up = true ∧ (t.dvt p).training = false ∧ (t.dvt p).lastAt = s.now ∧ (t.dvt p).rate = d.rate ∧ (t.dvt p).feat = d.feat) ∧
    (d.training = true → Completes (.dvtLockTimeout p) s fun t =>
      t.now = max s.now (d.trainAt + msT) ∧ (t.dvt p).trainAt = t.now ∧ (t.dvt p).training = decide (d.rate ≠ 0) ∧ (t.dvt p).rate = d.rate - 1) ∧
    (d.up = true → Completes (.dvtLinkDown p) s fun t =>
      t.now = max s.now (d.lastAt + 100 * usT) ∧ (t.dvt p).up = false ∧ (t.dvt p).trainAt = t.now) ∧
    (d.up = false → d.training = false → Completes (.dvtRetrain p) s fun t =>
      t.now = max s.now (d.trainAt + 100 * msT) ∧ (t.dvt p).rate = 0 ∧ (t.dvt p).trainAt = t.now) ∧
    (d.up = true → Completes (.dvtFrameCrcError p) s fun t => t.dvt p = { d with crcErr := d.crcErr + 1 }) ∧
    (d.up = true → ∀ origin die group, Completes (.presence p origin die group) s fun t =>
      (t.dvt p).pslot = origin % 16 ∧ (t.dvt p).lastAt = s.now ∧ ((t.dvt p).miswire = true ↔ origin % 16 ≠ s.com.tide.dvtSlot.get 0 p) ∧
      t.ports.slots.get 0 (origin % 16) = die % 2 ^ 20 + 1) ∧
    (s.dvtCarries p 1 = true → ∀ bytes, bytes.length = 67 → bytes.head? = some 1 →
      (leAt (bytes.drop 3) 2 3 = s.com.tide.dieId → parseTide (bytes.drop 3) = none → Completes (.dvtTideFrame p bytes) s fun t =>
        t.tide.disc = s.tide.disc + 1 ∧ (t.dvt p).lastAt = s.now) ∧
      (∀ k, leAt (bytes.drop 3) 2 3 ≠ s.com.tide.dieId → ((s.dvtHeard p).slotOfDie (leAt (bytes.drop 3) 2 3)).bind (s.dvtHeard p).dvtRoute = some k →
        Completes (.dvtTideFrame p bytes) s fun t => (t.dvt k).tx = (s.dvt k).tx ++ [(1, bytes)] ∧ t.tide = s.tide)) ∧
    (s.dvtCarries p 2 = true → ∀ origin hop, origin ≠ s.com.tide.bslot → Completes (.dvtShimOnset p origin hop) s fun t =>
      s.now ∈ t.shim.peers ∧ (s.shim.st ≠ 0 → t.shim.tref = min s.shim.tref s.now) ∧
      (seenLately s.now s.ports.seenOnset origin = false → hop + 1 < s.com.tide.ndies → ∀ q < 4, q ≠ p → s.dvtCarries q 2 = true →
        (t.dvt q).tx = (s.dvt q).tx ++ [(2, dvtBytes 2 origin (hop + 1) [])])) ∧
    (s.dvtCarries p 4 = true → ∀ origin, Completes (.droopAlert p origin) s fun t =>
      t.ports.peerDroop = some (s.now + msT) ∧ t.ports.dslot = origin % 16 ∧
      (origin ≠ s.com.tide.bslot → seenLately s.now s.ports.seenAlert origin = false → ∀ q < 4, q ≠ p → s.dvtCarries q 4 = true →
        (t.dvt q).tx = (s.dvt q).tx ++ [(4, [BitVec.ofNat 8 origin])])) ∧
    (∀ e, s.ports.peerDroop = some e → Completes .peerdroopExpiry s fun t => t.now = max s.now e ∧ t.ports.peerDroop = none) ∧
    (Completes .presenceTimer s fun t => t.now = max s.now (s.ports.presAt + 10 * usT) ∧ t.ports.presAt = t.now ∧
      ∀ q < 4, s.com.tide.dvtEn.getLsbD q = true → (s.dvt q).up = true → (s.dvt q).feat.getLsbD (dvtFeature 3) = true →
        (t.dvt q).tx = (s.dvt q).tx ++ [(3, dvtBytes 3 s.com.tide.bslot 0 (leBytes 3 s.com.tide.dieId ++ leBytes 4 s.com.tide.group))]) ∧
    (∀ b, Completes (.fabUpChange b) s fun t => t.ports.fabUp = b)

/-- Thermal outputs, diode readings, bands, thermal orders and margin monitors complete as stated. With the firmware ready:
a region whose thermal output goes stale is marked and asks for a diode reading, and so does the rise of its low
confidence; a good reading is kept, fed to its slot and may move the band, one at 118 C or above stops the block at
once, a failed one is marked. TINLET takes its substitute; bands are evaluated from the extremes; 10 ms in B5 without
relief stage a thermal order, 100 ms in B3 or lower release it. A monitor read asks the live region's four monitors or
takes none; answers reach their slots and the least slack; a silent monitor ends the read after 10 us; a guardband
request, at most every 10 ms, is staged within 12 to 50; the guard keeps a good out0 value that calls for no stop.
(14_thermal_margin.md, 18_ports_clocks.md) -/
def Obligations.ThermalReadingsBandsAndOrdersComplete : Prop :=
  ∀ (s : State) (r : Nat), s.sys.ready = true → s.hasReg r = true →
    let h := (s.reg r).th
    let staged := fun (c : CW) (t : State) => ∃ w ∈ t.stg.queue, w.cw = c
    ((s.rimg r).thLoop ≠ none → Completes (.thstale r) s fun t => let g := (t.reg r).th
      t.now = max s.now (if h.stale = true then h.staleQ + 10 * msT else h.out0At + msT) ∧ g.stale = true ∧ g.staleQ = t.now ∧ r ∈ t.sys.diodeQ) ∧
    (∀ o, Completes (.lowconfQueue r o) s fun t => let g := (t.reg r).th
      g.sigBit = bitOf o 24 ∧ g.lowconf = (h.lowconf || (bitOf o 24 && !h.sigBit)) ∧ (bitOf o 24 = true → h.sigBit = false → r ∈ t.sys.diodeQ)) ∧
    (∀ x : Int, r ∈ s.sys.diodeQ → s.sys.coreRun = true → -1280 ≤ x → x < shutLevel → Completes (.diodeReadingComplete r (some x)) s fun t => let g := (t.reg r).th
      r ∉ t.sys.diodeQ ∧ g.tdio = BitVec.ofInt 16 x ∧ g.dseq = h.dseq + 1 ∧ g.dfail = false ∧ g.lowconf = false ∧ g.forcedDone = true ∧
      Posted s (.firmware fwDiode r 0) (BitVec.ofInt 32 x) t ∧
      (nextBand (s.com.reg r).band x x ≠ (s.com.reg r).band → staged (.band r (nextBand (s.com.reg r).band x x)) t)) ∧
    (∀ x : Int, r ∈ s.sys.diodeQ → s.hw.bstate ≠ .halted → shutLevel ≤ x → x ≤ 9600 → Completes (.diodeReadingComplete r (some x)) s fun t =>
      t.hw.bstate = .halted ∧ t.sys.hkind = 2 ∧ t.sys.shCause.getLsbD 1 = true ∧ (t.reg r).th.tdio = BitVec.ofInt 16 x) ∧
    (∀ x, r ∈ s.sys.diodeQ → s.hw.bstate ≠ .boot → (∀ y, x = some y → y < -1280 ∨ 9600 < y) → Completes (.diodeReadingComplete r x) s fun t => let g := (t.reg r).th
      r ∉ t.sys.diodeQ ∧ g.dfail = true ∧ g.dseq = h.dseq + 1 ∧ g.tdio = h.tdio ∧ g.lowconf = h.lowconf) ∧
    (∀ a, s.ports.inletAt = some a → Completes .tinletSubstitution s fun t =>
      t.now = max s.now (a + secT) ∧ t.ports.inletAt = none ∧ Posted s (.firmware fwTin 0 0) (BitVec.ofNat 32 (64 * s.com.tinlet)) t) ∧
    (Completes .bandEvaluation s fun t => ∀ k ∈ s.regions, (t.reg k).th.coreMax = none ∧ (t.reg k).th.coreMin = none ∧
      ∀ hi lo, (s.reg k).th.coreMax = some hi → (s.reg k).th.coreMin = some lo → nextBand (s.com.reg k).band hi lo ≠ (s.com.reg k).band →
        staged (.band k (nextBand (s.com.reg k).band hi lo)) t) ∧
    ((s.com.reg r).band = 5 → (s.com.reg r).ths = .none → 0 < h.slope → Completes (.thermalRegionOrder r) s fun t =>
      t.now = max s.now (h.b5At + 10 * msT) ∧ staged (.order r 3 (if (s.rimg r).retPart.isSome = true then .retention else .off)) t) ∧
    (∀ a, h.lowAt = some a → (s.com.reg r).ths ≠ .none → (s.com.reg r).band ≤ 3 → Completes (.thermalOrderRelease r) s fun t =>
      t.now = max s.now (a + 100 * msT) ∧ staged (.order r 3 .none) t) ∧
    ((s.rimg r).monitors = true → (s.reg r).seq.st = .live → (s.reg r).atSet = true → Completes (.monitorRead r) s fun t => let g := (t.reg r).th
      g.mmreq = true ∧ g.mmsel = 0 ∧ g.mmAt = s.now ∧ g.mmVals = []) ∧
    ((s.rimg r).monitors = true → (s.reg r).seq.st ≠ .live ∨ (s.reg r).atSet = false → Completes (.monitorRead r) s fun t =>
      ∀ m < 4, Posted s (.firmware fwMmon r m) noSlack t) ∧
    (∀ x : BitVec 12, h.mmreq = true → h.mmsel < 4 → Completes (.monitorAnswer r h.mmsel x) s fun t => let g := (t.reg r).th
      Posted s (.firmware fwMmon r h.mmsel) (x.signExtend 32) t ∧ g.mmVals = h.mmVals ++ [x] ∧ g.mmsel = h.mmsel + 1 ∧
      g.mmreq = decide (h.mmsel < 3) ∧ g.lslack.toInt = min (x.signExtend 16).toInt h.lslack.toInt) ∧
    (h.mmreq = true → Completes (.monitorAnswerTimeout r) s fun t =>
      t.now = max s.now (h.mmAt + 10 * usT) ∧ (t.reg r).th.mmreq = false ∧ ∀ m < 4, Posted s (.firmware fwMmon r m) noSlack t) ∧
    (∀ w, (s.rimg r).monitors = true → ufield w 16 16 ≠ 0x8000 → h.trimmed = false ∨ h.trimAt + 10 * msT ≤ s.now → Completes (.guardbandTrim r w) s fun t =>
      (t.reg r).th.trimmed = true ∧ (t.reg r).th.trimAt = s.now ∧
      let g := (clampI ((s.com.reg r).gb + sfield w 0 8) 12 50).toNat
      (g ≠ (s.com.reg r).gb → staged (.guardband r g) t)) ∧
    (∀ w, s.hw.bstate ≠ .off → ufield w 16 16 ≠ 0x8000 → sfield w 0 16 < shutLevel → sfield w 16 16 ≤ 0 → Completes (.hubGuardThermalInput r w) s fun t => let g := (t.reg r).th
      g.td = sfield w 0 16 ∧ g.slope = sfield w 16 16 ∧ g.out0At = s.now ∧ g.stale = false ∧ g.anchored = true ∧ g.b5At = s.now ∧ t.hw.bstate = s.hw.bstate)

/-- Stops drain, darken the regions, take the rails down and end as their kind says; a coolant stop acts at once. Under a
guard stop that is not the coolant's: the drain timeout ends the drain and no core region stays FENCING; with the core
regions dark, the VRET regions go down, and with the management core running the ledger is flushed and the tallies are
taken; with every rail down, a power-down ends halted as kind 6, a warm reset begins the start again, and every other
stop ends halted as kind 1. A coolant loss of 50 us latches its cause and halts the block with every region dark; its
rail stop, at once when every pan is known off and else after 100 us, ramps the regulating rails down in at most 50 ms.
(14_thermal_margin.md, 09_setpoints_glueup.md, 17_startup.md, 04_bus_converter.md) -/
def Obligations.StopsRunDownToTheirEnd : Prop :=
  ∀ s : State,
    let y := s.sys
    let down := ∀ x ∈ [Rail.vib, .vqa, .vqc], (s.rail x).st = .off ∨ (s.rail x).st = .fault
    (y.stop ≠ .none → y.stop ≠ .coolant → s.com.guardStop = true → Completes .drainTimeout s fun t =>
      t.now = max s.now (y.stopAt + 240000 * s.com.tdrain) ∧ t.sys.drainDone = true ∧ t.sys.stopStep = max y.stopStep 3 ∧
      ∀ r ∈ s.coreRegions, (t.reg r).seq.st ≠ .fencing) ∧
    (y.stop ≠ .none → y.stop ≠ .coolant → s.com.guardStop = true → y.stopStep < 5 → (∀ r ∈ s.coreRegions, (s.reg r).seq.st = .dark) →
      Completes .stopRegionsDark s fun t => t.sys.stopStep = 5 ∧ (y.coreRun = true → t.flt.harvesting = true) ∧
        (∀ r ∈ s.regions, (s.rimg r).rail = .vret → (t.reg r).seq.st = .dark ∨ (t.reg r).seq.st = .lowering ∨ (t.reg r).seq.st = .falling) ∧
        (y.coreRun = true → ∀ x ∈ t.led.cache, x.dirty = true → x.ready = true → x.wb.isSome = true)) ∧
    (s.hw.bstate = .stopping → y.stopStep = 5 → down →
      (y.stop = .pdown → Completes .stopRailsDown s fun t => t.hw.bstate = .halted ∧ t.sys = { y with stop := .none, stopStep := 7, hkind := 6 }) ∧
      (y.stop ≠ .pdown → y.stop ≠ .warm → Completes .stopRailsDown s fun t => t.hw.bstate = .halted ∧ t.sys = { y with stop := .none, stopStep := 7, hkind := 1 }) ∧
      (y.stop = .warm → y.hkind = 0 ∨ y.hkind = 4 → Completes .stopRailsDown s fun t =>
        t.hw.bstate = .guard_ ∧ t.sys.step = 1 ∧ t.sys.coreRun = false ∧ t.sys.stop = .none ∧ t.now = s.now)) ∧
    (s.ports.flowN = true → s.hw.bstate ≠ .off → y.stop ≠ .coolant → s.hw.bstate ≠ .halted ∨ y.hkind = 0 → Completes .coolantStop s fun t =>
      t.now = max s.now (s.ports.flowAt + 50 * usT) ∧ t.sys.stop = .coolant ∧ t.sys.stopStep = 1 ∧ t.sys.stopAt = t.now ∧ t.sys.hkind = 3 ∧
      t.sys.shCause.getLsbD 3 = true ∧ t.sys.shLatched = true ∧ t.hw.bstate = .halted ∧ ∀ r ∈ s.regions, (t.reg r).seq.st = .dark) ∧
    (y.stop = .coolant → y.stopStep < 3 → Completes .coolantRailStop s fun t =>
      t.now = (if s.panKeys.all (fun n => !s.knownOn n) = true then s.now else max s.now (y.stopAt + 100 * usT)) ∧ t.sys.stopStep = 3 ∧
      (∀ x, (s.rail x).st = .reg → (t.rail x).st = .sramp ∧ (t.rail x).at_ = t.now ∧ (t.rail x).rampT = min 50 (s.stopRamp x)) ∧
      (∀ x, (s.rail x).st = .off → t.rail x = s.rail x) ∧ (y.coreRun = true → t.flt.harvesting = true))

/-- Ledger write-backs, fetches and queries, harvests, tally values and configuration saves complete. A dirty ready ledger
line is taken for write-back; its completion stores the value and leaves the line dirty only where it has changed since,
a failed one keeps it and raises the fault, which clears after 1 ms; a fetch adds the stored record; a query is answered
with its interrupt; a clear goes on over the contexts. A due harvest takes the tallies and, when stored, writes them
with the next sequence number to one of the two records, clears the named loops' flags and the fault, and when not
stored keeps the totals and sets the fault, which a retry repairs. A tally value is read with its epoch and generation;
a configuration save stores the installer's words and the thermal words or records its failure.
(12_hints_shim_ledger.md, 15_faults_spares.md, 16_firmware_host.md, 17_startup.md) -/
def Obligations.LedgerAndTallyWorkCompletes : Prop :=
  ∀ s : State,
    (∀ ctx x, s.led.line ctx = some x → x.dirty = true → x.ready = true → x.wb = none → Completes (.ledgerWriteBack ctx) s fun t =>
      t.led.line ctx = some { x with wb := some x.ent } ∧ t.led.mem = s.led.mem) ∧
    (∀ ctx x v, s.led.line ctx = some x → x.wb = some v → s.led.st ≠ 3 → Completes (.ledgerWriteComplete ctx true) s fun t =>
      t.led.mem.get {} ctx = v ∧
      t.led.line ctx = some { x with wb := none, failed := false, dirty := decide (x.ent ≠ v), changed := s.epoch.toNat }) ∧
    (∀ ctx x v, s.led.line ctx = some x → x.wb = some v → Completes (.ledgerWriteComplete ctx false) s fun t =>
      t.led.fault = true ∧ t.led.faultAt = s.now ∧ t.led.mem = s.led.mem ∧ t.led.line ctx = some { x with wb := none, failed := true }) ∧
    (∀ ctx x e a k, s.led.line ctx = some x → x.ready = false → Completes (.ledgerFetchComplete ctx e a k) s fun t =>
      t.led.line ctx = some { x with ready := true, ent := { energy := x.ent.energy + BitVec.ofNat 64 e, active := x.ent.active + BitVec.ofNat 32 a, kerfed := x.ent.kerfed + BitVec.ofNat 32 k } }) ∧
    (s.led.qst = 1 → s.led.qArmed = true → Completes .ledgerQueryReady s fun t =>
      t.led.qst = 2 ∧ t.led.qArmed = false ∧ t.led.qseq = s.led.qseq + 1 ∧ t.hw.intcause.getLsbD 4 = true) ∧
    (s.led.st = 1 → Completes .ledgerClearComplete s fun t => t.led = { s.led with st := 2, clearPtr := 1048576 }) ∧
    (s.led.fault = true → Completes .ledfaultClear s fun t => t.now = max s.now (s.led.faultAt + msT) ∧ t.led.fault = false) ∧
    (s.sys.coreRun = true → s.flt.harvesting = false → s.flt.harvestAt.toNat + harvestEpochs ≤ s.epoch.toNat →
      (∀ ls, Completes (.harvest true ls) s fun t =>
        t.flt.hseq = s.flt.hseq + 1 ∧ t.flt.tally = [] ∧ t.flt.taken = [] ∧ t.flt.harvesting = false ∧ t.flt.talFault = false ∧ t.flt.harvestAt = s.epoch ∧
        ((t.store.seqA = t.flt.hseq ∧ t.store.okA = true ∧ t.store.tallyA = t.flt.totals) ∨
          (t.store.seqB = t.flt.hseq ∧ t.store.okB = true ∧ t.store.tallyB = t.flt.totals)) ∧
        (∀ l ∈ ls, (t.ldyn l).flags = 0)) ∧
      (∀ ls, Completes (.harvest false ls) s fun t =>
        t.flt.hseq = s.flt.hseq ∧ t.flt.tally = [] ∧ t.flt.totals = s.flt.totals ∧ t.flt.harvesting = false ∧ t.flt.talFault = true ∧ t.store = s.store)) ∧
    (s.sys.coreRun = true → s.flt.talFault = true → s.flt.harvesting = false →
      (Completes (.harvestRetry true) s fun t => t.flt.hseq = s.flt.hseq + 1 ∧ t.flt.taken = [] ∧ t.flt.talFault = false ∧ t.flt.tally = s.flt.tally) ∧
      (Completes (.harvestRetry false) s fun t => t.flt.hseq = s.flt.hseq ∧ t.flt.taken = s.flt.taken ∧ t.flt.talFault = true ∧ t.flt.harvesting = false)) ∧
    (s.flt.talReady = false → Completes .tallyValueReady s fun t =>
      t.flt.talReady = true ∧ t.flt.talEp = s.tel.epoch ∧ t.flt.talGen = s.tel.gen ∧
      t.flt.talVal = BitVec.ofNat 64 (s.tallyNow (tallyKey (ufield s.hw.talsel 16 6) (ufield s.hw.talsel 0 10) (ufield s.hw.talsel 10 4)))) ∧
    (s.sys.cfgSaving = true →
      (Completes (.cfgsaveComplete true) s fun t => t.sys = { s.sys with cfgSaving := false, cfgResult := 1 } ∧
        t.store.instOk = true ∧ t.store.thermOk = true ∧ t.store.thermCfg = s.com.confthr + 256 * s.com.tinlet) ∧
      (Completes (.cfgsaveComplete false) s fun t => t.sys = { s.sys with cfgSaving := false, cfgResult := 2 } ∧ t.store = s.store))

/-- Resets and clocks enter OFF and GUARD; the core starts, is kicked, expires and is released; the boot steps on. PORST_N
low, VAON removed and CKE absent for 1 us put the block in OFF with the store kept; PORST_N high and CKR present for 1
ms begin in GUARD, or halted after a stop that needs service, with the epoch starting. The core starts from the first
good firmware area in order or the boot is refused with 0x10; firmware not ready in 2 s after a pending area falls back
or is refused; FIRMWARE_READY accepts the area and ends a restart. The kick pair restarts the watchdog; its expiry after
4 ms takes the core down, empties the host queue and holds it after four in 600 s; a release after 1 ms lets it run. In
boot, 10 ms of good VIN start the rails, rails in REG stage VRET and the keep-alive orders, and regions live end in
STANDBY. (17_startup.md, 16_firmware_host.md, 18_ports_clocks.md, 14_thermal_margin.md) -/
def Obligations.ResetBootAndTheManagementCoreRestart : Prop :=
  ∀ s : State,
    let y := s.sys
    let go := y.hkind = 0 ∨ y.hkind = 4
    (Completes .porstNAssert s fun t => t.hw.bstate = .off ∧ t.sys.porstN = false ∧ t.sys.coreRun = false ∧ t.store = s.store ∧ t.now = s.now) ∧
    (s.hw.bstate = .off → y.porstN = false → Completes .porstNRelease s fun t =>
      t.sys.vaon = true ∧ t.sys.porstN = true ∧ t.epochAt = s.now ∧ (go → t.hw.bstate = .guard_ ∧ t.sys.step = 1) ∧ (¬ go → t.hw.bstate = .halted) ∧
      t.flt.tally.get 0 (tallyKey 0x0A 0 1) = s.flt.tally.get 0 (tallyKey 0x0A 0 1) + 1) ∧
    (Completes .vaonRemoved s fun t => t.hw.bstate = .off ∧ t.sys = { vaon := false, porstN := false } ∧ t.store = s.store) ∧
    (s.hw.bstate ≠ .off → Completes .ckeAbsent s fun t => t.now = s.now + usT ∧ t.hw.bstate = .off ∧ t.sys.ckeLost = true) ∧
    (s.hw.bstate = .off → y.ckeLost = true → Completes .ckrPresent s fun t =>
      t.now = s.now + msT ∧ t.sys.ckeLost = false ∧ t.epochAt = t.now ∧ (go → t.hw.bstate = .guard_ ∧ t.sys.step = 1) ∧ (¬ go → t.hw.bstate = .halted)) ∧
    (s.hw.bstate = .guard_ → y.step = 1 →
      (s.fwOrder.find? s.fwOk = none → Completes .firmwareStart s fun t => t.hw.bstate = .boot ∧ t.sys.refuse = 0x10 ∧ t.sys.coreRun = y.coreRun) ∧
      (∀ k, s.fwOrder.find? s.fwOk = some k → Completes .firmwareStart s fun t => t.sys.coreRun = true ∧ t.sys.fwSlot = k ∧ t.sys.kickAt = s.now ∧ t.sys.coreAt = s.now)) ∧
    (s.hw.bstate = .boot → y.refuse = 0 → y.coreRun = true → y.ready = false → y.restart = false → s.store.fwPending = some y.fwSlot →
      (y.fwTried = 1 → s.fwOk (1 - y.fwSlot) = true → Completes .firmwareReadyTimeout s fun t =>
        t.now = max s.now (y.coreAt + 2 * secT) ∧ t.store.fwPending = none ∧ t.sys.fwSlot = 1 - y.fwSlot ∧ t.sys.fwfall = true ∧ t.sys.kickAt = t.now ∧ t.sys.refuse = 0) ∧
      (y.fwTried ≠ 1 ∨ s.fwOk (1 - y.fwSlot) = false → Completes .firmwareReadyTimeout s fun t =>
        t.store.fwPending = none ∧ t.sys.coreRun = false ∧ t.sys.refuse = 0x10 ∧ t.hw.bstate = .boot)) ∧
    (y.coreRun = true → y.restart = true → Completes .firmwareReady s fun t =>
      t.sys = { y with restart := false, ready := true } ∧ t.hw.intcause.getLsbD 8 = true ∧ t.store.fwActive = y.fwSlot) ∧
    (y.coreRun = true → y.restart = false → s.hw.bstate = .boot → y.refuse = 0 → Completes .firmwareReady s fun t =>
      t.sys = y ∧ t.store.fwActive = y.fwSlot ∧ t.store.fwPending ≠ some y.fwSlot ∧ t.store.fuseSec = max s.store.fuseSec (s.store.fw y.fwSlot).security) ∧
    (y.coreRun = true → Completes (.kick 0x5A) s fun t => t.sys = { y with kickHalf := true }) ∧
    (y.coreRun = true → y.kickHalf = true → Completes (.kick 0xA5) s fun t => t.sys = { y with kickHalf := false, kickAt := s.now }) ∧
    (∀ w, y.coreRun = true → w ≠ 0x5A → w ≠ 0xA5 → Completes (.kick w) s fun t => t.sys = { y with kickHalf := false }) ∧
    (y.coreRun = true → y.restart = false → Completes .watchdogExpiry s fun t => let a := max s.now (y.kickAt + 4 * msT)
      t.now = a ∧ t.sys.coreRun = false ∧ t.sys.ready = false ∧ t.sys.restart = true ∧ t.sys.coreAt = a ∧ t.sys.expiries = min 255 (y.expiries + 1) ∧
      t.hw.queue = [] ∧ t.sys.mcheld = (y.mcheld || decide (4 ≤ ((a :: y.expAt).filter fun k => a ≤ k + 600 * secT).length))) ∧
    (y.coreRun = false → y.restart = true → y.mcheld = false → Completes .coreRelease s fun t =>
      t.now = max s.now (y.coreAt + msT) ∧ t.sys = { y with coreRun := true, kickAt := t.now, coreAt := t.now }) ∧
    (∀ a, s.conv.vinGoodAt = some a → s.stepping = true → y.step = 7 → Completes .bootVinGood s fun t =>
      t.now = max s.now (a + 10 * msT) ∧ t.sys = { y with step := 8, vinwait := false } ∧ ∀ x, (s.rail x).st = .off → (t.rail x).st = .delay ∧ (t.rail x).at_ = t.now) ∧
    (s.stepping = true → y.step = 8 → s.conv.vib.st = .reg → s.conv.vqa.st = .reg → s.conv.vqc.st = .reg → Completes .bootRailsInReg s fun t =>
      t.sys = { y with step := 9 } ∧ (∃ w ∈ t.stg.queue, w.cw = .vret true) ∧
      ∀ r ∈ s.regions, (s.rimg r).keepAlive = true → ∃ w ∈ t.stg.queue, w.cw = .order r 1 .on) ∧
    (s.stepping = true → y.step = 10 → (∀ r ∈ s.bootRegions, (s.reg r).seq.st = .live ∨ (s.reg r).seq.startfail = true) →
      (y.nocfgRun = false → Completes .bootRegionsLive s fun t => t.hw.bstate = .standby ∧ t.sys.step = 12 ∧ t.sys.ready = true) ∧
      (y.nocfgRun = true → Completes .bootRegionsLive s fun t => t.hw.bstate = s.hw.bstate ∧ t.sys.step = 12 ∧ t.sys.nocfg = false ∧ t.sys.nocfgRun = false))

/-- PMBus, AVSBus, tray and TAP commands answer and change exactly their ports' state. PAGE takes 0 to 3 and sets the CML
bit on any other; CLEAR_FAULTS clears it; every status and identity read answers on every page, rail reads on pages 0 to
2 and input reads on page 3, leaving the last answer otherwise; other writes set CML except the two codes the table
names; an alert response releases the alert where no new condition stands. An AVSBus poll restarts the three reads every
1 ms; a reply with a good CRC is taken and moves on, a bad one is marked; a status reply in boot finds the bus. The
tray's address, version, INLET, ceiling and reads act by the settled version; a flow change is timed. TAP instructions,
the maker challenge, TRST_N and the store write act as stated. (18_ports_clocks.md, 14_thermal_margin.md) -/
def Obligations.BusAndTrayAndTapCommandsAnswer : Prop :=
  ∀ s : State,
    (∀ v : Byte, v.toNat < 4 → Completes (.page v) s fun t => t.ports.page = v.toNat ∧ t.ports.cml = s.ports.cml) ∧
    (∀ v : Byte, 4 ≤ v.toNat → Completes (.page v) s fun t => t.ports.page = s.ports.page ∧ t.ports.cml = true) ∧
    (Completes .clearFaults s fun t => t.ports.cml = false) ∧
    (∀ c ∈ [(Instr.capability, 0xD0), (.pmbusRevision, 0x44), (.statusByte, s.statusWord % 256), (.statusWord, s.statusWord),
        (.statusVout, 128 * b2n s.pageOv + 16 * b2n s.pageBad), (.statusIout, 128 * b2n s.pageOverload),
        (.statusInput, 32 * b2n s.conv.vinLow + 16 * b2n s.conv.inStop), (.statusTemperature, 128 * b2n s.anyB5)],
      Completes c.1 s fun t => t.ports.pmbOut = c.2 ∧ t.ports.page = s.ports.page ∧ t.ports.cml = s.ports.cml) ∧
    (∀ c ∈ [(Instr.voutMode, 0x14), (.readVout, linear16 (s.ports.meanV.get 0 s.ports.page)),
        (.readIout, linear11 ((s.ports.meanI.get 0 s.ports.page : Nat) / 10)), (.readPout, linear11 ((s.ports.energyW.get 0 s.ports.page : Nat) / 1000))],
      Completes c.1 s fun t => t.ports.pmbOut = if s.ports.page < 3 then c.2 else s.ports.pmbOut) ∧
    (∀ c ∈ [(Instr.readVin, linear11 ((s.ports.meanVin : Rat) / 1000)), (.readIin, linear11 s.inputAmps),
        (.readTemperature1, linear11 ((s.topTd : Rat) / 64)), (.readPin, linear11 (s.inputAmps * s.ports.meanVin / 1000))],
      Completes c.1 s fun t => t.ports.pmbOut = if s.ports.page < 3 then s.ports.pmbOut else c.2) ∧
    (∀ c : Byte, Completes (.pmbusOtherWrite c) s fun t => t.ports.cml = (s.ports.cml || decide (c ≠ 0 ∧ c ≠ 3)) ∧ t.ports.page = s.ports.page) ∧
    (s.pmbConds &&& ~~~ s.ports.pmbSeen = 0 → Completes .alertResponse s fun t => t.ports.alertN = true) ∧
    (s.ports.avs = true → Completes .avsbusPoll s fun t => t.now = max s.now (s.ports.avsAt + msT) ∧ t.ports.avsAt = t.now ∧ t.ports.avsStep = 0) ∧
    (∀ (k : Fin 3) (d : BitVec 16), s.ports.avs = true → Completes (.avsbusReply k d true) s fun t =>
      t.ports.avsErr = false ∧ t.ports.avsStep = (k.val + 1) % 3 ∧ t.ports.avsV = (if k.val = 0 then d.toNat else s.ports.avsV) ∧
      t.ports.avsI = (if k.val = 1 then d.toNat else s.ports.avsI)) ∧
    (∀ (k : Fin 3) (d : BitVec 16), s.ports.avs = true → Completes (.avsbusReply k d false) s fun t =>
      t.ports.avsErr = true ∧ t.ports.avsV = s.ports.avsV ∧ t.ports.avsI = s.ports.avsI) ∧
    (∀ d : BitVec 16, s.ports.avs = false → s.hw.bstate = .boot → Completes (.avsbusReply 2 d true) s fun t => t.ports.avs = true ∧ t.ports.avsAt = s.now) ∧
    (∀ a : BitVec 7, Completes (.dynamicAddressAssigned a) s fun t => t.ports.trayAddr = some a.toNat ∧ t.ports.trayVer = 1) ∧
    (s.trayOk 1 = true →
      (∀ v : Byte, Completes (.tver [v]) s fun t => t.ports.trayVer = max 1 (min 2 v.toNat)) ∧
      (∀ a b : Byte, Completes (.inlet [a, b]) s fun t =>
        t.ports.inlet = (BitVec.ofNat 16 (a.toNat + 256 * b.toNat)).toInt ∧ t.ports.inletAt = some s.now ∧
        (s.coreServes = true → Posted s (.firmware fwTin 0 0) ((BitVec.ofNat 16 (a.toNat + 256 * b.toNat)).signExtend 32) t)) ∧
      (Completes .trayState s fun t => t.ports.trayOut = s.hw.bstate.code + 256 * (s.shutind % 256)) ∧
      (Completes .trayCap s fun t => t.ports.trayOut = s.com.bud.cap % 65536)) ∧
    (s.trayOk 2 = true →
      (∀ a b : Byte, Completes (.tceil [a, b]) s fun t => t.ports.trayHeld = some (a.toNat + 256 * b.toNat)) ∧
      (Completes .pdel s fun t => t.ports.trayOut = min 65535 s.bud.deliv)) ∧
    (∀ b, s.ports.flowN ≠ b → Completes (.tryFlowChange b) s fun t => t.ports.flowN = b ∧ t.ports.flowAt = s.now) ∧
    (∀ ir, Completes (.tapInstructionLoad ir) s fun t =>
      t.ports.ir = (if (ir = 3 ∧ s.railsOff = false) ∨ 4 < ir then 0 else ir) ∧
      (ir = 4 → ∀ k < 8, t.ports.dbgChal.get 0 k = Config.challenge s.free k)) ∧
    (∀ rs, s.ports.ir = 4 → s.store.dbgClosed = false → Completes (.dbgMakerChallenge rs) s fun t =>
      t.ports.dbgOpen = (s.ports.dbgOpen || s.dbgOk rs) ∧ ∀ k < 8, t.ports.dbgChal.get 0 k = Config.challenge s.free k) ∧
    (Completes .dbgTrstN s fun t => t.ports.ir = 1 ∧ t.ports.dbgOpen = false ∧ t.ports.dbgChal = []) ∧
    (∀ ws, s.ports.dbgOpen = true → s.ports.ir = 4 → s.store.dbgClosed = false → Completes (.dbgStoreWrite 0 ws) s fun t =>
      (t.store.fw 0).present = true ∧ (∀ k w, ws[k]? = some w → (t.store.fw 0).words.get 0 k = w) ∧ t.store.fw 1 = s.store.fw 1 ∧ t.store.fwActive = s.store.fwActive)

/-- The epoch boundary, staging close, answer deadline, parity errors, probe timeouts and DESC complete. Stated with exec
directly: outside OFF the epoch boundary answers a next state one epoch on, with the committed state unchanged where
neither a set commits nor a stop is due; the staging close, the answer deadline with a set in hand and no verdict, a
parity error with a packet on the wire, a probe timeout with a further port, and a DESC first on a link into a pond or
(with the ID next in order) into the hub each answer a next state with the effect named. (01_architecture.md,
02_sluice_tree.md, 09_setpoints_glueup.md) -/
def Obligations.EpochClockAndTreeArrivalsComplete : Prop :=
  ∀ s : State,
    (s.hw.bstate ≠ .off → ∃ t, exec .epochBoundary s = .next t ∧
      t.epoch = s.epoch + 1 ∧ t.epochAt = s.epochAt + epochT ∧ t.now = max s.now (s.epochAt + epochT) ∧
      (s.commits = false → s.stopDue = false → t.com = s.com)) ∧
    (s.hw.bstate ≠ .off → s.stg.closed = false → ∃ t, exec .stagingClose s = .next t ∧
      t.stg.closed = true ∧ t.stg.tag = BitVec.ofNat 3 (s.epoch.toNat + 1) ∧ t.now = max s.now (s.epochAt + 4200 * cksT) ∧ t.com = s.com) ∧
    (s.stg.hand.active = true → s.stg.hand.verdict = none → ∃ t, exec .ackDeadline s = .next t ∧
      t.now = max s.now (s.epochAt + 4672 * cksT) ∧
      t.stg.hand = (if s.stg.hand.complete = true then { s.stg.hand with verdict := some true } else {}) ∧ t.com = s.com) ∧
    (∀ l d p rest, (s.dir l d).wire = p :: rest → ∃ t, exec (.parityErrorPacket l d) s = .next t ∧
      (t.dir l d).wire = rest ∧ (t.dir l d).lost (classOfTy p.ty) = (s.dir l d).lost (classOfTy p.ty) + 1 ∧
      (t.node (s.receiver l d).1).parity.get 0 (s.receiver l d).2 = (s.node (s.receiver l d).1).parity.get 0 (s.receiver l d).2 + 1 ∧
      t.flt.tally = s.flt.tally ∧ t.pans = s.pans) ∧
    (∀ n p up, s.sys.enumAt = (n, p) :: up → p + 1 < childPorts n → s.sys.enumNext ≤ 0x2000 → ∃ t, exec (.probeTimeout n p) s = .next t ∧
      t.now = max s.now (s.sys.probeAt + 2048 * cksT) ∧ t.sys.enumAt = (n, p + 1) :: up ∧ t.sys.probeAt = t.now ∧ t.sys.enumNext = s.sys.enumNext) ∧
    (∀ n src kind ports wide rating revision, n ≠ 0 → let k := pkt 2 { bc := false, dst := src } (descBody kind ports wide rating revision)
      s.fromBelow n k ≠ none → ∃ t, exec (.desc n src kind ports wide rating revision) s = .next t ∧
        t.links = ((s.takeInto n k).sendUp n k).links ∧ t.nodes = s.nodes ∧ t.sys = s.sys) ∧
    (∀ src ports wide rating revision c n p up, s.fromBelow 0 (pkt 2 { bc := false, dst := src } (descBody 0 ports wide rating revision)) ≠ none →
      s.nodeById src = some c → s.sys.enumAt = (n, p) :: up → src.toNat = s.sys.enumNext →
      s.sys.image.nodes.get 0 c ≠ 0 → (s.node n).depth + (if n = 0 then 0 else 1) ≤ 15 → s.sys.enumNext < 0x2000 → c ≠ 0 →
      ∃ t, exec (.desc 0 src 0 ports wide rating revision) s = .next t ∧
        (t.node c).ports = ports ∧ (t.node c).rating = rating ∧ (t.node c).depth = (s.node n).depth + (if n = 0 then 0 else 1) ∧
        t.sys.enumNext = s.sys.enumNext + 1 ∧ t.sys.enumAt = (c, 0) :: (n, p) :: up)
end

