-- ==== Sys2Proof/Laws/Table.lean ====
section
/-! SUPPORT. The laws of the tables: reading after writing, and the canonical form kept. -/

namespace Sys2Proof.Machine

variable {α : Type}

theorem Tbl.get_nil (d : α) (n : Nat) : Tbl.get d [] n = d := rfl

theorem Tbl.get_drop_same (d : α) (n : Nat) : ∀ t : Tbl α, Tbl.get d (Tbl.drop n t) n = d
  | [] => rfl
  | (k, v) :: t => by
    by_cases h : n = k
    · simpa [Tbl.drop, h] using h ▸ Tbl.get_drop_same d n t
    · simp [Tbl.drop, Tbl.get, h, Tbl.get_drop_same d n t]

theorem Tbl.get_drop_other (d : α) {n m : Nat} (h : m ≠ n) : ∀ t : Tbl α, Tbl.get d (Tbl.drop n t) m = Tbl.get d t m
  | [] => rfl
  | (k, v) :: t => by
    by_cases hk : n = k
    · have hm : m ≠ k := hk ▸ h
      simp [Tbl.drop, Tbl.get, hk, hm, ← Tbl.get_drop_other d h t]
    · by_cases hm : m = k <;> simp [Tbl.drop, Tbl.get, hk, hm, Tbl.get_drop_other d h t]

theorem Tbl.get_insert_other (d : α) {n m : Nat} (x : α) (h : m ≠ n) :
    ∀ t : Tbl α, Tbl.get d (Tbl.insert n x t) m = Tbl.get d t m
  | [] => by simp [Tbl.insert, Tbl.get, h]
  | (k, v) :: t => by
    by_cases hk : n < k
    · simp [Tbl.insert, Tbl.get, hk, h]
    · by_cases hm : m = k <;> simp [Tbl.insert, Tbl.get, hk, hm, Tbl.get_insert_other d x h t]

theorem Tbl.get_eq_of_not_mem (d : α) (n : Nat) : ∀ t : Tbl α, (∀ p ∈ t, n ≠ p.1) → Tbl.get d t n = d
  | [], _ => rfl
  | (k, v) :: t, h => by
    have hk : n ≠ k := h (k, v) (by simp)
    simp [Tbl.get, hk, Tbl.get_eq_of_not_mem d n t fun q hq => h q (by simp [hq])]

theorem Tbl.drop_ne {n : Nat} : ∀ (t : Tbl α), ∀ p ∈ Tbl.drop n t, n ≠ p.1
  | [], p, hp => by simp [Tbl.drop] at hp
  | (k, v) :: t, p, hp => by
    by_cases h : n = k
    · exact Tbl.drop_ne t p (by simpa [Tbl.drop, h] using hp)
    · rw [Tbl.drop, if_neg h] at hp
      rcases List.mem_cons.1 hp with rfl | hp
      · exact h
      · exact Tbl.drop_ne t p hp

variable [DecidableEq α]

/-- A key reads as what was last written to it. -/
@[simp] theorem Tbl.get_set_same (d : α) (t : Tbl α) (n : Nat) (x : α) : Tbl.get d (Tbl.set d t n x) n = x := by
  unfold Tbl.set
  split
  · rename_i h; rw [Tbl.get_drop_same, h]
  · induction t with
    | nil => simp [Tbl.drop, Tbl.insert, Tbl.get]
    | cons p t ih =>
      obtain ⟨k, v⟩ := p
      by_cases h : n = k
      · simpa [Tbl.drop, h] using h ▸ ih
      · by_cases hk : n < k
        · simp [Tbl.drop, h, Tbl.insert, hk, Tbl.get]
        · simp [Tbl.drop, h, Tbl.insert, hk, Tbl.get, ih]

/-- A write leaves every other key alone. -/
theorem Tbl.get_set_other (d : α) {e : α} (t : Tbl α) {n m : Nat} (x : α) (h : m ≠ n) :
    Tbl.get d (Tbl.set e t n x) m = Tbl.get d t m := by
  unfold Tbl.set
  split
  · exact Tbl.get_drop_other d h t
  · rw [Tbl.get_insert_other d x h, Tbl.get_drop_other d h]

/-- Reading after writing, in one equation. -/
theorem Tbl.get_set (d : α) (t : Tbl α) (n m : Nat) (x : α) :
    Tbl.get d (Tbl.set d t n x) m = if m = n then x else Tbl.get d t m := by
  by_cases h : m = n
  · simp [h]
  · simp [h, Tbl.get_set_other d t x h]

theorem Tbl.wfFrom_mono (d : α) : ∀ (t : Tbl α) {a b : Nat}, a ≤ b → Tbl.wfFrom d b t = true → Tbl.wfFrom d a t = true
  | [], _, _, _, _ => rfl
  | (k, v) :: t, a, b, h, hw => by
    simp only [Tbl.wfFrom, Bool.and_eq_true, decide_eq_true_eq] at hw ⊢
    exact ⟨⟨Nat.le_trans h hw.1.1, hw.1.2⟩, hw.2⟩

theorem Tbl.wfFrom_drop (d : α) (n : Nat) : ∀ (t : Tbl α) (a : Nat), Tbl.wfFrom d a t = true →
    Tbl.wfFrom d a (Tbl.drop n t) = true
  | [], _, _ => rfl
  | (k, v) :: t, a, h => by
    simp only [Tbl.wfFrom, Bool.and_eq_true, decide_eq_true_eq] at h
    by_cases hk : n = k
    · simp only [Tbl.drop, hk, if_true]
      exact Tbl.wfFrom_mono d _ (by omega) (hk ▸ Tbl.wfFrom_drop d n t (k + 1) h.2)
    · simp only [Tbl.drop, hk, if_false, Tbl.wfFrom, Bool.and_eq_true, decide_eq_true_eq]
      exact ⟨h.1, Tbl.wfFrom_drop d n t (k + 1) h.2⟩

theorem Tbl.wfFrom_insert (d : α) {n : Nat} {x : α} (hx : x ≠ d) : ∀ (t : Tbl α) (a : Nat), (∀ p ∈ t, n ≠ p.1) → a ≤ n →
    Tbl.wfFrom d a t = true → Tbl.wfFrom d a (Tbl.insert n x t) = true
  | [], a, _, ha, _ => by simp [Tbl.insert, Tbl.wfFrom, ha, hx]
  | (k, v) :: t, a, hn, ha, h => by
    have hk : n ≠ k := hn (k, v) (by simp)
    simp only [Tbl.wfFrom, Bool.and_eq_true, decide_eq_true_eq] at h
    by_cases hlt : n < k
    · simp only [Tbl.insert, hlt, if_true, Tbl.wfFrom, Bool.and_eq_true, decide_eq_true_eq]
      exact ⟨⟨ha, hx⟩, ⟨⟨by omega, h.1.2⟩, h.2⟩⟩
    · simp only [Tbl.insert, hlt, if_false, Tbl.wfFrom, Bool.and_eq_true, decide_eq_true_eq]
      exact ⟨h.1, Tbl.wfFrom_insert d hx t (k + 1) (fun q hq => hn q (by simp [hq])) (by omega) h.2⟩

/-- Writing keeps the canonical form. -/
theorem Tbl.wf_set (d : α) (t : Tbl α) (n : Nat) (x : α) (h : t.wf d = true) : (Tbl.set d t n x).wf d = true := by
  unfold Tbl.set Tbl.wf
  split
  · exact Tbl.wfFrom_drop d n t 0 h
  · exact Tbl.wfFrom_insert d ‹_› _ 0 (Tbl.drop_ne t) (Nat.zero_le n) (Tbl.wfFrom_drop d n t 0 h)

end Sys2Proof.Machine
end

