-- ==== Sys2Proof/Laws/State.lean ====
section
/-! SUPPORT. One lemma per update and field of State: what each named update writes and that it leaves the other fields
alone; the composite updates as the one field update they are; the tables' accessors after a write. -/

namespace Sys2Proof.Machine

variable (s : State)

@[simp] theorem State.reach_pending (t : Nat) : (s.reach t).pending = s.pending := rfl
@[simp] theorem State.reach_now (t : Nat) : (s.reach t).now = max s.now t := rfl
@[simp] theorem State.reach_epochAt (t : Nat) : (s.reach t).epochAt = s.epochAt := rfl
@[simp] theorem State.reach_epoch (t : Nat) : (s.reach t).epoch = s.epoch := rfl
@[simp] theorem State.reach_free (t : Nat) : (s.reach t).free = s.free := rfl
@[simp] theorem State.reach_nodes (t : Nat) : (s.reach t).nodes = s.nodes := rfl
@[simp] theorem State.reach_links (t : Nat) : (s.reach t).links = s.links := rfl
@[simp] theorem State.reach_pans (t : Nat) : (s.reach t).pans = s.pans := rfl
@[simp] theorem State.reach_eng (t : Nat) : (s.reach t).eng = s.eng := rfl
@[simp] theorem State.reach_com (t : Nat) : (s.reach t).com = s.com := rfl
@[simp] theorem State.reach_safe (t : Nat) : (s.reach t).safe = s.safe := rfl
@[simp] theorem State.reach_views (t : Nat) : (s.reach t).views = s.views := rfl
@[simp] theorem State.reach_regs (t : Nat) : (s.reach t).regs = s.regs := rfl
@[simp] theorem State.reach_conv (t : Nat) : (s.reach t).conv = s.conv := rfl
@[simp] theorem State.reach_stg (t : Nat) : (s.reach t).stg = s.stg := rfl
@[simp] theorem State.reach_tel (t : Nat) : (s.reach t).tel = s.tel := rfl
@[simp] theorem State.reach_bud (t : Nat) : (s.reach t).bud = s.bud := rfl
@[simp] theorem State.reach_shim (t : Nat) : (s.reach t).shim = s.shim := rfl
@[simp] theorem State.reach_led (t : Nat) : (s.reach t).led = s.led := rfl
@[simp] theorem State.reach_tide (t : Nat) : (s.reach t).tide = s.tide := rfl
@[simp] theorem State.reach_flt (t : Nat) : (s.reach t).flt = s.flt := rfl
@[simp] theorem State.reach_hw (t : Nat) : (s.reach t).hw = s.hw := rfl
@[simp] theorem State.reach_log (t : Nat) : (s.reach t).log = s.log := rfl
@[simp] theorem State.reach_store (t : Nat) : (s.reach t).store = s.store := rfl
@[simp] theorem State.reach_sys (t : Nat) : (s.reach t).sys = s.sys := rfl
@[simp] theorem State.reach_ports (t : Nat) : (s.reach t).ports = s.ports := rfl

@[simp] theorem State.draw_pending : (s.draw).pending = s.pending := rfl
@[simp] theorem State.draw_now : (s.draw).now = s.now := rfl
@[simp] theorem State.draw_epochAt : (s.draw).epochAt = s.epochAt := rfl
@[simp] theorem State.draw_epoch : (s.draw).epoch = s.epoch := rfl
@[simp] theorem State.draw_free : (s.draw).free = s.free + 1 := rfl
@[simp] theorem State.draw_nodes : (s.draw).nodes = s.nodes := rfl
@[simp] theorem State.draw_links : (s.draw).links = s.links := rfl
@[simp] theorem State.draw_pans : (s.draw).pans = s.pans := rfl
@[simp] theorem State.draw_eng : (s.draw).eng = s.eng := rfl
@[simp] theorem State.draw_com : (s.draw).com = s.com := rfl
@[simp] theorem State.draw_safe : (s.draw).safe = s.safe := rfl
@[simp] theorem State.draw_views : (s.draw).views = s.views := rfl
@[simp] theorem State.draw_regs : (s.draw).regs = s.regs := rfl
@[simp] theorem State.draw_conv : (s.draw).conv = s.conv := rfl
@[simp] theorem State.draw_stg : (s.draw).stg = s.stg := rfl
@[simp] theorem State.draw_tel : (s.draw).tel = s.tel := rfl
@[simp] theorem State.draw_bud : (s.draw).bud = s.bud := rfl
@[simp] theorem State.draw_shim : (s.draw).shim = s.shim := rfl
@[simp] theorem State.draw_led : (s.draw).led = s.led := rfl
@[simp] theorem State.draw_tide : (s.draw).tide = s.tide := rfl
@[simp] theorem State.draw_flt : (s.draw).flt = s.flt := rfl
@[simp] theorem State.draw_hw : (s.draw).hw = s.hw := rfl
@[simp] theorem State.draw_log : (s.draw).log = s.log := rfl
@[simp] theorem State.draw_store : (s.draw).store = s.store := rfl
@[simp] theorem State.draw_sys : (s.draw).sys = s.sys := rfl
@[simp] theorem State.draw_ports : (s.draw).ports = s.ports := rfl

@[simp] theorem State.updNode_pending (n : Nat) (f : Node → Node) : (s.updNode n f).pending = s.pending := rfl
@[simp] theorem State.updNode_now (n : Nat) (f : Node → Node) : (s.updNode n f).now = s.now := rfl
@[simp] theorem State.updNode_epochAt (n : Nat) (f : Node → Node) : (s.updNode n f).epochAt = s.epochAt := rfl
@[simp] theorem State.updNode_epoch (n : Nat) (f : Node → Node) : (s.updNode n f).epoch = s.epoch := rfl
@[simp] theorem State.updNode_free (n : Nat) (f : Node → Node) : (s.updNode n f).free = s.free := rfl
@[simp] theorem State.updNode_nodes (n : Nat) (f : Node → Node) : (s.updNode n f).nodes = s.nodes.set {} n (f (s.node n)) := rfl
@[simp] theorem State.updNode_links (n : Nat) (f : Node → Node) : (s.updNode n f).links = s.links := rfl
@[simp] theorem State.updNode_pans (n : Nat) (f : Node → Node) : (s.updNode n f).pans = s.pans := rfl
@[simp] theorem State.updNode_eng (n : Nat) (f : Node → Node) : (s.updNode n f).eng = s.eng := rfl
@[simp] theorem State.updNode_com (n : Nat) (f : Node → Node) : (s.updNode n f).com = s.com := rfl
@[simp] theorem State.updNode_safe (n : Nat) (f : Node → Node) : (s.updNode n f).safe = s.safe := rfl
@[simp] theorem State.updNode_views (n : Nat) (f : Node → Node) : (s.updNode n f).views = s.views := rfl
@[simp] theorem State.updNode_regs (n : Nat) (f : Node → Node) : (s.updNode n f).regs = s.regs := rfl
@[simp] theorem State.updNode_conv (n : Nat) (f : Node → Node) : (s.updNode n f).conv = s.conv := rfl
@[simp] theorem State.updNode_stg (n : Nat) (f : Node → Node) : (s.updNode n f).stg = s.stg := rfl
@[simp] theorem State.updNode_tel (n : Nat) (f : Node → Node) : (s.updNode n f).tel = s.tel := rfl
@[simp] theorem State.updNode_bud (n : Nat) (f : Node → Node) : (s.updNode n f).bud = s.bud := rfl
@[simp] theorem State.updNode_shim (n : Nat) (f : Node → Node) : (s.updNode n f).shim = s.shim := rfl
@[simp] theorem State.updNode_led (n : Nat) (f : Node → Node) : (s.updNode n f).led = s.led := rfl
@[simp] theorem State.updNode_tide (n : Nat) (f : Node → Node) : (s.updNode n f).tide = s.tide := rfl
@[simp] theorem State.updNode_flt (n : Nat) (f : Node → Node) : (s.updNode n f).flt = s.flt := rfl
@[simp] theorem State.updNode_hw (n : Nat) (f : Node → Node) : (s.updNode n f).hw = s.hw := rfl
@[simp] theorem State.updNode_log (n : Nat) (f : Node → Node) : (s.updNode n f).log = s.log := rfl
@[simp] theorem State.updNode_store (n : Nat) (f : Node → Node) : (s.updNode n f).store = s.store := rfl
@[simp] theorem State.updNode_sys (n : Nat) (f : Node → Node) : (s.updNode n f).sys = s.sys := rfl
@[simp] theorem State.updNode_ports (n : Nat) (f : Node → Node) : (s.updNode n f).ports = s.ports := rfl

@[simp] theorem State.updPan_pending (n : Nat) (f : Pan → Pan) : (s.updPan n f).pending = s.pending := rfl
@[simp] theorem State.updPan_now (n : Nat) (f : Pan → Pan) : (s.updPan n f).now = s.now := rfl
@[simp] theorem State.updPan_epochAt (n : Nat) (f : Pan → Pan) : (s.updPan n f).epochAt = s.epochAt := rfl
@[simp] theorem State.updPan_epoch (n : Nat) (f : Pan → Pan) : (s.updPan n f).epoch = s.epoch := rfl
@[simp] theorem State.updPan_free (n : Nat) (f : Pan → Pan) : (s.updPan n f).free = s.free := rfl
@[simp] theorem State.updPan_nodes (n : Nat) (f : Pan → Pan) : (s.updPan n f).nodes = s.nodes := rfl
@[simp] theorem State.updPan_links (n : Nat) (f : Pan → Pan) : (s.updPan n f).links = s.links := rfl
@[simp] theorem State.updPan_pans (n : Nat) (f : Pan → Pan) : (s.updPan n f).pans = s.pans.set {} n (f (s.pan n)) := rfl
@[simp] theorem State.updPan_eng (n : Nat) (f : Pan → Pan) : (s.updPan n f).eng = s.eng := rfl
@[simp] theorem State.updPan_com (n : Nat) (f : Pan → Pan) : (s.updPan n f).com = s.com := rfl
@[simp] theorem State.updPan_safe (n : Nat) (f : Pan → Pan) : (s.updPan n f).safe = s.safe := rfl
@[simp] theorem State.updPan_views (n : Nat) (f : Pan → Pan) : (s.updPan n f).views = s.views := rfl
@[simp] theorem State.updPan_regs (n : Nat) (f : Pan → Pan) : (s.updPan n f).regs = s.regs := rfl
@[simp] theorem State.updPan_conv (n : Nat) (f : Pan → Pan) : (s.updPan n f).conv = s.conv := rfl
@[simp] theorem State.updPan_stg (n : Nat) (f : Pan → Pan) : (s.updPan n f).stg = s.stg := rfl
@[simp] theorem State.updPan_tel (n : Nat) (f : Pan → Pan) : (s.updPan n f).tel = s.tel := rfl
@[simp] theorem State.updPan_bud (n : Nat) (f : Pan → Pan) : (s.updPan n f).bud = s.bud := rfl
@[simp] theorem State.updPan_shim (n : Nat) (f : Pan → Pan) : (s.updPan n f).shim = s.shim := rfl
@[simp] theorem State.updPan_led (n : Nat) (f : Pan → Pan) : (s.updPan n f).led = s.led := rfl
@[simp] theorem State.updPan_tide (n : Nat) (f : Pan → Pan) : (s.updPan n f).tide = s.tide := rfl
@[simp] theorem State.updPan_flt (n : Nat) (f : Pan → Pan) : (s.updPan n f).flt = s.flt := rfl
@[simp] theorem State.updPan_hw (n : Nat) (f : Pan → Pan) : (s.updPan n f).hw = s.hw := rfl
@[simp] theorem State.updPan_log (n : Nat) (f : Pan → Pan) : (s.updPan n f).log = s.log := rfl
@[simp] theorem State.updPan_store (n : Nat) (f : Pan → Pan) : (s.updPan n f).store = s.store := rfl
@[simp] theorem State.updPan_sys (n : Nat) (f : Pan → Pan) : (s.updPan n f).sys = s.sys := rfl
@[simp] theorem State.updPan_ports (n : Nat) (f : Pan → Pan) : (s.updPan n f).ports = s.ports := rfl

@[simp] theorem State.updDir_pending (l : LinkId) (d : Dir) (f : LinkDir → LinkDir) : (s.updDir l d f).pending = s.pending := rfl
@[simp] theorem State.updDir_now (l : LinkId) (d : Dir) (f : LinkDir → LinkDir) : (s.updDir l d f).now = s.now := rfl
@[simp] theorem State.updDir_epochAt (l : LinkId) (d : Dir) (f : LinkDir → LinkDir) : (s.updDir l d f).epochAt = s.epochAt := rfl
@[simp] theorem State.updDir_epoch (l : LinkId) (d : Dir) (f : LinkDir → LinkDir) : (s.updDir l d f).epoch = s.epoch := rfl
@[simp] theorem State.updDir_free (l : LinkId) (d : Dir) (f : LinkDir → LinkDir) : (s.updDir l d f).free = s.free := rfl
@[simp] theorem State.updDir_nodes (l : LinkId) (d : Dir) (f : LinkDir → LinkDir) : (s.updDir l d f).nodes = s.nodes := rfl
@[simp] theorem State.updDir_pans (l : LinkId) (d : Dir) (f : LinkDir → LinkDir) : (s.updDir l d f).pans = s.pans := rfl
@[simp] theorem State.updDir_eng (l : LinkId) (d : Dir) (f : LinkDir → LinkDir) : (s.updDir l d f).eng = s.eng := rfl
@[simp] theorem State.updDir_com (l : LinkId) (d : Dir) (f : LinkDir → LinkDir) : (s.updDir l d f).com = s.com := rfl
@[simp] theorem State.updDir_safe (l : LinkId) (d : Dir) (f : LinkDir → LinkDir) : (s.updDir l d f).safe = s.safe := rfl
@[simp] theorem State.updDir_views (l : LinkId) (d : Dir) (f : LinkDir → LinkDir) : (s.updDir l d f).views = s.views := rfl
@[simp] theorem State.updDir_regs (l : LinkId) (d : Dir) (f : LinkDir → LinkDir) : (s.updDir l d f).regs = s.regs := rfl
@[simp] theorem State.updDir_conv (l : LinkId) (d : Dir) (f : LinkDir → LinkDir) : (s.updDir l d f).conv = s.conv := rfl
@[simp] theorem State.updDir_stg (l : LinkId) (d : Dir) (f : LinkDir → LinkDir) : (s.updDir l d f).stg = s.stg := rfl
@[simp] theorem State.updDir_tel (l : LinkId) (d : Dir) (f : LinkDir → LinkDir) : (s.updDir l d f).tel = s.tel := rfl
@[simp] theorem State.updDir_bud (l : LinkId) (d : Dir) (f : LinkDir → LinkDir) : (s.updDir l d f).bud = s.bud := rfl
@[simp] theorem State.updDir_shim (l : LinkId) (d : Dir) (f : LinkDir → LinkDir) : (s.updDir l d f).shim = s.shim := rfl
@[simp] theorem State.updDir_led (l : LinkId) (d : Dir) (f : LinkDir → LinkDir) : (s.updDir l d f).led = s.led := rfl
@[simp] theorem State.updDir_tide (l : LinkId) (d : Dir) (f : LinkDir → LinkDir) : (s.updDir l d f).tide = s.tide := rfl
@[simp] theorem State.updDir_flt (l : LinkId) (d : Dir) (f : LinkDir → LinkDir) : (s.updDir l d f).flt = s.flt := rfl
@[simp] theorem State.updDir_hw (l : LinkId) (d : Dir) (f : LinkDir → LinkDir) : (s.updDir l d f).hw = s.hw := rfl
@[simp] theorem State.updDir_log (l : LinkId) (d : Dir) (f : LinkDir → LinkDir) : (s.updDir l d f).log = s.log := rfl
@[simp] theorem State.updDir_store (l : LinkId) (d : Dir) (f : LinkDir → LinkDir) : (s.updDir l d f).store = s.store := rfl
@[simp] theorem State.updDir_sys (l : LinkId) (d : Dir) (f : LinkDir → LinkDir) : (s.updDir l d f).sys = s.sys := rfl
@[simp] theorem State.updDir_ports (l : LinkId) (d : Dir) (f : LinkDir → LinkDir) : (s.updDir l d f).ports = s.ports := rfl

@[simp] theorem State.updReg_pending (r : Nat) (f : Region → Region) : (s.updReg r f).pending = s.pending := rfl
@[simp] theorem State.updReg_now (r : Nat) (f : Region → Region) : (s.updReg r f).now = s.now := rfl
@[simp] theorem State.updReg_epochAt (r : Nat) (f : Region → Region) : (s.updReg r f).epochAt = s.epochAt := rfl
@[simp] theorem State.updReg_epoch (r : Nat) (f : Region → Region) : (s.updReg r f).epoch = s.epoch := rfl
@[simp] theorem State.updReg_free (r : Nat) (f : Region → Region) : (s.updReg r f).free = s.free := rfl
@[simp] theorem State.updReg_nodes (r : Nat) (f : Region → Region) : (s.updReg r f).nodes = s.nodes := rfl
@[simp] theorem State.updReg_links (r : Nat) (f : Region → Region) : (s.updReg r f).links = s.links := rfl
@[simp] theorem State.updReg_pans (r : Nat) (f : Region → Region) : (s.updReg r f).pans = s.pans := rfl
@[simp] theorem State.updReg_eng (r : Nat) (f : Region → Region) : (s.updReg r f).eng = s.eng := rfl
@[simp] theorem State.updReg_com (r : Nat) (f : Region → Region) : (s.updReg r f).com = s.com := rfl
@[simp] theorem State.updReg_safe (r : Nat) (f : Region → Region) : (s.updReg r f).safe = s.safe := rfl
@[simp] theorem State.updReg_views (r : Nat) (f : Region → Region) : (s.updReg r f).views = s.views := rfl
@[simp] theorem State.updReg_regs (r : Nat) (f : Region → Region) : (s.updReg r f).regs = s.regs.set {} r (f (s.reg r)) := rfl
@[simp] theorem State.updReg_conv (r : Nat) (f : Region → Region) : (s.updReg r f).conv = s.conv := rfl
@[simp] theorem State.updReg_stg (r : Nat) (f : Region → Region) : (s.updReg r f).stg = s.stg := rfl
@[simp] theorem State.updReg_tel (r : Nat) (f : Region → Region) : (s.updReg r f).tel = s.tel := rfl
@[simp] theorem State.updReg_bud (r : Nat) (f : Region → Region) : (s.updReg r f).bud = s.bud := rfl
@[simp] theorem State.updReg_shim (r : Nat) (f : Region → Region) : (s.updReg r f).shim = s.shim := rfl
@[simp] theorem State.updReg_led (r : Nat) (f : Region → Region) : (s.updReg r f).led = s.led := rfl
@[simp] theorem State.updReg_tide (r : Nat) (f : Region → Region) : (s.updReg r f).tide = s.tide := rfl
@[simp] theorem State.updReg_flt (r : Nat) (f : Region → Region) : (s.updReg r f).flt = s.flt := rfl
@[simp] theorem State.updReg_hw (r : Nat) (f : Region → Region) : (s.updReg r f).hw = s.hw := rfl
@[simp] theorem State.updReg_log (r : Nat) (f : Region → Region) : (s.updReg r f).log = s.log := rfl
@[simp] theorem State.updReg_store (r : Nat) (f : Region → Region) : (s.updReg r f).store = s.store := rfl
@[simp] theorem State.updReg_sys (r : Nat) (f : Region → Region) : (s.updReg r f).sys = s.sys := rfl
@[simp] theorem State.updReg_ports (r : Nat) (f : Region → Region) : (s.updReg r f).ports = s.ports := rfl

@[simp] theorem State.updConv_pending (f : ConvDyn → ConvDyn) : (s.updConv f).pending = s.pending := rfl
@[simp] theorem State.updConv_now (f : ConvDyn → ConvDyn) : (s.updConv f).now = s.now := rfl
@[simp] theorem State.updConv_epochAt (f : ConvDyn → ConvDyn) : (s.updConv f).epochAt = s.epochAt := rfl
@[simp] theorem State.updConv_epoch (f : ConvDyn → ConvDyn) : (s.updConv f).epoch = s.epoch := rfl
@[simp] theorem State.updConv_free (f : ConvDyn → ConvDyn) : (s.updConv f).free = s.free := rfl
@[simp] theorem State.updConv_nodes (f : ConvDyn → ConvDyn) : (s.updConv f).nodes = s.nodes := rfl
@[simp] theorem State.updConv_links (f : ConvDyn → ConvDyn) : (s.updConv f).links = s.links := rfl
@[simp] theorem State.updConv_pans (f : ConvDyn → ConvDyn) : (s.updConv f).pans = s.pans := rfl
@[simp] theorem State.updConv_eng (f : ConvDyn → ConvDyn) : (s.updConv f).eng = s.eng := rfl
@[simp] theorem State.updConv_com (f : ConvDyn → ConvDyn) : (s.updConv f).com = s.com := rfl
@[simp] theorem State.updConv_safe (f : ConvDyn → ConvDyn) : (s.updConv f).safe = s.safe := rfl
@[simp] theorem State.updConv_views (f : ConvDyn → ConvDyn) : (s.updConv f).views = s.views := rfl
@[simp] theorem State.updConv_regs (f : ConvDyn → ConvDyn) : (s.updConv f).regs = s.regs := rfl
@[simp] theorem State.updConv_conv (f : ConvDyn → ConvDyn) : (s.updConv f).conv = f s.conv := rfl
@[simp] theorem State.updConv_stg (f : ConvDyn → ConvDyn) : (s.updConv f).stg = s.stg := rfl
@[simp] theorem State.updConv_tel (f : ConvDyn → ConvDyn) : (s.updConv f).tel = s.tel := rfl
@[simp] theorem State.updConv_bud (f : ConvDyn → ConvDyn) : (s.updConv f).bud = s.bud := rfl
@[simp] theorem State.updConv_shim (f : ConvDyn → ConvDyn) : (s.updConv f).shim = s.shim := rfl
@[simp] theorem State.updConv_led (f : ConvDyn → ConvDyn) : (s.updConv f).led = s.led := rfl
@[simp] theorem State.updConv_tide (f : ConvDyn → ConvDyn) : (s.updConv f).tide = s.tide := rfl
@[simp] theorem State.updConv_flt (f : ConvDyn → ConvDyn) : (s.updConv f).flt = s.flt := rfl
@[simp] theorem State.updConv_hw (f : ConvDyn → ConvDyn) : (s.updConv f).hw = s.hw := rfl
@[simp] theorem State.updConv_log (f : ConvDyn → ConvDyn) : (s.updConv f).log = s.log := rfl
@[simp] theorem State.updConv_store (f : ConvDyn → ConvDyn) : (s.updConv f).store = s.store := rfl
@[simp] theorem State.updConv_sys (f : ConvDyn → ConvDyn) : (s.updConv f).sys = s.sys := rfl
@[simp] theorem State.updConv_ports (f : ConvDyn → ConvDyn) : (s.updConv f).ports = s.ports := rfl

@[simp] theorem State.updFlt_pending (f : Faults → Faults) : (s.updFlt f).pending = s.pending := rfl
@[simp] theorem State.updFlt_now (f : Faults → Faults) : (s.updFlt f).now = s.now := rfl
@[simp] theorem State.updFlt_epochAt (f : Faults → Faults) : (s.updFlt f).epochAt = s.epochAt := rfl
@[simp] theorem State.updFlt_epoch (f : Faults → Faults) : (s.updFlt f).epoch = s.epoch := rfl
@[simp] theorem State.updFlt_free (f : Faults → Faults) : (s.updFlt f).free = s.free := rfl
@[simp] theorem State.updFlt_nodes (f : Faults → Faults) : (s.updFlt f).nodes = s.nodes := rfl
@[simp] theorem State.updFlt_links (f : Faults → Faults) : (s.updFlt f).links = s.links := rfl
@[simp] theorem State.updFlt_pans (f : Faults → Faults) : (s.updFlt f).pans = s.pans := rfl
@[simp] theorem State.updFlt_eng (f : Faults → Faults) : (s.updFlt f).eng = s.eng := rfl
@[simp] theorem State.updFlt_com (f : Faults → Faults) : (s.updFlt f).com = s.com := rfl
@[simp] theorem State.updFlt_safe (f : Faults → Faults) : (s.updFlt f).safe = s.safe := rfl
@[simp] theorem State.updFlt_views (f : Faults → Faults) : (s.updFlt f).views = s.views := rfl
@[simp] theorem State.updFlt_regs (f : Faults → Faults) : (s.updFlt f).regs = s.regs := rfl
@[simp] theorem State.updFlt_conv (f : Faults → Faults) : (s.updFlt f).conv = s.conv := rfl
@[simp] theorem State.updFlt_stg (f : Faults → Faults) : (s.updFlt f).stg = s.stg := rfl
@[simp] theorem State.updFlt_tel (f : Faults → Faults) : (s.updFlt f).tel = s.tel := rfl
@[simp] theorem State.updFlt_bud (f : Faults → Faults) : (s.updFlt f).bud = s.bud := rfl
@[simp] theorem State.updFlt_shim (f : Faults → Faults) : (s.updFlt f).shim = s.shim := rfl
@[simp] theorem State.updFlt_led (f : Faults → Faults) : (s.updFlt f).led = s.led := rfl
@[simp] theorem State.updFlt_tide (f : Faults → Faults) : (s.updFlt f).tide = s.tide := rfl
@[simp] theorem State.updFlt_flt (f : Faults → Faults) : (s.updFlt f).flt = f s.flt := rfl
@[simp] theorem State.updFlt_hw (f : Faults → Faults) : (s.updFlt f).hw = s.hw := rfl
@[simp] theorem State.updFlt_log (f : Faults → Faults) : (s.updFlt f).log = s.log := rfl
@[simp] theorem State.updFlt_store (f : Faults → Faults) : (s.updFlt f).store = s.store := rfl
@[simp] theorem State.updFlt_sys (f : Faults → Faults) : (s.updFlt f).sys = s.sys := rfl
@[simp] theorem State.updFlt_ports (f : Faults → Faults) : (s.updFlt f).ports = s.ports := rfl

@[simp] theorem State.updHw_pending (f : HostWin → HostWin) : (s.updHw f).pending = s.pending := rfl
@[simp] theorem State.updHw_now (f : HostWin → HostWin) : (s.updHw f).now = s.now := rfl
@[simp] theorem State.updHw_epochAt (f : HostWin → HostWin) : (s.updHw f).epochAt = s.epochAt := rfl
@[simp] theorem State.updHw_epoch (f : HostWin → HostWin) : (s.updHw f).epoch = s.epoch := rfl
@[simp] theorem State.updHw_free (f : HostWin → HostWin) : (s.updHw f).free = s.free := rfl
@[simp] theorem State.updHw_nodes (f : HostWin → HostWin) : (s.updHw f).nodes = s.nodes := rfl
@[simp] theorem State.updHw_links (f : HostWin → HostWin) : (s.updHw f).links = s.links := rfl
@[simp] theorem State.updHw_pans (f : HostWin → HostWin) : (s.updHw f).pans = s.pans := rfl
@[simp] theorem State.updHw_eng (f : HostWin → HostWin) : (s.updHw f).eng = s.eng := rfl
@[simp] theorem State.updHw_com (f : HostWin → HostWin) : (s.updHw f).com = s.com := rfl
@[simp] theorem State.updHw_safe (f : HostWin → HostWin) : (s.updHw f).safe = s.safe := rfl
@[simp] theorem State.updHw_views (f : HostWin → HostWin) : (s.updHw f).views = s.views := rfl
@[simp] theorem State.updHw_regs (f : HostWin → HostWin) : (s.updHw f).regs = s.regs := rfl
@[simp] theorem State.updHw_conv (f : HostWin → HostWin) : (s.updHw f).conv = s.conv := rfl
@[simp] theorem State.updHw_stg (f : HostWin → HostWin) : (s.updHw f).stg = s.stg := rfl
@[simp] theorem State.updHw_tel (f : HostWin → HostWin) : (s.updHw f).tel = s.tel := rfl
@[simp] theorem State.updHw_bud (f : HostWin → HostWin) : (s.updHw f).bud = s.bud := rfl
@[simp] theorem State.updHw_shim (f : HostWin → HostWin) : (s.updHw f).shim = s.shim := rfl
@[simp] theorem State.updHw_led (f : HostWin → HostWin) : (s.updHw f).led = s.led := rfl
@[simp] theorem State.updHw_tide (f : HostWin → HostWin) : (s.updHw f).tide = s.tide := rfl
@[simp] theorem State.updHw_flt (f : HostWin → HostWin) : (s.updHw f).flt = s.flt := rfl
@[simp] theorem State.updHw_hw (f : HostWin → HostWin) : (s.updHw f).hw = f s.hw := rfl
@[simp] theorem State.updHw_log (f : HostWin → HostWin) : (s.updHw f).log = s.log := rfl
@[simp] theorem State.updHw_store (f : HostWin → HostWin) : (s.updHw f).store = s.store := rfl
@[simp] theorem State.updHw_sys (f : HostWin → HostWin) : (s.updHw f).sys = s.sys := rfl
@[simp] theorem State.updHw_ports (f : HostWin → HostWin) : (s.updHw f).ports = s.ports := rfl

@[simp] theorem State.updStg_pending (f : Staging → Staging) : (s.updStg f).pending = s.pending := rfl
@[simp] theorem State.updStg_now (f : Staging → Staging) : (s.updStg f).now = s.now := rfl
@[simp] theorem State.updStg_epochAt (f : Staging → Staging) : (s.updStg f).epochAt = s.epochAt := rfl
@[simp] theorem State.updStg_epoch (f : Staging → Staging) : (s.updStg f).epoch = s.epoch := rfl
@[simp] theorem State.updStg_free (f : Staging → Staging) : (s.updStg f).free = s.free := rfl
@[simp] theorem State.updStg_nodes (f : Staging → Staging) : (s.updStg f).nodes = s.nodes := rfl
@[simp] theorem State.updStg_links (f : Staging → Staging) : (s.updStg f).links = s.links := rfl
@[simp] theorem State.updStg_pans (f : Staging → Staging) : (s.updStg f).pans = s.pans := rfl
@[simp] theorem State.updStg_eng (f : Staging → Staging) : (s.updStg f).eng = s.eng := rfl
@[simp] theorem State.updStg_com (f : Staging → Staging) : (s.updStg f).com = s.com := rfl
@[simp] theorem State.updStg_safe (f : Staging → Staging) : (s.updStg f).safe = s.safe := rfl
@[simp] theorem State.updStg_views (f : Staging → Staging) : (s.updStg f).views = s.views := rfl
@[simp] theorem State.updStg_regs (f : Staging → Staging) : (s.updStg f).regs = s.regs := rfl
@[simp] theorem State.updStg_conv (f : Staging → Staging) : (s.updStg f).conv = s.conv := rfl
@[simp] theorem State.updStg_stg (f : Staging → Staging) : (s.updStg f).stg = f s.stg := rfl
@[simp] theorem State.updStg_tel (f : Staging → Staging) : (s.updStg f).tel = s.tel := rfl
@[simp] theorem State.updStg_bud (f : Staging → Staging) : (s.updStg f).bud = s.bud := rfl
@[simp] theorem State.updStg_shim (f : Staging → Staging) : (s.updStg f).shim = s.shim := rfl
@[simp] theorem State.updStg_led (f : Staging → Staging) : (s.updStg f).led = s.led := rfl
@[simp] theorem State.updStg_tide (f : Staging → Staging) : (s.updStg f).tide = s.tide := rfl
@[simp] theorem State.updStg_flt (f : Staging → Staging) : (s.updStg f).flt = s.flt := rfl
@[simp] theorem State.updStg_hw (f : Staging → Staging) : (s.updStg f).hw = s.hw := rfl
@[simp] theorem State.updStg_log (f : Staging → Staging) : (s.updStg f).log = s.log := rfl
@[simp] theorem State.updStg_store (f : Staging → Staging) : (s.updStg f).store = s.store := rfl
@[simp] theorem State.updStg_sys (f : Staging → Staging) : (s.updStg f).sys = s.sys := rfl
@[simp] theorem State.updStg_ports (f : Staging → Staging) : (s.updStg f).ports = s.ports := rfl

@[simp] theorem State.updSys_pending (f : Sys → Sys) : (s.updSys f).pending = s.pending := rfl
@[simp] theorem State.updSys_now (f : Sys → Sys) : (s.updSys f).now = s.now := rfl
@[simp] theorem State.updSys_epochAt (f : Sys → Sys) : (s.updSys f).epochAt = s.epochAt := rfl
@[simp] theorem State.updSys_epoch (f : Sys → Sys) : (s.updSys f).epoch = s.epoch := rfl
@[simp] theorem State.updSys_free (f : Sys → Sys) : (s.updSys f).free = s.free := rfl
@[simp] theorem State.updSys_nodes (f : Sys → Sys) : (s.updSys f).nodes = s.nodes := rfl
@[simp] theorem State.updSys_links (f : Sys → Sys) : (s.updSys f).links = s.links := rfl
@[simp] theorem State.updSys_pans (f : Sys → Sys) : (s.updSys f).pans = s.pans := rfl
@[simp] theorem State.updSys_eng (f : Sys → Sys) : (s.updSys f).eng = s.eng := rfl
@[simp] theorem State.updSys_com (f : Sys → Sys) : (s.updSys f).com = s.com := rfl
@[simp] theorem State.updSys_safe (f : Sys → Sys) : (s.updSys f).safe = s.safe := rfl
@[simp] theorem State.updSys_views (f : Sys → Sys) : (s.updSys f).views = s.views := rfl
@[simp] theorem State.updSys_regs (f : Sys → Sys) : (s.updSys f).regs = s.regs := rfl
@[simp] theorem State.updSys_conv (f : Sys → Sys) : (s.updSys f).conv = s.conv := rfl
@[simp] theorem State.updSys_stg (f : Sys → Sys) : (s.updSys f).stg = s.stg := rfl
@[simp] theorem State.updSys_tel (f : Sys → Sys) : (s.updSys f).tel = s.tel := rfl
@[simp] theorem State.updSys_bud (f : Sys → Sys) : (s.updSys f).bud = s.bud := rfl
@[simp] theorem State.updSys_shim (f : Sys → Sys) : (s.updSys f).shim = s.shim := rfl
@[simp] theorem State.updSys_led (f : Sys → Sys) : (s.updSys f).led = s.led := rfl
@[simp] theorem State.updSys_tide (f : Sys → Sys) : (s.updSys f).tide = s.tide := rfl
@[simp] theorem State.updSys_flt (f : Sys → Sys) : (s.updSys f).flt = s.flt := rfl
@[simp] theorem State.updSys_hw (f : Sys → Sys) : (s.updSys f).hw = s.hw := rfl
@[simp] theorem State.updSys_log (f : Sys → Sys) : (s.updSys f).log = s.log := rfl
@[simp] theorem State.updSys_store (f : Sys → Sys) : (s.updSys f).store = s.store := rfl
@[simp] theorem State.updSys_sys (f : Sys → Sys) : (s.updSys f).sys = f s.sys := rfl
@[simp] theorem State.updSys_ports (f : Sys → Sys) : (s.updSys f).ports = s.ports := rfl

@[simp] theorem State.updPorts_pending (f : Ports → Ports) : (s.updPorts f).pending = s.pending := rfl
@[simp] theorem State.updPorts_now (f : Ports → Ports) : (s.updPorts f).now = s.now := rfl
@[simp] theorem State.updPorts_epochAt (f : Ports → Ports) : (s.updPorts f).epochAt = s.epochAt := rfl
@[simp] theorem State.updPorts_epoch (f : Ports → Ports) : (s.updPorts f).epoch = s.epoch := rfl
@[simp] theorem State.updPorts_free (f : Ports → Ports) : (s.updPorts f).free = s.free := rfl
@[simp] theorem State.updPorts_nodes (f : Ports → Ports) : (s.updPorts f).nodes = s.nodes := rfl
@[simp] theorem State.updPorts_links (f : Ports → Ports) : (s.updPorts f).links = s.links := rfl
@[simp] theorem State.updPorts_pans (f : Ports → Ports) : (s.updPorts f).pans = s.pans := rfl
@[simp] theorem State.updPorts_eng (f : Ports → Ports) : (s.updPorts f).eng = s.eng := rfl
@[simp] theorem State.updPorts_com (f : Ports → Ports) : (s.updPorts f).com = s.com := rfl
@[simp] theorem State.updPorts_safe (f : Ports → Ports) : (s.updPorts f).safe = s.safe := rfl
@[simp] theorem State.updPorts_views (f : Ports → Ports) : (s.updPorts f).views = s.views := rfl
@[simp] theorem State.updPorts_regs (f : Ports → Ports) : (s.updPorts f).regs = s.regs := rfl
@[simp] theorem State.updPorts_conv (f : Ports → Ports) : (s.updPorts f).conv = s.conv := rfl
@[simp] theorem State.updPorts_stg (f : Ports → Ports) : (s.updPorts f).stg = s.stg := rfl
@[simp] theorem State.updPorts_tel (f : Ports → Ports) : (s.updPorts f).tel = s.tel := rfl
@[simp] theorem State.updPorts_bud (f : Ports → Ports) : (s.updPorts f).bud = s.bud := rfl
@[simp] theorem State.updPorts_shim (f : Ports → Ports) : (s.updPorts f).shim = s.shim := rfl
@[simp] theorem State.updPorts_led (f : Ports → Ports) : (s.updPorts f).led = s.led := rfl
@[simp] theorem State.updPorts_tide (f : Ports → Ports) : (s.updPorts f).tide = s.tide := rfl
@[simp] theorem State.updPorts_flt (f : Ports → Ports) : (s.updPorts f).flt = s.flt := rfl
@[simp] theorem State.updPorts_hw (f : Ports → Ports) : (s.updPorts f).hw = s.hw := rfl
@[simp] theorem State.updPorts_log (f : Ports → Ports) : (s.updPorts f).log = s.log := rfl
@[simp] theorem State.updPorts_store (f : Ports → Ports) : (s.updPorts f).store = s.store := rfl
@[simp] theorem State.updPorts_sys (f : Ports → Ports) : (s.updPorts f).sys = s.sys := rfl
@[simp] theorem State.updPorts_ports (f : Ports → Ports) : (s.updPorts f).ports = f s.ports := rfl

@[simp] theorem State.updEng_pending (f : Engine → Engine) : (s.updEng f).pending = s.pending := rfl
@[simp] theorem State.updEng_now (f : Engine → Engine) : (s.updEng f).now = s.now := rfl
@[simp] theorem State.updEng_epochAt (f : Engine → Engine) : (s.updEng f).epochAt = s.epochAt := rfl
@[simp] theorem State.updEng_epoch (f : Engine → Engine) : (s.updEng f).epoch = s.epoch := rfl
@[simp] theorem State.updEng_free (f : Engine → Engine) : (s.updEng f).free = s.free := rfl
@[simp] theorem State.updEng_nodes (f : Engine → Engine) : (s.updEng f).nodes = s.nodes := rfl
@[simp] theorem State.updEng_links (f : Engine → Engine) : (s.updEng f).links = s.links := rfl
@[simp] theorem State.updEng_pans (f : Engine → Engine) : (s.updEng f).pans = s.pans := rfl
@[simp] theorem State.updEng_eng (f : Engine → Engine) : (s.updEng f).eng = f s.eng := rfl
@[simp] theorem State.updEng_com (f : Engine → Engine) : (s.updEng f).com = s.com := rfl
@[simp] theorem State.updEng_safe (f : Engine → Engine) : (s.updEng f).safe = s.safe := rfl
@[simp] theorem State.updEng_views (f : Engine → Engine) : (s.updEng f).views = s.views := rfl
@[simp] theorem State.updEng_regs (f : Engine → Engine) : (s.updEng f).regs = s.regs := rfl
@[simp] theorem State.updEng_conv (f : Engine → Engine) : (s.updEng f).conv = s.conv := rfl
@[simp] theorem State.updEng_stg (f : Engine → Engine) : (s.updEng f).stg = s.stg := rfl
@[simp] theorem State.updEng_tel (f : Engine → Engine) : (s.updEng f).tel = s.tel := rfl
@[simp] theorem State.updEng_bud (f : Engine → Engine) : (s.updEng f).bud = s.bud := rfl
@[simp] theorem State.updEng_shim (f : Engine → Engine) : (s.updEng f).shim = s.shim := rfl
@[simp] theorem State.updEng_led (f : Engine → Engine) : (s.updEng f).led = s.led := rfl
@[simp] theorem State.updEng_tide (f : Engine → Engine) : (s.updEng f).tide = s.tide := rfl
@[simp] theorem State.updEng_flt (f : Engine → Engine) : (s.updEng f).flt = s.flt := rfl
@[simp] theorem State.updEng_hw (f : Engine → Engine) : (s.updEng f).hw = s.hw := rfl
@[simp] theorem State.updEng_log (f : Engine → Engine) : (s.updEng f).log = s.log := rfl
@[simp] theorem State.updEng_store (f : Engine → Engine) : (s.updEng f).store = s.store := rfl
@[simp] theorem State.updEng_sys (f : Engine → Engine) : (s.updEng f).sys = s.sys := rfl
@[simp] theorem State.updEng_ports (f : Engine → Engine) : (s.updEng f).ports = s.ports := rfl

@[simp] theorem State.updTide_pending (f : Tide → Tide) : (s.updTide f).pending = s.pending := rfl
@[simp] theorem State.updTide_now (f : Tide → Tide) : (s.updTide f).now = s.now := rfl
@[simp] theorem State.updTide_epochAt (f : Tide → Tide) : (s.updTide f).epochAt = s.epochAt := rfl
@[simp] theorem State.updTide_epoch (f : Tide → Tide) : (s.updTide f).epoch = s.epoch := rfl
@[simp] theorem State.updTide_free (f : Tide → Tide) : (s.updTide f).free = s.free := rfl
@[simp] theorem State.updTide_nodes (f : Tide → Tide) : (s.updTide f).nodes = s.nodes := rfl
@[simp] theorem State.updTide_links (f : Tide → Tide) : (s.updTide f).links = s.links := rfl
@[simp] theorem State.updTide_pans (f : Tide → Tide) : (s.updTide f).pans = s.pans := rfl
@[simp] theorem State.updTide_eng (f : Tide → Tide) : (s.updTide f).eng = s.eng := rfl
@[simp] theorem State.updTide_com (f : Tide → Tide) : (s.updTide f).com = s.com := rfl
@[simp] theorem State.updTide_safe (f : Tide → Tide) : (s.updTide f).safe = s.safe := rfl
@[simp] theorem State.updTide_views (f : Tide → Tide) : (s.updTide f).views = s.views := rfl
@[simp] theorem State.updTide_regs (f : Tide → Tide) : (s.updTide f).regs = s.regs := rfl
@[simp] theorem State.updTide_conv (f : Tide → Tide) : (s.updTide f).conv = s.conv := rfl
@[simp] theorem State.updTide_stg (f : Tide → Tide) : (s.updTide f).stg = s.stg := rfl
@[simp] theorem State.updTide_tel (f : Tide → Tide) : (s.updTide f).tel = s.tel := rfl
@[simp] theorem State.updTide_bud (f : Tide → Tide) : (s.updTide f).bud = s.bud := rfl
@[simp] theorem State.updTide_shim (f : Tide → Tide) : (s.updTide f).shim = s.shim := rfl
@[simp] theorem State.updTide_led (f : Tide → Tide) : (s.updTide f).led = s.led := rfl
@[simp] theorem State.updTide_tide (f : Tide → Tide) : (s.updTide f).tide = f s.tide := rfl
@[simp] theorem State.updTide_flt (f : Tide → Tide) : (s.updTide f).flt = s.flt := rfl
@[simp] theorem State.updTide_hw (f : Tide → Tide) : (s.updTide f).hw = s.hw := rfl
@[simp] theorem State.updTide_log (f : Tide → Tide) : (s.updTide f).log = s.log := rfl
@[simp] theorem State.updTide_store (f : Tide → Tide) : (s.updTide f).store = s.store := rfl
@[simp] theorem State.updTide_sys (f : Tide → Tide) : (s.updTide f).sys = s.sys := rfl
@[simp] theorem State.updTide_ports (f : Tide → Tide) : (s.updTide f).ports = s.ports := rfl

@[simp] theorem State.updLed_pending (f : Ledger → Ledger) : (s.updLed f).pending = s.pending := rfl
@[simp] theorem State.updLed_now (f : Ledger → Ledger) : (s.updLed f).now = s.now := rfl
@[simp] theorem State.updLed_epochAt (f : Ledger → Ledger) : (s.updLed f).epochAt = s.epochAt := rfl
@[simp] theorem State.updLed_epoch (f : Ledger → Ledger) : (s.updLed f).epoch = s.epoch := rfl
@[simp] theorem State.updLed_free (f : Ledger → Ledger) : (s.updLed f).free = s.free := rfl
@[simp] theorem State.updLed_nodes (f : Ledger → Ledger) : (s.updLed f).nodes = s.nodes := rfl
@[simp] theorem State.updLed_links (f : Ledger → Ledger) : (s.updLed f).links = s.links := rfl
@[simp] theorem State.updLed_pans (f : Ledger → Ledger) : (s.updLed f).pans = s.pans := rfl
@[simp] theorem State.updLed_eng (f : Ledger → Ledger) : (s.updLed f).eng = s.eng := rfl
@[simp] theorem State.updLed_com (f : Ledger → Ledger) : (s.updLed f).com = s.com := rfl
@[simp] theorem State.updLed_safe (f : Ledger → Ledger) : (s.updLed f).safe = s.safe := rfl
@[simp] theorem State.updLed_views (f : Ledger → Ledger) : (s.updLed f).views = s.views := rfl
@[simp] theorem State.updLed_regs (f : Ledger → Ledger) : (s.updLed f).regs = s.regs := rfl
@[simp] theorem State.updLed_conv (f : Ledger → Ledger) : (s.updLed f).conv = s.conv := rfl
@[simp] theorem State.updLed_stg (f : Ledger → Ledger) : (s.updLed f).stg = s.stg := rfl
@[simp] theorem State.updLed_tel (f : Ledger → Ledger) : (s.updLed f).tel = s.tel := rfl
@[simp] theorem State.updLed_bud (f : Ledger → Ledger) : (s.updLed f).bud = s.bud := rfl
@[simp] theorem State.updLed_shim (f : Ledger → Ledger) : (s.updLed f).shim = s.shim := rfl
@[simp] theorem State.updLed_led (f : Ledger → Ledger) : (s.updLed f).led = f s.led := rfl
@[simp] theorem State.updLed_tide (f : Ledger → Ledger) : (s.updLed f).tide = s.tide := rfl
@[simp] theorem State.updLed_flt (f : Ledger → Ledger) : (s.updLed f).flt = s.flt := rfl
@[simp] theorem State.updLed_hw (f : Ledger → Ledger) : (s.updLed f).hw = s.hw := rfl
@[simp] theorem State.updLed_log (f : Ledger → Ledger) : (s.updLed f).log = s.log := rfl
@[simp] theorem State.updLed_store (f : Ledger → Ledger) : (s.updLed f).store = s.store := rfl
@[simp] theorem State.updLed_sys (f : Ledger → Ledger) : (s.updLed f).sys = s.sys := rfl
@[simp] theorem State.updLed_ports (f : Ledger → Ledger) : (s.updLed f).ports = s.ports := rfl

@[simp] theorem State.updShim_pending (f : ShimSeq → ShimSeq) : (s.updShim f).pending = s.pending := rfl
@[simp] theorem State.updShim_now (f : ShimSeq → ShimSeq) : (s.updShim f).now = s.now := rfl
@[simp] theorem State.updShim_epochAt (f : ShimSeq → ShimSeq) : (s.updShim f).epochAt = s.epochAt := rfl
@[simp] theorem State.updShim_epoch (f : ShimSeq → ShimSeq) : (s.updShim f).epoch = s.epoch := rfl
@[simp] theorem State.updShim_free (f : ShimSeq → ShimSeq) : (s.updShim f).free = s.free := rfl
@[simp] theorem State.updShim_nodes (f : ShimSeq → ShimSeq) : (s.updShim f).nodes = s.nodes := rfl
@[simp] theorem State.updShim_links (f : ShimSeq → ShimSeq) : (s.updShim f).links = s.links := rfl
@[simp] theorem State.updShim_pans (f : ShimSeq → ShimSeq) : (s.updShim f).pans = s.pans := rfl
@[simp] theorem State.updShim_eng (f : ShimSeq → ShimSeq) : (s.updShim f).eng = s.eng := rfl
@[simp] theorem State.updShim_com (f : ShimSeq → ShimSeq) : (s.updShim f).com = s.com := rfl
@[simp] theorem State.updShim_safe (f : ShimSeq → ShimSeq) : (s.updShim f).safe = s.safe := rfl
@[simp] theorem State.updShim_views (f : ShimSeq → ShimSeq) : (s.updShim f).views = s.views := rfl
@[simp] theorem State.updShim_regs (f : ShimSeq → ShimSeq) : (s.updShim f).regs = s.regs := rfl
@[simp] theorem State.updShim_conv (f : ShimSeq → ShimSeq) : (s.updShim f).conv = s.conv := rfl
@[simp] theorem State.updShim_stg (f : ShimSeq → ShimSeq) : (s.updShim f).stg = s.stg := rfl
@[simp] theorem State.updShim_tel (f : ShimSeq → ShimSeq) : (s.updShim f).tel = s.tel := rfl
@[simp] theorem State.updShim_bud (f : ShimSeq → ShimSeq) : (s.updShim f).bud = s.bud := rfl
@[simp] theorem State.updShim_shim (f : ShimSeq → ShimSeq) : (s.updShim f).shim = f s.shim := rfl
@[simp] theorem State.updShim_led (f : ShimSeq → ShimSeq) : (s.updShim f).led = s.led := rfl
@[simp] theorem State.updShim_tide (f : ShimSeq → ShimSeq) : (s.updShim f).tide = s.tide := rfl
@[simp] theorem State.updShim_flt (f : ShimSeq → ShimSeq) : (s.updShim f).flt = s.flt := rfl
@[simp] theorem State.updShim_hw (f : ShimSeq → ShimSeq) : (s.updShim f).hw = s.hw := rfl
@[simp] theorem State.updShim_log (f : ShimSeq → ShimSeq) : (s.updShim f).log = s.log := rfl
@[simp] theorem State.updShim_store (f : ShimSeq → ShimSeq) : (s.updShim f).store = s.store := rfl
@[simp] theorem State.updShim_sys (f : ShimSeq → ShimSeq) : (s.updShim f).sys = s.sys := rfl
@[simp] theorem State.updShim_ports (f : ShimSeq → ShimSeq) : (s.updShim f).ports = s.ports := rfl

@[simp] theorem State.updBud_pending (f : Budget → Budget) : (s.updBud f).pending = s.pending := rfl
@[simp] theorem State.updBud_now (f : Budget → Budget) : (s.updBud f).now = s.now := rfl
@[simp] theorem State.updBud_epochAt (f : Budget → Budget) : (s.updBud f).epochAt = s.epochAt := rfl
@[simp] theorem State.updBud_epoch (f : Budget → Budget) : (s.updBud f).epoch = s.epoch := rfl
@[simp] theorem State.updBud_free (f : Budget → Budget) : (s.updBud f).free = s.free := rfl
@[simp] theorem State.updBud_nodes (f : Budget → Budget) : (s.updBud f).nodes = s.nodes := rfl
@[simp] theorem State.updBud_links (f : Budget → Budget) : (s.updBud f).links = s.links := rfl
@[simp] theorem State.updBud_pans (f : Budget → Budget) : (s.updBud f).pans = s.pans := rfl
@[simp] theorem State.updBud_eng (f : Budget → Budget) : (s.updBud f).eng = s.eng := rfl
@[simp] theorem State.updBud_com (f : Budget → Budget) : (s.updBud f).com = s.com := rfl
@[simp] theorem State.updBud_safe (f : Budget → Budget) : (s.updBud f).safe = s.safe := rfl
@[simp] theorem State.updBud_views (f : Budget → Budget) : (s.updBud f).views = s.views := rfl
@[simp] theorem State.updBud_regs (f : Budget → Budget) : (s.updBud f).regs = s.regs := rfl
@[simp] theorem State.updBud_conv (f : Budget → Budget) : (s.updBud f).conv = s.conv := rfl
@[simp] theorem State.updBud_stg (f : Budget → Budget) : (s.updBud f).stg = s.stg := rfl
@[simp] theorem State.updBud_tel (f : Budget → Budget) : (s.updBud f).tel = s.tel := rfl
@[simp] theorem State.updBud_bud (f : Budget → Budget) : (s.updBud f).bud = f s.bud := rfl
@[simp] theorem State.updBud_shim (f : Budget → Budget) : (s.updBud f).shim = s.shim := rfl
@[simp] theorem State.updBud_led (f : Budget → Budget) : (s.updBud f).led = s.led := rfl
@[simp] theorem State.updBud_tide (f : Budget → Budget) : (s.updBud f).tide = s.tide := rfl
@[simp] theorem State.updBud_flt (f : Budget → Budget) : (s.updBud f).flt = s.flt := rfl
@[simp] theorem State.updBud_hw (f : Budget → Budget) : (s.updBud f).hw = s.hw := rfl
@[simp] theorem State.updBud_log (f : Budget → Budget) : (s.updBud f).log = s.log := rfl
@[simp] theorem State.updBud_store (f : Budget → Budget) : (s.updBud f).store = s.store := rfl
@[simp] theorem State.updBud_sys (f : Budget → Budget) : (s.updBud f).sys = s.sys := rfl
@[simp] theorem State.updBud_ports (f : Budget → Budget) : (s.updBud f).ports = s.ports := rfl

@[simp] theorem State.updDie_pending (f : DieTel → DieTel) : (s.updDie f).pending = s.pending := rfl
@[simp] theorem State.updDie_now (f : DieTel → DieTel) : (s.updDie f).now = s.now := rfl
@[simp] theorem State.updDie_epochAt (f : DieTel → DieTel) : (s.updDie f).epochAt = s.epochAt := rfl
@[simp] theorem State.updDie_epoch (f : DieTel → DieTel) : (s.updDie f).epoch = s.epoch := rfl
@[simp] theorem State.updDie_free (f : DieTel → DieTel) : (s.updDie f).free = s.free := rfl
@[simp] theorem State.updDie_nodes (f : DieTel → DieTel) : (s.updDie f).nodes = s.nodes := rfl
@[simp] theorem State.updDie_links (f : DieTel → DieTel) : (s.updDie f).links = s.links := rfl
@[simp] theorem State.updDie_pans (f : DieTel → DieTel) : (s.updDie f).pans = s.pans := rfl
@[simp] theorem State.updDie_eng (f : DieTel → DieTel) : (s.updDie f).eng = s.eng := rfl
@[simp] theorem State.updDie_com (f : DieTel → DieTel) : (s.updDie f).com = s.com := rfl
@[simp] theorem State.updDie_safe (f : DieTel → DieTel) : (s.updDie f).safe = s.safe := rfl
@[simp] theorem State.updDie_views (f : DieTel → DieTel) : (s.updDie f).views = s.views := rfl
@[simp] theorem State.updDie_regs (f : DieTel → DieTel) : (s.updDie f).regs = s.regs := rfl
@[simp] theorem State.updDie_conv (f : DieTel → DieTel) : (s.updDie f).conv = s.conv := rfl
@[simp] theorem State.updDie_stg (f : DieTel → DieTel) : (s.updDie f).stg = s.stg := rfl
@[simp] theorem State.updDie_tel (f : DieTel → DieTel) : (s.updDie f).tel = f s.tel := rfl
@[simp] theorem State.updDie_bud (f : DieTel → DieTel) : (s.updDie f).bud = s.bud := rfl
@[simp] theorem State.updDie_shim (f : DieTel → DieTel) : (s.updDie f).shim = s.shim := rfl
@[simp] theorem State.updDie_led (f : DieTel → DieTel) : (s.updDie f).led = s.led := rfl
@[simp] theorem State.updDie_tide (f : DieTel → DieTel) : (s.updDie f).tide = s.tide := rfl
@[simp] theorem State.updDie_flt (f : DieTel → DieTel) : (s.updDie f).flt = s.flt := rfl
@[simp] theorem State.updDie_hw (f : DieTel → DieTel) : (s.updDie f).hw = s.hw := rfl
@[simp] theorem State.updDie_log (f : DieTel → DieTel) : (s.updDie f).log = s.log := rfl
@[simp] theorem State.updDie_store (f : DieTel → DieTel) : (s.updDie f).store = s.store := rfl
@[simp] theorem State.updDie_sys (f : DieTel → DieTel) : (s.updDie f).sys = s.sys := rfl
@[simp] theorem State.updDie_ports (f : DieTel → DieTel) : (s.updDie f).ports = s.ports := rfl

@[simp] theorem State.withPending_pending (q : List Instr) : (s.withPending q).pending = q := rfl
@[simp] theorem State.withPending_now (q : List Instr) : (s.withPending q).now = s.now := rfl
@[simp] theorem State.withPending_epochAt (q : List Instr) : (s.withPending q).epochAt = s.epochAt := rfl
@[simp] theorem State.withPending_epoch (q : List Instr) : (s.withPending q).epoch = s.epoch := rfl
@[simp] theorem State.withPending_free (q : List Instr) : (s.withPending q).free = s.free := rfl
@[simp] theorem State.withPending_nodes (q : List Instr) : (s.withPending q).nodes = s.nodes := rfl
@[simp] theorem State.withPending_links (q : List Instr) : (s.withPending q).links = s.links := rfl
@[simp] theorem State.withPending_pans (q : List Instr) : (s.withPending q).pans = s.pans := rfl
@[simp] theorem State.withPending_eng (q : List Instr) : (s.withPending q).eng = s.eng := rfl
@[simp] theorem State.withPending_com (q : List Instr) : (s.withPending q).com = s.com := rfl
@[simp] theorem State.withPending_safe (q : List Instr) : (s.withPending q).safe = s.safe := rfl
@[simp] theorem State.withPending_views (q : List Instr) : (s.withPending q).views = s.views := rfl
@[simp] theorem State.withPending_regs (q : List Instr) : (s.withPending q).regs = s.regs := rfl
@[simp] theorem State.withPending_conv (q : List Instr) : (s.withPending q).conv = s.conv := rfl
@[simp] theorem State.withPending_stg (q : List Instr) : (s.withPending q).stg = s.stg := rfl
@[simp] theorem State.withPending_tel (q : List Instr) : (s.withPending q).tel = s.tel := rfl
@[simp] theorem State.withPending_bud (q : List Instr) : (s.withPending q).bud = s.bud := rfl
@[simp] theorem State.withPending_shim (q : List Instr) : (s.withPending q).shim = s.shim := rfl
@[simp] theorem State.withPending_led (q : List Instr) : (s.withPending q).led = s.led := rfl
@[simp] theorem State.withPending_tide (q : List Instr) : (s.withPending q).tide = s.tide := rfl
@[simp] theorem State.withPending_flt (q : List Instr) : (s.withPending q).flt = s.flt := rfl
@[simp] theorem State.withPending_hw (q : List Instr) : (s.withPending q).hw = s.hw := rfl
@[simp] theorem State.withPending_log (q : List Instr) : (s.withPending q).log = s.log := rfl
@[simp] theorem State.withPending_store (q : List Instr) : (s.withPending q).store = s.store := rfl
@[simp] theorem State.withPending_sys (q : List Instr) : (s.withPending q).sys = s.sys := rfl
@[simp] theorem State.withPending_ports (q : List Instr) : (s.withPending q).ports = s.ports := rfl

/-! ### Composite updates -/

theorem State.updSeq_eq (r : Nat) (f : SeqDyn → SeqDyn) : s.updSeq r f = s.updReg r fun x => { x with seq := f x.seq } := rfl
theorem State.updKrf_eq (r : Nat) (f : KerfDyn → KerfDyn) : s.updKrf r f = s.updReg r fun x => { x with krf := f x.krf } := rfl
theorem State.updTel_eq (r : Nat) (f : TelDyn → TelDyn) : s.updTel r f = s.updReg r fun x => { x with tel := f x.tel } := rfl
theorem State.updTh_eq (r : Nat) (f : ThDyn → ThDyn) : s.updTh r f = s.updReg r fun x => { x with th := f x.th } := rfl
theorem State.updUse_eq (r : Nat) (f : UseDyn → UseDyn) : s.updUse r f = s.updReg r fun x => { x with use := f x.use } := rfl

@[simp] theorem State.updSeq_pending (r : Nat) (f : SeqDyn → SeqDyn) : (s.updSeq r f).pending = s.pending := rfl
@[simp] theorem State.updSeq_now (r : Nat) (f : SeqDyn → SeqDyn) : (s.updSeq r f).now = s.now := rfl
@[simp] theorem State.updSeq_epochAt (r : Nat) (f : SeqDyn → SeqDyn) : (s.updSeq r f).epochAt = s.epochAt := rfl
@[simp] theorem State.updSeq_epoch (r : Nat) (f : SeqDyn → SeqDyn) : (s.updSeq r f).epoch = s.epoch := rfl
@[simp] theorem State.updSeq_free (r : Nat) (f : SeqDyn → SeqDyn) : (s.updSeq r f).free = s.free := rfl
@[simp] theorem State.updSeq_nodes (r : Nat) (f : SeqDyn → SeqDyn) : (s.updSeq r f).nodes = s.nodes := rfl
@[simp] theorem State.updSeq_links (r : Nat) (f : SeqDyn → SeqDyn) : (s.updSeq r f).links = s.links := rfl
@[simp] theorem State.updSeq_pans (r : Nat) (f : SeqDyn → SeqDyn) : (s.updSeq r f).pans = s.pans := rfl
@[simp] theorem State.updSeq_eng (r : Nat) (f : SeqDyn → SeqDyn) : (s.updSeq r f).eng = s.eng := rfl
@[simp] theorem State.updSeq_com (r : Nat) (f : SeqDyn → SeqDyn) : (s.updSeq r f).com = s.com := rfl
@[simp] theorem State.updSeq_safe (r : Nat) (f : SeqDyn → SeqDyn) : (s.updSeq r f).safe = s.safe := rfl
@[simp] theorem State.updSeq_views (r : Nat) (f : SeqDyn → SeqDyn) : (s.updSeq r f).views = s.views := rfl
@[simp] theorem State.updSeq_conv (r : Nat) (f : SeqDyn → SeqDyn) : (s.updSeq r f).conv = s.conv := rfl
@[simp] theorem State.updSeq_stg (r : Nat) (f : SeqDyn → SeqDyn) : (s.updSeq r f).stg = s.stg := rfl
@[simp] theorem State.updSeq_tel (r : Nat) (f : SeqDyn → SeqDyn) : (s.updSeq r f).tel = s.tel := rfl
@[simp] theorem State.updSeq_bud (r : Nat) (f : SeqDyn → SeqDyn) : (s.updSeq r f).bud = s.bud := rfl
@[simp] theorem State.updSeq_shim (r : Nat) (f : SeqDyn → SeqDyn) : (s.updSeq r f).shim = s.shim := rfl
@[simp] theorem State.updSeq_led (r : Nat) (f : SeqDyn → SeqDyn) : (s.updSeq r f).led = s.led := rfl
@[simp] theorem State.updSeq_tide (r : Nat) (f : SeqDyn → SeqDyn) : (s.updSeq r f).tide = s.tide := rfl
@[simp] theorem State.updSeq_flt (r : Nat) (f : SeqDyn → SeqDyn) : (s.updSeq r f).flt = s.flt := rfl
@[simp] theorem State.updSeq_hw (r : Nat) (f : SeqDyn → SeqDyn) : (s.updSeq r f).hw = s.hw := rfl
@[simp] theorem State.updSeq_log (r : Nat) (f : SeqDyn → SeqDyn) : (s.updSeq r f).log = s.log := rfl
@[simp] theorem State.updSeq_store (r : Nat) (f : SeqDyn → SeqDyn) : (s.updSeq r f).store = s.store := rfl
@[simp] theorem State.updSeq_sys (r : Nat) (f : SeqDyn → SeqDyn) : (s.updSeq r f).sys = s.sys := rfl
@[simp] theorem State.updSeq_ports (r : Nat) (f : SeqDyn → SeqDyn) : (s.updSeq r f).ports = s.ports := rfl

@[simp] theorem State.updKrf_pending (r : Nat) (f : KerfDyn → KerfDyn) : (s.updKrf r f).pending = s.pending := rfl
@[simp] theorem State.updKrf_now (r : Nat) (f : KerfDyn → KerfDyn) : (s.updKrf r f).now = s.now := rfl
@[simp] theorem State.updKrf_epochAt (r : Nat) (f : KerfDyn → KerfDyn) : (s.updKrf r f).epochAt = s.epochAt := rfl
@[simp] theorem State.updKrf_epoch (r : Nat) (f : KerfDyn → KerfDyn) : (s.updKrf r f).epoch = s.epoch := rfl
@[simp] theorem State.updKrf_free (r : Nat) (f : KerfDyn → KerfDyn) : (s.updKrf r f).free = s.free := rfl
@[simp] theorem State.updKrf_nodes (r : Nat) (f : KerfDyn → KerfDyn) : (s.updKrf r f).nodes = s.nodes := rfl
@[simp] theorem State.updKrf_links (r : Nat) (f : KerfDyn → KerfDyn) : (s.updKrf r f).links = s.links := rfl
@[simp] theorem State.updKrf_pans (r : Nat) (f : KerfDyn → KerfDyn) : (s.updKrf r f).pans = s.pans := rfl
@[simp] theorem State.updKrf_eng (r : Nat) (f : KerfDyn → KerfDyn) : (s.updKrf r f).eng = s.eng := rfl
@[simp] theorem State.updKrf_com (r : Nat) (f : KerfDyn → KerfDyn) : (s.updKrf r f).com = s.com := rfl
@[simp] theorem State.updKrf_safe (r : Nat) (f : KerfDyn → KerfDyn) : (s.updKrf r f).safe = s.safe := rfl
@[simp] theorem State.updKrf_views (r : Nat) (f : KerfDyn → KerfDyn) : (s.updKrf r f).views = s.views := rfl
@[simp] theorem State.updKrf_conv (r : Nat) (f : KerfDyn → KerfDyn) : (s.updKrf r f).conv = s.conv := rfl
@[simp] theorem State.updKrf_stg (r : Nat) (f : KerfDyn → KerfDyn) : (s.updKrf r f).stg = s.stg := rfl
@[simp] theorem State.updKrf_tel (r : Nat) (f : KerfDyn → KerfDyn) : (s.updKrf r f).tel = s.tel := rfl
@[simp] theorem State.updKrf_bud (r : Nat) (f : KerfDyn → KerfDyn) : (s.updKrf r f).bud = s.bud := rfl
@[simp] theorem State.updKrf_shim (r : Nat) (f : KerfDyn → KerfDyn) : (s.updKrf r f).shim = s.shim := rfl
@[simp] theorem State.updKrf_led (r : Nat) (f : KerfDyn → KerfDyn) : (s.updKrf r f).led = s.led := rfl
@[simp] theorem State.updKrf_tide (r : Nat) (f : KerfDyn → KerfDyn) : (s.updKrf r f).tide = s.tide := rfl
@[simp] theorem State.updKrf_flt (r : Nat) (f : KerfDyn → KerfDyn) : (s.updKrf r f).flt = s.flt := rfl
@[simp] theorem State.updKrf_hw (r : Nat) (f : KerfDyn → KerfDyn) : (s.updKrf r f).hw = s.hw := rfl
@[simp] theorem State.updKrf_log (r : Nat) (f : KerfDyn → KerfDyn) : (s.updKrf r f).log = s.log := rfl
@[simp] theorem State.updKrf_store (r : Nat) (f : KerfDyn → KerfDyn) : (s.updKrf r f).store = s.store := rfl
@[simp] theorem State.updKrf_sys (r : Nat) (f : KerfDyn → KerfDyn) : (s.updKrf r f).sys = s.sys := rfl
@[simp] theorem State.updKrf_ports (r : Nat) (f : KerfDyn → KerfDyn) : (s.updKrf r f).ports = s.ports := rfl

@[simp] theorem State.updTel_pending (r : Nat) (f : TelDyn → TelDyn) : (s.updTel r f).pending = s.pending := rfl
@[simp] theorem State.updTel_now (r : Nat) (f : TelDyn → TelDyn) : (s.updTel r f).now = s.now := rfl
@[simp] theorem State.updTel_epochAt (r : Nat) (f : TelDyn → TelDyn) : (s.updTel r f).epochAt = s.epochAt := rfl
@[simp] theorem State.updTel_epoch (r : Nat) (f : TelDyn → TelDyn) : (s.updTel r f).epoch = s.epoch := rfl
@[simp] theorem State.updTel_free (r : Nat) (f : TelDyn → TelDyn) : (s.updTel r f).free = s.free := rfl
@[simp] theorem State.updTel_nodes (r : Nat) (f : TelDyn → TelDyn) : (s.updTel r f).nodes = s.nodes := rfl
@[simp] theorem State.updTel_links (r : Nat) (f : TelDyn → TelDyn) : (s.updTel r f).links = s.links := rfl
@[simp] theorem State.updTel_pans (r : Nat) (f : TelDyn → TelDyn) : (s.updTel r f).pans = s.pans := rfl
@[simp] theorem State.updTel_eng (r : Nat) (f : TelDyn → TelDyn) : (s.updTel r f).eng = s.eng := rfl
@[simp] theorem State.updTel_com (r : Nat) (f : TelDyn → TelDyn) : (s.updTel r f).com = s.com := rfl
@[simp] theorem State.updTel_safe (r : Nat) (f : TelDyn → TelDyn) : (s.updTel r f).safe = s.safe := rfl
@[simp] theorem State.updTel_views (r : Nat) (f : TelDyn → TelDyn) : (s.updTel r f).views = s.views := rfl
@[simp] theorem State.updTel_conv (r : Nat) (f : TelDyn → TelDyn) : (s.updTel r f).conv = s.conv := rfl
@[simp] theorem State.updTel_stg (r : Nat) (f : TelDyn → TelDyn) : (s.updTel r f).stg = s.stg := rfl
@[simp] theorem State.updTel_tel (r : Nat) (f : TelDyn → TelDyn) : (s.updTel r f).tel = s.tel := rfl
@[simp] theorem State.updTel_bud (r : Nat) (f : TelDyn → TelDyn) : (s.updTel r f).bud = s.bud := rfl
@[simp] theorem State.updTel_shim (r : Nat) (f : TelDyn → TelDyn) : (s.updTel r f).shim = s.shim := rfl
@[simp] theorem State.updTel_led (r : Nat) (f : TelDyn → TelDyn) : (s.updTel r f).led = s.led := rfl
@[simp] theorem State.updTel_tide (r : Nat) (f : TelDyn → TelDyn) : (s.updTel r f).tide = s.tide := rfl
@[simp] theorem State.updTel_flt (r : Nat) (f : TelDyn → TelDyn) : (s.updTel r f).flt = s.flt := rfl
@[simp] theorem State.updTel_hw (r : Nat) (f : TelDyn → TelDyn) : (s.updTel r f).hw = s.hw := rfl
@[simp] theorem State.updTel_log (r : Nat) (f : TelDyn → TelDyn) : (s.updTel r f).log = s.log := rfl
@[simp] theorem State.updTel_store (r : Nat) (f : TelDyn → TelDyn) : (s.updTel r f).store = s.store := rfl
@[simp] theorem State.updTel_sys (r : Nat) (f : TelDyn → TelDyn) : (s.updTel r f).sys = s.sys := rfl
@[simp] theorem State.updTel_ports (r : Nat) (f : TelDyn → TelDyn) : (s.updTel r f).ports = s.ports := rfl

@[simp] theorem State.updTh_pending (r : Nat) (f : ThDyn → ThDyn) : (s.updTh r f).pending = s.pending := rfl
@[simp] theorem State.updTh_now (r : Nat) (f : ThDyn → ThDyn) : (s.updTh r f).now = s.now := rfl
@[simp] theorem State.updTh_epochAt (r : Nat) (f : ThDyn → ThDyn) : (s.updTh r f).epochAt = s.epochAt := rfl
@[simp] theorem State.updTh_epoch (r : Nat) (f : ThDyn → ThDyn) : (s.updTh r f).epoch = s.epoch := rfl
@[simp] theorem State.updTh_free (r : Nat) (f : ThDyn → ThDyn) : (s.updTh r f).free = s.free := rfl
@[simp] theorem State.updTh_nodes (r : Nat) (f : ThDyn → ThDyn) : (s.updTh r f).nodes = s.nodes := rfl
@[simp] theorem State.updTh_links (r : Nat) (f : ThDyn → ThDyn) : (s.updTh r f).links = s.links := rfl
@[simp] theorem State.updTh_pans (r : Nat) (f : ThDyn → ThDyn) : (s.updTh r f).pans = s.pans := rfl
@[simp] theorem State.updTh_eng (r : Nat) (f : ThDyn → ThDyn) : (s.updTh r f).eng = s.eng := rfl
@[simp] theorem State.updTh_com (r : Nat) (f : ThDyn → ThDyn) : (s.updTh r f).com = s.com := rfl
@[simp] theorem State.updTh_safe (r : Nat) (f : ThDyn → ThDyn) : (s.updTh r f).safe = s.safe := rfl
@[simp] theorem State.updTh_views (r : Nat) (f : ThDyn → ThDyn) : (s.updTh r f).views = s.views := rfl
@[simp] theorem State.updTh_conv (r : Nat) (f : ThDyn → ThDyn) : (s.updTh r f).conv = s.conv := rfl
@[simp] theorem State.updTh_stg (r : Nat) (f : ThDyn → ThDyn) : (s.updTh r f).stg = s.stg := rfl
@[simp] theorem State.updTh_tel (r : Nat) (f : ThDyn → ThDyn) : (s.updTh r f).tel = s.tel := rfl
@[simp] theorem State.updTh_bud (r : Nat) (f : ThDyn → ThDyn) : (s.updTh r f).bud = s.bud := rfl
@[simp] theorem State.updTh_shim (r : Nat) (f : ThDyn → ThDyn) : (s.updTh r f).shim = s.shim := rfl
@[simp] theorem State.updTh_led (r : Nat) (f : ThDyn → ThDyn) : (s.updTh r f).led = s.led := rfl
@[simp] theorem State.updTh_tide (r : Nat) (f : ThDyn → ThDyn) : (s.updTh r f).tide = s.tide := rfl
@[simp] theorem State.updTh_flt (r : Nat) (f : ThDyn → ThDyn) : (s.updTh r f).flt = s.flt := rfl
@[simp] theorem State.updTh_hw (r : Nat) (f : ThDyn → ThDyn) : (s.updTh r f).hw = s.hw := rfl
@[simp] theorem State.updTh_log (r : Nat) (f : ThDyn → ThDyn) : (s.updTh r f).log = s.log := rfl
@[simp] theorem State.updTh_store (r : Nat) (f : ThDyn → ThDyn) : (s.updTh r f).store = s.store := rfl
@[simp] theorem State.updTh_sys (r : Nat) (f : ThDyn → ThDyn) : (s.updTh r f).sys = s.sys := rfl
@[simp] theorem State.updTh_ports (r : Nat) (f : ThDyn → ThDyn) : (s.updTh r f).ports = s.ports := rfl

@[simp] theorem State.updUse_pending (r : Nat) (f : UseDyn → UseDyn) : (s.updUse r f).pending = s.pending := rfl
@[simp] theorem State.updUse_now (r : Nat) (f : UseDyn → UseDyn) : (s.updUse r f).now = s.now := rfl
@[simp] theorem State.updUse_epochAt (r : Nat) (f : UseDyn → UseDyn) : (s.updUse r f).epochAt = s.epochAt := rfl
@[simp] theorem State.updUse_epoch (r : Nat) (f : UseDyn → UseDyn) : (s.updUse r f).epoch = s.epoch := rfl
@[simp] theorem State.updUse_free (r : Nat) (f : UseDyn → UseDyn) : (s.updUse r f).free = s.free := rfl
@[simp] theorem State.updUse_nodes (r : Nat) (f : UseDyn → UseDyn) : (s.updUse r f).nodes = s.nodes := rfl
@[simp] theorem State.updUse_links (r : Nat) (f : UseDyn → UseDyn) : (s.updUse r f).links = s.links := rfl
@[simp] theorem State.updUse_pans (r : Nat) (f : UseDyn → UseDyn) : (s.updUse r f).pans = s.pans := rfl
@[simp] theorem State.updUse_eng (r : Nat) (f : UseDyn → UseDyn) : (s.updUse r f).eng = s.eng := rfl
@[simp] theorem State.updUse_com (r : Nat) (f : UseDyn → UseDyn) : (s.updUse r f).com = s.com := rfl
@[simp] theorem State.updUse_safe (r : Nat) (f : UseDyn → UseDyn) : (s.updUse r f).safe = s.safe := rfl
@[simp] theorem State.updUse_views (r : Nat) (f : UseDyn → UseDyn) : (s.updUse r f).views = s.views := rfl
@[simp] theorem State.updUse_conv (r : Nat) (f : UseDyn → UseDyn) : (s.updUse r f).conv = s.conv := rfl
@[simp] theorem State.updUse_stg (r : Nat) (f : UseDyn → UseDyn) : (s.updUse r f).stg = s.stg := rfl
@[simp] theorem State.updUse_tel (r : Nat) (f : UseDyn → UseDyn) : (s.updUse r f).tel = s.tel := rfl
@[simp] theorem State.updUse_bud (r : Nat) (f : UseDyn → UseDyn) : (s.updUse r f).bud = s.bud := rfl
@[simp] theorem State.updUse_shim (r : Nat) (f : UseDyn → UseDyn) : (s.updUse r f).shim = s.shim := rfl
@[simp] theorem State.updUse_led (r : Nat) (f : UseDyn → UseDyn) : (s.updUse r f).led = s.led := rfl
@[simp] theorem State.updUse_tide (r : Nat) (f : UseDyn → UseDyn) : (s.updUse r f).tide = s.tide := rfl
@[simp] theorem State.updUse_flt (r : Nat) (f : UseDyn → UseDyn) : (s.updUse r f).flt = s.flt := rfl
@[simp] theorem State.updUse_hw (r : Nat) (f : UseDyn → UseDyn) : (s.updUse r f).hw = s.hw := rfl
@[simp] theorem State.updUse_log (r : Nat) (f : UseDyn → UseDyn) : (s.updUse r f).log = s.log := rfl
@[simp] theorem State.updUse_store (r : Nat) (f : UseDyn → UseDyn) : (s.updUse r f).store = s.store := rfl
@[simp] theorem State.updUse_sys (r : Nat) (f : UseDyn → UseDyn) : (s.updUse r f).sys = s.sys := rfl
@[simp] theorem State.updUse_ports (r : Nat) (f : UseDyn → UseDyn) : (s.updUse r f).ports = s.ports := rfl

@[simp] theorem State.updPhase_pending (n : Nat) (f : Phase → Phase) : (s.updPhase n f).pending = s.pending := rfl
@[simp] theorem State.updPhase_now (n : Nat) (f : Phase → Phase) : (s.updPhase n f).now = s.now := rfl
@[simp] theorem State.updPhase_epochAt (n : Nat) (f : Phase → Phase) : (s.updPhase n f).epochAt = s.epochAt := rfl
@[simp] theorem State.updPhase_epoch (n : Nat) (f : Phase → Phase) : (s.updPhase n f).epoch = s.epoch := rfl
@[simp] theorem State.updPhase_free (n : Nat) (f : Phase → Phase) : (s.updPhase n f).free = s.free := rfl
@[simp] theorem State.updPhase_nodes (n : Nat) (f : Phase → Phase) : (s.updPhase n f).nodes = s.nodes := rfl
@[simp] theorem State.updPhase_links (n : Nat) (f : Phase → Phase) : (s.updPhase n f).links = s.links := rfl
@[simp] theorem State.updPhase_pans (n : Nat) (f : Phase → Phase) : (s.updPhase n f).pans = s.pans := rfl
@[simp] theorem State.updPhase_eng (n : Nat) (f : Phase → Phase) : (s.updPhase n f).eng = s.eng := rfl
@[simp] theorem State.updPhase_com (n : Nat) (f : Phase → Phase) : (s.updPhase n f).com = s.com := rfl
@[simp] theorem State.updPhase_safe (n : Nat) (f : Phase → Phase) : (s.updPhase n f).safe = s.safe := rfl
@[simp] theorem State.updPhase_views (n : Nat) (f : Phase → Phase) : (s.updPhase n f).views = s.views := rfl
@[simp] theorem State.updPhase_regs (n : Nat) (f : Phase → Phase) : (s.updPhase n f).regs = s.regs := rfl
@[simp] theorem State.updPhase_stg (n : Nat) (f : Phase → Phase) : (s.updPhase n f).stg = s.stg := rfl
@[simp] theorem State.updPhase_tel (n : Nat) (f : Phase → Phase) : (s.updPhase n f).tel = s.tel := rfl
@[simp] theorem State.updPhase_bud (n : Nat) (f : Phase → Phase) : (s.updPhase n f).bud = s.bud := rfl
@[simp] theorem State.updPhase_shim (n : Nat) (f : Phase → Phase) : (s.updPhase n f).shim = s.shim := rfl
@[simp] theorem State.updPhase_led (n : Nat) (f : Phase → Phase) : (s.updPhase n f).led = s.led := rfl
@[simp] theorem State.updPhase_tide (n : Nat) (f : Phase → Phase) : (s.updPhase n f).tide = s.tide := rfl
@[simp] theorem State.updPhase_flt (n : Nat) (f : Phase → Phase) : (s.updPhase n f).flt = s.flt := rfl
@[simp] theorem State.updPhase_hw (n : Nat) (f : Phase → Phase) : (s.updPhase n f).hw = s.hw := rfl
@[simp] theorem State.updPhase_log (n : Nat) (f : Phase → Phase) : (s.updPhase n f).log = s.log := rfl
@[simp] theorem State.updPhase_store (n : Nat) (f : Phase → Phase) : (s.updPhase n f).store = s.store := rfl
@[simp] theorem State.updPhase_sys (n : Nat) (f : Phase → Phase) : (s.updPhase n f).sys = s.sys := rfl
@[simp] theorem State.updPhase_ports (n : Nat) (f : Phase → Phase) : (s.updPhase n f).ports = s.ports := rfl

@[simp] theorem State.updRail_pending (x : Rail) (f : RailDyn → RailDyn) : (s.updRail x f).pending = s.pending := rfl
@[simp] theorem State.updRail_now (x : Rail) (f : RailDyn → RailDyn) : (s.updRail x f).now = s.now := rfl
@[simp] theorem State.updRail_epochAt (x : Rail) (f : RailDyn → RailDyn) : (s.updRail x f).epochAt = s.epochAt := rfl
@[simp] theorem State.updRail_epoch (x : Rail) (f : RailDyn → RailDyn) : (s.updRail x f).epoch = s.epoch := rfl
@[simp] theorem State.updRail_free (x : Rail) (f : RailDyn → RailDyn) : (s.updRail x f).free = s.free := rfl
@[simp] theorem State.updRail_nodes (x : Rail) (f : RailDyn → RailDyn) : (s.updRail x f).nodes = s.nodes := rfl
@[simp] theorem State.updRail_links (x : Rail) (f : RailDyn → RailDyn) : (s.updRail x f).links = s.links := rfl
@[simp] theorem State.updRail_pans (x : Rail) (f : RailDyn → RailDyn) : (s.updRail x f).pans = s.pans := rfl
@[simp] theorem State.updRail_eng (x : Rail) (f : RailDyn → RailDyn) : (s.updRail x f).eng = s.eng := rfl
@[simp] theorem State.updRail_com (x : Rail) (f : RailDyn → RailDyn) : (s.updRail x f).com = s.com := rfl
@[simp] theorem State.updRail_safe (x : Rail) (f : RailDyn → RailDyn) : (s.updRail x f).safe = s.safe := rfl
@[simp] theorem State.updRail_views (x : Rail) (f : RailDyn → RailDyn) : (s.updRail x f).views = s.views := rfl
@[simp] theorem State.updRail_regs (x : Rail) (f : RailDyn → RailDyn) : (s.updRail x f).regs = s.regs := rfl
@[simp] theorem State.updRail_stg (x : Rail) (f : RailDyn → RailDyn) : (s.updRail x f).stg = s.stg := rfl
@[simp] theorem State.updRail_tel (x : Rail) (f : RailDyn → RailDyn) : (s.updRail x f).tel = s.tel := rfl
@[simp] theorem State.updRail_bud (x : Rail) (f : RailDyn → RailDyn) : (s.updRail x f).bud = s.bud := rfl
@[simp] theorem State.updRail_shim (x : Rail) (f : RailDyn → RailDyn) : (s.updRail x f).shim = s.shim := rfl
@[simp] theorem State.updRail_led (x : Rail) (f : RailDyn → RailDyn) : (s.updRail x f).led = s.led := rfl
@[simp] theorem State.updRail_tide (x : Rail) (f : RailDyn → RailDyn) : (s.updRail x f).tide = s.tide := rfl
@[simp] theorem State.updRail_flt (x : Rail) (f : RailDyn → RailDyn) : (s.updRail x f).flt = s.flt := rfl
@[simp] theorem State.updRail_hw (x : Rail) (f : RailDyn → RailDyn) : (s.updRail x f).hw = s.hw := rfl
@[simp] theorem State.updRail_log (x : Rail) (f : RailDyn → RailDyn) : (s.updRail x f).log = s.log := rfl
@[simp] theorem State.updRail_store (x : Rail) (f : RailDyn → RailDyn) : (s.updRail x f).store = s.store := rfl
@[simp] theorem State.updRail_sys (x : Rail) (f : RailDyn → RailDyn) : (s.updRail x f).sys = s.sys := rfl
@[simp] theorem State.updRail_ports (x : Rail) (f : RailDyn → RailDyn) : (s.updRail x f).ports = s.ports := rfl

@[simp] theorem State.updNflt_pending (n : Nat) (f : NodeFault → NodeFault) : (s.updNflt n f).pending = s.pending := rfl
@[simp] theorem State.updNflt_now (n : Nat) (f : NodeFault → NodeFault) : (s.updNflt n f).now = s.now := rfl
@[simp] theorem State.updNflt_epochAt (n : Nat) (f : NodeFault → NodeFault) : (s.updNflt n f).epochAt = s.epochAt := rfl
@[simp] theorem State.updNflt_epoch (n : Nat) (f : NodeFault → NodeFault) : (s.updNflt n f).epoch = s.epoch := rfl
@[simp] theorem State.updNflt_free (n : Nat) (f : NodeFault → NodeFault) : (s.updNflt n f).free = s.free := rfl
@[simp] theorem State.updNflt_nodes (n : Nat) (f : NodeFault → NodeFault) : (s.updNflt n f).nodes = s.nodes := rfl
@[simp] theorem State.updNflt_links (n : Nat) (f : NodeFault → NodeFault) : (s.updNflt n f).links = s.links := rfl
@[simp] theorem State.updNflt_pans (n : Nat) (f : NodeFault → NodeFault) : (s.updNflt n f).pans = s.pans := rfl
@[simp] theorem State.updNflt_eng (n : Nat) (f : NodeFault → NodeFault) : (s.updNflt n f).eng = s.eng := rfl
@[simp] theorem State.updNflt_com (n : Nat) (f : NodeFault → NodeFault) : (s.updNflt n f).com = s.com := rfl
@[simp] theorem State.updNflt_safe (n : Nat) (f : NodeFault → NodeFault) : (s.updNflt n f).safe = s.safe := rfl
@[simp] theorem State.updNflt_views (n : Nat) (f : NodeFault → NodeFault) : (s.updNflt n f).views = s.views := rfl
@[simp] theorem State.updNflt_regs (n : Nat) (f : NodeFault → NodeFault) : (s.updNflt n f).regs = s.regs := rfl
@[simp] theorem State.updNflt_conv (n : Nat) (f : NodeFault → NodeFault) : (s.updNflt n f).conv = s.conv := rfl
@[simp] theorem State.updNflt_stg (n : Nat) (f : NodeFault → NodeFault) : (s.updNflt n f).stg = s.stg := rfl
@[simp] theorem State.updNflt_tel (n : Nat) (f : NodeFault → NodeFault) : (s.updNflt n f).tel = s.tel := rfl
@[simp] theorem State.updNflt_bud (n : Nat) (f : NodeFault → NodeFault) : (s.updNflt n f).bud = s.bud := rfl
@[simp] theorem State.updNflt_shim (n : Nat) (f : NodeFault → NodeFault) : (s.updNflt n f).shim = s.shim := rfl
@[simp] theorem State.updNflt_led (n : Nat) (f : NodeFault → NodeFault) : (s.updNflt n f).led = s.led := rfl
@[simp] theorem State.updNflt_tide (n : Nat) (f : NodeFault → NodeFault) : (s.updNflt n f).tide = s.tide := rfl
@[simp] theorem State.updNflt_hw (n : Nat) (f : NodeFault → NodeFault) : (s.updNflt n f).hw = s.hw := rfl
@[simp] theorem State.updNflt_log (n : Nat) (f : NodeFault → NodeFault) : (s.updNflt n f).log = s.log := rfl
@[simp] theorem State.updNflt_store (n : Nat) (f : NodeFault → NodeFault) : (s.updNflt n f).store = s.store := rfl
@[simp] theorem State.updNflt_sys (n : Nat) (f : NodeFault → NodeFault) : (s.updNflt n f).sys = s.sys := rfl
@[simp] theorem State.updNflt_ports (n : Nat) (f : NodeFault → NodeFault) : (s.updNflt n f).ports = s.ports := rfl

@[simp] theorem State.updTPeer_pending (p : Nat) (f : TPeer → TPeer) : (s.updTPeer p f).pending = s.pending := rfl
@[simp] theorem State.updTPeer_now (p : Nat) (f : TPeer → TPeer) : (s.updTPeer p f).now = s.now := rfl
@[simp] theorem State.updTPeer_epochAt (p : Nat) (f : TPeer → TPeer) : (s.updTPeer p f).epochAt = s.epochAt := rfl
@[simp] theorem State.updTPeer_epoch (p : Nat) (f : TPeer → TPeer) : (s.updTPeer p f).epoch = s.epoch := rfl
@[simp] theorem State.updTPeer_free (p : Nat) (f : TPeer → TPeer) : (s.updTPeer p f).free = s.free := rfl
@[simp] theorem State.updTPeer_nodes (p : Nat) (f : TPeer → TPeer) : (s.updTPeer p f).nodes = s.nodes := rfl
@[simp] theorem State.updTPeer_links (p : Nat) (f : TPeer → TPeer) : (s.updTPeer p f).links = s.links := rfl
@[simp] theorem State.updTPeer_pans (p : Nat) (f : TPeer → TPeer) : (s.updTPeer p f).pans = s.pans := rfl
@[simp] theorem State.updTPeer_eng (p : Nat) (f : TPeer → TPeer) : (s.updTPeer p f).eng = s.eng := rfl
@[simp] theorem State.updTPeer_com (p : Nat) (f : TPeer → TPeer) : (s.updTPeer p f).com = s.com := rfl
@[simp] theorem State.updTPeer_safe (p : Nat) (f : TPeer → TPeer) : (s.updTPeer p f).safe = s.safe := rfl
@[simp] theorem State.updTPeer_views (p : Nat) (f : TPeer → TPeer) : (s.updTPeer p f).views = s.views := rfl
@[simp] theorem State.updTPeer_regs (p : Nat) (f : TPeer → TPeer) : (s.updTPeer p f).regs = s.regs := rfl
@[simp] theorem State.updTPeer_conv (p : Nat) (f : TPeer → TPeer) : (s.updTPeer p f).conv = s.conv := rfl
@[simp] theorem State.updTPeer_stg (p : Nat) (f : TPeer → TPeer) : (s.updTPeer p f).stg = s.stg := rfl
@[simp] theorem State.updTPeer_tel (p : Nat) (f : TPeer → TPeer) : (s.updTPeer p f).tel = s.tel := rfl
@[simp] theorem State.updTPeer_bud (p : Nat) (f : TPeer → TPeer) : (s.updTPeer p f).bud = s.bud := rfl
@[simp] theorem State.updTPeer_shim (p : Nat) (f : TPeer → TPeer) : (s.updTPeer p f).shim = s.shim := rfl
@[simp] theorem State.updTPeer_led (p : Nat) (f : TPeer → TPeer) : (s.updTPeer p f).led = s.led := rfl
@[simp] theorem State.updTPeer_flt (p : Nat) (f : TPeer → TPeer) : (s.updTPeer p f).flt = s.flt := rfl
@[simp] theorem State.updTPeer_hw (p : Nat) (f : TPeer → TPeer) : (s.updTPeer p f).hw = s.hw := rfl
@[simp] theorem State.updTPeer_log (p : Nat) (f : TPeer → TPeer) : (s.updTPeer p f).log = s.log := rfl
@[simp] theorem State.updTPeer_store (p : Nat) (f : TPeer → TPeer) : (s.updTPeer p f).store = s.store := rfl
@[simp] theorem State.updTPeer_sys (p : Nat) (f : TPeer → TPeer) : (s.updTPeer p f).sys = s.sys := rfl
@[simp] theorem State.updTPeer_ports (p : Nat) (f : TPeer → TPeer) : (s.updTPeer p f).ports = s.ports := rfl

@[simp] theorem State.updHsrc_pending (x : Nat) (f : HintSrc → HintSrc) : (s.updHsrc x f).pending = s.pending := rfl
@[simp] theorem State.updHsrc_now (x : Nat) (f : HintSrc → HintSrc) : (s.updHsrc x f).now = s.now := rfl
@[simp] theorem State.updHsrc_epochAt (x : Nat) (f : HintSrc → HintSrc) : (s.updHsrc x f).epochAt = s.epochAt := rfl
@[simp] theorem State.updHsrc_epoch (x : Nat) (f : HintSrc → HintSrc) : (s.updHsrc x f).epoch = s.epoch := rfl
@[simp] theorem State.updHsrc_free (x : Nat) (f : HintSrc → HintSrc) : (s.updHsrc x f).free = s.free := rfl
@[simp] theorem State.updHsrc_nodes (x : Nat) (f : HintSrc → HintSrc) : (s.updHsrc x f).nodes = s.nodes := rfl
@[simp] theorem State.updHsrc_links (x : Nat) (f : HintSrc → HintSrc) : (s.updHsrc x f).links = s.links := rfl
@[simp] theorem State.updHsrc_pans (x : Nat) (f : HintSrc → HintSrc) : (s.updHsrc x f).pans = s.pans := rfl
@[simp] theorem State.updHsrc_eng (x : Nat) (f : HintSrc → HintSrc) : (s.updHsrc x f).eng = s.eng := rfl
@[simp] theorem State.updHsrc_com (x : Nat) (f : HintSrc → HintSrc) : (s.updHsrc x f).com = s.com := rfl
@[simp] theorem State.updHsrc_safe (x : Nat) (f : HintSrc → HintSrc) : (s.updHsrc x f).safe = s.safe := rfl
@[simp] theorem State.updHsrc_views (x : Nat) (f : HintSrc → HintSrc) : (s.updHsrc x f).views = s.views := rfl
@[simp] theorem State.updHsrc_regs (x : Nat) (f : HintSrc → HintSrc) : (s.updHsrc x f).regs = s.regs := rfl
@[simp] theorem State.updHsrc_conv (x : Nat) (f : HintSrc → HintSrc) : (s.updHsrc x f).conv = s.conv := rfl
@[simp] theorem State.updHsrc_stg (x : Nat) (f : HintSrc → HintSrc) : (s.updHsrc x f).stg = s.stg := rfl
@[simp] theorem State.updHsrc_tel (x : Nat) (f : HintSrc → HintSrc) : (s.updHsrc x f).tel = s.tel := rfl
@[simp] theorem State.updHsrc_bud (x : Nat) (f : HintSrc → HintSrc) : (s.updHsrc x f).bud = s.bud := rfl
@[simp] theorem State.updHsrc_shim (x : Nat) (f : HintSrc → HintSrc) : (s.updHsrc x f).shim = s.shim := rfl
@[simp] theorem State.updHsrc_led (x : Nat) (f : HintSrc → HintSrc) : (s.updHsrc x f).led = s.led := rfl
@[simp] theorem State.updHsrc_tide (x : Nat) (f : HintSrc → HintSrc) : (s.updHsrc x f).tide = s.tide := rfl
@[simp] theorem State.updHsrc_flt (x : Nat) (f : HintSrc → HintSrc) : (s.updHsrc x f).flt = s.flt := rfl
@[simp] theorem State.updHsrc_hw (x : Nat) (f : HintSrc → HintSrc) : (s.updHsrc x f).hw = s.hw := rfl
@[simp] theorem State.updHsrc_log (x : Nat) (f : HintSrc → HintSrc) : (s.updHsrc x f).log = s.log := rfl
@[simp] theorem State.updHsrc_store (x : Nat) (f : HintSrc → HintSrc) : (s.updHsrc x f).store = s.store := rfl
@[simp] theorem State.updHsrc_sys (x : Nat) (f : HintSrc → HintSrc) : (s.updHsrc x f).sys = s.sys := rfl

@[simp] theorem State.updDvt_pending (p : Nat) (f : Dvt → Dvt) : (s.updDvt p f).pending = s.pending := rfl
@[simp] theorem State.updDvt_now (p : Nat) (f : Dvt → Dvt) : (s.updDvt p f).now = s.now := rfl
@[simp] theorem State.updDvt_epochAt (p : Nat) (f : Dvt → Dvt) : (s.updDvt p f).epochAt = s.epochAt := rfl
@[simp] theorem State.updDvt_epoch (p : Nat) (f : Dvt → Dvt) : (s.updDvt p f).epoch = s.epoch := rfl
@[simp] theorem State.updDvt_free (p : Nat) (f : Dvt → Dvt) : (s.updDvt p f).free = s.free := rfl
@[simp] theorem State.updDvt_nodes (p : Nat) (f : Dvt → Dvt) : (s.updDvt p f).nodes = s.nodes := rfl
@[simp] theorem State.updDvt_links (p : Nat) (f : Dvt → Dvt) : (s.updDvt p f).links = s.links := rfl
@[simp] theorem State.updDvt_pans (p : Nat) (f : Dvt → Dvt) : (s.updDvt p f).pans = s.pans := rfl
@[simp] theorem State.updDvt_eng (p : Nat) (f : Dvt → Dvt) : (s.updDvt p f).eng = s.eng := rfl
@[simp] theorem State.updDvt_com (p : Nat) (f : Dvt → Dvt) : (s.updDvt p f).com = s.com := rfl
@[simp] theorem State.updDvt_safe (p : Nat) (f : Dvt → Dvt) : (s.updDvt p f).safe = s.safe := rfl
@[simp] theorem State.updDvt_views (p : Nat) (f : Dvt → Dvt) : (s.updDvt p f).views = s.views := rfl
@[simp] theorem State.updDvt_regs (p : Nat) (f : Dvt → Dvt) : (s.updDvt p f).regs = s.regs := rfl
@[simp] theorem State.updDvt_conv (p : Nat) (f : Dvt → Dvt) : (s.updDvt p f).conv = s.conv := rfl
@[simp] theorem State.updDvt_stg (p : Nat) (f : Dvt → Dvt) : (s.updDvt p f).stg = s.stg := rfl
@[simp] theorem State.updDvt_tel (p : Nat) (f : Dvt → Dvt) : (s.updDvt p f).tel = s.tel := rfl
@[simp] theorem State.updDvt_bud (p : Nat) (f : Dvt → Dvt) : (s.updDvt p f).bud = s.bud := rfl
@[simp] theorem State.updDvt_shim (p : Nat) (f : Dvt → Dvt) : (s.updDvt p f).shim = s.shim := rfl
@[simp] theorem State.updDvt_led (p : Nat) (f : Dvt → Dvt) : (s.updDvt p f).led = s.led := rfl
@[simp] theorem State.updDvt_tide (p : Nat) (f : Dvt → Dvt) : (s.updDvt p f).tide = s.tide := rfl
@[simp] theorem State.updDvt_flt (p : Nat) (f : Dvt → Dvt) : (s.updDvt p f).flt = s.flt := rfl
@[simp] theorem State.updDvt_hw (p : Nat) (f : Dvt → Dvt) : (s.updDvt p f).hw = s.hw := rfl
@[simp] theorem State.updDvt_log (p : Nat) (f : Dvt → Dvt) : (s.updDvt p f).log = s.log := rfl
@[simp] theorem State.updDvt_store (p : Nat) (f : Dvt → Dvt) : (s.updDvt p f).store = s.store := rfl
@[simp] theorem State.updDvt_sys (p : Nat) (f : Dvt → Dvt) : (s.updDvt p f).sys = s.sys := rfl

@[simp] theorem State.updLane_pending (i : Nat) (f : Lane → Lane) : (s.updLane i f).pending = s.pending := rfl
@[simp] theorem State.updLane_now (i : Nat) (f : Lane → Lane) : (s.updLane i f).now = s.now := rfl
@[simp] theorem State.updLane_epochAt (i : Nat) (f : Lane → Lane) : (s.updLane i f).epochAt = s.epochAt := rfl
@[simp] theorem State.updLane_epoch (i : Nat) (f : Lane → Lane) : (s.updLane i f).epoch = s.epoch := rfl
@[simp] theorem State.updLane_free (i : Nat) (f : Lane → Lane) : (s.updLane i f).free = s.free := rfl
@[simp] theorem State.updLane_nodes (i : Nat) (f : Lane → Lane) : (s.updLane i f).nodes = s.nodes := rfl
@[simp] theorem State.updLane_links (i : Nat) (f : Lane → Lane) : (s.updLane i f).links = s.links := rfl
@[simp] theorem State.updLane_pans (i : Nat) (f : Lane → Lane) : (s.updLane i f).pans = s.pans := rfl
@[simp] theorem State.updLane_com (i : Nat) (f : Lane → Lane) : (s.updLane i f).com = s.com := rfl
@[simp] theorem State.updLane_safe (i : Nat) (f : Lane → Lane) : (s.updLane i f).safe = s.safe := rfl
@[simp] theorem State.updLane_views (i : Nat) (f : Lane → Lane) : (s.updLane i f).views = s.views := rfl
@[simp] theorem State.updLane_regs (i : Nat) (f : Lane → Lane) : (s.updLane i f).regs = s.regs := rfl
@[simp] theorem State.updLane_conv (i : Nat) (f : Lane → Lane) : (s.updLane i f).conv = s.conv := rfl
@[simp] theorem State.updLane_stg (i : Nat) (f : Lane → Lane) : (s.updLane i f).stg = s.stg := rfl
@[simp] theorem State.updLane_tel (i : Nat) (f : Lane → Lane) : (s.updLane i f).tel = s.tel := rfl
@[simp] theorem State.updLane_bud (i : Nat) (f : Lane → Lane) : (s.updLane i f).bud = s.bud := rfl
@[simp] theorem State.updLane_shim (i : Nat) (f : Lane → Lane) : (s.updLane i f).shim = s.shim := rfl
@[simp] theorem State.updLane_led (i : Nat) (f : Lane → Lane) : (s.updLane i f).led = s.led := rfl
@[simp] theorem State.updLane_tide (i : Nat) (f : Lane → Lane) : (s.updLane i f).tide = s.tide := rfl
@[simp] theorem State.updLane_flt (i : Nat) (f : Lane → Lane) : (s.updLane i f).flt = s.flt := rfl
@[simp] theorem State.updLane_hw (i : Nat) (f : Lane → Lane) : (s.updLane i f).hw = s.hw := rfl
@[simp] theorem State.updLane_log (i : Nat) (f : Lane → Lane) : (s.updLane i f).log = s.log := rfl
@[simp] theorem State.updLane_store (i : Nat) (f : Lane → Lane) : (s.updLane i f).store = s.store := rfl
@[simp] theorem State.updLane_sys (i : Nat) (f : Lane → Lane) : (s.updLane i f).sys = s.sys := rfl
@[simp] theorem State.updLane_ports (i : Nat) (f : Lane → Lane) : (s.updLane i f).ports = s.ports := rfl

@[simp] theorem State.updRun_pending (i : Nat) (f : Run → Run) : (s.updRun i f).pending = s.pending := rfl
@[simp] theorem State.updRun_now (i : Nat) (f : Run → Run) : (s.updRun i f).now = s.now := rfl
@[simp] theorem State.updRun_epochAt (i : Nat) (f : Run → Run) : (s.updRun i f).epochAt = s.epochAt := rfl
@[simp] theorem State.updRun_epoch (i : Nat) (f : Run → Run) : (s.updRun i f).epoch = s.epoch := rfl
@[simp] theorem State.updRun_free (i : Nat) (f : Run → Run) : (s.updRun i f).free = s.free := rfl
@[simp] theorem State.updRun_nodes (i : Nat) (f : Run → Run) : (s.updRun i f).nodes = s.nodes := rfl
@[simp] theorem State.updRun_links (i : Nat) (f : Run → Run) : (s.updRun i f).links = s.links := rfl
@[simp] theorem State.updRun_pans (i : Nat) (f : Run → Run) : (s.updRun i f).pans = s.pans := rfl
@[simp] theorem State.updRun_com (i : Nat) (f : Run → Run) : (s.updRun i f).com = s.com := rfl
@[simp] theorem State.updRun_safe (i : Nat) (f : Run → Run) : (s.updRun i f).safe = s.safe := rfl
@[simp] theorem State.updRun_views (i : Nat) (f : Run → Run) : (s.updRun i f).views = s.views := rfl
@[simp] theorem State.updRun_regs (i : Nat) (f : Run → Run) : (s.updRun i f).regs = s.regs := rfl
@[simp] theorem State.updRun_conv (i : Nat) (f : Run → Run) : (s.updRun i f).conv = s.conv := rfl
@[simp] theorem State.updRun_stg (i : Nat) (f : Run → Run) : (s.updRun i f).stg = s.stg := rfl
@[simp] theorem State.updRun_tel (i : Nat) (f : Run → Run) : (s.updRun i f).tel = s.tel := rfl
@[simp] theorem State.updRun_bud (i : Nat) (f : Run → Run) : (s.updRun i f).bud = s.bud := rfl
@[simp] theorem State.updRun_shim (i : Nat) (f : Run → Run) : (s.updRun i f).shim = s.shim := rfl
@[simp] theorem State.updRun_led (i : Nat) (f : Run → Run) : (s.updRun i f).led = s.led := rfl
@[simp] theorem State.updRun_tide (i : Nat) (f : Run → Run) : (s.updRun i f).tide = s.tide := rfl
@[simp] theorem State.updRun_flt (i : Nat) (f : Run → Run) : (s.updRun i f).flt = s.flt := rfl
@[simp] theorem State.updRun_hw (i : Nat) (f : Run → Run) : (s.updRun i f).hw = s.hw := rfl
@[simp] theorem State.updRun_log (i : Nat) (f : Run → Run) : (s.updRun i f).log = s.log := rfl
@[simp] theorem State.updRun_store (i : Nat) (f : Run → Run) : (s.updRun i f).store = s.store := rfl
@[simp] theorem State.updRun_sys (i : Nat) (f : Run → Run) : (s.updRun i f).sys = s.sys := rfl
@[simp] theorem State.updRun_ports (i : Nat) (f : Run → Run) : (s.updRun i f).ports = s.ports := rfl

@[simp] theorem State.updLdyn_pending (l : Nat) (f : LoopDyn → LoopDyn) : (s.updLdyn l f).pending = s.pending := rfl
@[simp] theorem State.updLdyn_now (l : Nat) (f : LoopDyn → LoopDyn) : (s.updLdyn l f).now = s.now := rfl
@[simp] theorem State.updLdyn_epochAt (l : Nat) (f : LoopDyn → LoopDyn) : (s.updLdyn l f).epochAt = s.epochAt := rfl
@[simp] theorem State.updLdyn_epoch (l : Nat) (f : LoopDyn → LoopDyn) : (s.updLdyn l f).epoch = s.epoch := rfl
@[simp] theorem State.updLdyn_free (l : Nat) (f : LoopDyn → LoopDyn) : (s.updLdyn l f).free = s.free := rfl
@[simp] theorem State.updLdyn_nodes (l : Nat) (f : LoopDyn → LoopDyn) : (s.updLdyn l f).nodes = s.nodes := rfl
@[simp] theorem State.updLdyn_links (l : Nat) (f : LoopDyn → LoopDyn) : (s.updLdyn l f).links = s.links := rfl
@[simp] theorem State.updLdyn_pans (l : Nat) (f : LoopDyn → LoopDyn) : (s.updLdyn l f).pans = s.pans := rfl
@[simp] theorem State.updLdyn_com (l : Nat) (f : LoopDyn → LoopDyn) : (s.updLdyn l f).com = s.com := rfl
@[simp] theorem State.updLdyn_safe (l : Nat) (f : LoopDyn → LoopDyn) : (s.updLdyn l f).safe = s.safe := rfl
@[simp] theorem State.updLdyn_views (l : Nat) (f : LoopDyn → LoopDyn) : (s.updLdyn l f).views = s.views := rfl
@[simp] theorem State.updLdyn_regs (l : Nat) (f : LoopDyn → LoopDyn) : (s.updLdyn l f).regs = s.regs := rfl
@[simp] theorem State.updLdyn_conv (l : Nat) (f : LoopDyn → LoopDyn) : (s.updLdyn l f).conv = s.conv := rfl
@[simp] theorem State.updLdyn_stg (l : Nat) (f : LoopDyn → LoopDyn) : (s.updLdyn l f).stg = s.stg := rfl
@[simp] theorem State.updLdyn_tel (l : Nat) (f : LoopDyn → LoopDyn) : (s.updLdyn l f).tel = s.tel := rfl
@[simp] theorem State.updLdyn_bud (l : Nat) (f : LoopDyn → LoopDyn) : (s.updLdyn l f).bud = s.bud := rfl
@[simp] theorem State.updLdyn_shim (l : Nat) (f : LoopDyn → LoopDyn) : (s.updLdyn l f).shim = s.shim := rfl
@[simp] theorem State.updLdyn_led (l : Nat) (f : LoopDyn → LoopDyn) : (s.updLdyn l f).led = s.led := rfl
@[simp] theorem State.updLdyn_tide (l : Nat) (f : LoopDyn → LoopDyn) : (s.updLdyn l f).tide = s.tide := rfl
@[simp] theorem State.updLdyn_flt (l : Nat) (f : LoopDyn → LoopDyn) : (s.updLdyn l f).flt = s.flt := rfl
@[simp] theorem State.updLdyn_hw (l : Nat) (f : LoopDyn → LoopDyn) : (s.updLdyn l f).hw = s.hw := rfl
@[simp] theorem State.updLdyn_log (l : Nat) (f : LoopDyn → LoopDyn) : (s.updLdyn l f).log = s.log := rfl
@[simp] theorem State.updLdyn_store (l : Nat) (f : LoopDyn → LoopDyn) : (s.updLdyn l f).store = s.store := rfl
@[simp] theorem State.updLdyn_sys (l : Nat) (f : LoopDyn → LoopDyn) : (s.updLdyn l f).sys = s.sys := rfl
@[simp] theorem State.updLdyn_ports (l : Nat) (f : LoopDyn → LoopDyn) : (s.updLdyn l f).ports = s.ports := rfl

@[simp] theorem State.sendOn_pending (l : LinkId) (d : Dir) (p : Packet) : (s.sendOn l d p).pending = s.pending := rfl
@[simp] theorem State.sendOn_now (l : LinkId) (d : Dir) (p : Packet) : (s.sendOn l d p).now = s.now := rfl
@[simp] theorem State.sendOn_epochAt (l : LinkId) (d : Dir) (p : Packet) : (s.sendOn l d p).epochAt = s.epochAt := rfl
@[simp] theorem State.sendOn_epoch (l : LinkId) (d : Dir) (p : Packet) : (s.sendOn l d p).epoch = s.epoch := rfl
@[simp] theorem State.sendOn_free (l : LinkId) (d : Dir) (p : Packet) : (s.sendOn l d p).free = s.free := rfl
@[simp] theorem State.sendOn_nodes (l : LinkId) (d : Dir) (p : Packet) : (s.sendOn l d p).nodes = s.nodes := rfl
@[simp] theorem State.sendOn_pans (l : LinkId) (d : Dir) (p : Packet) : (s.sendOn l d p).pans = s.pans := rfl
@[simp] theorem State.sendOn_eng (l : LinkId) (d : Dir) (p : Packet) : (s.sendOn l d p).eng = s.eng := rfl
@[simp] theorem State.sendOn_com (l : LinkId) (d : Dir) (p : Packet) : (s.sendOn l d p).com = s.com := rfl
@[simp] theorem State.sendOn_safe (l : LinkId) (d : Dir) (p : Packet) : (s.sendOn l d p).safe = s.safe := rfl
@[simp] theorem State.sendOn_views (l : LinkId) (d : Dir) (p : Packet) : (s.sendOn l d p).views = s.views := rfl
@[simp] theorem State.sendOn_regs (l : LinkId) (d : Dir) (p : Packet) : (s.sendOn l d p).regs = s.regs := rfl
@[simp] theorem State.sendOn_conv (l : LinkId) (d : Dir) (p : Packet) : (s.sendOn l d p).conv = s.conv := rfl
@[simp] theorem State.sendOn_stg (l : LinkId) (d : Dir) (p : Packet) : (s.sendOn l d p).stg = s.stg := rfl
@[simp] theorem State.sendOn_tel (l : LinkId) (d : Dir) (p : Packet) : (s.sendOn l d p).tel = s.tel := rfl
@[simp] theorem State.sendOn_bud (l : LinkId) (d : Dir) (p : Packet) : (s.sendOn l d p).bud = s.bud := rfl
@[simp] theorem State.sendOn_shim (l : LinkId) (d : Dir) (p : Packet) : (s.sendOn l d p).shim = s.shim := rfl
@[simp] theorem State.sendOn_led (l : LinkId) (d : Dir) (p : Packet) : (s.sendOn l d p).led = s.led := rfl
@[simp] theorem State.sendOn_tide (l : LinkId) (d : Dir) (p : Packet) : (s.sendOn l d p).tide = s.tide := rfl
@[simp] theorem State.sendOn_flt (l : LinkId) (d : Dir) (p : Packet) : (s.sendOn l d p).flt = s.flt := rfl
@[simp] theorem State.sendOn_hw (l : LinkId) (d : Dir) (p : Packet) : (s.sendOn l d p).hw = s.hw := rfl
@[simp] theorem State.sendOn_log (l : LinkId) (d : Dir) (p : Packet) : (s.sendOn l d p).log = s.log := rfl
@[simp] theorem State.sendOn_store (l : LinkId) (d : Dir) (p : Packet) : (s.sendOn l d p).store = s.store := rfl
@[simp] theorem State.sendOn_sys (l : LinkId) (d : Dir) (p : Packet) : (s.sendOn l d p).sys = s.sys := rfl
@[simp] theorem State.sendOn_ports (l : LinkId) (d : Dir) (p : Packet) : (s.sendOn l d p).ports = s.ports := rfl

@[simp] theorem State.sendUp_pending (n : Nat) (p : Packet) : (s.sendUp n p).pending = s.pending := rfl
@[simp] theorem State.sendUp_now (n : Nat) (p : Packet) : (s.sendUp n p).now = s.now := rfl
@[simp] theorem State.sendUp_epochAt (n : Nat) (p : Packet) : (s.sendUp n p).epochAt = s.epochAt := rfl
@[simp] theorem State.sendUp_epoch (n : Nat) (p : Packet) : (s.sendUp n p).epoch = s.epoch := rfl
@[simp] theorem State.sendUp_free (n : Nat) (p : Packet) : (s.sendUp n p).free = s.free := rfl
@[simp] theorem State.sendUp_nodes (n : Nat) (p : Packet) : (s.sendUp n p).nodes = s.nodes := rfl
@[simp] theorem State.sendUp_pans (n : Nat) (p : Packet) : (s.sendUp n p).pans = s.pans := rfl
@[simp] theorem State.sendUp_eng (n : Nat) (p : Packet) : (s.sendUp n p).eng = s.eng := rfl
@[simp] theorem State.sendUp_com (n : Nat) (p : Packet) : (s.sendUp n p).com = s.com := rfl
@[simp] theorem State.sendUp_safe (n : Nat) (p : Packet) : (s.sendUp n p).safe = s.safe := rfl
@[simp] theorem State.sendUp_views (n : Nat) (p : Packet) : (s.sendUp n p).views = s.views := rfl
@[simp] theorem State.sendUp_regs (n : Nat) (p : Packet) : (s.sendUp n p).regs = s.regs := rfl
@[simp] theorem State.sendUp_conv (n : Nat) (p : Packet) : (s.sendUp n p).conv = s.conv := rfl
@[simp] theorem State.sendUp_stg (n : Nat) (p : Packet) : (s.sendUp n p).stg = s.stg := rfl
@[simp] theorem State.sendUp_tel (n : Nat) (p : Packet) : (s.sendUp n p).tel = s.tel := rfl
@[simp] theorem State.sendUp_bud (n : Nat) (p : Packet) : (s.sendUp n p).bud = s.bud := rfl
@[simp] theorem State.sendUp_shim (n : Nat) (p : Packet) : (s.sendUp n p).shim = s.shim := rfl
@[simp] theorem State.sendUp_led (n : Nat) (p : Packet) : (s.sendUp n p).led = s.led := rfl
@[simp] theorem State.sendUp_tide (n : Nat) (p : Packet) : (s.sendUp n p).tide = s.tide := rfl
@[simp] theorem State.sendUp_flt (n : Nat) (p : Packet) : (s.sendUp n p).flt = s.flt := rfl
@[simp] theorem State.sendUp_hw (n : Nat) (p : Packet) : (s.sendUp n p).hw = s.hw := rfl
@[simp] theorem State.sendUp_log (n : Nat) (p : Packet) : (s.sendUp n p).log = s.log := rfl
@[simp] theorem State.sendUp_store (n : Nat) (p : Packet) : (s.sendUp n p).store = s.store := rfl
@[simp] theorem State.sendUp_sys (n : Nat) (p : Packet) : (s.sendUp n p).sys = s.sys := rfl
@[simp] theorem State.sendUp_ports (n : Nat) (p : Packet) : (s.sendUp n p).ports = s.ports := rfl

@[simp] theorem State.sendEvent_pending (n : Nat) (c : Byte) (d : Word) : (s.sendEvent n c d).pending = s.pending := rfl
@[simp] theorem State.sendEvent_now (n : Nat) (c : Byte) (d : Word) : (s.sendEvent n c d).now = s.now := rfl
@[simp] theorem State.sendEvent_epochAt (n : Nat) (c : Byte) (d : Word) : (s.sendEvent n c d).epochAt = s.epochAt := rfl
@[simp] theorem State.sendEvent_epoch (n : Nat) (c : Byte) (d : Word) : (s.sendEvent n c d).epoch = s.epoch := rfl
@[simp] theorem State.sendEvent_free (n : Nat) (c : Byte) (d : Word) : (s.sendEvent n c d).free = s.free := rfl
@[simp] theorem State.sendEvent_nodes (n : Nat) (c : Byte) (d : Word) : (s.sendEvent n c d).nodes = s.nodes := rfl
@[simp] theorem State.sendEvent_pans (n : Nat) (c : Byte) (d : Word) : (s.sendEvent n c d).pans = s.pans := rfl
@[simp] theorem State.sendEvent_eng (n : Nat) (c : Byte) (d : Word) : (s.sendEvent n c d).eng = s.eng := rfl
@[simp] theorem State.sendEvent_com (n : Nat) (c : Byte) (d : Word) : (s.sendEvent n c d).com = s.com := rfl
@[simp] theorem State.sendEvent_safe (n : Nat) (c : Byte) (d : Word) : (s.sendEvent n c d).safe = s.safe := rfl
@[simp] theorem State.sendEvent_views (n : Nat) (c : Byte) (d : Word) : (s.sendEvent n c d).views = s.views := rfl
@[simp] theorem State.sendEvent_regs (n : Nat) (c : Byte) (d : Word) : (s.sendEvent n c d).regs = s.regs := rfl
@[simp] theorem State.sendEvent_conv (n : Nat) (c : Byte) (d : Word) : (s.sendEvent n c d).conv = s.conv := rfl
@[simp] theorem State.sendEvent_stg (n : Nat) (c : Byte) (d : Word) : (s.sendEvent n c d).stg = s.stg := rfl
@[simp] theorem State.sendEvent_tel (n : Nat) (c : Byte) (d : Word) : (s.sendEvent n c d).tel = s.tel := rfl
@[simp] theorem State.sendEvent_bud (n : Nat) (c : Byte) (d : Word) : (s.sendEvent n c d).bud = s.bud := rfl
@[simp] theorem State.sendEvent_shim (n : Nat) (c : Byte) (d : Word) : (s.sendEvent n c d).shim = s.shim := rfl
@[simp] theorem State.sendEvent_led (n : Nat) (c : Byte) (d : Word) : (s.sendEvent n c d).led = s.led := rfl
@[simp] theorem State.sendEvent_tide (n : Nat) (c : Byte) (d : Word) : (s.sendEvent n c d).tide = s.tide := rfl
@[simp] theorem State.sendEvent_flt (n : Nat) (c : Byte) (d : Word) : (s.sendEvent n c d).flt = s.flt := rfl
@[simp] theorem State.sendEvent_hw (n : Nat) (c : Byte) (d : Word) : (s.sendEvent n c d).hw = s.hw := rfl
@[simp] theorem State.sendEvent_log (n : Nat) (c : Byte) (d : Word) : (s.sendEvent n c d).log = s.log := rfl
@[simp] theorem State.sendEvent_store (n : Nat) (c : Byte) (d : Word) : (s.sendEvent n c d).store = s.store := rfl
@[simp] theorem State.sendEvent_sys (n : Nat) (c : Byte) (d : Word) : (s.sendEvent n c d).sys = s.sys := rfl
@[simp] theorem State.sendEvent_ports (n : Nat) (c : Byte) (d : Word) : (s.sendEvent n c d).ports = s.ports := rfl

@[simp] theorem State.takeDown_pending (n : Nat) (p : Packet) : (s.takeDown n p).pending = s.pending := rfl
@[simp] theorem State.takeDown_now (n : Nat) (p : Packet) : (s.takeDown n p).now = s.now := rfl
@[simp] theorem State.takeDown_epochAt (n : Nat) (p : Packet) : (s.takeDown n p).epochAt = s.epochAt := rfl
@[simp] theorem State.takeDown_epoch (n : Nat) (p : Packet) : (s.takeDown n p).epoch = s.epoch := rfl
@[simp] theorem State.takeDown_free (n : Nat) (p : Packet) : (s.takeDown n p).free = s.free := rfl
@[simp] theorem State.takeDown_pans (n : Nat) (p : Packet) : (s.takeDown n p).pans = s.pans := rfl
@[simp] theorem State.takeDown_eng (n : Nat) (p : Packet) : (s.takeDown n p).eng = s.eng := rfl
@[simp] theorem State.takeDown_com (n : Nat) (p : Packet) : (s.takeDown n p).com = s.com := rfl
@[simp] theorem State.takeDown_safe (n : Nat) (p : Packet) : (s.takeDown n p).safe = s.safe := rfl
@[simp] theorem State.takeDown_views (n : Nat) (p : Packet) : (s.takeDown n p).views = s.views := rfl
@[simp] theorem State.takeDown_regs (n : Nat) (p : Packet) : (s.takeDown n p).regs = s.regs := rfl
@[simp] theorem State.takeDown_conv (n : Nat) (p : Packet) : (s.takeDown n p).conv = s.conv := rfl
@[simp] theorem State.takeDown_stg (n : Nat) (p : Packet) : (s.takeDown n p).stg = s.stg := rfl
@[simp] theorem State.takeDown_tel (n : Nat) (p : Packet) : (s.takeDown n p).tel = s.tel := rfl
@[simp] theorem State.takeDown_bud (n : Nat) (p : Packet) : (s.takeDown n p).bud = s.bud := rfl
@[simp] theorem State.takeDown_shim (n : Nat) (p : Packet) : (s.takeDown n p).shim = s.shim := rfl
@[simp] theorem State.takeDown_led (n : Nat) (p : Packet) : (s.takeDown n p).led = s.led := rfl
@[simp] theorem State.takeDown_tide (n : Nat) (p : Packet) : (s.takeDown n p).tide = s.tide := rfl
@[simp] theorem State.takeDown_flt (n : Nat) (p : Packet) : (s.takeDown n p).flt = s.flt := rfl
@[simp] theorem State.takeDown_hw (n : Nat) (p : Packet) : (s.takeDown n p).hw = s.hw := rfl
@[simp] theorem State.takeDown_log (n : Nat) (p : Packet) : (s.takeDown n p).log = s.log := rfl
@[simp] theorem State.takeDown_store (n : Nat) (p : Packet) : (s.takeDown n p).store = s.store := rfl
@[simp] theorem State.takeDown_sys (n : Nat) (p : Packet) : (s.takeDown n p).sys = s.sys := rfl
@[simp] theorem State.takeDown_ports (n : Nat) (p : Packet) : (s.takeDown n p).ports = s.ports := rfl

@[simp] theorem State.takeUp_pending (n : Nat) (p : Packet) : (s.takeUp n p).pending = s.pending := rfl
@[simp] theorem State.takeUp_now (n : Nat) (p : Packet) : (s.takeUp n p).now = s.now := rfl
@[simp] theorem State.takeUp_epochAt (n : Nat) (p : Packet) : (s.takeUp n p).epochAt = s.epochAt := rfl
@[simp] theorem State.takeUp_epoch (n : Nat) (p : Packet) : (s.takeUp n p).epoch = s.epoch := rfl
@[simp] theorem State.takeUp_free (n : Nat) (p : Packet) : (s.takeUp n p).free = s.free := rfl
@[simp] theorem State.takeUp_nodes (n : Nat) (p : Packet) : (s.takeUp n p).nodes = s.nodes := rfl
@[simp] theorem State.takeUp_pans (n : Nat) (p : Packet) : (s.takeUp n p).pans = s.pans := rfl
@[simp] theorem State.takeUp_eng (n : Nat) (p : Packet) : (s.takeUp n p).eng = s.eng := rfl
@[simp] theorem State.takeUp_com (n : Nat) (p : Packet) : (s.takeUp n p).com = s.com := rfl
@[simp] theorem State.takeUp_safe (n : Nat) (p : Packet) : (s.takeUp n p).safe = s.safe := rfl
@[simp] theorem State.takeUp_views (n : Nat) (p : Packet) : (s.takeUp n p).views = s.views := rfl
@[simp] theorem State.takeUp_regs (n : Nat) (p : Packet) : (s.takeUp n p).regs = s.regs := rfl
@[simp] theorem State.takeUp_conv (n : Nat) (p : Packet) : (s.takeUp n p).conv = s.conv := rfl
@[simp] theorem State.takeUp_stg (n : Nat) (p : Packet) : (s.takeUp n p).stg = s.stg := rfl
@[simp] theorem State.takeUp_tel (n : Nat) (p : Packet) : (s.takeUp n p).tel = s.tel := rfl
@[simp] theorem State.takeUp_bud (n : Nat) (p : Packet) : (s.takeUp n p).bud = s.bud := rfl
@[simp] theorem State.takeUp_shim (n : Nat) (p : Packet) : (s.takeUp n p).shim = s.shim := rfl
@[simp] theorem State.takeUp_led (n : Nat) (p : Packet) : (s.takeUp n p).led = s.led := rfl
@[simp] theorem State.takeUp_tide (n : Nat) (p : Packet) : (s.takeUp n p).tide = s.tide := rfl
@[simp] theorem State.takeUp_flt (n : Nat) (p : Packet) : (s.takeUp n p).flt = s.flt := rfl
@[simp] theorem State.takeUp_hw (n : Nat) (p : Packet) : (s.takeUp n p).hw = s.hw := rfl
@[simp] theorem State.takeUp_log (n : Nat) (p : Packet) : (s.takeUp n p).log = s.log := rfl
@[simp] theorem State.takeUp_store (n : Nat) (p : Packet) : (s.takeUp n p).store = s.store := rfl
@[simp] theorem State.takeUp_sys (n : Nat) (p : Packet) : (s.takeUp n p).sys = s.sys := rfl
@[simp] theorem State.takeUp_ports (n : Nat) (p : Packet) : (s.takeUp n p).ports = s.ports := rfl

@[simp] theorem State.cause_pending (b : Nat) : (s.cause b).pending = s.pending := rfl
@[simp] theorem State.cause_now (b : Nat) : (s.cause b).now = s.now := rfl
@[simp] theorem State.cause_epochAt (b : Nat) : (s.cause b).epochAt = s.epochAt := rfl
@[simp] theorem State.cause_epoch (b : Nat) : (s.cause b).epoch = s.epoch := rfl
@[simp] theorem State.cause_free (b : Nat) : (s.cause b).free = s.free := rfl
@[simp] theorem State.cause_nodes (b : Nat) : (s.cause b).nodes = s.nodes := rfl
@[simp] theorem State.cause_links (b : Nat) : (s.cause b).links = s.links := rfl
@[simp] theorem State.cause_pans (b : Nat) : (s.cause b).pans = s.pans := rfl
@[simp] theorem State.cause_eng (b : Nat) : (s.cause b).eng = s.eng := rfl
@[simp] theorem State.cause_com (b : Nat) : (s.cause b).com = s.com := rfl
@[simp] theorem State.cause_safe (b : Nat) : (s.cause b).safe = s.safe := rfl
@[simp] theorem State.cause_views (b : Nat) : (s.cause b).views = s.views := rfl
@[simp] theorem State.cause_regs (b : Nat) : (s.cause b).regs = s.regs := rfl
@[simp] theorem State.cause_conv (b : Nat) : (s.cause b).conv = s.conv := rfl
@[simp] theorem State.cause_stg (b : Nat) : (s.cause b).stg = s.stg := rfl
@[simp] theorem State.cause_tel (b : Nat) : (s.cause b).tel = s.tel := rfl
@[simp] theorem State.cause_bud (b : Nat) : (s.cause b).bud = s.bud := rfl
@[simp] theorem State.cause_shim (b : Nat) : (s.cause b).shim = s.shim := rfl
@[simp] theorem State.cause_led (b : Nat) : (s.cause b).led = s.led := rfl
@[simp] theorem State.cause_tide (b : Nat) : (s.cause b).tide = s.tide := rfl
@[simp] theorem State.cause_flt (b : Nat) : (s.cause b).flt = s.flt := rfl
@[simp] theorem State.cause_log (b : Nat) : (s.cause b).log = s.log := rfl
@[simp] theorem State.cause_store (b : Nat) : (s.cause b).store = s.store := rfl
@[simp] theorem State.cause_sys (b : Nat) : (s.cause b).sys = s.sys := rfl
@[simp] theorem State.cause_ports (b : Nat) : (s.cause b).ports = s.ports := rfl

@[simp] theorem State.tally_pending (id ix bin n : Nat) : (s.tally id ix bin n).pending = s.pending := rfl
@[simp] theorem State.tally_now (id ix bin n : Nat) : (s.tally id ix bin n).now = s.now := rfl
@[simp] theorem State.tally_epochAt (id ix bin n : Nat) : (s.tally id ix bin n).epochAt = s.epochAt := rfl
@[simp] theorem State.tally_epoch (id ix bin n : Nat) : (s.tally id ix bin n).epoch = s.epoch := rfl
@[simp] theorem State.tally_free (id ix bin n : Nat) : (s.tally id ix bin n).free = s.free := rfl
@[simp] theorem State.tally_nodes (id ix bin n : Nat) : (s.tally id ix bin n).nodes = s.nodes := rfl
@[simp] theorem State.tally_links (id ix bin n : Nat) : (s.tally id ix bin n).links = s.links := rfl
@[simp] theorem State.tally_pans (id ix bin n : Nat) : (s.tally id ix bin n).pans = s.pans := rfl
@[simp] theorem State.tally_eng (id ix bin n : Nat) : (s.tally id ix bin n).eng = s.eng := rfl
@[simp] theorem State.tally_com (id ix bin n : Nat) : (s.tally id ix bin n).com = s.com := rfl
@[simp] theorem State.tally_safe (id ix bin n : Nat) : (s.tally id ix bin n).safe = s.safe := rfl
@[simp] theorem State.tally_views (id ix bin n : Nat) : (s.tally id ix bin n).views = s.views := rfl
@[simp] theorem State.tally_regs (id ix bin n : Nat) : (s.tally id ix bin n).regs = s.regs := rfl
@[simp] theorem State.tally_conv (id ix bin n : Nat) : (s.tally id ix bin n).conv = s.conv := rfl
@[simp] theorem State.tally_stg (id ix bin n : Nat) : (s.tally id ix bin n).stg = s.stg := rfl
@[simp] theorem State.tally_tel (id ix bin n : Nat) : (s.tally id ix bin n).tel = s.tel := rfl
@[simp] theorem State.tally_bud (id ix bin n : Nat) : (s.tally id ix bin n).bud = s.bud := rfl
@[simp] theorem State.tally_shim (id ix bin n : Nat) : (s.tally id ix bin n).shim = s.shim := rfl
@[simp] theorem State.tally_led (id ix bin n : Nat) : (s.tally id ix bin n).led = s.led := rfl
@[simp] theorem State.tally_tide (id ix bin n : Nat) : (s.tally id ix bin n).tide = s.tide := rfl
@[simp] theorem State.tally_hw (id ix bin n : Nat) : (s.tally id ix bin n).hw = s.hw := rfl
@[simp] theorem State.tally_log (id ix bin n : Nat) : (s.tally id ix bin n).log = s.log := rfl
@[simp] theorem State.tally_store (id ix bin n : Nat) : (s.tally id ix bin n).store = s.store := rfl
@[simp] theorem State.tally_sys (id ix bin n : Nat) : (s.tally id ix bin n).sys = s.sys := rfl
@[simp] theorem State.tally_ports (id ix bin n : Nat) : (s.tally id ix bin n).ports = s.ports := rfl

@[simp] theorem State.sluiceFault_pending  : (s.sluiceFault).pending = s.pending := rfl
@[simp] theorem State.sluiceFault_now  : (s.sluiceFault).now = s.now := rfl
@[simp] theorem State.sluiceFault_epochAt  : (s.sluiceFault).epochAt = s.epochAt := rfl
@[simp] theorem State.sluiceFault_epoch  : (s.sluiceFault).epoch = s.epoch := rfl
@[simp] theorem State.sluiceFault_free  : (s.sluiceFault).free = s.free := rfl
@[simp] theorem State.sluiceFault_nodes  : (s.sluiceFault).nodes = s.nodes := rfl
@[simp] theorem State.sluiceFault_links  : (s.sluiceFault).links = s.links := rfl
@[simp] theorem State.sluiceFault_pans  : (s.sluiceFault).pans = s.pans := rfl
@[simp] theorem State.sluiceFault_eng  : (s.sluiceFault).eng = s.eng := rfl
@[simp] theorem State.sluiceFault_com  : (s.sluiceFault).com = s.com := rfl
@[simp] theorem State.sluiceFault_safe  : (s.sluiceFault).safe = s.safe := rfl
@[simp] theorem State.sluiceFault_views  : (s.sluiceFault).views = s.views := rfl
@[simp] theorem State.sluiceFault_regs  : (s.sluiceFault).regs = s.regs := rfl
@[simp] theorem State.sluiceFault_conv  : (s.sluiceFault).conv = s.conv := rfl
@[simp] theorem State.sluiceFault_stg  : (s.sluiceFault).stg = s.stg := rfl
@[simp] theorem State.sluiceFault_tel  : (s.sluiceFault).tel = s.tel := rfl
@[simp] theorem State.sluiceFault_bud  : (s.sluiceFault).bud = s.bud := rfl
@[simp] theorem State.sluiceFault_shim  : (s.sluiceFault).shim = s.shim := rfl
@[simp] theorem State.sluiceFault_led  : (s.sluiceFault).led = s.led := rfl
@[simp] theorem State.sluiceFault_tide  : (s.sluiceFault).tide = s.tide := rfl
@[simp] theorem State.sluiceFault_hw  : (s.sluiceFault).hw = s.hw := rfl
@[simp] theorem State.sluiceFault_log  : (s.sluiceFault).log = s.log := rfl
@[simp] theorem State.sluiceFault_store  : (s.sluiceFault).store = s.store := rfl
@[simp] theorem State.sluiceFault_sys  : (s.sluiceFault).sys = s.sys := rfl
@[simp] theorem State.sluiceFault_ports  : (s.sluiceFault).ports = s.ports := rfl

@[simp] theorem State.fenceMsg_pending (w : Word) : (s.fenceMsg w).pending = s.pending := rfl
@[simp] theorem State.fenceMsg_now (w : Word) : (s.fenceMsg w).now = s.now := rfl
@[simp] theorem State.fenceMsg_epochAt (w : Word) : (s.fenceMsg w).epochAt = s.epochAt := rfl
@[simp] theorem State.fenceMsg_epoch (w : Word) : (s.fenceMsg w).epoch = s.epoch := rfl
@[simp] theorem State.fenceMsg_free (w : Word) : (s.fenceMsg w).free = s.free := rfl
@[simp] theorem State.fenceMsg_nodes (w : Word) : (s.fenceMsg w).nodes = s.nodes := rfl
@[simp] theorem State.fenceMsg_links (w : Word) : (s.fenceMsg w).links = s.links := rfl
@[simp] theorem State.fenceMsg_pans (w : Word) : (s.fenceMsg w).pans = s.pans := rfl
@[simp] theorem State.fenceMsg_eng (w : Word) : (s.fenceMsg w).eng = s.eng := rfl
@[simp] theorem State.fenceMsg_com (w : Word) : (s.fenceMsg w).com = s.com := rfl
@[simp] theorem State.fenceMsg_safe (w : Word) : (s.fenceMsg w).safe = s.safe := rfl
@[simp] theorem State.fenceMsg_views (w : Word) : (s.fenceMsg w).views = s.views := rfl
@[simp] theorem State.fenceMsg_regs (w : Word) : (s.fenceMsg w).regs = s.regs := rfl
@[simp] theorem State.fenceMsg_conv (w : Word) : (s.fenceMsg w).conv = s.conv := rfl
@[simp] theorem State.fenceMsg_stg (w : Word) : (s.fenceMsg w).stg = s.stg := rfl
@[simp] theorem State.fenceMsg_tel (w : Word) : (s.fenceMsg w).tel = s.tel := rfl
@[simp] theorem State.fenceMsg_bud (w : Word) : (s.fenceMsg w).bud = s.bud := rfl
@[simp] theorem State.fenceMsg_shim (w : Word) : (s.fenceMsg w).shim = s.shim := rfl
@[simp] theorem State.fenceMsg_led (w : Word) : (s.fenceMsg w).led = s.led := rfl
@[simp] theorem State.fenceMsg_tide (w : Word) : (s.fenceMsg w).tide = s.tide := rfl
@[simp] theorem State.fenceMsg_flt (w : Word) : (s.fenceMsg w).flt = s.flt := rfl
@[simp] theorem State.fenceMsg_hw (w : Word) : (s.fenceMsg w).hw = s.hw := rfl
@[simp] theorem State.fenceMsg_log (w : Word) : (s.fenceMsg w).log = s.log := rfl
@[simp] theorem State.fenceMsg_store (w : Word) : (s.fenceMsg w).store = s.store := rfl
@[simp] theorem State.fenceMsg_sys (w : Word) : (s.fenceMsg w).sys = s.sys := rfl

/-! ### Accessors after a write -/

@[simp] theorem State.sendUp_node (n m : Nat) (p : Packet) : (s.sendUp n p).node m = s.node m := rfl
@[simp] theorem State.sendUp_pan (n m : Nat) (p : Packet) : (s.sendUp n p).pan m = s.pan m := rfl
@[simp] theorem State.sendEvent_node (n m : Nat) (c : Byte) (d : Word) : (s.sendEvent n c d).node m = s.node m := rfl
@[simp] theorem State.sendEvent_pan (n m : Nat) (c : Byte) (d : Word) : (s.sendEvent n c d).pan m = s.pan m := rfl
@[simp] theorem State.takeDown_pan (n m : Nat) (p : Packet) : (s.takeDown n p).pan m = s.pan m := rfl
@[simp] theorem State.updNode_isPan (n m : Nat) (f : Node → Node) : (s.updNode n f).isPan m = ((s.updNode n f).node m).kind.isPan := rfl
@[simp] theorem State.reach_node (t m : Nat) : (s.reach t).node m = s.node m := rfl
@[simp] theorem State.reach_pan (t m : Nat) : (s.reach t).pan m = s.pan m := rfl
@[simp] theorem State.reach_reg (t r : Nat) : (s.reach t).reg r = s.reg r := rfl
@[simp] theorem State.updPan_node (n m : Nat) (f : Pan → Pan) : (s.updPan n f).node m = s.node m := rfl
@[simp] theorem State.updNode_pan (n m : Nat) (f : Node → Node) : (s.updNode n f).pan m = s.pan m := rfl

/-- A change of one node is seen at that node. -/
@[simp] theorem State.updNode_node_same (n : Nat) (f : Node → Node) : (s.updNode n f).node n = f (s.node n) := by
  simp [State.node]
theorem State.updNode_node_other {n m : Nat} (f : Node → Node) (h : m ≠ n) : (s.updNode n f).node m = s.node m := by
  simp [State.node, Tbl.get_set_other _ _ _ h]
/-- Taking a packet off the parent link notes the moment, and nothing else, at the node (R35, R68). -/
theorem State.takeDown_node (n m : Nat) (p : Packet) :
    (s.takeDown n p).node m = if m = n then { s.node n with lastPkt := s.now } else s.node m := by
  unfold State.takeDown
  split
  · subst_vars; rw [State.updNode_node_same]; rfl
  · rw [State.updNode_node_other _ _ ‹_›]; rfl
@[simp] theorem State.takeDown_kind (n m : Nat) (p : Packet) : ((s.takeDown n p).node m).kind = (s.node m).kind := by
  rw [State.takeDown_node]; split <;> simp_all
@[simp] theorem State.takeDown_parent (n m : Nat) (p : Packet) : ((s.takeDown n p).node m).parent = (s.node m).parent := by
  rw [State.takeDown_node]; split <;> simp_all
@[simp] theorem State.takeDown_port (n m : Nat) (p : Packet) : ((s.takeDown n p).node m).port = (s.node m).port := by
  rw [State.takeDown_node]; split <;> simp_all
@[simp] theorem State.takeDown_spareParent (n m : Nat) (p : Packet) :
    ((s.takeDown n p).node m).spareParent = (s.node m).spareParent := by
  rw [State.takeDown_node]; split <;> simp_all
@[simp] theorem State.takeDown_sparePort (n m : Nat) (p : Packet) :
    ((s.takeDown n p).node m).sparePort = (s.node m).sparePort := by
  rw [State.takeDown_node]; split <;> simp_all
@[simp] theorem State.takeDown_depth (n m : Nat) (p : Packet) : ((s.takeDown n p).node m).depth = (s.node m).depth := by
  rw [State.takeDown_node]; split <;> simp_all
@[simp] theorem State.takeDown_height (n m : Nat) (p : Packet) : ((s.takeDown n p).node m).height = (s.node m).height := by
  rw [State.takeDown_node]; split <;> simp_all
@[simp] theorem State.takeDown_rating (n m : Nat) (p : Packet) : ((s.takeDown n p).node m).rating = (s.node m).rating := by
  rw [State.takeDown_node]; split <;> simp_all
@[simp] theorem State.takeDown_wide (n m : Nat) (p : Packet) : ((s.takeDown n p).node m).wide = (s.node m).wide := by
  rw [State.takeDown_node]; split <;> simp_all
@[simp] theorem State.takeDown_node_ports (n m : Nat) (p : Packet) : ((s.takeDown n p).node m).ports = (s.node m).ports := by
  rw [State.takeDown_node]; split <;> simp_all
@[simp] theorem State.takeDown_revision (n m : Nat) (p : Packet) :
    ((s.takeDown n p).node m).revision = (s.node m).revision := by
  rw [State.takeDown_node]; split <;> simp_all
@[simp] theorem State.takeDown_id (n m : Nat) (p : Packet) : ((s.takeDown n p).node m).id = (s.node m).id := by
  rw [State.takeDown_node]; split <;> simp_all
@[simp] theorem State.takeDown_subHi (n m : Nat) (p : Packet) : ((s.takeDown n p).node m).subHi = (s.node m).subHi := by
  rw [State.takeDown_node]; split <;> simp_all
@[simp] theorem State.takeDown_portDisabled (n m : Nat) (p : Packet) :
    ((s.takeDown n p).node m).portDisabled = (s.node m).portDisabled := by
  rw [State.takeDown_node]; split <;> simp_all
@[simp] theorem State.takeDown_spareOff (n m : Nat) (p : Packet) :
    ((s.takeDown n p).node m).spareOff = (s.node m).spareOff := by
  rw [State.takeDown_node]; split <;> simp_all
@[simp] theorem State.takeDown_onSpare (n m : Nat) (p : Packet) : ((s.takeDown n p).node m).onSpare = (s.node m).onSpare := by
  rw [State.takeDown_node]; split <;> simp_all
@[simp] theorem State.takeDown_pathHold (n m : Nat) (p : Packet) :
    ((s.takeDown n p).node m).pathHold = (s.node m).pathHold := by
  rw [State.takeDown_node]; split <;> simp_all
@[simp] theorem State.takeDown_badPrimary (n m : Nat) (p : Packet) :
    ((s.takeDown n p).node m).badPrimary = (s.node m).badPrimary := by
  rw [State.takeDown_node]; split <;> simp_all
@[simp] theorem State.takeDown_badSpare (n m : Nat) (p : Packet) :
    ((s.takeDown n p).node m).badSpare = (s.node m).badSpare := by
  rw [State.takeDown_node]; split <;> simp_all
@[simp] theorem State.takeDown_parity (n m : Nat) (p : Packet) : ((s.takeDown n p).node m).parity = (s.node m).parity := by
  rw [State.takeDown_node]; split <;> simp_all
@[simp] theorem State.takeDown_roster (n m : Nat) (p : Packet) : ((s.takeDown n p).node m).roster = (s.node m).roster := by
  rw [State.takeDown_node]; split <;> simp_all
@[simp] theorem State.takeDown_exc (n m : Nat) (p : Packet) : ((s.takeDown n p).node m).exc = (s.node m).exc := by
  rw [State.takeDown_node]; split <;> simp_all
@[simp] theorem State.takeDown_ranges (n m : Nat) (p : Packet) : ((s.takeDown n p).node m).ranges = (s.node m).ranges := by
  rw [State.takeDown_node]; split <;> simp_all
@[simp] theorem State.takeDown_held (n m : Nat) (p : Packet) : ((s.takeDown n p).node m).held = (s.node m).held := by
  rw [State.takeDown_node]; split <;> simp_all
@[simp] theorem State.takeDown_resyncDue (n m : Nat) (p : Packet) :
    ((s.takeDown n p).node m).resyncDue = (s.node m).resyncDue := by
  rw [State.takeDown_node]; split <;> simp_all
@[simp] theorem State.takeDown_acks (n m : Nat) (p : Packet) : ((s.takeDown n p).node m).acks = (s.node m).acks := by
  rw [State.takeDown_node]; split <;> simp_all
@[simp] theorem State.takeDown_acked (n m : Nat) (p : Packet) : ((s.takeDown n p).node m).acked = (s.node m).acked := by
  rw [State.takeDown_node]; split <;> simp_all
@[simp] theorem State.takeDown_rollup (n m : Nat) (p : Packet) : ((s.takeDown n p).node m).rollup = (s.node m).rollup := by
  rw [State.takeDown_node]; split <;> simp_all
@[simp] theorem State.takeDown_lastRq (n m : Nat) (p : Packet) : ((s.takeDown n p).node m).lastRq = (s.node m).lastRq := by
  rw [State.takeDown_node]; split <;> simp_all
@[simp] theorem State.takeDown_cum (n m : Nat) (p : Packet) : ((s.takeDown n p).node m).cum = (s.node m).cum := by
  rw [State.takeDown_node]; split <;> simp_all
@[simp] theorem State.takeDown_epochNo (n m : Nat) (p : Packet) : ((s.takeDown n p).node m).epochNo = (s.node m).epochNo := by
  rw [State.takeDown_node]; split <;> simp_all
@[simp] theorem State.takeDown_node_epochAt (n m : Nat) (p : Packet) : ((s.takeDown n p).node m).epochAt = (s.node m).epochAt := by
  rw [State.takeDown_node]; split <;> simp_all
@[simp] theorem State.takeDown_aligned (n m : Nat) (p : Packet) : ((s.takeDown n p).node m).aligned = (s.node m).aligned := by
  rw [State.takeDown_node]; split <;> simp_all
theorem State.takeDown_node_other {n m : Nat} (p : Packet) (h : m ≠ n) : (s.takeDown n p).node m = s.node m := by
  rw [State.takeDown_node, if_neg h]
@[simp] theorem State.takeDown_node_same (n : Nat) (p : Packet) :
    (s.takeDown n p).node n = { s.node n with lastPkt := s.now } := by
  rw [State.takeDown_node, if_pos rfl]
@[simp] theorem State.takeDown_isPan (n m : Nat) (p : Packet) : (s.takeDown n p).isPan m = s.isPan m := by
  simp [State.isPan]
@[simp] theorem State.takeDown_chain (n : Nat) (p : Packet) (f m : Nat) : (s.takeDown n p).chain f m = s.chain f m := by
  induction f generalizing m with
  | zero => rfl
  | succ f ih =>
    simp only [State.chain, ih, State.takeDown_onSpare, State.takeDown_spareParent, State.takeDown_parent]
@[simp] theorem State.takeDown_isFor (n m : Nat) (p : Packet) (h : Hdr) : (s.takeDown n p).isFor m h = s.isFor m h := by
  simp [State.isFor]
@[simp] theorem State.updPan_pan_same (n : Nat) (f : Pan → Pan) : (s.updPan n f).pan n = f (s.pan n) := by
  simp [State.pan]
theorem State.updPan_pan_other {n m : Nat} (f : Pan → Pan) (h : m ≠ n) : (s.updPan n f).pan m = s.pan m := by
  simp [State.pan, Tbl.get_set_other _ _ _ h]
@[simp] theorem State.updReg_reg_same (r : Nat) (f : Region → Region) : (s.updReg r f).reg r = f (s.reg r) := by
  simp [State.reg]
theorem State.updReg_reg_other {r q : Nat} (f : Region → Region) (h : q ≠ r) : (s.updReg r f).reg q = s.reg q := by
  simp [State.reg, Tbl.get_set_other _ _ _ h]
@[simp] theorem State.updPhase_phase_same (n : Nat) (f : Phase → Phase) : (s.updPhase n f).phase n = f (s.phase n) := by
  simp [State.phase, State.updPhase]
theorem State.updPhase_phase_other {n m : Nat} (f : Phase → Phase) (h : m ≠ n) : (s.updPhase n f).phase m = s.phase m := by
  simp [State.phase, State.updPhase, Tbl.get_set_other _ _ _ h]
@[simp] theorem State.updRail_rail_same (x : Rail) (f : RailDyn → RailDyn) : (s.updRail x f).rail x = f (s.rail x) := by
  cases x <;> rfl
theorem State.updRail_rail_other {x y : Rail} (f : RailDyn → RailDyn) (h : y ≠ x) : (s.updRail x f).rail y = s.rail y := by
  cases x <;> cases y <;> first | rfl | exact absurd rfl h
@[simp] theorem State.updRail_phases (x : Rail) (f : RailDyn → RailDyn) : (s.updRail x f).conv.phases = s.conv.phases := by
  cases x <;> rfl
@[simp] theorem State.updNflt_nflt_same (n : Nat) (f : NodeFault → NodeFault) : (s.updNflt n f).nflt n = f (s.nflt n) := by
  simp [State.nflt, State.updNflt]
theorem State.updNflt_nflt_other {n m : Nat} (f : NodeFault → NodeFault) (h : m ≠ n) : (s.updNflt n f).nflt m = s.nflt m := by
  simp [State.nflt, State.updNflt, Tbl.get_set_other _ _ _ h]
@[simp] theorem State.updTPeer_tpeer_same (p : Nat) (f : TPeer → TPeer) : (s.updTPeer p f).tpeer p = f (s.tpeer p) := by
  simp [State.tpeer, State.updTPeer]
@[simp] theorem State.updHsrc_hsrc_same (x : Nat) (f : HintSrc → HintSrc) : (s.updHsrc x f).hsrc x = f (s.hsrc x) := by
  simp [State.hsrc, State.updHsrc]
@[simp] theorem State.updDvt_dvt_same (p : Nat) (f : Dvt → Dvt) : (s.updDvt p f).dvt p = f (s.dvt p) := by
  simp [State.dvt, State.updDvt]
@[simp] theorem State.updLdyn_ldyn_same (l : Nat) (f : LoopDyn → LoopDyn) : (s.updLdyn l f).ldyn l = f (s.ldyn l) := by
  simp [State.ldyn, State.updLdyn]
theorem State.updLdyn_ldyn_other {l m : Nat} (f : LoopDyn → LoopDyn) (h : m ≠ l) : (s.updLdyn l f).ldyn m = s.ldyn m := by
  simp [State.ldyn, State.updLdyn, Tbl.get_set_other _ _ _ h]
@[simp] theorem State.updLane_lane_same (i : Nat) (f : Lane → Lane) : (s.updLane i f).lane i = f (s.lane i) := by
  unfold State.updLane State.lane
  by_cases h : i % 18 < 16 <;> simp [h]
theorem State.updLane_lane_other {i j : Nat} (f : Lane → Lane) (h : j ≠ i) : (s.updLane i f).lane j = s.lane j := by
  unfold State.updLane State.lane
  by_cases hi : i % 18 < 16 <;> by_cases hj : j % 18 < 16 <;> simp [hi, hj, Tbl.get_set_other _ _ _ h]

/-- A change of one direction of a link is seen there. -/
@[simp] theorem State.updDir_dir_same (l : LinkId) (d : Dir) (f : LinkDir → LinkDir) : (s.updDir l d f).dir l d = f (s.dir l d) := by
  cases d <;> simp [State.dir, State.updDir, State.link]

end Sys2Proof.Machine
end

