-- ==== Sys2Proof/Laws/Settle.lean ====
section
/-! SUPPORT. Everything `settle` can do: it writes the presented kerf and shim values with their counters, the service
mark, FLTSUM's memory, the interrupt causes and outputs, and nothing else. Every meaning ends in `done`, so these lemmas
carry a meaning's effect to the state that `exec` answers. -/

namespace Sys2Proof.Machine

/-- Two states that differ only in what `settle` writes. -/
structure Kept (s t : State) : Prop where
  pending : t.pending = s.pending
  now : t.now = s.now
  epochAt : t.epochAt = s.epochAt
  epoch : t.epoch = s.epoch
  free : t.free = s.free
  nodes : t.nodes = s.nodes
  links : t.links = s.links
  pans : t.pans = s.pans
  eng : t.eng = s.eng
  com : t.com = s.com
  safe : t.safe = s.safe
  views : t.views = s.views
  conv : t.conv = s.conv
  stg : t.stg = s.stg
  tel : t.tel = s.tel
  bud : t.bud = s.bud
  led : t.led = s.led
  tide : t.tide = s.tide
  log : t.log = s.log
  store : t.store = s.store
  sys : t.sys = s.sys
  reg : ∀ r, Region.kept (s.reg r) (t.reg r)
  shim : t.shim = { s.shim with noneAt := t.shim.noneAt }
  flt : t.flt = { s.flt with prev := t.flt.prev }
  hw : t.hw = { s.hw with intcause := t.hw.intcause }
  causes : ∀ b, s.hw.intcause.getLsbD b = true → t.hw.intcause.getLsbD b = true
  ports : t.ports = { s.ports with
    krf := t.ports.krf, krfAt := t.ports.krfAt, rfc := t.ports.rfc, pmbSeen := t.ports.pmbSeen, alertN := t.ports.alertN,
    ibi := t.ports.ibi, ibiSeen := t.ports.ibiSeen, intOut := t.ports.intOut }

theorem Region.kept_refl (x : Region) : Region.kept x x := by simp [Region.kept]

theorem Region.kept_trans {x y z : Region} (h : Region.kept x y) (g : Region.kept y z) : Region.kept x z := by
  unfold Region.kept at *
  obtain ⟨h1, h2, h3, h4, h5, h6, h7, h8, h9, h10, h11, h12⟩ := h
  obtain ⟨g1, g2, g3, g4, g5, g6, g7, g8, g9, g10, g11, g12⟩ := g
  refine ⟨g1.trans h1, g2.trans h2, g3.trans h3, g4.trans h4, g5.trans h5, g6.trans h6, g7.trans h7, g8.trans h8, g9.trans h9,
    g10.trans h10, ?_, ?_⟩
  · rw [h11] at g11; exact g11
  · rw [h12] at g12; exact g12

theorem Kept.refl (s : State) : Kept s s where
  reg _ := Region.kept_refl _
  causes _ h := h
  pending := rfl
  now := rfl
  epochAt := rfl
  epoch := rfl
  free := rfl
  nodes := rfl
  links := rfl
  pans := rfl
  eng := rfl
  com := rfl
  safe := rfl
  views := rfl
  conv := rfl
  stg := rfl
  tel := rfl
  bud := rfl
  shim := rfl
  led := rfl
  tide := rfl
  flt := rfl
  hw := rfl
  log := rfl
  store := rfl
  sys := rfl
  ports := rfl

theorem Kept.trans {s t u : State} (h : Kept s t) (g : Kept t u) : Kept s u where
  reg r := Region.kept_trans (h.reg r) (g.reg r)
  causes b x := g.causes b (h.causes b x)
  pending := g.pending.trans h.pending
  now := g.now.trans h.now
  epochAt := g.epochAt.trans h.epochAt
  epoch := g.epoch.trans h.epoch
  free := g.free.trans h.free
  nodes := g.nodes.trans h.nodes
  links := g.links.trans h.links
  pans := g.pans.trans h.pans
  eng := g.eng.trans h.eng
  com := g.com.trans h.com
  safe := g.safe.trans h.safe
  views := g.views.trans h.views
  conv := g.conv.trans h.conv
  stg := g.stg.trans h.stg
  tel := g.tel.trans h.tel
  bud := g.bud.trans h.bud
  shim := by have a := g.shim; rw [h.shim] at a; exact a
  led := g.led.trans h.led
  tide := g.tide.trans h.tide
  flt := by have a := g.flt; rw [h.flt] at a; exact a
  hw := by have a := g.hw; rw [h.hw] at a; exact a
  log := g.log.trans h.log
  store := g.store.trans h.store
  sys := g.sys.trans h.sys
  ports := by have a := g.ports; rw [h.ports] at a; exact a

theorem Kept.cause (s : State) (b : Nat) : Kept s (s.cause b) :=
  { Kept.refl s with hw := rfl, causes := fun c h => by simp [State.cause, h] }

theorem Kept.settleRegion (s : State) (r : Nat) : Kept s (settleRegion s r) := by
  unfold Machine.settleRegion
  extract_lets k i x s1
  have h1 : Kept s s1 := by
    refine { Kept.refl s with reg := ?_ }
    intro q
    by_cases h : q = r
    · subst h; simp [s1, Region.kept]
    · rw [show s1.reg q = s.reg q from State.updReg_reg_other s _ h]; exact Region.kept_refl _
  split
  · exact h1
  · exact h1.trans { Kept.refl _ with ports := rfl }

theorem Kept.foldl {α : Type} (f : State → α → State) (h : ∀ s a, Kept s (f s a)) : ∀ (l : List α) (s : State), Kept s (l.foldl f s)
  | [], s => Kept.refl s
  | a :: l, s => (h s a).trans (Kept.foldl f h l (f s a))

/-- Everything `settle` can do. -/
theorem settle_kept (s : State) : Kept s (settle s) := by
  unfold settle
  extract_lets s1 s2 o s3 f rise s4 s5 c up s6 i s7
  have h1 : Kept s s1 := Kept.foldl _ Kept.settleRegion _ s
  have h2 : Kept s1 s2 := { Kept.refl s1 with ports := rfl }
  have h3 : Kept s2 s3 := { Kept.refl s2 with shim := rfl }
  have h4 : Kept s3 s4 := { Kept.refl s3 with flt := rfl }
  have h5 : Kept s4 s5 := by
    simp only [s5]; split
    · exact Kept.refl _
    · exact Kept.cause _ _
  have h6 : Kept s5 s6 := { Kept.refl s5 with ports := rfl }
  have h7 : Kept s6 s7 := { Kept.refl s6 with ports := rfl }
  exact ((((((h1.trans h2).trans h3).trans h4).trans h5).trans h6).trans h7).trans { Kept.refl s7 with ports := rfl }

@[simp] theorem settle_pending (s : State) : (settle s).pending = s.pending := (settle_kept s).pending
@[simp] theorem settle_now (s : State) : (settle s).now = s.now := (settle_kept s).now
@[simp] theorem settle_epochAt (s : State) : (settle s).epochAt = s.epochAt := (settle_kept s).epochAt
@[simp] theorem settle_epoch (s : State) : (settle s).epoch = s.epoch := (settle_kept s).epoch
@[simp] theorem settle_free (s : State) : (settle s).free = s.free := (settle_kept s).free
@[simp] theorem settle_nodes (s : State) : (settle s).nodes = s.nodes := (settle_kept s).nodes
@[simp] theorem settle_links (s : State) : (settle s).links = s.links := (settle_kept s).links
@[simp] theorem settle_pans (s : State) : (settle s).pans = s.pans := (settle_kept s).pans
@[simp] theorem settle_eng (s : State) : (settle s).eng = s.eng := (settle_kept s).eng
@[simp] theorem settle_com (s : State) : (settle s).com = s.com := (settle_kept s).com
@[simp] theorem settle_safe (s : State) : (settle s).safe = s.safe := (settle_kept s).safe
@[simp] theorem settle_views (s : State) : (settle s).views = s.views := (settle_kept s).views
@[simp] theorem settle_conv (s : State) : (settle s).conv = s.conv := (settle_kept s).conv
@[simp] theorem settle_stg (s : State) : (settle s).stg = s.stg := (settle_kept s).stg
@[simp] theorem settle_tel (s : State) : (settle s).tel = s.tel := (settle_kept s).tel
@[simp] theorem settle_bud (s : State) : (settle s).bud = s.bud := (settle_kept s).bud
@[simp] theorem settle_led (s : State) : (settle s).led = s.led := (settle_kept s).led
@[simp] theorem settle_tide (s : State) : (settle s).tide = s.tide := (settle_kept s).tide
@[simp] theorem settle_log (s : State) : (settle s).log = s.log := (settle_kept s).log
@[simp] theorem settle_store (s : State) : (settle s).store = s.store := (settle_kept s).store
@[simp] theorem settle_sys (s : State) : (settle s).sys = s.sys := (settle_kept s).sys

@[simp] theorem settle_flt_nodes (s : State) : (settle s).flt.nodes = s.flt.nodes := by rw [(settle_kept s).flt]
@[simp] theorem settle_flt_losses (s : State) : (settle s).flt.losses = s.flt.losses := by rw [(settle_kept s).flt]
@[simp] theorem settle_flt_windowAt (s : State) : (settle s).flt.windowAt = s.flt.windowAt := by rw [(settle_kept s).flt]
@[simp] theorem settle_flt_sluAt (s : State) : (settle s).flt.sluAt = s.flt.sluAt := by rw [(settle_kept s).flt]
@[simp] theorem settle_flt_talFault (s : State) : (settle s).flt.talFault = s.flt.talFault := by rw [(settle_kept s).flt]
@[simp] theorem settle_flt_talFresh (s : State) : (settle s).flt.talFresh = s.flt.talFresh := by rw [(settle_kept s).flt]
@[simp] theorem settle_flt_talReady (s : State) : (settle s).flt.talReady = s.flt.talReady := by rw [(settle_kept s).flt]
@[simp] theorem settle_flt_talVal (s : State) : (settle s).flt.talVal = s.flt.talVal := by rw [(settle_kept s).flt]
@[simp] theorem settle_flt_talEp (s : State) : (settle s).flt.talEp = s.flt.talEp := by rw [(settle_kept s).flt]
@[simp] theorem settle_flt_talGen (s : State) : (settle s).flt.talGen = s.flt.talGen := by rw [(settle_kept s).flt]
@[simp] theorem settle_flt_tally (s : State) : (settle s).flt.tally = s.flt.tally := by rw [(settle_kept s).flt]
@[simp] theorem settle_flt_taken (s : State) : (settle s).flt.taken = s.flt.taken := by rw [(settle_kept s).flt]
@[simp] theorem settle_flt_totals (s : State) : (settle s).flt.totals = s.flt.totals := by rw [(settle_kept s).flt]
@[simp] theorem settle_flt_hseq (s : State) : (settle s).flt.hseq = s.flt.hseq := by rw [(settle_kept s).flt]
@[simp] theorem settle_flt_harvesting (s : State) : (settle s).flt.harvesting = s.flt.harvesting := by rw [(settle_kept s).flt]
@[simp] theorem settle_flt_harvestAt (s : State) : (settle s).flt.harvestAt = s.flt.harvestAt := by rw [(settle_kept s).flt]
@[simp] theorem settle_flt_excUsed (s : State) : (settle s).flt.excUsed = s.flt.excUsed := by rw [(settle_kept s).flt]
@[simp] theorem settle_flt_adopted (s : State) : (settle s).flt.adopted = s.flt.adopted := by rw [(settle_kept s).flt]
@[simp] theorem settle_flt_disabledPorts (s : State) : (settle s).flt.disabledPorts = s.flt.disabledPorts := by rw [(settle_kept s).flt]

@[simp] theorem settle_hw_bstate (s : State) : (settle s).hw.bstate = s.hw.bstate := by rw [(settle_kept s).hw]
@[simp] theorem settle_hw_hibeat (s : State) : (settle s).hw.hibeat = s.hw.hibeat := by rw [(settle_kept s).hw]
@[simp] theorem settle_hw_atState (s : State) : (settle s).hw.atState = s.hw.atState := by rw [(settle_kept s).hw]
@[simp] theorem settle_hw_atRefuse (s : State) : (settle s).hw.atRefuse = s.hw.atRefuse := by rw [(settle_kept s).hw]
@[simp] theorem settle_hw_attachV (s : State) : (settle s).hw.attachV = s.hw.attachV := by rw [(settle_kept s).hw]
@[simp] theorem settle_hw_sminor (s : State) : (settle s).hw.sminor = s.hw.sminor := by rw [(settle_kept s).hw]
@[simp] theorem settle_hw_attaches (s : State) : (settle s).hw.attaches = s.hw.attaches := by rw [(settle_kept s).hw]
@[simp] theorem settle_hw_inten (s : State) : (settle s).hw.inten = s.hw.inten := by rw [(settle_kept s).hw]
@[simp] theorem settle_hw_role (s : State) : (settle s).hw.role = s.hw.role := by rw [(settle_kept s).hw]
@[simp] theorem settle_hw_sesState (s : State) : (settle s).hw.sesState = s.hw.sesState := by rw [(settle_kept s).hw]
@[simp] theorem settle_hw_sesFails (s : State) : (settle s).hw.sesFails = s.hw.sesFails := by rw [(settle_kept s).hw]
@[simp] theorem settle_hw_sesNum (s : State) : (settle s).hw.sesNum = s.hw.sesNum := by rw [(settle_kept s).hw]
@[simp] theorem settle_hw_sesReq (s : State) : (settle s).hw.sesReq = s.hw.sesReq := by rw [(settle_kept s).hw]
@[simp] theorem settle_hw_challenge (s : State) : (settle s).hw.challenge = s.hw.challenge := by rw [(settle_kept s).hw]
@[simp] theorem settle_hw_outstanding (s : State) : (settle s).hw.outstanding = s.hw.outstanding := by rw [(settle_kept s).hw]
@[simp] theorem settle_hw_resp (s : State) : (settle s).hw.resp = s.hw.resp := by rw [(settle_kept s).hw]
@[simp] theorem settle_hw_lockAt (s : State) : (settle s).hw.lockAt = s.hw.lockAt := by rw [(settle_kept s).hw]
@[simp] theorem settle_hw_lastWrite (s : State) : (settle s).hw.lastWrite = s.hw.lastWrite := by rw [(settle_kept s).hw]
@[simp] theorem settle_hw_instkey (s : State) : (settle s).hw.instkey = s.hw.instkey := by rw [(settle_kept s).hw]
@[simp] theorem settle_hw_queue (s : State) : (settle s).hw.queue = s.hw.queue := by rw [(settle_kept s).hw]
@[simp] theorem settle_hw_last (s : State) : (settle s).hw.last = s.hw.last := by rw [(settle_kept s).hw]
@[simp] theorem settle_hw_lastTkt (s : State) : (settle s).hw.lastTkt = s.hw.lastTkt := by rw [(settle_kept s).hw]
@[simp] theorem settle_hw_lastEmu (s : State) : (settle s).hw.lastEmu = s.hw.lastEmu := by rw [(settle_kept s).hw]
@[simp] theorem settle_hw_wrbnd (s : State) : (settle s).hw.wrbnd = s.hw.wrbnd := by rw [(settle_kept s).hw]
@[simp] theorem settle_hw_crsel (s : State) : (settle s).hw.crsel = s.hw.crsel := by rw [(settle_kept s).hw]
@[simp] theorem settle_hw_regsel (s : State) : (settle s).hw.regsel = s.hw.regsel := by rw [(settle_kept s).hw]
@[simp] theorem settle_hw_nodesel (s : State) : (settle s).hw.nodesel = s.hw.nodesel := by rw [(settle_kept s).hw]
@[simp] theorem settle_hw_talsel (s : State) : (settle s).hw.talsel = s.hw.talsel := by rw [(settle_kept s).hw]
@[simp] theorem settle_hw_tpsel (s : State) : (settle s).hw.tpsel = s.hw.tpsel := by rw [(settle_kept s).hw]
@[simp] theorem settle_hw_logsel (s : State) : (settle s).hw.logsel = s.hw.logsel := by rw [(settle_kept s).hw]
@[simp] theorem settle_hw_trcsel (s : State) : (settle s).hw.trcsel = s.hw.trcsel := by rw [(settle_kept s).hw]
@[simp] theorem settle_hw_loopsel (s : State) : (settle s).hw.loopsel = s.hw.loopsel := by rw [(settle_kept s).hw]
@[simp] theorem settle_hw_coefsel (s : State) : (settle s).hw.coefsel = s.hw.coefsel := by rw [(settle_kept s).hw]
@[simp] theorem settle_hw_coefsh (s : State) : (settle s).hw.coefsh = s.hw.coefsh := by rw [(settle_kept s).hw]
@[simp] theorem settle_hw_snpsel (s : State) : (settle s).hw.snpsel = s.hw.snpsel := by rw [(settle_kept s).hw]
@[simp] theorem settle_hw_latch (s : State) : (settle s).hw.latch = s.hw.latch := by rw [(settle_kept s).hw]
@[simp] theorem settle_hw_rdData (s : State) : (settle s).hw.rdData = s.hw.rdData := by rw [(settle_kept s).hw]
@[simp] theorem settle_hw_imgState (s : State) : (settle s).hw.imgState = s.hw.imgState := by rw [(settle_kept s).hw]
@[simp] theorem settle_hw_imgReason (s : State) : (settle s).hw.imgReason = s.hw.imgReason := by rw [(settle_kept s).hw]
@[simp] theorem settle_hw_imgWords (s : State) : (settle s).hw.imgWords = s.hw.imgWords := by rw [(settle_kept s).hw]
@[simp] theorem settle_hw_imgOff (s : State) : (settle s).hw.imgOff = s.hw.imgOff := by rw [(settle_kept s).hw]
@[simp] theorem settle_hw_imgEnd (s : State) : (settle s).hw.imgEnd = s.hw.imgEnd := by rw [(settle_kept s).hw]
@[simp] theorem settle_hw_imgTarget (s : State) : (settle s).hw.imgTarget = s.hw.imgTarget := by rw [(settle_kept s).hw]
@[simp] theorem settle_hw_loglvl (s : State) : (settle s).hw.loglvl = s.hw.loglvl := by rw [(settle_kept s).hw]

@[simp] theorem settle_shim_st (s : State) : (settle s).shim.st = s.shim.st := by rw [(settle_kept s).shim]
@[simp] theorem settle_shim_iref (s : State) : (settle s).shim.iref = s.shim.iref := by rw [(settle_kept s).shim]
@[simp] theorem settle_shim_f (s : State) : (settle s).shim.f = s.shim.f := by rw [(settle_kept s).shim]
@[simp] theorem settle_shim_onset (s : State) : (settle s).shim.onset = s.shim.onset := by rw [(settle_kept s).shim]
@[simp] theorem settle_shim_tref (s : State) : (settle s).shim.tref = s.shim.tref := by rw [(settle_kept s).shim]
@[simp] theorem settle_shim_peers (s : State) : (settle s).shim.peers = s.shim.peers := by rw [(settle_kept s).shim]
@[simp] theorem settle_shim_updAt (s : State) : (settle s).shim.updAt = s.shim.updAt := by rw [(settle_kept s).shim]

@[simp] theorem settle_ports_hint (s : State) : (settle s).ports.hint = s.ports.hint := by rw [(settle_kept s).ports]
@[simp] theorem settle_ports_fence (s : State) : (settle s).ports.fence = s.ports.fence := by rw [(settle_kept s).ports]
@[simp] theorem settle_ports_page (s : State) : (settle s).ports.page = s.ports.page := by rw [(settle_kept s).ports]
@[simp] theorem settle_ports_cml (s : State) : (settle s).ports.cml = s.ports.cml := by rw [(settle_kept s).ports]
@[simp] theorem settle_ports_pmbOut (s : State) : (settle s).ports.pmbOut = s.ports.pmbOut := by rw [(settle_kept s).ports]
@[simp] theorem settle_ports_pmbRate (s : State) : (settle s).ports.pmbRate = s.ports.pmbRate := by rw [(settle_kept s).ports]
@[simp] theorem settle_ports_avs (s : State) : (settle s).ports.avs = s.ports.avs := by rw [(settle_kept s).ports]
@[simp] theorem settle_ports_avsErr (s : State) : (settle s).ports.avsErr = s.ports.avsErr := by rw [(settle_kept s).ports]
@[simp] theorem settle_ports_avsV (s : State) : (settle s).ports.avsV = s.ports.avsV := by rw [(settle_kept s).ports]
@[simp] theorem settle_ports_avsI (s : State) : (settle s).ports.avsI = s.ports.avsI := by rw [(settle_kept s).ports]
@[simp] theorem settle_ports_avsStep (s : State) : (settle s).ports.avsStep = s.ports.avsStep := by rw [(settle_kept s).ports]
@[simp] theorem settle_ports_avsAt (s : State) : (settle s).ports.avsAt = s.ports.avsAt := by rw [(settle_kept s).ports]
@[simp] theorem settle_ports_meanVin (s : State) : (settle s).ports.meanVin = s.ports.meanVin := by rw [(settle_kept s).ports]
@[simp] theorem settle_ports_meanV (s : State) : (settle s).ports.meanV = s.ports.meanV := by rw [(settle_kept s).ports]
@[simp] theorem settle_ports_meanI (s : State) : (settle s).ports.meanI = s.ports.meanI := by rw [(settle_kept s).ports]
@[simp] theorem settle_ports_energyW (s : State) : (settle s).ports.energyW = s.ports.energyW := by rw [(settle_kept s).ports]
@[simp] theorem settle_ports_trayAddr (s : State) : (settle s).ports.trayAddr = s.ports.trayAddr := by rw [(settle_kept s).ports]
@[simp] theorem settle_ports_trayVer (s : State) : (settle s).ports.trayVer = s.ports.trayVer := by rw [(settle_kept s).ports]
@[simp] theorem settle_ports_inlet (s : State) : (settle s).ports.inlet = s.ports.inlet := by rw [(settle_kept s).ports]
@[simp] theorem settle_ports_inletAt (s : State) : (settle s).ports.inletAt = s.ports.inletAt := by rw [(settle_kept s).ports]
@[simp] theorem settle_ports_trayOut (s : State) : (settle s).ports.trayOut = s.ports.trayOut := by rw [(settle_kept s).ports]
@[simp] theorem settle_ports_trayHeld (s : State) : (settle s).ports.trayHeld = s.ports.trayHeld := by rw [(settle_kept s).ports]
@[simp] theorem settle_ports_flowN (s : State) : (settle s).ports.flowN = s.ports.flowN := by rw [(settle_kept s).ports]
@[simp] theorem settle_ports_flowAt (s : State) : (settle s).ports.flowAt = s.ports.flowAt := by rw [(settle_kept s).ports]
@[simp] theorem settle_ports_dvt (s : State) : (settle s).ports.dvt = s.ports.dvt := by rw [(settle_kept s).ports]
@[simp] theorem settle_ports_slots (s : State) : (settle s).ports.slots = s.ports.slots := by rw [(settle_kept s).ports]
@[simp] theorem settle_ports_peerDroop (s : State) : (settle s).ports.peerDroop = s.ports.peerDroop := by rw [(settle_kept s).ports]
@[simp] theorem settle_ports_dslot (s : State) : (settle s).ports.dslot = s.ports.dslot := by rw [(settle_kept s).ports]
@[simp] theorem settle_ports_alertAt (s : State) : (settle s).ports.alertAt = s.ports.alertAt := by rw [(settle_kept s).ports]
@[simp] theorem settle_ports_seenAlert (s : State) : (settle s).ports.seenAlert = s.ports.seenAlert := by rw [(settle_kept s).ports]
@[simp] theorem settle_ports_seenOnset (s : State) : (settle s).ports.seenOnset = s.ports.seenOnset := by rw [(settle_kept s).ports]
@[simp] theorem settle_ports_presAt (s : State) : (settle s).ports.presAt = s.ports.presAt := by rw [(settle_kept s).ports]
@[simp] theorem settle_ports_fabUp (s : State) : (settle s).ports.fabUp = s.ports.fabUp := by rw [(settle_kept s).ports]
@[simp] theorem settle_ports_fabTx (s : State) : (settle s).ports.fabTx = s.ports.fabTx := by rw [(settle_kept s).ports]
@[simp] theorem settle_ports_ir (s : State) : (settle s).ports.ir = s.ports.ir := by rw [(settle_kept s).ports]
@[simp] theorem settle_ports_dbgOpen (s : State) : (settle s).ports.dbgOpen = s.ports.dbgOpen := by rw [(settle_kept s).ports]
@[simp] theorem settle_ports_dbgChal (s : State) : (settle s).ports.dbgChal = s.ports.dbgChal := by rw [(settle_kept s).ports]

@[simp] theorem settle_reg_model (s : State) (r : Nat) : ((settle s).reg r).model = (s.reg r).model := ((settle_kept s).reg r).1
@[simp] theorem settle_reg_modelAt (s : State) (r : Nat) : ((settle s).reg r).modelAt = (s.reg r).modelAt := ((settle_kept s).reg r).2.1
@[simp] theorem settle_reg_modelAtSet (s : State) (r : Nat) : ((settle s).reg r).modelAtSet = (s.reg r).modelAtSet := ((settle_kept s).reg r).2.2.1
@[simp] theorem settle_reg_atSet (s : State) (r : Nat) : ((settle s).reg r).atSet = (s.reg r).atSet := ((settle_kept s).reg r).2.2.2.1
@[simp] theorem settle_reg_tel (s : State) (r : Nat) : ((settle s).reg r).tel = (s.reg r).tel := ((settle_kept s).reg r).2.2.2.2.1
@[simp] theorem settle_reg_use (s : State) (r : Nat) : ((settle s).reg r).use = (s.reg r).use := ((settle_kept s).reg r).2.2.2.2.2.1
@[simp] theorem settle_reg_th (s : State) (r : Nat) : ((settle s).reg r).th = (s.reg r).th := ((settle_kept s).reg r).2.2.2.2.2.2.1
@[simp] theorem settle_reg_overcap (s : State) (r : Nat) : ((settle s).reg r).overcap = (s.reg r).overcap := ((settle_kept s).reg r).2.2.2.2.2.2.2.1
@[simp] theorem settle_reg_lastOver (s : State) (r : Nat) : ((settle s).reg r).lastOver = (s.reg r).lastOver := ((settle_kept s).reg r).2.2.2.2.2.2.2.2.1
@[simp] theorem settle_reg_clamped (s : State) (r : Nat) : ((settle s).reg r).clamped = (s.reg r).clamped := ((settle_kept s).reg r).2.2.2.2.2.2.2.2.2.1
@[simp] theorem settle_seq_st (s : State) (r : Nat) : ((settle s).reg r).seq.st = (s.reg r).seq.st := by
  rw [((settle_kept s).reg r).2.2.2.2.2.2.2.2.2.2.1]
@[simp] theorem settle_seq_target (s : State) (r : Nat) : ((settle s).reg r).seq.target = (s.reg r).seq.target := by
  rw [((settle_kept s).reg r).2.2.2.2.2.2.2.2.2.2.1]
@[simp] theorem settle_seq_stages (s : State) (r : Nat) : ((settle s).reg r).seq.stages = (s.reg r).seq.stages := by
  rw [((settle_kept s).reg r).2.2.2.2.2.2.2.2.2.2.1]
@[simp] theorem settle_seq_ret (s : State) (r : Nat) : ((settle s).reg r).seq.ret = (s.reg r).seq.ret := by
  rw [((settle_kept s).reg r).2.2.2.2.2.2.2.2.2.2.1]
@[simp] theorem settle_seq_prg (s : State) (r : Nat) : ((settle s).reg r).seq.prg = (s.reg r).seq.prg := by
  rw [((settle_kept s).reg r).2.2.2.2.2.2.2.2.2.2.1]
@[simp] theorem settle_seq_prgDue (s : State) (r : Nat) : ((settle s).reg r).seq.prgDue = (s.reg r).seq.prgDue := by
  rw [((settle_kept s).reg r).2.2.2.2.2.2.2.2.2.2.1]
@[simp] theorem settle_seq_agone (s : State) (r : Nat) : ((settle s).reg r).seq.agone = (s.reg r).seq.agone := by
  rw [((settle_kept s).reg r).2.2.2.2.2.2.2.2.2.2.1]
@[simp] theorem settle_seq_agoneAt (s : State) (r : Nat) : ((settle s).reg r).seq.agoneAt = (s.reg r).seq.agoneAt := by
  rw [((settle_kept s).reg r).2.2.2.2.2.2.2.2.2.2.1]
@[simp] theorem settle_seq_purged (s : State) (r : Nat) : ((settle s).reg r).seq.purged = (s.reg r).seq.purged := by
  rw [((settle_kept s).reg r).2.2.2.2.2.2.2.2.2.2.1]
@[simp] theorem settle_seq_holding (s : State) (r : Nat) : ((settle s).reg r).seq.holding = (s.reg r).seq.holding := by
  rw [((settle_kept s).reg r).2.2.2.2.2.2.2.2.2.2.1]
@[simp] theorem settle_seq_forced (s : State) (r : Nat) : ((settle s).reg r).seq.forced = (s.reg r).seq.forced := by
  rw [((settle_kept s).reg r).2.2.2.2.2.2.2.2.2.2.1]
@[simp] theorem settle_seq_overdue (s : State) (r : Nat) : ((settle s).reg r).seq.overdue = (s.reg r).seq.overdue := by
  rw [((settle_kept s).reg r).2.2.2.2.2.2.2.2.2.2.1]
@[simp] theorem settle_seq_startfail (s : State) (r : Nat) : ((settle s).reg r).seq.startfail = (s.reg r).seq.startfail := by
  rw [((settle_kept s).reg r).2.2.2.2.2.2.2.2.2.2.1]
@[simp] theorem settle_seq_purgeslow (s : State) (r : Nat) : ((settle s).reg r).seq.purgeslow = (s.reg r).seq.purgeslow := by
  rw [((settle_kept s).reg r).2.2.2.2.2.2.2.2.2.2.1]
@[simp] theorem settle_seq_interval (s : State) (r : Nat) : ((settle s).reg r).seq.interval = (s.reg r).seq.interval := by
  rw [((settle_kept s).reg r).2.2.2.2.2.2.2.2.2.2.1]
@[simp] theorem settle_seq_nextAt (s : State) (r : Nat) : ((settle s).reg r).seq.nextAt = (s.reg r).seq.nextAt := by
  rw [((settle_kept s).reg r).2.2.2.2.2.2.2.2.2.2.1]
@[simp] theorem settle_seq_heldAt (s : State) (r : Nat) : ((settle s).reg r).seq.heldAt = (s.reg r).seq.heldAt := by
  rw [((settle_kept s).reg r).2.2.2.2.2.2.2.2.2.2.1]
@[simp] theorem settle_seq_holdSum (s : State) (r : Nat) : ((settle s).reg r).seq.holdSum = (s.reg r).seq.holdSum := by
  rw [((settle_kept s).reg r).2.2.2.2.2.2.2.2.2.2.1]
@[simp] theorem settle_seq_at_ (s : State) (r : Nat) : ((settle s).reg r).seq.at_ = (s.reg r).seq.at_ := by
  rw [((settle_kept s).reg r).2.2.2.2.2.2.2.2.2.2.1]
@[simp] theorem settle_seq_tag (s : State) (r : Nat) : ((settle s).reg r).seq.tag = (s.reg r).seq.tag := by
  rw [((settle_kept s).reg r).2.2.2.2.2.2.2.2.2.2.1]
@[simp] theorem settle_seq_lastBelow (s : State) (r : Nat) : ((settle s).reg r).seq.lastBelow = (s.reg r).seq.lastBelow := by
  rw [((settle_kept s).reg r).2.2.2.2.2.2.2.2.2.2.1]
@[simp] theorem settle_seq_failSeen (s : State) (r : Nat) : ((settle s).reg r).seq.failSeen = (s.reg r).seq.failSeen := by
  rw [((settle_kept s).reg r).2.2.2.2.2.2.2.2.2.2.1]
@[simp] theorem settle_krf_kLoop (s : State) (r : Nat) : ((settle s).reg r).krf.kLoop = (s.reg r).krf.kLoop := by
  rw [((settle_kept s).reg r).2.2.2.2.2.2.2.2.2.2.2]
@[simp] theorem settle_krf_sLoop (s : State) (r : Nat) : ((settle s).reg r).krf.sLoop = (s.reg r).krf.sLoop := by
  rw [((settle_kept s).reg r).2.2.2.2.2.2.2.2.2.2.2]
@[simp] theorem settle_krf_eKerfed (s : State) (r : Nat) : ((settle s).reg r).krf.eKerfed = (s.reg r).krf.eKerfed := by
  rw [((settle_kept s).reg r).2.2.2.2.2.2.2.2.2.2.2]
@[simp] theorem settle_krf_eCycles (s : State) (r : Nat) : ((settle s).reg r).krf.eCycles = (s.reg r).krf.eCycles := by
  rw [((settle_kept s).reg r).2.2.2.2.2.2.2.2.2.2.2]
@[simp] theorem settle_krf_eService (s : State) (r : Nat) : ((settle s).reg r).krf.eService = (s.reg r).krf.eService := by
  rw [((settle_kept s).reg r).2.2.2.2.2.2.2.2.2.2.2]
@[simp] theorem settle_krf_eCtx (s : State) (r : Nat) : ((settle s).reg r).krf.eCtx = (s.reg r).krf.eCtx := by
  rw [((settle_kept s).reg r).2.2.2.2.2.2.2.2.2.2.2]
@[simp] theorem settle_krf_eAll60 (s : State) (r : Nat) : ((settle s).reg r).krf.eAll60 = (s.reg r).krf.eAll60 := by
  rw [((settle_kept s).reg r).2.2.2.2.2.2.2.2.2.2.2]
@[simp] theorem settle_krf_run60 (s : State) (r : Nat) : ((settle s).reg r).krf.run60 = (s.reg r).krf.run60 := by
  rw [((settle_kept s).reg r).2.2.2.2.2.2.2.2.2.2.2]
@[simp] theorem settle_krf_win (s : State) (r : Nat) : ((settle s).reg r).krf.win = (s.reg r).krf.win := by
  rw [((settle_kept s).reg r).2.2.2.2.2.2.2.2.2.2.2]
@[simp] theorem settle_krf_winAt (s : State) (r : Nat) : ((settle s).reg r).krf.winAt = (s.reg r).krf.winAt := by
  rw [((settle_kept s).reg r).2.2.2.2.2.2.2.2.2.2.2]
@[simp] theorem settle_krf_annAt (s : State) (r : Nat) : ((settle s).reg r).krf.annAt = (s.reg r).krf.annAt := by
  rw [((settle_kept s).reg r).2.2.2.2.2.2.2.2.2.2.2]
@[simp] theorem settle_krf_slack (s : State) (r : Nat) : ((settle s).reg r).krf.slack = (s.reg r).krf.slack := by
  rw [((settle_kept s).reg r).2.2.2.2.2.2.2.2.2.2.2]
@[simp] theorem settle_krf_slackAt (s : State) (r : Nat) : ((settle s).reg r).krf.slackAt = (s.reg r).krf.slackAt := by
  rw [((settle_kept s).reg r).2.2.2.2.2.2.2.2.2.2.2]
@[simp] theorem settle_krf_staleEst (s : State) (r : Nat) : ((settle s).reg r).krf.staleEst = (s.reg r).krf.staleEst := by
  rw [((settle_kept s).reg r).2.2.2.2.2.2.2.2.2.2.2]

/-! ### The accessors of a settled state -/

@[simp] theorem settle_node (s : State) (n : Nat) : (settle s).node n = s.node n := by simp [State.node]
@[simp] theorem settle_pan (s : State) (n : Nat) : (settle s).pan n = s.pan n := by simp [State.pan]
@[simp] theorem settle_dir (s : State) (l : LinkId) (d : Dir) : (settle s).dir l d = s.dir l d := by
  cases d <;> simp [State.dir, State.link]
@[simp] theorem settle_phase (s : State) (n : Nat) : (settle s).phase n = s.phase n := by simp [State.phase]
@[simp] theorem settle_rail (s : State) (x : Rail) : (settle s).rail x = s.rail x := by cases x <;> simp [State.rail]
@[simp] theorem settle_nflt (s : State) (n : Nat) : (settle s).nflt n = s.nflt n := by simp [State.nflt]
@[simp] theorem settle_tpeer (s : State) (p : Nat) : (settle s).tpeer p = s.tpeer p := by simp [State.tpeer]
@[simp] theorem settle_hsrc (s : State) (x : Nat) : (settle s).hsrc x = s.hsrc x := by simp [State.hsrc]
@[simp] theorem settle_dvt (s : State) (p : Nat) : (settle s).dvt p = s.dvt p := by simp [State.dvt]
@[simp] theorem settle_crec (s : State) (t : Nat) : (settle s).crec t = s.crec t := by simp [State.crec]
@[simp] theorem settle_lane (s : State) (i : Nat) : (settle s).lane i = s.lane i := by simp [State.lane]
@[simp] theorem settle_ldyn (s : State) (l : Nat) : (settle s).ldyn l = s.ldyn l := by simp [State.ldyn]
@[simp] theorem settle_lent (s : State) (l : Nat) : (settle s).lent l = s.lent l := by simp [State.lent]

/-- A cause that stands before `settle` stands after it. -/
theorem settle_intcause (s : State) (b : Nat) (h : s.hw.intcause.getLsbD b = true) :
    (settle s).hw.intcause.getLsbD b = true := (settle_kept s).causes b h

end Sys2Proof.Machine
end

