-- ==== Sys2Proof/Laws/Frame.lean ====
section
/-! SUPPORT. Frames: what the named updates and the shared operations of the meanings may change. A meaning's frame follows
by `Only.trans` over the operations it goes through, and `Only.settle` at its end. -/

namespace Sys2Proof.Machine

theorem Part.same_refl (s : State) (p : Part) : p.same s s := by
  cases p <;> first | rfl | exact ⟨rfl, rfl⟩ | exact fun _ => Region.kept_refl _ | exact ⟨rfl, fun _ h => h⟩

theorem Part.same_trans {s t u : State} {p : Part} (h : p.same s t) (g : p.same t u) : p.same s u := by
  cases p <;> simp only [Part.same] at *
  case regs => exact fun r => Region.kept_trans (h r) (g r)
  case shim => rw [h] at g; exact g
  case flt => rw [h] at g; exact g
  case hw => exact ⟨by have a := g.1; rw [h.1] at a; exact a, fun b x => g.2 b (h.2 b x)⟩
  case ports => rw [h] at g; exact g
  case epoch => exact ⟨g.1.trans h.1, g.2.trans h.2⟩
  all_goals exact g.trans h

theorem Only.refl (ps : List Part) (s : State) : Only ps s s := ⟨rfl, fun p _ => Part.same_refl s p⟩

theorem Only.trans {ps : List Part} {s t u : State} (h : Only ps s t) (g : Only ps t u) : Only ps s u :=
  ⟨g.1.trans h.1, fun p hp => Part.same_trans (h.2 p hp) (g.2 p hp)⟩

theorem Only.mono {ps qs : List Part} {s t : State} (h : Only ps s t) (hs : ps ⊆ qs) : Only qs s t :=
  ⟨h.1, fun p hp => h.2 p fun hq => hp (hs hq)⟩

/-- One more operation at the end of a chain. -/
theorem Only.then {ps qs : List Part} {s t u : State} (h : Only ps s t) (g : Only qs t u) (hs : qs ⊆ ps) : Only ps s u :=
  h.trans (g.mono hs)

theorem Kept.only {s t : State} (h : Kept s t) : Only [] s t := by
  refine ⟨h.pending, fun p _ => ?_⟩
  cases p
  case now => exact h.now
  case epoch => exact ⟨h.epoch, h.epochAt⟩
  case free => exact h.free
  case nodes => exact h.nodes
  case links => exact h.links
  case pans => exact h.pans
  case eng => exact h.eng
  case com => exact h.com
  case safe => exact h.safe
  case views => exact h.views
  case regs => exact h.reg
  case conv => exact h.conv
  case stg => exact h.stg
  case tel => exact h.tel
  case bud => exact h.bud
  case shim => exact h.shim
  case led => exact h.led
  case tide => exact h.tide
  case flt => exact h.flt
  case hw => exact ⟨h.hw, h.causes⟩
  case log => exact h.log
  case store => exact h.store
  case sys => exact h.sys
  case ports => exact h.ports

/-- Settling the outputs changes none of the parts. -/
theorem Only.settle {ps : List Part} {s t : State} (h : Only ps s t) : Only ps s (settle t) :=
  h.trans ((settle_kept t).only.mono (List.nil_subset _))

/-- A meaning that ends in `done` completes with what holds before the outputs settle. -/
theorem Does.of_done {c : Instr} {s u : State} {ps : List Part} {P : State → Prop} (h : exec c s = done u)
    (hp : P (settle u)) (ho : Only ps s u) : Does c s ps P := ⟨Machine.settle u, h, hp, ho.settle⟩

/-- What a completed command does may be weakened. -/
theorem Does.imp {c : Instr} {s : State} {ps : List Part} {P Q : State → Prop} (h : Does c s ps P) (g : ∀ t, P t → Q t) :
    Does c s ps Q :=
  let ⟨t, e, p, o⟩ := h
  ⟨t, e, g t p, o⟩

theorem Only.foldl {α : Type} {ps : List Part} (f : State → α → State) (h : ∀ s a, Only ps s (f s a)) :
    ∀ (l : List α) (s : State), Only ps s (l.foldl f s)
  | [], s => Only.refl ps s
  | a :: l, s => (h s a).trans (Only.foldl f h l (f s a))

theorem Only.ite {ps : List Part} {s t u : State} (c : Prop) [Decidable c] (h : c → Only ps s t) (g : ¬ c → Only ps s u) :
    Only ps s (if c then t else u) := by
  split
  · exact h ‹_›
  · exact g ‹_›


/-! ### What a frame keeps -/

section
variable {ps : List Part} {s t : State} (h : Only ps s t)
include h
theorem Only.now (hp : Part.now ∉ ps := by simp) : t.now = s.now := (h.2 _ hp)
theorem Only.epoch (hp : Part.epoch ∉ ps := by simp) : t.epoch = s.epoch := (h.2 _ hp).1
theorem Only.epochAt (hp : Part.epoch ∉ ps := by simp) : t.epochAt = s.epochAt := (h.2 _ hp).2
theorem Only.free (hp : Part.free ∉ ps := by simp) : t.free = s.free := (h.2 _ hp)
theorem Only.nodes (hp : Part.nodes ∉ ps := by simp) : t.nodes = s.nodes := (h.2 _ hp)
theorem Only.links (hp : Part.links ∉ ps := by simp) : t.links = s.links := (h.2 _ hp)
theorem Only.pans (hp : Part.pans ∉ ps := by simp) : t.pans = s.pans := (h.2 _ hp)
theorem Only.eng (hp : Part.eng ∉ ps := by simp) : t.eng = s.eng := (h.2 _ hp)
theorem Only.com (hp : Part.com ∉ ps := by simp) : t.com = s.com := (h.2 _ hp)
theorem Only.safe (hp : Part.safe ∉ ps := by simp) : t.safe = s.safe := (h.2 _ hp)
theorem Only.views (hp : Part.views ∉ ps := by simp) : t.views = s.views := (h.2 _ hp)
theorem Only.conv (hp : Part.conv ∉ ps := by simp) : t.conv = s.conv := (h.2 _ hp)
theorem Only.stg (hp : Part.stg ∉ ps := by simp) : t.stg = s.stg := (h.2 _ hp)
theorem Only.tel (hp : Part.tel ∉ ps := by simp) : t.tel = s.tel := (h.2 _ hp)
theorem Only.bud (hp : Part.bud ∉ ps := by simp) : t.bud = s.bud := (h.2 _ hp)
theorem Only.led (hp : Part.led ∉ ps := by simp) : t.led = s.led := (h.2 _ hp)
theorem Only.tide (hp : Part.tide ∉ ps := by simp) : t.tide = s.tide := (h.2 _ hp)
theorem Only.log (hp : Part.log ∉ ps := by simp) : t.log = s.log := (h.2 _ hp)
theorem Only.store (hp : Part.store ∉ ps := by simp) : t.store = s.store := (h.2 _ hp)
theorem Only.sys (hp : Part.sys ∉ ps := by simp) : t.sys = s.sys := (h.2 _ hp)
theorem Only.node (n : Nat) (hp : Part.nodes ∉ ps := by simp) : t.node n = s.node n := by
  have e := h.nodes hp
  simp only [State.node, e]
theorem Only.isPan (n : Nat) (hp : Part.nodes ∉ ps := by simp) : t.isPan n = s.isPan n := by
  have e := h.nodes hp
  simp only [State.isPan, State.node, e]
theorem Only.pan (n : Nat) (hp : Part.pans ∉ ps := by simp) : t.pan n = s.pan n := by
  have e := h.pans hp
  simp only [State.pan, e]
theorem Only.link (l : LinkId) (hp : Part.links ∉ ps := by simp) : t.link l = s.link l := by
  have e := h.links hp
  simp only [State.link, e]
theorem Only.phase (n : Nat) (hp : Part.conv ∉ ps := by simp) : t.phase n = s.phase n := by
  have e := h.conv hp
  simp only [State.phase, e]
theorem Only.rail (x : Rail) (hp : Part.conv ∉ ps := by simp) : t.rail x = s.rail x := by
  have e := h.conv hp
  cases x <;> simp only [State.rail, e]
theorem Only.crec (n : Nat) (hp : Part.stg ∉ ps := by simp) : t.crec n = s.crec n := by
  have e := h.stg hp
  simp only [State.crec, e]
theorem Only.lane (n : Nat) (hp : Part.eng ∉ ps := by simp) : t.lane n = s.lane n := by
  have e := h.eng hp
  simp only [State.lane, e]
theorem Only.ldyn (n : Nat) (hp : Part.eng ∉ ps := by simp) : t.ldyn n = s.ldyn n := by
  have e := h.eng hp
  simp only [State.ldyn, e]
theorem Only.lent (n : Nat) (hp : Part.eng ∉ ps := by simp) : t.lent n = s.lent n := by
  have e := h.eng hp
  simp only [State.lent, e]
theorem Only.tpeer (n : Nat) (hp : Part.tide ∉ ps := by simp) : t.tpeer n = s.tpeer n := by
  have e := h.tide hp
  simp only [State.tpeer, e]
theorem Only.rimg (n : Nat) (hp : Part.sys ∉ ps := by simp) : t.rimg n = s.rimg n := by
  have e := h.sys hp
  simp only [State.rimg, e]
theorem Only.hasReg (n : Nat) (hp : Part.sys ∉ ps := by simp) : t.hasReg n = s.hasReg n := by
  have e := h.sys hp
  simp only [State.hasReg, State.rimg, e]
theorem Only.dir (l : LinkId) (d : Dir) (hp : Part.links ∉ ps := by simp) : t.dir l d = s.dir l d := by
  have e := h.links hp
  cases d <;> simp only [State.dir, State.link, e]
theorem Only.regions (hp : Part.sys ∉ ps := by simp) : t.regions = s.regions := by
  have e := h.sys hp
  simp only [State.regions, e]
end

variable (s : State)

theorem only_reach (t : Nat) : Only [.now] s (s.reach t) :=
  ⟨rfl, fun p hp => by
    cases p <;> first | exact absurd (by decide) hp | rfl | exact ⟨rfl, rfl⟩ | exact fun _ => Region.kept_refl _ | exact ⟨rfl, fun _ h => h⟩⟩
theorem only_draw  : Only [.free] s (s.draw) :=
  ⟨rfl, fun p hp => by
    cases p <;> first | exact absurd (by decide) hp | rfl | exact ⟨rfl, rfl⟩ | exact fun _ => Region.kept_refl _ | exact ⟨rfl, fun _ h => h⟩⟩
theorem only_updNode (n : Nat) (f : Node → Node) : Only [.nodes] s (s.updNode n f) :=
  ⟨rfl, fun p hp => by
    cases p <;> first | exact absurd (by decide) hp | rfl | exact ⟨rfl, rfl⟩ | exact fun _ => Region.kept_refl _ | exact ⟨rfl, fun _ h => h⟩⟩
theorem only_updPan (n : Nat) (f : Pan → Pan) : Only [.pans] s (s.updPan n f) :=
  ⟨rfl, fun p hp => by
    cases p <;> first | exact absurd (by decide) hp | rfl | exact ⟨rfl, rfl⟩ | exact fun _ => Region.kept_refl _ | exact ⟨rfl, fun _ h => h⟩⟩
theorem only_updDir (l : LinkId) (d : Dir) (f : LinkDir → LinkDir) : Only [.links] s (s.updDir l d f) :=
  ⟨rfl, fun p hp => by
    cases p <;> first | exact absurd (by decide) hp | rfl | exact ⟨rfl, rfl⟩ | exact fun _ => Region.kept_refl _ | exact ⟨rfl, fun _ h => h⟩⟩
theorem only_updReg (r : Nat) (f : Region → Region) : Only [.regs] s (s.updReg r f) :=
  ⟨rfl, fun p hp => by
    cases p <;> first | exact absurd (by decide) hp | rfl | exact ⟨rfl, rfl⟩ | exact fun _ => Region.kept_refl _ | exact ⟨rfl, fun _ h => h⟩⟩
theorem only_updConv (f : ConvDyn → ConvDyn) : Only [.conv] s (s.updConv f) :=
  ⟨rfl, fun p hp => by
    cases p <;> first | exact absurd (by decide) hp | rfl | exact ⟨rfl, rfl⟩ | exact fun _ => Region.kept_refl _ | exact ⟨rfl, fun _ h => h⟩⟩
theorem only_updFlt (f : Faults → Faults) : Only [.flt] s (s.updFlt f) :=
  ⟨rfl, fun p hp => by
    cases p <;> first | exact absurd (by decide) hp | rfl | exact ⟨rfl, rfl⟩ | exact fun _ => Region.kept_refl _ | exact ⟨rfl, fun _ h => h⟩⟩
theorem only_updHw (f : HostWin → HostWin) : Only [.hw] s (s.updHw f) :=
  ⟨rfl, fun p hp => by
    cases p <;> first | exact absurd (by decide) hp | rfl | exact ⟨rfl, rfl⟩ | exact fun _ => Region.kept_refl _ | exact ⟨rfl, fun _ h => h⟩⟩
theorem only_updStg (f : Staging → Staging) : Only [.stg] s (s.updStg f) :=
  ⟨rfl, fun p hp => by
    cases p <;> first | exact absurd (by decide) hp | rfl | exact ⟨rfl, rfl⟩ | exact fun _ => Region.kept_refl _ | exact ⟨rfl, fun _ h => h⟩⟩
theorem only_updSys (f : Sys → Sys) : Only [.sys] s (s.updSys f) :=
  ⟨rfl, fun p hp => by
    cases p <;> first | exact absurd (by decide) hp | rfl | exact ⟨rfl, rfl⟩ | exact fun _ => Region.kept_refl _ | exact ⟨rfl, fun _ h => h⟩⟩
theorem only_updPorts (f : Ports → Ports) : Only [.ports] s (s.updPorts f) :=
  ⟨rfl, fun p hp => by
    cases p <;> first | exact absurd (by decide) hp | rfl | exact ⟨rfl, rfl⟩ | exact fun _ => Region.kept_refl _ | exact ⟨rfl, fun _ h => h⟩⟩
theorem only_updEng (f : Engine → Engine) : Only [.eng] s (s.updEng f) :=
  ⟨rfl, fun p hp => by
    cases p <;> first | exact absurd (by decide) hp | rfl | exact ⟨rfl, rfl⟩ | exact fun _ => Region.kept_refl _ | exact ⟨rfl, fun _ h => h⟩⟩
theorem only_updTide (f : Tide → Tide) : Only [.tide] s (s.updTide f) :=
  ⟨rfl, fun p hp => by
    cases p <;> first | exact absurd (by decide) hp | rfl | exact ⟨rfl, rfl⟩ | exact fun _ => Region.kept_refl _ | exact ⟨rfl, fun _ h => h⟩⟩
theorem only_updLed (f : Ledger → Ledger) : Only [.led] s (s.updLed f) :=
  ⟨rfl, fun p hp => by
    cases p <;> first | exact absurd (by decide) hp | rfl | exact ⟨rfl, rfl⟩ | exact fun _ => Region.kept_refl _ | exact ⟨rfl, fun _ h => h⟩⟩
theorem only_updShim (f : ShimSeq → ShimSeq) : Only [.shim] s (s.updShim f) :=
  ⟨rfl, fun p hp => by
    cases p <;> first | exact absurd (by decide) hp | rfl | exact ⟨rfl, rfl⟩ | exact fun _ => Region.kept_refl _ | exact ⟨rfl, fun _ h => h⟩⟩
theorem only_updBud (f : Budget → Budget) : Only [.bud] s (s.updBud f) :=
  ⟨rfl, fun p hp => by
    cases p <;> first | exact absurd (by decide) hp | rfl | exact ⟨rfl, rfl⟩ | exact fun _ => Region.kept_refl _ | exact ⟨rfl, fun _ h => h⟩⟩
theorem only_updDie (f : DieTel → DieTel) : Only [.tel] s (s.updDie f) :=
  ⟨rfl, fun p hp => by
    cases p <;> first | exact absurd (by decide) hp | rfl | exact ⟨rfl, rfl⟩ | exact fun _ => Region.kept_refl _ | exact ⟨rfl, fun _ h => h⟩⟩
theorem only_updSeq (r : Nat) (f : SeqDyn → SeqDyn) : Only [.regs] s (s.updSeq r f) :=
  ⟨rfl, fun p hp => by
    cases p <;> first | exact absurd (by decide) hp | rfl | exact ⟨rfl, rfl⟩ | exact fun _ => Region.kept_refl _ | exact ⟨rfl, fun _ h => h⟩⟩
theorem only_updKrf (r : Nat) (f : KerfDyn → KerfDyn) : Only [.regs] s (s.updKrf r f) :=
  ⟨rfl, fun p hp => by
    cases p <;> first | exact absurd (by decide) hp | rfl | exact ⟨rfl, rfl⟩ | exact fun _ => Region.kept_refl _ | exact ⟨rfl, fun _ h => h⟩⟩
theorem only_updTel (r : Nat) (f : TelDyn → TelDyn) : Only [.regs] s (s.updTel r f) :=
  ⟨rfl, fun p hp => by
    cases p <;> first | exact absurd (by decide) hp | rfl | exact ⟨rfl, rfl⟩ | exact fun _ => Region.kept_refl _ | exact ⟨rfl, fun _ h => h⟩⟩
theorem only_updTh (r : Nat) (f : ThDyn → ThDyn) : Only [.regs] s (s.updTh r f) :=
  ⟨rfl, fun p hp => by
    cases p <;> first | exact absurd (by decide) hp | rfl | exact ⟨rfl, rfl⟩ | exact fun _ => Region.kept_refl _ | exact ⟨rfl, fun _ h => h⟩⟩
theorem only_updUse (r : Nat) (f : UseDyn → UseDyn) : Only [.regs] s (s.updUse r f) :=
  ⟨rfl, fun p hp => by
    cases p <;> first | exact absurd (by decide) hp | rfl | exact ⟨rfl, rfl⟩ | exact fun _ => Region.kept_refl _ | exact ⟨rfl, fun _ h => h⟩⟩
theorem only_updPhase (n : Nat) (f : Phase → Phase) : Only [.conv] s (s.updPhase n f) :=
  ⟨rfl, fun p hp => by
    cases p <;> first | exact absurd (by decide) hp | rfl | exact ⟨rfl, rfl⟩ | exact fun _ => Region.kept_refl _ | exact ⟨rfl, fun _ h => h⟩⟩
theorem only_updRail (x : Rail) (f : RailDyn → RailDyn) : Only [.conv] s (s.updRail x f) :=
  ⟨rfl, fun p hp => by
    cases p <;> first | exact absurd (by decide) hp | rfl | exact ⟨rfl, rfl⟩ | exact fun _ => Region.kept_refl _ | exact ⟨rfl, fun _ h => h⟩⟩
theorem only_updNflt (n : Nat) (f : NodeFault → NodeFault) : Only [.flt] s (s.updNflt n f) :=
  ⟨rfl, fun p hp => by
    cases p <;> first | exact absurd (by decide) hp | rfl | exact ⟨rfl, rfl⟩ | exact fun _ => Region.kept_refl _ | exact ⟨rfl, fun _ h => h⟩⟩
theorem only_updTPeer (p : Nat) (f : TPeer → TPeer) : Only [.tide] s (s.updTPeer p f) :=
  ⟨rfl, fun p hp => by
    cases p <;> first | exact absurd (by decide) hp | rfl | exact ⟨rfl, rfl⟩ | exact fun _ => Region.kept_refl _ | exact ⟨rfl, fun _ h => h⟩⟩
theorem only_updHsrc (x : Nat) (f : HintSrc → HintSrc) : Only [.ports] s (s.updHsrc x f) :=
  ⟨rfl, fun p hp => by
    cases p <;> first | exact absurd (by decide) hp | rfl | exact ⟨rfl, rfl⟩ | exact fun _ => Region.kept_refl _ | exact ⟨rfl, fun _ h => h⟩⟩
theorem only_updDvt (p : Nat) (f : Dvt → Dvt) : Only [.ports] s (s.updDvt p f) :=
  ⟨rfl, fun p hp => by
    cases p <;> first | exact absurd (by decide) hp | rfl | exact ⟨rfl, rfl⟩ | exact fun _ => Region.kept_refl _ | exact ⟨rfl, fun _ h => h⟩⟩
theorem only_updLane (i : Nat) (f : Lane → Lane) : Only [.eng] s (s.updLane i f) :=
  ⟨rfl, fun p hp => by
    cases p <;> first | exact absurd (by decide) hp | rfl | exact ⟨rfl, rfl⟩ | exact fun _ => Region.kept_refl _ | exact ⟨rfl, fun _ h => h⟩⟩
theorem only_updRun (i : Nat) (f : Run → Run) : Only [.eng] s (s.updRun i f) :=
  ⟨rfl, fun p hp => by
    cases p <;> first | exact absurd (by decide) hp | rfl | exact ⟨rfl, rfl⟩ | exact fun _ => Region.kept_refl _ | exact ⟨rfl, fun _ h => h⟩⟩
theorem only_updLdyn (l : Nat) (f : LoopDyn → LoopDyn) : Only [.eng] s (s.updLdyn l f) :=
  ⟨rfl, fun p hp => by
    cases p <;> first | exact absurd (by decide) hp | rfl | exact ⟨rfl, rfl⟩ | exact fun _ => Region.kept_refl _ | exact ⟨rfl, fun _ h => h⟩⟩
theorem only_tally (id ix bin n : Nat) : Only [.flt] s (s.tally id ix bin n) :=
  ⟨rfl, fun p hp => by
    cases p <;> first | exact absurd (by decide) hp | rfl | exact ⟨rfl, rfl⟩ | exact fun _ => Region.kept_refl _ | exact ⟨rfl, fun _ h => h⟩⟩
theorem only_sluiceFault  : Only [.flt] s (s.sluiceFault) :=
  ⟨rfl, fun p hp => by
    cases p <;> first | exact absurd (by decide) hp | rfl | exact ⟨rfl, rfl⟩ | exact fun _ => Region.kept_refl _ | exact ⟨rfl, fun _ h => h⟩⟩
theorem only_fenceMsg (w : Word) : Only [.ports] s (s.fenceMsg w) :=
  ⟨rfl, fun p hp => by
    cases p <;> first | exact absurd (by decide) hp | rfl | exact ⟨rfl, rfl⟩ | exact fun _ => Region.kept_refl _ | exact ⟨rfl, fun _ h => h⟩⟩

/-- A raised cause leaves every part the same: causes follow from the state. -/
theorem only_cause (b : Nat) : Only [] s (s.cause b) := (Kept.cause s b).only
theorem only_updRec (t : Option Nat) (f : CRec → CRec) : Only [.stg] s (s.updRec t f) := by
  unfold State.updRec
  split
  · exact Only.refl _ _
  · dsimp only; split
    · exact only_updStg s _
    · exact Only.refl _ _

/-! ### The tree -/

theorem only_sendOn (l : LinkId) (d : Dir) (p : Packet) : Only [.links] s (s.sendOn l d p) := only_updDir s _ _ _
theorem only_sendUp (n : Nat) (p : Packet) : Only [.links] s (s.sendUp n p) := only_updDir s _ _ _
theorem only_sendPort (n k : Nat) (p : Packet) : Only [.links] s (s.sendPort n k p) := by
  unfold State.sendPort; split
  · split
    · exact only_updDir s _ _ _
    · exact only_sendOn s _ _ _
  · exact Only.refl _ _
theorem only_toAll (n : Nat) (p : Packet) : Only [.links] s (s.toAll n p) := Only.foldl _ (fun s _ => only_sendPort s _ _ _) _ s
theorem only_routeDown (n : Nat) (p : Packet) : Only [.links] s (s.routeDown n p) := by
  unfold State.routeDown; split
  · exact Only.foldl _ (fun s _ => only_sendPort s _ _ _) _ s
  · split
    · exact only_sendPort s _ _ _
    · exact Only.refl _ _
theorem only_hubSend (p : Packet) : Only [.links] s (s.hubSend p) := only_routeDown s _ _
theorem only_hubAll (p : Packet) : Only [.links] s (s.hubAll p) :=
  (only_toAll s _ _).trans (Only.foldl _ (fun s _ => only_routeDown s _ _) _ _)
theorem only_sendEvent (n : Nat) (c : Byte) (d : Word) : Only [.links] s (s.sendEvent n c d) := only_sendUp s _ _
theorem only_takeDown (n : Nat) (p : Packet) : Only [.nodes, .links] s (s.takeDown n p) :=
  ((only_updDir s _ _ _).mono (by simp)).then (only_updNode _ n _) (by simp)
theorem only_takeUp (n : Nat) (p : Packet) : Only [.links] s (s.takeUp n p) := only_updDir s _ _ _
theorem only_takeInto (n : Nat) (p : Packet) : Only [.links] s (s.takeInto n p) := by
  unfold State.takeInto; split
  · exact only_updDir s _ _ _
  · exact Only.refl _ _
theorem only_onward (n : Nat) (p : Packet) : Only [.links] s (s.onward n p) := by
  unfold State.onward; split
  · exact Only.refl _ _
  · split
    · exact only_sendPort s _ _ _
    · exact only_sendEvent s _ _ _

/-! ### Pans -/

theorem only_panEvent (n c : Nat) (d : Word) : Only [.links, .pans] s (s.panEvent n c d) := by
  unfold State.panEvent
  dsimp only
  split
  · exact Only.refl _ _
  · exact ((only_updPan s n _).mono (by simp)).then (only_sendEvent _ n _ _) (by simp)
theorem only_noteClamp (n : Nat) : Only [.links, .pans] s (s.noteClamp n) := by
  unfold State.noteClamp
  dsimp only
  split
  · exact ((only_updPan s n _).mono (by simp)).then (only_panEvent _ n _ _) (by simp)
  · exact Only.refl _ _
theorem only_enterHold (n : Nat) : Only [.links, .pans] s (s.enterHold n) := by
  unfold State.enterHold
  dsimp only
  split
  · exact ((only_updPan s n _).mono (by simp)).then (only_panEvent _ n _ _) (by simp)
  · exact Only.refl _ _
theorem only_noteWrite (n : Nat) : Only [.links, .pans] s (s.noteWrite n) := by
  unfold State.noteWrite
  dsimp only
  split
  · exact (((only_updPan s n _).mono (by simp)).then (only_updPan _ n _) (by simp)).then (only_panEvent _ n _ _) (by simp)
  · exact (only_updPan s n _).mono (by simp)
theorem only_fallback (n : Nat) : Only [.links, .pans] s (s.fallback n) := by
  unfold State.fallback
  dsimp only
  split
  · exact (only_updPan s n _).mono (by simp)
  · exact ((only_updPan s n _).mono (by simp)).then (only_panEvent _ n _ _) (by simp)

end Sys2Proof.Machine
end

