-- ==== Sys2Proof/Laws/Pan.lean ====
section
/-! SUPPORT. What the shared operations of a pan do to its fields: an EVENT marks only that it was sent, a clamp's report
only which clamp acted, a regulation-group WRITE only the watchdog and the way out of HOLD. -/

namespace Sys2Proof.Machine

variable (s : State) (n : Nat)

theorem panEvent_pan_same (c : Nat) (d : Word) :
    (s.panEvent n c d).pan n = { s.pan n with sent := ((s.panEvent n c d).pan n).sent } := by
  unfold State.panEvent
  dsimp only
  split
  · rfl
  · have h : ∀ (t : State) (c : Byte), (t.sendEvent n c d).pan n = t.pan n := fun _ _ => rfl
    rw [h, State.updPan_pan_same]

theorem panEvent_pan_other {m : Nat} (c : Nat) (d : Word) (h : m ≠ n) : (s.panEvent n c d).pan m = s.pan m := by
  unfold State.panEvent
  dsimp only
  split
  · rfl
  · rw [State.sendEvent_pan, State.updPan_pan_other s _ h]

theorem noteClamp_pan_same :
    (s.noteClamp n).pan n =
      { s.pan n with sent := ((s.noteClamp n).pan n).sent, clampSide := ((s.noteClamp n).pan n).clampSide } := by
  unfold State.noteClamp
  dsimp only
  split
  · rw [panEvent_pan_same, State.updPan_pan_same]
  · rfl

theorem noteClamp_pan_other {m : Nat} (h : m ≠ n) : (s.noteClamp n).pan m = s.pan m := by
  unfold State.noteClamp
  dsimp only
  split
  · rw [panEvent_pan_other _ _ _ _ h, State.updPan_pan_other s _ h]
  · rfl

theorem noteWrite_pan_other {m : Nat} (h : m ≠ n) : (s.noteWrite n).pan m = s.pan m := by
  unfold State.noteWrite
  dsimp only
  split
  · rw [panEvent_pan_other _ _ _ _ h, State.updPan_pan_other _ _ h, State.updPan_pan_other s _ h]
  · exact State.updPan_pan_other s _ h

theorem noteWrite_par : ((s.noteWrite n).pan n).par = (s.pan n).par := by
  unfold State.noteWrite
  dsimp only
  split
  · rw [panEvent_pan_same]; simp [Pan.to, Pan.armWindows]
  · simp

theorem noteWrite_lastWrite : ((s.noteWrite n).pan n).lastWrite = s.now := by
  unfold State.noteWrite
  dsimp only
  split
  · rw [panEvent_pan_same]; simp [Pan.to, Pan.armWindows]
  · simp

theorem enterHold_pan_other {m : Nat} (h : m ≠ n) : (s.enterHold n).pan m = s.pan m := by
  unfold State.enterHold
  dsimp only
  split
  · rw [panEvent_pan_other _ _ _ _ h, State.updPan_pan_other s _ h]
  · rfl

theorem fallback_pan_other {m : Nat} (h : m ≠ n) : (s.fallback n).pan m = s.pan m := by
  unfold State.fallback
  dsimp only
  split
  · exact State.updPan_pan_other s _ h
  · rw [panEvent_pan_other _ _ _ _ h, State.updPan_pan_other s _ h]

theorem sendEvent_updPan_links (s : State) (n m : Nat) (f : Pan → Pan) (c : Byte) (d : Word) :
    ((s.updPan n f).sendEvent m c d).links = (s.sendEvent m c d).links := rfl

/-- An EVENT not yet sent in this epoch. -/
theorem panEvent_new (s : State) (n c : Nat) (d : Word) (h : (s.pan n).sent.getLsbD (c - 16) = false) :
    (s.panEvent n c d).pan n = { s.pan n with sent := (s.pan n).sent ||| (1 : BitVec 8) <<< (c - 16) } ∧
    (s.panEvent n c d).links = (s.sendEvent n (BitVec.ofNat 8 c) d).links := by
  unfold State.panEvent
  dsimp only
  rw [h, Bool.false_and, if_neg (by decide)]
  have e : ∀ (t : State) (c : Byte), (t.sendEvent n c d).pan n = t.pan n := fun _ _ => rfl
  exact ⟨by rw [e, State.updPan_pan_same], rfl⟩

/-- An EVENT sent in this epoch is not repeated. -/
theorem panEvent_old (s : State) (n c : Nat) (d : Word) (h : (s.pan n).sent.getLsbD (c - 16) = true)
    (hc : (decide (c = 0x13) || decide (c = 0x15) || decide (c = 0x17)) = false) : s.panEvent n c d = s := by
  unfold State.panEvent
  dsimp only
  rw [h, hc, if_pos (by decide)]

/-- An EVENT that reports every change. -/
theorem panEvent_change (s : State) (n c : Nat) (d : Word) (hc : (decide (c = 0x13) || decide (c = 0x15) || decide (c = 0x17)) = true) :
    (s.panEvent n c d).pan n = { s.pan n with sent := (s.pan n).sent ||| (1 : BitVec 8) <<< (c - 16) } ∧
    (s.panEvent n c d).links = (s.sendEvent n (BitVec.ofNat 8 c) d).links := by
  unfold State.panEvent
  dsimp only
  rw [hc, Bool.not_true, Bool.and_false, if_neg (by decide)]
  have e : ∀ (t : State) (c : Byte), (t.sendEvent n c d).pan n = t.pan n := fun _ _ => rfl
  exact ⟨by rw [e, State.updPan_pan_same], rfl⟩

end Sys2Proof.Machine
end

