-- ==== Sys2Proof/Laws/FrameOps.lean ====
section
/-! SUPPORT. Frames of the shared operations: for each operation over the state, the parts it may change, whatever its
operands. -/

namespace Sys2Proof.Machine

section
variable (s : State)
theorem only_with_now (now : Nat) : Only [.now] s { s with now := now } :=
  ⟨rfl, fun p hp => by
    cases p <;> first | exact absurd (by decide) hp | rfl | exact ⟨rfl, rfl⟩ | exact fun _ => Region.kept_refl _ | exact ⟨rfl, fun _ h => h⟩⟩
theorem only_with_log (log : LogTrace) : Only [.log] s { s with log := log } :=
  ⟨rfl, fun p hp => by
    cases p <;> first | exact absurd (by decide) hp | rfl | exact ⟨rfl, rfl⟩ | exact fun _ => Region.kept_refl _ | exact ⟨rfl, fun _ h => h⟩⟩
theorem only_with_store (store : Store) : Only [.store] s { s with store := store } :=
  ⟨rfl, fun p hp => by
    cases p <;> first | exact absurd (by decide) hp | rfl | exact ⟨rfl, rfl⟩ | exact fun _ => Region.kept_refl _ | exact ⟨rfl, fun _ h => h⟩⟩
theorem only_with_epochAt (epochAt : Nat) : Only [.epoch] s { s with epochAt := epochAt } :=
  ⟨rfl, fun p hp => by
    cases p <;> first | exact absurd (by decide) hp | rfl | exact ⟨rfl, rfl⟩ | exact fun _ => Region.kept_refl _ | exact ⟨rfl, fun _ h => h⟩⟩
theorem only_with_epochAt_epoch (epochAt : Nat) (epoch : BitVec 64) : Only [.epoch] s { s with epochAt := epochAt, epoch := epoch } :=
  ⟨rfl, fun p hp => by
    cases p <;> first | exact absurd (by decide) hp | rfl | exact ⟨rfl, rfl⟩ | exact fun _ => Region.kept_refl _ | exact ⟨rfl, fun _ h => h⟩⟩
theorem only_with_com (com : Committed) : Only [.com] s { s with com := com } :=
  ⟨rfl, fun p hp => by
    cases p <;> first | exact absurd (by decide) hp | rfl | exact ⟨rfl, rfl⟩ | exact fun _ => Region.kept_refl _ | exact ⟨rfl, fun _ h => h⟩⟩
theorem only_with_com_safe (com : Committed) (safe : Committed) : Only [.com, .safe] s { s with com := com, safe := safe } :=
  ⟨rfl, fun p hp => by
    cases p <;> first | exact absurd (by decide) hp | rfl | exact ⟨rfl, rfl⟩ | exact fun _ => Region.kept_refl _ | exact ⟨rfl, fun _ h => h⟩⟩
theorem only_with_views (views : Tbl View) : Only [.views] s { s with views := views } :=
  ⟨rfl, fun p hp => by
    cases p <;> first | exact absurd (by decide) hp | rfl | exact ⟨rfl, rfl⟩ | exact fun _ => Region.kept_refl _ | exact ⟨rfl, fun _ h => h⟩⟩
theorem only_with_tide (tide : Tide) : Only [.tide] s { s with tide := tide } :=
  ⟨rfl, fun p hp => by
    cases p <;> first | exact absurd (by decide) hp | rfl | exact ⟨rfl, rfl⟩ | exact fun _ => Region.kept_refl _ | exact ⟨rfl, fun _ h => h⟩⟩
theorem only_with_tide_store (tide : Tide) (store : Store) : Only [.tide, .store] s { s with tide := tide, store := store } :=
  ⟨rfl, fun p hp => by
    cases p <;> first | exact absurd (by decide) hp | rfl | exact ⟨rfl, rfl⟩ | exact fun _ => Region.kept_refl _ | exact ⟨rfl, fun _ h => h⟩⟩
theorem only_with_flt_store (flt : Faults) (store : Store) : Only [.flt, .store] s { s with flt := flt, store := store } :=
  ⟨rfl, fun p hp => by
    cases p <;> first | exact absurd (by decide) hp | rfl | exact ⟨rfl, rfl⟩ | exact fun _ => Region.kept_refl _ | exact ⟨rfl, fun _ h => h⟩⟩
theorem only_with_hw (hw : HostWin) : Only [.hw] s { s with hw := hw } :=
  ⟨rfl, fun p hp => by
    cases p <;> first | exact absurd (by decide) hp | rfl | exact ⟨rfl, rfl⟩ | exact fun _ => Region.kept_refl _ | exact ⟨rfl, fun _ h => h⟩⟩
theorem only_ite_fst {β : Type} {ps : List Part} {s : State} {x y : State × β} (c : Prop) [Decidable c] (h : c → Only ps s x.1)
    (g : ¬ c → Only ps s y.1) : Only ps s (if c then x else y).1 := by
  split
  · exact h ‹_›
  · exact g ‹_›
end

theorem only_idleCycle (s : State) : Only [.now] s (idleCycle s) := by
  unfold idleCycle
  refine Only.then ?_ (only_with_now ..) (by simp)
  exact Only.refl _ _
theorem only_setB (s : State) (b : BState) : Only [.hw] s (State.setB s b) := by
  unfold State.setB
  refine Only.ite _ (fun _ => ?_) (fun _ => ?_)
  · exact Only.refl _ _
  · refine Only.then ?_ (only_cause ..) (by simp)
    refine Only.then ?_ (only_updHw ..) (by simp)
    exact Only.refl _ _
theorem only_logW (s : State) (code : BitVec 16) (level : Byte) (narg : Byte) (a0 : Word) (a1 : Word) : Only [.log] s (State.logW s code level narg a0 a1) := by
  unfold State.logW
  dsimp only
  refine Only.ite _ (fun _ => ?_) (fun _ => ?_)
  · refine Only.then ?_ (only_cause ..) (by simp)
    refine Only.then ?_ (only_with_log ..) (by simp)
    exact Only.refl _ _
  · refine Only.then ?_ (only_with_log ..) (by simp)
    exact Only.refl _ _
theorem only_settleRegion (s : State) (r : Nat) : Only [.regs, .ports] s (settleRegion s r) := by
  unfold settleRegion
  dsimp only
  refine Only.ite _ (fun _ => ?_) (fun _ => ?_)
  · refine Only.then ?_ (only_updReg ..) (by simp)
    exact Only.refl _ _
  · refine Only.then ?_ (only_updPorts ..) (by simp)
    refine Only.then ?_ (only_updReg ..) (by simp)
    exact Only.refl _ _
theorem only_settle (s : State) : Only [.regs, .shim, .flt, .ports] s (settle s) := by
  unfold settle
  dsimp only
  refine Only.then ?_ (only_updPorts ..) (by simp)
  refine Only.then ?_ (only_updPorts ..) (by simp)
  refine Only.then ?_ (only_updPorts ..) (by simp)
  refine Only.ite _ (fun _ => ?_) (fun _ => ?_)
  · refine Only.then ?_ (only_updFlt ..) (by simp)
    refine Only.then ?_ (only_updShim ..) (by simp)
    refine Only.then ?_ (only_updPorts ..) (by simp)
    refine Only.trans ?_ (Only.foldl _ (fun s a => ?_) _ _)
    · exact Only.refl _ _
    · refine Only.then ?_ (only_settleRegion ..) (by simp)
      exact Only.refl _ _
  · refine Only.then ?_ (only_cause ..) (by simp)
    refine Only.then ?_ (only_updFlt ..) (by simp)
    refine Only.then ?_ (only_updShim ..) (by simp)
    refine Only.then ?_ (only_updPorts ..) (by simp)
    refine Only.trans ?_ (Only.foldl _ (fun s a => ?_) _ _)
    · exact Only.refl _ _
    · refine Only.then ?_ (only_settleRegion ..) (by simp)
      exact Only.refl _ _
theorem only_slotSet (s : State) (slot : Nat) (v : Word) (instant : Nat) : Only [.eng] s (State.slotSet s slot v instant) := by
  unfold State.slotSet
  dsimp only
  refine Only.trans ?_ (Only.foldl _ (fun s a => ?_) _ _)
  · refine Only.then ?_ (only_updEng ..) (by simp)
    exact Only.refl _ _
  · refine Only.then ?_ (only_updLdyn ..) (by simp)
    exact Only.refl _ _
theorem only_slotWrite (s : State) (src : SlotSrc) (v : Word) (instant : Nat) : Only [.eng] s (State.slotWrite s src v instant) := by
  unfold State.slotWrite
  refine Only.trans ?_ (Only.foldl _ (fun s a => ?_) _ _)
  · exact Only.refl _ _
  · refine Only.then ?_ (only_slotSet ..) (by simp)
    exact Only.refl _ _
theorem only_fwPlace (s : State) (what : Nat) (r : Nat) (m : Nat) (v : Word) : Only [.eng] s (State.fwPlace s what r m v) := by
  unfold State.fwPlace
  refine Only.then ?_ (only_slotWrite ..) (by simp)
  exact Only.refl _ _
theorem only_postStep (s : State) (r : Nat) (lead : Nat) (amp : Nat) : Only [.eng] s (State.postStep s r lead amp) := by
  unfold State.postStep
  refine Only.then ?_ (only_slotWrite ..) (by simp)
  exact Only.refl _ _
theorem only_enterLive (s : State) (r : Nat) : Only [.regs, .ports] s (enterLive s r) := by
  unfold enterLive
  refine Only.then ?_ (only_fenceMsg ..) (by simp)
  refine Only.then ?_ (only_updSeq ..) (by simp)
  exact Only.refl _ _
theorem only_enterHandover (s : State) (r : Nat) : Only [.regs, .ports] s (enterHandover s r) := by
  unfold enterHandover
  dsimp only
  refine Only.ite _ (fun _ => ?_) (fun _ => ?_)
  · refine Only.then ?_ (only_updSeq ..) (by simp)
    exact Only.refl _ _
  · refine Only.then ?_ (only_enterLive ..) (by simp)
    refine Only.then ?_ (only_updSeq ..) (by simp)
    exact Only.refl _ _
theorem only_enableStage (s : State) (r : Nat) (next : Nat) : Only [.regs, .ports] s (enableStage s r next) := by
  unfold enableStage
  dsimp only
  refine Only.ite _ (fun _ => ?_) (fun _ => ?_)
  · refine Only.then ?_ (only_enterHandover ..) (by simp)
    refine Only.then ?_ (only_updSeq ..) (by simp)
    exact Only.refl _ _
  · refine Only.then ?_ (only_updSeq ..) (by simp)
    exact Only.refl _ _
theorem only_stageCheck (s : State) (r : Nat) : Only [.eng, .regs, .ports] s (stageCheck s r) := by
  unfold stageCheck
  dsimp only
  refine Only.ite _ (fun _ => ?_) (fun _ => ?_)
  · refine Only.then ?_ (only_enableStage ..) (by simp)
    exact Only.refl _ _
  · refine Only.trans ?_ (Only.foldl _ (fun s a => ?_) _ _)
    · refine Only.then ?_ (only_updSeq ..) (by simp)
      exact Only.refl _ _
    · refine Only.then ?_ (only_postStep ..) (by simp)
      exact Only.refl _ _
theorem only_enterStaging (s : State) (r : Nat) : Only [.eng, .regs, .ports] s (enterStaging s r) := by
  unfold enterStaging
  dsimp only
  refine Only.ite _ (fun _ => ?_) (fun _ => ?_)
  · refine Only.then ?_ (only_enterHandover ..) (by simp)
    refine Only.then ?_ (only_updSeq ..) (by simp)
    exact Only.refl _ _
  · refine Only.then ?_ (only_stageCheck ..) (by simp)
    refine Only.then ?_ (only_updSeq ..) (by simp)
    exact Only.refl _ _
theorem only_enterRising (s : State) (r : Nat) : Only [.regs] s (enterRising s r) := by
  unfold enterRising
  refine Only.then ?_ (only_updSeq ..) (by simp)
  exact Only.refl _ _
theorem only_enterFalling (s : State) (r : Nat) : Only [.regs, .stg] s (enterFalling s r) := by
  unfold enterFalling
  refine Only.then ?_ (only_updStg ..) (by simp)
  refine Only.then ?_ (only_updSeq ..) (by simp)
  exact Only.refl _ _
theorem only_enterLowering (s : State) (r : Nat) (target : Nat) : Only [.regs, .stg] s (enterLowering s r target) := by
  unfold enterLowering
  dsimp only
  refine Only.ite _ (fun _ => ?_) (fun _ => ?_)
  · refine Only.then ?_ (only_enterFalling ..) (by simp)
    refine Only.then ?_ (only_updSeq ..) (by simp)
    exact Only.refl _ _
  · refine Only.then ?_ (only_updSeq ..) (by simp)
    exact Only.refl _ _
theorem only_enterPurging (s : State) (r : Nat) (late : Bool) : Only [.regs] s (enterPurging s r late) := by
  unfold enterPurging
  refine Only.then ?_ (only_updSeq ..) (by simp)
  exact Only.refl _ _
theorem only_enterDark (s : State) (r : Nat) : Only [.regs] s (enterDark s r) := by
  unfold enterDark
  refine Only.then ?_ (only_updSeq ..) (by simp)
  exact Only.refl _ _
theorem only_enterRetained (s : State) (r : Nat) : Only [.regs] s (enterRetained s r) := by
  unfold enterRetained
  refine Only.then ?_ (only_updSeq ..) (by simp)
  exact Only.refl _ _
theorem only_riseLater (s : State) (r : Nat) : Only [.regs, .stg] s (riseLater s r) := by
  unfold riseLater
  refine Only.then ?_ (only_updStg ..) (by simp)
  refine Only.then ?_ (only_enterRising ..) (by simp)
  exact Only.refl _ _
theorem only_sendFence (s : State) (r : Nat) (target : Nat) : Only [.regs, .sys, .ports] s (sendFence s r target) := by
  unfold sendFence
  dsimp only
  refine Only.then ?_ (only_fenceMsg ..) (by simp)
  refine Only.then ?_ (only_updSeq ..) (by simp)
  refine Only.then ?_ (only_updSys ..) (by simp)
  exact Only.refl _ _
theorem only_seqCommit (s : State) (r : Nat) (new : RState) (via : Bool) : Only [.eng, .regs, .stg, .sys, .ports] s (seqCommit s r new via) := by
  unfold seqCommit
  dsimp only
  split
  · refine Only.then ?_ (only_enterRising ..) (by simp)
    exact Only.refl _ _
  · refine Only.then ?_ (only_enterRising ..) (by simp)
    exact Only.refl _ _
  · refine Only.then ?_ (only_enterRising ..) (by simp)
    exact Only.refl _ _
  · refine Only.then ?_ (only_enterRetained ..) (by simp)
    exact Only.refl _ _
  · refine Only.then ?_ (only_enterPurging ..) (by simp)
    exact Only.refl _ _
  · exact Only.refl _ _
  · refine Only.then ?_ (only_enterDark ..) (by simp)
    exact Only.refl _ _
  · refine Only.then ?_ (only_enterPurging ..) (by simp)
    exact Only.refl _ _
  · exact Only.refl _ _
  · refine Only.then ?_ (only_enterDark ..) (by simp)
    exact Only.refl _ _
  · refine Only.then ?_ (only_enterRetained ..) (by simp)
    exact Only.refl _ _
  · exact Only.refl _ _
  · exact Only.refl _ _
  · refine Only.then ?_ (only_enterLowering ..) (by simp)
    exact Only.refl _ _
  · exact Only.refl _ _
  · refine Only.then ?_ (only_enterLowering ..) (by simp)
    exact Only.refl _ _
  · exact Only.refl _ _
  · refine Only.then ?_ (only_enterLowering ..) (by simp)
    exact Only.refl _ _
  · exact Only.refl _ _
  · refine Only.ite _ (fun _ => ?_) (fun _ => ?_)
    · refine Only.then ?_ (only_enterLowering ..) (by simp)
      exact Only.refl _ _
    · refine Only.then ?_ (only_sendFence ..) (by simp)
      exact Only.refl _ _
  · refine Only.then ?_ (only_enterLive ..) (by simp)
    exact Only.refl _ _
  · refine Only.then ?_ (only_updSeq ..) (by simp)
    exact Only.refl _ _
  · refine Only.then ?_ (only_enterStaging ..) (by simp)
    exact Only.refl _ _
  · refine Only.then ?_ (only_updSeq ..) (by simp)
    exact Only.refl _ _
  · refine Only.then ?_ (only_updSeq ..) (by simp)
    exact Only.refl _ _
  · refine Only.then ?_ (only_updSeq ..) (by simp)
    exact Only.refl _ _
  · refine Only.then ?_ (only_riseLater ..) (by simp)
    exact Only.refl _ _
  · refine Only.then ?_ (only_enterDark ..) (by simp)
    exact Only.refl _ _
  · refine Only.then ?_ (only_enterRetained ..) (by simp)
    exact Only.refl _ _
  · exact Only.refl _ _
theorem only_darkAll (s : State) : Only [.regs] s (darkAll s) := by
  unfold darkAll
  refine Only.trans ?_ (Only.foldl _ (fun s a => ?_) _ _)
  · exact Only.refl _ _
  · refine Only.then ?_ (only_updSeq ..) (by simp)
    exact Only.refl _ _
theorem only_finishFalling (s : State) (r : Nat) : Only [.regs, .stg] s (finishFalling s r) := by
  unfold finishFalling
  dsimp only
  refine Only.ite _ (fun _ => ?_) (fun _ => ?_)
  · refine Only.ite _ (fun _ => ?_) (fun _ => ?_)
    · refine Only.then ?_ (only_enterRetained ..) (by simp)
      refine Only.then ?_ (only_updSeq ..) (by simp)
      exact Only.refl _ _
    · refine Only.then ?_ (only_enterDark ..) (by simp)
      refine Only.then ?_ (only_updSeq ..) (by simp)
      exact Only.refl _ _
  · split
    · refine Only.then ?_ (only_enterDark ..) (by simp)
      refine Only.then ?_ (only_updSeq ..) (by simp)
      exact Only.refl _ _
    · refine Only.then ?_ (only_riseLater ..) (by simp)
      refine Only.ite _ (fun _ => ?_) (fun _ => ?_)
      · refine Only.then ?_ (only_enterRetained ..) (by simp)
        refine Only.then ?_ (only_updSeq ..) (by simp)
        exact Only.refl _ _
      · refine Only.then ?_ (only_enterDark ..) (by simp)
        refine Only.then ?_ (only_updSeq ..) (by simp)
        exact Only.refl _ _
    · refine Only.then ?_ (only_enterRetained ..) (by simp)
      refine Only.then ?_ (only_updSeq ..) (by simp)
      exact Only.refl _ _
    · refine Only.then ?_ (only_enterPurging ..) (by simp)
      refine Only.then ?_ (only_updSeq ..) (by simp)
      exact Only.refl _ _
theorem only_refuse (s : State) (tag : Byte) (reason : Nat) (r : Nat) : Only [.ports] s (refuse s tag reason r) := by
  unfold refuse
  refine Only.then ?_ (only_fenceMsg ..) (by simp)
  exact Only.refl _ _
theorem only_tallyRole (s : State) (k : Nat) : Only [.flt] s (State.tallyRole s k) := by
  unfold State.tallyRole
  refine Only.then ?_ (only_tally ..) (by simp)
  exact Only.refl _ _
theorem only_complete (s : State) (w : SWrite) (st : Status) (held : Bool) (gen : Word) : Only [.stg, .ports] s (State.complete s w st held gen) := by
  unfold State.complete
  dsimp only
  split
  · refine Only.ite _ (fun _ => ?_) (fun _ => ?_)
    · refine Only.then ?_ (only_fenceMsg ..) (by simp)
      refine Only.then ?_ (only_updRec ..) (by simp)
      exact Only.refl _ _
    · refine Only.ite _ (fun _ => ?_) (fun _ => ?_)
      · refine Only.then ?_ (only_refuse ..) (by simp)
        refine Only.then ?_ (only_updRec ..) (by simp)
        exact Only.refl _ _
      · refine Only.ite _ (fun _ => ?_) (fun _ => ?_)
        · refine Only.then ?_ (only_refuse ..) (by simp)
          refine Only.then ?_ (only_updRec ..) (by simp)
          exact Only.refl _ _
        · refine Only.ite _ (fun _ => ?_) (fun _ => ?_)
          · refine Only.then ?_ (only_refuse ..) (by simp)
            refine Only.then ?_ (only_updRec ..) (by simp)
            exact Only.refl _ _
          · refine Only.then ?_ (only_updRec ..) (by simp)
            exact Only.refl _ _
  · refine Only.then ?_ (only_updRec ..) (by simp)
    exact Only.refl _ _
theorem only_stage (s : State) (w : SWrite) : Only [.stg, .ports] s (State.stage s w) := by
  unfold State.stage
  dsimp only
  refine Only.ite _ (fun _ => ?_) (fun _ => ?_)
  · refine Only.then ?_ (only_complete ..) (by simp)
    refine Only.then ?_ (only_updStg ..) (by simp)
    refine Only.trans ?_ (Only.foldl _ (fun s a => ?_) _ _)
    · exact Only.refl _ _
    · refine Only.then ?_ (only_complete ..) (by simp)
      exact Only.refl _ _
  · refine Only.then ?_ (only_updStg ..) (by simp)
    refine Only.trans ?_ (Only.foldl _ (fun s a => ?_) _ _)
    · exact Only.refl _ _
    · refine Only.then ?_ (only_complete ..) (by simp)
      exact Only.refl _ _
theorem only_stageSet (s : State) (cws : List CW) : Only [.stg, .ports] s (State.stageSet s cws) := by
  unfold State.stageSet
  dsimp only
  refine Only.trans ?_ (Only.foldl _ (fun s a => ?_) _ _)
  · refine Only.then ?_ (only_updStg ..) (by simp)
    exact Only.refl _ _
  · refine Only.then ?_ (only_stage ..) (by simp)
    exact Only.refl _ _
theorem only_stageFw (s : State) (c : CW) : Only [.stg, .ports] s (State.stageFw s c) := by
  unfold State.stageFw
  refine Only.then ?_ (only_stage ..) (by simp)
  exact Only.refl _ _
theorem only_issue (s : State) : Only [.stg] s (State.issue s).1 := by
  unfold State.issue
  dsimp only
  refine Only.then ?_ (only_updStg ..) (by simp)
  exact Only.refl _ _
theorem only_failBundle (s : State) (ts : List Nat) : Only [.stg] s (State.failBundle s ts) := by
  unfold State.failBundle
  dsimp only
  refine Only.then ?_ (only_updStg ..) (by simp)
  refine Only.trans ?_ (Only.foldl _ (fun s a => ?_) _ _)
  · exact Only.refl _ _
  · refine Only.then ?_ (only_updRec ..) (by simp)
    exact Only.refl _ _
theorem only_abandonBundles (s : State) : Only [.stg] s (State.abandonBundles s) := by
  unfold State.abandonBundles
  dsimp only
  refine Only.then ?_ (only_updStg ..) (by simp)
  refine Only.trans ?_ (Only.foldl _ (fun s a => ?_) _ _)
  · exact Only.refl _ _
  · refine Only.then ?_ (only_failBundle ..) (by simp)
    exact Only.refl _ _
theorem only_tryBundle (s : State) (ts : List Nat) : Only [.stg, .ports] s (State.tryBundle s ts) := by
  unfold State.tryBundle
  dsimp only
  refine Only.ite _ (fun _ => ?_) (fun _ => ?_)
  · exact Only.refl _ _
  · refine Only.ite _ (fun _ => ?_) (fun _ => ?_)
    · refine Only.then ?_ (only_failBundle ..) (by simp)
      refine Only.then ?_ (only_updStg ..) (by simp)
      exact Only.refl _ _
    · refine Only.trans ?_ (Only.foldl _ (fun s a => ?_) _ _)
      · refine Only.then ?_ (only_updStg ..) (by simp)
        refine Only.then ?_ (only_updStg ..) (by simp)
        exact Only.refl _ _
      · refine Only.then ?_ (only_stage ..) (by simp)
        exact Only.refl _ _
theorem only_closeBundle (s : State) (num : Nat) : Only [.stg, .ports] s (State.closeBundle s num) := by
  unfold State.closeBundle
  split
  · exact Only.refl _ _
  · dsimp only
    refine Only.then ?_ (only_tryBundle ..) (by simp)
    refine Only.then ?_ (only_updStg ..) (by simp)
    exact Only.refl _ _
theorem only_tryBundles (s : State) : Only [.stg, .ports] s (State.tryBundles s) := by
  unfold State.tryBundles
  refine Only.trans ?_ (Only.foldl _ (fun s a => ?_) _ _)
  · exact Only.refl _ _
  · refine Only.then ?_ (only_tryBundle ..) (by simp)
    exact Only.refl _ _
theorem only_bwaitWin (s : State) (r : Nat) (entry : Bool) : Only [.regs] s (State.bwaitWin s r entry) := by
  unfold State.bwaitWin
  refine Only.then ?_ (only_updKrf ..) (by simp)
  exact Only.refl _ _
theorem only_hintEffect (s : State) (ty : Nat) (h : Hint) (r : Nat) : Only [.eng, .regs, .stg, .ports] s (State.hintEffect s ty h r) := by
  unfold State.hintEffect
  dsimp only
  split
  · refine Only.then ?_ (only_stage ..) (by simp)
    refine Only.then ?_ (only_slotWrite ..) (by simp)
    exact Only.refl _ _
  · refine Only.then ?_ (only_updKrf ..) (by simp)
    refine Only.then ?_ (only_slotWrite ..) (by simp)
    exact Only.refl _ _
  · refine Only.then ?_ (only_bwaitWin ..) (by simp)
    refine Only.then ?_ (only_slotWrite ..) (by simp)
    exact Only.refl _ _
  · refine Only.then ?_ (only_stage ..) (by simp)
    exact Only.refl _ _
  · refine Only.then ?_ (only_slotWrite ..) (by simp)
    exact Only.refl _ _
theorem only_hintIn (s : State) (ty : Nat) (h : Hint) : Only [.eng, .regs, .stg, .ports] s (State.hintIn s ty h) := by
  unfold State.hintIn
  refine Only.ite _ (fun _ => ?_) (fun _ => ?_)
  · exact Only.refl _ _
  · dsimp only
    refine Only.ite _ (fun _ => ?_) (fun _ => ?_)
    · refine Only.then ?_ (only_updHsrc ..) (by simp)
      exact Only.refl _ _
    · refine Only.trans ?_ (Only.foldl _ (fun s a => ?_) _ _)
      · refine Only.then ?_ (only_updHsrc ..) (by simp)
        exact Only.refl _ _
      · refine Only.then ?_ (only_hintEffect ..) (by simp)
        exact Only.refl _ _
theorem only_dvtSendAll (s : State) (except : Option Nat) (ty : Nat) (bytes : List Byte) : Only [.ports] s (State.dvtSendAll s except ty bytes) := by
  unfold State.dvtSendAll
  refine Only.trans ?_ (Only.foldl _ (fun s a => ?_) _ _)
  · exact Only.refl _ _
  · refine Only.ite _ (fun _ => ?_) (fun _ => ?_)
    · refine Only.then ?_ (only_updDvt ..) (by simp)
      exact Only.refl _ _
    · exact Only.refl _ _
theorem only_shimTargets (s : State) : Only [.eng] s (State.shimTargets s) := by
  unfold State.shimTargets
  dsimp only
  refine Only.trans ?_ (Only.foldl _ (fun s a => ?_) _ _)
  · exact Only.refl _ _
  · refine Only.then ?_ (only_fwPlace ..) (by simp)
    exact Only.refl _ _
theorem only_ledAlloc (s : State) (c : Nat) (t : State) (h : s.ledAlloc c = some t) : Only [.led] s t := by
  unfold State.ledAlloc at h
  dsimp only at h
  split at h
  · cases h; exact only_updLed s _
  · split at h
    · cases h; exact only_updLed s _
    · cases h

theorem only_ledReady (s : State) (c : Nat) : Only [.led] s (s.ledReady c).1 := by
  unfold State.ledReady
  split
  · exact Only.refl _ _
  · split
    · exact only_ledAlloc s c _ ‹_›
    · exact Only.refl _ _
theorem only_foldl_fst {α β : Type} {ps : List Part} (f : State × β → α → State × β) (h : ∀ x a, Only ps x.1 (f x a).1) :
    ∀ (l : List α) (x : State × β), Only ps x.1 (l.foldl f x).1
  | [], x => Only.refl ps x.1
  | a :: l, x => (h x a).trans (only_foldl_fst f h l (f x a))

theorem only_attribute (s : State) : Only [.regs, .led] s (s.attribute) := by
  unfold State.attribute
  extract_lets
  refine Only.ite _ (fun _ => ?_) (fun _ => ?_)
  · refine Only.trans ?_ (Only.foldl _ (fun s a => (only_updTel s _ _).mono (by simp)) _ _)
    exact Only.refl _ _
  · refine Only.then ?_ (only_updLed ..) (by simp)
    refine Only.trans ?_ (Only.foldl _ (fun s a => ?_) _ _)
    · refine Only.then ?_ (only_ledReady ..) (by simp)
      refine Only.trans ?_ (only_foldl_fst _ (fun x a => ?_) _ _)
      · exact Only.trans (Only.refl _ _) (Only.foldl _ (fun s a => (only_updTel s _ _).mono (by simp)) _ _)
      · split
        · dsimp only
          split
          · exact (only_ledReady x.1 a).mono (by simp)
          · exact (only_ledReady x.1 a).mono (by simp)
        · exact Only.refl _ _
    · refine Only.ite _ (fun _ => Only.refl _ _) (fun _ => (only_updLed s _).mono (by simp))
theorem only_queryTake (s : State) : Only [.led] s (State.queryTake s) := by
  unfold State.queryTake
  refine Only.ite _ (fun _ => ?_) (fun _ => ?_)
  · refine Only.then ?_ (only_updLed ..) (by simp)
    exact Only.refl _ _
  · exact Only.refl _ _
theorem only_ledCommit (s : State) (was : Bool) (now_ : Bool) : Only [.led] s (State.ledCommit s was now_) := by
  unfold State.ledCommit
  refine Only.ite _ (fun _ => ?_) (fun _ => ?_)
  · exact Only.refl _ _
  · refine Only.ite _ (fun _ => ?_) (fun _ => ?_)
    · refine Only.then ?_ (only_updLed ..) (by simp)
      exact Only.refl _ _
    · refine Only.then ?_ (only_updLed ..) (by simp)
      exact Only.refl _ _
theorem only_tideSend (s : State) (p : Nat) (f : TideFrame) : Only [.ports] s (State.tideSend s p f) := by
  unfold State.tideSend
  dsimp only
  split
  · refine Only.then ?_ (only_updDvt ..) (by simp)
    exact Only.refl _ _
  · refine Only.ite _ (fun _ => ?_) (fun _ => ?_)
    · refine Only.then ?_ (only_updPorts ..) (by simp)
      exact Only.refl _ _
    · exact Only.refl _ _
theorem only_sendXfer (s : State) (e : Escrow) : Only [.ports] s (State.sendXfer s e) := by
  unfold State.sendXfer
  refine Only.then ?_ (only_tideSend ..) (by simp)
  exact Only.refl _ _
theorem only_tideSettle (s : State) : Only [.tide] s (State.tideSettle s) := by
  unfold State.tideSettle
  dsimp only
  split
  · refine Only.ite _ (fun _ => ?_) (fun _ => ?_)
    · refine Only.then ?_ (only_updTide ..) (by simp)
      exact Only.refl _ _
    · exact Only.refl _ _
  · refine Only.ite _ (fun _ => ?_) (fun _ => ?_)
    · exact Only.refl _ _
    · refine Only.then ?_ (only_updTide ..) (by simp)
      exact Only.refl _ _
  · exact Only.refl _ _
theorem only_newInc (s : State) (p : Nat) (inc : Nat) : Only [.tide] s (State.newInc s p inc) := by
  unfold State.newInc
  dsimp only
  refine Only.then ?_ (only_updTide ..) (by simp)
  refine Only.then ?_ (only_updTPeer ..) (by simp)
  exact Only.refl _ _
theorem only_markLive (s : State) (p : Nat) (sinc : Nat) : Only [.tide] s (State.markLive s p sinc) := by
  unfold State.markLive
  refine Only.ite _ (fun _ => ?_) (fun _ => ?_)
  · refine Only.then ?_ (only_updTPeer ..) (by simp)
    exact Only.refl _ _
  · exact Only.refl _ _
theorem only_sendExpelled (s : State) (p : Nat) (f : TideFrame) : Only [.tide, .ports] s (State.sendExpelled s p f) := by
  unfold State.sendExpelled
  dsimp only
  refine Only.ite _ (fun _ => ?_) (fun _ => ?_)
  · refine Only.then ?_ (only_tideSend ..) (by simp)
    refine Only.then ?_ (only_updTPeer ..) (by simp)
    exact Only.refl _ _
  · exact Only.refl _ _
theorem only_credit (s : State) (p : Nat) (f : TideFrame) : Only [.tide, .flt] s (State.credit s p f) := by
  unfold State.credit
  dsimp only
  refine Only.then ?_ (only_tally ..) (by simp)
  refine Only.then ?_ (only_tally ..) (by simp)
  refine Only.then ?_ (only_updTide ..) (by simp)
  refine Only.then ?_ (only_updTPeer ..) (by simp)
  exact Only.refl _ _
theorem only_recvXfer (s : State) (p : Nat) (f : TideFrame) : Only [.tide, .flt, .ports] s (State.recvXfer s p f) := by
  unfold State.recvXfer
  dsimp only
  split
  · refine Only.then ?_ (only_tideSend ..) (by simp)
    refine Only.ite _ (fun _ => ?_) (fun _ => ?_)
    · refine Only.then ?_ (only_markLive ..) (by simp)
      exact Only.refl _ _
    · exact Only.refl _ _
  · refine Only.then ?_ (only_sendExpelled ..) (by simp)
    refine Only.ite _ (fun _ => ?_) (fun _ => ?_)
    · refine Only.then ?_ (only_markLive ..) (by simp)
      exact Only.refl _ _
    · exact Only.refl _ _
  · refine Only.ite _ (fun _ => ?_) (fun _ => ?_)
    · refine Only.then ?_ (only_markLive ..) (by simp)
      exact Only.refl _ _
    · exact Only.refl _ _
  · refine Only.then ?_ (only_tideSend ..) (by simp)
    refine Only.ite _ (fun _ => ?_) (fun _ => ?_)
    · refine Only.then ?_ (only_newInc ..) (by simp)
      refine Only.ite _ (fun _ => ?_) (fun _ => ?_)
      · refine Only.then ?_ (only_markLive ..) (by simp)
        exact Only.refl _ _
      · exact Only.refl _ _
    · refine Only.ite _ (fun _ => ?_) (fun _ => ?_)
      · refine Only.then ?_ (only_markLive ..) (by simp)
        exact Only.refl _ _
      · exact Only.refl _ _
  · refine Only.ite _ (fun _ => ?_) (fun _ => ?_)
    · refine Only.then ?_ (only_newInc ..) (by simp)
      refine Only.ite _ (fun _ => ?_) (fun _ => ?_)
      · refine Only.then ?_ (only_markLive ..) (by simp)
        exact Only.refl _ _
      · exact Only.refl _ _
    · refine Only.ite _ (fun _ => ?_) (fun _ => ?_)
      · refine Only.then ?_ (only_markLive ..) (by simp)
        exact Only.refl _ _
      · exact Only.refl _ _
  · refine Only.then ?_ (only_tideSend ..) (by simp)
    refine Only.then ?_ (only_credit ..) (by simp)
    refine Only.ite _ (fun _ => ?_) (fun _ => ?_)
    · refine Only.then ?_ (only_newInc ..) (by simp)
      refine Only.ite _ (fun _ => ?_) (fun _ => ?_)
      · refine Only.then ?_ (only_markLive ..) (by simp)
        exact Only.refl _ _
      · exact Only.refl _ _
    · refine Only.ite _ (fun _ => ?_) (fun _ => ?_)
      · refine Only.then ?_ (only_markLive ..) (by simp)
        exact Only.refl _ _
      · exact Only.refl _ _
theorem only_recvOther {ps : List Part} (hp : [Part.tide, .ports] ⊆ ps) (s : State) (p : Nat) (f : TideFrame) (act : State → State) (h : ∀ u, Only ps u (act u)) : Only ps s (State.recvOther s p f act) := by
  unfold State.recvOther
  dsimp only
  refine Only.ite _ (fun _ => ?_) (fun _ => Only.ite _ (fun _ => Only.refl _ _) (fun _ => ?_))
  · exact (only_sendExpelled ..).mono hp
  · refine Only.trans ?_ (h _)
    refine Only.then ?_ (only_markLive ..) (List.Subset.trans (l₂ := [Part.tide, .ports]) (by simp) hp)
    refine Only.ite _ (fun _ => (only_newInc ..).mono (List.Subset.trans (l₂ := [Part.tide, .ports]) (by simp) hp)) (fun _ => Only.refl _ _)
theorem only_xackAct (p : Nat) (f : TideFrame) (s : State) : Only [.tide] s (xackAct p f s) := by
  unfold xackAct
  refine Only.then ?_ (only_updTide ..) (by simp)
  exact Only.refl _ _
theorem only_staleAct (p : Nat) (f : TideFrame) (s : State) : Only [.tide] s (staleAct p f s) := by
  unfold staleAct
  refine Only.then ?_ (only_updTide ..) (by simp)
  exact Only.refl _ _
theorem only_advertAct (p : Nat) (f : TideFrame) (s : State) : Only [.tide] s (advertAct p f s) := by
  unfold advertAct
  refine Only.then ?_ (only_updTPeer ..) (by simp)
  exact Only.refl _ _
theorem only_expelledAct (f : TideFrame) (s : State) : Only [.stg, .tide, .ports] s (expelledAct f s) := by
  unfold expelledAct
  refine Only.ite _ (fun _ => ?_) (fun _ => ?_)
  · refine Only.then ?_ (only_stageFw ..) (by simp)
    refine Only.then ?_ (only_updTide ..) (by simp)
    exact Only.refl _ _
  · exact Only.refl _ _
theorem only_tideDiscard (s : State) : Only [.tide] s (State.tideDiscard s) := by
  unfold State.tideDiscard
  refine Only.then ?_ (only_updTide ..) (by simp)
  exact Only.refl _ _
theorem only_recvTide (s : State) (f : TideFrame) : Only [.stg, .tide, .flt, .ports] s (s.recvTide f) := by
  unfold State.recvTide
  refine Only.ite _ (fun _ => (only_tideDiscard ..).mono (by simp)) (fun _ => ?_)
  split
  · exact (only_tideDiscard ..).mono (by simp)
  · dsimp only
    refine Only.then ?_ (only_tideSettle ..) (by simp)
    split
    · exact (only_recvXfer ..).mono (by simp)
    · exact only_recvOther (by simp) _ _ _ _ fun u => (only_xackAct ..).mono (by simp)
    · exact only_recvOther (by simp) _ _ _ _ fun u => (only_advertAct ..).mono (by simp)
    · exact only_recvOther (by simp) _ _ _ _ fun u => (only_staleAct ..).mono (by simp)
    · exact only_recvOther (by simp) _ _ _ _ fun u => (only_expelledAct ..).mono (by simp)
theorem only_recvBytes (s : State) (bs : List Byte) : Only [.stg, .tide, .flt, .ports] s (State.recvBytes s bs) := by
  unfold State.recvBytes
  split
  · refine Only.then ?_ (only_recvTide ..) (by simp)
    exact Only.refl _ _
  · refine Only.then ?_ (only_tideDiscard ..) (by simp)
    exact Only.refl _ _
theorem only_advertise (s : State) : Only [.ports] s (State.advertise s) := by
  unfold State.advertise
  dsimp only
  refine Only.trans ?_ (Only.foldl _ (fun s a => ?_) _ _)
  · exact Only.refl _ _
  · refine Only.ite _ (fun _ => ?_) (fun _ => ?_)
    · refine Only.then ?_ (only_tideSend ..) (by simp)
      exact Only.refl _ _
    · exact Only.refl _ _
theorem only_debit (s : State) (p : Plan) : Only [.tide, .flt, .ports] s (State.debit s p) := by
  unfold State.debit
  dsimp only
  refine Only.then ?_ (only_sendXfer ..) (by simp)
  refine Only.then ?_ (only_tally ..) (by simp)
  refine Only.then ?_ (only_tally ..) (by simp)
  refine Only.then ?_ (only_updTide ..) (by simp)
  refine Only.then ?_ (only_updTPeer ..) (by simp)
  exact Only.refl _ _
theorem only_holdCommitted (s : State) : Only [.tide, .flt, .ports] s (State.holdCommitted s) := by
  unfold State.holdCommitted
  refine Only.ite _ (fun _ => ?_) (fun _ => ?_)
  · refine Only.then ?_ (only_updTide ..) (by simp)
    exact Only.refl _ _
  · refine Only.ite _ (fun _ => ?_) (fun _ => ?_)
    · dsimp only
      refine Only.then ?_ (only_tideSettle ..) (by simp)
      refine Only.trans ?_ (Only.foldl _ (fun s a => ?_) _ _)
      · refine Only.then ?_ (only_updTide ..) (by simp)
        exact Only.refl _ _
      · refine Only.then ?_ (only_debit ..) (by simp)
        exact Only.refl _ _
    · exact Only.refl _ _
theorem only_holdFailed (s : State) : Only [.tide] s (State.holdFailed s) := by
  unfold State.holdFailed
  refine Only.then ?_ (only_tideSettle ..) (by simp)
  refine Only.then ?_ (only_updTide ..) (by simp)
  exact Only.refl _ _
theorem only_tideCommit (s : State) (was : CTide) (now_ : CTide) : Only [.tide, .store] s (State.tideCommit s was now_) := by
  unfold State.tideCommit
  dsimp only
  refine Only.then ?_ (only_tideSettle ..) (by simp)
  refine Only.then ?_ (only_updTide ..) (by simp)
  split
  · refine Only.ite _ (fun _ => ?_) (fun _ => ?_)
    · refine Only.then ?_ (only_updTide ..) (by simp)
      refine Only.ite _ (fun _ => ?_) (fun _ => ?_)
      · refine Only.then ?_ (only_with_tide_store ..) (by simp)
        exact Only.refl _ _
      · refine Only.ite _ (fun _ => ?_) (fun _ => ?_)
        · refine Only.then ?_ (only_with_tide ..) (by simp)
          exact Only.refl _ _
        · exact Only.refl _ _
    · refine Only.ite _ (fun _ => ?_) (fun _ => ?_)
      · refine Only.then ?_ (only_with_tide_store ..) (by simp)
        exact Only.refl _ _
      · refine Only.ite _ (fun _ => ?_) (fun _ => ?_)
        · refine Only.then ?_ (only_with_tide ..) (by simp)
          exact Only.refl _ _
        · exact Only.refl _ _
  · refine Only.ite _ (fun _ => ?_) (fun _ => ?_)
    · refine Only.ite _ (fun _ => ?_) (fun _ => ?_)
      · refine Only.then ?_ (only_with_tide_store ..) (by simp)
        exact Only.refl _ _
      · refine Only.ite _ (fun _ => ?_) (fun _ => ?_)
        · refine Only.then ?_ (only_with_tide ..) (by simp)
          exact Only.refl _ _
        · exact Only.refl _ _
    · refine Only.then ?_ (only_updTide ..) (by simp)
      refine Only.ite _ (fun _ => ?_) (fun _ => ?_)
      · refine Only.then ?_ (only_with_tide_store ..) (by simp)
        exact Only.refl _ _
      · refine Only.ite _ (fun _ => ?_) (fun _ => ?_)
        · refine Only.then ?_ (only_with_tide ..) (by simp)
          exact Only.refl _ _
        · exact Only.refl _ _
  · refine Only.ite _ (fun _ => ?_) (fun _ => ?_)
    · refine Only.ite _ (fun _ => ?_) (fun _ => ?_)
      · refine Only.then ?_ (only_with_tide_store ..) (by simp)
        exact Only.refl _ _
      · refine Only.ite _ (fun _ => ?_) (fun _ => ?_)
        · refine Only.then ?_ (only_with_tide ..) (by simp)
          exact Only.refl _ _
        · exact Only.refl _ _
    · refine Only.then ?_ (only_updTide ..) (by simp)
      refine Only.ite _ (fun _ => ?_) (fun _ => ?_)
      · refine Only.then ?_ (only_with_tide_store ..) (by simp)
        exact Only.refl _ _
      · refine Only.ite _ (fun _ => ?_) (fun _ => ?_)
        · refine Only.then ?_ (only_with_tide ..) (by simp)
          exact Only.refl _ _
        · exact Only.refl _ _
  · refine Only.ite _ (fun _ => ?_) (fun _ => ?_)
    · refine Only.then ?_ (only_with_tide_store ..) (by simp)
      exact Only.refl _ _
    · refine Only.ite _ (fun _ => ?_) (fun _ => ?_)
      · refine Only.then ?_ (only_with_tide ..) (by simp)
        exact Only.refl _ _
      · exact Only.refl _ _
theorem only_converterCut (s : State) : Only [.conv] s (converterCut s) := by
  unfold converterCut
  dsimp only
  refine Only.trans ?_ (Only.foldl _ (fun s a => ?_) _ _)
  · refine Only.trans ?_ (Only.foldl _ (fun s a => ?_) _ _)
    · exact Only.refl _ _
    · refine Only.then ?_ (only_updPhase ..) (by simp)
      exact Only.refl _ _
  · refine Only.then ?_ (only_updRail ..) (by simp)
    exact Only.refl _ _
theorem only_recordStop (s : State) (kind : Nat) (cause : Nat) (region : Nat) : Only [.sys] s (recordStop s kind cause region) := by
  unfold recordStop
  refine Only.then ?_ (only_updSys ..) (by simp)
  exact Only.refl _ _
theorem only_guardAtOnce (s : State) : Only [.com] s (guardAtOnce s) := by
  unfold guardAtOnce
  dsimp only
  refine Only.then ?_ (only_with_com ..) (by simp)
  exact Only.refl _ _
theorem only_immediateStop (s : State) (cause : Nat) (region : Nat) : Only [.com, .regs, .conv, .flt, .hw, .sys] s (immediateStop s cause region) := by
  unfold immediateStop
  dsimp only
  refine Only.ite _ (fun _ => ?_) (fun _ => ?_)
  · refine Only.then ?_ (only_recordStop ..) (by simp)
    exact Only.refl _ _
  · refine Only.then ?_ (only_setB ..) (by simp)
    refine Only.then ?_ (only_tally ..) (by simp)
    refine Only.then ?_ (only_updSys ..) (by simp)
    refine Only.then ?_ (only_guardAtOnce ..) (by simp)
    refine Only.then ?_ (only_darkAll ..) (by simp)
    refine Only.then ?_ (only_converterCut ..) (by simp)
    refine Only.then ?_ (only_recordStop ..) (by simp)
    exact Only.refl _ _
theorem only_orderlyStop (s : State) (k : StopKind) : Only [.hw, .sys] s (orderlyStop s k) := by
  unfold orderlyStop
  refine Only.ite _ (fun _ => ?_) (fun _ => ?_)
  · exact Only.refl _ _
  · dsimp only
    refine Only.then ?_ (only_setB ..) (by simp)
    refine Only.then ?_ (only_updSys ..) (by simp)
    exact Only.refl _ _
theorem only_guardJudge (s : State) (r : Nat) (td : Int) (slope : Int) : Only [.com, .regs, .conv, .flt, .hw, .sys] s (guardJudge s r td slope) := by
  unfold guardJudge
  refine Only.ite _ (fun _ => ?_) (fun _ => ?_)
  · refine Only.then ?_ (only_immediateStop ..) (by simp)
    exact Only.refl _ _
  · refine Only.ite _ (fun _ => ?_) (fun _ => ?_)
    · refine Only.ite _ (fun _ => ?_) (fun _ => ?_)
      · refine Only.then ?_ (only_recordStop ..) (by simp)
        exact Only.refl _ _
      · refine Only.ite _ (fun _ => ?_) (fun _ => ?_)
        · refine Only.then ?_ (only_orderlyStop ..) (by simp)
          refine Only.then ?_ (only_tally ..) (by simp)
          refine Only.then ?_ (only_recordStop ..) (by simp)
          exact Only.refl _ _
        · refine Only.then ?_ (only_immediateStop ..) (by simp)
          exact Only.refl _ _
    · exact Only.refl _ _
theorem only_guardInput (s : State) (r : Nat) (v : Word) : Only [.com, .regs, .conv, .flt, .hw, .sys] s (guardInput s r v) := by
  unfold guardInput
  dsimp only
  refine Only.ite _ (fun _ => ?_) (fun _ => ?_)
  · refine Only.then ?_ (only_updTh ..) (by simp)
    exact Only.refl _ _
  · refine Only.then ?_ (only_guardJudge ..) (by simp)
    refine Only.then ?_ (only_updTh ..) (by simp)
    refine Only.then ?_ (only_updTh ..) (by simp)
    exact Only.refl _ _
theorem only_diodeReq (s : State) (r : Nat) : Only [.sys] s (State.diodeReq s r) := by
  unfold State.diodeReq
  refine Only.ite _ (fun _ => ?_) (fun _ => ?_)
  · refine Only.then ?_ (only_updSys ..) (by simp)
    exact Only.refl _ _
  · exact Only.refl _ _
theorem only_stageBand (s : State) (r : Nat) (b : Nat) : Only [.stg, .ports] s (State.stageBand s r b) := by
  unfold State.stageBand
  dsimp only
  refine Only.then ?_ (only_stageSet ..) (by simp)
  exact Only.refl _ _
theorem only_evalBand (s : State) (r : Nat) (hi : Int) (lo : Int) : Only [.stg, .ports] s (State.evalBand s r hi lo) := by
  unfold State.evalBand
  dsimp only
  refine Only.ite _ (fun _ => ?_) (fun _ => ?_)
  · exact Only.refl _ _
  · refine Only.then ?_ (only_stageBand ..) (by simp)
    exact Only.refl _ _
theorem only_noMonitors (s : State) (r : Nat) : Only [.eng] s (State.noMonitors s r) := by
  unfold State.noMonitors
  refine Only.trans ?_ (Only.foldl _ (fun s a => ?_) _ _)
  · exact Only.refl _ _
  · refine Only.then ?_ (only_fwPlace ..) (by simp)
    exact Only.refl _ _
theorem only_ledFlush (s : State) : Only [.led] s (State.ledFlush s) := by
  unfold State.ledFlush
  refine Only.then ?_ (only_updLed ..) (by simp)
  exact Only.refl _ _
theorem only_harvestTake (s : State) : Only [.flt] s (State.harvestTake s) := by
  unfold State.harvestTake
  refine Only.ite _ (fun _ => ?_) (fun _ => ?_)
  · exact Only.refl _ _
  · refine Only.then ?_ (only_updFlt ..) (by simp)
    exact Only.refl _ _
theorem only_orderOffset (s : State) (x : Rail) (o : Int) : Only [.conv] s (State.orderOffset s x o) := by
  unfold State.orderOffset
  dsimp only
  refine Only.then ?_ (only_updRail ..) (by simp)
  exact Only.refl _ _
theorem only_stepRailSet (s : State) (x : Rail) : Only [.now, .conv] s (State.stepRailSet s x) := by
  unfold State.stepRailSet
  dsimp only
  refine Only.ite _ (fun _ => ?_) (fun _ => ?_)
  · exact Only.refl _ _
  · refine Only.then ?_ (only_updRail ..) (by simp)
    refine Only.then ?_ (only_reach ..) (by simp)
    exact Only.refl _ _
theorem only_stepRailOff (s : State) (x : Rail) : Only [.now, .conv] s (State.stepRailOff s x) := by
  unfold State.stepRailOff
  dsimp only
  refine Only.ite _ (fun _ => ?_) (fun _ => ?_)
  · exact Only.refl _ _
  · refine Only.then ?_ (only_updRail ..) (by simp)
    refine Only.then ?_ (only_reach ..) (by simp)
    exact Only.refl _ _
theorem only_cancel (s : State) : Only [.conv] s (State.cancel s) := by
  unfold State.cancel
  dsimp only
  refine Only.then ?_ (only_updConv ..) (by simp)
  refine Only.then ?_ (only_updRail ..) (by simp)
  refine Only.trans ?_ (Only.foldl _ (fun s a => ?_) _ _)
  · exact Only.refl _ _
  · refine Only.then ?_ (only_updPhase ..) (by simp)
    exact Only.refl _ _
theorem only_raiseTarget (s : State) : Only [.conv] s (State.raiseTarget s) := by
  unfold State.raiseTarget
  dsimp only
  refine Only.trans ?_ (Only.foldl _ (fun s a => ?_) _ _)
  · refine Only.trans ?_ (Only.foldl _ (fun s a => ?_) _ _)
    · exact Only.refl _ _
    · refine Only.ite _ (fun _ => ?_) (fun _ => ?_)
      · refine Only.then ?_ (only_updPhase ..) (by simp)
        exact Only.refl _ _
      · exact Only.refl _ _
  · refine Only.ite _ (fun _ => ?_) (fun _ => ?_)
    · refine Only.then ?_ (only_updPhase ..) (by simp)
      exact Only.refl _ _
    · exact Only.refl _ _
theorem only_convOut (s : State) : Only [.conv] s (State.convOut s) := by
  unfold State.convOut
  refine Only.then ?_ (only_updConv ..) (by simp)
  exact Only.refl _ _
theorem only_takeViboff (s : State) (v : Word) : Only [.conv] s (State.takeViboff s v) := by
  unfold State.takeViboff
  refine Only.then ?_ (only_orderOffset ..) (by simp)
  refine Only.then ?_ (only_convOut ..) (by simp)
  exact Only.refl _ _
theorem only_takeQoff (s : State) (v : Word) : Only [.conv] s (State.takeQoff s v) := by
  unfold State.takeQoff
  refine Only.then ?_ (only_orderOffset ..) (by simp)
  refine Only.then ?_ (only_orderOffset ..) (by simp)
  refine Only.then ?_ (only_convOut ..) (by simp)
  exact Only.refl _ _
theorem only_takeNtarget (s : State) (v : Word) : Only [.conv] s (State.takeNtarget s v) := by
  unfold State.takeNtarget
  refine Only.then ?_ (only_raiseTarget ..) (by simp)
  refine Only.then ?_ (only_updConv ..) (by simp)
  refine Only.then ?_ (only_convOut ..) (by simp)
  exact Only.refl _ _
theorem only_takeTrim (s : State) (n : Nat) (v : Word) : Only [.conv] s (State.takeTrim s n v) := by
  unfold State.takeTrim
  refine Only.ite _ (fun _ => ?_) (fun _ => ?_)
  · exact Only.refl _ _
  · dsimp only
    refine Only.then ?_ (only_updPhase ..) (by simp)
    refine Only.then ?_ (only_convOut ..) (by simp)
    exact Only.refl _ _
theorem only_takeCancel (s : State) (v : Word) : Only [.conv] s (State.takeCancel s v) := by
  unfold State.takeCancel
  refine Only.ite _ (fun _ => ?_) (fun _ => ?_)
  · refine Only.then ?_ (only_cancel ..) (by simp)
    refine Only.then ?_ (only_convOut ..) (by simp)
    exact Only.refl _ _
  · refine Only.then ?_ (only_convOut ..) (by simp)
    exact Only.refl _ _
theorem only_takeKerf (s : State) (r : Nat) (v : Word) : Only [.regs, .bud, .flt] s (State.takeKerf s r v) := by
  unfold State.takeKerf
  refine Only.ite _ (fun _ => ?_) (fun _ => ?_)
  · dsimp only
    refine Only.ite _ (fun _ => ?_) (fun _ => ?_)
    · refine Only.then ?_ (only_tally ..) (by simp)
      refine Only.then ?_ (only_cause ..) (by simp)
      refine Only.then ?_ (only_updBud ..) (by simp)
      refine Only.then ?_ (only_updKrf ..) (by simp)
      exact Only.refl _ _
    · refine Only.then ?_ (only_updKrf ..) (by simp)
      exact Only.refl _ _
  · exact Only.refl _ _
theorem only_takeShim (s : State) (r : Nat) (v : Word) : Only [.regs] s (State.takeShim s r v) := by
  unfold State.takeShim
  refine Only.ite _ (fun _ => ?_) (fun _ => ?_)
  · refine Only.then ?_ (only_updKrf ..) (by simp)
    exact Only.refl _ _
  · exact Only.refl _ _
theorem only_noteVin (s : State) (vin : Nat) : Only [.conv] s (State.noteVin s vin) := by
  unfold State.noteVin
  dsimp only
  refine Only.then ?_ (only_updConv ..) (by simp)
  exact Only.refl _ _
theorem only_noteRail (s : State) (x : Rail) (v : Nat) : Only [.conv] s (State.noteRail s x v) := by
  unfold State.noteRail
  dsimp only
  refine Only.then ?_ (only_updRail ..) (by simp)
  exact Only.refl _ _
theorem only_phaseFaulted (s : State) (n : Nat) : Only [.conv, .flt] s (State.phaseFaulted s n) := by
  unfold State.phaseFaulted
  dsimp only
  refine Only.ite _ (fun _ => ?_) (fun _ => ?_)
  · refine Only.ite _ (fun _ => ?_) (fun _ => ?_)
    · refine Only.then ?_ (only_raiseTarget ..) (by simp)
      refine Only.then ?_ (only_cancel ..) (by simp)
      refine Only.then ?_ (only_tally ..) (by simp)
      refine Only.then ?_ (only_updPhase ..) (by simp)
      exact Only.refl _ _
    · refine Only.then ?_ (only_tally ..) (by simp)
      refine Only.then ?_ (only_updPhase ..) (by simp)
      exact Only.refl _ _
  · exact Only.refl _ _
theorem only_phaseCmd (s : State) (n : Nat) (v : Nat) : Only [.conv, .flt] s (State.phaseCmd s n v).1 := by
  unfold State.phaseCmd
  dsimp only
  split
  · dsimp only
    exact Only.refl _ _
  · refine only_ite_fst _ (fun _ => ?_) (fun _ => ?_)
    · dsimp only
      refine Only.then ?_ (only_phaseFaulted ..) (by simp)
      refine Only.then ?_ (only_updPhase ..) (by simp)
      exact Only.refl _ _
    · dsimp only
      exact Only.refl _ _
  · refine only_ite_fst _ (fun _ => ?_) (fun _ => ?_)
    · dsimp only
      exact Only.refl _ _
    · refine only_ite_fst _ (fun _ => ?_) (fun _ => ?_)
      · dsimp only
        exact Only.refl _ _
      · refine only_ite_fst _ (fun _ => ?_) (fun _ => ?_)
        · dsimp only
          exact Only.refl _ _
        · dsimp only
          refine Only.then ?_ (only_raiseTarget ..) (by simp)
          refine Only.then ?_ (only_updPhase ..) (by simp)
          exact Only.refl _ _
theorem only_convMoved (s : State) : Only [.conv] s (State.convMoved s) := by
  unfold State.convMoved
  dsimp only
  refine Only.then ?_ (only_raiseTarget ..) (by simp)
  refine Only.trans ?_ (Only.foldl _ (fun s a => ?_) _ _)
  · exact Only.refl _ _
  · refine Only.then ?_ (only_updPhase ..) (by simp)
    exact Only.refl _ _
theorem only_railPhasesOff (s : State) (x : Rail) : Only [.conv] s (State.railPhasesOff s x) := by
  unfold State.railPhasesOff
  refine Only.trans ?_ (Only.foldl _ (fun s a => ?_) _ _)
  · exact Only.refl _ _
  · refine Only.then ?_ (only_updPhase ..) (by simp)
    exact Only.refl _ _
theorem only_railStart (s : State) (x : Rail) : Only [.conv] s (State.railStart s x) := by
  unfold State.railStart
  dsimp only
  refine Only.ite _ (fun _ => ?_) (fun _ => ?_)
  · refine Only.then ?_ (only_updConv ..) (by simp)
    refine Only.then ?_ (only_updRail ..) (by simp)
    exact Only.refl _ _
  · exact Only.refl _ _
theorem only_railFault (s : State) (x : Rail) : Only [.regs, .conv, .flt, .hw, .sys] s (State.railFault s x) := by
  unfold State.railFault
  dsimp only
  split
  · refine Only.then ?_ (only_updRail ..) (by simp)
    refine Only.then ?_ (only_railPhasesOff ..) (by simp)
    exact Only.refl _ _
  · refine Only.then ?_ (only_updRail ..) (by simp)
    refine Only.then ?_ (only_railPhasesOff ..) (by simp)
    exact Only.refl _ _
  · refine Only.then ?_ (only_updRail ..) (by simp)
    refine Only.then ?_ (only_railPhasesOff ..) (by simp)
    exact Only.refl _ _
  · refine Only.then ?_ (only_updRail ..) (by simp)
    refine Only.then ?_ (only_railPhasesOff ..) (by simp)
    exact Only.refl _ _
  · refine Only.ite _ (fun _ => ?_) (fun _ => ?_)
    · refine Only.then ?_ (only_updRail ..) (by simp)
      refine Only.then ?_ (only_railPhasesOff ..) (by simp)
      exact Only.refl _ _
    · refine Only.then ?_ (only_setB ..) (by simp)
      refine Only.then ?_ (only_tally ..) (by simp)
      refine Only.then ?_ (only_updSys ..) (by simp)
      refine Only.then ?_ (only_darkAll ..) (by simp)
      refine Only.then ?_ (only_updRail ..) (by simp)
      refine Only.then ?_ (only_converterCut ..) (by simp)
      refine Only.then ?_ (only_updRail ..) (by simp)
      refine Only.then ?_ (only_railPhasesOff ..) (by simp)
      exact Only.refl _ _
theorem only_railCoolant (s : State) (x : Rail) : Only [.conv] s (State.railCoolant s x) := by
  unfold State.railCoolant
  split
  · refine Only.then ?_ (only_updRail ..) (by simp)
    exact Only.refl _ _
  · refine Only.then ?_ (only_updRail ..) (by simp)
    exact Only.refl _ _
  · refine Only.then ?_ (only_updRail ..) (by simp)
    exact Only.refl _ _
  · refine Only.then ?_ (only_updRail ..) (by simp)
    exact Only.refl _ _
  · exact Only.refl _ _
theorem only_alertOut (s : State) : Only [.ports] s (State.alertOut s) := by
  unfold State.alertOut
  dsimp only
  refine Only.ite _ (fun _ => ?_) (fun _ => ?_)
  · refine Only.then ?_ (only_dvtSendAll ..) (by simp)
    refine Only.then ?_ (only_updPorts ..) (by simp)
    exact Only.refl _ _
  · exact Only.refl _ _
theorem only_modelReached (s : State) (k : ModelRef) : Only [.stg] s (State.modelReached s k) := by
  unfold State.modelReached
  dsimp only
  refine Only.then ?_ (only_updStg ..) (by simp)
  refine Only.trans ?_ (Only.foldl _ (fun s a => ?_) _ _)
  · exact Only.refl _ _
  · refine Only.then ?_ (only_updRec ..) (by simp)
    exact Only.refl _ _
theorem only_doRead (s : State) (off : Nat) : Only [.hw] s (State.doRead s off) := by
  unfold State.doRead
  dsimp only
  refine Only.then ?_ (only_updHw ..) (by simp)
  exact Only.refl _ _
theorem only_takeOn (s : State) (l : LinkId) (d : Dir) (p : Packet) : Only [.nodes, .links] s (State.takeOn s l d p) := by
  unfold State.takeOn
  dsimp only
  refine Only.ite _ (fun _ => ?_) (fun _ => ?_)
  · refine Only.then ?_ (only_updNode ..) (by simp)
    refine Only.then ?_ (only_updDir ..) (by simp)
    exact Only.refl _ _
  · refine Only.then ?_ (only_updDir ..) (by simp)
    exact Only.refl _ _
theorem only_askReset (s : State) (l : LinkId) : Only [.links] s (State.askReset s l) := by
  unfold State.askReset
  refine Only.then ?_ (only_updDir ..) (by simp)
  refine Only.then ?_ (only_updDir ..) (by simp)
  exact Only.refl _ _
theorem only_powerLinks (s : State) : Only [.links] s (State.powerLinks s) := by
  unfold State.powerLinks
  refine Only.trans ?_ (Only.foldl _ (fun s a => ?_) _ _)
  · exact Only.refl _ _
  · dsimp only
    refine Only.ite _ (fun _ => ?_) (fun _ => ?_)
    · refine Only.then ?_ (only_askReset ..) (by simp)
      refine Only.then ?_ (only_askReset ..) (by simp)
      exact Only.refl _ _
    · refine Only.then ?_ (only_askReset ..) (by simp)
      exact Only.refl _ _
theorem only_selectPath (s : State) (n : Nat) (spare : Bool) : Only [.nodes, .links] s (State.selectPath s n spare) := by
  unfold State.selectPath
  dsimp only
  refine Only.ite _ (fun _ => ?_) (fun _ => ?_)
  · exact Only.refl _ _
  · refine Only.then ?_ (only_askReset ..) (by simp)
    refine Only.then ?_ (only_updNode ..) (by simp)
    exact Only.refl _ _
theorem only_setCarry (s : State) (pond : Nat) (child : Nat) : Only [.links] s (State.setCarry s pond child) := by
  unfold State.setCarry
  refine Only.trans ?_ (Only.foldl _ (fun s a => ?_) _ _)
  · exact Only.refl _ _
  · refine Only.then ?_ (only_sendPort ..) (by simp)
    exact Only.refl _ _
theorem only_siblingsCarry (s : State) (n : Nat) : Only [.flt] s (State.siblingsCarry s n) := by
  unfold State.siblingsCarry
  refine Only.trans ?_ (Only.foldl _ (fun s a => ?_) _ _)
  · exact Only.refl _ _
  · refine Only.then ?_ (only_updNflt ..) (by simp)
    exact Only.refl _ _
theorem only_sendTime (s : State) (n : Nat) : Only [.links] s (State.sendTime s n) := by
  unfold State.sendTime
  refine Only.then ?_ (only_hubSend ..) (by simp)
  exact Only.refl _ _
theorem only_timeAll (s : State) : Only [.links, .sys] s (State.timeAll s) := by
  unfold State.timeAll
  dsimp only
  refine Only.then ?_ (only_updSys ..) (by simp)
  refine Only.trans ?_ (Only.foldl _ (fun s a => ?_) _ _)
  · exact Only.refl _ _
  · refine Only.then ?_ (only_sendTime ..) (by simp)
    exact Only.refl _ _
theorem only_sendProbe (s : State) (n : Nat) (port : Nat) : Only [.nodes, .links, .sys] s (State.sendProbe s n port) := by
  unfold State.sendProbe
  dsimp only
  refine Only.ite _ (fun _ => ?_) (fun _ => ?_)
  · refine Only.then ?_ (only_sendPort ..) (by simp)
    refine Only.ite _ (fun _ => ?_) (fun _ => ?_)
    · refine Only.then ?_ (only_updNode ..) (by simp)
      refine Only.then ?_ (only_updSys ..) (by simp)
      exact Only.refl _ _
    · refine Only.then ?_ (only_updSys ..) (by simp)
      exact Only.refl _ _
  · refine Only.then ?_ (only_hubSend ..) (by simp)
    refine Only.then ?_ (only_updSys ..) (by simp)
    exact Only.refl _ _
theorem only_closePond (s : State) (n : Nat) (k : Nat) : Only [.nodes, .links] s (State.closePond s n k) := by
  unfold State.closePond
  dsimp only
  refine Only.ite _ (fun _ => ?_) (fun _ => ?_)
  · refine Only.ite _ (fun _ => ?_) (fun _ => ?_)
    · refine Only.then ?_ (only_updNode ..) (by simp)
      refine Only.then ?_ (only_updNode ..) (by simp)
      exact Only.refl _ _
    · refine Only.then ?_ (only_updNode ..) (by simp)
      exact Only.refl _ _
  · refine Only.then ?_ (only_hubSend ..) (by simp)
    refine Only.then ?_ (only_hubSend ..) (by simp)
    refine Only.then ?_ (only_updNode ..) (by simp)
    exact Only.refl _ _
theorem only_enumNextPlace (k : Nat) (s : State) : Only [.nodes, .links, .sys] s (State.enumNextPlace k s) := by
  induction k generalizing s with
  | zero => exact Only.refl _ _
  | succ k ih =>
    unfold State.enumNextPlace
    split
    · exact Only.refl _ _
    · refine Only.ite _ (fun _ => ?_) (fun _ => ?_)
      · refine Only.then ?_ (only_sendProbe ..) (by simp)
        exact (only_updSys ..).mono (by simp)
      · dsimp only
        refine Only.ite _ (fun _ => ?_) (fun _ => ?_)
        · split
          · refine Only.then ?_ (only_sendProbe ..) (by simp)
            refine Only.then ?_ (only_updSys ..) (by simp)
            refine Only.then ?_ (only_updSys ..) (by simp)
            exact (only_closePond ..).mono (by simp)
          · refine Only.then ?_ (only_updSys ..) (by simp)
            refine Only.then ?_ (only_updSys ..) (by simp)
            exact (only_closePond ..).mono (by simp)
        · refine Only.trans ?_ (ih _)
          refine Only.then ?_ (only_updSys ..) (by simp)
          exact (only_closePond ..).mono (by simp)
theorem only_enumNextAdopt (s : State) : Only [.nodes, .links, .sys] s (State.enumNextAdopt s) := by
  unfold State.enumNextAdopt
  dsimp only
  split
  · refine Only.then ?_ (only_sendProbe ..) (by simp)
    refine Only.then ?_ (only_updSys ..) (by simp)
    exact Only.refl _ _
  · refine Only.then ?_ (only_updSys ..) (by simp)
    exact Only.refl _ _
theorem only_enumStart (s : State) : Only [.nodes, .links, .sys] s (State.enumStart s) := by
  unfold State.enumStart
  refine Only.ite _ (fun _ => ?_) (fun _ => ?_)
  · refine Only.then ?_ (only_sendProbe ..) (by simp)
    refine Only.then ?_ (only_updSys ..) (by simp)
    exact Only.refl _ _
  · exact Only.refl _ _
theorem only_enumStop (s : State) (fresh : Bool) : Only [.nodes, .links, .flt, .sys] s (State.enumStop s fresh) := by
  unfold State.enumStop
  dsimp only
  split
  · refine Only.then ?_ (only_sendProbe ..) (by simp)
    refine Only.then ?_ (only_updSys ..) (by simp)
    refine Only.trans ?_ (Only.foldl _ (fun s a => ?_) _ _)
    · exact Only.refl _ _
    · refine Only.ite _ (fun _ => ?_) (fun _ => ?_)
      · refine Only.then ?_ (only_hubSend ..) (by simp)
        refine Only.then ?_ (only_updNode ..) (by simp)
        refine Only.then ?_ (only_updFlt ..) (by simp)
        exact Only.refl _ _
      · refine Only.then ?_ (only_closePond ..) (by simp)
        refine Only.then ?_ (only_updFlt ..) (by simp)
        exact Only.refl _ _
  · refine Only.then ?_ (only_updSys ..) (by simp)
    refine Only.trans ?_ (Only.foldl _ (fun s a => ?_) _ _)
    · exact Only.refl _ _
    · refine Only.ite _ (fun _ => ?_) (fun _ => ?_)
      · refine Only.then ?_ (only_hubSend ..) (by simp)
        refine Only.then ?_ (only_updNode ..) (by simp)
        refine Only.then ?_ (only_updFlt ..) (by simp)
        exact Only.refl _ _
      · refine Only.then ?_ (only_closePond ..) (by simp)
        refine Only.then ?_ (only_updFlt ..) (by simp)
        exact Only.refl _ _
theorem only_enumAdvance (s : State) : Only [.nodes, .links, .flt, .sys] s (State.enumAdvance s) := by
  unfold State.enumAdvance
  refine Only.ite _ (fun _ => ?_) (fun _ => ?_)
  · refine Only.then ?_ (only_enumStop ..) (by simp)
    exact Only.refl _ _
  · refine Only.then ?_ (only_enumNextPlace ..) (by simp)
    exact Only.refl _ _
theorem only_setLive (s : State) (r : Nat) : Only [.eng] s (State.setLive s r) := by
  unfold State.setLive
  refine Only.ite _ (fun _ => ?_) (fun _ => ?_)
  · refine Only.then ?_ (only_fwPlace ..) (by simp)
    exact Only.refl _ _
  · exact Only.refl _ _
theorem only_lose (s : State) (n : Nat) (cause : Nat) : Only [.eng, .flt] s (State.lose s n cause) := by
  unfold State.lose
  dsimp only
  split
  · refine Only.then ?_ (only_setLive ..) (by simp)
    refine Only.then ?_ (only_updFlt ..) (by simp)
    refine Only.then ?_ (only_updNflt ..) (by simp)
    exact Only.refl _ _
  · refine Only.then ?_ (only_updFlt ..) (by simp)
    refine Only.then ?_ (only_updNflt ..) (by simp)
    exact Only.refl _ _
theorem only_loseSubtree (s : State) (n : Nat) : Only [.eng, .flt] s (State.loseSubtree s n) := by
  unfold State.loseSubtree
  refine Only.trans ?_ (Only.foldl _ (fun s a => ?_) _ _)
  · exact Only.refl _ _
  · dsimp only
    refine Only.ite _ (fun _ => ?_) (fun _ => ?_)
    · refine Only.then ?_ (only_lose ..) (by simp)
      refine Only.then ?_ (only_updNflt ..) (by simp)
      exact Only.refl _ _
    · refine Only.then ?_ (only_updNflt ..) (by simp)
      exact Only.refl _ _
theorem only_rosterWithout (s : State) (n : Nat) : Only [.links] s (State.rosterWithout s n) := by
  unfold State.rosterWithout
  dsimp only
  refine Only.ite _ (fun _ => ?_) (fun _ => ?_)
  · exact Only.refl _ _
  · refine Only.then ?_ (only_hubSend ..) (by simp)
    exact Only.refl _ _
theorem only_fresh (s : State) (cold : Bool) : Only [.epoch, .nodes, .links, .pans, .eng, .com, .safe, .views, .regs, .conv, .stg, .tel, .bud, .shim, .led, .tide, .flt, .hw, .log, .sys, .ports] s (s.fresh cold) :=
  ⟨rfl, fun p hp => by cases p <;> first | exact absurd (by decide) hp | rfl⟩
theorem only_enterGuard (s : State) : Only [.links, .hw, .sys] s (State.enterGuard s) := by
  unfold State.enterGuard
  dsimp only
  refine Only.ite _ (fun _ => ?_) (fun _ => ?_)
  · refine Only.then ?_ (only_setB ..) (by simp)
    refine Only.then ?_ (only_updSys ..) (by simp)
    refine Only.then ?_ (only_powerLinks ..) (by simp)
    exact Only.refl _ _
  · refine Only.then ?_ (only_setB ..) (by simp)
    refine Only.then ?_ (only_powerLinks ..) (by simp)
    exact Only.refl _ _
theorem only_warmReset (s : State) : Only [.epoch, .nodes, .links, .pans, .eng, .com, .safe, .views, .regs, .conv, .stg, .tel, .bud, .shim, .led, .tide, .flt, .hw, .log, .sys, .ports] s (State.warmReset s) := by
  unfold State.warmReset
  refine Only.then ?_ (only_enterGuard ..) (by simp)
  refine Only.then ?_ (only_tally ..) (by simp)
  refine Only.then ?_ (only_fresh ..) (by simp)
  exact Only.refl _ _
theorem only_coldOff (s : State) : Only [.epoch, .nodes, .links, .pans, .eng, .com, .safe, .views, .regs, .conv, .stg, .tel, .bud, .shim, .led, .tide, .flt, .hw, .log, .sys, .ports] s (State.coldOff s) := by
  unfold State.coldOff
  dsimp only
  refine Only.then ?_ (only_with_hw ..) (by simp)
  refine Only.then ?_ (only_fresh ..) (by simp)
  exact Only.refl _ _
theorem only_refuseBoot (s : State) (code : Nat) : Only [.hw, .sys] s (State.refuseBoot s code) := by
  unfold State.refuseBoot
  refine Only.then ?_ (only_setB ..) (by simp)
  refine Only.then ?_ (only_updSys ..) (by simp)
  exact Only.refl _ _
theorem only_loadImage (s : State) (i : Image) : Only [.eng, .com, .safe, .conv, .sys] s (State.loadImage s i) := by
  unfold State.loadImage
  dsimp only
  refine Only.then ?_ (only_updSys ..) (by simp)
  refine Only.then ?_ (only_updConv ..) (by simp)
  refine Only.then ?_ (only_updEng ..) (by simp)
  refine Only.then ?_ (only_with_com_safe ..) (by simp)
  exact Only.refl _ _
theorem only_bootImage (s : State) : Only [.eng, .com, .safe, .conv, .hw, .store, .sys] s (State.bootImage s) := by
  unfold State.bootImage
  split
  · dsimp only
    refine Only.then ?_ (only_updSys ..) (by simp)
    refine Only.then ?_ (only_loadImage ..) (by simp)
    refine Only.ite _ (fun _ => ?_) (fun _ => ?_)
    · refine Only.then ?_ (only_with_store ..) (by simp)
      exact Only.refl _ _
    · exact Only.refl _ _
  · refine Only.then ?_ (only_refuseBoot ..) (by simp)
    exact Only.refl _ _
theorem only_bootRecords (s : State) : Only [.flt, .sys] s (State.bootRecords s) := by
  unfold State.bootRecords
  dsimp only
  refine Only.then ?_ (only_updSys ..) (by simp)
  refine Only.then ?_ (only_updFlt ..) (by simp)
  exact Only.refl _ _
theorem only_markMissing (s : State) : Only [.flt] s (State.markMissing s) := by
  unfold State.markMissing
  dsimp only
  refine Only.trans ?_ (Only.foldl _ (fun s a => ?_) _ _)
  · refine Only.then ?_ (only_updFlt ..) (by simp)
    exact Only.refl _ _
  · refine Only.ite _ (fun _ => ?_) (fun _ => ?_)
    · refine Only.then ?_ (only_updNflt ..) (by simp)
      exact Only.refl _ _
    · exact Only.refl _ _
theorem only_sendFactory (s : State) (n : Nat) : Only [.links] s (State.sendFactory s n) := by
  unfold State.sendFactory
  refine Only.trans ?_ (Only.foldl _ (fun s a => ?_) _ _)
  · exact Only.refl _ _
  · refine Only.then ?_ (only_hubSend ..) (by simp)
    exact Only.refl _ _
theorem only_bootStage (s : State) : Only [.links, .regs, .stg, .sys, .ports] s (State.bootStage s) := by
  unfold State.bootStage
  dsimp only
  refine Only.then ?_ (only_updSys ..) (by simp)
  refine Only.then ?_ (only_stageSet ..) (by simp)
  refine Only.ite _ (fun _ => ?_) (fun _ => ?_)
  · refine Only.ite _ (fun _ => ?_) (fun _ => ?_)
    · refine Only.trans ?_ (Only.foldl _ (fun s a => ?_) _ _)
      · exact Only.refl _ _
      · refine Only.then ?_ (only_sendFactory ..) (by simp)
        exact Only.refl _ _
    · exact Only.refl _ _
  · refine Only.trans ?_ (Only.foldl _ (fun s a => ?_) _ _)
    · refine Only.ite _ (fun _ => ?_) (fun _ => ?_)
      · refine Only.trans ?_ (Only.foldl _ (fun s a => ?_) _ _)
        · exact Only.refl _ _
        · refine Only.then ?_ (only_sendFactory ..) (by simp)
          exact Only.refl _ _
      · exact Only.refl _ _
    · refine Only.then ?_ (only_updTh ..) (by simp)
      exact Only.refl _ _
theorem only_bootAligned (s : State) : Only [.links, .regs, .stg, .store, .sys, .ports] s (State.bootAligned s) := by
  unfold State.bootAligned
  dsimp only
  refine Only.then ?_ (only_bootStage ..) (by simp)
  refine Only.then ?_ (only_updSys ..) (by simp)
  refine Only.then ?_ (only_timeAll ..) (by simp)
  split
  · refine Only.then ?_ (only_with_store ..) (by simp)
    exact Only.refl _ _
  · exact Only.refl _ _
theorem only_bootMismatch (s : State) : Only [.links, .eng, .com, .safe, .regs, .conv, .stg, .flt, .hw, .store, .sys, .ports] s (State.bootMismatch s) := by
  unfold State.bootMismatch
  split
  · dsimp only
    refine Only.ite _ (fun _ => ?_) (fun _ => ?_)
    · refine Only.then ?_ (only_bootImage ..) (by simp)
      refine Only.then ?_ (only_updSys ..) (by simp)
      refine Only.then ?_ (only_with_store ..) (by simp)
      exact Only.refl _ _
    · refine Only.ite _ (fun _ => ?_) (fun _ => ?_)
      · refine Only.then ?_ (only_refuseBoot ..) (by simp)
        refine Only.then ?_ (only_markMissing ..) (by simp)
        refine Only.then ?_ (only_bootImage ..) (by simp)
        refine Only.then ?_ (only_updSys ..) (by simp)
        refine Only.then ?_ (only_with_store ..) (by simp)
        exact Only.refl _ _
      · refine Only.then ?_ (only_bootAligned ..) (by simp)
        refine Only.then ?_ (only_markMissing ..) (by simp)
        refine Only.then ?_ (only_bootImage ..) (by simp)
        refine Only.then ?_ (only_updSys ..) (by simp)
        refine Only.then ?_ (only_with_store ..) (by simp)
        exact Only.refl _ _
  · refine Only.then ?_ (only_refuseBoot ..) (by simp)
    exact Only.refl _ _
theorem only_bootEnum (s : State) : Only [.links, .eng, .com, .safe, .regs, .conv, .stg, .flt, .hw, .store, .sys, .ports] s (State.bootEnum s) := by
  unfold State.bootEnum
  refine Only.ite _ (fun _ => ?_) (fun _ => ?_)
  · dsimp only
    refine Only.ite _ (fun _ => ?_) (fun _ => ?_)
    · refine Only.then ?_ (only_bootMismatch ..) (by simp)
      refine Only.then ?_ (only_markMissing ..) (by simp)
      exact Only.refl _ _
    · refine Only.then ?_ (only_bootAligned ..) (by simp)
      refine Only.then ?_ (only_markMissing ..) (by simp)
      exact Only.refl _ _
  · exact Only.refl _ _
theorem only_bootBegin (s : State) : Only [.nodes, .links, .eng, .com, .safe, .regs, .conv, .stg, .flt, .hw, .store, .sys, .ports] s (State.bootBegin s) := by
  unfold State.bootBegin
  refine Only.ite _ (fun _ => ?_) (fun _ => ?_)
  · refine Only.then ?_ (only_bootEnum ..) (by simp)
    refine Only.then ?_ (only_enumStart ..) (by simp)
    exact Only.refl _ _
  · exact Only.refl _ _
theorem only_bootBoundary (s : State) : Only [.stg, .flt, .hw, .sys, .ports] s (State.bootBoundary s) := by
  unfold State.bootBoundary
  refine Only.ite _ (fun _ => ?_) (fun _ => ?_)
  · exact Only.refl _ _
  · split
    · dsimp only
      refine Only.trans ?_ (Only.foldl _ (fun s a => ?_) _ _)
      · refine Only.then ?_ (only_updSys ..) (by simp)
        exact Only.refl _ _
      · refine Only.then ?_ (only_diodeReq ..) (by simp)
        exact Only.refl _ _
    · refine Only.ite _ (fun _ => ?_) (fun _ => ?_)
      · exact Only.refl _ _
      · refine Only.ite _ (fun _ => ?_) (fun _ => ?_)
        · refine Only.then ?_ (only_stageSet ..) (by simp)
          exact Only.refl _ _
        · refine Only.ite _ (fun _ => ?_) (fun _ => ?_)
          · dsimp only
            refine Only.then ?_ (only_setB ..) (by simp)
            refine Only.then ?_ (only_tally ..) (by simp)
            refine Only.then ?_ (only_updSys ..) (by simp)
            exact Only.refl _ _
          · refine Only.then ?_ (only_updSys ..) (by simp)
            exact Only.refl _ _
    · refine Only.then ?_ (only_updSys ..) (by simp)
      exact Only.refl _ _
    · exact Only.refl _ _
theorem only_harvestDone (s : State) (ok : Bool) : Only [.flt, .store] s (State.harvestDone s ok) := by
  unfold State.harvestDone
  refine Only.ite _ (fun _ => ?_) (fun _ => ?_)
  · exact Only.refl _ _
  · refine Only.ite _ (fun _ => ?_) (fun _ => ?_)
    · dsimp only
      refine Only.then ?_ (only_with_flt_store ..) (by simp)
      exact Only.refl _ _
    · refine Only.then ?_ (only_updFlt ..) (by simp)
      exact Only.refl _ _
theorem only_clearFlags (s : State) (ls : List Nat) : Only [.eng] s (State.clearFlags s ls) := by
  unfold State.clearFlags
  refine Only.trans ?_ (Only.foldl _ (fun s a => ?_) _ _)
  · exact Only.refl _ _
  · refine Only.then ?_ (only_updLdyn ..) (by simp)
    exact Only.refl _ _
theorem only_loopFlag (s : State) (loop : Nat) (k : Nat) : Only [.eng, .flt] s (State.loopFlag s loop k) := by
  unfold State.loopFlag
  refine Only.ite _ (fun _ => ?_) (fun _ => ?_)
  · exact Only.refl _ _
  · refine Only.then ?_ (only_tally ..) (by simp)
    refine Only.then ?_ (only_updLdyn ..) (by simp)
    exact Only.refl _ _
theorem only_setMreg (s : State) (lane : Nat) (r : Nat) (v : Word) : Only [.eng] s (State.setMreg s lane r v) := by
  unfold State.setMreg
  refine Only.then ?_ (only_updLane ..) (by simp)
  exact Only.refl _ _
theorem only_setMacc (s : State) (lane : Nat) (a : Nat) (v : BitVec 64) : Only [.eng] s (State.setMacc s lane a v) := by
  unfold State.setMacc
  refine Only.then ?_ (only_updLane ..) (by simp)
  exact Only.refl _ _
theorem only_raiseOv (s : State) (lane : Nat) (b : Bool) : Only [.eng, .flt] s (State.raiseOv s lane b) := by
  unfold State.raiseOv
  refine Only.ite _ (fun _ => ?_) (fun _ => ?_)
  · refine Only.then ?_ (only_loopFlag ..) (by simp)
    refine Only.then ?_ (only_updRun ..) (by simp)
    exact Only.refl _ _
  · exact Only.refl _ _
theorem only_raiseSat (s : State) (lane : Nat) (b : Bool) : Only [.eng, .flt] s (State.raiseSat s lane b) := by
  unfold State.raiseSat
  refine Only.ite _ (fun _ => ?_) (fun _ => ?_)
  · refine Only.then ?_ (only_loopFlag ..) (by simp)
    refine Only.then ?_ (only_updRun ..) (by simp)
    exact Only.refl _ _
  · exact Only.refl _ _
theorem only_raiseBounds (s : State) (lane : Nat) : Only [.eng, .flt] s (State.raiseBounds s lane) := by
  unfold State.raiseBounds
  refine Only.then ?_ (only_loopFlag ..) (by simp)
  exact Only.refl _ _
theorem only_putSat (s : State) (lane : Nat) (r : Nat) (x : Word × Bool) : Only [.eng, .flt] s (State.putSat s lane r x) := by
  unfold State.putSat
  refine Only.then ?_ (only_raiseSat ..) (by simp)
  refine Only.then ?_ (only_setMreg ..) (by simp)
  exact Only.refl _ _
theorem only_putOv (s : State) (lane : Nat) (a : Nat) (x : BitVec 64 × Bool) : Only [.eng, .flt] s (State.putOv s lane a x) := by
  unfold State.putOv
  refine Only.then ?_ (only_raiseOv ..) (by simp)
  refine Only.then ?_ (only_setMacc ..) (by simp)
  exact Only.refl _ _
theorem only_freeLane (s : State) (lane : Nat) (loop : Nat) : Only [.eng, .views] s (State.freeLane s lane loop) := by
  unfold State.freeLane
  dsimp only
  refine Only.then ?_ (only_with_views ..) (by simp)
  refine Only.then ?_ (only_updLdyn ..) (by simp)
  refine Only.then ?_ (only_updLane ..) (by simp)
  exact Only.refl _ _
theorem only_endRun (s : State) (lane : Nat) (r : Run) : Only [.eng, .views, .flt] s (State.endRun s lane r) := by
  unfold State.endRun
  dsimp only
  refine Only.then ?_ (only_freeLane ..) (by simp)
  refine Only.then ?_ (only_tally ..) (by simp)
  refine Only.ite _ (fun _ => ?_) (fun _ => ?_)
  · refine Only.then ?_ (only_loopFlag ..) (by simp)
    exact Only.refl _ _
  · exact Only.refl _ _
theorem only_abortRun (s : State) (lane : Nat) (r : Run) : Only [.eng, .views] s (State.abortRun s lane r) := by
  unfold State.abortRun
  refine Only.then ?_ (only_freeLane ..) (by simp)
  exact Only.refl _ _
theorem only_mStep {ps : List Part} (hp : [Part.now, .eng, .views] ⊆ ps) (s : State) (lane : Nat) (w : Word) (x : Issue) (f : State → State) (h : ∀ u, Only ps u (f u)) : Only ps s (State.mStep s lane w x f) := by
  unfold State.mStep
  split
  · exact Only.refl _ _
  · refine Only.ite _ (fun _ => (only_abortRun ..).mono (List.Subset.trans (by simp) hp)) (fun _ => ?_)
    refine Only.ite _ (fun _ => Only.refl _ _) (fun _ => ?_)
    refine Only.ite _ (fun _ => Only.refl _ _) (fun _ => ?_)
    refine Only.ite _ (fun _ => Only.refl _ _) (fun _ => ?_)
    dsimp only
    refine Only.ite _ (fun _ => Only.refl _ _) (fun _ => ?_)
    refine Only.then ?_ (only_updRun ..) (List.Subset.trans (by simp) hp)
    refine Only.trans ?_ (h _)
    refine Only.then ?_ (only_updRun ..) (List.Subset.trans (by simp) hp)
    exact (only_reach ..).mono (List.Subset.trans (by simp) hp)
theorem only_writePort (s : State) (p : Packet) (k : Nat) : Only [.links] s (State.writePort s p k) := by
  unfold State.writePort
  refine Only.then ?_ (only_sendPort ..) (by simp)
  exact Only.refl _ _
theorem only_loopWrite (s : State) (h : Hdr) (sel : Nat) (v : Word) : Only [.links] s (State.loopWrite s h sel v) := by
  unfold State.loopWrite
  dsimp only
  refine Only.ite _ (fun _ => ?_) (fun _ => ?_)
  · refine Only.trans ?_ (Only.foldl _ (fun s a => ?_) _ _)
    · refine Only.trans ?_ (Only.foldl _ (fun s a => ?_) _ _)
      · exact Only.refl _ _
      · refine Only.then ?_ (only_writePort ..) (by simp)
        exact Only.refl _ _
    · split
      · refine Only.then ?_ (only_writePort ..) (by simp)
        exact Only.refl _ _
      · exact Only.refl _ _
  · split
    · refine Only.then ?_ (only_writePort ..) (by simp)
      exact Only.refl _ _
    · exact Only.refl _ _
theorem only_noteClamped (s : State) (r : Nat) (key : Nat) (b : Bool) : Only [.regs] s (State.noteClamped s r key b) := by
  unfold State.noteClamped
  refine Only.then ?_ (only_updReg ..) (by simp)
  exact Only.refl _ _
theorem only_outNode (s : State) (key : Nat) (dest : Nat) (v : Word) : Only [.links, .regs] s (State.outNode s key dest v) := by
  unfold State.outNode
  dsimp only
  split
  · refine Only.ite _ (fun _ => ?_) (fun _ => ?_)
    · refine Only.then ?_ (only_loopWrite ..) (by simp)
      refine Only.then ?_ (only_noteClamped ..) (by simp)
      exact Only.refl _ _
    · refine Only.then ?_ (only_noteClamped ..) (by simp)
      exact Only.refl _ _
  · refine Only.then ?_ (only_loopWrite ..) (by simp)
    exact Only.refl _ _
theorem only_outConv (s : State) (code : Nat) (v : Word) : Only [.conv] s (State.outConv s code v) := by
  unfold State.outConv
  refine Only.ite _ (fun _ => ?_) (fun _ => ?_)
  · refine Only.then ?_ (only_takeViboff ..) (by simp)
    exact Only.refl _ _
  · refine Only.ite _ (fun _ => ?_) (fun _ => ?_)
    · refine Only.then ?_ (only_takeQoff ..) (by simp)
      exact Only.refl _ _
    · refine Only.ite _ (fun _ => ?_) (fun _ => ?_)
      · refine Only.then ?_ (only_takeNtarget ..) (by simp)
        exact Only.refl _ _
      · refine Only.ite _ (fun _ => ?_) (fun _ => ?_)
        · refine Only.then ?_ (only_takeCancel ..) (by simp)
          exact Only.refl _ _
        · refine Only.ite _ (fun _ => ?_) (fun _ => ?_)
          · refine Only.then ?_ (only_takeTrim ..) (by simp)
            exact Only.refl _ _
          · exact Only.refl _ _
theorem only_outKrf (s : State) (key : Nat) (dest : Nat) (v : Word) : Only [.regs, .bud, .flt] s (State.outKrf s key dest v) := by
  unfold State.outKrf
  dsimp only
  refine Only.ite _ (fun _ => ?_) (fun _ => ?_)
  · refine Only.then ?_ (only_takeKerf ..) (by simp)
    refine Only.then ?_ (only_noteClamped ..) (by simp)
    exact Only.refl _ _
  · refine Only.then ?_ (only_takeShim ..) (by simp)
    refine Only.then ?_ (only_noteClamped ..) (by simp)
    exact Only.refl _ _
theorem only_outSend (s : State) (key : Nat) (bind : Word) (v : Word) (first : Nat) : Only [.links, .eng, .com, .regs, .conv, .bud, .flt, .hw, .sys] s (State.outSend s key bind v first) := by
  unfold State.outSend
  dsimp only
  split
  · refine Only.then ?_ (only_outNode ..) (by simp)
    exact Only.refl _ _
  · refine Only.then ?_ (only_outConv ..) (by simp)
    exact Only.refl _ _
  · refine Only.then ?_ (only_outKrf ..) (by simp)
    exact Only.refl _ _
  · refine Only.then ?_ (only_slotSet ..) (by simp)
    exact Only.refl _ _
  · refine Only.ite _ (fun _ => ?_) (fun _ => ?_)
    · refine Only.then ?_ (only_guardInput ..) (by simp)
      exact Only.refl _ _
    · exact Only.refl _ _
  · refine Only.then ?_ (only_updEng ..) (by simp)
    exact Only.refl _ _
  · exact Only.refl _ _
theorem only_outOf (s : State) (lane : Nat) (r : Run) (b : Nat) (v : Word) : Only [.links, .eng, .com, .regs, .conv, .bud, .flt, .hw, .sys] s (State.outOf s lane r b v) := by
  unfold State.outOf
  refine Only.ite _ (fun _ => ?_) (fun _ => ?_)
  · exact Only.refl _ _
  · dsimp only
    refine Only.ite _ (fun _ => ?_) (fun _ => ?_)
    · refine Only.then ?_ (only_raiseBounds ..) (by simp)
      exact Only.refl _ _
    · refine Only.then ?_ (only_outSend ..) (by simp)
      refine Only.then ?_ (only_updEng ..) (by simp)
      exact Only.refl _ _
theorem only_cmac (s : State) (lane : Nat) (acc : Fin 4) (r : Fin 32) (c : Option CoefWord) (sub : Bool) : Only [.eng, .flt] s (State.cmac s lane acc r c sub) := by
  unfold State.cmac
  split
  · refine Only.then ?_ (only_putOv ..) (by simp)
    exact Only.refl _ _
  · refine Only.then ?_ (only_raiseBounds ..) (by simp)
    exact Only.refl _ _
theorem only_failWrites (s : State) (u : List SWrite) : Only [.stg, .tide, .flt, .ports] s (State.failWrites s u) := by
  unfold State.failWrites
  refine Only.trans ?_ (Only.foldl _ (fun s a => ?_) _ _)
  · exact Only.refl _ _
  · dsimp only
    split
    · refine Only.then ?_ (only_holdFailed ..) (by simp)
      refine Only.then ?_ (only_complete ..) (by simp)
      exact Only.refl _ _
    · refine Only.then ?_ (only_updNflt ..) (by simp)
      refine Only.then ?_ (only_complete ..) (by simp)
      exact Only.refl _ _
    · refine Only.then ?_ (only_updPorts ..) (by simp)
      refine Only.then ?_ (only_complete ..) (by simp)
      exact Only.refl _ _
    · refine Only.then ?_ (only_complete ..) (by simp)
      exact Only.refl _ _
theorem only_failOversize (s : State) : Only [.stg, .tide, .flt, .ports] s (State.failOversize s) := by
  unfold State.failOversize
  refine Only.trans ?_ (Only.foldl _ (fun s a => ?_) _ _)
  · exact Only.refl _ _
  · dsimp only
    refine Only.ite _ (fun _ => ?_) (fun _ => ?_)
    · refine Only.then ?_ (only_failWrites ..) (by simp)
      refine Only.then ?_ (only_updStg ..) (by simp)
      exact Only.refl _ _
    · exact Only.refl _ _
theorem only_endLoad (s : State) : Only [.hw] s (State.endLoad s) := by
  unfold State.endLoad
  refine Only.ite _ (fun _ => ?_) (fun _ => ?_)
  · refine Only.then ?_ (only_updHw ..) (by simp)
    exact Only.refl _ _
  · exact Only.refl _ _
theorem only_endSession (s : State) : Only [.hw] s (State.endSession s) := by
  unfold State.endSession
  refine Only.ite _ (fun _ => ?_) (fun _ => ?_)
  · refine Only.then ?_ (only_endLoad ..) (by simp)
    refine Only.then ?_ (only_updHw ..) (by simp)
    exact Only.refl _ _
  · exact Only.refl _ _
theorem only_dropSession (s : State) : Only [.hw] s (State.dropSession s) := by
  unfold State.dropSession
  refine Only.ite _ (fun _ => ?_) (fun _ => ?_)
  · refine Only.then ?_ (only_cause ..) (by simp)
    refine Only.then ?_ (only_endSession ..) (by simp)
    exact Only.refl _ _
  · exact Only.refl _ _
theorem only_attach (s : State) (v : Word) : Only [.stg, .hw] s (State.attach s v) := by
  unfold State.attach
  dsimp only
  refine Only.ite _ (fun _ => ?_) (fun _ => ?_)
  · refine Only.then ?_ (only_updHw ..) (by simp)
    refine Only.then ?_ (only_updHw ..) (by simp)
    exact Only.refl _ _
  · refine Only.then ?_ (only_setB ..) (by simp)
    refine Only.then ?_ (only_updHw ..) (by simp)
    refine Only.then ?_ (only_abandonBundles ..) (by simp)
    refine Only.then ?_ (only_dropSession ..) (by simp)
    refine Only.then ?_ (only_updHw ..) (by simp)
    exact Only.refl _ _
theorem only_unattend (s : State) : Only [.stg, .hw] s (State.unattend s) := by
  unfold State.unattend
  dsimp only
  refine Only.then ?_ (only_setB ..) (by simp)
  refine Only.then ?_ (only_updHw ..) (by simp)
  refine Only.then ?_ (only_abandonBundles ..) (by simp)
  refine Only.then ?_ (only_dropSession ..) (by simp)
  exact Only.refl _ _
theorem only_sesRequest (s : State) (r : Role) : Only [.free, .hw] s (State.sesRequest s r).1 := by
  unfold State.sesRequest
  refine only_ite_fst _ (fun _ => ?_) (fun _ => ?_)
  · dsimp only
    exact Only.refl _ _
  · refine only_ite_fst _ (fun _ => ?_) (fun _ => ?_)
    · dsimp only
      refine Only.then ?_ (only_updHw ..) (by simp)
      exact Only.refl _ _
    · dsimp only
      refine Only.then ?_ (only_updHw ..) (by simp)
      refine Only.then ?_ (only_draw ..) (by simp)
      exact Only.refl _ _
theorem only_snapReq (s : State) (slot : Nat) (rst : Bool) : Only [.tel] s (State.snapReq s slot rst) := by
  unfold State.snapReq
  refine Only.then ?_ (only_updDie ..) (by simp)
  exact Only.refl _ _
theorem only_rwxClear (s : State) (r : Nat) (v : Word) : Only [.regs] s (State.rwxClear s r v) := by
  unfold State.rwxClear
  refine Only.ite _ (fun _ => ?_) (fun _ => ?_)
  · exact Only.refl _ _
  · refine Only.then ?_ (only_updTel ..) (by simp)
    exact Only.refl _ _
theorem only_hwWrite (s : State) (off : Nat) (v : Word) : Only [.regs, .stg, .tel, .tide, .flt, .hw, .ports] s (State.hwWrite s off v) := by
  unfold State.hwWrite
  split
  · refine Only.ite _ (fun _ => ?_) (fun _ => ?_)
    · refine Only.then ?_ (only_unattend ..) (by simp)
      exact Only.refl _ _
    · exact Only.refl _ _
  · refine Only.ite _ (fun _ => ?_) (fun _ => ?_)
    · refine Only.then ?_ (only_updHw ..) (by simp)
      exact Only.refl _ _
    · exact Only.refl _ _
  · refine Only.then ?_ (only_updHw ..) (by simp)
    exact Only.refl _ _
  · refine Only.then ?_ (only_updHw ..) (by simp)
    exact Only.refl _ _
  · refine Only.ite _ (fun _ => ?_) (fun _ => ?_)
    · refine Only.then ?_ (only_updHw ..) (by simp)
      refine Only.then ?_ (only_failOversize ..) (by simp)
      refine Only.then ?_ (only_closeBundle ..) (by simp)
      exact Only.refl _ _
    · refine Only.then ?_ (only_updHw ..) (by simp)
      exact Only.refl _ _
  · refine Only.then ?_ (only_updHw ..) (by simp)
    exact Only.refl _ _
  · refine Only.then ?_ (only_updHw ..) (by simp)
    exact Only.refl _ _
  · refine Only.then ?_ (only_updHw ..) (by simp)
    exact Only.refl _ _
  · refine Only.then ?_ (only_updFlt ..) (by simp)
    refine Only.then ?_ (only_updHw ..) (by simp)
    exact Only.refl _ _
  · refine Only.then ?_ (only_updHw ..) (by simp)
    exact Only.refl _ _
  · refine Only.then ?_ (only_updHw ..) (by simp)
    exact Only.refl _ _
  · refine Only.then ?_ (only_updHw ..) (by simp)
    exact Only.refl _ _
  · refine Only.then ?_ (only_updHw ..) (by simp)
    exact Only.refl _ _
  · refine Only.then ?_ (only_updHw ..) (by simp)
    exact Only.refl _ _
  · refine Only.then ?_ (only_snapReq ..) (by simp)
    exact Only.refl _ _
  · refine Only.then ?_ (only_updHw ..) (by simp)
    exact Only.refl _ _
  · refine Only.then ?_ (only_updHw ..) (by simp)
    exact Only.refl _ _
  · refine Only.then ?_ (only_rwxClear ..) (by simp)
    exact Only.refl _ _
  · refine Only.ite _ (fun _ => ?_) (fun _ => ?_)
    · refine Only.then ?_ (only_updHw ..) (by simp)
      exact Only.refl _ _
    · exact Only.refl _ _
theorem only_lastIs (s : State) (st : Status) : Only [.hw] s (State.lastIs s st) := by
  unfold State.lastIs
  refine Only.then ?_ (only_updHw ..) (by simp)
  exact Only.refl _ _
theorem only_denyWrite (s : State) (r : Role) (ticketed : Bool) : Only [.stg, .flt, .hw] s (State.denyWrite s r ticketed) := by
  unfold State.denyWrite
  dsimp only
  refine Only.ite _ (fun _ => ?_) (fun _ => ?_)
  · refine Only.then ?_ (only_updHw ..) (by simp)
    refine Only.then ?_ (only_updRec ..) (by simp)
    refine Only.then ?_ (only_issue ..) (by simp)
    refine Only.then ?_ (only_tallyRole ..) (by simp)
    exact Only.refl _ _
  · refine Only.then ?_ (only_lastIs ..) (by simp)
    refine Only.then ?_ (only_tallyRole ..) (by simp)
    exact Only.refl _ _
theorem only_enqueue (s : State) (off : Nat) (v : Word) (r : Role) (ticketed : Bool) : Only [.stg, .hw] s (State.enqueue s off v r ticketed) := by
  unfold State.enqueue
  dsimp only
  refine Only.ite _ (fun _ => ?_) (fun _ => ?_)
  · refine Only.ite _ (fun _ => ?_) (fun _ => ?_)
    · refine Only.then ?_ (only_updHw ..) (by simp)
      refine Only.then ?_ (only_updRec ..) (by simp)
      refine Only.then ?_ (only_issue ..) (by simp)
      exact Only.refl _ _
    · refine Only.then ?_ (only_lastIs ..) (by simp)
      exact Only.refl _ _
  · refine Only.then ?_ (only_updHw ..) (by simp)
    refine only_ite_fst _ (fun _ => ?_) (fun _ => ?_)
    · dsimp only
      refine Only.then ?_ (only_issue ..) (by simp)
      exact Only.refl _ _
    · dsimp only
      exact Only.refl _ _
theorem only_arrive (s : State) (off : Nat) (v : Word) : Only [.regs, .stg, .tel, .tide, .flt, .hw, .ports] s (State.arrive s off v) := by
  unfold State.arrive
  refine Only.ite _ (fun _ => ?_) (fun _ => ?_)
  · exact Only.refl _ _
  · dsimp only
    refine Only.ite _ (fun _ => ?_) (fun _ => ?_)
    · refine Only.then ?_ (only_lastIs ..) (by simp)
      refine Only.then ?_ (only_updHw ..) (by simp)
      exact Only.refl _ _
    · refine Only.ite _ (fun _ => ?_) (fun _ => ?_)
      · refine Only.then ?_ (only_lastIs ..) (by simp)
        refine Only.then ?_ (only_attach ..) (by simp)
        refine Only.then ?_ (only_updHw ..) (by simp)
        exact Only.refl _ _
      · refine Only.ite _ (fun _ => ?_) (fun _ => ?_)
        · refine Only.then ?_ (only_lastIs ..) (by simp)
          refine Only.then ?_ (only_updHw ..) (by simp)
          exact Only.refl _ _
        · split
          · refine Only.then ?_ (only_lastIs ..) (by simp)
            refine Only.then ?_ (only_updHw ..) (by simp)
            exact Only.refl _ _
          · split
            · refine Only.then ?_ (only_lastIs ..) (by simp)
              refine Only.then ?_ (only_hwWrite ..) (by simp)
              refine Only.then ?_ (only_updHw ..) (by simp)
              exact Only.refl _ _
            · refine Only.ite _ (fun _ => ?_) (fun _ => ?_)
              · refine Only.then ?_ (only_lastIs ..) (by simp)
                refine Only.then ?_ (only_updHw ..) (by simp)
                exact Only.refl _ _
              · refine Only.ite _ (fun _ => ?_) (fun _ => ?_)
                · refine Only.then ?_ (only_denyWrite ..) (by simp)
                  refine Only.then ?_ (only_updHw ..) (by simp)
                  exact Only.refl _ _
                · refine Only.then ?_ (only_enqueue ..) (by simp)
                  refine Only.then ?_ (only_updHw ..) (by simp)
                  exact Only.refl _ _
            · refine Only.ite _ (fun _ => ?_) (fun _ => ?_)
              · refine Only.then ?_ (only_denyWrite ..) (by simp)
                refine Only.then ?_ (only_updHw ..) (by simp)
                exact Only.refl _ _
              · refine Only.then ?_ (only_enqueue ..) (by simp)
                refine Only.then ?_ (only_updHw ..) (by simp)
                exact Only.refl _ _
            · refine Only.then ?_ (only_denyWrite ..) (by simp)
              refine Only.then ?_ (only_updHw ..) (by simp)
              exact Only.refl _ _
theorem only_passTicket (s : State) (w : HWrite) : Only [.stg, .ports] s (State.passTicket s w) := by
  unfold State.passTicket
  refine Only.ite _ (fun _ => ?_) (fun _ => ?_)
  · dsimp only
    refine Only.ite _ (fun _ => ?_) (fun _ => ?_)
    · refine Only.then ?_ (only_stage ..) (by simp)
      exact Only.refl _ _
    · refine Only.then ?_ (only_updStg ..) (by simp)
      exact Only.refl _ _
  · refine Only.then ?_ (only_updRec ..) (by simp)
    exact Only.refl _ _
theorem only_imgStart (s : State) (target : Nat) : Only [.hw, .store] s (State.imgStart s target).1 := by
  unfold State.imgStart
  refine only_ite_fst _ (fun _ => ?_) (fun _ => ?_)
  · dsimp only
    exact Only.refl _ _
  · dsimp only
    refine Only.then ?_ (only_updHw ..) (by simp)
    refine Only.then ?_ (only_with_store ..) (by simp)
    exact Only.refl _ _
theorem only_imgCtl (s : State) (v : Word) : Only [.hw, .store] s (State.imgCtl s v).1 := by
  unfold State.imgCtl
  refine only_ite_fst _ (fun _ => ?_) (fun _ => ?_)
  · refine Only.then ?_ (only_imgStart ..) (by simp)
    exact Only.refl _ _
  · refine only_ite_fst _ (fun _ => ?_) (fun _ => ?_)
    · refine only_ite_fst _ (fun _ => ?_) (fun _ => ?_)
      · dsimp only
        refine Only.then ?_ (only_updHw ..) (by simp)
        exact Only.refl _ _
      · dsimp only
        exact Only.refl _ _
    · refine only_ite_fst _ (fun _ => ?_) (fun _ => ?_)
      · refine only_ite_fst _ (fun _ => ?_) (fun _ => ?_)
        · dsimp only
          refine Only.then ?_ (only_endLoad ..) (by simp)
          exact Only.refl _ _
        · dsimp only
          exact Only.refl _ _
      · dsimp only
        exact Only.refl _ _
theorem only_imgDat (s : State) (v : Word) : Only [.hw, .store] s (State.imgDat s v).1 := by
  unfold State.imgDat
  refine only_ite_fst _ (fun _ => ?_) (fun _ => ?_)
  · dsimp only
    exact Only.refl _ _
  · refine only_ite_fst _ (fun _ => ?_) (fun _ => ?_)
    · dsimp only
      refine Only.then ?_ (only_updHw ..) (by simp)
      exact Only.refl _ _
    · dsimp only
      refine Only.then ?_ (only_updHw ..) (by simp)
      refine Only.then ?_ (only_with_store ..) (by simp)
      exact Only.refl _ _
theorem only_doRestart (s t : State) (h : s.doRestart = some t) : Only [.epoch, .nodes, .links, .pans, .eng, .com, .safe, .views, .regs, .conv, .stg, .tel, .bud, .shim, .led, .tide, .flt, .hw, .log, .sys, .ports] s t := by
  unfold State.doRestart at h
  dsimp only at h
  split at h
  · cases h
    refine Only.then ?_ (only_warmReset ..) (by simp)
    exact (only_updSys ..).mono (by simp)
  · split at h
    · cases h
      exact (only_updSys ..).mono (by simp)
    · cases h

theorem only_doWarm (s t : State) (h : s.doWarm = some t) : Only [.epoch, .nodes, .links, .pans, .eng, .com, .safe, .views, .regs, .conv, .stg, .tel, .bud, .shim, .led, .tide, .flt, .hw, .log, .store, .sys, .ports] s t := by
  unfold State.doWarm at h
  split at h
  · cases h
    exact (only_orderlyStop ..).mono (by simp)
  · split at h
    · cases h
      refine Only.then ?_ (only_warmReset ..) (by simp)
      refine Only.ite _ (fun _ => ?_) (fun _ => (only_updSys ..).mono (by simp))
      refine Only.then ?_ (only_harvestDone ..) (by simp)
      refine Only.then ?_ (only_harvestTake ..) (by simp)
      exact (only_updSys ..).mono (by simp)
    · cases h

theorem only_doPdown (s t : State) (h : s.doPdown = some t) : Only [.hw, .sys] s t := by
  unfold State.doPdown at h
  split at h
  · cases h; exact only_orderlyStop ..
  · cases h

theorem only_stopCtl (s : State) (v : Word) : Only [.epoch, .nodes, .links, .pans, .eng, .com, .safe, .views, .regs, .conv, .stg, .tel, .bud, .shim, .led, .tide, .flt, .hw, .log, .store, .sys, .ports] s (s.stopCtl v).1 := by
  unfold State.stopCtl
  dsimp only
  split
  · split
    · exact only_doWarm s _ ‹_›
    · exact Only.refl _ _
  · split
    · split
      · exact (only_doPdown s _ ‹_›).mono (by simp)
      · exact Only.refl _ _
    · split
      · split
        · exact (only_doRestart s _ ‹_›).mono (by simp)
        · exact Only.refl _ _
      · exact Only.refl _ _
theorem only_sesCtl (s : State) (v : Word) : Only [.free, .hw] s (State.sesCtl s v).1 := by
  unfold State.sesCtl
  refine only_ite_fst _ (fun _ => ?_) (fun _ => ?_)
  · dsimp only
    refine Only.then ?_ (only_endSession ..) (by simp)
    exact Only.refl _ _
  · split
    · refine Only.then ?_ (only_sesRequest ..) (by simp)
      exact Only.refl _ _
    · refine Only.then ?_ (only_sesRequest ..) (by simp)
      exact Only.refl _ _
    · dsimp only
      exact Only.refl _ _
theorem only_thrst (s : State) : Only [.regs] s (State.thrst s) := by
  unfold State.thrst
  refine Only.trans ?_ (Only.foldl _ (fun s a => ?_) _ _)
  · exact Only.refl _ _
  · refine Only.then ?_ (only_updTh ..) (by simp)
    exact Only.refl _ _
theorem only_dioreq (s : State) (v : Word) : Only [.sys] s (State.dioreq s v).1 := by
  unfold State.dioreq
  refine only_ite_fst _ (fun _ => ?_) (fun _ => ?_)
  · dsimp only
    refine Only.trans ?_ (Only.foldl _ (fun s a => ?_) _ _)
    · exact Only.refl _ _
    · refine Only.then ?_ (only_diodeReq ..) (by simp)
      exact Only.refl _ _
  · refine only_ite_fst _ (fun _ => ?_) (fun _ => ?_)
    · dsimp only
      refine Only.then ?_ (only_diodeReq ..) (by simp)
      exact Only.refl _ _
    · dsimp only
      exact Only.refl _ _
theorem only_lqreq (s : State) (v : Word) : Only [.led] s (State.lqreq s v).1 := by
  unfold State.lqreq
  dsimp only
  refine only_ite_fst _ (fun _ => ?_) (fun _ => ?_)
  · dsimp only
    exact Only.refl _ _
  · dsimp only
    refine Only.then ?_ (only_updLed ..) (by simp)
    exact Only.refl _ _
theorem only_trcctl (s : State) (v : Word) : Only [.log] s (State.trcctl s v) := by
  unfold State.trcctl
  dsimp only
  refine Only.then ?_ (only_with_log ..) (by simp)
  exact Only.refl _ _
theorem only_laneRetest (s : State) : Only [.eng] s (State.laneRetest s) := by
  unfold State.laneRetest
  refine Only.trans ?_ (Only.foldl _ (fun s a => ?_) _ _)
  · exact Only.refl _ _
  · refine Only.ite _ (fun _ => ?_) (fun _ => ?_)
    · refine Only.then ?_ (only_updLane ..) (by simp)
      exact Only.refl _ _
    · exact Only.refl _ _
theorem only_keyGo (s : State) : Only [.store] s (State.keyGo s) := by
  unfold State.keyGo
  refine Only.then ?_ (only_with_store ..) (by simp)
  exact Only.refl _ _
theorem only_release (s t : State) (g : Nat) (h : s.release g = some t) : Only [.tide, .flt] s t := by
  unfold State.release at h
  split at h
  · cases h
    refine Only.then ?_ (only_tally ..) (by simp)
    exact (only_updTide ..).mono (by simp)
  · cases h

theorem only_trel (s : State) (v : Word) : Only [.tide, .flt] s (s.trel v).1 := by
  unfold State.trel
  split
  · exact only_release s _ _ ‹_›
  · exact Only.refl _ _
theorem only_serveEmu (s : State) (off : Nat) (v : Word) : Only [.epoch, .free, .nodes, .links, .pans, .eng, .com, .safe, .views, .regs, .conv, .stg, .tel, .bud, .shim, .led, .tide, .flt, .hw, .log, .store, .sys, .ports] s (State.serveEmu s off v).1 := by
  unfold State.serveEmu
  split
  · refine Only.then ?_ (only_stopCtl ..) (by simp)
    exact Only.refl _ _
  · dsimp only
    refine Only.ite _ (fun _ => ?_) (fun _ => ?_)
    · refine Only.then ?_ (only_updSys ..) (by simp)
      exact Only.refl _ _
    · exact Only.refl _ _
  · dsimp only
    refine Only.ite _ (fun _ => ?_) (fun _ => ?_)
    · refine Only.then ?_ (only_laneRetest ..) (by simp)
      exact Only.refl _ _
    · exact Only.refl _ _
  · refine Only.then ?_ (only_sesCtl ..) (by simp)
    exact Only.refl _ _
  · refine only_ite_fst _ (fun _ => ?_) (fun _ => ?_)
    · dsimp only
      exact Only.refl _ _
    · refine only_ite_fst _ (fun _ => ?_) (fun _ => ?_)
      · dsimp only
        refine Only.then ?_ (only_updHw ..) (by simp)
        exact Only.refl _ _
      · dsimp only
        exact Only.refl _ _
  · dsimp only
    refine Only.ite _ (fun _ => ?_) (fun _ => ?_)
    · refine Only.then ?_ (only_keyGo ..) (by simp)
      exact Only.refl _ _
    · exact Only.refl _ _
  · refine Only.then ?_ (only_lqreq ..) (by simp)
    exact Only.refl _ _
  · refine Only.then ?_ (only_trel ..) (by simp)
    exact Only.refl _ _
  · refine Only.then ?_ (only_dioreq ..) (by simp)
    exact Only.refl _ _
  · dsimp only
    refine Only.ite _ (fun _ => ?_) (fun _ => ?_)
    · refine Only.then ?_ (only_thrst ..) (by simp)
      exact Only.refl _ _
    · exact Only.refl _ _
  · dsimp only
    refine Only.then ?_ (only_updHw ..) (by simp)
    exact Only.refl _ _
  · dsimp only
    refine Only.then ?_ (only_trcctl ..) (by simp)
    exact Only.refl _ _
  · refine Only.then ?_ (only_imgCtl ..) (by simp)
    exact Only.refl _ _
  · dsimp only
    refine Only.then ?_ (only_updHw ..) (by simp)
    exact Only.refl _ _
  · refine Only.then ?_ (only_imgDat ..) (by simp)
    exact Only.refl _ _
  · refine only_ite_fst _ (fun _ => ?_) (fun _ => ?_)
    · dsimp only
      refine Only.then ?_ (only_updHw ..) (by simp)
      exact Only.refl _ _
    · refine only_ite_fst _ (fun _ => ?_) (fun _ => ?_)
      · dsimp only
        refine Only.then ?_ (only_updLed ..) (by simp)
        exact Only.refl _ _
      · refine only_ite_fst _ (fun _ => ?_) (fun _ => ?_)
        · dsimp only
          refine Only.then ?_ (only_with_log ..) (by simp)
          exact Only.refl _ _
        · dsimp only
          exact Only.refl _ _
theorem only_serve (s : State) : Only [.epoch, .free, .nodes, .links, .pans, .eng, .com, .safe, .views, .regs, .conv, .stg, .tel, .bud, .shim, .led, .tide, .flt, .hw, .log, .store, .sys, .ports] s (State.serve s) := by
  unfold State.serve
  split
  · exact Only.refl _ _
  · dsimp only
    split
    · refine Only.then ?_ (only_failOversize ..) (by simp)
      refine Only.then ?_ (only_tryBundles ..) (by simp)
      refine Only.then ?_ (only_passTicket ..) (by simp)
      refine Only.then ?_ (only_updHw ..) (by simp)
      exact Only.refl _ _
    · refine Only.then ?_ (only_tryBundles ..) (by simp)
      refine Only.ite _ (fun _ => ?_) (fun _ => ?_)
      · refine Only.then ?_ (only_updHw ..) (by simp)
        refine Only.then ?_ (only_serveEmu ..) (by simp)
        refine Only.then ?_ (only_updHw ..) (by simp)
        exact Only.refl _ _
      · refine Only.then ?_ (only_serveEmu ..) (by simp)
        refine Only.then ?_ (only_updHw ..) (by simp)
        exact Only.refl _ _
theorem only_hostCmd (s : State) (off : Nat) (v : Word) : Only [.epoch, .free, .nodes, .links, .pans, .eng, .com, .safe, .views, .regs, .conv, .stg, .tel, .bud, .shim, .led, .tide, .flt, .hw, .log, .store, .sys, .ports] s (State.hostCmd s off v) := by
  unfold State.hostCmd
  dsimp only
  refine Only.ite _ (fun _ => ?_) (fun _ => ?_)
  · refine Only.then ?_ (only_serve ..) (by simp)
    refine Only.then ?_ (only_arrive ..) (by simp)
    exact Only.refl _ _
  · refine Only.then ?_ (only_arrive ..) (by simp)
    exact Only.refl _ _
theorem only_failQueue (s : State) : Only [.stg, .hw] s (State.failQueue s) := by
  unfold State.failQueue
  dsimp only
  refine Only.trans ?_ (Only.foldl _ (fun s a => ?_) _ _)
  · refine Only.then ?_ (only_updHw ..) (by simp)
    exact Only.refl _ _
  · refine Only.then ?_ (only_updRec ..) (by simp)
    exact Only.refl _ _
theorem only_fwAccept (s : State) : Only [.store] s (State.fwAccept s) := by
  unfold State.fwAccept
  dsimp only
  refine Only.then ?_ (only_with_store ..) (by simp)
  exact Only.refl _ _
theorem only_dispatchTo (s : State) (lane : Nat) (l : Nat) (dl : Nat) : Only [.eng, .views, .sys] s (State.dispatchTo s lane l dl) := by
  unfold State.dispatchTo
  dsimp only
  refine Only.then ?_ (only_updLdyn ..) (by simp)
  refine Only.then ?_ (only_updSys ..) (by simp)
  refine Only.then ?_ (only_updEng ..) (by simp)
  refine Only.then ?_ (only_with_views ..) (by simp)
  refine Only.then ?_ (only_updLane ..) (by simp)
  exact Only.refl _ _
theorem only_admitLane (s : State) (i : Nat) : Only [.eng] s (State.admitLane s i) := by
  unfold State.admitLane
  refine Only.then ?_ (only_updLane ..) (by simp)
  exact Only.refl _ _
theorem only_pmbTouch (s : State) : Only [.free, .ports] s (State.pmbTouch s) := by
  unfold State.pmbTouch
  dsimp only
  refine Only.then ?_ (only_updPorts ..) (by simp)
  refine Only.then ?_ (only_draw ..) (by simp)
  exact Only.refl _ _
theorem only_pmbAnswer (s : State) (x : Nat) : Only [.free, .ports] s (State.pmbAnswer s x) := by
  unfold State.pmbAnswer
  refine Only.then ?_ (only_updPorts ..) (by simp)
  refine Only.then ?_ (only_pmbTouch ..) (by simp)
  exact Only.refl _ _
theorem only_onRails (s : State) (x : Nat) : Only [.free, .ports] s (State.onRails s x) := by
  unfold State.onRails
  refine Only.ite _ (fun _ => ?_) (fun _ => ?_)
  · refine Only.then ?_ (only_pmbAnswer ..) (by simp)
    exact Only.refl _ _
  · refine Only.then ?_ (only_pmbTouch ..) (by simp)
    exact Only.refl _ _
theorem only_onInput (s : State) (x : Nat) : Only [.free, .ports] s (State.onInput s x) := by
  unfold State.onInput
  refine Only.ite _ (fun _ => ?_) (fun _ => ?_)
  · refine Only.then ?_ (only_pmbTouch ..) (by simp)
    exact Only.refl _ _
  · refine Only.then ?_ (only_pmbAnswer ..) (by simp)
    exact Only.refl _ _
theorem only_dvtHeard (s : State) (p : Nat) : Only [.ports] s (State.dvtHeard s p) := by
  unfold State.dvtHeard
  refine Only.then ?_ (only_updDvt ..) (by simp)
  exact Only.refl _ _
theorem only_dbgDraw (s : State) : Only [.free, .ports] s (State.dbgDraw s) := by
  unfold State.dbgDraw
  dsimp only
  refine Only.then ?_ (only_updPorts ..) (by simp)
  refine Only.then ?_ (only_draw ..) (by simp)
  exact Only.refl _ _
theorem only_panStart (s : State) (n : Nat) : Only [.pans] s (State.panStart s n) := by
  unfold State.panStart
  dsimp only
  refine Only.then ?_ (only_updPan ..) (by simp)
  exact Only.refl _ _
theorem only_applyMode (s : State) (n : Nat) (own : Bool) (v : Word) : Only [.pans] s (State.applyMode s n own v) := by
  unfold State.applyMode
  dsimp only
  refine Only.ite _ (fun _ => ?_) (fun _ => ?_)
  · exact Only.refl _ _
  · refine Only.ite _ (fun _ => ?_) (fun _ => ?_)
    · refine Only.then ?_ (only_updPan ..) (by simp)
      exact Only.refl _ _
    · refine Only.ite _ (fun _ => ?_) (fun _ => ?_)
      · refine Only.then ?_ (only_updPan ..) (by simp)
        refine Only.then ?_ (only_updPan ..) (by simp)
        exact Only.refl _ _
      · refine Only.ite _ (fun _ => ?_) (fun _ => ?_)
        · refine Only.ite _ (fun _ => ?_) (fun _ => ?_)
          · refine Only.then ?_ (only_panStart ..) (by simp)
            refine Only.then ?_ (only_updPan ..) (by simp)
            exact Only.refl _ _
          · refine Only.ite _ (fun _ => ?_) (fun _ => ?_)
            · refine Only.then ?_ (only_updPan ..) (by simp)
              refine Only.then ?_ (only_updPan ..) (by simp)
              exact Only.refl _ _
            · refine Only.then ?_ (only_updPan ..) (by simp)
              exact Only.refl _ _
        · refine Only.ite _ (fun _ => ?_) (fun _ => ?_)
          · refine Only.ite _ (fun _ => ?_) (fun _ => ?_)
            · refine Only.then ?_ (only_updPan ..) (by simp)
              refine Only.then ?_ (only_updPan ..) (by simp)
              exact Only.refl _ _
            · refine Only.then ?_ (only_updPan ..) (by simp)
              exact Only.refl _ _
          · refine Only.ite _ (fun _ => ?_) (fun _ => ?_)
            · refine Only.then ?_ (only_updPan ..) (by simp)
              refine Only.then ?_ (only_updPan ..) (by simp)
              exact Only.refl _ _
            · refine Only.then ?_ (only_updPan ..) (by simp)
              exact Only.refl _ _
theorem only_applyStage (s : State) (n : Nat) (h : Hdr) (sel : Nat) (v : Word) : Only [.links, .pans] s (State.applyStage s n h sel v) := by
  unfold State.applyStage
  refine Only.ite _ (fun _ => ?_) (fun _ => ?_)
  · refine Only.then ?_ (only_applyMode ..) (by simp)
    exact Only.refl _ _
  · refine Only.ite _ (fun _ => ?_) (fun _ => ?_)
    · dsimp only
      refine Only.then ?_ (only_noteClamp ..) (by simp)
      refine Only.then ?_ (only_updPan ..) (by simp)
      exact Only.refl _ _
    · refine Only.ite _ (fun _ => ?_) (fun _ => ?_)
      · dsimp only
        refine Only.ite _ (fun _ => ?_) (fun _ => ?_)
        · refine Only.then ?_ (only_sendEvent ..) (by simp)
          refine Only.then ?_ (only_updPan ..) (by simp)
          exact Only.refl _ _
        · refine Only.then ?_ (only_updPan ..) (by simp)
          exact Only.refl _ _
      · refine Only.ite _ (fun _ => ?_) (fun _ => ?_)
        · refine Only.then ?_ (only_updPan ..) (by simp)
          exact Only.refl _ _
        · refine Only.then ?_ (only_updPan ..) (by simp)
          exact Only.refl _ _
theorem only_applyWrite (s : State) (n : Nat) (sel : Nat) (v : Word) : Only [.links, .pans] s (State.applyWrite s n sel v) := by
  unfold State.applyWrite
  split
  · dsimp only
    refine Only.then ?_ (only_noteClamp ..) (by simp)
    refine Only.then ?_ (only_updPan ..) (by simp)
    refine Only.then ?_ (only_noteWrite ..) (by simp)
    exact Only.refl _ _
  · refine Only.then ?_ (only_updPan ..) (by simp)
    refine Only.then ?_ (only_noteWrite ..) (by simp)
    exact Only.refl _ _
  · dsimp only
    refine Only.then ?_ (only_updPan ..) (by simp)
    refine Only.then ?_ (only_noteWrite ..) (by simp)
    exact Only.refl _ _
  · refine Only.then ?_ (only_updPan ..) (by simp)
    refine Only.then ?_ (only_noteWrite ..) (by simp)
    exact Only.refl _ _
  · refine Only.then ?_ (only_updPan ..) (by simp)
    exact Only.refl _ _
  · refine Only.then ?_ (only_updPan ..) (by simp)
    exact Only.refl _ _
  · refine Only.then ?_ (only_updPan ..) (by simp)
    exact Only.refl _ _
  · refine Only.then ?_ (only_updPan ..) (by simp)
    exact Only.refl _ _
  · exact Only.refl _ _
theorem only_stepPanSet (s : State) (n : Nat) : Only [.now, .links, .pans] s (State.stepPanSet s n) := by
  unfold State.stepPanSet
  dsimp only
  refine Only.ite _ (fun _ => ?_) (fun _ => ?_)
  · exact Only.refl _ _
  · refine Only.then ?_ (only_noteClamp ..) (by simp)
    refine Only.then ?_ (only_updPan ..) (by simp)
    refine Only.then ?_ (only_updPan ..) (by simp)
    refine Only.then ?_ (only_reach ..) (by simp)
    exact Only.refl _ _
theorem only_stepPanOff (s : State) (n : Nat) : Only [.now, .links, .pans] s (State.stepPanOff s n) := by
  unfold State.stepPanOff
  dsimp only
  refine Only.ite _ (fun _ => ?_) (fun _ => ?_)
  · exact Only.refl _ _
  · refine Only.then ?_ (only_noteClamp ..) (by simp)
    refine Only.then ?_ (only_updPan ..) (by simp)
    refine Only.then ?_ (only_reach ..) (by simp)
    exact Only.refl _ _
theorem only_failConv (s : State) (n : Nat) (b : Bool) : Only [.links, .pans] s (State.failConv s n b) := by
  unfold State.failConv
  dsimp only
  refine Only.ite _ (fun _ => ?_) (fun _ => ?_)
  · exact Only.refl _ _
  · refine Only.ite _ (fun _ => ?_) (fun _ => ?_)
    · refine Only.then ?_ (only_updPan ..) (by simp)
      exact Only.refl _ _
    · refine Only.then ?_ (only_sendEvent ..) (by simp)
      refine Only.then ?_ (only_updPan ..) (by simp)
      exact Only.refl _ _
theorem only_failC (s : State) (n : Nat) : Only [.links, .pans] s (State.failC s n) := by
  unfold State.failC
  dsimp only
  refine Only.ite _ (fun _ => ?_) (fun _ => ?_)
  · exact Only.refl _ _
  · refine Only.then ?_ (only_sendEvent ..) (by simp)
    refine Only.then ?_ (only_updPan ..) (by simp)
    exact Only.refl _ _
theorem only_failD (s : State) (n : Nat) : Only [.links, .pans] s (State.failD s n) := by
  unfold State.failD
  dsimp only
  refine Only.ite _ (fun _ => ?_) (fun _ => ?_)
  · exact Only.refl _ _
  · refine Only.then ?_ (only_sendEvent ..) (by simp)
    refine Only.then ?_ (only_updPan ..) (by simp)
    exact Only.refl _ _
theorem only_refRun (s : State) (n : Nat) (r05 : Int) (r10 : Int) (d05 : Int) (d10 : Int) : Only [.links, .pans] s (State.refRun s n r05 r10 d05 d10) := by
  unfold State.refRun
  dsimp only
  refine Only.ite _ (fun _ => ?_) (fun _ => ?_)
  · refine Only.then ?_ (only_failD ..) (by simp)
    refine Only.ite _ (fun _ => ?_) (fun _ => ?_)
    · refine Only.then ?_ (only_sendEvent ..) (by simp)
      refine Only.then ?_ (only_updPan ..) (by simp)
      exact Only.refl _ _
    · refine Only.then ?_ (only_updPan ..) (by simp)
      exact Only.refl _ _
  · refine Only.ite _ (fun _ => ?_) (fun _ => ?_)
    · refine Only.then ?_ (only_sendEvent ..) (by simp)
      refine Only.then ?_ (only_updPan ..) (by simp)
      exact Only.refl _ _
    · refine Only.then ?_ (only_updPan ..) (by simp)
      exact Only.refl _ _
theorem only_slowWindows (s : State) (n : Nat) (m : EpochMeas) (inc : Nat) : Only [.links, .pans] s (State.slowWindows s n m inc) := by
  unfold State.slowWindows
  dsimp only
  refine Only.ite _ (fun _ => ?_) (fun _ => ?_)
  · split
    · refine Only.then ?_ (only_sendEvent ..) (by simp)
      split
      · refine Only.then ?_ (only_sendEvent ..) (by simp)
        refine Only.then ?_ (only_updPan ..) (by simp)
        exact Only.refl _ _
      · refine Only.then ?_ (only_updPan ..) (by simp)
        exact Only.refl _ _
    · split
      · refine Only.then ?_ (only_sendEvent ..) (by simp)
        refine Only.then ?_ (only_updPan ..) (by simp)
        exact Only.refl _ _
      · refine Only.then ?_ (only_updPan ..) (by simp)
        exact Only.refl _ _
  · refine Only.then ?_ (only_sendEvent ..) (by simp)
    split
    · refine Only.then ?_ (only_sendEvent ..) (by simp)
      split
      · refine Only.then ?_ (only_sendEvent ..) (by simp)
        refine Only.then ?_ (only_updPan ..) (by simp)
        exact Only.refl _ _
      · refine Only.then ?_ (only_updPan ..) (by simp)
        exact Only.refl _ _
    · split
      · refine Only.then ?_ (only_sendEvent ..) (by simp)
        refine Only.then ?_ (only_updPan ..) (by simp)
        exact Only.refl _ _
      · refine Only.then ?_ (only_updPan ..) (by simp)
        exact Only.refl _ _
theorem only_judge (s : State) (n : Nat) (m : EpochMeas) (inc : Nat) : Only [.pans] s (State.judge s n m inc) := by
  unfold State.judge
  dsimp only
  refine Only.then ?_ (only_updPan ..) (by simp)
  exact Only.refl _ _
theorem only_panCount (s : State) (n : Nat) (m : EpochMeas) (inc : Nat) : Only [.pans] s (State.panCount s n m inc) := by
  unfold State.panCount
  dsimp only
  refine Only.then ?_ (only_updPan ..) (by simp)
  exact Only.refl _ _
theorem only_swapConv (s : State) (n : Nat) : Only [.links, .pans] s (State.swapConv s n) := by
  unfold State.swapConv
  dsimp only
  refine Only.ite _ (fun _ => ?_) (fun _ => ?_)
  · refine Only.then ?_ (only_sendEvent ..) (by simp)
    refine Only.then ?_ (only_updPan ..) (by simp)
    exact Only.refl _ _
  · exact Only.refl _ _
theorem only_panEpoch (s : State) (n : Nat) (tag : BitVec 3) (m : EpochMeas) : Only [.free, .links, .pans] s (State.panEpoch s n tag m) := by
  unfold State.panEpoch
  dsimp only
  refine Only.then ?_ (only_updPan ..) (by simp)
  refine Only.then ?_ (only_swapConv ..) (by simp)
  refine Only.then ?_ (only_judge ..) (by simp)
  refine Only.then ?_ (only_panCount ..) (by simp)
  refine Only.ite _ (fun _ => ?_) (fun _ => ?_)
  · refine Only.then ?_ (only_draw ..) (by simp)
    refine Only.then ?_ (only_sendUp ..) (by simp)
    refine Only.ite _ (fun _ => ?_) (fun _ => ?_)
    · refine Only.then ?_ (only_draw ..) (by simp)
      refine Only.then ?_ (only_sendUp ..) (by simp)
      refine Only.then ?_ (only_slowWindows ..) (by simp)
      refine Only.then ?_ (only_sendUp ..) (by simp)
      refine Only.then ?_ (only_sendUp ..) (by simp)
      refine Only.then ?_ (only_sendUp ..) (by simp)
      refine Only.then ?_ (only_updPan ..) (by simp)
      exact Only.refl _ _
    · refine Only.then ?_ (only_slowWindows ..) (by simp)
      refine Only.then ?_ (only_sendUp ..) (by simp)
      refine Only.then ?_ (only_sendUp ..) (by simp)
      refine Only.then ?_ (only_sendUp ..) (by simp)
      refine Only.then ?_ (only_updPan ..) (by simp)
      exact Only.refl _ _
  · refine Only.ite _ (fun _ => ?_) (fun _ => ?_)
    · refine Only.then ?_ (only_draw ..) (by simp)
      refine Only.then ?_ (only_sendUp ..) (by simp)
      refine Only.then ?_ (only_slowWindows ..) (by simp)
      refine Only.then ?_ (only_sendUp ..) (by simp)
      refine Only.then ?_ (only_sendUp ..) (by simp)
      refine Only.then ?_ (only_sendUp ..) (by simp)
      refine Only.then ?_ (only_updPan ..) (by simp)
      exact Only.refl _ _
    · refine Only.then ?_ (only_slowWindows ..) (by simp)
      refine Only.then ?_ (only_sendUp ..) (by simp)
      refine Only.then ?_ (only_sendUp ..) (by simp)
      refine Only.then ?_ (only_sendUp ..) (by simp)
      refine Only.then ?_ (only_updPan ..) (by simp)
      exact Only.refl _ _
theorem only_badSel (s : State) (n : Nat) : Only [.links] s (State.badSel s n) := by
  unfold State.badSel
  refine Only.then ?_ (only_sendEvent ..) (by simp)
  exact Only.refl _ _
theorem only_recvStage (s : State) (n : Nat) (h : Hdr) (tag : BitVec 3) (sel : Nat) (v : Word) : Only [.nodes, .links] s (State.recvStage s n h tag sel v) := by
  unfold State.recvStage
  dsimp only
  refine Only.ite _ (fun _ => ?_) (fun _ => ?_)
  · exact Only.refl _ _
  · refine Only.ite _ (fun _ => ?_) (fun _ => ?_)
    · refine Only.then ?_ (only_onward ..) (by simp)
      refine Only.then ?_ (only_takeDown ..) (by simp)
      exact Only.refl _ _
    · refine Only.ite _ (fun _ => ?_) (fun _ => ?_)
      · refine Only.ite _ (fun _ => ?_) (fun _ => ?_)
        · refine Only.then ?_ (only_updNode ..) (by simp)
          refine Only.then ?_ (only_takeDown ..) (by simp)
          exact Only.refl _ _
        · refine Only.then ?_ (only_badSel ..) (by simp)
          refine Only.then ?_ (only_takeDown ..) (by simp)
          exact Only.refl _ _
      · refine Only.ite _ (fun _ => ?_) (fun _ => ?_)
        · refine Only.then ?_ (only_toAll ..) (by simp)
          refine Only.ite _ (fun _ => ?_) (fun _ => ?_)
          · refine Only.then ?_ (only_updNode ..) (by simp)
            refine Only.then ?_ (only_takeDown ..) (by simp)
            exact Only.refl _ _
          · refine Only.then ?_ (only_badSel ..) (by simp)
            refine Only.then ?_ (only_takeDown ..) (by simp)
            exact Only.refl _ _
        · refine Only.ite _ (fun _ => ?_) (fun _ => ?_)
          · refine Only.then ?_ (only_updNode ..) (by simp)
            refine Only.then ?_ (only_takeDown ..) (by simp)
            exact Only.refl _ _
          · refine Only.then ?_ (only_badSel ..) (by simp)
            refine Only.then ?_ (only_takeDown ..) (by simp)
            exact Only.refl _ _
theorem only_passShare (s : State) (n : Nat) (h : Hdr) (v : Word) : Only [.links] s (State.passShare s n h v) := by
  unfold State.passShare
  refine Only.trans ?_ (Only.foldl _ (fun s a => ?_) _ _)
  · exact Only.refl _ _
  · split
    · dsimp only
      refine Only.then ?_ (only_sendOn ..) (by simp)
      exact Only.refl _ _
    · exact Only.refl _ _
theorem only_recvWrite (s : State) (n : Nat) (h : Hdr) (sel : Nat) (v : Word) : Only [.nodes, .links, .pans] s (State.recvWrite s n h sel v) := by
  unfold State.recvWrite
  dsimp only
  refine Only.ite _ (fun _ => ?_) (fun _ => ?_)
  · exact Only.refl _ _
  · refine Only.ite _ (fun _ => ?_) (fun _ => ?_)
    · refine Only.then ?_ (only_onward ..) (by simp)
      refine Only.then ?_ (only_takeDown ..) (by simp)
      exact Only.refl _ _
    · refine Only.ite _ (fun _ => ?_) (fun _ => ?_)
      · refine Only.ite _ (fun _ => ?_) (fun _ => ?_)
        · refine Only.then ?_ (only_toAll ..) (by simp)
          refine Only.then ?_ (only_selectPath ..) (by simp)
          refine Only.then ?_ (only_takeDown ..) (by simp)
          exact Only.refl _ _
        · refine Only.then ?_ (only_selectPath ..) (by simp)
          refine Only.then ?_ (only_takeDown ..) (by simp)
          exact Only.refl _ _
      · refine Only.ite _ (fun _ => ?_) (fun _ => ?_)
        · refine Only.ite _ (fun _ => ?_) (fun _ => ?_)
          · refine Only.ite _ (fun _ => ?_) (fun _ => ?_)
            · refine Only.then ?_ (only_updPan ..) (by simp)
              refine Only.then ?_ (only_takeDown ..) (by simp)
              exact Only.refl _ _
            · refine Only.then ?_ (only_applyWrite ..) (by simp)
              refine Only.then ?_ (only_takeDown ..) (by simp)
              exact Only.refl _ _
          · refine Only.then ?_ (only_badSel ..) (by simp)
            refine Only.then ?_ (only_takeDown ..) (by simp)
            exact Only.refl _ _
        · refine Only.ite _ (fun _ => ?_) (fun _ => ?_)
          · refine Only.then ?_ (only_toAll ..) (by simp)
            refine Only.ite _ (fun _ => ?_) (fun _ => ?_)
            · refine Only.then ?_ (only_updNode ..) (by simp)
              refine Only.then ?_ (only_takeDown ..) (by simp)
              exact Only.refl _ _
            · refine Only.ite _ (fun _ => ?_) (fun _ => ?_)
              · refine Only.then ?_ (only_takeDown ..) (by simp)
                exact Only.refl _ _
              · refine Only.ite _ (fun _ => ?_) (fun _ => ?_)
                · refine Only.then ?_ (only_takeDown ..) (by simp)
                  exact Only.refl _ _
                · refine Only.then ?_ (only_badSel ..) (by simp)
                  refine Only.then ?_ (only_takeDown ..) (by simp)
                  exact Only.refl _ _
          · refine Only.ite _ (fun _ => ?_) (fun _ => ?_)
            · refine Only.then ?_ (only_passShare ..) (by simp)
              refine Only.ite _ (fun _ => ?_) (fun _ => ?_)
              · refine Only.then ?_ (only_updNode ..) (by simp)
                refine Only.then ?_ (only_takeDown ..) (by simp)
                exact Only.refl _ _
              · refine Only.ite _ (fun _ => ?_) (fun _ => ?_)
                · refine Only.then ?_ (only_takeDown ..) (by simp)
                  exact Only.refl _ _
                · refine Only.ite _ (fun _ => ?_) (fun _ => ?_)
                  · refine Only.then ?_ (only_takeDown ..) (by simp)
                    exact Only.refl _ _
                  · refine Only.then ?_ (only_badSel ..) (by simp)
                    refine Only.then ?_ (only_takeDown ..) (by simp)
                    exact Only.refl _ _
            · refine Only.ite _ (fun _ => ?_) (fun _ => ?_)
              · refine Only.then ?_ (only_toAll ..) (by simp)
                refine Only.ite _ (fun _ => ?_) (fun _ => ?_)
                · refine Only.then ?_ (only_updNode ..) (by simp)
                  refine Only.then ?_ (only_takeDown ..) (by simp)
                  exact Only.refl _ _
                · refine Only.ite _ (fun _ => ?_) (fun _ => ?_)
                  · refine Only.then ?_ (only_takeDown ..) (by simp)
                    exact Only.refl _ _
                  · refine Only.ite _ (fun _ => ?_) (fun _ => ?_)
                    · refine Only.then ?_ (only_takeDown ..) (by simp)
                      exact Only.refl _ _
                    · refine Only.then ?_ (only_badSel ..) (by simp)
                      refine Only.then ?_ (only_takeDown ..) (by simp)
                      exact Only.refl _ _
              · refine Only.ite _ (fun _ => ?_) (fun _ => ?_)
                · refine Only.then ?_ (only_updNode ..) (by simp)
                  refine Only.then ?_ (only_takeDown ..) (by simp)
                  exact Only.refl _ _
                · refine Only.ite _ (fun _ => ?_) (fun _ => ?_)
                  · refine Only.then ?_ (only_takeDown ..) (by simp)
                    exact Only.refl _ _
                  · refine Only.ite _ (fun _ => ?_) (fun _ => ?_)
                    · refine Only.then ?_ (only_takeDown ..) (by simp)
                      exact Only.refl _ _
                    · refine Only.then ?_ (only_badSel ..) (by simp)
                      refine Only.then ?_ (only_takeDown ..) (by simp)
                      exact Only.refl _ _
theorem only_sendPondAck (s : State) (n : Nat) : Only [.nodes, .links] s (State.sendPondAck s n) := by
  unfold State.sendPondAck
  dsimp only
  refine Only.then ?_ (only_updNode ..) (by simp)
  refine Only.then ?_ (only_sendUp ..) (by simp)
  exact Only.refl _ _
theorem only_tryPondAck (s : State) (n : Nat) : Only [.nodes, .links] s (State.tryPondAck s n) := by
  unfold State.tryPondAck
  dsimp only
  refine Only.ite _ (fun _ => ?_) (fun _ => ?_)
  · refine Only.then ?_ (only_sendPondAck ..) (by simp)
    exact Only.refl _ _
  · exact Only.refl _ _
theorem only_giveVerdict (s : State) (commit : Bool) : Only [.links, .stg] s (State.giveVerdict s commit) := by
  unfold State.giveVerdict
  dsimp only
  refine Only.then ?_ (only_hubAll ..) (by simp)
  refine Only.then ?_ (only_updStg ..) (by simp)
  exact Only.refl _ _
theorem only_sendRollup (s : State) (n : Nat) : Only [.nodes, .links] s (State.sendRollup s n) := by
  unfold State.sendRollup
  dsimp only
  refine Only.then ?_ (only_updNode ..) (by simp)
  refine Only.then ?_ (only_sendUp ..) (by simp)
  refine Only.then ?_ (only_sendUp ..) (by simp)
  refine Only.then ?_ (only_sendUp ..) (by simp)
  exact Only.refl _ _
theorem only_tryRollup (s : State) (n : Nat) : Only [.nodes, .links] s (State.tryRollup s n) := by
  unfold State.tryRollup
  dsimp only
  refine Only.ite _ (fun _ => ?_) (fun _ => ?_)
  · refine Only.then ?_ (only_sendRollup ..) (by simp)
    exact Only.refl _ _
  · exact Only.refl _ _
theorem only_holdSubtree (s : State) (n : Nat) : Only [.links, .pans] s (State.holdSubtree s n) := by
  unfold State.holdSubtree
  refine Only.trans ?_ (Only.foldl _ (fun s a => ?_) _ _)
  · exact Only.refl _ _
  · refine Only.then ?_ (only_enterHold ..) (by simp)
    exact Only.refl _ _
theorem only_pathFailed (s : State) (n : Nat) : Only [.nodes, .links, .pans, .eng, .flt] s (State.pathFailed s n) := by
  unfold State.pathFailed
  dsimp only
  refine Only.ite _ (fun _ => ?_) (fun _ => ?_)
  · refine Only.then ?_ (only_holdSubtree ..) (by simp)
    refine Only.then ?_ (only_sendUp ..) (by simp)
    refine Only.then ?_ (only_askReset ..) (by simp)
    refine Only.then ?_ (only_updNode ..) (by simp)
    refine Only.then ?_ (only_updNode ..) (by simp)
    refine Only.ite _ (fun _ => ?_) (fun _ => ?_)
    · refine Only.then ?_ (only_setCarry ..) (by simp)
      exact Only.refl _ _
    · exact Only.refl _ _
  · refine Only.then ?_ (only_loseSubtree ..) (by simp)
    refine Only.then ?_ (only_rosterWithout ..) (by simp)
    refine Only.then ?_ (only_holdSubtree ..) (by simp)
    refine Only.then ?_ (only_updNode ..) (by simp)
    refine Only.ite _ (fun _ => ?_) (fun _ => ?_)
    · refine Only.then ?_ (only_setCarry ..) (by simp)
      exact Only.refl _ _
    · exact Only.refl _ _
theorem only_putException (s : State) (lo : NodeId) (hi : NodeId) (e : Nat × Nat) : Only [.nodes, .links, .flt] s (State.putException s lo hi e) := by
  unfold State.putException
  dsimp only
  refine Only.ite _ (fun _ => ?_) (fun _ => ?_)
  · refine Only.then ?_ (only_updNode ..) (by simp)
    refine Only.then ?_ (only_updFlt ..) (by simp)
    exact Only.refl _ _
  · refine Only.then ?_ (only_hubSend ..) (by simp)
    refine Only.then ?_ (only_hubSend ..) (by simp)
    refine Only.then ?_ (only_updFlt ..) (by simp)
    exact Only.refl _ _
theorem only_adopt (s : State) (c : Nat) (lo : NodeId) (hi : NodeId) : Only [.nodes, .links, .flt] s (State.adopt s c lo hi) := by
  unfold State.adopt
  dsimp only
  refine Only.ite _ (fun _ => ?_) (fun _ => ?_)
  · exact Only.refl _ _
  · refine Only.then ?_ (only_tally ..) (by simp)
    refine Only.then ?_ (only_siblingsCarry ..) (by simp)
    refine Only.then ?_ (only_updFlt ..) (by simp)
    refine Only.trans ?_ (Only.foldl _ (fun s a => ?_) _ _)
    · refine Only.then ?_ (only_hubSend ..) (by simp)
      refine Only.ite _ (fun _ => ?_) (fun _ => ?_)
      · refine Only.then ?_ (only_hubSend ..) (by simp)
        refine Only.then ?_ (only_updNode ..) (by simp)
        refine Only.trans ?_ (Only.foldl _ (fun s a => ?_) _ _)
        · exact Only.refl _ _
        · refine Only.then ?_ (only_putException ..) (by simp)
          exact Only.refl _ _
      · refine Only.then ?_ (only_updNode ..) (by simp)
        refine Only.trans ?_ (Only.foldl _ (fun s a => ?_) _ _)
        · exact Only.refl _ _
        · refine Only.then ?_ (only_putException ..) (by simp)
          exact Only.refl _ _
    · refine Only.then ?_ (only_updNode ..) (by simp)
      refine Only.then ?_ (only_updNflt ..) (by simp)
      exact Only.refl _ _
theorem only_enumMoved (s : State) : Only [.links, .eng, .com, .safe, .regs, .conv, .stg, .flt, .hw, .store, .sys, .ports] s (State.enumMoved s) := by
  unfold State.enumMoved
  refine Only.then ?_ (only_bootEnum ..) (by simp)
  exact Only.refl _ _
theorem only_disablePort (s : State) (n : Nat) (p : Nat) (c : Nat) : Only [.nodes, .links, .flt] s (State.disablePort s n p c) := by
  unfold State.disablePort
  dsimp only
  refine Only.ite _ (fun _ => ?_) (fun _ => ?_)
  · refine Only.then ?_ (only_updNode ..) (by simp)
    refine Only.then ?_ (only_updFlt ..) (by simp)
    refine Only.then ?_ (only_updNode ..) (by simp)
    exact Only.refl _ _
  · refine Only.then ?_ (only_hubSend ..) (by simp)
    refine Only.then ?_ (only_updFlt ..) (by simp)
    refine Only.then ?_ (only_updNode ..) (by simp)
    exact Only.refl _ _
theorem only_described (s : State) (n : Nat) (p : Nat) (c : Nat) (kind : Nat) (ports : Nat) (wide : Bool) (rating : Nat) (revision : Nat) : Only [.nodes, .links, .flt, .sys] s (State.described s n p c kind ports wide rating revision) := by
  unfold State.described
  dsimp only
  refine Only.ite _ (fun _ => ?_) (fun _ => ?_)
  · refine Only.ite _ (fun _ => ?_) (fun _ => ?_)
    · refine Only.ite _ (fun _ => ?_) (fun _ => ?_)
      · refine Only.then ?_ (only_enumStop ..) (by simp)
        refine Only.then ?_ (only_updSys ..) (by simp)
        refine Only.then ?_ (only_updSys ..) (by simp)
        refine Only.then ?_ (only_updNode ..) (by simp)
        exact Only.refl _ _
      · refine Only.then ?_ (only_sendProbe ..) (by simp)
        refine Only.then ?_ (only_updSys ..) (by simp)
        refine Only.then ?_ (only_updSys ..) (by simp)
        refine Only.then ?_ (only_updNode ..) (by simp)
        exact Only.refl _ _
    · refine Only.then ?_ (only_enumAdvance ..) (by simp)
      refine Only.then ?_ (only_updSys ..) (by simp)
      refine Only.then ?_ (only_updNode ..) (by simp)
      exact Only.refl _ _
  · refine Only.then ?_ (only_enumAdvance ..) (by simp)
    refine Only.then ?_ (only_disablePort ..) (by simp)
    refine Only.then ?_ (only_updSys ..) (by simp)
    refine Only.then ?_ (only_updNode ..) (by simp)
    exact Only.refl _ _
theorem only_sampleIn (s : State) (src : NodeId) (kind : Byte) (value : Word) : Only [.eng, .regs] s (State.sampleIn s src kind value) := by
  unfold State.sampleIn
  dsimp only
  refine Only.ite _ (fun _ => ?_) (fun _ => ?_)
  · refine Only.then ?_ (only_updEng ..) (by simp)
    refine Only.ite _ (fun _ => ?_) (fun _ => ?_)
    · refine Only.trans ?_ (Only.foldl _ (fun s a => ?_) _ _)
      · exact Only.refl _ _
      · refine Only.ite _ (fun _ => ?_) (fun _ => ?_)
        · refine Only.then ?_ (only_updTel ..) (by simp)
          refine Only.ite _ (fun _ => ?_) (fun _ => ?_)
          · refine Only.then ?_ (only_updTel ..) (by simp)
            exact Only.refl _ _
          · exact Only.refl _ _
        · refine Only.ite _ (fun _ => ?_) (fun _ => ?_)
          · refine Only.then ?_ (only_updTel ..) (by simp)
            exact Only.refl _ _
          · exact Only.refl _ _
    · exact Only.refl _ _
  · refine Only.then ?_ (only_slotWrite ..) (by simp)
    refine Only.ite _ (fun _ => ?_) (fun _ => ?_)
    · refine Only.trans ?_ (Only.foldl _ (fun s a => ?_) _ _)
      · exact Only.refl _ _
      · refine Only.ite _ (fun _ => ?_) (fun _ => ?_)
        · refine Only.then ?_ (only_updTel ..) (by simp)
          refine Only.ite _ (fun _ => ?_) (fun _ => ?_)
          · refine Only.then ?_ (only_updTel ..) (by simp)
            exact Only.refl _ _
          · exact Only.refl _ _
        · refine Only.ite _ (fun _ => ?_) (fun _ => ?_)
          · refine Only.then ?_ (only_updTel ..) (by simp)
            exact Only.refl _ _
          · exact Only.refl _ _
    · exact Only.refl _ _
theorem only_rollRegion (s : State) (r : Nat) : Only [.regs, .tel] s (State.rollRegion s r) := by
  unfold State.rollRegion
  dsimp only
  refine Only.then ?_ (only_updUse ..) (by simp)
  refine Only.then ?_ (only_updDie ..) (by simp)
  refine Only.then ?_ (only_updTel ..) (by simp)
  exact Only.refl _ _
theorem only_rollConv (s : State) : Only [.free, .conv, .tel] s (State.rollConv s) := by
  unfold State.rollConv
  dsimp only
  refine Only.then ?_ (only_draw ..) (by simp)
  refine Only.then ?_ (only_updDie ..) (by simp)
  refine Only.then ?_ (only_updConv ..) (by simp)
  exact Only.refl _ _
theorem only_rollTally (s : State) (r : Nat) : Only [.regs, .flt] s (State.rollTally s r) := by
  unfold State.rollTally
  dsimp only
  refine Only.then ?_ (only_updReg ..) (by simp)
  refine Only.ite _ (fun _ => ?_) (fun _ => ?_)
  · refine Only.then ?_ (only_tally ..) (by simp)
    refine Only.then ?_ (only_tally ..) (by simp)
    exact Only.refl _ _
  · refine Only.then ?_ (only_tally ..) (by simp)
    exact Only.refl _ _
theorem only_rollSlots (s : State) (r : Nat) : Only [.eng, .regs] s (State.rollSlots s r) := by
  unfold State.rollSlots
  dsimp only
  split
  · refine Only.then ?_ (only_updUse ..) (by simp)
    refine Only.ite _ (fun _ => ?_) (fun _ => ?_)
    · refine Only.then ?_ (only_slotWrite ..) (by simp)
      refine Only.then ?_ (only_slotWrite ..) (by simp)
      refine Only.then ?_ (only_slotWrite ..) (by simp)
      exact Only.refl _ _
    · refine Only.then ?_ (only_slotWrite ..) (by simp)
      refine Only.then ?_ (only_slotWrite ..) (by simp)
      exact Only.refl _ _
  · refine Only.then ?_ (only_updUse ..) (by simp)
    refine Only.then ?_ (only_updKrf ..) (by simp)
    refine Only.ite _ (fun _ => ?_) (fun _ => ?_)
    · refine Only.then ?_ (only_slotWrite ..) (by simp)
      refine Only.then ?_ (only_slotWrite ..) (by simp)
      refine Only.then ?_ (only_slotWrite ..) (by simp)
      exact Only.refl _ _
    · refine Only.then ?_ (only_slotWrite ..) (by simp)
      refine Only.then ?_ (only_slotWrite ..) (by simp)
      exact Only.refl _ _
theorem only_fillSnaps (s : State) : Only [.regs, .tel] s (State.fillSnaps s) := by
  unfold State.fillSnaps
  dsimp only
  refine Only.trans ?_ (Only.foldl _ (fun s a => ?_) _ _)
  · refine Only.then ?_ (only_updDie ..) (by simp)
    exact Only.refl _ _
  · refine Only.then ?_ (only_updTel ..) (by simp)
    exact Only.refl _ _
theorem only_capRise (s : State) : Only [.bud, .flt] s (State.capRise s) := by
  unfold State.capRise
  refine Only.ite _ (fun _ => ?_) (fun _ => ?_)
  · exact Only.refl _ _
  · refine Only.then ?_ (only_tally ..) (by simp)
    refine Only.then ?_ (only_cause ..) (by simp)
    refine Only.then ?_ (only_updBud ..) (by simp)
    exact Only.refl _ _
theorem only_closeUse (s : State) (r : Nat) : Only [.eng, .regs] s (State.closeUse s r) := by
  unfold State.closeUse
  dsimp only
  refine Only.then ?_ (only_fwPlace ..) (by simp)
  refine Only.then ?_ (only_fwPlace ..) (by simp)
  refine Only.then ?_ (only_updUse ..) (by simp)
  exact Only.refl _ _
theorem only_latchSnaps (s : State) : Only [.tel] s (State.latchSnaps s) := by
  unfold State.latchSnaps
  refine Only.then ?_ (only_updDie ..) (by simp)
  exact Only.refl _ _
theorem only_windowExit (s : State) (src : NodeId) (cause : Byte) (detail : Word) : Only [.regs, .flt] s (State.windowExit s src cause detail) := by
  unfold State.windowExit
  split
  · exact Only.refl _ _
  · dsimp only
    refine Only.ite _ (fun _ => ?_) (fun _ => ?_)
    · refine Only.then ?_ (only_tally ..) (by simp)
      refine Only.then ?_ (only_updTel ..) (by simp)
      exact Only.refl _ _
    · refine Only.then ?_ (only_cause ..) (by simp)
      refine Only.then ?_ (only_tally ..) (by simp)
      refine Only.then ?_ (only_updTel ..) (by simp)
      exact Only.refl _ _
theorem only_tallyIn (s : State) (src : NodeId) (cause : Byte) (detail : Word) : Only [.flt] s (State.tallyIn s src cause detail) := by
  unfold State.tallyIn
  split
  · exact Only.refl _ _
  · dsimp only
    refine Only.ite _ (fun _ => ?_) (fun _ => ?_)
    · refine Only.then ?_ (only_tally ..) (by simp)
      refine Only.then ?_ (only_tally ..) (by simp)
      exact Only.refl _ _
    · refine Only.ite _ (fun _ => ?_) (fun _ => ?_)
      · refine Only.then ?_ (only_tally ..) (by simp)
        refine Only.then ?_ (only_tally ..) (by simp)
        exact Only.refl _ _
      · refine Only.ite _ (fun _ => ?_) (fun _ => ?_)
        · refine Only.then ?_ (only_tally ..) (by simp)
          exact Only.refl _ _
        · refine Only.ite _ (fun _ => ?_) (fun _ => ?_)
          · refine Only.then ?_ (only_tally ..) (by simp)
            exact Only.refl _ _
          · exact Only.refl _ _
theorem only_lossIn (s : State) (src : NodeId) (cause : Byte) (detail : Word) : Only [.eng, .flt] s (State.lossIn s src cause detail) := by
  unfold State.lossIn
  split
  · exact Only.refl _ _
  · refine Only.ite _ (fun _ => ?_) (fun _ => ?_)
    · refine Only.ite _ (fun _ => ?_) (fun _ => ?_)
      · refine Only.then ?_ (only_lose ..) (by simp)
        refine Only.then ?_ (only_tally ..) (by simp)
        refine Only.then ?_ (only_siblingsCarry ..) (by simp)
        refine Only.then ?_ (only_updNflt ..) (by simp)
        exact Only.refl _ _
      · refine Only.then ?_ (only_updNflt ..) (by simp)
        exact Only.refl _ _
    · dsimp only
      refine Only.ite _ (fun _ => ?_) (fun _ => ?_)
      · refine Only.then ?_ (only_lose ..) (by simp)
        refine Only.then ?_ (only_tally ..) (by simp)
        refine Only.ite _ (fun _ => ?_) (fun _ => ?_)
        · refine Only.then ?_ (only_updNflt ..) (by simp)
          exact Only.refl _ _
        · exact Only.refl _ _
      · refine Only.ite _ (fun _ => ?_) (fun _ => ?_)
        · refine Only.then ?_ (only_updNflt ..) (by simp)
          exact Only.refl _ _
        · exact Only.refl _ _
theorem only_hubEvent (s : State) (src : NodeId) (cause : Byte) (detail : Word) : Only [.nodes, .eng, .regs, .flt] s (State.hubEvent s src cause detail) := by
  unfold State.hubEvent
  split
  · exact Only.refl _ _
  · dsimp only
    refine Only.ite _ (fun _ => ?_) (fun _ => ?_)
    · refine Only.trans ?_ (Only.foldl _ (fun s a => ?_) _ _)
      · exact Only.refl _ _
      · refine Only.then ?_ (only_updNode ..) (by simp)
        exact Only.refl _ _
    · refine Only.ite _ (fun _ => ?_) (fun _ => ?_)
      · refine Only.then ?_ (only_updNflt ..) (by simp)
        exact Only.refl _ _
      · refine Only.ite _ (fun _ => ?_) (fun _ => ?_)
        · refine Only.then ?_ (only_lossIn ..) (by simp)
          exact Only.refl _ _
        · refine Only.ite _ (fun _ => ?_) (fun _ => ?_)
          · refine Only.then ?_ (only_updNflt ..) (by simp)
            exact Only.refl _ _
          · refine Only.ite _ (fun _ => ?_) (fun _ => ?_)
            · refine Only.then ?_ (only_windowExit ..) (by simp)
              exact Only.refl _ _
            · refine Only.ite _ (fun _ => ?_) (fun _ => ?_)
              · refine Only.then ?_ (only_tally ..) (by simp)
                refine Only.then ?_ (only_updNflt ..) (by simp)
                exact Only.refl _ _
              · refine Only.ite _ (fun _ => ?_) (fun _ => ?_)
                · refine Only.then ?_ (only_tallyIn ..) (by simp)
                  exact Only.refl _ _
                · exact Only.refl _ _
theorem only_takeEvent (s : State) (src : NodeId) (cause : Byte) (detail : Word) : Only [.links] s (State.takeEvent s src cause detail) := by
  unfold State.takeEvent
  refine Only.then ?_ (only_takeInto ..) (by simp)
  exact Only.refl _ _
theorem only_stageHub (s : State) (cws : List CW) : Only [.stg, .ports] s (State.stageHub s cws) := by
  unfold State.stageHub
  refine Only.ite _ (fun _ => ?_) (fun _ => ?_)
  · exact Only.refl _ _
  · dsimp only
    refine Only.trans ?_ (Only.foldl _ (fun s a => ?_) _ _)
    · refine Only.then ?_ (only_updStg ..) (by simp)
      exact Only.refl _ _
    · refine Only.then ?_ (only_stage ..) (by simp)
      exact Only.refl _ _
theorem only_stageAutos (s : State) : Only [.stg, .ports] s (State.stageAutos s) := by
  unfold State.stageAutos
  dsimp only
  split
  · refine Only.ite _ (fun _ => ?_) (fun _ => ?_)
    · refine Only.then ?_ (only_stageHub ..) (by simp)
      refine Only.then ?_ (only_updPorts ..) (by simp)
      refine Only.ite _ (fun _ => ?_) (fun _ => ?_)
      · refine Only.then ?_ (only_stageHub ..) (by simp)
        refine Only.trans ?_ (Only.foldl _ (fun s a => ?_) _ _)
        · refine Only.trans ?_ (Only.foldl _ (fun s a => ?_) _ _)
          · exact Only.refl _ _
          · refine Only.then ?_ (only_stageHub ..) (by simp)
            exact Only.refl _ _
        · refine Only.then ?_ (only_stageHub ..) (by simp)
          exact Only.refl _ _
      · refine Only.trans ?_ (Only.foldl _ (fun s a => ?_) _ _)
        · refine Only.trans ?_ (Only.foldl _ (fun s a => ?_) _ _)
          · exact Only.refl _ _
          · refine Only.then ?_ (only_stageHub ..) (by simp)
            exact Only.refl _ _
        · refine Only.then ?_ (only_stageHub ..) (by simp)
          exact Only.refl _ _
    · refine Only.ite _ (fun _ => ?_) (fun _ => ?_)
      · refine Only.then ?_ (only_stageHub ..) (by simp)
        refine Only.trans ?_ (Only.foldl _ (fun s a => ?_) _ _)
        · refine Only.trans ?_ (Only.foldl _ (fun s a => ?_) _ _)
          · exact Only.refl _ _
          · refine Only.then ?_ (only_stageHub ..) (by simp)
            exact Only.refl _ _
        · refine Only.then ?_ (only_stageHub ..) (by simp)
          exact Only.refl _ _
      · refine Only.trans ?_ (Only.foldl _ (fun s a => ?_) _ _)
        · refine Only.trans ?_ (Only.foldl _ (fun s a => ?_) _ _)
          · exact Only.refl _ _
          · refine Only.then ?_ (only_stageHub ..) (by simp)
            exact Only.refl _ _
        · refine Only.then ?_ (only_stageHub ..) (by simp)
          exact Only.refl _ _
  · refine Only.ite _ (fun _ => ?_) (fun _ => ?_)
    · refine Only.then ?_ (only_stageHub ..) (by simp)
      refine Only.trans ?_ (Only.foldl _ (fun s a => ?_) _ _)
      · refine Only.trans ?_ (Only.foldl _ (fun s a => ?_) _ _)
        · exact Only.refl _ _
        · refine Only.then ?_ (only_stageHub ..) (by simp)
          exact Only.refl _ _
      · refine Only.then ?_ (only_stageHub ..) (by simp)
        exact Only.refl _ _
    · refine Only.trans ?_ (Only.foldl _ (fun s a => ?_) _ _)
      · refine Only.trans ?_ (Only.foldl _ (fun s a => ?_) _ _)
        · exact Only.refl _ _
        · refine Only.then ?_ (only_stageHub ..) (by simp)
          exact Only.refl _ _
      · refine Only.then ?_ (only_stageHub ..) (by simp)
        exact Only.refl _ _
theorem only_deferLimit (s : State) : Only [.stg, .tide, .flt, .ports] s (State.deferLimit s) := by
  unfold State.deferLimit
  dsimp only
  refine Only.ite _ (fun _ => ?_) (fun _ => ?_)
  · exact Only.refl _ _
  · refine Only.then ?_ (only_sluiceFault ..) (by simp)
    refine Only.trans ?_ (Only.foldl _ (fun s a => ?_) _ _)
    · refine Only.then ?_ (only_updStg ..) (by simp)
      exact Only.refl _ _
    · refine Only.then ?_ (only_failWrites ..) (by simp)
      exact Only.refl _ _
theorem only_refuseCoefs (k : Nat) (s : State) (us : List (List SWrite)) : Only [.stg, .ports] s (State.refuseCoefs k s us).1 := by
  induction k generalizing s us with
  | zero => exact Only.refl _ _
  | succ k ih =>
    unfold State.refuseCoefs
    dsimp only
    split
    · exact Only.refl _ _
    · refine Only.trans ?_ (ih _ _)
      refine Only.foldl _ (fun s a => ?_) _ _
      refine Only.foldl _ (fun s a => ?_) _ _
      exact (only_complete ..).mono (by simp)
theorem only_sendSet (s : State) (xs : List StageItem) : Only [.links] s (State.sendSet s xs) := by
  unfold State.sendSet
  dsimp only
  refine Only.then ?_ (only_hubAll ..) (by simp)
  refine Only.trans ?_ (Only.foldl _ (fun s a => ?_) _ _)
  · exact Only.refl _ _
  · refine Only.then ?_ (only_hubSend ..) (by simp)
    refine Only.trans ?_ (Only.foldl _ (fun s a => ?_) _ _)
    · exact Only.refl _ _
    · refine Only.then ?_ (only_hubSend ..) (by simp)
      exact Only.refl _ _
theorem only_formSet (s : State) (ws : List SWrite) (alone : List Nat) : Only [.links, .stg] s (State.formSet s ws alone) := by
  unfold State.formSet
  dsimp only
  refine Only.ite _ (fun _ => ?_) (fun _ => ?_)
  · refine Only.then ?_ (only_updStg ..) (by simp)
    exact Only.refl _ _
  · refine Only.then ?_ (only_sendSet ..) (by simp)
    refine Only.then ?_ (only_updStg ..) (by simp)
    exact Only.refl _ _
theorem only_requeue (s : State) : Only [.stg, .ports] s (State.requeue s) := by
  unfold State.requeue
  dsimp only
  refine Only.then ?_ (only_updStg ..) (by simp)
  refine Only.trans ?_ (Only.foldl _ (fun s a => ?_) _ _)
  · exact Only.refl _ _
  · refine Only.then ?_ (only_complete ..) (by simp)
    exact Only.refl _ _
theorem only_latchRegion (s : State) (r : Nat) : Only [.regs] s (State.latchRegion s r) := by
  unfold State.latchRegion
  refine Only.then ?_ (only_updReg ..) (by simp)
  exact Only.refl _ _
theorem only_newEpoch (s : State) : Only [.now, .epoch, .nodes, .eng, .regs, .conv, .tel, .led] s (State.newEpoch s) := by
  unfold State.newEpoch
  dsimp only
  refine Only.ite _ (fun _ => ?_) (fun _ => ?_)
  · refine Only.then ?_ (only_updEng ..) (by simp)
    refine Only.then ?_ (only_updConv ..) (by simp)
    refine Only.then ?_ (only_updNode ..) (by simp)
    refine Only.then ?_ (only_updLed ..) (by simp)
    refine Only.then ?_ (only_updDie ..) (by simp)
    refine Only.trans ?_ (Only.foldl _ (fun s a => ?_) _ _)
    · refine Only.then ?_ (only_with_epochAt_epoch ..) (by simp)
      refine Only.then ?_ (only_reach ..) (by simp)
      exact Only.refl _ _
    · refine Only.then ?_ (only_latchRegion ..) (by simp)
      exact Only.refl _ _
  · refine Only.then ?_ (only_updConv ..) (by simp)
    refine Only.then ?_ (only_updNode ..) (by simp)
    refine Only.then ?_ (only_updLed ..) (by simp)
    refine Only.then ?_ (only_updDie ..) (by simp)
    refine Only.trans ?_ (Only.foldl _ (fun s a => ?_) _ _)
    · refine Only.then ?_ (only_with_epochAt_epoch ..) (by simp)
      refine Only.then ?_ (only_reach ..) (by simp)
      exact Only.refl _ _
    · refine Only.then ?_ (only_latchRegion ..) (by simp)
      exact Only.refl _ _
theorem only_modelStart (s : State) (r : Nat) : Only [.regs] s (State.modelStart s r) := by
  unfold State.modelStart
  refine Only.then ?_ (only_updReg ..) (by simp)
  exact Only.refl _ _
theorem only_modelMoved (s : State) (old : Committed) (c : Committed) (r : Nat) : Only [.regs] s (State.modelMoved s old c r) := by
  unfold State.modelMoved
  dsimp only
  refine Only.ite _ (fun _ => ?_) (fun _ => ?_)
  · exact Only.refl _ _
  · refine Only.then ?_ (only_updReg ..) (by simp)
    exact Only.refl _ _
theorem only_railMoved (s : State) (t : State) (x : Rail) : Only [.conv] s (State.railMoved s t x) := by
  unfold State.railMoved
  refine Only.ite _ (fun _ => ?_) (fun _ => ?_)
  · exact Only.refl _ _
  · refine Only.then ?_ (only_updRail ..) (by simp)
    exact Only.refl _ _
theorem only_finishWrite (s : State) (old : Committed) (c : Committed) (x : SWrite × Status × Bool) : Only [.conv, .stg, .flt, .ports] s (State.finishWrite s old c x) := by
  unfold State.finishWrite
  dsimp only
  refine Only.ite _ (fun _ => ?_) (fun _ => ?_)
  · refine Only.then ?_ (only_updStg ..) (by simp)
    refine Only.then ?_ (only_complete ..) (by simp)
    refine Only.ite _ (fun _ => ?_) (fun _ => ?_)
    · refine Only.then ?_ (only_tallyRole ..) (by simp)
      refine Only.then ?_ (only_updStg ..) (by simp)
      refine Only.trans ?_ (Only.foldl _ (fun s a => ?_) _ _)
      · split
        · dsimp only
          refine Only.then ?_ (only_phaseCmd ..) (by simp)
          exact Only.refl _ _
        · dsimp only
          exact Only.refl _ _
      · refine Only.then ?_ (only_updRec ..) (by simp)
        exact Only.refl _ _
    · refine Only.then ?_ (only_updStg ..) (by simp)
      refine Only.trans ?_ (Only.foldl _ (fun s a => ?_) _ _)
      · split
        · dsimp only
          refine Only.then ?_ (only_phaseCmd ..) (by simp)
          exact Only.refl _ _
        · dsimp only
          exact Only.refl _ _
      · refine Only.then ?_ (only_updRec ..) (by simp)
        exact Only.refl _ _
  · refine Only.then ?_ (only_complete ..) (by simp)
    refine Only.ite _ (fun _ => ?_) (fun _ => ?_)
    · refine Only.then ?_ (only_tallyRole ..) (by simp)
      refine Only.then ?_ (only_updStg ..) (by simp)
      refine Only.trans ?_ (Only.foldl _ (fun s a => ?_) _ _)
      · split
        · dsimp only
          refine Only.then ?_ (only_phaseCmd ..) (by simp)
          exact Only.refl _ _
        · dsimp only
          exact Only.refl _ _
      · refine Only.then ?_ (only_updRec ..) (by simp)
        exact Only.refl _ _
    · refine Only.then ?_ (only_updStg ..) (by simp)
      refine Only.trans ?_ (Only.foldl _ (fun s a => ?_) _ _)
      · split
        · dsimp only
          refine Only.then ?_ (only_phaseCmd ..) (by simp)
          exact Only.refl _ _
        · dsimp only
          exact Only.refl _ _
      · refine Only.then ?_ (only_updRec ..) (by simp)
        exact Only.refl _ _
theorem only_handOver (s : State) (old : Committed) (c : Committed) (modeOn : List Nat) (stopNow : Bool) (r : Nat) : Only [.eng, .regs, .stg, .sys, .ports] s (State.handOver s old c modeOn stopNow r) := by
  unfold State.handOver
  dsimp only
  refine Only.ite _ (fun _ => ?_) (fun _ => ?_)
  · refine Only.ite _ (fun _ => ?_) (fun _ => ?_)
    · refine Only.then ?_ (only_modelStart ..) (by simp)
      refine Only.then ?_ (only_updStg ..) (by simp)
      refine Only.ite _ (fun _ => ?_) (fun _ => ?_)
      · refine Only.ite _ (fun _ => ?_) (fun _ => ?_)
        · exact Only.refl _ _
        · refine Only.then ?_ (only_seqCommit ..) (by simp)
          exact Only.refl _ _
      · refine Only.ite _ (fun _ => ?_) (fun _ => ?_)
        · refine Only.ite _ (fun _ => ?_) (fun _ => ?_)
          · refine Only.then ?_ (only_enterRising ..) (by simp)
            exact Only.refl _ _
          · refine Only.ite _ (fun _ => ?_) (fun _ => ?_)
            · refine Only.then ?_ (only_updSeq ..) (by simp)
              exact Only.refl _ _
            · exact Only.refl _ _
        · exact Only.refl _ _
    · refine Only.then ?_ (only_updStg ..) (by simp)
      refine Only.then ?_ (only_updStg ..) (by simp)
      refine Only.ite _ (fun _ => ?_) (fun _ => ?_)
      · refine Only.ite _ (fun _ => ?_) (fun _ => ?_)
        · exact Only.refl _ _
        · refine Only.then ?_ (only_seqCommit ..) (by simp)
          exact Only.refl _ _
      · refine Only.ite _ (fun _ => ?_) (fun _ => ?_)
        · refine Only.ite _ (fun _ => ?_) (fun _ => ?_)
          · refine Only.then ?_ (only_enterRising ..) (by simp)
            exact Only.refl _ _
          · refine Only.ite _ (fun _ => ?_) (fun _ => ?_)
            · refine Only.then ?_ (only_updSeq ..) (by simp)
              exact Only.refl _ _
            · exact Only.refl _ _
        · exact Only.refl _ _
  · refine Only.ite _ (fun _ => ?_) (fun _ => ?_)
    · refine Only.then ?_ (only_updStg ..) (by simp)
      refine Only.ite _ (fun _ => ?_) (fun _ => ?_)
      · refine Only.ite _ (fun _ => ?_) (fun _ => ?_)
        · exact Only.refl _ _
        · refine Only.then ?_ (only_seqCommit ..) (by simp)
          exact Only.refl _ _
      · refine Only.ite _ (fun _ => ?_) (fun _ => ?_)
        · refine Only.ite _ (fun _ => ?_) (fun _ => ?_)
          · refine Only.then ?_ (only_enterRising ..) (by simp)
            exact Only.refl _ _
          · refine Only.ite _ (fun _ => ?_) (fun _ => ?_)
            · refine Only.then ?_ (only_updSeq ..) (by simp)
              exact Only.refl _ _
            · exact Only.refl _ _
        · exact Only.refl _ _
    · refine Only.ite _ (fun _ => ?_) (fun _ => ?_)
      · refine Only.ite _ (fun _ => ?_) (fun _ => ?_)
        · exact Only.refl _ _
        · refine Only.then ?_ (only_seqCommit ..) (by simp)
          exact Only.refl _ _
      · refine Only.ite _ (fun _ => ?_) (fun _ => ?_)
        · refine Only.ite _ (fun _ => ?_) (fun _ => ?_)
          · refine Only.then ?_ (only_enterRising ..) (by simp)
            exact Only.refl _ _
          · refine Only.ite _ (fun _ => ?_) (fun _ => ?_)
            · refine Only.then ?_ (only_updSeq ..) (by simp)
              exact Only.refl _ _
            · exact Only.refl _ _
        · exact Only.refl _ _
theorem only_modeDone (s : State) (c : CW) : Only [.stg, .flt, .ports] s (State.modeDone s c) := by
  unfold State.modeDone
  split
  · refine Only.ite _ (fun _ => ?_) (fun _ => ?_)
    · exact Only.refl _ _
    · dsimp only
      refine Only.ite _ (fun _ => ?_) (fun _ => ?_)
      · refine Only.then ?_ (only_stageFw ..) (by simp)
        refine Only.then ?_ (only_updNflt ..) (by simp)
        refine Only.then ?_ (only_updNflt ..) (by simp)
        exact Only.refl _ _
      · refine Only.ite _ (fun _ => ?_) (fun _ => ?_)
        · refine Only.then ?_ (only_updNflt ..) (by simp)
          refine Only.then ?_ (only_updNflt ..) (by simp)
          exact Only.refl _ _
        · refine Only.then ?_ (only_updNflt ..) (by simp)
          exact Only.refl _ _
  · exact Only.refl _ _
theorem only_modeKnown (s t : State) (c : CW) : Only [.flt] t (s.modeKnown t c) := by
  unfold State.modeKnown
  split
  · exact Only.foldl _ (fun _ _ => only_updNflt ..) _ _
  · exact Only.refl _ _
theorem only_bandMoved (s : State) (old : Committed) (c : Committed) (r : Nat) : Only [.regs] s (State.bandMoved s old c r) := by
  unfold State.bandMoved
  dsimp only
  refine Only.then ?_ (only_updTh ..) (by simp)
  exact Only.refl _ _
theorem only_liveMoved (s : State) (old : Committed) (c : Committed) (r : Nat) : Only [.eng] s (State.liveMoved s old c r) := by
  unfold State.liveMoved
  dsimp only
  refine Only.ite _ (fun _ => ?_) (fun _ => ?_)
  · exact Only.refl _ _
  · refine Only.then ?_ (only_setLive ..) (by simp)
    exact Only.refl _ _
theorem only_glueEffects (s : State) (old : Committed) (c : Committed) (ws : List SWrite) (modes : List CW) (stopNow : Bool) : Only [.eng, .regs, .stg, .led, .tide, .flt, .store, .sys, .ports] s (State.glueEffects s old c ws modes stopNow) := by
  unfold State.glueEffects
  dsimp only
  refine Only.ite _ (fun _ => ?_) (fun _ => ?_)
  · refine Only.then ?_ (only_updSys ..) (by simp)
    refine Only.then ?_ (only_ledCommit ..) (by simp)
    refine Only.ite _ (fun _ => ?_) (fun _ => ?_)
    · refine Only.then ?_ (only_holdCommitted ..) (by simp)
      refine Only.then ?_ (only_tideCommit ..) (by simp)
      refine Only.trans ?_ (Only.foldl _ (fun s a => ?_) _ _)
      · refine Only.trans ?_ (Only.foldl _ (fun s a => ?_) _ _)
        · refine Only.trans ?_ (Only.foldl _ (fun s a => ?_) _ _)
          · refine Only.trans ?_ (Only.foldl _ (fun s a => ?_) _ _)
            · refine Only.then ?_ (only_updStg ..) (by simp)
              exact Only.refl _ _
            · refine Only.then ?_ (only_handOver ..) (by simp)
              exact Only.refl _ _
          · refine Only.then ?_ (only_modeKnown ..) (by simp)
            exact Only.refl _ _
        · refine Only.then ?_ (only_modeDone ..) (by simp)
          exact Only.refl _ _
      · refine Only.then ?_ (only_liveMoved ..) (by simp)
        refine Only.then ?_ (only_bandMoved ..) (by simp)
        exact Only.refl _ _
    · refine Only.then ?_ (only_tideCommit ..) (by simp)
      refine Only.trans ?_ (Only.foldl _ (fun s a => ?_) _ _)
      · refine Only.trans ?_ (Only.foldl _ (fun s a => ?_) _ _)
        · refine Only.trans ?_ (Only.foldl _ (fun s a => ?_) _ _)
          · refine Only.trans ?_ (Only.foldl _ (fun s a => ?_) _ _)
            · refine Only.then ?_ (only_updStg ..) (by simp)
              exact Only.refl _ _
            · refine Only.then ?_ (only_handOver ..) (by simp)
              exact Only.refl _ _
          · refine Only.then ?_ (only_modeKnown ..) (by simp)
            exact Only.refl _ _
        · refine Only.then ?_ (only_modeDone ..) (by simp)
          exact Only.refl _ _
      · refine Only.then ?_ (only_liveMoved ..) (by simp)
        refine Only.then ?_ (only_bandMoved ..) (by simp)
        exact Only.refl _ _
  · refine Only.then ?_ (only_ledCommit ..) (by simp)
    refine Only.ite _ (fun _ => ?_) (fun _ => ?_)
    · refine Only.then ?_ (only_holdCommitted ..) (by simp)
      refine Only.then ?_ (only_tideCommit ..) (by simp)
      refine Only.trans ?_ (Only.foldl _ (fun s a => ?_) _ _)
      · refine Only.trans ?_ (Only.foldl _ (fun s a => ?_) _ _)
        · refine Only.trans ?_ (Only.foldl _ (fun s a => ?_) _ _)
          · refine Only.trans ?_ (Only.foldl _ (fun s a => ?_) _ _)
            · refine Only.then ?_ (only_updStg ..) (by simp)
              exact Only.refl _ _
            · refine Only.then ?_ (only_handOver ..) (by simp)
              exact Only.refl _ _
          · refine Only.then ?_ (only_modeKnown ..) (by simp)
            exact Only.refl _ _
        · refine Only.then ?_ (only_modeDone ..) (by simp)
          exact Only.refl _ _
      · refine Only.then ?_ (only_liveMoved ..) (by simp)
        refine Only.then ?_ (only_bandMoved ..) (by simp)
        exact Only.refl _ _
    · refine Only.then ?_ (only_tideCommit ..) (by simp)
      refine Only.trans ?_ (Only.foldl _ (fun s a => ?_) _ _)
      · refine Only.trans ?_ (Only.foldl _ (fun s a => ?_) _ _)
        · refine Only.trans ?_ (Only.foldl _ (fun s a => ?_) _ _)
          · refine Only.trans ?_ (Only.foldl _ (fun s a => ?_) _ _)
            · refine Only.then ?_ (only_updStg ..) (by simp)
              exact Only.refl _ _
            · refine Only.then ?_ (only_handOver ..) (by simp)
              exact Only.refl _ _
          · refine Only.then ?_ (only_modeKnown ..) (by simp)
            exact Only.refl _ _
        · refine Only.then ?_ (only_modeDone ..) (by simp)
          exact Only.refl _ _
      · refine Only.then ?_ (only_liveMoved ..) (by simp)
        refine Only.then ?_ (only_bandMoved ..) (by simp)
        exact Only.refl _ _
theorem only_glueUp (s : State) : Only [.nodes, .eng, .com, .safe, .regs, .conv, .stg, .led, .tide, .flt, .store, .sys, .ports] s (State.glueUp s) := by
  unfold State.glueUp
  dsimp only
  refine Only.ite _ (fun _ => ?_) (fun _ => ?_)
  · refine Only.then ?_ (only_stageFw ..) (by simp)
    refine Only.trans ?_ (Only.foldl _ (fun s a => ?_) _ _)
    · refine Only.trans ?_ (Only.foldl _ (fun s a => ?_) _ _)
      · refine Only.then ?_ (only_convMoved ..) (by simp)
        refine Only.then ?_ (only_with_com ..) (by simp)
        refine Only.trans ?_ (Only.foldl _ (fun s a => ?_) _ _)
        · refine Only.then ?_ (only_glueEffects ..) (by simp)
          refine Only.trans ?_ (Only.foldl _ (fun s a => ?_) _ _)
          · refine Only.trans ?_ (Only.foldl _ (fun s a => ?_) _ _)
            · refine Only.then ?_ (only_with_com_safe ..) (by simp)
              exact Only.refl _ _
            · refine Only.then ?_ (only_railMoved ..) (by simp)
              exact Only.refl _ _
          · refine Only.then ?_ (only_modelMoved ..) (by simp)
            exact Only.refl _ _
        · refine Only.then ?_ (only_finishWrite ..) (by simp)
          exact Only.refl _ _
      · refine Only.then ?_ (only_updLdyn ..) (by simp)
        exact Only.refl _ _
    · refine Only.then ?_ (only_updNflt ..) (by simp)
      refine Only.then ?_ (only_updNode ..) (by simp)
      exact Only.refl _ _
  · refine Only.trans ?_ (Only.foldl _ (fun s a => ?_) _ _)
    · refine Only.trans ?_ (Only.foldl _ (fun s a => ?_) _ _)
      · refine Only.then ?_ (only_convMoved ..) (by simp)
        refine Only.then ?_ (only_with_com ..) (by simp)
        refine Only.trans ?_ (Only.foldl _ (fun s a => ?_) _ _)
        · refine Only.then ?_ (only_glueEffects ..) (by simp)
          refine Only.trans ?_ (Only.foldl _ (fun s a => ?_) _ _)
          · refine Only.trans ?_ (Only.foldl _ (fun s a => ?_) _ _)
            · refine Only.then ?_ (only_with_com_safe ..) (by simp)
              exact Only.refl _ _
            · refine Only.then ?_ (only_railMoved ..) (by simp)
              exact Only.refl _ _
          · refine Only.then ?_ (only_modelMoved ..) (by simp)
            exact Only.refl _ _
        · refine Only.then ?_ (only_finishWrite ..) (by simp)
          exact Only.refl _ _
      · refine Only.then ?_ (only_updLdyn ..) (by simp)
        exact Only.refl _ _
    · refine Only.then ?_ (only_updNflt ..) (by simp)
      refine Only.then ?_ (only_updNode ..) (by simp)
      exact Only.refl _ _

end Sys2Proof.Machine
end

