-- ==== Sys2Proof/Laws/FrameExec.lean ====
section
/-! SUPPORT. Frames of the meanings: for each command, the parts of the state it may change, whatever its operands and the
state, with the fact that it ends in a next state whose outputs have settled. -/

namespace Sys2Proof.Machine

/-- An outcome is a next state reached by changing only the named parts, with its outputs settled. -/
def Ends (ps : List Part) (s : State) (o : Host.Outcome State Fault Refusal) : Prop := ∃ u, o = done u ∧ Only ps s u

theorem Ends.done {ps : List Part} {s u : State} (h : Only ps s u) : Ends ps s (done u) := ⟨u, rfl, h⟩

theorem Ends.ite {ps : List Part} {s : State} {o q : Host.Outcome State Fault Refusal} (c : Prop) [Decidable c]
    (h : c → Ends ps s o) (g : ¬ c → Ends ps s q) : Ends ps s (if c then o else q) := by
  split
  · exact h ‹_›
  · exact g ‹_›

theorem only_execRailGood (r : Nat) (s : State) : Ends [.now, .eng, .regs, .ports] s (execRailGood r s) := by
  unfold execRailGood
  dsimp only
  refine Ends.ite _ (fun _ => ?_) (fun _ => ?_)
  · refine Ends.done ?_
    refine Only.then ?_ (only_enterStaging ..) (by simp)
    refine Only.then ?_ (only_reach ..) (by simp)
    exact Only.refl _ _
  · refine Ends.done ?_
    exact Only.refl _ _
theorem only_execStartfailTimeout (r : Nat) (s : State) : Ends [.now, .regs, .stg] s (execStartfailTimeout r s) := by
  unfold execStartfailTimeout
  dsimp only
  refine Ends.ite _ (fun _ => ?_) (fun _ => ?_)
  · refine Ends.done ?_
    refine Only.then ?_ (only_enterFalling ..) (by simp)
    refine Only.then ?_ (only_updSeq ..) (by simp)
    refine Only.then ?_ (only_reach ..) (by simp)
    exact Only.refl _ _
  · refine Ends.done ?_
    exact Only.refl _ _
theorem only_execStagingInterval (r : Nat) (s : State) : Ends [.now, .eng, .regs, .ports] s (execStagingInterval r s) := by
  unfold execStagingInterval
  dsimp only
  refine Ends.ite _ (fun _ => ?_) (fun _ => ?_)
  · refine Ends.ite _ (fun _ => ?_) (fun _ => ?_)
    · refine Ends.done ?_
      refine Only.then ?_ (only_enableStage ..) (by simp)
      refine Only.then ?_ (only_reach ..) (by simp)
      exact Only.refl _ _
    · refine Ends.done ?_
      refine Only.then ?_ (only_stageCheck ..) (by simp)
      refine Only.then ?_ (only_reach ..) (by simp)
      exact Only.refl _ _
  · refine Ends.done ?_
    exact Only.refl _ _
theorem only_execForcedStaging (r : Nat) (s : State) : Ends [.now, .regs, .flt, .ports] s (execForcedStaging r s) := by
  unfold execForcedStaging
  dsimp only
  split
  · refine Ends.done ?_
    exact Only.refl _ _
  · refine Ends.ite _ (fun _ => ?_) (fun _ => ?_)
    · refine Ends.done ?_
      refine Only.then ?_ (only_enableStage ..) (by simp)
      refine Only.then ?_ (only_tally ..) (by simp)
      refine Only.then ?_ (only_updSeq ..) (by simp)
      refine Only.then ?_ (only_reach ..) (by simp)
      exact Only.refl _ _
    · refine Ends.done ?_
      exact Only.refl _ _
theorem only_execHandoverTret (r : Nat) (s : State) : Ends [.now, .regs, .ports] s (execHandoverTret r s) := by
  unfold execHandoverTret
  dsimp only
  refine Ends.ite _ (fun _ => ?_) (fun _ => ?_)
  · refine Ends.done ?_
    refine Only.then ?_ (only_enterLive ..) (by simp)
    refine Only.then ?_ (only_updSeq ..) (by simp)
    refine Only.then ?_ (only_reach ..) (by simp)
    exact Only.refl _ _
  · refine Ends.done ?_
    exact Only.refl _ _
theorem only_execFenceTimeout (r : Nat) (s : State) : Ends [.now, .regs, .stg, .flt] s (execFenceTimeout r s) := by
  unfold execFenceTimeout
  dsimp only
  refine Ends.ite _ (fun _ => ?_) (fun _ => ?_)
  · refine Ends.ite _ (fun _ => ?_) (fun _ => ?_)
    · refine Ends.done ?_
      refine Only.then ?_ (only_enterLowering ..) (by simp)
      refine Only.then ?_ (only_tally ..) (by simp)
      refine Only.then ?_ (only_reach ..) (by simp)
      exact Only.refl _ _
    · refine Ends.done ?_
      refine Only.then ?_ (only_updSeq ..) (by simp)
      refine Only.then ?_ (only_reach ..) (by simp)
      exact Only.refl _ _
  · refine Ends.done ?_
    exact Only.refl _ _
theorem only_execStageOpen (r : Nat) (s : State) : Ends [.now, .regs, .stg] s (execStageOpen r s) := by
  unfold execStageOpen
  dsimp only
  refine Ends.ite _ (fun _ => ?_) (fun _ => ?_)
  · refine Ends.ite _ (fun _ => ?_) (fun _ => ?_)
    · refine Ends.done ?_
      refine Only.then ?_ (only_enterFalling ..) (by simp)
      refine Only.then ?_ (only_updSeq ..) (by simp)
      refine Only.then ?_ (only_reach ..) (by simp)
      exact Only.refl _ _
    · refine Ends.done ?_
      refine Only.then ?_ (only_updSeq ..) (by simp)
      refine Only.then ?_ (only_reach ..) (by simp)
      exact Only.refl _ _
  · refine Ends.done ?_
    exact Only.refl _ _
theorem only_execFallingComplete (r : Nat) (s : State) : Ends [.regs, .stg] s (execFallingComplete r s) := by
  unfold execFallingComplete
  refine Ends.ite _ (fun _ => ?_) (fun _ => ?_)
  · refine Ends.done ?_
    refine Only.then ?_ (only_finishFalling ..) (by simp)
    exact Only.refl _ _
  · refine Ends.done ?_
    exact Only.refl _ _
theorem only_execPurgeClampTret (r : Nat) (s : State) : Ends [.now, .regs] s (execPurgeClampTret r s) := by
  unfold execPurgeClampTret
  split
  · dsimp only
    refine Ends.done ?_
    refine Only.then ?_ (only_updSeq ..) (by simp)
    refine Only.then ?_ (only_reach ..) (by simp)
    exact Only.refl _ _
  · refine Ends.done ?_
    exact Only.refl _ _
theorem only_execAgoneChange (r : Nat) (level : Bool) (s : State) : Ends [.regs] s (execAgoneChange r level s) := by
  unfold execAgoneChange
  refine Ends.done ?_
  refine Only.then ?_ (only_updSeq ..) (by simp)
  exact Only.refl _ _
theorem only_execPurgeComplete (r : Nat) (s : State) : Ends [.now, .regs, .ports] s (execPurgeComplete r s) := by
  unfold execPurgeComplete
  dsimp only
  refine Ends.ite _ (fun _ => ?_) (fun _ => ?_)
  · refine Ends.done ?_
    refine Only.then ?_ (only_fenceMsg ..) (by simp)
    refine Only.then ?_ (only_updSeq ..) (by simp)
    refine Only.then ?_ (only_reach ..) (by simp)
    exact Only.refl _ _
  · refine Ends.done ?_
    exact Only.refl _ _
theorem only_execPurgeslow (r : Nat) (s : State) : Ends [.now, .regs] s (execPurgeslow r s) := by
  unfold execPurgeslow
  dsimp only
  refine Ends.ite _ (fun _ => ?_) (fun _ => ?_)
  · refine Ends.done ?_
    refine Only.then ?_ (only_updSeq ..) (by simp)
    refine Only.then ?_ (only_reach ..) (by simp)
    exact Only.refl _ _
  · refine Ends.done ?_
    exact Only.refl _ _
theorem only_execDrained (tag : Byte) (r : Nat) (s : State) : Ends [.regs, .stg] s (execDrained tag r s) := by
  unfold execDrained
  dsimp only
  refine Ends.ite _ (fun _ => ?_) (fun _ => ?_)
  · refine Ends.done ?_
    refine Only.then ?_ (only_enterLowering ..) (by simp)
    exact Only.refl _ _
  · refine Ends.done ?_
    exact Only.refl _ _
theorem only_execRequest (tag : Byte) (arg : BitVec 4) (r : Nat) (s : State) : Ends [.stg, .ports] s (execRequest tag arg r s) := by
  unfold execRequest
  refine Ends.ite _ (fun _ => ?_) (fun _ => ?_)
  · refine Ends.done ?_
    exact Only.refl _ _
  · split
    · refine Ends.done ?_
      refine Only.then ?_ (only_refuse ..) (by simp)
      exact Only.refl _ _
    · refine Ends.done ?_
      refine Only.then ?_ (only_refuse ..) (by simp)
      exact Only.refl _ _
    · refine Ends.ite _ (fun _ => ?_) (fun _ => ?_)
      · refine Ends.done ?_
        refine Only.then ?_ (only_refuse ..) (by simp)
        exact Only.refl _ _
      · split
        · refine Ends.ite _ (fun _ => ?_) (fun _ => ?_)
          · refine Ends.done ?_
            refine Only.then ?_ (only_refuse ..) (by simp)
            exact Only.refl _ _
          · refine Ends.done ?_
            refine Only.then ?_ (only_stage ..) (by simp)
            exact Only.refl _ _
        · refine Ends.ite _ (fun _ => ?_) (fun _ => ?_)
          · refine Ends.done ?_
            refine Only.then ?_ (only_refuse ..) (by simp)
            exact Only.refl _ _
          · refine Ends.done ?_
            refine Only.then ?_ (only_stage ..) (by simp)
            exact Only.refl _ _
        · refine Ends.done ?_
          refine Only.then ?_ (only_refuse ..) (by simp)
          exact Only.refl _ _
        · refine Ends.done ?_
          refine Only.then ?_ (only_refuse ..) (by simp)
          exact Only.refl _ _
theorem only_execFenceMessageDiscard (w : Word) (s : State) : Ends [] s (execFenceMessageDiscard w s) := by
  unfold execFenceMessageDiscard
  split
  refine Ends.done ?_
  exact Only.refl _ _
theorem only_execKerfResend (s : State) : Ends [.ports] s (execKerfResend s) := by
  unfold execKerfResend
  refine Ends.done ?_
  refine Only.trans ?_ (Only.foldl _ (fun s a => ?_) _ _)
  · exact Only.refl _ _
  · refine Only.then ?_ (only_updPorts ..) (by simp)
    exact Only.refl _ _
theorem only_execHintWordCheck (src : Nat) (w : BitVec 72) (s : State) : Ends [.eng, .regs, .stg, .ports] s (execHintWordCheck src w s) := by
  unfold execHintWordCheck
  refine Ends.ite _ (fun _ => ?_) (fun _ => ?_)
  · refine Ends.done ?_
    exact Only.refl _ _
  · refine Ends.ite _ (fun _ => ?_) (fun _ => ?_)
    · refine Ends.done ?_
      refine Only.then ?_ (only_updHsrc ..) (by simp)
      exact Only.refl _ _
    · refine Ends.done ?_
      refine Only.then ?_ (only_hintIn ..) (by simp)
      exact Only.refl _ _
theorem only_execPhase (x : Hint) (s : State) : Ends [.eng, .regs, .stg, .ports] s (execPhase x s) := by
  unfold execPhase
  refine Ends.done ?_
  refine Only.then ?_ (only_hintIn ..) (by simp)
  exact Only.refl _ _
theorem only_execBatch (x : Hint) (s : State) : Ends [.eng, .regs, .stg, .ports] s (execBatch x s) := by
  unfold execBatch
  refine Ends.done ?_
  refine Only.then ?_ (only_hintIn ..) (by simp)
  exact Only.refl _ _
theorem only_execKvgrow (x : Hint) (s : State) : Ends [.eng, .regs, .stg, .ports] s (execKvgrow x s) := by
  unfold execKvgrow
  refine Ends.done ?_
  refine Only.then ?_ (only_hintIn ..) (by simp)
  exact Only.refl _ _
theorem only_execBarrier (x : Hint) (s : State) : Ends [.eng, .regs, .stg, .ports] s (execBarrier x s) := by
  unfold execBarrier
  refine Ends.done ?_
  refine Only.then ?_ (only_hintIn ..) (by simp)
  exact Only.refl _ _
theorem only_execBwait (x : Hint) (s : State) : Ends [.eng, .regs, .stg, .ports] s (execBwait x s) := by
  unfold execBwait
  refine Ends.done ?_
  refine Only.then ?_ (only_hintIn ..) (by simp)
  exact Only.refl _ _
theorem only_execStep (x : Hint) (s : State) : Ends [.eng, .regs, .stg, .ports] s (execStep x s) := by
  unfold execStep
  refine Ends.done ?_
  refine Only.then ?_ (only_hintIn ..) (by simp)
  exact Only.refl _ _
theorem only_execContext (x : Hint) (s : State) : Ends [.eng, .regs, .stg, .ports] s (execContext x s) := by
  unfold execContext
  refine Ends.done ?_
  refine Only.then ?_ (only_hintIn ..) (by simp)
  exact Only.refl _ _
theorem only_execActivityFrame (src : Nat) (seq : BitVec 16) (counts : List (BitVec 16)) (crc : BitVec 16) (s : State) : Ends [.eng, .ports] s (execActivityFrame src seq counts crc s) := by
  unfold execActivityFrame
  dsimp only
  refine Ends.ite _ (fun _ => ?_) (fun _ => ?_)
  · refine Ends.done ?_
    exact Only.refl _ _
  · refine Ends.ite _ (fun _ => ?_) (fun _ => ?_)
    · refine Ends.done ?_
      refine Only.then ?_ (only_updHsrc ..) (by simp)
      exact Only.refl _ _
    · refine Ends.ite _ (fun _ => ?_) (fun _ => ?_)
      · refine Ends.done ?_
        refine Only.then ?_ (only_updHsrc ..) (by simp)
        exact Only.refl _ _
      · refine Ends.done ?_
        refine Only.trans ?_ (Only.foldl _ (fun s a => ?_) _ _)
        · exact Only.refl _ _
        · refine Only.then ?_ (only_slotWrite ..) (by simp)
          exact Only.refl _ _
theorem only_execHntRdyRise (src : Nat) (ver : BitVec 4) (s : State) : Ends [.ports] s (execHntRdyRise src ver s) := by
  unfold execHntRdyRise
  refine Ends.ite _ (fun _ => ?_) (fun _ => ?_)
  · refine Ends.done ?_
    exact Only.refl _ _
  · refine Ends.done ?_
    refine Only.then ?_ (only_updHsrc ..) (by simp)
    exact Only.refl _ _
theorem only_execHntRdyFall (src : Nat) (s : State) : Ends [.ports] s (execHntRdyFall src s) := by
  unfold execHntRdyFall
  refine Ends.ite _ (fun _ => ?_) (fun _ => ?_)
  · refine Ends.done ?_
    exact Only.refl _ _
  · refine Ends.done ?_
    refine Only.then ?_ (only_updHsrc ..) (by simp)
    exact Only.refl _ _
theorem only_execShimAnnouncedArrival (r : Nat) (s : State) : Ends [.now, .regs] s (execShimAnnouncedArrival r s) := by
  unfold execShimAnnouncedArrival
  split
  · dsimp only
    refine Ends.done ?_
    refine Only.then ?_ (only_updKrf ..) (by simp)
    refine Only.then ?_ (only_reach ..) (by simp)
    exact Only.refl _ _
  · refine Ends.done ?_
    exact Only.refl _ _
theorem only_execAnnwaitExpiry (r : Nat) (s : State) : Ends [.now, .regs] s (execAnnwaitExpiry r s) := by
  unfold execAnnwaitExpiry
  dsimp only
  refine Ends.ite _ (fun _ => ?_) (fun _ => ?_)
  · refine Ends.done ?_
    refine Only.then ?_ (only_updKrf ..) (by simp)
    refine Only.then ?_ (only_reach ..) (by simp)
    exact Only.refl _ _
  · refine Ends.done ?_
    exact Only.refl _ _
theorem only_execShimOnset (s : State) : Ends [.regs, .shim, .ports] s (execShimOnset s) := by
  unfold execShimOnset
  refine Ends.ite _ (fun _ => ?_) (fun _ => ?_)
  · dsimp only
    refine Ends.done ?_
    refine Only.then ?_ (only_dvtSendAll ..) (by simp)
    refine Only.trans ?_ (Only.foldl _ (fun s a => ?_) _ _)
    · refine Only.then ?_ (only_updShim ..) (by simp)
      exact Only.refl _ _
    · refine Only.then ?_ (only_updUse ..) (by simp)
      exact Only.refl _ _
  · refine Ends.done ?_
    exact Only.refl _ _
theorem only_execTaperStart (s : State) : Ends [.now, .shim] s (execTaperStart s) := by
  unfold execTaperStart
  refine Ends.ite _ (fun _ => ?_) (fun _ => ?_)
  · dsimp only
    refine Ends.done ?_
    refine Only.then ?_ (only_updShim ..) (by simp)
    refine Only.then ?_ (only_reach ..) (by simp)
    exact Only.refl _ _
  · refine Ends.done ?_
    exact Only.refl _ _
theorem only_execShimTargetUpdate (s : State) : Ends [.now, .eng, .shim] s (execShimTargetUpdate s) := by
  unfold execShimTargetUpdate
  refine Ends.ite _ (fun _ => ?_) (fun _ => ?_)
  · refine Ends.done ?_
    exact Only.refl _ _
  · dsimp only
    refine Ends.done ?_
    refine Only.ite _ (fun _ => ?_) (fun _ => ?_)
    · refine Only.then ?_ (only_shimTargets ..) (by simp)
      refine Only.then ?_ (only_updShim ..) (by simp)
      refine Only.then ?_ (only_reach ..) (by simp)
      exact Only.refl _ _
    · refine Only.then ?_ (only_updShim ..) (by simp)
      refine Only.then ?_ (only_reach ..) (by simp)
      exact Only.refl _ _
theorem only_execShimIdle (s : State) : Ends [.now, .eng, .regs, .shim] s (execShimIdle s) := by
  unfold execShimIdle
  dsimp only
  refine Ends.ite _ (fun _ => ?_) (fun _ => ?_)
  · refine Ends.done ?_
    exact Only.refl _ _
  · refine Ends.ite _ (fun _ => ?_) (fun _ => ?_)
    · refine Ends.done ?_
      refine Only.trans ?_ (Only.foldl _ (fun s a => ?_) _ _)
      · refine Only.trans ?_ (Only.foldl _ (fun s a => ?_) _ _)
        · refine Only.then ?_ (only_updShim ..) (by simp)
          exact Only.refl _ _
        · refine Only.then ?_ (only_updKrf ..) (by simp)
          exact Only.refl _ _
      · refine Only.then ?_ (only_fwPlace ..) (by simp)
        exact Only.refl _ _
    · split
      · refine Ends.ite _ (fun _ => ?_) (fun _ => ?_)
        · refine Ends.done ?_
          refine Only.trans ?_ (Only.foldl _ (fun s a => ?_) _ _)
          · refine Only.trans ?_ (Only.foldl _ (fun s a => ?_) _ _)
            · refine Only.then ?_ (only_updShim ..) (by simp)
              refine Only.then ?_ (only_reach ..) (by simp)
              exact Only.refl _ _
            · refine Only.then ?_ (only_updKrf ..) (by simp)
              exact Only.refl _ _
          · refine Only.then ?_ (only_fwPlace ..) (by simp)
            exact Only.refl _ _
        · refine Ends.done ?_
          exact Only.refl _ _
      · refine Ends.done ?_
        exact Only.refl _ _
theorem only_execLedgerWriteBack (ctx : Nat) (s : State) : Ends [.led] s (execLedgerWriteBack ctx s) := by
  unfold execLedgerWriteBack
  split
  · refine Ends.ite _ (fun _ => ?_) (fun _ => ?_)
    · refine Ends.done ?_
      refine Only.then ?_ (only_updLed ..) (by simp)
      exact Only.refl _ _
    · refine Ends.done ?_
      exact Only.refl _ _
  · refine Ends.done ?_
    exact Only.refl _ _
theorem only_execLedgerWriteComplete (ctx : Nat) (ok : Bool) (s : State) : Ends [.led] s (execLedgerWriteComplete ctx ok s) := by
  unfold execLedgerWriteComplete
  split
  · split
    · refine Ends.ite _ (fun _ => ?_) (fun _ => ?_)
      · dsimp only
        refine Ends.done ?_
        refine Only.then ?_ (only_updLed ..) (by simp)
        refine Only.then ?_ (only_updLed ..) (by simp)
        exact Only.refl _ _
      · refine Ends.done ?_
        refine Only.then ?_ (only_updLed ..) (by simp)
        exact Only.refl _ _
    · refine Ends.done ?_
      exact Only.refl _ _
  · refine Ends.done ?_
    exact Only.refl _ _
theorem only_execLedfaultClear (s : State) : Ends [.now, .led] s (execLedfaultClear s) := by
  unfold execLedfaultClear
  refine Ends.ite _ (fun _ => ?_) (fun _ => ?_)
  · refine Ends.done ?_
    refine Only.then ?_ (only_updLed ..) (by simp)
    refine Only.then ?_ (only_reach ..) (by simp)
    exact Only.refl _ _
  · refine Ends.done ?_
    exact Only.refl _ _
theorem only_execLedgerFetchComplete (ctx : Nat) (energy : Nat) (active : Nat) (kerfed : Nat) (s : State) : Ends [.led] s (execLedgerFetchComplete ctx energy active kerfed s) := by
  unfold execLedgerFetchComplete
  split
  · refine Ends.ite _ (fun _ => ?_) (fun _ => ?_)
    · refine Ends.done ?_
      exact Only.refl _ _
    · refine Ends.done ?_
      refine Only.then ?_ (only_updLed ..) (by simp)
      exact Only.refl _ _
  · refine Ends.done ?_
    exact Only.refl _ _
theorem only_execLedgerQueryReady (s : State) : Ends [.led] s (execLedgerQueryReady s) := by
  unfold execLedgerQueryReady
  refine Ends.ite _ (fun _ => ?_) (fun _ => ?_)
  · refine Ends.done ?_
    refine Only.then ?_ (only_cause ..) (by simp)
    refine Only.then ?_ (only_updLed ..) (by simp)
    exact Only.refl _ _
  · refine Ends.done ?_
    exact Only.refl _ _
theorem only_execLedgerClearComplete (s : State) : Ends [.led] s (execLedgerClearComplete s) := by
  unfold execLedgerClearComplete
  refine Ends.ite _ (fun _ => ?_) (fun _ => ?_)
  · refine Ends.done ?_
    refine Only.then ?_ (only_updLed ..) (by simp)
    exact Only.refl _ _
  · refine Ends.done ?_
    exact Only.refl _ _
theorem only_execXfer (f : TideFrame) (s : State) : Ends [.stg, .tide, .flt, .ports] s (execXfer f s) := by
  unfold execXfer
  refine Ends.done ?_
  refine Only.then ?_ (only_recvTide ..) (by simp)
  exact Only.refl _ _
theorem only_execXack (f : TideFrame) (s : State) : Ends [.stg, .tide, .flt, .ports] s (execXack f s) := by
  unfold execXack
  refine Ends.done ?_
  refine Only.then ?_ (only_recvTide ..) (by simp)
  exact Only.refl _ _
theorem only_execAdvert (f : TideFrame) (s : State) : Ends [.stg, .tide, .flt, .ports] s (execAdvert f s) := by
  unfold execAdvert
  refine Ends.done ?_
  refine Only.then ?_ (only_recvTide ..) (by simp)
  exact Only.refl _ _
theorem only_execStale (f : TideFrame) (s : State) : Ends [.stg, .tide, .flt, .ports] s (execStale f s) := by
  unfold execStale
  refine Ends.done ?_
  refine Only.then ?_ (only_recvTide ..) (by simp)
  exact Only.refl _ _
theorem only_execExpelled (f : TideFrame) (s : State) : Ends [.stg, .tide, .flt, .ports] s (execExpelled f s) := by
  unfold execExpelled
  refine Ends.done ?_
  refine Only.then ?_ (only_recvTide ..) (by simp)
  exact Only.refl _ _
theorem only_execTideFrameDiscard (bytes : List Byte) (s : State) : Ends [.stg, .tide, .flt, .ports] s (execTideFrameDiscard bytes s) := by
  unfold execTideFrameDiscard
  refine Ends.done ?_
  refine Only.then ?_ (only_recvBytes ..) (by simp)
  exact Only.refl _ _
theorem only_execTideWindow (s : State) : Ends [.now, .stg, .tide, .ports] s (execTideWindow s) := by
  unfold execTideWindow
  refine Ends.ite _ (fun _ => ?_) (fun _ => ?_)
  · refine Ends.done ?_
    exact Only.refl _ _
  · dsimp only
    refine Ends.ite _ (fun _ => ?_) (fun _ => ?_)
    · refine Ends.ite _ (fun _ => ?_) (fun _ => ?_)
      · refine Ends.done ?_
        refine Only.then ?_ (only_advertise ..) (by simp)
        refine Only.ite _ (fun _ => ?_) (fun _ => ?_)
        · refine Only.then ?_ (only_updTide ..) (by simp)
          refine Only.then ?_ (only_updTide ..) (by simp)
          refine Only.then ?_ (only_reach ..) (by simp)
          exact Only.refl _ _
        · refine Only.then ?_ (only_updTide ..) (by simp)
          refine Only.then ?_ (only_reach ..) (by simp)
          exact Only.refl _ _
      · refine Ends.done ?_
        refine Only.then ?_ (only_stageFw ..) (by simp)
        refine Only.then ?_ (only_updTide ..) (by simp)
        refine Only.then ?_ (only_advertise ..) (by simp)
        refine Only.ite _ (fun _ => ?_) (fun _ => ?_)
        · refine Only.then ?_ (only_updTide ..) (by simp)
          refine Only.then ?_ (only_updTide ..) (by simp)
          refine Only.then ?_ (only_reach ..) (by simp)
          exact Only.refl _ _
        · refine Only.then ?_ (only_updTide ..) (by simp)
          refine Only.then ?_ (only_reach ..) (by simp)
          exact Only.refl _ _
    · refine Ends.done ?_
      refine Only.then ?_ (only_advertise ..) (by simp)
      refine Only.ite _ (fun _ => ?_) (fun _ => ?_)
      · refine Only.then ?_ (only_updTide ..) (by simp)
        refine Only.then ?_ (only_updTide ..) (by simp)
        refine Only.then ?_ (only_reach ..) (by simp)
        exact Only.refl _ _
      · refine Only.then ?_ (only_updTide ..) (by simp)
        refine Only.then ?_ (only_reach ..) (by simp)
        exact Only.refl _ _
theorem only_execTideCreditStage (s : State) : Ends [.stg, .tide, .ports] s (execTideCreditStage s) := by
  unfold execTideCreditStage
  refine Ends.ite _ (fun _ => ?_) (fun _ => ?_)
  · refine Ends.done ?_
    refine Only.then ?_ (only_stageFw ..) (by simp)
    refine Only.then ?_ (only_updTide ..) (by simp)
    exact Only.refl _ _
  · refine Ends.done ?_
    exact Only.refl _ _
theorem only_execEscrowRetry (peer : Nat) (seq : Nat) (s : State) : Ends [.now, .tide, .ports] s (execEscrowRetry peer seq s) := by
  unfold execEscrowRetry
  split
  · dsimp only
    refine Ends.done ?_
    refine Only.then ?_ (only_sendXfer ..) (by simp)
    refine Only.then ?_ (only_updTide ..) (by simp)
    refine Only.then ?_ (only_reach ..) (by simp)
    exact Only.refl _ _
  · refine Ends.done ?_
    exact Only.refl _ _
theorem only_execPeerDead (peer : Nat) (s : State) : Ends [.now, .tide, .flt] s (execPeerDead peer s) := by
  unfold execPeerDead
  refine Ends.ite _ (fun _ => ?_) (fun _ => ?_)
  · dsimp only
    refine Ends.done ?_
    refine Only.then ?_ (only_tally ..) (by simp)
    refine Only.then ?_ (only_updTPeer ..) (by simp)
    refine Only.then ?_ (only_reach ..) (by simp)
    exact Only.refl _ _
  · refine Ends.done ?_
    exact Only.refl _ _
theorem only_execTideFiguresStale (s : State) : Ends [.now, .tide] s (execTideFiguresStale s) := by
  unfold execTideFiguresStale
  refine Ends.ite _ (fun _ => ?_) (fun _ => ?_)
  · refine Ends.done ?_
    refine Only.then ?_ (only_updTide ..) (by simp)
    refine Only.then ?_ (only_reach ..) (by simp)
    exact Only.refl _ _
  · refine Ends.done ?_
    exact Only.refl _ _
theorem only_execHubGuardThermalInput (r : Nat) (v : Word) (s : State) : Ends [.com, .regs, .conv, .flt, .hw, .sys] s (execHubGuardThermalInput r v s) := by
  unfold execHubGuardThermalInput
  refine Ends.ite _ (fun _ => ?_) (fun _ => ?_)
  · refine Ends.done ?_
    refine Only.then ?_ (only_guardInput ..) (by simp)
    exact Only.refl _ _
  · refine Ends.done ?_
    exact Only.refl _ _
theorem only_execBandEvaluation (s : State) : Ends [.regs, .stg, .ports] s (execBandEvaluation s) := by
  unfold execBandEvaluation
  refine Ends.ite _ (fun _ => ?_) (fun _ => ?_)
  · refine Ends.done ?_
    exact Only.refl _ _
  · refine Ends.done ?_
    refine Only.trans ?_ (Only.foldl _ (fun s a => ?_) _ _)
    · exact Only.refl _ _
    · dsimp only
      refine Only.then ?_ (only_updTh ..) (by simp)
      split
      · refine Only.then ?_ (only_evalBand ..) (by simp)
        exact Only.refl _ _
      · exact Only.refl _ _
theorem only_execDiodeReadingComplete (r : Nat) (reading : Option Int) (s : State) : Ends [.eng, .com, .regs, .conv, .stg, .flt, .hw, .sys, .ports] s (execDiodeReadingComplete r reading s) := by
  unfold execDiodeReadingComplete
  refine Ends.ite _ (fun _ => ?_) (fun _ => ?_)
  · refine Ends.done ?_
    exact Only.refl _ _
  · dsimp only
    split
    · refine Ends.done ?_
      refine Only.ite _ (fun _ => ?_) (fun _ => ?_)
      · refine Only.then ?_ (only_immediateStop ..) (by simp)
        refine Only.ite _ (fun _ => ?_) (fun _ => ?_)
        · refine Only.then ?_ (only_evalBand ..) (by simp)
          refine Only.then ?_ (only_fwPlace ..) (by simp)
          refine Only.then ?_ (only_updTh ..) (by simp)
          refine Only.then ?_ (only_updTh ..) (by simp)
          refine Only.then ?_ (only_updSys ..) (by simp)
          exact Only.refl _ _
        · refine Only.then ?_ (only_updTh ..) (by simp)
          refine Only.then ?_ (only_updTh ..) (by simp)
          refine Only.then ?_ (only_updSys ..) (by simp)
          exact Only.refl _ _
      · refine Only.ite _ (fun _ => ?_) (fun _ => ?_)
        · refine Only.then ?_ (only_evalBand ..) (by simp)
          refine Only.then ?_ (only_fwPlace ..) (by simp)
          refine Only.then ?_ (only_updTh ..) (by simp)
          refine Only.then ?_ (only_updTh ..) (by simp)
          refine Only.then ?_ (only_updSys ..) (by simp)
          exact Only.refl _ _
        · refine Only.then ?_ (only_updTh ..) (by simp)
          refine Only.then ?_ (only_updTh ..) (by simp)
          refine Only.then ?_ (only_updSys ..) (by simp)
          exact Only.refl _ _
    · refine Ends.done ?_
      refine Only.ite _ (fun _ => ?_) (fun _ => ?_)
      · refine Only.then ?_ (only_diodeReq ..) (by simp)
        refine Only.then ?_ (only_updTh ..) (by simp)
        refine Only.then ?_ (only_updTh ..) (by simp)
        refine Only.then ?_ (only_updSys ..) (by simp)
        exact Only.refl _ _
      · refine Only.then ?_ (only_updTh ..) (by simp)
        refine Only.then ?_ (only_updTh ..) (by simp)
        refine Only.then ?_ (only_updTh ..) (by simp)
        refine Only.then ?_ (only_updSys ..) (by simp)
        exact Only.refl _ _
theorem only_execThstale (r : Nat) (s : State) : Ends [.now, .regs, .sys] s (execThstale r s) := by
  unfold execThstale
  refine Ends.ite _ (fun _ => ?_) (fun _ => ?_)
  · refine Ends.done ?_
    exact Only.refl _ _
  · dsimp only
    refine Ends.done ?_
    refine Only.ite _ (fun _ => ?_) (fun _ => ?_)
    · refine Only.then ?_ (only_diodeReq ..) (by simp)
      refine Only.then ?_ (only_updTh ..) (by simp)
      refine Only.then ?_ (only_reach ..) (by simp)
      exact Only.refl _ _
    · refine Only.then ?_ (only_updTh ..) (by simp)
      refine Only.then ?_ (only_reach ..) (by simp)
      exact Only.refl _ _
theorem only_execLowconfQueue (r : Nat) (out1 : Word) (s : State) : Ends [.regs, .sys] s (execLowconfQueue r out1 s) := by
  unfold execLowconfQueue
  refine Ends.ite _ (fun _ => ?_) (fun _ => ?_)
  · refine Ends.done ?_
    exact Only.refl _ _
  · dsimp only
    refine Ends.done ?_
    refine Only.ite _ (fun _ => ?_) (fun _ => ?_)
    · refine Only.then ?_ (only_diodeReq ..) (by simp)
      refine Only.then ?_ (only_updTh ..) (by simp)
      exact Only.refl _ _
    · refine Only.then ?_ (only_updTh ..) (by simp)
      exact Only.refl _ _
theorem only_execTinletSubstitution (s : State) : Ends [.now, .eng, .ports] s (execTinletSubstitution s) := by
  unfold execTinletSubstitution
  refine Ends.ite _ (fun _ => ?_) (fun _ => ?_)
  · refine Ends.done ?_
    exact Only.refl _ _
  · dsimp only
    refine Ends.done ?_
    refine Only.then ?_ (only_fwPlace ..) (by simp)
    refine Only.then ?_ (only_updPorts ..) (by simp)
    split
    · refine Only.then ?_ (only_reach ..) (by simp)
      exact Only.refl _ _
    · exact Only.refl _ _
theorem only_execThermalRegionOrder (r : Nat) (s : State) : Ends [.now, .stg, .ports] s (execThermalRegionOrder r s) := by
  unfold execThermalRegionOrder
  refine Ends.ite _ (fun _ => ?_) (fun _ => ?_)
  · dsimp only
    refine Ends.done ?_
    refine Only.then ?_ (only_stageFw ..) (by simp)
    refine Only.then ?_ (only_reach ..) (by simp)
    exact Only.refl _ _
  · refine Ends.done ?_
    exact Only.refl _ _
theorem only_execThermalOrderRelease (r : Nat) (s : State) : Ends [.now, .stg, .ports] s (execThermalOrderRelease r s) := by
  unfold execThermalOrderRelease
  split
  · refine Ends.ite _ (fun _ => ?_) (fun _ => ?_)
    · refine Ends.done ?_
      refine Only.then ?_ (only_stageFw ..) (by simp)
      refine Only.then ?_ (only_reach ..) (by simp)
      exact Only.refl _ _
    · refine Ends.done ?_
      exact Only.refl _ _
  · refine Ends.done ?_
    exact Only.refl _ _
theorem only_execMonitorRead (r : Nat) (s : State) : Ends [.eng, .regs] s (execMonitorRead r s) := by
  unfold execMonitorRead
  refine Ends.ite _ (fun _ => ?_) (fun _ => ?_)
  · refine Ends.done ?_
    exact Only.refl _ _
  · refine Ends.ite _ (fun _ => ?_) (fun _ => ?_)
    · refine Ends.done ?_
      refine Only.then ?_ (only_updTh ..) (by simp)
      exact Only.refl _ _
    · refine Ends.done ?_
      refine Only.then ?_ (only_noMonitors ..) (by simp)
      exact Only.refl _ _
theorem only_execMonitorAnswer (r : Nat) (m : Nat) (slack : BitVec 12) (s : State) : Ends [.eng, .regs] s (execMonitorAnswer r m slack s) := by
  unfold execMonitorAnswer
  dsimp only
  refine Ends.ite _ (fun _ => ?_) (fun _ => ?_)
  · refine Ends.done ?_
    refine Only.then ?_ (only_fwPlace ..) (by simp)
    refine Only.then ?_ (only_updTh ..) (by simp)
    exact Only.refl _ _
  · refine Ends.done ?_
    exact Only.refl _ _
theorem only_execMonitorAnswerTimeout (r : Nat) (s : State) : Ends [.now, .eng, .regs] s (execMonitorAnswerTimeout r s) := by
  unfold execMonitorAnswerTimeout
  dsimp only
  refine Ends.ite _ (fun _ => ?_) (fun _ => ?_)
  · refine Ends.done ?_
    refine Only.then ?_ (only_noMonitors ..) (by simp)
    refine Only.then ?_ (only_updTh ..) (by simp)
    refine Only.then ?_ (only_reach ..) (by simp)
    exact Only.refl _ _
  · refine Ends.done ?_
    exact Only.refl _ _
theorem only_execGuardbandTrim (r : Nat) (w : Word) (s : State) : Ends [.regs, .stg, .ports] s (execGuardbandTrim r w s) := by
  unfold execGuardbandTrim
  dsimp only
  refine Ends.ite _ (fun _ => ?_) (fun _ => ?_)
  · refine Ends.done ?_
    exact Only.refl _ _
  · refine Ends.ite _ (fun _ => ?_) (fun _ => ?_)
    · refine Ends.done ?_
      refine Only.then ?_ (only_updTh ..) (by simp)
      exact Only.refl _ _
    · refine Ends.done ?_
      refine Only.then ?_ (only_stageFw ..) (by simp)
      refine Only.then ?_ (only_updTh ..) (by simp)
      exact Only.refl _ _
theorem only_execDrainTimeout (s : State) : Ends [.now, .regs, .stg, .sys] s (execDrainTimeout s) := by
  unfold execDrainTimeout
  refine Ends.ite _ (fun _ => ?_) (fun _ => ?_)
  · dsimp only
    refine Ends.done ?_
    refine Only.trans ?_ (Only.foldl _ (fun s a => ?_) _ _)
    · refine Only.then ?_ (only_updSys ..) (by simp)
      refine Only.then ?_ (only_reach ..) (by simp)
      exact Only.refl _ _
    · refine Only.ite _ (fun _ => ?_) (fun _ => ?_)
      · refine Only.then ?_ (only_enterLowering ..) (by simp)
        exact Only.refl _ _
      · exact Only.refl _ _
  · refine Ends.done ?_
    exact Only.refl _ _
theorem only_execStopRegionsDark (s : State) : Ends [.regs, .stg, .led, .flt, .sys] s (execStopRegionsDark s) := by
  unfold execStopRegionsDark
  refine Ends.ite _ (fun _ => ?_) (fun _ => ?_)
  · dsimp only
    refine Ends.done ?_
    refine Only.ite _ (fun _ => ?_) (fun _ => ?_)
    · refine Only.then ?_ (only_harvestTake ..) (by simp)
      refine Only.then ?_ (only_ledFlush ..) (by simp)
      refine Only.trans ?_ (Only.foldl _ (fun s a => ?_) _ _)
      · refine Only.then ?_ (only_updSys ..) (by simp)
        exact Only.refl _ _
      · refine Only.ite _ (fun _ => ?_) (fun _ => ?_)
        · exact Only.refl _ _
        · refine Only.then ?_ (only_enterLowering ..) (by simp)
          exact Only.refl _ _
    · refine Only.trans ?_ (Only.foldl _ (fun s a => ?_) _ _)
      · refine Only.then ?_ (only_updSys ..) (by simp)
        exact Only.refl _ _
      · refine Only.ite _ (fun _ => ?_) (fun _ => ?_)
        · exact Only.refl _ _
        · refine Only.then ?_ (only_enterLowering ..) (by simp)
          exact Only.refl _ _
  · refine Ends.done ?_
    exact Only.refl _ _
theorem only_execCoolantStop (s : State) : Ends [.now, .regs, .flt, .hw, .sys] s (execCoolantStop s) := by
  unfold execCoolantStop
  refine Ends.ite _ (fun _ => ?_) (fun _ => ?_)
  · dsimp only
    refine Ends.done ?_
    refine Only.then ?_ (only_setB ..) (by simp)
    refine Only.then ?_ (only_tally ..) (by simp)
    refine Only.then ?_ (only_updSys ..) (by simp)
    refine Only.then ?_ (only_darkAll ..) (by simp)
    refine Only.then ?_ (only_recordStop ..) (by simp)
    refine Only.then ?_ (only_reach ..) (by simp)
    exact Only.refl _ _
  · refine Ends.done ?_
    exact Only.refl _ _
theorem only_execViboff (v : Word) (s : State) : Ends [.conv] s (execViboff v s) := by
  unfold execViboff
  refine Ends.done ?_
  refine Only.then ?_ (only_takeViboff ..) (by simp)
  exact Only.refl _ _
theorem only_execQoff (v : Word) (s : State) : Ends [.conv] s (execQoff v s) := by
  unfold execQoff
  refine Ends.done ?_
  refine Only.then ?_ (only_takeQoff ..) (by simp)
  exact Only.refl _ _
theorem only_execNtarget (v : Word) (s : State) : Ends [.conv] s (execNtarget v s) := by
  unfold execNtarget
  refine Ends.done ?_
  refine Only.then ?_ (only_takeNtarget ..) (by simp)
  exact Only.refl _ _
theorem only_execTrim (n : Nat) (v : Word) (s : State) : Ends [.conv] s (execTrim n v s) := by
  unfold execTrim
  refine Ends.done ?_
  refine Only.then ?_ (only_takeTrim ..) (by simp)
  exact Only.refl _ _
theorem only_execCancel (v : Word) (s : State) : Ends [.conv] s (execCancel v s) := by
  unfold execCancel
  refine Ends.done ?_
  refine Only.then ?_ (only_takeCancel ..) (by simp)
  exact Only.refl _ _
theorem only_execKerfRatio (r : Nat) (v : Word) (s : State) : Ends [.regs, .bud, .flt] s (execKerfRatio r v s) := by
  unfold execKerfRatio
  refine Ends.done ?_
  refine Only.then ?_ (only_takeKerf ..) (by simp)
  exact Only.refl _ _
theorem only_execShimIntensity (r : Nat) (v : Word) (s : State) : Ends [.regs] s (execShimIntensity r v s) := by
  unfold execShimIntensity
  refine Ends.done ?_
  refine Only.then ?_ (only_takeShim ..) (by simp)
  exact Only.refl _ _
theorem only_execConverterOutputTimeout (s : State) : Ends [.now, .conv, .sys] s (execConverterOutputTimeout s) := by
  unfold execConverterOutputTimeout
  refine Ends.ite _ (fun _ => ?_) (fun _ => ?_)
  · refine Ends.done ?_
    exact Only.refl _ _
  · dsimp only
    refine Ends.done ?_
    refine Only.then ?_ (only_raiseTarget ..) (by simp)
    refine Only.ite _ (fun _ => ?_) (fun _ => ?_)
    · refine Only.then ?_ (only_updSys ..) (by simp)
      refine Only.trans ?_ (Only.foldl _ (fun s a => ?_) _ _)
      · refine Only.then ?_ (only_updConv ..) (by simp)
        refine Only.then ?_ (only_cancel ..) (by simp)
        refine Only.then ?_ (only_reach ..) (by simp)
        exact Only.refl _ _
      · refine Only.then ?_ (only_updRail ..) (by simp)
        exact Only.refl _ _
    · refine Only.trans ?_ (Only.foldl _ (fun s a => ?_) _ _)
      · refine Only.then ?_ (only_updConv ..) (by simp)
        refine Only.then ?_ (only_cancel ..) (by simp)
        refine Only.then ?_ (only_reach ..) (by simp)
        exact Only.refl _ _
      · refine Only.then ?_ (only_updRail ..) (by simp)
        exact Only.refl _ _
theorem only_execEngineLossTimeout (s : State) : Ends [.now, .hw, .sys] s (execEngineLossTimeout s) := by
  unfold execEngineLossTimeout
  split
  · refine Ends.done ?_
    refine Only.then ?_ (only_orderlyStop ..) (by simp)
    refine Only.then ?_ (only_reach ..) (by simp)
    exact Only.refl _ _
  · refine Ends.done ?_
    exact Only.refl _ _
theorem only_execConverterComparatorFire (vin : Nat) (v : Nat) (ramp : Nat) (imon : List Int) (s : State) : Ends [.conv] s (execConverterComparatorFire vin v ramp imon s) := by
  unfold execConverterComparatorFire
  dsimp only
  refine Ends.ite _ (fun _ => ?_) (fun _ => ?_)
  · refine Ends.done ?_
    refine Only.then ?_ (only_noteRail ..) (by simp)
    refine Only.then ?_ (only_noteVin ..) (by simp)
    exact Only.refl _ _
  · split
    · refine Ends.done ?_
      refine Only.trans ?_ (Only.foldl _ (fun s a => ?_) _ _)
      · refine Only.then ?_ (only_noteRail ..) (by simp)
        refine Only.then ?_ (only_noteVin ..) (by simp)
        exact Only.refl _ _
      · refine Only.then ?_ (only_updPhase ..) (by simp)
        exact Only.refl _ _
    · refine Ends.done ?_
      refine Only.then ?_ (only_updConv ..) (by simp)
      refine Only.then ?_ (only_updPhase ..) (by simp)
      refine Only.trans ?_ (Only.foldl _ (fun s a => ?_) _ _)
      · refine Only.then ?_ (only_noteRail ..) (by simp)
        refine Only.then ?_ (only_noteVin ..) (by simp)
        exact Only.refl _ _
      · refine Only.then ?_ (only_updPhase ..) (by simp)
        exact Only.refl _ _
theorem only_execConverterFreqLock (s : State) : Ends [.free, .conv] s (execConverterFreqLock s) := by
  unfold execConverterFreqLock
  refine Ends.ite _ (fun _ => ?_) (fun _ => ?_)
  · refine Ends.done ?_
    exact Only.refl _ _
  · dsimp only
    refine Ends.done ?_
    refine Only.then ?_ (only_updConv ..) (by simp)
    refine Only.then ?_ (only_updRail ..) (by simp)
    refine Only.then ?_ (only_draw ..) (by simp)
    exact Only.refl _ _
theorem only_execPhasePeakLimit (n : Nat) (cur : Nat) (s : State) : Ends [.conv] s (execPhasePeakLimit n cur s) := by
  unfold execPhasePeakLimit
  dsimp only
  refine Ends.ite _ (fun _ => ?_) (fun _ => ?_)
  · refine Ends.done ?_
    refine Only.then ?_ (only_updPhase ..) (by simp)
    exact Only.refl _ _
  · refine Ends.done ?_
    exact Only.refl _ _
theorem only_execPhaseOverload (n : Nat) (s : State) : Ends [.conv] s (execPhaseOverload n s) := by
  unfold execPhaseOverload
  refine Ends.ite _ (fun _ => ?_) (fun _ => ?_)
  · refine Ends.done ?_
    refine Only.then ?_ (only_cancel ..) (by simp)
    refine Only.then ?_ (only_updPhase ..) (by simp)
    exact Only.refl _ _
  · refine Ends.done ?_
    exact Only.refl _ _
theorem only_execPhaseOverloadClear (n : Nat) (s : State) : Ends [.now, .conv] s (execPhaseOverloadClear n s) := by
  unfold execPhaseOverloadClear
  refine Ends.ite _ (fun _ => ?_) (fun _ => ?_)
  · refine Ends.done ?_
    refine Only.then ?_ (only_updPhase ..) (by simp)
    refine Only.then ?_ (only_reach ..) (by simp)
    exact Only.refl _ _
  · refine Ends.done ?_
    exact Only.refl _ _
theorem only_execTrimLimit (n : Nat) (s : State) : Ends [.conv] s (execTrimLimit n s) := by
  unfold execTrimLimit
  refine Ends.ite _ (fun _ => ?_) (fun _ => ?_)
  · refine Ends.done ?_
    refine Only.then ?_ (only_updPhase ..) (by simp)
    exact Only.refl _ _
  · refine Ends.done ?_
    exact Only.refl _ _
theorem only_execShedBegin (total : Nat) (s : State) : Ends [.conv] s (execShedBegin total s) := by
  unfold execShedBegin
  dsimp only
  refine Ends.ite _ (fun _ => ?_) (fun _ => ?_)
  · split
    · refine Ends.done ?_
      refine Only.then ?_ (only_updConv ..) (by simp)
      refine Only.then ?_ (only_updPhase ..) (by simp)
      exact Only.refl _ _
    · refine Ends.done ?_
      exact Only.refl _ _
  · refine Ends.done ?_
    exact Only.refl _ _
theorem only_execProvisionalExpiry (n : Nat) (s : State) : Ends [.now, .conv] s (execProvisionalExpiry n s) := by
  unfold execProvisionalExpiry
  refine Ends.ite _ (fun _ => ?_) (fun _ => ?_)
  · dsimp only
    refine Ends.done ?_
    refine Only.then ?_ (only_updPhase ..) (by simp)
    refine Only.then ?_ (only_reach ..) (by simp)
    exact Only.refl _ _
  · refine Ends.done ?_
    exact Only.refl _ _
theorem only_execVibDroopCrossing (v : Nat) (s : State) : Ends [.conv] s (execVibDroopCrossing v s) := by
  unfold execVibDroopCrossing
  dsimp only
  refine Ends.ite _ (fun _ => ?_) (fun _ => ?_)
  · refine Ends.done ?_
    refine Only.then ?_ (only_cancel ..) (by simp)
    refine Only.then ?_ (only_noteRail ..) (by simp)
    exact Only.refl _ _
  · refine Ends.done ?_
    refine Only.then ?_ (only_noteRail ..) (by simp)
    exact Only.refl _ _
theorem only_execCurrentStepDetected (rise : Nat) (s : State) : Ends [.conv] s (execCurrentStepDetected rise s) := by
  unfold execCurrentStepDetected
  refine Ends.ite _ (fun _ => ?_) (fun _ => ?_)
  · refine Ends.done ?_
    refine Only.then ?_ (only_cancel ..) (by simp)
    exact Only.refl _ _
  · refine Ends.done ?_
    exact Only.refl _ _
theorem only_execShedHoldoffExpiry (s : State) : Ends [.now, .conv] s (execShedHoldoffExpiry s) := by
  unfold execShedHoldoffExpiry
  split
  · refine Ends.done ?_
    refine Only.then ?_ (only_updConv ..) (by simp)
    refine Only.then ?_ (only_reach ..) (by simp)
    exact Only.refl _ _
  · refine Ends.done ?_
    exact Only.refl _ _
theorem only_execWakeElapsed (n : Nat) (s : State) : Ends [.now, .conv] s (execWakeElapsed n s) := by
  unfold execWakeElapsed
  refine Ends.ite _ (fun _ => ?_) (fun _ => ?_)
  · refine Ends.done ?_
    exact Only.refl _ _
  · dsimp only
    split
    · refine Ends.done ?_
      refine Only.then ?_ (only_updPhase ..) (by simp)
      refine Only.then ?_ (only_reach ..) (by simp)
      exact Only.refl _ _
    · refine Ends.ite _ (fun _ => ?_) (fun _ => ?_)
      · refine Ends.done ?_
        refine Only.then ?_ (only_updPhase ..) (by simp)
        refine Only.then ?_ (only_reach ..) (by simp)
        exact Only.refl _ _
      · refine Ends.done ?_
        exact Only.refl _ _
    · refine Ends.done ?_
      exact Only.refl _ _
theorem only_execAdmitRampStep (n : Nat) (s : State) : Ends [.now, .conv] s (execAdmitRampStep n s) := by
  unfold execAdmitRampStep
  dsimp only
  refine Ends.ite _ (fun _ => ?_) (fun _ => ?_)
  · refine Ends.done ?_
    refine Only.then ?_ (only_updPhase ..) (by simp)
    refine Only.then ?_ (only_reach ..) (by simp)
    exact Only.refl _ _
  · refine Ends.done ?_
    exact Only.refl _ _
theorem only_execPhaseFault (n : Nat) (low : Bool) (s : State) : Ends [.conv, .flt] s (execPhaseFault n low s) := by
  unfold execPhaseFault
  refine Ends.ite _ (fun _ => ?_) (fun _ => ?_)
  · refine Ends.done ?_
    exact Only.refl _ _
  · refine Ends.ite _ (fun _ => ?_) (fun _ => ?_)
    · refine Ends.done ?_
      refine Only.then ?_ (only_phaseFaulted ..) (by simp)
      refine Only.then ?_ (only_updPhase ..) (by simp)
      exact Only.refl _ _
    · refine Ends.done ?_
      refine Only.then ?_ (only_updPhase ..) (by simp)
      exact Only.refl _ _
theorem only_execPhaseSpareResponse (n : Nat) (s : State) : Ends [.now, .conv, .stg, .flt, .ports] s (execPhaseSpareResponse n s) := by
  unfold execPhaseSpareResponse
  dsimp only
  refine Ends.ite _ (fun _ => ?_) (fun _ => ?_)
  · refine Ends.done ?_
    exact Only.refl _ _
  · split
    · refine Ends.done ?_
      refine Only.then ?_ (only_tally ..) (by simp)
      refine Only.then ?_ (only_tally ..) (by simp)
      refine Only.then ?_ (only_stageSet ..) (by simp)
      refine Only.then ?_ (only_updPhase ..) (by simp)
      exact Only.refl _ _
    · refine Ends.ite _ (fun _ => ?_) (fun _ => ?_)
      · refine Ends.done ?_
        refine Only.then ?_ (only_tally ..) (by simp)
        refine Only.then ?_ (only_stageFw ..) (by simp)
        refine Only.then ?_ (only_updPhase ..) (by simp)
        exact Only.refl _ _
      · refine Ends.ite _ (fun _ => ?_) (fun _ => ?_)
        · refine Ends.done ?_
          exact Only.refl _ _
        · refine Ends.done ?_
          refine Only.then ?_ (only_tally ..) (by simp)
          refine Only.then ?_ (only_tally ..) (by simp)
          refine Only.then ?_ (only_stageFw ..) (by simp)
          refine Only.then ?_ (only_updPhase ..) (by simp)
          refine Only.then ?_ (only_reach ..) (by simp)
          exact Only.refl _ _
theorem only_execConverterDeEntry (mean : Int) (s : State) : Ends [.conv] s (execConverterDeEntry mean s) := by
  unfold execConverterDeEntry
  refine Ends.ite _ (fun _ => ?_) (fun _ => ?_)
  · refine Ends.done ?_
    refine Only.then ?_ (only_updRail ..) (by simp)
    exact Only.refl _ _
  · refine Ends.done ?_
    exact Only.refl _ _
theorem only_execConverterDeExit (mean : Int) (s : State) : Ends [.conv] s (execConverterDeExit mean s) := by
  unfold execConverterDeExit
  refine Ends.ite _ (fun _ => ?_) (fun _ => ?_)
  · refine Ends.done ?_
    refine Only.then ?_ (only_updRail ..) (by simp)
    exact Only.refl _ _
  · refine Ends.done ?_
    exact Only.refl _ _
theorem only_execQuietRailPeriod (x : Rail) (vin : Nat) (imon : List Int) (s : State) : Ends [.now, .free, .conv] s (execQuietRailPeriod x vin imon s) := by
  unfold execQuietRailPeriod
  dsimp only
  refine Ends.ite _ (fun _ => ?_) (fun _ => ?_)
  · refine Ends.done ?_
    refine Only.then ?_ (only_noteVin ..) (by simp)
    exact Only.refl _ _
  · refine Ends.done ?_
    refine Only.trans ?_ (Only.foldl _ (fun s a => ?_) _ _)
    · refine Only.then ?_ (only_draw ..) (by simp)
      refine Only.then ?_ (only_updRail ..) (by simp)
      refine Only.then ?_ (only_reach ..) (by simp)
      refine Only.then ?_ (only_noteVin ..) (by simp)
      exact Only.refl _ _
    · refine Only.then ?_ (only_updPhase ..) (by simp)
      exact Only.refl _ _
theorem only_execRailStartCommand (x : Rail) (s : State) : Ends [.conv] s (execRailStartCommand x s) := by
  unfold execRailStartCommand
  refine Ends.done ?_
  refine Only.then ?_ (only_railStart ..) (by simp)
  exact Only.refl _ _
theorem only_execRailDelayElapsed (x : Rail) (v : Nat) (s : State) : Ends [.now, .conv, .flt] s (execRailDelayElapsed x v s) := by
  unfold execRailDelayElapsed
  refine Ends.ite _ (fun _ => ?_) (fun _ => ?_)
  · dsimp only
    refine Ends.done ?_
    refine Only.trans ?_ (Only.foldl _ (fun s a => ?_) _ _)
    · refine Only.trans ?_ (Only.foldl _ (fun s a => ?_) _ _)
      · refine Only.then ?_ (only_updRail ..) (by simp)
        refine Only.then ?_ (only_reach ..) (by simp)
        exact Only.refl _ _
      · refine Only.then ?_ (only_updPhase ..) (by simp)
        exact Only.refl _ _
    · refine Only.then ?_ (only_phaseFaulted ..) (by simp)
      exact Only.refl _ _
  · refine Ends.done ?_
    exact Only.refl _ _
theorem only_execRailRefReached (x : Rail) (s : State) : Ends [.now, .conv] s (execRailRefReached x s) := by
  unfold execRailRefReached
  dsimp only
  refine Ends.ite _ (fun _ => ?_) (fun _ => ?_)
  · refine Ends.done ?_
    refine Only.then ?_ (only_updRail ..) (by simp)
    refine Only.then ?_ (only_reach ..) (by simp)
    exact Only.refl _ _
  · refine Ends.done ?_
    exact Only.refl _ _
theorem only_execRailNotGoodTimeout (x : Rail) (v : Nat) (s : State) : Ends [.now, .regs, .conv, .flt, .hw, .sys] s (execRailNotGoodTimeout x v s) := by
  unfold execRailNotGoodTimeout
  dsimp only
  refine Ends.ite _ (fun _ => ?_) (fun _ => ?_)
  · refine Ends.ite _ (fun _ => ?_) (fun _ => ?_)
    · refine Ends.done ?_
      refine Only.then ?_ (only_railFault ..) (by simp)
      refine Only.then ?_ (only_updRail ..) (by simp)
      refine Only.then ?_ (only_updRail ..) (by simp)
      refine Only.then ?_ (only_reach ..) (by simp)
      exact Only.refl _ _
    · refine Ends.done ?_
      refine Only.then ?_ (only_updRail ..) (by simp)
      refine Only.then ?_ (only_reach ..) (by simp)
      exact Only.refl _ _
  · refine Ends.done ?_
    exact Only.refl _ _
theorem only_execRailStopCommand (x : Rail) (s : State) : Ends [.conv] s (execRailStopCommand x s) := by
  unfold execRailStopCommand
  refine Ends.ite _ (fun _ => ?_) (fun _ => ?_)
  · refine Ends.done ?_
    refine Only.then ?_ (only_updRail ..) (by simp)
    exact Only.refl _ _
  · refine Ends.done ?_
    exact Only.refl _ _
theorem only_execRailStopDelayElapsed (x : Rail) (s : State) : Ends [.now, .conv] s (execRailStopDelayElapsed x s) := by
  unfold execRailStopDelayElapsed
  refine Ends.ite _ (fun _ => ?_) (fun _ => ?_)
  · dsimp only
    refine Ends.done ?_
    refine Only.then ?_ (only_updRail ..) (by simp)
    refine Only.then ?_ (only_cancel ..) (by simp)
    refine Only.then ?_ (only_reach ..) (by simp)
    exact Only.refl _ _
  · refine Ends.done ?_
    exact Only.refl _ _
theorem only_execRailDown (x : Rail) (v : Nat) (s : State) : Ends [.conv] s (execRailDown x v s) := by
  unfold execRailDown
  dsimp only
  refine Ends.ite _ (fun _ => ?_) (fun _ => ?_)
  · refine Ends.done ?_
    refine Only.then ?_ (only_updRail ..) (by simp)
    refine Only.then ?_ (only_railPhasesOff ..) (by simp)
    refine Only.then ?_ (only_noteRail ..) (by simp)
    exact Only.refl _ _
  · refine Ends.done ?_
    refine Only.then ?_ (only_noteRail ..) (by simp)
    exact Only.refl _ _
theorem only_execInputStop (vin : Nat) (s : State) : Ends [.now, .regs, .conv, .flt, .hw, .sys] s (execInputStop vin s) := by
  unfold execInputStop
  dsimp only
  refine Ends.ite _ (fun _ => ?_) (fun _ => ?_)
  · refine Ends.ite _ (fun _ => ?_) (fun _ => ?_)
    · refine Ends.done ?_
      refine Only.then ?_ (only_tally ..) (by simp)
      refine Only.then ?_ (only_updConv ..) (by simp)
      refine Only.then ?_ (only_darkAll ..) (by simp)
      refine Only.then ?_ (only_converterCut ..) (by simp)
      refine Only.then ?_ (only_reach ..) (by simp)
      refine Only.then ?_ (only_noteVin ..) (by simp)
      exact Only.refl _ _
    · refine Ends.done ?_
      refine Only.then ?_ (only_setB ..) (by simp)
      refine Only.ite _ (fun _ => ?_) (fun _ => ?_)
      · refine Only.then ?_ (only_harvestTake ..) (by simp)
        refine Only.then ?_ (only_updSys ..) (by simp)
        refine Only.then ?_ (only_tally ..) (by simp)
        refine Only.then ?_ (only_updConv ..) (by simp)
        refine Only.then ?_ (only_darkAll ..) (by simp)
        refine Only.then ?_ (only_converterCut ..) (by simp)
        refine Only.then ?_ (only_reach ..) (by simp)
        refine Only.then ?_ (only_noteVin ..) (by simp)
        exact Only.refl _ _
      · refine Only.then ?_ (only_updSys ..) (by simp)
        refine Only.then ?_ (only_tally ..) (by simp)
        refine Only.then ?_ (only_updConv ..) (by simp)
        refine Only.then ?_ (only_darkAll ..) (by simp)
        refine Only.then ?_ (only_converterCut ..) (by simp)
        refine Only.then ?_ (only_reach ..) (by simp)
        refine Only.then ?_ (only_noteVin ..) (by simp)
        exact Only.refl _ _
  · refine Ends.done ?_
    refine Only.then ?_ (only_noteVin ..) (by simp)
    exact Only.refl _ _
theorem only_execVinLow (vin : Nat) (s : State) : Ends [.conv, .ports] s (execVinLow vin s) := by
  unfold execVinLow
  dsimp only
  refine Ends.ite _ (fun _ => ?_) (fun _ => ?_)
  · refine Ends.ite _ (fun _ => ?_) (fun _ => ?_)
    · refine Ends.done ?_
      refine Only.then ?_ (only_noteVin ..) (by simp)
      exact Only.refl _ _
    · refine Ends.done ?_
      refine Only.then ?_ (only_alertOut ..) (by simp)
      refine Only.then ?_ (only_updConv ..) (by simp)
      refine Only.then ?_ (only_noteVin ..) (by simp)
      exact Only.refl _ _
  · refine Ends.ite _ (fun _ => ?_) (fun _ => ?_)
    · refine Ends.done ?_
      refine Only.then ?_ (only_updConv ..) (by simp)
      refine Only.then ?_ (only_noteVin ..) (by simp)
      exact Only.refl _ _
    · refine Ends.done ?_
      refine Only.then ?_ (only_noteVin ..) (by simp)
      exact Only.refl _ _
theorem only_execOvervoltage (x : Rail) (v : Nat) (s : State) : Ends [.now, .conv] s (execOvervoltage x v s) := by
  unfold execOvervoltage
  dsimp only
  split
  · refine Ends.ite _ (fun _ => ?_) (fun _ => ?_)
    · refine Ends.done ?_
      refine Only.then ?_ (only_noteRail ..) (by simp)
      exact Only.refl _ _
    · refine Ends.done ?_
      refine Only.trans ?_ (Only.foldl _ (fun s a => ?_) _ _)
      · refine Only.then ?_ (only_updRail ..) (by simp)
        refine Only.then ?_ (only_reach ..) (by simp)
        refine Only.then ?_ (only_noteRail ..) (by simp)
        exact Only.refl _ _
      · refine Only.then ?_ (only_updPhase ..) (by simp)
        exact Only.refl _ _
  · refine Ends.done ?_
    refine Only.then ?_ (only_noteRail ..) (by simp)
    exact Only.refl _ _
theorem only_execOvervoltagePersists (x : Rail) (s : State) : Ends [.now, .regs, .conv, .flt, .hw, .sys] s (execOvervoltagePersists x s) := by
  unfold execOvervoltagePersists
  dsimp only
  refine Ends.ite _ (fun _ => ?_) (fun _ => ?_)
  · refine Ends.done ?_
    refine Only.then ?_ (only_railFault ..) (by simp)
    refine Only.then ?_ (only_reach ..) (by simp)
    exact Only.refl _ _
  · refine Ends.done ?_
    exact Only.refl _ _
theorem only_execOvervoltageClear (x : Rail) (v : Nat) (s : State) : Ends [.conv] s (execOvervoltageClear x v s) := by
  unfold execOvervoltageClear
  dsimp only
  refine Ends.ite _ (fun _ => ?_) (fun _ => ?_)
  · refine Ends.done ?_
    refine Only.then ?_ (only_updRail ..) (by simp)
    refine Only.then ?_ (only_noteRail ..) (by simp)
    exact Only.refl _ _
  · refine Ends.done ?_
    refine Only.then ?_ (only_noteRail ..) (by simp)
    exact Only.refl _ _
theorem only_execSetPointModelStep (k : ModelRef) (s : State) : Ends [.now, .regs, .conv, .stg] s (execSetPointModelStep k s) := by
  unfold execSetPointModelStep
  split
  · dsimp only
    refine Ends.ite _ (fun _ => ?_) (fun _ => ?_)
    · refine Ends.done ?_
      exact Only.refl _ _
    · refine Ends.ite _ (fun _ => ?_) (fun _ => ?_)
      · refine Ends.done ?_
        refine Only.then ?_ (only_modelReached ..) (by simp)
        refine Only.then ?_ (only_updReg ..) (by simp)
        refine Only.then ?_ (only_updReg ..) (by simp)
        refine Only.then ?_ (only_reach ..) (by simp)
        exact Only.refl _ _
      · refine Ends.done ?_
        refine Only.then ?_ (only_updReg ..) (by simp)
        refine Only.then ?_ (only_reach ..) (by simp)
        exact Only.refl _ _
  · dsimp only
    refine Ends.ite _ (fun _ => ?_) (fun _ => ?_)
    · refine Ends.done ?_
      exact Only.refl _ _
    · refine Ends.ite _ (fun _ => ?_) (fun _ => ?_)
      · refine Ends.done ?_
        refine Only.then ?_ (only_modelReached ..) (by simp)
        refine Only.then ?_ (only_updRail ..) (by simp)
        refine Only.then ?_ (only_reach ..) (by simp)
        exact Only.refl _ _
      · refine Ends.done ?_
        refine Only.then ?_ (only_updRail ..) (by simp)
        refine Only.then ?_ (only_reach ..) (by simp)
        exact Only.refl _ _
theorem only_execLowWordRead (off : Nat) (s : State) : Ends [.hw] s (execLowWordRead off s) := by
  unfold execLowWordRead
  refine Ends.done ?_
  refine Only.then ?_ (only_doRead ..) (by simp)
  exact Only.refl _ _
theorem only_execSnpdatAutoRead (s : State) : Ends [.hw] s (execSnpdatAutoRead s) := by
  unfold execSnpdatAutoRead
  dsimp only
  refine Ends.ite _ (fun _ => ?_) (fun _ => ?_)
  · refine Ends.done ?_
    refine Only.then ?_ (only_updHw ..) (by simp)
    refine Only.then ?_ (only_doRead ..) (by simp)
    exact Only.refl _ _
  · refine Ends.done ?_
    refine Only.then ?_ (only_doRead ..) (by simp)
    exact Only.refl _ _
theorem only_execPorstNAssert (s : State) : Ends [.epoch, .nodes, .links, .pans, .eng, .com, .safe, .views, .regs, .conv, .stg, .tel, .bud, .shim, .led, .tide, .flt, .hw, .log, .sys, .ports] s (execPorstNAssert s) := by
  unfold execPorstNAssert
  refine Ends.done ?_
  refine Only.then ?_ (only_updSys ..) (by simp)
  refine Only.then ?_ (only_coldOff ..) (by simp)
  exact Only.refl _ _
theorem only_execPorstNRelease (s : State) : Ends [.epoch, .links, .flt, .hw, .sys] s (execPorstNRelease s) := by
  unfold execPorstNRelease
  refine Ends.ite _ (fun _ => ?_) (fun _ => ?_)
  · dsimp only
    refine Ends.done ?_
    refine Only.then ?_ (only_enterGuard ..) (by simp)
    refine Only.ite _ (fun _ => ?_) (fun _ => ?_)
    · refine Only.then ?_ (only_tally ..) (by simp)
      refine Only.then ?_ (only_tally ..) (by simp)
      refine Only.then ?_ (only_updSys ..) (by simp)
      refine Only.then ?_ (only_with_epochAt ..) (by simp)
      exact Only.refl _ _
    · refine Only.then ?_ (only_tally ..) (by simp)
      refine Only.then ?_ (only_updSys ..) (by simp)
      refine Only.then ?_ (only_with_epochAt ..) (by simp)
      exact Only.refl _ _
  · refine Ends.done ?_
    exact Only.refl _ _
theorem only_execVaonRemoved (s : State) : Ends [.epoch, .nodes, .links, .pans, .eng, .com, .safe, .views, .regs, .conv, .stg, .tel, .bud, .shim, .led, .tide, .flt, .hw, .log, .sys, .ports] s (execVaonRemoved s) := by
  unfold execVaonRemoved
  refine Ends.done ?_
  refine Only.then ?_ (only_updSys ..) (by simp)
  refine Only.then ?_ (only_coldOff ..) (by simp)
  exact Only.refl _ _
theorem only_execCkeAbsent (s : State) : Ends [.now, .epoch, .nodes, .links, .pans, .eng, .com, .safe, .views, .regs, .conv, .stg, .tel, .bud, .shim, .led, .tide, .flt, .hw, .log, .sys, .ports] s (execCkeAbsent s) := by
  unfold execCkeAbsent
  refine Ends.ite _ (fun _ => ?_) (fun _ => ?_)
  · refine Ends.done ?_
    exact Only.refl _ _
  · refine Ends.done ?_
    refine Only.then ?_ (only_updSys ..) (by simp)
    refine Only.then ?_ (only_coldOff ..) (by simp)
    refine Only.then ?_ (only_reach ..) (by simp)
    exact Only.refl _ _
theorem only_execCkrPresent (s : State) : Ends [.now, .epoch, .links, .flt, .hw, .sys] s (execCkrPresent s) := by
  unfold execCkrPresent
  refine Ends.ite _ (fun _ => ?_) (fun _ => ?_)
  · dsimp only
    refine Ends.done ?_
    refine Only.then ?_ (only_enterGuard ..) (by simp)
    refine Only.then ?_ (only_tally ..) (by simp)
    refine Only.then ?_ (only_updSys ..) (by simp)
    refine Only.then ?_ (only_with_epochAt ..) (by simp)
    refine Only.then ?_ (only_reach ..) (by simp)
    exact Only.refl _ _
  · refine Ends.done ?_
    exact Only.refl _ _
theorem only_execFirmwareStart (s : State) : Ends [.nodes, .links, .eng, .com, .safe, .regs, .conv, .stg, .flt, .hw, .store, .sys, .ports] s (execFirmwareStart s) := by
  unfold execFirmwareStart
  refine Ends.ite _ (fun _ => ?_) (fun _ => ?_)
  · split
    · refine Ends.done ?_
      refine Only.then ?_ (only_refuseBoot ..) (by simp)
      exact Only.refl _ _
    · dsimp only
      refine Ends.done ?_
      refine Only.then ?_ (only_bootBegin ..) (by simp)
      refine Only.then ?_ (only_bootImage ..) (by simp)
      refine Only.then ?_ (only_bootRecords ..) (by simp)
      refine Only.then ?_ (only_setB ..) (by simp)
      refine Only.then ?_ (only_updSys ..) (by simp)
      exact Only.refl _ _
  · refine Ends.done ?_
    exact Only.refl _ _
theorem only_execFirmwareReadyTimeout (s : State) : Ends [.now, .hw, .store, .sys] s (execFirmwareReadyTimeout s) := by
  unfold execFirmwareReadyTimeout
  refine Ends.ite _ (fun _ => ?_) (fun _ => ?_)
  · dsimp only
    refine Ends.ite _ (fun _ => ?_) (fun _ => ?_)
    · refine Ends.done ?_
      refine Only.then ?_ (only_updSys ..) (by simp)
      refine Only.then ?_ (only_with_store ..) (by simp)
      refine Only.then ?_ (only_reach ..) (by simp)
      exact Only.refl _ _
    · refine Ends.done ?_
      refine Only.then ?_ (only_refuseBoot ..) (by simp)
      refine Only.then ?_ (only_updSys ..) (by simp)
      refine Only.then ?_ (only_with_store ..) (by simp)
      refine Only.then ?_ (only_reach ..) (by simp)
      exact Only.refl _ _
  · refine Ends.done ?_
    exact Only.refl _ _
theorem only_execBootVinGood (s : State) : Ends [.now, .conv, .sys] s (execBootVinGood s) := by
  unfold execBootVinGood
  split
  · refine Ends.done ?_
    exact Only.refl _ _
  · refine Ends.ite _ (fun _ => ?_) (fun _ => ?_)
    · dsimp only
      refine Ends.done ?_
      refine Only.then ?_ (only_railStart ..) (by simp)
      refine Only.then ?_ (only_railStart ..) (by simp)
      refine Only.then ?_ (only_railStart ..) (by simp)
      refine Only.then ?_ (only_updSys ..) (by simp)
      refine Only.then ?_ (only_reach ..) (by simp)
      exact Only.refl _ _
    · refine Ends.done ?_
      exact Only.refl _ _
theorem only_execBootRailsInReg (s : State) : Ends [.stg, .sys, .ports] s (execBootRailsInReg s) := by
  unfold execBootRailsInReg
  refine Ends.ite _ (fun _ => ?_) (fun _ => ?_)
  · dsimp only
    refine Ends.done ?_
    refine Only.then ?_ (only_stageSet ..) (by simp)
    refine Only.then ?_ (only_updSys ..) (by simp)
    exact Only.refl _ _
  · refine Ends.done ?_
    exact Only.refl _ _
theorem only_execBootRegionsLive (s : State) : Ends [.flt, .hw, .sys] s (execBootRegionsLive s) := by
  unfold execBootRegionsLive
  refine Ends.ite _ (fun _ => ?_) (fun _ => ?_)
  · dsimp only
    refine Ends.ite _ (fun _ => ?_) (fun _ => ?_)
    · refine Ends.done ?_
      refine Only.then ?_ (only_updSys ..) (by simp)
      exact Only.refl _ _
    · refine Ends.done ?_
      refine Only.then ?_ (only_setB ..) (by simp)
      refine Only.then ?_ (only_tally ..) (by simp)
      refine Only.then ?_ (only_updSys ..) (by simp)
      exact Only.refl _ _
  · refine Ends.done ?_
    exact Only.refl _ _
theorem only_execRailFaultRetry (x : Rail) (s : State) : Ends [.now, .conv, .sys] s (execRailFaultRetry x s) := by
  unfold execRailFaultRetry
  refine Ends.ite _ (fun _ => ?_) (fun _ => ?_)
  · refine Ends.ite _ (fun _ => ?_) (fun _ => ?_)
    · dsimp only
      refine Ends.done ?_
      refine Only.then ?_ (only_updSys ..) (by simp)
      refine Only.trans ?_ (Only.foldl _ (fun s a => ?_) _ _)
      · exact Only.refl _ _
      · refine Only.then ?_ (only_updRail ..) (by simp)
        exact Only.refl _ _
    · dsimp only
      refine Ends.done ?_
      refine Only.then ?_ (only_railStart ..) (by simp)
      refine Only.then ?_ (only_updRail ..) (by simp)
      refine Only.then ?_ (only_reach ..) (by simp)
      exact Only.refl _ _
  · refine Ends.done ?_
    exact Only.refl _ _
theorem only_execInputStopRecovery (s : State) : Ends [.now, .epoch, .nodes, .links, .pans, .eng, .com, .safe, .views, .regs, .conv, .stg, .tel, .bud, .shim, .led, .tide, .flt, .hw, .log, .sys, .ports] s (execInputStopRecovery s) := by
  unfold execInputStopRecovery
  split
  · refine Ends.done ?_
    exact Only.refl _ _
  · refine Ends.ite _ (fun _ => ?_) (fun _ => ?_)
    · refine Ends.done ?_
      refine Only.then ?_ (only_warmReset ..) (by simp)
      refine Only.then ?_ (only_updSys ..) (by simp)
      refine Only.then ?_ (only_reach ..) (by simp)
      exact Only.refl _ _
    · refine Ends.done ?_
      exact Only.refl _ _
theorem only_execStopRailsDown (s : State) : Ends [.epoch, .nodes, .links, .pans, .eng, .com, .safe, .views, .regs, .conv, .stg, .tel, .bud, .shim, .led, .tide, .flt, .hw, .log, .store, .sys, .ports] s (execStopRailsDown s) := by
  unfold execStopRailsDown
  dsimp only
  refine Ends.ite _ (fun _ => ?_) (fun _ => ?_)
  · split
    · refine Ends.done ?_
      refine Only.then ?_ (only_warmReset ..) (by simp)
      refine Only.ite _ (fun _ => ?_) (fun _ => ?_)
      · refine Only.then ?_ (only_harvestDone ..) (by simp)
        refine Only.then ?_ (only_harvestTake ..) (by simp)
        exact Only.refl _ _
      · exact Only.refl _ _
    · refine Ends.done ?_
      refine Only.then ?_ (only_setB ..) (by simp)
      refine Only.then ?_ (only_updSys ..) (by simp)
      exact Only.refl _ _
    · refine Ends.done ?_
      refine Only.then ?_ (only_setB ..) (by simp)
      refine Only.then ?_ (only_updSys ..) (by simp)
      exact Only.refl _ _
  · refine Ends.done ?_
    exact Only.refl _ _
theorem only_execCoolantRailStop (s : State) : Ends [.now, .conv, .led, .flt, .sys] s (execCoolantRailStop s) := by
  unfold execCoolantRailStop
  refine Ends.ite _ (fun _ => ?_) (fun _ => ?_)
  · dsimp only
    refine Ends.done ?_
    refine Only.ite _ (fun _ => ?_) (fun _ => ?_)
    · refine Only.then ?_ (only_harvestTake ..) (by simp)
      refine Only.then ?_ (only_ledFlush ..) (by simp)
      refine Only.then ?_ (only_updSys ..) (by simp)
      refine Only.then ?_ (only_railCoolant ..) (by simp)
      refine Only.then ?_ (only_railCoolant ..) (by simp)
      refine Only.then ?_ (only_railCoolant ..) (by simp)
      refine Only.ite _ (fun _ => ?_) (fun _ => ?_)
      · exact Only.refl _ _
      · refine Only.then ?_ (only_reach ..) (by simp)
        exact Only.refl _ _
    · refine Only.then ?_ (only_updSys ..) (by simp)
      refine Only.then ?_ (only_railCoolant ..) (by simp)
      refine Only.then ?_ (only_railCoolant ..) (by simp)
      refine Only.then ?_ (only_railCoolant ..) (by simp)
      refine Only.ite _ (fun _ => ?_) (fun _ => ?_)
      · exact Only.refl _ _
      · refine Only.then ?_ (only_reach ..) (by simp)
        exact Only.refl _ _
  · refine Ends.done ?_
    exact Only.refl _ _
theorem only_execHarvest (stored : Bool) (cleared : List Nat) (s : State) : Ends [.eng, .flt, .store] s (execHarvest stored cleared s) := by
  unfold execHarvest
  refine Ends.ite _ (fun _ => ?_) (fun _ => ?_)
  · refine Ends.done ?_
    exact Only.refl _ _
  · refine Ends.ite _ (fun _ => ?_) (fun _ => ?_)
    · refine Ends.done ?_
      refine Only.then ?_ (only_clearFlags ..) (by simp)
      refine Only.then ?_ (only_harvestDone ..) (by simp)
      refine Only.then ?_ (only_harvestTake ..) (by simp)
      exact Only.refl _ _
    · refine Ends.done ?_
      exact Only.refl _ _
theorem only_execHarvestRetry (stored : Bool) (s : State) : Ends [.flt, .store] s (execHarvestRetry stored s) := by
  unfold execHarvestRetry
  refine Ends.ite _ (fun _ => ?_) (fun _ => ?_)
  · refine Ends.done ?_
    refine Only.then ?_ (only_harvestDone ..) (by simp)
    refine Only.then ?_ (only_updFlt ..) (by simp)
    exact Only.refl _ _
  · refine Ends.done ?_
    exact Only.refl _ _
theorem only_execMAdd (lane : Nat) (rd : Fin 32) (ra : Fin 32) (rb : Fin 32) (s : State) : Ends [.now, .eng, .views] s (execMAdd lane rd ra rb s) := by
  unfold execMAdd
  unfold mDo
  refine Ends.done ?_
  refine Only.trans ?_ (only_mStep (by simp) _ _ _ _ _ (fun u => ?_))
  · exact Only.refl _ _
  · refine Only.then ?_ (only_setMreg ..) (by simp)
    exact Only.refl _ _
theorem only_execMSub (lane : Nat) (rd : Fin 32) (ra : Fin 32) (rb : Fin 32) (s : State) : Ends [.now, .eng, .views] s (execMSub lane rd ra rb s) := by
  unfold execMSub
  unfold mDo
  refine Ends.done ?_
  refine Only.trans ?_ (only_mStep (by simp) _ _ _ _ _ (fun u => ?_))
  · exact Only.refl _ _
  · refine Only.then ?_ (only_setMreg ..) (by simp)
    exact Only.refl _ _
theorem only_execMAdds (lane : Nat) (rd : Fin 32) (ra : Fin 32) (rb : Fin 32) (s : State) : Ends [.now, .eng, .views, .flt] s (execMAdds lane rd ra rb s) := by
  unfold execMAdds
  unfold mDo
  refine Ends.done ?_
  refine Only.trans ?_ (only_mStep (by simp) _ _ _ _ _ (fun u => ?_))
  · exact Only.refl _ _
  · refine Only.then ?_ (only_putSat ..) (by simp)
    exact Only.refl _ _
theorem only_execMSubs (lane : Nat) (rd : Fin 32) (ra : Fin 32) (rb : Fin 32) (s : State) : Ends [.now, .eng, .views, .flt] s (execMSubs lane rd ra rb s) := by
  unfold execMSubs
  unfold mDo
  refine Ends.done ?_
  refine Only.trans ?_ (only_mStep (by simp) _ _ _ _ _ (fun u => ?_))
  · exact Only.refl _ _
  · refine Only.then ?_ (only_putSat ..) (by simp)
    exact Only.refl _ _
theorem only_execMAnd (lane : Nat) (rd : Fin 32) (ra : Fin 32) (rb : Fin 32) (s : State) : Ends [.now, .eng, .views] s (execMAnd lane rd ra rb s) := by
  unfold execMAnd
  unfold mDo
  refine Ends.done ?_
  refine Only.trans ?_ (only_mStep (by simp) _ _ _ _ _ (fun u => ?_))
  · exact Only.refl _ _
  · refine Only.then ?_ (only_setMreg ..) (by simp)
    exact Only.refl _ _
theorem only_execMOr (lane : Nat) (rd : Fin 32) (ra : Fin 32) (rb : Fin 32) (s : State) : Ends [.now, .eng, .views] s (execMOr lane rd ra rb s) := by
  unfold execMOr
  unfold mDo
  refine Ends.done ?_
  refine Only.trans ?_ (only_mStep (by simp) _ _ _ _ _ (fun u => ?_))
  · exact Only.refl _ _
  · refine Only.then ?_ (only_setMreg ..) (by simp)
    exact Only.refl _ _
theorem only_execMXor (lane : Nat) (rd : Fin 32) (ra : Fin 32) (rb : Fin 32) (s : State) : Ends [.now, .eng, .views] s (execMXor lane rd ra rb s) := by
  unfold execMXor
  unfold mDo
  refine Ends.done ?_
  refine Only.trans ?_ (only_mStep (by simp) _ _ _ _ _ (fun u => ?_))
  · exact Only.refl _ _
  · refine Only.then ?_ (only_setMreg ..) (by simp)
    exact Only.refl _ _
theorem only_execMShl (lane : Nat) (rd : Fin 32) (ra : Fin 32) (rb : Fin 32) (s : State) : Ends [.now, .eng, .views] s (execMShl lane rd ra rb s) := by
  unfold execMShl
  unfold mDo
  refine Ends.done ?_
  refine Only.trans ?_ (only_mStep (by simp) _ _ _ _ _ (fun u => ?_))
  · exact Only.refl _ _
  · refine Only.then ?_ (only_setMreg ..) (by simp)
    exact Only.refl _ _
theorem only_execMShr (lane : Nat) (rd : Fin 32) (ra : Fin 32) (rb : Fin 32) (s : State) : Ends [.now, .eng, .views] s (execMShr lane rd ra rb s) := by
  unfold execMShr
  unfold mDo
  refine Ends.done ?_
  refine Only.trans ?_ (only_mStep (by simp) _ _ _ _ _ (fun u => ?_))
  · exact Only.refl _ _
  · refine Only.then ?_ (only_setMreg ..) (by simp)
    exact Only.refl _ _
theorem only_execMSra (lane : Nat) (rd : Fin 32) (ra : Fin 32) (rb : Fin 32) (s : State) : Ends [.now, .eng, .views] s (execMSra lane rd ra rb s) := by
  unfold execMSra
  unfold mDo
  refine Ends.done ?_
  refine Only.trans ?_ (only_mStep (by simp) _ _ _ _ _ (fun u => ?_))
  · exact Only.refl _ _
  · refine Only.then ?_ (only_setMreg ..) (by simp)
    exact Only.refl _ _
theorem only_execMMin (lane : Nat) (rd : Fin 32) (ra : Fin 32) (rb : Fin 32) (s : State) : Ends [.now, .eng, .views] s (execMMin lane rd ra rb s) := by
  unfold execMMin
  unfold mDo
  refine Ends.done ?_
  refine Only.trans ?_ (only_mStep (by simp) _ _ _ _ _ (fun u => ?_))
  · exact Only.refl _ _
  · refine Only.then ?_ (only_setMreg ..) (by simp)
    exact Only.refl _ _
theorem only_execMMax (lane : Nat) (rd : Fin 32) (ra : Fin 32) (rb : Fin 32) (s : State) : Ends [.now, .eng, .views] s (execMMax lane rd ra rb s) := by
  unfold execMMax
  unfold mDo
  refine Ends.done ?_
  refine Only.trans ?_ (only_mStep (by simp) _ _ _ _ _ (fun u => ?_))
  · exact Only.refl _ _
  · refine Only.then ?_ (only_setMreg ..) (by simp)
    exact Only.refl _ _
theorem only_execMSlt (lane : Nat) (rd : Fin 32) (ra : Fin 32) (rb : Fin 32) (s : State) : Ends [.now, .eng, .views] s (execMSlt lane rd ra rb s) := by
  unfold execMSlt
  unfold mDo
  refine Ends.done ?_
  refine Only.trans ?_ (only_mStep (by simp) _ _ _ _ _ (fun u => ?_))
  · exact Only.refl _ _
  · refine Only.then ?_ (only_setMreg ..) (by simp)
    exact Only.refl _ _
theorem only_execMSltu (lane : Nat) (rd : Fin 32) (ra : Fin 32) (rb : Fin 32) (s : State) : Ends [.now, .eng, .views] s (execMSltu lane rd ra rb s) := by
  unfold execMSltu
  unfold mDo
  refine Ends.done ?_
  refine Only.trans ?_ (only_mStep (by simp) _ _ _ _ _ (fun u => ?_))
  · exact Only.refl _ _
  · refine Only.then ?_ (only_setMreg ..) (by simp)
    exact Only.refl _ _
theorem only_execMClmp (lane : Nat) (rd : Fin 32) (ra : Fin 32) (rb : Fin 32) (rc : Fin 32) (s : State) : Ends [.now, .eng, .views] s (execMClmp lane rd ra rb rc s) := by
  unfold execMClmp
  unfold mDo
  refine Ends.done ?_
  refine Only.trans ?_ (only_mStep (by simp) _ _ _ _ _ (fun u => ?_))
  · exact Only.refl _ _
  · refine Only.then ?_ (only_setMreg ..) (by simp)
    exact Only.refl _ _
theorem only_execMMul (lane : Nat) (rd : Fin 32) (ra : Fin 32) (rb : Fin 32) (s : State) : Ends [.now, .eng, .views] s (execMMul lane rd ra rb s) := by
  unfold execMMul
  unfold mDo
  refine Ends.done ?_
  refine Only.trans ?_ (only_mStep (by simp) _ _ _ _ _ (fun u => ?_))
  · exact Only.refl _ _
  · refine Only.then ?_ (only_setMreg ..) (by simp)
    exact Only.refl _ _
theorem only_execMMulq (lane : Nat) (rd : Fin 32) (ra : Fin 32) (rb : Fin 32) (sh : Fin 32) (s : State) : Ends [.now, .eng, .views, .flt] s (execMMulq lane rd ra rb sh s) := by
  unfold execMMulq
  unfold mDo
  refine Ends.done ?_
  refine Only.trans ?_ (only_mStep (by simp) _ _ _ _ _ (fun u => ?_))
  · exact Only.refl _ _
  · refine Only.then ?_ (only_putSat ..) (by simp)
    exact Only.refl _ _
theorem only_execMDivq (lane : Nat) (rd : Fin 32) (ra : Fin 32) (rb : Fin 32) (sh : Fin 32) (s : State) : Ends [.now, .eng, .views, .flt] s (execMDivq lane rd ra rb sh s) := by
  unfold execMDivq
  unfold mDo
  refine Ends.done ?_
  refine Only.trans ?_ (only_mStep (by simp) _ _ _ _ _ (fun u => ?_))
  · exact Only.refl _ _
  · refine Only.then ?_ (only_putSat ..) (by simp)
    exact Only.refl _ _
theorem only_execMAbss (lane : Nat) (rd : Fin 32) (ra : Fin 32) (s : State) : Ends [.now, .eng, .views, .flt] s (execMAbss lane rd ra s) := by
  unfold execMAbss
  unfold mDo
  refine Ends.done ?_
  refine Only.trans ?_ (only_mStep (by simp) _ _ _ _ _ (fun u => ?_))
  · exact Only.refl _ _
  · refine Only.then ?_ (only_putSat ..) (by simp)
    exact Only.refl _ _
theorem only_execMNegs (lane : Nat) (rd : Fin 32) (ra : Fin 32) (s : State) : Ends [.now, .eng, .views, .flt] s (execMNegs lane rd ra s) := by
  unfold execMNegs
  unfold mDo
  refine Ends.done ?_
  refine Only.trans ?_ (only_mStep (by simp) _ _ _ _ _ (fun u => ?_))
  · exact Only.refl _ _
  · refine Only.then ?_ (only_putSat ..) (by simp)
    exact Only.refl _ _
theorem only_execMAddi (lane : Nat) (rd : Fin 32) (ra : Fin 32) (imm : BitVec 16) (s : State) : Ends [.now, .eng, .views] s (execMAddi lane rd ra imm s) := by
  unfold execMAddi
  unfold mDo
  refine Ends.done ?_
  refine Only.trans ?_ (only_mStep (by simp) _ _ _ _ _ (fun u => ?_))
  · exact Only.refl _ _
  · refine Only.then ?_ (only_setMreg ..) (by simp)
    exact Only.refl _ _
theorem only_execMAndi (lane : Nat) (rd : Fin 32) (ra : Fin 32) (imm : BitVec 16) (s : State) : Ends [.now, .eng, .views] s (execMAndi lane rd ra imm s) := by
  unfold execMAndi
  unfold mDo
  refine Ends.done ?_
  refine Only.trans ?_ (only_mStep (by simp) _ _ _ _ _ (fun u => ?_))
  · exact Only.refl _ _
  · refine Only.then ?_ (only_setMreg ..) (by simp)
    exact Only.refl _ _
theorem only_execMOri (lane : Nat) (rd : Fin 32) (ra : Fin 32) (imm : BitVec 16) (s : State) : Ends [.now, .eng, .views] s (execMOri lane rd ra imm s) := by
  unfold execMOri
  unfold mDo
  refine Ends.done ?_
  refine Only.trans ?_ (only_mStep (by simp) _ _ _ _ _ (fun u => ?_))
  · exact Only.refl _ _
  · refine Only.then ?_ (only_setMreg ..) (by simp)
    exact Only.refl _ _
theorem only_execMXori (lane : Nat) (rd : Fin 32) (ra : Fin 32) (imm : BitVec 16) (s : State) : Ends [.now, .eng, .views] s (execMXori lane rd ra imm s) := by
  unfold execMXori
  unfold mDo
  refine Ends.done ?_
  refine Only.trans ?_ (only_mStep (by simp) _ _ _ _ _ (fun u => ?_))
  · exact Only.refl _ _
  · refine Only.then ?_ (only_setMreg ..) (by simp)
    exact Only.refl _ _
theorem only_execMLui (lane : Nat) (rd : Fin 32) (imm : BitVec 16) (s : State) : Ends [.now, .eng, .views] s (execMLui lane rd imm s) := by
  unfold execMLui
  unfold mDo
  refine Ends.done ?_
  refine Only.trans ?_ (only_mStep (by simp) _ _ _ _ _ (fun u => ?_))
  · exact Only.refl _ _
  · refine Only.then ?_ (only_setMreg ..) (by simp)
    exact Only.refl _ _
theorem only_execMShli (lane : Nat) (rd : Fin 32) (ra : Fin 32) (n : Fin 32) (s : State) : Ends [.now, .eng, .views] s (execMShli lane rd ra n s) := by
  unfold execMShli
  unfold mDo
  refine Ends.done ?_
  refine Only.trans ?_ (only_mStep (by simp) _ _ _ _ _ (fun u => ?_))
  · exact Only.refl _ _
  · refine Only.then ?_ (only_setMreg ..) (by simp)
    exact Only.refl _ _
theorem only_execMShri (lane : Nat) (rd : Fin 32) (ra : Fin 32) (n : Fin 32) (s : State) : Ends [.now, .eng, .views] s (execMShri lane rd ra n s) := by
  unfold execMShri
  unfold mDo
  refine Ends.done ?_
  refine Only.trans ?_ (only_mStep (by simp) _ _ _ _ _ (fun u => ?_))
  · exact Only.refl _ _
  · refine Only.then ?_ (only_setMreg ..) (by simp)
    exact Only.refl _ _
theorem only_execMSrai (lane : Nat) (rd : Fin 32) (ra : Fin 32) (n : Fin 32) (s : State) : Ends [.now, .eng, .views] s (execMSrai lane rd ra n s) := by
  unfold execMSrai
  unfold mDo
  refine Ends.done ?_
  refine Only.trans ?_ (only_mStep (by simp) _ _ _ _ _ (fun u => ?_))
  · exact Only.refl _ _
  · refine Only.then ?_ (only_setMreg ..) (by simp)
    exact Only.refl _ _
theorem only_execMSlti (lane : Nat) (rd : Fin 32) (ra : Fin 32) (imm : BitVec 16) (s : State) : Ends [.now, .eng, .views] s (execMSlti lane rd ra imm s) := by
  unfold execMSlti
  unfold mDo
  refine Ends.done ?_
  refine Only.trans ?_ (only_mStep (by simp) _ _ _ _ _ (fun u => ?_))
  · exact Only.refl _ _
  · refine Only.then ?_ (only_setMreg ..) (by simp)
    exact Only.refl _ _
theorem only_execMExt (lane : Nat) (rd : Fin 32) (ra : Fin 32) (pos : Fin 32) (lenm1 : Fin 32) (signed : Bool) (s : State) : Ends [.now, .eng, .views] s (execMExt lane rd ra pos lenm1 signed s) := by
  unfold execMExt
  refine Ends.ite _ (fun _ => ?_) (fun _ => ?_)
  · refine Ends.done ?_
    exact Only.refl _ _
  · unfold mDo
    refine Ends.done ?_
    refine Only.trans ?_ (only_mStep (by simp) _ _ _ _ _ (fun u => ?_))
    · exact Only.refl _ _
    · refine Only.then ?_ (only_setMreg ..) (by simp)
      exact Only.refl _ _
theorem only_execMIns (lane : Nat) (rd : Fin 32) (ra : Fin 32) (pos : Fin 32) (lenm1 : Fin 32) (s : State) : Ends [.now, .eng, .views] s (execMIns lane rd ra pos lenm1 s) := by
  unfold execMIns
  refine Ends.ite _ (fun _ => ?_) (fun _ => ?_)
  · refine Ends.done ?_
    exact Only.refl _ _
  · unfold mDo
    refine Ends.done ?_
    refine Only.trans ?_ (only_mStep (by simp) _ _ _ _ _ (fun u => ?_))
    · exact Only.refl _ _
    · refine Only.then ?_ (only_setMreg ..) (by simp)
      exact Only.refl _ _
theorem only_execMSati (lane : Nat) (rd : Fin 32) (ra : Fin 32) (n : Fin 32) (s : State) : Ends [.now, .eng, .views, .flt] s (execMSati lane rd ra n s) := by
  unfold execMSati
  unfold mDo
  refine Ends.done ?_
  refine Only.trans ?_ (only_mStep (by simp) _ _ _ _ _ (fun u => ?_))
  · exact Only.refl _ _
  · refine Only.then ?_ (only_putSat ..) (by simp)
    exact Only.refl _ _
theorem only_execMMac (lane : Nat) (acc : Fin 4) (ra : Fin 32) (rb : Fin 32) (s : State) : Ends [.now, .eng, .views, .flt] s (execMMac lane acc ra rb s) := by
  unfold execMMac
  unfold mDo
  refine Ends.done ?_
  refine Only.trans ?_ (only_mStep (by simp) _ _ _ _ _ (fun u => ?_))
  · exact Only.refl _ _
  · refine Only.then ?_ (only_putOv ..) (by simp)
    exact Only.refl _ _
theorem only_execMMsu (lane : Nat) (acc : Fin 4) (ra : Fin 32) (rb : Fin 32) (s : State) : Ends [.now, .eng, .views, .flt] s (execMMsu lane acc ra rb s) := by
  unfold execMMsu
  unfold mDo
  refine Ends.done ?_
  refine Only.trans ?_ (only_mStep (by simp) _ _ _ _ _ (fun u => ?_))
  · exact Only.refl _ _
  · refine Only.then ?_ (only_putOv ..) (by simp)
    exact Only.refl _ _
theorem only_execMCmac (lane : Nat) (acc : Fin 4) (r : Fin 32) (rk : Fin 32) (x : Bool) (k : BitVec 12) (s : State) : Ends [.now, .eng, .views, .flt] s (execMCmac lane acc r rk x k s) := by
  unfold execMCmac
  refine Ends.ite _ (fun _ => ?_) (fun _ => ?_)
  · refine Ends.done ?_
    exact Only.refl _ _
  · unfold mDo
    refine Ends.done ?_
    refine Only.trans ?_ (only_mStep (by simp) _ _ _ _ _ (fun u => ?_))
    · exact Only.refl _ _
    · refine Only.then ?_ (only_cmac ..) (by simp)
      exact Only.refl _ _
theorem only_execMCmsu (lane : Nat) (acc : Fin 4) (r : Fin 32) (rk : Fin 32) (x : Bool) (k : BitVec 12) (s : State) : Ends [.now, .eng, .views, .flt] s (execMCmsu lane acc r rk x k s) := by
  unfold execMCmsu
  refine Ends.ite _ (fun _ => ?_) (fun _ => ?_)
  · refine Ends.done ?_
    exact Only.refl _ _
  · unfold mDo
    refine Ends.done ?_
    refine Only.trans ?_ (only_mStep (by simp) _ _ _ _ _ (fun u => ?_))
    · exact Only.refl _ _
    · refine Only.then ?_ (only_cmac ..) (by simp)
      exact Only.refl _ _
theorem only_execMCld (lane : Nat) (r : Fin 32) (rk : Fin 32) (f : Bool) (x : Bool) (k : BitVec 12) (s : State) : Ends [.now, .eng, .views, .flt] s (execMCld lane r rk f x k s) := by
  unfold execMCld
  refine Ends.ite _ (fun _ => ?_) (fun _ => ?_)
  · refine Ends.done ?_
    exact Only.refl _ _
  · unfold mDo
    refine Ends.done ?_
    refine Only.trans ?_ (only_mStep (by simp) _ _ _ _ _ (fun u => ?_))
    · exact Only.refl _ _
    · split
      · refine Only.then ?_ (only_setMreg ..) (by simp)
        exact Only.refl _ _
      · refine Only.then ?_ (only_raiseBounds ..) (by simp)
        refine Only.then ?_ (only_setMreg ..) (by simp)
        exact Only.refl _ _
theorem only_execMAclr (lane : Nat) (acc : Fin 4) (s : State) : Ends [.now, .eng, .views] s (execMAclr lane acc s) := by
  unfold execMAclr
  unfold mDo
  refine Ends.done ?_
  refine Only.trans ?_ (only_mStep (by simp) _ _ _ _ _ (fun u => ?_))
  · exact Only.refl _ _
  · refine Only.then ?_ (only_setMacc ..) (by simp)
    exact Only.refl _ _
theorem only_execMAld (lane : Nat) (acc : Fin 4) (r : Fin 32) (sh : BitVec 6) (s : State) : Ends [.now, .eng, .views] s (execMAld lane acc r sh s) := by
  unfold execMAld
  refine Ends.ite _ (fun _ => ?_) (fun _ => ?_)
  · refine Ends.done ?_
    exact Only.refl _ _
  · unfold mDo
    refine Ends.done ?_
    refine Only.trans ?_ (only_mStep (by simp) _ _ _ _ _ (fun u => ?_))
    · exact Only.refl _ _
    · refine Only.then ?_ (only_setMacc ..) (by simp)
      exact Only.refl _ _
theorem only_execMAadd (lane : Nat) (acc : Fin 4) (accb : Fin 4) (s : State) : Ends [.now, .eng, .views, .flt] s (execMAadd lane acc accb s) := by
  unfold execMAadd
  unfold mDo
  refine Ends.done ?_
  refine Only.trans ?_ (only_mStep (by simp) _ _ _ _ _ (fun u => ?_))
  · exact Only.refl _ _
  · refine Only.then ?_ (only_putOv ..) (by simp)
    exact Only.refl _ _
theorem only_execMAsub (lane : Nat) (acc : Fin 4) (accb : Fin 4) (s : State) : Ends [.now, .eng, .views, .flt] s (execMAsub lane acc accb s) := by
  unfold execMAsub
  unfold mDo
  refine Ends.done ?_
  refine Only.trans ?_ (only_mStep (by simp) _ _ _ _ _ (fun u => ?_))
  · exact Only.refl _ _
  · refine Only.then ?_ (only_putOv ..) (by simp)
    exact Only.refl _ _
theorem only_execMAsra (lane : Nat) (acc : Fin 4) (sh : BitVec 6) (s : State) : Ends [.now, .eng, .views] s (execMAsra lane acc sh s) := by
  unfold execMAsra
  unfold mDo
  refine Ends.done ?_
  refine Only.trans ?_ (only_mStep (by simp) _ _ _ _ _ (fun u => ?_))
  · exact Only.refl _ _
  · refine Only.then ?_ (only_setMacc ..) (by simp)
    exact Only.refl _ _
theorem only_execMAshl (lane : Nat) (acc : Fin 4) (sh : BitVec 6) (s : State) : Ends [.now, .eng, .views, .flt] s (execMAshl lane acc sh s) := by
  unfold execMAshl
  unfold mDo
  refine Ends.done ?_
  refine Only.trans ?_ (only_mStep (by simp) _ _ _ _ _ (fun u => ?_))
  · exact Only.refl _ _
  · refine Only.then ?_ (only_putOv ..) (by simp)
    exact Only.refl _ _
theorem only_execMAmov (lane : Nat) (r : Fin 32) (acc : Fin 4) (sh : BitVec 6) (s : State) : Ends [.now, .eng, .views, .flt] s (execMAmov lane r acc sh s) := by
  unfold execMAmov
  unfold mDo
  refine Ends.done ?_
  refine Only.trans ?_ (only_mStep (by simp) _ _ _ _ _ (fun u => ?_))
  · exact Only.refl _ _
  · refine Only.then ?_ (only_putSat ..) (by simp)
    exact Only.refl _ _
theorem only_execMAhi (lane : Nat) (r : Fin 32) (acc : Fin 4) (s : State) : Ends [.now, .eng, .views] s (execMAhi lane r acc s) := by
  unfold execMAhi
  unfold mDo
  refine Ends.done ?_
  refine Only.trans ?_ (only_mStep (by simp) _ _ _ _ _ (fun u => ?_))
  · exact Only.refl _ _
  · refine Only.then ?_ (only_setMreg ..) (by simp)
    exact Only.refl _ _
theorem only_execMAlo (lane : Nat) (r : Fin 32) (acc : Fin 4) (s : State) : Ends [.now, .eng, .views] s (execMAlo lane r acc s) := by
  unfold execMAlo
  unfold mDo
  refine Ends.done ?_
  refine Only.trans ?_ (only_mStep (by simp) _ _ _ _ _ (fun u => ?_))
  · exact Only.refl _ _
  · refine Only.then ?_ (only_setMreg ..) (by simp)
    exact Only.refl _ _
theorem only_execMAput (lane : Nat) (acc : Fin 4) (r : Fin 32) (rb : Fin 32) (s : State) : Ends [.now, .eng, .views] s (execMAput lane acc r rb s) := by
  unfold execMAput
  unfold mDo
  refine Ends.done ?_
  refine Only.trans ?_ (only_mStep (by simp) _ _ _ _ _ (fun u => ?_))
  · exact Only.refl _ _
  · refine Only.then ?_ (only_setMacc ..) (by simp)
    exact Only.refl _ _
theorem only_execMAneg (lane : Nat) (acc : Fin 4) (s : State) : Ends [.now, .eng, .views, .flt] s (execMAneg lane acc s) := by
  unfold execMAneg
  unfold mDo
  refine Ends.done ?_
  refine Only.trans ?_ (only_mStep (by simp) _ _ _ _ _ (fun u => ?_))
  · exact Only.refl _ _
  · refine Only.then ?_ (only_putOv ..) (by simp)
    exact Only.refl _ _
theorem only_execMLds (lane : Nat) (rd : Fin 32) (ra : Fin 32) (off : BitVec 10) (s : State) : Ends [.now, .eng, .views, .flt] s (execMLds lane rd ra off s) := by
  unfold execMLds
  unfold mDo
  refine Ends.done ?_
  refine Only.trans ?_ (only_mStep (by simp) _ _ _ _ _ (fun u => ?_))
  · exact Only.refl _ _
  · dsimp only
    refine Only.ite _ (fun _ => ?_) (fun _ => ?_)
    · refine Only.then ?_ (only_setMreg ..) (by simp)
      exact Only.refl _ _
    · refine Only.then ?_ (only_raiseBounds ..) (by simp)
      refine Only.then ?_ (only_setMreg ..) (by simp)
      exact Only.refl _ _
theorem only_execMSts (lane : Nat) (rs : Fin 32) (ra : Fin 32) (off : BitVec 10) (s : State) : Ends [.now, .eng, .views, .flt] s (execMSts lane rs ra off s) := by
  unfold execMSts
  unfold mDo
  refine Ends.done ?_
  refine Only.trans ?_ (only_mStep (by simp) _ _ _ _ _ (fun u => ?_))
  · exact Only.refl _ _
  · dsimp only
    refine Only.ite _ (fun _ => ?_) (fun _ => ?_)
    · refine Only.then ?_ (only_updEng ..) (by simp)
      exact Only.refl _ _
    · refine Only.then ?_ (only_raiseBounds ..) (by simp)
      exact Only.refl _ _
theorem only_execMLdi (lane : Nat) (rd : Fin 32) (ra : Fin 32) (what : Fin 3) (imm : BitVec 14) (s : State) : Ends [.now, .eng, .views] s (execMLdi lane rd ra what imm s) := by
  unfold execMLdi
  unfold mDo
  refine Ends.done ?_
  refine Only.trans ?_ (only_mStep (by simp) _ _ _ _ _ (fun u => ?_))
  · exact Only.refl _ _
  · refine Only.then ?_ (only_setMreg ..) (by simp)
    exact Only.refl _ _
theorem only_execMLdt (lane : Nat) (rd : Fin 32) (t : Fin 8) (what : Fin 3) (s : State) : Ends [.now, .eng, .views, .flt] s (execMLdt lane rd t what s) := by
  unfold execMLdt
  unfold mDo
  refine Ends.done ?_
  refine Only.trans ?_ (only_mStep (by simp) _ _ _ _ _ (fun u => ?_))
  · exact Only.refl _ _
  · dsimp only
    refine Only.ite _ (fun _ => ?_) (fun _ => ?_)
    · refine Only.then ?_ (only_setMreg ..) (by simp)
      exact Only.refl _ _
    · refine Only.then ?_ (only_raiseBounds ..) (by simp)
      refine Only.then ?_ (only_setMreg ..) (by simp)
      exact Only.refl _ _
theorem only_execMLdo (lane : Nat) (rd : Fin 32) (ra : Fin 32) (what : Fin 2) (b : Fin 4) (loop : BitVec 13) (s : State) : Ends [.now, .eng, .views, .flt] s (execMLdo lane rd ra what b loop s) := by
  unfold execMLdo
  unfold mDo
  refine Ends.done ?_
  refine Only.trans ?_ (only_mStep (by simp) _ _ _ _ _ (fun u => ?_))
  · exact Only.refl _ _
  · dsimp only
    refine Only.ite _ (fun _ => ?_) (fun _ => ?_)
    · refine Only.then ?_ (only_setMreg ..) (by simp)
      exact Only.refl _ _
    · refine Only.then ?_ (only_raiseBounds ..) (by simp)
      refine Only.then ?_ (only_setMreg ..) (by simp)
      exact Only.refl _ _
theorem only_execMLdh (lane : Nat) (rd : Fin 32) (ra : Fin 32) (imm : BitVec 16) (s : State) : Ends [.now, .eng, .views, .flt] s (execMLdh lane rd ra imm s) := by
  unfold execMLdh
  unfold mDo
  refine Ends.done ?_
  refine Only.trans ?_ (only_mStep (by simp) _ _ _ _ _ (fun u => ?_))
  · exact Only.refl _ _
  · split
    · refine Only.then ?_ (only_setMreg ..) (by simp)
      exact Only.refl _ _
    · refine Only.then ?_ (only_raiseBounds ..) (by simp)
      refine Only.then ?_ (only_setMreg ..) (by simp)
      exact Only.refl _ _
theorem only_execMOut (lane : Nat) (b : Fin 4) (ra : Fin 32) (s : State) : Ends [.now, .links, .eng, .com, .views, .regs, .conv, .bud, .flt, .hw, .sys] s (execMOut lane b ra s) := by
  unfold execMOut
  unfold mDo
  refine Ends.done ?_
  refine Only.trans ?_ (only_mStep (by simp) _ _ _ _ _ (fun u => ?_))
  · exact Only.refl _ _
  · split
    · refine Only.then ?_ (only_outOf ..) (by simp)
      exact Only.refl _ _
    · exact Only.refl _ _
theorem only_execMBeq (lane : Nat) (ra : Fin 32) (rb : Fin 32) (target : BitVec 13) (s : State) : Ends [.now, .eng, .views] s (execMBeq lane ra rb target s) := by
  unfold execMBeq
  unfold mDo
  refine Ends.done ?_
  refine Only.trans ?_ (only_mStep (by simp) _ _ _ _ _ (fun u => ?_))
  · exact Only.refl _ _
  · exact Only.refl _ _
theorem only_execMBne (lane : Nat) (ra : Fin 32) (rb : Fin 32) (target : BitVec 13) (s : State) : Ends [.now, .eng, .views] s (execMBne lane ra rb target s) := by
  unfold execMBne
  unfold mDo
  refine Ends.done ?_
  refine Only.trans ?_ (only_mStep (by simp) _ _ _ _ _ (fun u => ?_))
  · exact Only.refl _ _
  · exact Only.refl _ _
theorem only_execMBlt (lane : Nat) (ra : Fin 32) (rb : Fin 32) (target : BitVec 13) (s : State) : Ends [.now, .eng, .views] s (execMBlt lane ra rb target s) := by
  unfold execMBlt
  unfold mDo
  refine Ends.done ?_
  refine Only.trans ?_ (only_mStep (by simp) _ _ _ _ _ (fun u => ?_))
  · exact Only.refl _ _
  · exact Only.refl _ _
theorem only_execMBge (lane : Nat) (ra : Fin 32) (rb : Fin 32) (target : BitVec 13) (s : State) : Ends [.now, .eng, .views] s (execMBge lane ra rb target s) := by
  unfold execMBge
  unfold mDo
  refine Ends.done ?_
  refine Only.trans ?_ (only_mStep (by simp) _ _ _ _ _ (fun u => ?_))
  · exact Only.refl _ _
  · exact Only.refl _ _
theorem only_execMBltu (lane : Nat) (ra : Fin 32) (rb : Fin 32) (target : BitVec 13) (s : State) : Ends [.now, .eng, .views] s (execMBltu lane ra rb target s) := by
  unfold execMBltu
  unfold mDo
  refine Ends.done ?_
  refine Only.trans ?_ (only_mStep (by simp) _ _ _ _ _ (fun u => ?_))
  · exact Only.refl _ _
  · exact Only.refl _ _
theorem only_execMBgeu (lane : Nat) (ra : Fin 32) (rb : Fin 32) (target : BitVec 13) (s : State) : Ends [.now, .eng, .views] s (execMBgeu lane ra rb target s) := by
  unfold execMBgeu
  unfold mDo
  refine Ends.done ?_
  refine Only.trans ?_ (only_mStep (by simp) _ _ _ _ _ (fun u => ?_))
  · exact Only.refl _ _
  · exact Only.refl _ _
theorem only_execMBbs (lane : Nat) (ra : Fin 32) (n : Fin 32) (target : BitVec 13) (s : State) : Ends [.now, .eng, .views] s (execMBbs lane ra n target s) := by
  unfold execMBbs
  unfold mDo
  refine Ends.done ?_
  refine Only.trans ?_ (only_mStep (by simp) _ _ _ _ _ (fun u => ?_))
  · exact Only.refl _ _
  · exact Only.refl _ _
theorem only_execMBbc (lane : Nat) (ra : Fin 32) (n : Fin 32) (target : BitVec 13) (s : State) : Ends [.now, .eng, .views] s (execMBbc lane ra n target s) := by
  unfold execMBbc
  unfold mDo
  refine Ends.done ?_
  refine Only.trans ?_ (only_mStep (by simp) _ _ _ _ _ (fun u => ?_))
  · exact Only.refl _ _
  · exact Only.refl _ _
theorem only_execMJmp (lane : Nat) (target : BitVec 13) (s : State) : Ends [.now, .eng, .views] s (execMJmp lane target s) := by
  unfold execMJmp
  unfold mDo
  refine Ends.done ?_
  refine Only.trans ?_ (only_mStep (by simp) _ _ _ _ _ (fun u => ?_))
  · exact Only.refl _ _
  · exact Only.refl _ _
theorem only_execMCall (lane : Nat) (target : BitVec 13) (s : State) : Ends [.now, .eng, .views] s (execMCall lane target s) := by
  unfold execMCall
  unfold mDo
  refine Ends.done ?_
  refine Only.trans ?_ (only_mStep (by simp) _ _ _ _ _ (fun u => ?_))
  · exact Only.refl _ _
  · exact Only.refl _ _
theorem only_execMRet (lane : Nat) (s : State) : Ends [.now, .eng, .views] s (execMRet lane s) := by
  unfold execMRet
  unfold mDo
  refine Ends.done ?_
  refine Only.trans ?_ (only_mStep (by simp) _ _ _ _ _ (fun u => ?_))
  · exact Only.refl _ _
  · exact Only.refl _ _
theorem only_execMLoop (lane : Nat) (cnt : BitVec 10) (last : BitVec 13) (s : State) : Ends [.now, .eng, .views] s (execMLoop lane cnt last s) := by
  unfold execMLoop
  dsimp only
  unfold mDo
  refine Ends.done ?_
  refine Only.trans ?_ (only_mStep (by simp) _ _ _ _ _ (fun u => ?_))
  · exact Only.refl _ _
  · exact Only.refl _ _
theorem only_execMLoopr (lane : Nat) (ra : Fin 32) (max : BitVec 8) (last : BitVec 13) (s : State) : Ends [.now, .eng, .views] s (execMLoopr lane ra max last s) := by
  unfold execMLoopr
  dsimp only
  unfold mDo
  refine Ends.done ?_
  refine Only.trans ?_ (only_mStep (by simp) _ _ _ _ _ (fun u => ?_))
  · exact Only.refl _ _
  · exact Only.refl _ _
theorem only_execMRfl (lane : Nat) (rd : Fin 32) (s : State) : Ends [.now, .eng, .views] s (execMRfl lane rd s) := by
  unfold execMRfl
  unfold mDo
  refine Ends.done ?_
  refine Only.trans ?_ (only_mStep (by simp) _ _ _ _ _ (fun u => ?_))
  · exact Only.refl _ _
  · refine Only.then ?_ (only_setMreg ..) (by simp)
    exact Only.refl _ _
theorem only_execMRflc (lane : Nat) (rd : Fin 32) (s : State) : Ends [.now, .eng, .views] s (execMRflc lane rd s) := by
  unfold execMRflc
  unfold mDo
  refine Ends.done ?_
  refine Only.trans ?_ (only_mStep (by simp) _ _ _ _ _ (fun u => ?_))
  · exact Only.refl _ _
  · refine Only.then ?_ (only_updRun ..) (by simp)
    refine Only.then ?_ (only_setMreg ..) (by simp)
    exact Only.refl _ _
theorem only_execMLfl (lane : Nat) (rd : Fin 32) (s : State) : Ends [.now, .eng, .views] s (execMLfl lane rd s) := by
  unfold execMLfl
  unfold mDo
  refine Ends.done ?_
  refine Only.trans ?_ (only_mStep (by simp) _ _ _ _ _ (fun u => ?_))
  · exact Only.refl _ _
  · refine Only.then ?_ (only_setMreg ..) (by simp)
    exact Only.refl _ _
theorem only_execMCyc (lane : Nat) (rd : Fin 32) (s : State) : Ends [.now, .eng, .views] s (execMCyc lane rd s) := by
  unfold execMCyc
  unfold mDo
  refine Ends.done ?_
  refine Only.trans ?_ (only_mStep (by simp) _ _ _ _ _ (fun u => ?_))
  · exact Only.refl _ _
  · refine Only.then ?_ (only_setMreg ..) (by simp)
    exact Only.refl _ _
theorem only_execMNow (lane : Nat) (rd : Fin 32) (s : State) : Ends [.now, .eng, .views] s (execMNow lane rd s) := by
  unfold execMNow
  unfold mDo
  refine Ends.done ?_
  refine Only.trans ?_ (only_mStep (by simp) _ _ _ _ _ (fun u => ?_))
  · exact Only.refl _ _
  · refine Only.then ?_ (only_setMreg ..) (by simp)
    exact Only.refl _ _
theorem only_execMSysMode (lane : Nat) (rd : Fin 32) (s : State) : Ends [.now, .eng, .views] s (execMSysMode lane rd s) := by
  unfold execMSysMode
  unfold mDo
  refine Ends.done ?_
  refine Only.trans ?_ (only_mStep (by simp) _ _ _ _ _ (fun u => ?_))
  · exact Only.refl _ _
  · split
    · refine Only.then ?_ (only_setMreg ..) (by simp)
      exact Only.refl _ _
    · exact Only.refl _ _
theorem only_execMNop (lane : Nat) (s : State) : Ends [.now, .eng, .views] s (execMNop lane s) := by
  unfold execMNop
  unfold mDo
  refine Ends.done ?_
  refine Only.trans ?_ (only_mStep (by simp) _ _ _ _ _ (fun u => ?_))
  · exact Only.refl _ _
  · exact Only.refl _ _
theorem only_execMEnd (lane : Nat) (s : State) : Ends [.now, .eng, .views, .flt] s (execMEnd lane s) := by
  unfold execMEnd
  unfold mDo
  refine Ends.done ?_
  refine Only.trans ?_ (only_mStep (by simp) _ _ _ _ _ (fun u => ?_))
  · exact Only.refl _ _
  · split
    · refine Only.then ?_ (only_endRun ..) (by simp)
      refine Only.then ?_ (only_reach ..) (by simp)
      exact Only.refl _ _
    · exact Only.refl _ _
theorem only_execIllegalInstruction (lane : Nat) (s : State) : Ends [.now, .eng, .views, .flt] s (execIllegalInstruction lane s) := by
  unfold execIllegalInstruction
  split
  · refine Ends.done ?_
    exact Only.refl _ _
  · refine Ends.ite _ (fun _ => ?_) (fun _ => ?_)
    · refine Ends.done ?_
      refine Only.then ?_ (only_abortRun ..) (by simp)
      exact Only.refl _ _
    · refine Ends.ite _ (fun _ => ?_) (fun _ => ?_)
      · refine Ends.done ?_
        exact Only.refl _ _
      · refine Ends.done ?_
        refine Only.then ?_ (only_endRun ..) (by simp)
        refine Only.then ?_ (only_loopFlag ..) (by simp)
        refine Only.then ?_ (only_reach ..) (by simp)
        exact Only.refl _ _
theorem only_execRegisterWrite (off : Nat) (v : Word) (s : State) : Ends [.regs, .stg, .tel, .tide, .flt, .hw, .ports] s (execRegisterWrite off v s) := by
  unfold execRegisterWrite
  refine Ends.done ?_
  refine Only.then ?_ (only_arrive ..) (by simp)
  exact Only.refl _ _
theorem only_execHostQueueService (s : State) : Ends [.epoch, .free, .nodes, .links, .pans, .eng, .com, .safe, .views, .regs, .conv, .stg, .tel, .bud, .shim, .led, .tide, .flt, .hw, .log, .store, .sys, .ports] s (execHostQueueService s) := by
  unfold execHostQueueService
  refine Ends.ite _ (fun _ => ?_) (fun _ => ?_)
  · refine Ends.done ?_
    refine Only.then ?_ (only_serve ..) (by simp)
    exact Only.refl _ _
  · refine Ends.done ?_
    exact Only.refl _ _
theorem only_execAttach (v : Word) (s : State) : Ends [.epoch, .free, .nodes, .links, .pans, .eng, .com, .safe, .views, .regs, .conv, .stg, .tel, .bud, .shim, .led, .tide, .flt, .hw, .log, .store, .sys, .ports] s (execAttach v s) := by
  unfold execAttach
  refine Ends.done ?_
  refine Only.then ?_ (only_hostCmd ..) (by simp)
  exact Only.refl _ _
theorem only_execDetach (v : Word) (s : State) : Ends [.epoch, .free, .nodes, .links, .pans, .eng, .com, .safe, .views, .regs, .conv, .stg, .tel, .bud, .shim, .led, .tide, .flt, .hw, .log, .store, .sys, .ports] s (execDetach v s) := by
  unfold execDetach
  refine Ends.done ?_
  refine Only.then ?_ (only_hostCmd ..) (by simp)
  exact Only.refl _ _
theorem only_execHbeat (v : Word) (s : State) : Ends [.epoch, .free, .nodes, .links, .pans, .eng, .com, .safe, .views, .regs, .conv, .stg, .tel, .bud, .shim, .led, .tide, .flt, .hw, .log, .store, .sys, .ports] s (execHbeat v s) := by
  unfold execHbeat
  refine Ends.done ?_
  refine Only.then ?_ (only_hostCmd ..) (by simp)
  exact Only.refl _ _
theorem only_execIntcause (v : Word) (s : State) : Ends [.epoch, .free, .nodes, .links, .pans, .eng, .com, .safe, .views, .regs, .conv, .stg, .tel, .bud, .shim, .led, .tide, .flt, .hw, .log, .store, .sys, .ports] s (execIntcause v s) := by
  unfold execIntcause
  refine Ends.done ?_
  refine Only.then ?_ (only_hostCmd ..) (by simp)
  exact Only.refl _ _
theorem only_execSessionRequest (role : BitVec 2) (s : State) : Ends [.epoch, .free, .nodes, .links, .pans, .eng, .com, .safe, .views, .regs, .conv, .stg, .tel, .bud, .shim, .led, .tide, .flt, .hw, .log, .store, .sys, .ports] s (execSessionRequest role s) := by
  unfold execSessionRequest
  refine Ends.done ?_
  refine Only.then ?_ (only_hostCmd ..) (by simp)
  exact Only.refl _ _
theorem only_execSessionClose (role : BitVec 2) (s : State) : Ends [.epoch, .free, .nodes, .links, .pans, .eng, .com, .safe, .views, .regs, .conv, .stg, .tel, .bud, .shim, .led, .tide, .flt, .hw, .log, .store, .sys, .ports] s (execSessionClose role s) := by
  unfold execSessionClose
  refine Ends.done ?_
  refine Only.then ?_ (only_hostCmd ..) (by simp)
  exact Only.refl _ _
theorem only_execSesgo (v : Word) (s : State) : Ends [.epoch, .free, .nodes, .links, .pans, .eng, .com, .safe, .views, .regs, .conv, .stg, .tel, .bud, .shim, .led, .tide, .flt, .hw, .log, .store, .sys, .ports] s (execSesgo v s) := by
  unfold execSesgo
  refine Ends.done ?_
  refine Only.then ?_ (only_hostCmd ..) (by simp)
  exact Only.refl _ _
theorem only_execInstkeygo (v : Word) (s : State) : Ends [.epoch, .free, .nodes, .links, .pans, .eng, .com, .safe, .views, .regs, .conv, .stg, .tel, .bud, .shim, .led, .tide, .flt, .hw, .log, .store, .sys, .ports] s (execInstkeygo v s) := by
  unfold execInstkeygo
  refine Ends.done ?_
  refine Only.then ?_ (only_hostCmd ..) (by simp)
  exact Only.refl _ _
theorem only_execWrbnd (num : Byte) (s : State) : Ends [.epoch, .free, .nodes, .links, .pans, .eng, .com, .safe, .views, .regs, .conv, .stg, .tel, .bud, .shim, .led, .tide, .flt, .hw, .log, .store, .sys, .ports] s (execWrbnd num s) := by
  unfold execWrbnd
  refine Ends.done ?_
  refine Only.then ?_ (only_hostCmd ..) (by simp)
  exact Only.refl _ _
theorem only_execBundleClose (num : Byte) (s : State) : Ends [.epoch, .free, .nodes, .links, .pans, .eng, .com, .safe, .views, .regs, .conv, .stg, .tel, .bud, .shim, .led, .tide, .flt, .hw, .log, .store, .sys, .ports] s (execBundleClose num s) := by
  unfold execBundleClose
  refine Ends.done ?_
  refine Only.then ?_ (only_hostCmd ..) (by simp)
  exact Only.refl _ _
theorem only_execSnpreq (core : Bool) (v : Word) (s : State) : Ends [.epoch, .free, .nodes, .links, .pans, .eng, .com, .safe, .views, .regs, .conv, .stg, .tel, .bud, .shim, .led, .tide, .flt, .hw, .log, .store, .sys, .ports] s (execSnpreq core v s) := by
  unfold execSnpreq
  refine Ends.ite _ (fun _ => ?_) (fun _ => ?_)
  · refine Ends.ite _ (fun _ => ?_) (fun _ => ?_)
    · refine Ends.done ?_
      refine Only.then ?_ (only_snapReq ..) (by simp)
      exact Only.refl _ _
    · refine Ends.done ?_
      exact Only.refl _ _
  · refine Ends.done ?_
    refine Only.then ?_ (only_hostCmd ..) (by simp)
    exact Only.refl _ _
theorem only_execLqreq (v : Word) (s : State) : Ends [.epoch, .free, .nodes, .links, .pans, .eng, .com, .safe, .views, .regs, .conv, .stg, .tel, .bud, .shim, .led, .tide, .flt, .hw, .log, .store, .sys, .ports] s (execLqreq v s) := by
  unfold execLqreq
  refine Ends.done ?_
  refine Only.then ?_ (only_hostCmd ..) (by simp)
  exact Only.refl _ _
theorem only_execDioreq (v : Word) (s : State) : Ends [.epoch, .free, .nodes, .links, .pans, .eng, .com, .safe, .views, .regs, .conv, .stg, .tel, .bud, .shim, .led, .tide, .flt, .hw, .log, .store, .sys, .ports] s (execDioreq v s) := by
  unfold execDioreq
  refine Ends.done ?_
  refine Only.then ?_ (only_hostCmd ..) (by simp)
  exact Only.refl _ _
theorem only_execThrst (v : Word) (s : State) : Ends [.epoch, .free, .nodes, .links, .pans, .eng, .com, .safe, .views, .regs, .conv, .stg, .tel, .bud, .shim, .led, .tide, .flt, .hw, .log, .store, .sys, .ports] s (execThrst v s) := by
  unfold execThrst
  refine Ends.done ?_
  refine Only.then ?_ (only_hostCmd ..) (by simp)
  exact Only.refl _ _
theorem only_execTalsel (v : Word) (s : State) : Ends [.epoch, .free, .nodes, .links, .pans, .eng, .com, .safe, .views, .regs, .conv, .stg, .tel, .bud, .shim, .led, .tide, .flt, .hw, .log, .store, .sys, .ports] s (execTalsel v s) := by
  unfold execTalsel
  refine Ends.done ?_
  refine Only.then ?_ (only_hostCmd ..) (by simp)
  exact Only.refl _ _
theorem only_execTrcctlClear (v : Word) (s : State) : Ends [.epoch, .free, .nodes, .links, .pans, .eng, .com, .safe, .views, .regs, .conv, .stg, .tel, .bud, .shim, .led, .tide, .flt, .hw, .log, .store, .sys, .ports] s (execTrcctlClear v s) := by
  unfold execTrcctlClear
  refine Ends.done ?_
  refine Only.then ?_ (only_hostCmd ..) (by simp)
  exact Only.refl _ _
theorem only_execLoopOpen (s : State) : Ends [.epoch, .free, .nodes, .links, .pans, .eng, .com, .safe, .views, .regs, .conv, .stg, .tel, .bud, .shim, .led, .tide, .flt, .hw, .log, .store, .sys, .ports] s (execLoopOpen s) := by
  unfold execLoopOpen
  refine Ends.done ?_
  refine Only.then ?_ (only_hostCmd ..) (by simp)
  exact Only.refl _ _
theorem only_execLoopClose (s : State) : Ends [.epoch, .free, .nodes, .links, .pans, .eng, .com, .safe, .views, .regs, .conv, .stg, .tel, .bud, .shim, .led, .tide, .flt, .hw, .log, .store, .sys, .ports] s (execLoopClose s) := by
  unfold execLoopClose
  refine Ends.done ?_
  refine Only.then ?_ (only_hostCmd ..) (by simp)
  exact Only.refl _ _
theorem only_execLoopman (b : Fin 4) (v : Word) (s : State) : Ends [.epoch, .free, .nodes, .links, .pans, .eng, .com, .safe, .views, .regs, .conv, .stg, .tel, .bud, .shim, .led, .tide, .flt, .hw, .log, .store, .sys, .ports] s (execLoopman b v s) := by
  unfold execLoopman
  refine Ends.done ?_
  refine Only.then ?_ (only_hostCmd ..) (by simp)
  exact Only.refl _ _
theorem only_execCoefval (v : Word) (s : State) : Ends [.epoch, .free, .nodes, .links, .pans, .eng, .com, .safe, .views, .regs, .conv, .stg, .tel, .bud, .shim, .led, .tide, .flt, .hw, .log, .store, .sys, .ports] s (execCoefval v s) := by
  unfold execCoefval
  refine Ends.done ?_
  refine Only.then ?_ (only_hostCmd ..) (by simp)
  exact Only.refl _ _
theorem only_execImageStart (target : BitVec 2) (s : State) : Ends [.epoch, .free, .nodes, .links, .pans, .eng, .com, .safe, .views, .regs, .conv, .stg, .tel, .bud, .shim, .led, .tide, .flt, .hw, .log, .store, .sys, .ports] s (execImageStart target s) := by
  unfold execImageStart
  refine Ends.done ?_
  refine Only.then ?_ (only_hostCmd ..) (by simp)
  exact Only.refl _ _
theorem only_execImgdat (v : Word) (s : State) : Ends [.epoch, .free, .nodes, .links, .pans, .eng, .com, .safe, .views, .regs, .conv, .stg, .tel, .bud, .shim, .led, .tide, .flt, .hw, .log, .store, .sys, .ports] s (execImgdat v s) := by
  unfold execImgdat
  refine Ends.done ?_
  refine Only.then ?_ (only_hostCmd ..) (by simp)
  exact Only.refl _ _
theorem only_execImageFinish (s : State) : Ends [.epoch, .free, .nodes, .links, .pans, .eng, .com, .safe, .views, .regs, .conv, .stg, .tel, .bud, .shim, .led, .tide, .flt, .hw, .log, .store, .sys, .ports] s (execImageFinish s) := by
  unfold execImageFinish
  refine Ends.done ?_
  refine Only.then ?_ (only_hostCmd ..) (by simp)
  exact Only.refl _ _
theorem only_execImageAbort (s : State) : Ends [.epoch, .free, .nodes, .links, .pans, .eng, .com, .safe, .views, .regs, .conv, .stg, .tel, .bud, .shim, .led, .tide, .flt, .hw, .log, .store, .sys, .ports] s (execImageAbort s) := by
  unfold execImageAbort
  refine Ends.done ?_
  refine Only.then ?_ (only_hostCmd ..) (by simp)
  exact Only.refl _ _
theorem only_execRwx (v : Word) (s : State) : Ends [.epoch, .free, .nodes, .links, .pans, .eng, .com, .safe, .views, .regs, .conv, .stg, .tel, .bud, .shim, .led, .tide, .flt, .hw, .log, .store, .sys, .ports] s (execRwx v s) := by
  unfold execRwx
  refine Ends.done ?_
  refine Only.then ?_ (only_hostCmd ..) (by simp)
  exact Only.refl _ _
theorem only_execRestart (s : State) : Ends [.epoch, .free, .nodes, .links, .pans, .eng, .com, .safe, .views, .regs, .conv, .stg, .tel, .bud, .shim, .led, .tide, .flt, .hw, .log, .store, .sys, .ports] s (execRestart s) := by
  unfold execRestart
  refine Ends.done ?_
  refine Only.then ?_ (only_hostCmd ..) (by simp)
  exact Only.refl _ _
theorem only_execWarm (s : State) : Ends [.epoch, .free, .nodes, .links, .pans, .eng, .com, .safe, .views, .regs, .conv, .stg, .tel, .bud, .shim, .led, .tide, .flt, .hw, .log, .store, .sys, .ports] s (execWarm s) := by
  unfold execWarm
  refine Ends.done ?_
  refine Only.then ?_ (only_hostCmd ..) (by simp)
  exact Only.refl _ _
theorem only_execPdown (s : State) : Ends [.epoch, .free, .nodes, .links, .pans, .eng, .com, .safe, .views, .regs, .conv, .stg, .tel, .bud, .shim, .led, .tide, .flt, .hw, .log, .store, .sys, .ports] s (execPdown s) := by
  unfold execPdown
  refine Ends.done ?_
  refine Only.then ?_ (only_hostCmd ..) (by simp)
  exact Only.refl _ _
theorem only_execCfgsave (v : Word) (s : State) : Ends [.epoch, .free, .nodes, .links, .pans, .eng, .com, .safe, .views, .regs, .conv, .stg, .tel, .bud, .shim, .led, .tide, .flt, .hw, .log, .store, .sys, .ports] s (execCfgsave v s) := by
  unfold execCfgsave
  refine Ends.done ?_
  refine Only.then ?_ (only_hostCmd ..) (by simp)
  exact Only.refl _ _
theorem only_execRvreq (v : Word) (s : State) : Ends [.epoch, .free, .nodes, .links, .pans, .eng, .com, .safe, .views, .regs, .conv, .stg, .tel, .bud, .shim, .led, .tide, .flt, .hw, .log, .store, .sys, .ports] s (execRvreq v s) := by
  unfold execRvreq
  refine Ends.done ?_
  refine Only.then ?_ (only_hostCmd ..) (by simp)
  exact Only.refl _ _
theorem only_execVibset (v : Word) (s : State) : Ends [.epoch, .free, .nodes, .links, .pans, .eng, .com, .safe, .views, .regs, .conv, .stg, .tel, .bud, .shim, .led, .tide, .flt, .hw, .log, .store, .sys, .ports] s (execVibset v s) := by
  unfold execVibset
  refine Ends.done ?_
  refine Only.then ?_ (only_hostCmd ..) (by simp)
  exact Only.refl _ _
theorem only_execQset (v : Word) (s : State) : Ends [.epoch, .free, .nodes, .links, .pans, .eng, .com, .safe, .views, .regs, .conv, .stg, .tel, .bud, .shim, .led, .tide, .flt, .hw, .log, .store, .sys, .ports] s (execQset v s) := by
  unfold execQset
  refine Ends.done ?_
  refine Only.then ?_ (only_hostCmd ..) (by simp)
  exact Only.refl _ _
theorem only_execOrderNone (slot : BitVec 2) (s : State) : Ends [.epoch, .free, .nodes, .links, .pans, .eng, .com, .safe, .views, .regs, .conv, .stg, .tel, .bud, .shim, .led, .tide, .flt, .hw, .log, .store, .sys, .ports] s (execOrderNone slot s) := by
  unfold execOrderNone
  refine Ends.done ?_
  refine Only.then ?_ (only_hostCmd ..) (by simp)
  exact Only.refl _ _
theorem only_execOrderOn (slot : BitVec 2) (s : State) : Ends [.epoch, .free, .nodes, .links, .pans, .eng, .com, .safe, .views, .regs, .conv, .stg, .tel, .bud, .shim, .led, .tide, .flt, .hw, .log, .store, .sys, .ports] s (execOrderOn slot s) := by
  unfold execOrderOn
  refine Ends.done ?_
  refine Only.then ?_ (only_hostCmd ..) (by simp)
  exact Only.refl _ _
theorem only_execOrderOff (slot : BitVec 2) (s : State) : Ends [.epoch, .free, .nodes, .links, .pans, .eng, .com, .safe, .views, .regs, .conv, .stg, .tel, .bud, .shim, .led, .tide, .flt, .hw, .log, .store, .sys, .ports] s (execOrderOff slot s) := by
  unfold execOrderOff
  refine Ends.done ?_
  refine Only.then ?_ (only_hostCmd ..) (by simp)
  exact Only.refl _ _
theorem only_execOrderRetention (slot : BitVec 2) (s : State) : Ends [.epoch, .free, .nodes, .links, .pans, .eng, .com, .safe, .views, .regs, .conv, .stg, .tel, .bud, .shim, .led, .tide, .flt, .hw, .log, .store, .sys, .ports] s (execOrderRetention slot s) := by
  unfold execOrderRetention
  refine Ends.done ?_
  refine Only.then ?_ (only_hostCmd ..) (by simp)
  exact Only.refl _ _
theorem only_execOrderPurge (slot : BitVec 2) (s : State) : Ends [.epoch, .free, .nodes, .links, .pans, .eng, .com, .safe, .views, .regs, .conv, .stg, .tel, .bud, .shim, .led, .tide, .flt, .hw, .log, .store, .sys, .ports] s (execOrderPurge slot s) := by
  unfold execOrderPurge
  refine Ends.done ?_
  refine Only.then ?_ (only_hostCmd ..) (by simp)
  exact Only.refl _ _
theorem only_execPhcmdAdmit (n : Nat) (s : State) : Ends [.epoch, .free, .nodes, .links, .pans, .eng, .com, .safe, .views, .regs, .conv, .stg, .tel, .bud, .shim, .led, .tide, .flt, .hw, .log, .store, .sys, .ports] s (execPhcmdAdmit n s) := by
  unfold execPhcmdAdmit
  refine Ends.ite _ (fun _ => ?_) (fun _ => ?_)
  · refine Ends.done ?_
    refine Only.then ?_ (only_hostCmd ..) (by simp)
    exact Only.refl _ _
  · refine Ends.done ?_
    exact Only.refl _ _
theorem only_execPhcmdRetire (n : Nat) (s : State) : Ends [.epoch, .free, .nodes, .links, .pans, .eng, .com, .safe, .views, .regs, .conv, .stg, .tel, .bud, .shim, .led, .tide, .flt, .hw, .log, .store, .sys, .ports] s (execPhcmdRetire n s) := by
  unfold execPhcmdRetire
  refine Ends.ite _ (fun _ => ?_) (fun _ => ?_)
  · refine Ends.done ?_
    refine Only.then ?_ (only_hostCmd ..) (by simp)
    exact Only.refl _ _
  · refine Ends.done ?_
    exact Only.refl _ _
theorem only_execDcapop (v : Word) (s : State) : Ends [.epoch, .free, .nodes, .links, .pans, .eng, .com, .safe, .views, .regs, .conv, .stg, .tel, .bud, .shim, .led, .tide, .flt, .hw, .log, .store, .sys, .ports] s (execDcapop v s) := by
  unfold execDcapop
  refine Ends.done ?_
  refine Only.then ?_ (only_hostCmd ..) (by simp)
  exact Only.refl _ _
theorem only_execDcapin (v : Word) (s : State) : Ends [.epoch, .free, .nodes, .links, .pans, .eng, .com, .safe, .views, .regs, .conv, .stg, .tel, .bud, .shim, .led, .tide, .flt, .hw, .log, .store, .sys, .ports] s (execDcapin v s) := by
  unfold execDcapin
  refine Ends.done ?_
  refine Only.then ?_ (only_hostCmd ..) (by simp)
  exact Only.refl _ _
theorem only_execDcapmk (v : Word) (s : State) : Ends [.epoch, .free, .nodes, .links, .pans, .eng, .com, .safe, .views, .regs, .conv, .stg, .tel, .bud, .shim, .led, .tide, .flt, .hw, .log, .store, .sys, .ports] s (execDcapmk v s) := by
  unfold execDcapmk
  refine Ends.done ?_
  refine Only.then ?_ (only_hostCmd ..) (by simp)
  exact Only.refl _ _
theorem only_execLedenSet (s : State) : Ends [.epoch, .free, .nodes, .links, .pans, .eng, .com, .safe, .views, .regs, .conv, .stg, .tel, .bud, .shim, .led, .tide, .flt, .hw, .log, .store, .sys, .ports] s (execLedenSet s) := by
  unfold execLedenSet
  refine Ends.done ?_
  refine Only.then ?_ (only_hostCmd ..) (by simp)
  exact Only.refl _ _
theorem only_execLedenClear (s : State) : Ends [.epoch, .free, .nodes, .links, .pans, .eng, .com, .safe, .views, .regs, .conv, .stg, .tel, .bud, .shim, .led, .tide, .flt, .hw, .log, .store, .sys, .ports] s (execLedenClear s) := by
  unfold execLedenClear
  refine Ends.done ?_
  refine Only.then ?_ (only_hostCmd ..) (by simp)
  exact Only.refl _ _
theorem only_execLedbase (high : Bool) (v : Word) (s : State) : Ends [.epoch, .free, .nodes, .links, .pans, .eng, .com, .safe, .views, .regs, .conv, .stg, .tel, .bud, .shim, .led, .tide, .flt, .hw, .log, .store, .sys, .ports] s (execLedbase high v s) := by
  unfold execLedbase
  refine Ends.done ?_
  refine Only.then ?_ (only_hostCmd ..) (by simp)
  exact Only.refl _ _
theorem only_execTen (v : Word) (s : State) : Ends [.epoch, .free, .nodes, .links, .pans, .eng, .com, .safe, .views, .regs, .conv, .stg, .tel, .bud, .shim, .led, .tide, .flt, .hw, .log, .store, .sys, .ports] s (execTen v s) := by
  unfold execTen
  refine Ends.done ?_
  refine Only.then ?_ (only_hostCmd ..) (by simp)
  exact Only.refl _ _
theorem only_execFreeze (v : Word) (s : State) : Ends [.epoch, .free, .nodes, .links, .pans, .eng, .com, .safe, .views, .regs, .conv, .stg, .tel, .bud, .shim, .led, .tide, .flt, .hw, .log, .store, .sys, .ports] s (execFreeze v s) := by
  unfold execFreeze
  refine Ends.done ?_
  refine Only.then ?_ (only_hostCmd ..) (by simp)
  exact Only.refl _ _
theorem only_execTrel (v : Word) (s : State) : Ends [.epoch, .free, .nodes, .links, .pans, .eng, .com, .safe, .views, .regs, .conv, .stg, .tel, .bud, .shim, .led, .tide, .flt, .hw, .log, .store, .sys, .ports] s (execTrel v s) := by
  unfold execTrel
  refine Ends.done ?_
  refine Only.then ?_ (only_hostCmd ..) (by simp)
  exact Only.refl _ _
theorem only_execExpinc (v : Word) (s : State) : Ends [.epoch, .free, .nodes, .links, .pans, .eng, .com, .safe, .views, .regs, .conv, .stg, .tel, .bud, .shim, .led, .tide, .flt, .hw, .log, .store, .sys, .ports] s (execExpinc v s) := by
  unfold execExpinc
  refine Ends.done ?_
  refine Only.then ?_ (only_hostCmd ..) (by simp)
  exact Only.refl _ _
theorem only_execHeartbeatTimeout (s : State) : Ends [.now, .stg, .hw] s (execHeartbeatTimeout s) := by
  unfold execHeartbeatTimeout
  refine Ends.ite _ (fun _ => ?_) (fun _ => ?_)
  · refine Ends.done ?_
    refine Only.then ?_ (only_unattend ..) (by simp)
    refine Only.then ?_ (only_reach ..) (by simp)
    exact Only.refl _ _
  · refine Ends.done ?_
    exact Only.refl _ _
theorem only_execSessionVerified (s : State) : Ends [.flt, .hw] s (execSessionVerified s) := by
  unfold execSessionVerified
  refine Ends.ite _ (fun _ => ?_) (fun _ => ?_)
  · refine Ends.done ?_
    exact Only.refl _ _
  · refine Ends.ite _ (fun _ => ?_) (fun _ => ?_)
    · refine Ends.done ?_
      refine Only.then ?_ (only_updHw ..) (by simp)
      exact Only.refl _ _
    · dsimp only
      refine Ends.done ?_
      refine Only.then ?_ (only_tallyRole ..) (by simp)
      refine Only.then ?_ (only_updHw ..) (by simp)
      exact Only.refl _ _
theorem only_execSessionIdleTimeout (s : State) : Ends [.now, .hw] s (execSessionIdleTimeout s) := by
  unfold execSessionIdleTimeout
  refine Ends.ite _ (fun _ => ?_) (fun _ => ?_)
  · refine Ends.done ?_
    refine Only.then ?_ (only_dropSession ..) (by simp)
    refine Only.then ?_ (only_reach ..) (by simp)
    exact Only.refl _ _
  · refine Ends.done ?_
    exact Only.refl _ _
theorem only_execLockoutExpiry (s : State) : Ends [.now, .hw] s (execLockoutExpiry s) := by
  unfold execLockoutExpiry
  refine Ends.ite _ (fun _ => ?_) (fun _ => ?_)
  · refine Ends.done ?_
    refine Only.then ?_ (only_updHw ..) (by simp)
    refine Only.then ?_ (only_reach ..) (by simp)
    exact Only.refl _ _
  · refine Ends.done ?_
    exact Only.refl _ _
theorem only_execImageCheckComplete (written : Bool) (s : State) : Ends [.hw, .store] s (execImageCheckComplete written s) := by
  unfold execImageCheckComplete
  refine Ends.ite _ (fun _ => ?_) (fun _ => ?_)
  · refine Ends.done ?_
    exact Only.refl _ _
  · refine Ends.ite _ (fun _ => ?_) (fun _ => ?_)
    · refine Ends.done ?_
      refine Only.then ?_ (only_updHw ..) (by simp)
      exact Only.refl _ _
    · dsimp only
      refine Ends.done ?_
      refine Only.then ?_ (only_updHw ..) (by simp)
      refine Only.then ?_ (only_with_store ..) (by simp)
      exact Only.refl _ _
theorem only_execCfgsaveComplete (ok : Bool) (s : State) : Ends [.store, .sys] s (execCfgsaveComplete ok s) := by
  unfold execCfgsaveComplete
  refine Ends.ite _ (fun _ => ?_) (fun _ => ?_)
  · refine Ends.done ?_
    exact Only.refl _ _
  · refine Ends.ite _ (fun _ => ?_) (fun _ => ?_)
    · refine Ends.done ?_
      refine Only.then ?_ (only_updSys ..) (by simp)
      exact Only.refl _ _
    · dsimp only
      refine Ends.done ?_
      refine Only.then ?_ (only_updSys ..) (by simp)
      refine Only.then ?_ (only_with_store ..) (by simp)
      exact Only.refl _ _
theorem only_execKick (w : Word) (s : State) : Ends [.sys] s (execKick w s) := by
  unfold execKick
  refine Ends.ite _ (fun _ => ?_) (fun _ => ?_)
  · refine Ends.done ?_
    exact Only.refl _ _
  · refine Ends.ite _ (fun _ => ?_) (fun _ => ?_)
    · refine Ends.done ?_
      refine Only.then ?_ (only_updSys ..) (by simp)
      exact Only.refl _ _
    · refine Ends.ite _ (fun _ => ?_) (fun _ => ?_)
      · refine Ends.done ?_
        refine Only.then ?_ (only_updSys ..) (by simp)
        exact Only.refl _ _
      · refine Ends.done ?_
        refine Only.then ?_ (only_updSys ..) (by simp)
        exact Only.refl _ _
theorem only_execWatchdogExpiry (s : State) : Ends [.now, .stg, .flt, .hw, .sys, .ports] s (execWatchdogExpiry s) := by
  unfold execWatchdogExpiry
  refine Ends.ite _ (fun _ => ?_) (fun _ => ?_)
  · refine Ends.done ?_
    exact Only.refl _ _
  · dsimp only
    refine Ends.done ?_
    refine Only.then ?_ (only_tally ..) (by simp)
    refine Only.then ?_ (only_updSys ..) (by simp)
    refine Only.then ?_ (only_tryBundles ..) (by simp)
    refine Only.then ?_ (only_abandonBundles ..) (by simp)
    refine Only.then ?_ (only_endLoad ..) (by simp)
    refine Only.then ?_ (only_dropSession ..) (by simp)
    refine Only.then ?_ (only_failQueue ..) (by simp)
    refine Only.then ?_ (only_reach ..) (by simp)
    exact Only.refl _ _
theorem only_execCoreRelease (s : State) : Ends [.now, .sys] s (execCoreRelease s) := by
  unfold execCoreRelease
  refine Ends.ite _ (fun _ => ?_) (fun _ => ?_)
  · dsimp only
    refine Ends.done ?_
    refine Only.then ?_ (only_updSys ..) (by simp)
    refine Only.then ?_ (only_reach ..) (by simp)
    exact Only.refl _ _
  · refine Ends.done ?_
    exact Only.refl _ _
theorem only_execFirmwareReady (s : State) : Ends [.store, .sys] s (execFirmwareReady s) := by
  unfold execFirmwareReady
  refine Ends.ite _ (fun _ => ?_) (fun _ => ?_)
  · refine Ends.done ?_
    exact Only.refl _ _
  · refine Ends.ite _ (fun _ => ?_) (fun _ => ?_)
    · refine Ends.done ?_
      refine Only.then ?_ (only_cause ..) (by simp)
      refine Only.then ?_ (only_updSys ..) (by simp)
      refine Only.then ?_ (only_fwAccept ..) (by simp)
      exact Only.refl _ _
    · refine Ends.ite _ (fun _ => ?_) (fun _ => ?_)
      · refine Ends.done ?_
        refine Only.then ?_ (only_fwAccept ..) (by simp)
        exact Only.refl _ _
      · refine Ends.done ?_
        exact Only.refl _ _
theorem only_execLogEntry (m : LogMsg) (level : Fin 4) (narg : Fin 3) (s : State) : Ends [.log] s (execLogEntry m level narg s) := by
  unfold execLogEntry
  split
  · refine Ends.ite _ (fun _ => ?_) (fun _ => ?_)
    · refine Ends.done ?_
      refine Only.then ?_ (only_logW ..) (by simp)
      exact Only.refl _ _
    · refine Ends.done ?_
      exact Only.refl _ _
  · refine Ends.done ?_
    exact Only.refl _ _
theorem only_execTracePoint (p : TracePt) (s : State) : Ends [.log] s (execTracePoint p s) := by
  unfold execTracePoint
  dsimp only
  refine Ends.ite _ (fun _ => ?_) (fun _ => ?_)
  · refine Ends.done ?_
    refine Only.then ?_ (only_with_log ..) (by simp)
    exact Only.refl _ _
  · refine Ends.done ?_
    exact Only.refl _ _
theorem only_execEngineTimerTick (t : Nat) (s : State) : Ends [.now, .eng] s (execEngineTimerTick t s) := by
  unfold execEngineTimerTick
  dsimp only
  split
  · refine Ends.done ?_
    exact Only.refl _ _
  · refine Ends.ite _ (fun _ => ?_) (fun _ => ?_)
    · refine Ends.done ?_
      exact Only.refl _ _
    · refine Ends.done ?_
      refine Only.then ?_ (only_slotWrite ..) (by simp)
      refine Only.then ?_ (only_updEng ..) (by simp)
      refine Only.then ?_ (only_reach ..) (by simp)
      exact Only.refl _ _
theorem only_execDispatch (lane : Nat) (s : State) : Ends [.eng, .views, .sys] s (execDispatch lane s) := by
  unfold execDispatch
  dsimp only
  refine Ends.ite _ (fun _ => ?_) (fun _ => ?_)
  · split
    · refine Ends.done ?_
      refine Only.then ?_ (only_dispatchTo ..) (by simp)
      exact Only.refl _ _
    · refine Ends.done ?_
      exact Only.refl _ _
  · refine Ends.done ?_
    exact Only.refl _ _
theorem only_execRunLimit (lane : Nat) (s : State) : Ends [.now, .eng, .views, .flt] s (execRunLimit lane s) := by
  unfold execRunLimit
  split
  · refine Ends.done ?_
    exact Only.refl _ _
  · dsimp only
    refine Ends.ite _ (fun _ => ?_) (fun _ => ?_)
    · refine Ends.done ?_
      refine Only.then ?_ (only_endRun ..) (by simp)
      refine Only.then ?_ (only_loopFlag ..) (by simp)
      refine Only.then ?_ (only_reach ..) (by simp)
      exact Only.refl _ _
    · refine Ends.done ?_
      exact Only.refl _ _
theorem only_execSelfCheckDue (lane : Nat) (s : State) : Ends [.eng] s (execSelfCheckDue lane s) := by
  unfold execSelfCheckDue
  dsimp only
  refine Ends.ite _ (fun _ => ?_) (fun _ => ?_)
  · refine Ends.done ?_
    refine Only.then ?_ (only_updLane ..) (by simp)
    exact Only.refl _ _
  · refine Ends.done ?_
    exact Only.refl _ _
theorem only_execSelfCheckComplete (lane : Nat) (correct : Bool) (s : State) : Ends [.now, .eng, .flt] s (execSelfCheckComplete lane correct s) := by
  unfold execSelfCheckComplete
  dsimp only
  refine Ends.ite _ (fun _ => ?_) (fun _ => ?_)
  · refine Ends.done ?_
    exact Only.refl _ _
  · refine Ends.ite _ (fun _ => ?_) (fun _ => ?_)
    · refine Ends.done ?_
      refine Only.then ?_ (only_updLane ..) (by simp)
      refine Only.then ?_ (only_reach ..) (by simp)
      exact Only.refl _ _
    · refine Ends.ite _ (fun _ => ?_) (fun _ => ?_)
      · refine Ends.done ?_
        refine Only.then ?_ (only_updLane ..) (by simp)
        refine Only.then ?_ (only_reach ..) (by simp)
        exact Only.refl _ _
      · split
        · refine Ends.done ?_
          refine Only.then ?_ (only_admitLane ..) (by simp)
          refine Only.then ?_ (only_tally ..) (by simp)
          refine Only.then ?_ (only_updLane ..) (by simp)
          refine Only.trans ?_ (Only.foldl _ (fun s a => ?_) _ _)
          · refine Only.then ?_ (only_reach ..) (by simp)
            exact Only.refl _ _
          · refine Only.then ?_ (only_loopFlag ..) (by simp)
            exact Only.refl _ _
        · refine Ends.done ?_
          refine Only.then ?_ (only_tally ..) (by simp)
          refine Only.then ?_ (only_updLane ..) (by simp)
          refine Only.trans ?_ (Only.foldl _ (fun s a => ?_) _ _)
          · refine Only.then ?_ (only_reach ..) (by simp)
            exact Only.refl _ _
          · refine Only.then ?_ (only_loopFlag ..) (by simp)
            exact Only.refl _ _
theorem only_execLaneRegisterError (lane : Nat) (s : State) : Ends [.eng, .views, .flt] s (execLaneRegisterError lane s) := by
  unfold execLaneRegisterError
  split
  · refine Ends.done ?_
    exact Only.refl _ _
  · dsimp only
    refine Ends.done ?_
    refine Only.then ?_ (only_updLane ..) (by simp)
    refine Only.then ?_ (only_loopFlag ..) (by simp)
    refine Only.then ?_ (only_updLdyn ..) (by simp)
    refine Only.then ?_ (only_freeLane ..) (by simp)
    exact Only.refl _ _
theorem only_execRetest (s : State) : Ends [.epoch, .free, .nodes, .links, .pans, .eng, .com, .safe, .views, .regs, .conv, .stg, .tel, .bud, .shim, .led, .tide, .flt, .hw, .log, .store, .sys, .ports] s (execRetest s) := by
  unfold execRetest
  refine Ends.done ?_
  refine Only.then ?_ (only_hostCmd ..) (by simp)
  exact Only.refl _ _
theorem only_execRetestComplete (lane : Nat) (allCorrect : Bool) (s : State) : Ends [.now, .eng] s (execRetestComplete lane allCorrect s) := by
  unfold execRetestComplete
  dsimp only
  refine Ends.ite _ (fun _ => ?_) (fun _ => ?_)
  · refine Ends.done ?_
    exact Only.refl _ _
  · refine Ends.done ?_
    refine Only.then ?_ (only_updLane ..) (by simp)
    refine Only.then ?_ (only_reach ..) (by simp)
    exact Only.refl _ _
theorem only_execScrubError (m : EngMem) (addr : Nat) (double : Bool) (s : State) : Ends [.eng, .views, .flt] s (execScrubError m addr double s) := by
  unfold execScrubError
  refine Ends.ite _ (fun _ => ?_) (fun _ => ?_)
  · refine Ends.done ?_
    exact Only.refl _ _
  · split
    · refine Ends.done ?_
      exact Only.refl _ _
    · dsimp only
      split
      · refine Ends.done ?_
        refine Only.then ?_ (only_loopFlag ..) (by simp)
        refine Only.then ?_ (only_updEng ..) (by simp)
        exact Only.refl _ _
      · refine Ends.done ?_
        refine Only.then ?_ (only_updEng ..) (by simp)
        exact Only.refl _ _
    · refine Ends.ite _ (fun _ => ?_) (fun _ => ?_)
      · refine Ends.done ?_
        exact Only.refl _ _
      · dsimp only
        refine Ends.done ?_
        refine Only.trans ?_ (Only.foldl _ (fun s a => ?_) _ _)
        · refine Only.then ?_ (only_updEng ..) (by simp)
          exact Only.refl _ _
        · split
          · refine Only.ite _ (fun _ => ?_) (fun _ => ?_)
            · refine Only.then ?_ (only_abortRun ..) (by simp)
              exact Only.refl _ _
            · exact Only.refl _ _
          · exact Only.refl _ _
theorem only_execInstructionRewrite (addr : Nat) (s : State) : Ends [.eng] s (execInstructionRewrite addr s) := by
  unfold execInstructionRewrite
  refine Ends.ite _ (fun _ => ?_) (fun _ => ?_)
  · refine Ends.done ?_
    refine Only.then ?_ (only_updEng ..) (by simp)
    exact Only.refl _ _
  · refine Ends.done ?_
    exact Only.refl _ _
theorem only_execSlotStale (slot : Nat) (s : State) : Ends [.now, .eng] s (execSlotStale slot s) := by
  unfold execSlotStale
  dsimp only
  refine Ends.ite _ (fun _ => ?_) (fun _ => ?_)
  · refine Ends.done ?_
    exact Only.refl _ _
  · refine Ends.done ?_
    refine Only.then ?_ (only_updEng ..) (by simp)
    refine Only.then ?_ (only_reach ..) (by simp)
    exact Only.refl _ _
theorem only_execPage (v : Byte) (s : State) : Ends [.free, .ports] s (execPage v s) := by
  unfold execPage
  refine Ends.ite _ (fun _ => ?_) (fun _ => ?_)
  · refine Ends.done ?_
    refine Only.then ?_ (only_updPorts ..) (by simp)
    refine Only.then ?_ (only_pmbTouch ..) (by simp)
    exact Only.refl _ _
  · refine Ends.done ?_
    refine Only.then ?_ (only_updPorts ..) (by simp)
    refine Only.then ?_ (only_pmbTouch ..) (by simp)
    exact Only.refl _ _
theorem only_execClearFaults (s : State) : Ends [.free, .ports] s (execClearFaults s) := by
  unfold execClearFaults
  refine Ends.done ?_
  refine Only.then ?_ (only_updPorts ..) (by simp)
  refine Only.then ?_ (only_pmbTouch ..) (by simp)
  exact Only.refl _ _
theorem only_execCapability (s : State) : Ends [.free, .ports] s (execCapability s) := by
  unfold execCapability
  refine Ends.done ?_
  refine Only.then ?_ (only_pmbAnswer ..) (by simp)
  exact Only.refl _ _
theorem only_execVoutMode (s : State) : Ends [.free, .ports] s (execVoutMode s) := by
  unfold execVoutMode
  refine Ends.done ?_
  refine Only.then ?_ (only_onRails ..) (by simp)
  exact Only.refl _ _
theorem only_execStatusByte (s : State) : Ends [.free, .ports] s (execStatusByte s) := by
  unfold execStatusByte
  refine Ends.done ?_
  refine Only.then ?_ (only_pmbAnswer ..) (by simp)
  exact Only.refl _ _
theorem only_execStatusWord (s : State) : Ends [.free, .ports] s (execStatusWord s) := by
  unfold execStatusWord
  refine Ends.done ?_
  refine Only.then ?_ (only_pmbAnswer ..) (by simp)
  exact Only.refl _ _
theorem only_execStatusVout (s : State) : Ends [.free, .ports] s (execStatusVout s) := by
  unfold execStatusVout
  refine Ends.done ?_
  refine Only.then ?_ (only_pmbAnswer ..) (by simp)
  exact Only.refl _ _
theorem only_execStatusIout (s : State) : Ends [.free, .ports] s (execStatusIout s) := by
  unfold execStatusIout
  refine Ends.done ?_
  refine Only.then ?_ (only_pmbAnswer ..) (by simp)
  exact Only.refl _ _
theorem only_execStatusInput (s : State) : Ends [.free, .ports] s (execStatusInput s) := by
  unfold execStatusInput
  refine Ends.done ?_
  refine Only.then ?_ (only_pmbAnswer ..) (by simp)
  exact Only.refl _ _
theorem only_execStatusTemperature (s : State) : Ends [.free, .ports] s (execStatusTemperature s) := by
  unfold execStatusTemperature
  refine Ends.done ?_
  refine Only.then ?_ (only_pmbAnswer ..) (by simp)
  exact Only.refl _ _
theorem only_execReadVin (s : State) : Ends [.free, .ports] s (execReadVin s) := by
  unfold execReadVin
  refine Ends.done ?_
  refine Only.then ?_ (only_onInput ..) (by simp)
  exact Only.refl _ _
theorem only_execReadIin (s : State) : Ends [.free, .ports] s (execReadIin s) := by
  unfold execReadIin
  refine Ends.done ?_
  refine Only.then ?_ (only_onInput ..) (by simp)
  exact Only.refl _ _
theorem only_execReadVout (s : State) : Ends [.free, .ports] s (execReadVout s) := by
  unfold execReadVout
  refine Ends.done ?_
  refine Only.then ?_ (only_onRails ..) (by simp)
  exact Only.refl _ _
theorem only_execReadIout (s : State) : Ends [.free, .ports] s (execReadIout s) := by
  unfold execReadIout
  refine Ends.done ?_
  refine Only.then ?_ (only_onRails ..) (by simp)
  exact Only.refl _ _
theorem only_execReadTemperature1 (s : State) : Ends [.free, .ports] s (execReadTemperature1 s) := by
  unfold execReadTemperature1
  refine Ends.done ?_
  refine Only.then ?_ (only_onInput ..) (by simp)
  exact Only.refl _ _
theorem only_execReadPout (s : State) : Ends [.free, .ports] s (execReadPout s) := by
  unfold execReadPout
  refine Ends.done ?_
  refine Only.then ?_ (only_onRails ..) (by simp)
  exact Only.refl _ _
theorem only_execReadPin (s : State) : Ends [.free, .ports] s (execReadPin s) := by
  unfold execReadPin
  refine Ends.done ?_
  refine Only.then ?_ (only_onInput ..) (by simp)
  exact Only.refl _ _
theorem only_execPmbusRevision (s : State) : Ends [.free, .ports] s (execPmbusRevision s) := by
  unfold execPmbusRevision
  refine Ends.done ?_
  refine Only.then ?_ (only_pmbAnswer ..) (by simp)
  exact Only.refl _ _
theorem only_execPmbusOtherWrite (code : Byte) (s : State) : Ends [.free, .ports] s (execPmbusOtherWrite code s) := by
  unfold execPmbusOtherWrite
  refine Ends.ite _ (fun _ => ?_) (fun _ => ?_)
  · refine Ends.done ?_
    refine Only.then ?_ (only_pmbTouch ..) (by simp)
    exact Only.refl _ _
  · refine Ends.done ?_
    refine Only.then ?_ (only_updPorts ..) (by simp)
    refine Only.then ?_ (only_pmbTouch ..) (by simp)
    exact Only.refl _ _
theorem only_execAlertResponse (s : State) : Ends [.free, .ports] s (execAlertResponse s) := by
  unfold execAlertResponse
  refine Ends.done ?_
  refine Only.then ?_ (only_updPorts ..) (by simp)
  refine Only.then ?_ (only_pmbTouch ..) (by simp)
  exact Only.refl _ _
theorem only_execAvsbusPoll (s : State) : Ends [.now, .ports] s (execAvsbusPoll s) := by
  unfold execAvsbusPoll
  refine Ends.ite _ (fun _ => ?_) (fun _ => ?_)
  · dsimp only
    refine Ends.done ?_
    refine Only.then ?_ (only_updPorts ..) (by simp)
    refine Only.then ?_ (only_reach ..) (by simp)
    exact Only.refl _ _
  · refine Ends.done ?_
    exact Only.refl _ _
theorem only_execAvsbusReply (kind : Fin 3) (data : BitVec 16) (crcOk : Bool) (s : State) : Ends [.ports] s (execAvsbusReply kind data crcOk s) := by
  unfold execAvsbusReply
  refine Ends.ite _ (fun _ => ?_) (fun _ => ?_)
  · refine Ends.ite _ (fun _ => ?_) (fun _ => ?_)
    · refine Ends.done ?_
      refine Only.then ?_ (only_updPorts ..) (by simp)
      exact Only.refl _ _
    · refine Ends.done ?_
      refine Only.then ?_ (only_updPorts ..) (by simp)
      exact Only.refl _ _
  · refine Ends.ite _ (fun _ => ?_) (fun _ => ?_)
    · refine Ends.done ?_
      refine Only.then ?_ (only_updPorts ..) (by simp)
      exact Only.refl _ _
    · refine Ends.done ?_
      exact Only.refl _ _
theorem only_execDynamicAddressAssigned (addr : BitVec 7) (s : State) : Ends [.ports] s (execDynamicAddressAssigned addr s) := by
  unfold execDynamicAddressAssigned
  refine Ends.done ?_
  refine Only.then ?_ (only_updPorts ..) (by simp)
  exact Only.refl _ _
theorem only_execTver (data : List Byte) (s : State) : Ends [.ports] s (execTver data s) := by
  unfold execTver
  split
  · refine Ends.ite _ (fun _ => ?_) (fun _ => ?_)
    · refine Ends.done ?_
      refine Only.then ?_ (only_updPorts ..) (by simp)
      exact Only.refl _ _
    · refine Ends.done ?_
      exact Only.refl _ _
  · refine Ends.done ?_
    exact Only.refl _ _
theorem only_execInlet (data : List Byte) (s : State) : Ends [.eng, .ports] s (execInlet data s) := by
  unfold execInlet
  split
  · refine Ends.ite _ (fun _ => ?_) (fun _ => ?_)
    · dsimp only
      refine Ends.done ?_
      refine Only.ite _ (fun _ => ?_) (fun _ => ?_)
      · refine Only.then ?_ (only_fwPlace ..) (by simp)
        refine Only.then ?_ (only_updPorts ..) (by simp)
        exact Only.refl _ _
      · refine Only.then ?_ (only_updPorts ..) (by simp)
        exact Only.refl _ _
    · refine Ends.done ?_
      exact Only.refl _ _
  · refine Ends.done ?_
    exact Only.refl _ _
theorem only_execTceil (data : List Byte) (s : State) : Ends [.ports] s (execTceil data s) := by
  unfold execTceil
  split
  · refine Ends.ite _ (fun _ => ?_) (fun _ => ?_)
    · refine Ends.done ?_
      refine Only.then ?_ (only_updPorts ..) (by simp)
      exact Only.refl _ _
    · refine Ends.done ?_
      exact Only.refl _ _
  · refine Ends.done ?_
    exact Only.refl _ _
theorem only_execTrayState (s : State) : Ends [.ports] s (execTrayState s) := by
  unfold execTrayState
  refine Ends.ite _ (fun _ => ?_) (fun _ => ?_)
  · refine Ends.done ?_
    refine Only.then ?_ (only_updPorts ..) (by simp)
    exact Only.refl _ _
  · refine Ends.done ?_
    exact Only.refl _ _
theorem only_execTrayCap (s : State) : Ends [.ports] s (execTrayCap s) := by
  unfold execTrayCap
  refine Ends.ite _ (fun _ => ?_) (fun _ => ?_)
  · refine Ends.done ?_
    refine Only.then ?_ (only_updPorts ..) (by simp)
    exact Only.refl _ _
  · refine Ends.done ?_
    exact Only.refl _ _
theorem only_execPdel (s : State) : Ends [.ports] s (execPdel s) := by
  unfold execPdel
  refine Ends.ite _ (fun _ => ?_) (fun _ => ?_)
  · refine Ends.done ?_
    refine Only.then ?_ (only_updPorts ..) (by simp)
    exact Only.refl _ _
  · refine Ends.done ?_
    exact Only.refl _ _
theorem only_execTryFlowChange (level : Bool) (s : State) : Ends [.ports] s (execTryFlowChange level s) := by
  unfold execTryFlowChange
  refine Ends.ite _ (fun _ => ?_) (fun _ => ?_)
  · refine Ends.done ?_
    exact Only.refl _ _
  · refine Ends.done ?_
    refine Only.then ?_ (only_updPorts ..) (by simp)
    exact Only.refl _ _
theorem only_execPresenceTimer (s : State) : Ends [.now, .ports] s (execPresenceTimer s) := by
  unfold execPresenceTimer
  dsimp only
  refine Ends.done ?_
  refine Only.then ?_ (only_dvtSendAll ..) (by simp)
  refine Only.then ?_ (only_updPorts ..) (by simp)
  refine Only.then ?_ (only_reach ..) (by simp)
  exact Only.refl _ _
theorem only_execPresence (port : Nat) (origin : Nat) (die : Nat) (group : Nat) (s : State) : Ends [.ports] s (execPresence port origin die group s) := by
  unfold execPresence
  split
  refine Ends.ite _ (fun _ => ?_) (fun _ => ?_)
  · dsimp only
    refine Ends.done ?_
    refine Only.then ?_ (only_updPorts ..) (by simp)
    refine Only.then ?_ (only_updDvt ..) (by simp)
    refine Only.then ?_ (only_dvtHeard ..) (by simp)
    exact Only.refl _ _
  · refine Ends.done ?_
    exact Only.refl _ _
theorem only_execDvtTideFrame (port : Nat) (bytes : List Byte) (s : State) : Ends [.stg, .tide, .flt, .ports] s (execDvtTideFrame port bytes s) := by
  unfold execDvtTideFrame
  refine Ends.ite _ (fun _ => ?_) (fun _ => ?_)
  · refine Ends.done ?_
    exact Only.refl _ _
  · dsimp only
    refine Ends.ite _ (fun _ => ?_) (fun _ => ?_)
    · refine Ends.done ?_
      refine Only.then ?_ (only_recvBytes ..) (by simp)
      refine Only.then ?_ (only_dvtHeard ..) (by simp)
      exact Only.refl _ _
    · split
      · refine Ends.done ?_
        refine Only.then ?_ (only_updDvt ..) (by simp)
        refine Only.then ?_ (only_dvtHeard ..) (by simp)
        exact Only.refl _ _
      · refine Ends.done ?_
        refine Only.then ?_ (only_dvtHeard ..) (by simp)
        exact Only.refl _ _
theorem only_execDvtShimOnset (port : Nat) (origin : Nat) (hop : Nat) (s : State) : Ends [.shim, .ports] s (execDvtShimOnset port origin hop s) := by
  unfold execDvtShimOnset
  refine Ends.ite _ (fun _ => ?_) (fun _ => ?_)
  · refine Ends.done ?_
    exact Only.refl _ _
  · dsimp only
    refine Ends.ite _ (fun _ => ?_) (fun _ => ?_)
    · refine Ends.done ?_
      refine Only.then ?_ (only_dvtHeard ..) (by simp)
      exact Only.refl _ _
    · refine Ends.ite _ (fun _ => ?_) (fun _ => ?_)
      · refine Ends.done ?_
        refine Only.then ?_ (only_updShim ..) (by simp)
        refine Only.then ?_ (only_dvtHeard ..) (by simp)
        exact Only.refl _ _
      · refine Ends.done ?_
        refine Only.then ?_ (only_dvtSendAll ..) (by simp)
        refine Only.then ?_ (only_updPorts ..) (by simp)
        refine Only.then ?_ (only_updShim ..) (by simp)
        refine Only.then ?_ (only_dvtHeard ..) (by simp)
        exact Only.refl _ _
theorem only_execDroopAlert (port : Nat) (origin : Nat) (s : State) : Ends [.ports] s (execDroopAlert port origin s) := by
  unfold execDroopAlert
  refine Ends.ite _ (fun _ => ?_) (fun _ => ?_)
  · refine Ends.done ?_
    exact Only.refl _ _
  · dsimp only
    refine Ends.ite _ (fun _ => ?_) (fun _ => ?_)
    · refine Ends.done ?_
      refine Only.then ?_ (only_updPorts ..) (by simp)
      exact Only.refl _ _
    · refine Ends.done ?_
      refine Only.then ?_ (only_dvtSendAll ..) (by simp)
      refine Only.then ?_ (only_updPorts ..) (by simp)
      refine Only.then ?_ (only_updPorts ..) (by simp)
      exact Only.refl _ _
theorem only_execPeerdroopExpiry (s : State) : Ends [.now, .ports] s (execPeerdroopExpiry s) := by
  unfold execPeerdroopExpiry
  split
  · refine Ends.done ?_
    refine Only.then ?_ (only_updPorts ..) (by simp)
    refine Only.then ?_ (only_reach ..) (by simp)
    exact Only.refl _ _
  · refine Ends.done ?_
    exact Only.refl _ _
theorem only_execDvtFrameCrcError (port : Nat) (s : State) : Ends [.ports] s (execDvtFrameCrcError port s) := by
  unfold execDvtFrameCrcError
  refine Ends.ite _ (fun _ => ?_) (fun _ => ?_)
  · refine Ends.done ?_
    refine Only.then ?_ (only_updDvt ..) (by simp)
    exact Only.refl _ _
  · refine Ends.done ?_
    exact Only.refl _ _
theorem only_execDvtLinkDown (port : Nat) (s : State) : Ends [.now, .ports] s (execDvtLinkDown port s) := by
  unfold execDvtLinkDown
  refine Ends.ite _ (fun _ => ?_) (fun _ => ?_)
  · dsimp only
    refine Ends.done ?_
    refine Only.then ?_ (only_updDvt ..) (by simp)
    refine Only.then ?_ (only_reach ..) (by simp)
    exact Only.refl _ _
  · refine Ends.done ?_
    exact Only.refl _ _
theorem only_execDvtLockTimeout (port : Nat) (s : State) : Ends [.now, .ports] s (execDvtLockTimeout port s) := by
  unfold execDvtLockTimeout
  refine Ends.ite _ (fun _ => ?_) (fun _ => ?_)
  · dsimp only
    refine Ends.done ?_
    refine Only.then ?_ (only_updDvt ..) (by simp)
    refine Only.then ?_ (only_reach ..) (by simp)
    exact Only.refl _ _
  · refine Ends.done ?_
    exact Only.refl _ _
theorem only_execDvtRetrain (port : Nat) (s : State) : Ends [.now, .ports] s (execDvtRetrain port s) := by
  unfold execDvtRetrain
  refine Ends.ite _ (fun _ => ?_) (fun _ => ?_)
  · dsimp only
    refine Ends.done ?_
    refine Only.then ?_ (only_updDvt ..) (by simp)
    refine Only.then ?_ (only_reach ..) (by simp)
    exact Only.refl _ _
  · refine Ends.done ?_
    exact Only.refl _ _
theorem only_execDvtTraining (port : Nat) (cap : Byte) (s : State) : Ends [.ports] s (execDvtTraining port cap s) := by
  unfold execDvtTraining
  refine Ends.ite _ (fun _ => ?_) (fun _ => ?_)
  · dsimp only
    refine Ends.done ?_
    refine Only.then ?_ (only_updDvt ..) (by simp)
    exact Only.refl _ _
  · refine Ends.done ?_
    exact Only.refl _ _
theorem only_execDvtLock (port : Nat) (s : State) : Ends [.ports] s (execDvtLock port s) := by
  unfold execDvtLock
  refine Ends.ite _ (fun _ => ?_) (fun _ => ?_)
  · refine Ends.done ?_
    refine Only.then ?_ (only_updDvt ..) (by simp)
    exact Only.refl _ _
  · refine Ends.done ?_
    exact Only.refl _ _
theorem only_execFabFrame (bytes : List Byte) (s : State) : Ends [.stg, .tide, .flt, .ports] s (execFabFrame bytes s) := by
  unfold execFabFrame
  refine Ends.done ?_
  refine Only.then ?_ (only_recvBytes ..) (by simp)
  exact Only.refl _ _
theorem only_execFabUpChange (level : Bool) (s : State) : Ends [.ports] s (execFabUpChange level s) := by
  unfold execFabUpChange
  refine Ends.done ?_
  refine Only.then ?_ (only_updPorts ..) (by simp)
  exact Only.refl _ _
theorem only_execTapInstructionLoad (ir : Nat) (s : State) : Ends [.free, .ports] s (execTapInstructionLoad ir s) := by
  unfold execTapInstructionLoad
  dsimp only
  refine Ends.done ?_
  refine Only.ite _ (fun _ => ?_) (fun _ => ?_)
  · refine Only.then ?_ (only_dbgDraw ..) (by simp)
    refine Only.then ?_ (only_updPorts ..) (by simp)
    exact Only.refl _ _
  · refine Only.then ?_ (only_updPorts ..) (by simp)
    exact Only.refl _ _
theorem only_execDbgMakerChallenge (rs : BitVec 768) (s : State) : Ends [.free, .ports] s (execDbgMakerChallenge rs s) := by
  unfold execDbgMakerChallenge
  refine Ends.ite _ (fun _ => ?_) (fun _ => ?_)
  · refine Ends.done ?_
    exact Only.refl _ _
  · refine Ends.done ?_
    refine Only.then ?_ (only_dbgDraw ..) (by simp)
    refine Only.then ?_ (only_updPorts ..) (by simp)
    exact Only.refl _ _
theorem only_execDbgTrstN (s : State) : Ends [.ports] s (execDbgTrstN s) := by
  unfold execDbgTrstN
  refine Ends.done ?_
  refine Only.then ?_ (only_updPorts ..) (by simp)
  exact Only.refl _ _
theorem only_execDbgStoreWrite (area : Nat) (words : List Word) (s : State) : Ends [.store] s (execDbgStoreWrite area words s) := by
  unfold execDbgStoreWrite
  refine Ends.ite _ (fun _ => ?_) (fun _ => ?_)
  · refine Ends.done ?_
    refine Only.then ?_ (only_with_store ..) (by simp)
    exact Only.refl _ _
  · refine Ends.done ?_
    exact Only.refl _ _
theorem only_execSlewStep (k : SlewRef) (s : State) : Ends [.now, .links, .pans, .conv] s (execSlewStep k s) := by
  unfold execSlewStep
  split
  · refine Ends.ite _ (fun _ => ?_) (fun _ => ?_)
    · refine Ends.done ?_
      exact Only.refl _ _
    · refine Ends.done ?_
      refine Only.then ?_ (only_stepPanSet ..) (by simp)
      exact Only.refl _ _
  · refine Ends.done ?_
    refine Only.then ?_ (only_stepPanOff ..) (by simp)
    exact Only.refl _ _
  · refine Ends.done ?_
    refine Only.then ?_ (only_stepRailSet ..) (by simp)
    exact Only.refl _ _
  · refine Ends.done ?_
    refine Only.then ?_ (only_stepRailOff ..) (by simp)
    exact Only.refl _ _
theorem only_execCotComparatorFire (n : Nat) (vibs : Nat) (v : Nat) (ramp : Nat) (iOther : Int) (s : State) : Ends [.now, .pans] s (execCotComparatorFire n vibs v ramp iOther s) := by
  unfold execCotComparatorFire
  dsimp only
  refine Ends.ite _ (fun _ => ?_) (fun _ => ?_)
  · refine Ends.done ?_
    refine Only.then ?_ (only_updPan ..) (by simp)
    refine Only.then ?_ (only_reach ..) (by simp)
    exact Only.refl _ _
  · refine Ends.done ?_
    exact Only.refl _ _
theorem only_execVoltageModePeriod (n : Nat) (p : Phase2) (vibs : Nat) (s : State) : Ends [.now, .free, .pans] s (execVoltageModePeriod n p vibs s) := by
  unfold execVoltageModePeriod
  dsimp only
  refine Ends.ite _ (fun _ => ?_) (fun _ => ?_)
  · refine Ends.done ?_
    refine Only.then ?_ (only_draw ..) (by simp)
    refine Only.then ?_ (only_updPan ..) (by simp)
    refine Only.then ?_ (only_reach ..) (by simp)
    exact Only.refl _ _
  · refine Ends.done ?_
    exact Only.refl _ _
theorem only_execFrequencyLockUpdate (n : Nat) (s : State) : Ends [.free, .pans] s (execFrequencyLockUpdate n s) := by
  unfold execFrequencyLockUpdate
  dsimp only
  refine Ends.ite _ (fun _ => ?_) (fun _ => ?_)
  · refine Ends.done ?_
    refine Only.then ?_ (only_draw ..) (by simp)
    refine Only.then ?_ (only_updPan ..) (by simp)
    exact Only.refl _ _
  · refine Ends.done ?_
    exact Only.refl _ _
theorem only_execPeakLimitReached (n : Nat) (p : Phase2) (cur : Nat) (s : State) : Ends [.links, .pans] s (execPeakLimitReached n p cur s) := by
  unfold execPeakLimitReached
  dsimp only
  refine Ends.ite _ (fun _ => ?_) (fun _ => ?_)
  · refine Ends.done ?_
    refine Only.then ?_ (only_panEvent ..) (by simp)
    refine Only.then ?_ (only_updPan ..) (by simp)
    exact Only.refl _ _
  · refine Ends.done ?_
    exact Only.refl _ _
theorem only_execExcursionStart (n : Nat) (i : Nat) (s : State) : Ends [.pans] s (execExcursionStart n i s) := by
  unfold execExcursionStart
  dsimp only
  refine Ends.ite _ (fun _ => ?_) (fun _ => ?_)
  · refine Ends.done ?_
    refine Only.then ?_ (only_updPan ..) (by simp)
    exact Only.refl _ _
  · refine Ends.done ?_
    exact Only.refl _ _
theorem only_execExcursionEnd (n : Nat) (i : Nat) (s : State) : Ends [.pans] s (execExcursionEnd n i s) := by
  unfold execExcursionEnd
  dsimp only
  refine Ends.ite _ (fun _ => ?_) (fun _ => ?_)
  · refine Ends.done ?_
    refine Only.then ?_ (only_updPan ..) (by simp)
    exact Only.refl _ _
  · refine Ends.done ?_
    exact Only.refl _ _
theorem only_execExcursionLimit (n : Nat) (cur : Nat) (s : State) : Ends [.now, .free, .links, .pans] s (execExcursionLimit n cur s) := by
  unfold execExcursionLimit
  dsimp only
  refine Ends.ite _ (fun _ => ?_) (fun _ => ?_)
  · refine Ends.done ?_
    refine Only.then ?_ (only_panEvent ..) (by simp)
    refine Only.then ?_ (only_draw ..) (by simp)
    refine Only.then ?_ (only_updPan ..) (by simp)
    refine Only.ite _ (fun _ => ?_) (fun _ => ?_)
    · exact Only.refl _ _
    · refine Only.then ?_ (only_reach ..) (by simp)
      exact Only.refl _ _
  · refine Ends.done ?_
    exact Only.refl _ _
theorem only_execExcursionHoldoffExpiry (n : Nat) (s : State) : Ends [.now, .pans] s (execExcursionHoldoffExpiry n s) := by
  unfold execExcursionHoldoffExpiry
  dsimp only
  refine Ends.ite _ (fun _ => ?_) (fun _ => ?_)
  · refine Ends.done ?_
    refine Only.then ?_ (only_updPan ..) (by simp)
    refine Only.then ?_ (only_reach ..) (by simp)
    exact Only.refl _ _
  · refine Ends.done ?_
    exact Only.refl _ _
theorem only_execDeEntry (n : Nat) (mean : Nat) (s : State) : Ends [.pans] s (execDeEntry n mean s) := by
  unfold execDeEntry
  dsimp only
  refine Ends.ite _ (fun _ => ?_) (fun _ => ?_)
  · refine Ends.done ?_
    refine Only.then ?_ (only_updPan ..) (by simp)
    exact Only.refl _ _
  · refine Ends.done ?_
    exact Only.refl _ _
theorem only_execDeExitMean (n : Nat) (mean : Nat) (s : State) : Ends [.pans] s (execDeExitMean n mean s) := by
  unfold execDeExitMean
  refine Ends.ite _ (fun _ => ?_) (fun _ => ?_)
  · refine Ends.done ?_
    refine Only.then ?_ (only_updPan ..) (by simp)
    exact Only.refl _ _
  · refine Ends.done ?_
    exact Only.refl _ _
theorem only_execBalanceUpdate (n : Nat) (ia : Int) (ib : Int) (s : State) : Ends [.pans] s (execBalanceUpdate n ia ib s) := by
  unfold execBalanceUpdate
  dsimp only
  refine Ends.ite _ (fun _ => ?_) (fun _ => ?_)
  · refine Ends.done ?_
    refine Only.then ?_ (only_updPan ..) (by simp)
    exact Only.refl _ _
  · refine Ends.done ?_
    exact Only.refl _ _
theorem only_execBalanceTrimSaturated (n : Nat) (p : Phase2) (s : State) : Ends [.links, .pans] s (execBalanceTrimSaturated n p s) := by
  unfold execBalanceTrimSaturated
  split
  · refine Ends.ite _ (fun _ => ?_) (fun _ => ?_)
    · refine Ends.done ?_
      refine Only.then ?_ (only_panEvent ..) (by simp)
      exact Only.refl _ _
    · refine Ends.done ?_
      exact Only.refl _ _
  · refine Ends.ite _ (fun _ => ?_) (fun _ => ?_)
    · refine Ends.done ?_
      refine Only.then ?_ (only_panEvent ..) (by simp)
      exact Only.refl _ _
    · refine Ends.done ?_
      exact Only.refl _ _
theorem only_execShareTrimUpdate (n : Nat) (mean : Nat) (s : State) : Ends [.pans] s (execShareTrimUpdate n mean s) := by
  unfold execShareTrimUpdate
  dsimp only
  refine Ends.ite _ (fun _ => ?_) (fun _ => ?_)
  · refine Ends.done ?_
    refine Only.then ?_ (only_updPan ..) (by simp)
    exact Only.refl _ _
  · refine Ends.done ?_
    exact Only.refl _ _
theorem only_execDroopCrossing (n : Nat) (v : Nat) (s : State) : Ends [.pans] s (execDroopCrossing n v s) := by
  unfold execDroopCrossing
  dsimp only
  refine Ends.ite _ (fun _ => ?_) (fun _ => ?_)
  · refine Ends.done ?_
    refine Only.then ?_ (only_updPan ..) (by simp)
    exact Only.refl _ _
  · refine Ends.done ?_
    exact Only.refl _ _
theorem only_execBoostRecovery (n : Nat) (v : Nat) (ns : Nat) (s : State) : Ends [.pans] s (execBoostRecovery n v ns s) := by
  unfold execBoostRecovery
  dsimp only
  refine Ends.ite _ (fun _ => ?_) (fun _ => ?_)
  · refine Ends.done ?_
    refine Only.then ?_ (only_updPan ..) (by simp)
    exact Only.refl _ _
  · refine Ends.done ?_
    exact Only.refl _ _
theorem only_execBoostConductionLimit (n : Nat) (s : State) : Ends [.now, .links, .pans] s (execBoostConductionLimit n s) := by
  unfold execBoostConductionLimit
  dsimp only
  refine Ends.ite _ (fun _ => ?_) (fun _ => ?_)
  · refine Ends.done ?_
    refine Only.then ?_ (only_panEvent ..) (by simp)
    refine Only.then ?_ (only_updPan ..) (by simp)
    refine Only.then ?_ (only_reach ..) (by simp)
    exact Only.refl _ _
  · refine Ends.done ?_
    exact Only.refl _ _
theorem only_execBoostCountUsed (n : Nat) (s : State) : Ends [.links, .pans] s (execBoostCountUsed n s) := by
  unfold execBoostCountUsed
  dsimp only
  refine Ends.ite _ (fun _ => ?_) (fun _ => ?_)
  · refine Ends.done ?_
    refine Only.then ?_ (only_panEvent ..) (by simp)
    exact Only.refl _ _
  · refine Ends.done ?_
    exact Only.refl _ _
theorem only_execOvershootCrossing (n : Nat) (v : Nat) (s : State) : Ends [.pans] s (execOvershootCrossing n v s) := by
  unfold execOvershootCrossing
  dsimp only
  refine Ends.ite _ (fun _ => ?_) (fun _ => ?_)
  · refine Ends.done ?_
    refine Only.then ?_ (only_updPan ..) (by simp)
    exact Only.refl _ _
  · refine Ends.done ?_
    exact Only.refl _ _
theorem only_execShuntRecovery (n : Nat) (v : Nat) (s : State) : Ends [.pans] s (execShuntRecovery n v s) := by
  unfold execShuntRecovery
  dsimp only
  refine Ends.ite _ (fun _ => ?_) (fun _ => ?_)
  · refine Ends.done ?_
    refine Only.then ?_ (only_updPan ..) (by simp)
    exact Only.refl _ _
  · refine Ends.done ?_
    exact Only.refl _ _
theorem only_execShuntConductionLimit (n : Nat) (s : State) : Ends [.pans] s (execShuntConductionLimit n s) := by
  unfold execShuntConductionLimit
  refine Ends.ite _ (fun _ => ?_) (fun _ => ?_)
  · refine Ends.done ?_
    refine Only.then ?_ (only_updPan ..) (by simp)
    exact Only.refl _ _
  · refine Ends.done ?_
    exact Only.refl _ _
theorem only_execComparatorConflict (n : Nat) (s : State) : Ends [.links, .pans] s (execComparatorConflict n s) := by
  unfold execComparatorConflict
  dsimp only
  refine Ends.ite _ (fun _ => ?_) (fun _ => ?_)
  · refine Ends.done ?_
    refine Only.then ?_ (only_fallback ..) (by simp)
    refine Only.then ?_ (only_updPan ..) (by simp)
    exact Only.refl _ _
  · refine Ends.done ?_
    exact Only.refl _ _
theorem only_execSenseFallback (n : Nat) (rs : Nat) (vlo : Nat) (s : State) : Ends [.links, .pans] s (execSenseFallback n rs vlo s) := by
  unfold execSenseFallback
  refine Ends.ite _ (fun _ => ?_) (fun _ => ?_)
  · dsimp only
    refine Ends.ite _ (fun _ => ?_) (fun _ => ?_)
    · refine Ends.done ?_
      refine Only.then ?_ (only_fallback ..) (by simp)
      refine Only.then ?_ (only_updPan ..) (by simp)
      exact Only.refl _ _
    · refine Ends.done ?_
      refine Only.then ?_ (only_updPan ..) (by simp)
      exact Only.refl _ _
  · refine Ends.done ?_
    exact Only.refl _ _
theorem only_execSenseReturn (n : Nat) (s : State) : Ends [.now, .links, .pans] s (execSenseReturn n s) := by
  unfold execSenseReturn
  dsimp only
  refine Ends.ite _ (fun _ => ?_) (fun _ => ?_)
  · refine Ends.done ?_
    refine Only.then ?_ (only_panEvent ..) (by simp)
    refine Only.then ?_ (only_updPan ..) (by simp)
    refine Only.then ?_ (only_reach ..) (by simp)
    exact Only.refl _ _
  · refine Ends.done ?_
    exact Only.refl _ _
theorem only_execPanStageFault (n : Nat) (s : State) : Ends [.links, .pans] s (execPanStageFault n s) := by
  unfold execPanStageFault
  refine Ends.ite _ (fun _ => ?_) (fun _ => ?_)
  · dsimp only
    refine Ends.done ?_
    refine Only.then ?_ (only_panEvent ..) (by simp)
    refine Only.ite _ (fun _ => ?_) (fun _ => ?_)
    · refine Only.then ?_ (only_updPan ..) (by simp)
      refine Only.then ?_ (only_updPan ..) (by simp)
      exact Only.refl _ _
    · refine Only.then ?_ (only_updPan ..) (by simp)
      exact Only.refl _ _
  · refine Ends.done ?_
    exact Only.refl _ _
theorem only_execPanStageFaultClear (n : Nat) (s : State) : Ends [.links, .pans] s (execPanStageFaultClear n s) := by
  unfold execPanStageFaultClear
  refine Ends.ite _ (fun _ => ?_) (fun _ => ?_)
  · refine Ends.done ?_
    refine Only.then ?_ (only_panEvent ..) (by simp)
    refine Only.then ?_ (only_updPan ..) (by simp)
    exact Only.refl _ _
  · refine Ends.done ?_
    exact Only.refl _ _
theorem only_execPrebiasComplete (n : Nat) (s : State) : Ends [.now, .pans] s (execPrebiasComplete n s) := by
  unfold execPrebiasComplete
  dsimp only
  refine Ends.ite _ (fun _ => ?_) (fun _ => ?_)
  · refine Ends.done ?_
    refine Only.then ?_ (only_updPan ..) (by simp)
    refine Only.then ?_ (only_reach ..) (by simp)
    exact Only.refl _ _
  · refine Ends.done ?_
    exact Only.refl _ _
theorem only_execShadowRampStep (n : Nat) (s : State) : Ends [.now, .pans] s (execShadowRampStep n s) := by
  unfold execShadowRampStep
  dsimp only
  refine Ends.ite _ (fun _ => ?_) (fun _ => ?_)
  · refine Ends.done ?_
    refine Only.then ?_ (only_updPan ..) (by simp)
    refine Only.then ?_ (only_reach ..) (by simp)
    exact Only.refl _ _
  · refine Ends.done ?_
    exact Only.refl _ _
theorem only_execRampOutComplete (n : Nat) (s : State) : Ends [.now, .pans] s (execRampOutComplete n s) := by
  unfold execRampOutComplete
  dsimp only
  refine Ends.ite _ (fun _ => ?_) (fun _ => ?_)
  · refine Ends.done ?_
    refine Only.then ?_ (only_updPan ..) (by simp)
    refine Only.then ?_ (only_reach ..) (by simp)
    exact Only.refl _ _
  · refine Ends.done ?_
    exact Only.refl _ _
theorem only_execPanLoopWatchdogExpiry (n : Nat) (s : State) : Ends [.now, .links, .pans] s (execPanLoopWatchdogExpiry n s) := by
  unfold execPanLoopWatchdogExpiry
  dsimp only
  refine Ends.ite _ (fun _ => ?_) (fun _ => ?_)
  · refine Ends.done ?_
    refine Only.then ?_ (only_enterHold ..) (by simp)
    refine Only.then ?_ (only_reach ..) (by simp)
    exact Only.refl _ _
  · refine Ends.done ?_
    exact Only.refl _ _
theorem only_execShadowRunEnd (n : Nat) (diff : Int) (gdiff : Int) (sdiff : Int) (ref05 : Int) (ref10 : Int) (dref05 : Int) (dref10 : Int) (s : State) : Ends [.now, .links, .pans] s (execShadowRunEnd n diff gdiff sdiff ref05 ref10 dref05 dref10 s) := by
  unfold execShadowRunEnd
  dsimp only
  refine Ends.ite _ (fun _ => ?_) (fun _ => ?_)
  · refine Ends.ite _ (fun _ => ?_) (fun _ => ?_)
    · refine Ends.done ?_
      refine Only.then ?_ (only_refRun ..) (by simp)
      refine Only.then ?_ (only_updPan ..) (by simp)
      refine Only.then ?_ (only_reach ..) (by simp)
      exact Only.refl _ _
    · refine Ends.ite _ (fun _ => ?_) (fun _ => ?_)
      · refine Ends.done ?_
        refine Only.then ?_ (only_failConv ..) (by simp)
        refine Only.ite _ (fun _ => ?_) (fun _ => ?_)
        · refine Only.then ?_ (only_sendEvent ..) (by simp)
          refine Only.then ?_ (only_updPan ..) (by simp)
          refine Only.then ?_ (only_updPan ..) (by simp)
          refine Only.then ?_ (only_reach ..) (by simp)
          exact Only.refl _ _
        · refine Only.then ?_ (only_updPan ..) (by simp)
          refine Only.then ?_ (only_updPan ..) (by simp)
          refine Only.then ?_ (only_reach ..) (by simp)
          exact Only.refl _ _
      · refine Ends.done ?_
        refine Only.ite _ (fun _ => ?_) (fun _ => ?_)
        · refine Only.then ?_ (only_sendEvent ..) (by simp)
          refine Only.then ?_ (only_updPan ..) (by simp)
          refine Only.then ?_ (only_updPan ..) (by simp)
          refine Only.then ?_ (only_reach ..) (by simp)
          exact Only.refl _ _
        · refine Only.then ?_ (only_updPan ..) (by simp)
          refine Only.then ?_ (only_updPan ..) (by simp)
          refine Only.then ?_ (only_reach ..) (by simp)
          exact Only.refl _ _
  · refine Ends.done ?_
    exact Only.refl _ _
theorem only_execConversionCheckFailures (n : Nat) (k : Conv) (s : State) : Ends [.links, .pans] s (execConversionCheckFailures n k s) := by
  unfold execConversionCheckFailures
  refine Ends.ite _ (fun _ => ?_) (fun _ => ?_)
  · split
    · refine Ends.done ?_
      refine Only.then ?_ (only_failConv ..) (by simp)
      exact Only.refl _ _
    · refine Ends.done ?_
      refine Only.then ?_ (only_failConv ..) (by simp)
      exact Only.refl _ _
    · refine Ends.done ?_
      refine Only.then ?_ (only_failC ..) (by simp)
      exact Only.refl _ _
    · refine Ends.done ?_
      refine Only.then ?_ (only_failD ..) (by simp)
      exact Only.refl _ _
  · refine Ends.done ?_
    exact Only.refl _ _
theorem only_execFastWindowExit (n : Nat) (ca : Nat) (cb : Nat) (s : State) : Ends [.links, .pans] s (execFastWindowExit n ca cb s) := by
  unfold execFastWindowExit
  dsimp only
  refine Ends.ite _ (fun _ => ?_) (fun _ => ?_)
  · refine Ends.done ?_
    refine Only.ite _ (fun _ => ?_) (fun _ => ?_)
    · refine Only.then ?_ (only_sendEvent ..) (by simp)
      refine Only.then ?_ (only_updPan ..) (by simp)
      exact Only.refl _ _
    · refine Only.then ?_ (only_updPan ..) (by simp)
      exact Only.refl _ _
  · refine Ends.done ?_
    exact Only.refl _ _
theorem only_execFastWindowRearm (n : Nat) (ca : Nat) (cb : Nat) (s : State) : Ends [.pans] s (execFastWindowRearm n ca cb s) := by
  unfold execFastWindowRearm
  dsimp only
  refine Ends.ite _ (fun _ => ?_) (fun _ => ?_)
  · refine Ends.done ?_
    refine Only.then ?_ (only_updPan ..) (by simp)
    exact Only.refl _ _
  · refine Ends.done ?_
    exact Only.refl _ _
theorem only_execSampleStreamInterval (n : Nat) (k : Nat) (ca : Nat) (cb : Nat) (cd : Nat) (cur : Int) (delay : Nat) (s : State) : Ends [.now, .links, .pans] s (execSampleStreamInterval n k ca cb cd cur delay s) := by
  unfold execSampleStreamInterval
  dsimp only
  refine Ends.ite _ (fun _ => ?_) (fun _ => ?_)
  · refine Ends.ite _ (fun _ => ?_) (fun _ => ?_)
    · refine Ends.done ?_
      refine Only.then ?_ (only_updPan ..) (by simp)
      refine Only.then ?_ (only_reach ..) (by simp)
      exact Only.refl _ _
    · refine Ends.done ?_
      refine Only.then ?_ (only_sendUp ..) (by simp)
      refine Only.then ?_ (only_updPan ..) (by simp)
      refine Only.then ?_ (only_reach ..) (by simp)
      exact Only.refl _ _
  · refine Ends.done ?_
    exact Only.refl _ _
theorem only_execContactBaselineFormed (n : Nat) (s : State) : Ends [.links, .pans] s (execContactBaselineFormed n s) := by
  unfold execContactBaselineFormed
  dsimp only
  refine Ends.ite _ (fun _ => ?_) (fun _ => ?_)
  · refine Ends.done ?_
    refine Only.then ?_ (only_sendEvent ..) (by simp)
    refine Only.then ?_ (only_updPan ..) (by simp)
    exact Only.refl _ _
  · refine Ends.done ?_
    exact Only.refl _ _
theorem only_execContactSuspect (n : Nat) (s : State) : Ends [.links, .pans] s (execContactSuspect n s) := by
  unfold execContactSuspect
  dsimp only
  refine Ends.ite _ (fun _ => ?_) (fun _ => ?_)
  · refine Ends.done ?_
    refine Only.then ?_ (only_sendEvent ..) (by simp)
    refine Only.then ?_ (only_updPan ..) (by simp)
    exact Only.refl _ _
  · refine Ends.done ?_
    exact Only.refl _ _
theorem only_execTallyReportInterval (n : Nat) (s : State) : Ends [.links, .pans] s (execTallyReportInterval n s) := by
  unfold execTallyReportInterval
  dsimp only
  refine Ends.ite _ (fun _ => ?_) (fun _ => ?_)
  · refine Ends.done ?_
    refine Only.then ?_ (only_updPan ..) (by simp)
    refine Only.then ?_ (only_sendEvent ..) (by simp)
    refine Only.then ?_ (only_sendEvent ..) (by simp)
    refine Only.then ?_ (only_sendEvent ..) (by simp)
    refine Only.trans ?_ (Only.foldl _ (fun s a => ?_) _ _)
    · exact Only.refl _ _
    · refine Only.then ?_ (only_sendEvent ..) (by simp)
      exact Only.refl _ _
  · refine Ends.done ?_
    exact Only.refl _ _
theorem only_execSetpt (n : Nat) (h : Hdr) (tag : BitVec 3) (v : Word) (s : State) : Ends [.nodes, .links] s (execSetpt n h tag v s) := by
  unfold execSetpt
  refine Ends.done ?_
  refine Only.then ?_ (only_recvStage ..) (by simp)
  exact Only.refl _ _
theorem only_execSlew (n : Nat) (h : Hdr) (tag : BitVec 3) (v : Word) (s : State) : Ends [.nodes, .links] s (execSlew n h tag v s) := by
  unfold execSlew
  refine Ends.done ?_
  refine Only.then ?_ (only_recvStage ..) (by simp)
  exact Only.refl _ _
theorem only_execWindow (n : Nat) (h : Hdr) (tag : BitVec 3) (v : Word) (s : State) : Ends [.nodes, .links] s (execWindow n h tag v s) := by
  unfold execWindow
  refine Ends.done ?_
  refine Only.then ?_ (only_recvStage ..) (by simp)
  exact Only.refl _ _
theorem only_execOffset (n : Nat) (h : Hdr) (v : Word) (s : State) : Ends [.nodes, .links, .pans] s (execOffset n h v s) := by
  unfold execOffset
  refine Ends.done ?_
  refine Only.then ?_ (only_recvWrite ..) (by simp)
  exact Only.refl _ _
theorem only_execOffslew (n : Nat) (h : Hdr) (tag : BitVec 3) (v : Word) (s : State) : Ends [.nodes, .links] s (execOffslew n h tag v s) := by
  unfold execOffslew
  refine Ends.done ?_
  refine Only.then ?_ (only_recvStage ..) (by simp)
  exact Only.refl _ _
theorem only_execShare (n : Nat) (h : Hdr) (v : Word) (s : State) : Ends [.nodes, .links, .pans] s (execShare n h v s) := by
  unfold execShare
  refine Ends.done ?_
  refine Only.then ?_ (only_recvWrite ..) (by simp)
  exact Only.refl _ _
theorem only_execMode (n : Nat) (h : Hdr) (tag : BitVec 3) (v : Word) (s : State) : Ends [.nodes, .links] s (execMode n h tag v s) := by
  unfold execMode
  refine Ends.done ?_
  refine Only.then ?_ (only_recvStage ..) (by simp)
  exact Only.refl _ _
theorem only_execFreq (n : Nat) (h : Hdr) (tag : BitVec 3) (v : Word) (s : State) : Ends [.nodes, .links] s (execFreq n h tag v s) := by
  unfold execFreq
  refine Ends.done ?_
  refine Only.then ?_ (only_recvStage ..) (by simp)
  exact Only.refl _ _
theorem only_execBandset (n : Nat) (h : Hdr) (tag : BitVec 3) (v : Word) (s : State) : Ends [.nodes, .links] s (execBandset n h tag v s) := by
  unfold execBandset
  refine Ends.done ?_
  refine Only.then ?_ (only_recvStage ..) (by simp)
  exact Only.refl _ _
theorem only_execArm (n : Nat) (h : Hdr) (v : Word) (s : State) : Ends [.nodes, .links, .pans] s (execArm n h v s) := by
  unfold execArm
  refine Ends.done ?_
  refine Only.then ?_ (only_recvWrite ..) (by simp)
  exact Only.refl _ _
theorem only_execDroop (n : Nat) (h : Hdr) (tag : BitVec 3) (v : Word) (s : State) : Ends [.nodes, .links] s (execDroop n h tag v s) := by
  unfold execDroop
  refine Ends.done ?_
  refine Only.then ?_ (only_recvStage ..) (by simp)
  exact Only.refl _ _
theorem only_execOvershoot (n : Nat) (h : Hdr) (tag : BitVec 3) (v : Word) (s : State) : Ends [.nodes, .links] s (execOvershoot n h tag v s) := by
  unfold execOvershoot
  refine Ends.done ?_
  refine Only.then ?_ (only_recvStage ..) (by simp)
  exact Only.refl _ _
theorem only_execBoostlim (n : Nat) (h : Hdr) (tag : BitVec 3) (v : Word) (s : State) : Ends [.nodes, .links] s (execBoostlim n h tag v s) := by
  unfold execBoostlim
  refine Ends.done ?_
  refine Only.then ?_ (only_recvStage ..) (by simp)
  exact Only.refl _ _
theorem only_execBalance (n : Nat) (h : Hdr) (tag : BitVec 3) (v : Word) (s : State) : Ends [.nodes, .links] s (execBalance n h tag v s) := by
  unfold execBalance
  refine Ends.done ?_
  refine Only.then ?_ (only_recvStage ..) (by simp)
  exact Only.refl _ _
theorem only_execVmcomp (n : Nat) (h : Hdr) (tag : BitVec 3) (v : Word) (s : State) : Ends [.nodes, .links] s (execVmcomp n h tag v s) := by
  unfold execVmcomp
  refine Ends.done ?_
  refine Only.then ?_ (only_recvStage ..) (by simp)
  exact Only.refl _ _
theorem only_execCarryauto (n : Nat) (fromParent : Bool) (v : Word) (s : State) : Ends [.nodes, .links, .pans] s (execCarryauto n fromParent v s) := by
  unfold execCarryauto
  refine Ends.ite _ (fun _ => ?_) (fun _ => ?_)
  · refine Ends.done ?_
    exact Only.refl _ _
  · dsimp only
    refine Ends.ite _ (fun _ => ?_) (fun _ => ?_)
    · refine Ends.done ?_
      refine Only.then ?_ (only_applyWrite ..) (by simp)
      refine Only.then ?_ (only_takeDown ..) (by simp)
      exact Only.refl _ _
    · refine Ends.done ?_
      refine Only.then ?_ (only_badSel ..) (by simp)
      refine Only.then ?_ (only_takeDown ..) (by simp)
      exact Only.refl _ _
theorem only_execFwin (n : Nat) (h : Hdr) (tag : BitVec 3) (v : Word) (s : State) : Ends [.nodes, .links] s (execFwin n h tag v s) := by
  unfold execFwin
  refine Ends.done ?_
  refine Only.then ?_ (only_recvStage ..) (by simp)
  exact Only.refl _ _
theorem only_execSwinv (n : Nat) (h : Hdr) (tag : BitVec 3) (v : Word) (s : State) : Ends [.nodes, .links] s (execSwinv n h tag v s) := by
  unfold execSwinv
  refine Ends.done ?_
  refine Only.then ?_ (only_recvStage ..) (by simp)
  exact Only.refl _ _
theorem only_execSwini (n : Nat) (h : Hdr) (tag : BitVec 3) (v : Word) (s : State) : Ends [.nodes, .links] s (execSwini n h tag v s) := by
  unfold execSwini
  refine Ends.done ?_
  refine Only.then ?_ (only_recvStage ..) (by simp)
  exact Only.refl _ _
theorem only_execSensesel (n : Nat) (h : Hdr) (tag : BitVec 3) (v : Word) (s : State) : Ends [.nodes, .links] s (execSensesel n h tag v s) := by
  unfold execSensesel
  refine Ends.done ?_
  refine Only.then ?_ (only_recvStage ..) (by simp)
  exact Only.refl _ _
theorem only_execCalctl (n : Nat) (h : Hdr) (tag : BitVec 3) (v : Word) (s : State) : Ends [.nodes, .links] s (execCalctl n h tag v s) := by
  unfold execCalctl
  refine Ends.done ?_
  refine Only.then ?_ (only_recvStage ..) (by simp)
  exact Only.refl _ _
theorem only_execCalload (n : Nat) (h : Hdr) (k : Conv) (v : Word) (s : State) : Ends [.nodes, .links, .pans] s (execCalload n h k v s) := by
  unfold execCalload
  split
  · refine Ends.done ?_
    refine Only.then ?_ (only_recvWrite ..) (by simp)
    exact Only.refl _ _
  · refine Ends.done ?_
    refine Only.then ?_ (only_recvWrite ..) (by simp)
    exact Only.refl _ _
  · refine Ends.done ?_
    refine Only.then ?_ (only_recvWrite ..) (by simp)
    exact Only.refl _ _
  · refine Ends.done ?_
    exact Only.refl _ _
theorem only_execCalloadI (n : Nat) (h : Hdr) (v : Word) (s : State) : Ends [.nodes, .links, .pans] s (execCalloadI n h v s) := by
  unfold execCalloadI
  refine Ends.done ?_
  refine Only.then ?_ (only_recvWrite ..) (by simp)
  exact Only.refl _ _
theorem only_execStream (n : Nat) (h : Hdr) (tag : BitVec 3) (k : Nat) (v : Word) (s : State) : Ends [.nodes, .links] s (execStream n h tag k v s) := by
  unfold execStream
  refine Ends.ite _ (fun _ => ?_) (fun _ => ?_)
  · refine Ends.done ?_
    refine Only.then ?_ (only_recvStage ..) (by simp)
    exact Only.refl _ _
  · refine Ends.done ?_
    exact Only.refl _ _
theorem only_execEpochsamp (n : Nat) (h : Hdr) (tag : BitVec 3) (v : Word) (s : State) : Ends [.nodes, .links] s (execEpochsamp n h tag v s) := by
  unfold execEpochsamp
  refine Ends.done ?_
  refine Only.then ?_ (only_recvStage ..) (by simp)
  exact Only.refl _ _
theorem only_execRoster (n : Nat) (h : Hdr) (v : Word) (s : State) : Ends [.nodes, .links, .pans] s (execRoster n h v s) := by
  unfold execRoster
  refine Ends.done ?_
  refine Only.then ?_ (only_recvWrite ..) (by simp)
  exact Only.refl _ _
theorem only_execParentSelect (n : Nat) (h : Hdr) (v : Word) (s : State) : Ends [.nodes, .links, .pans] s (execParentSelect n h v s) := by
  unfold execParentSelect
  refine Ends.done ?_
  refine Only.then ?_ (only_recvWrite ..) (by simp)
  exact Only.refl _ _
theorem only_execExceptionRange (n : Nat) (h : Hdr) (k : Nat) (v : Word) (s : State) : Ends [.nodes, .links, .pans] s (execExceptionRange n h k v s) := by
  unfold execExceptionRange
  refine Ends.ite _ (fun _ => ?_) (fun _ => ?_)
  · refine Ends.done ?_
    refine Only.then ?_ (only_recvWrite ..) (by simp)
    exact Only.refl _ _
  · refine Ends.done ?_
    exact Only.refl _ _
theorem only_execExceptionTarget (n : Nat) (h : Hdr) (k : Nat) (v : Word) (s : State) : Ends [.nodes, .links, .pans] s (execExceptionTarget n h k v s) := by
  unfold execExceptionTarget
  refine Ends.ite _ (fun _ => ?_) (fun _ => ?_)
  · refine Ends.done ?_
    refine Only.then ?_ (only_recvWrite ..) (by simp)
    exact Only.refl _ _
  · refine Ends.done ?_
    exact Only.refl _ _
theorem only_execChildPortRange (n : Nat) (h : Hdr) (k : Nat) (v : Word) (s : State) : Ends [.nodes, .links, .pans] s (execChildPortRange n h k v s) := by
  unfold execChildPortRange
  refine Ends.ite _ (fun _ => ?_) (fun _ => ?_)
  · refine Ends.done ?_
    refine Only.then ?_ (only_recvWrite ..) (by simp)
    exact Only.refl _ _
  · refine Ends.done ?_
    exact Only.refl _ _
theorem only_execUnimplementedSel (n : Nat) (h : Hdr) (stage : Bool) (tag : BitVec 3) (sel : Byte) (v : Word) (s : State) : Ends [.nodes, .links, .pans] s (execUnimplementedSel n h stage tag sel v s) := by
  unfold execUnimplementedSel
  refine Ends.ite _ (fun _ => ?_) (fun _ => ?_)
  · refine Ends.done ?_
    exact Only.refl _ _
  · refine Ends.ite _ (fun _ => ?_) (fun _ => ?_)
    · refine Ends.done ?_
      refine Only.then ?_ (only_recvStage ..) (by simp)
      exact Only.refl _ _
    · refine Ends.done ?_
      refine Only.then ?_ (only_recvWrite ..) (by simp)
      exact Only.refl _ _
theorem only_execSetClose (n : Nat) (h : Hdr) (tag : BitVec 3) (s : State) : Ends [.nodes, .links] s (execSetClose n h tag s) := by
  unfold execSetClose
  dsimp only
  refine Ends.ite _ (fun _ => ?_) (fun _ => ?_)
  · refine Ends.done ?_
    exact Only.refl _ _
  · refine Ends.ite _ (fun _ => ?_) (fun _ => ?_)
    · refine Ends.done ?_
      refine Only.then ?_ (only_onward ..) (by simp)
      refine Only.then ?_ (only_takeDown ..) (by simp)
      exact Only.refl _ _
    · refine Ends.ite _ (fun _ => ?_) (fun _ => ?_)
      · refine Ends.done ?_
        refine Only.then ?_ (only_sendUp ..) (by simp)
        refine Only.then ?_ (only_updNode ..) (by simp)
        refine Only.then ?_ (only_takeDown ..) (by simp)
        exact Only.refl _ _
      · refine Ends.done ?_
        refine Only.then ?_ (only_tryPondAck ..) (by simp)
        refine Only.then ?_ (only_toAll ..) (by simp)
        refine Only.then ?_ (only_updNode ..) (by simp)
        refine Only.then ?_ (only_takeDown ..) (by simp)
        exact Only.refl _ _
theorem only_execStageEnd (n : Nat) (h : Hdr) (tag : BitVec 3) (count : Nat) (s : State) : Ends [.nodes, .links] s (execStageEnd n h tag count s) := by
  unfold execStageEnd
  dsimp only
  refine Ends.ite _ (fun _ => ?_) (fun _ => ?_)
  · refine Ends.done ?_
    exact Only.refl _ _
  · refine Ends.ite _ (fun _ => ?_) (fun _ => ?_)
    · refine Ends.done ?_
      refine Only.then ?_ (only_onward ..) (by simp)
      refine Only.then ?_ (only_takeDown ..) (by simp)
      exact Only.refl _ _
    · refine Ends.ite _ (fun _ => ?_) (fun _ => ?_)
      · refine Ends.done ?_
        refine Only.then ?_ (only_updNode ..) (by simp)
        refine Only.then ?_ (only_takeDown ..) (by simp)
        exact Only.refl _ _
      · refine Ends.ite _ (fun _ => ?_) (fun _ => ?_)
        · refine Ends.done ?_
          refine Only.then ?_ (only_toAll ..) (by simp)
          refine Only.then ?_ (only_updNode ..) (by simp)
          refine Only.then ?_ (only_takeDown ..) (by simp)
          exact Only.refl _ _
        · refine Ends.ite _ (fun _ => ?_) (fun _ => ?_)
          · refine Ends.done ?_
            refine Only.then ?_ (only_updNode ..) (by simp)
            refine Only.then ?_ (only_takeDown ..) (by simp)
            exact Only.refl _ _
          · refine Ends.done ?_
            refine Only.then ?_ (only_toAll ..) (by simp)
            refine Only.then ?_ (only_updNode ..) (by simp)
            refine Only.then ?_ (only_takeDown ..) (by simp)
            exact Only.refl _ _
theorem only_execAck (n : Nat) (child : Nat) (tag : BitVec 3) (ok : Bool) (count : Nat) (failing : NodeId) (s : State) : Ends [.nodes, .links, .stg] s (execAck n child tag ok count failing s) := by
  unfold execAck
  dsimp only
  refine Ends.ite _ (fun _ => ?_) (fun _ => ?_)
  · refine Ends.done ?_
    exact Only.refl _ _
  · refine Ends.ite _ (fun _ => ?_) (fun _ => ?_)
    · refine Ends.ite _ (fun _ => ?_) (fun _ => ?_)
      · refine Ends.ite _ (fun _ => ?_) (fun _ => ?_)
        · refine Ends.done ?_
          refine Only.then ?_ (only_giveVerdict ..) (by simp)
          refine Only.then ?_ (only_updStg ..) (by simp)
          refine Only.then ?_ (only_takeInto ..) (by simp)
          exact Only.refl _ _
        · refine Ends.done ?_
          refine Only.then ?_ (only_updStg ..) (by simp)
          refine Only.then ?_ (only_takeInto ..) (by simp)
          exact Only.refl _ _
      · refine Ends.done ?_
        refine Only.then ?_ (only_takeInto ..) (by simp)
        exact Only.refl _ _
    · refine Ends.ite _ (fun _ => ?_) (fun _ => ?_)
      · refine Ends.ite _ (fun _ => ?_) (fun _ => ?_)
        · refine Ends.done ?_
          refine Only.then ?_ (only_tryPondAck ..) (by simp)
          refine Only.then ?_ (only_updNode ..) (by simp)
          refine Only.then ?_ (only_takeInto ..) (by simp)
          exact Only.refl _ _
        · refine Ends.done ?_
          refine Only.then ?_ (only_takeInto ..) (by simp)
          exact Only.refl _ _
      · refine Ends.done ?_
        refine Only.then ?_ (only_sendUp ..) (by simp)
        refine Only.then ?_ (only_takeInto ..) (by simp)
        exact Only.refl _ _
theorem only_execPondAckDeadline (n : Nat) (s : State) : Ends [.now, .nodes, .links] s (execPondAckDeadline n s) := by
  unfold execPondAckDeadline
  dsimp only
  refine Ends.ite _ (fun _ => ?_) (fun _ => ?_)
  · refine Ends.done ?_
    refine Only.then ?_ (only_sendPondAck ..) (by simp)
    refine Only.then ?_ (only_reach ..) (by simp)
    exact Only.refl _ _
  · refine Ends.done ?_
    exact Only.refl _ _
theorem only_execVerdict (n : Nat) (h : Hdr) (tag : BitVec 3) (commit : Bool) (gen : Word) (s : State) : Ends [.nodes, .links] s (execVerdict n h tag commit gen s) := by
  unfold execVerdict
  dsimp only
  refine Ends.ite _ (fun _ => ?_) (fun _ => ?_)
  · refine Ends.done ?_
    exact Only.refl _ _
  · refine Ends.ite _ (fun _ => ?_) (fun _ => ?_)
    · refine Ends.done ?_
      refine Only.then ?_ (only_onward ..) (by simp)
      refine Only.then ?_ (only_takeDown ..) (by simp)
      exact Only.refl _ _
    · refine Ends.ite _ (fun _ => ?_) (fun _ => ?_)
      · refine Ends.done ?_
        refine Only.then ?_ (only_updNode ..) (by simp)
        refine Only.then ?_ (only_takeDown ..) (by simp)
        exact Only.refl _ _
      · refine Ends.done ?_
        refine Only.then ?_ (only_toAll ..) (by simp)
        refine Only.then ?_ (only_updNode ..) (by simp)
        refine Only.then ?_ (only_takeDown ..) (by simp)
        exact Only.refl _ _
theorem only_execRq (n : Nat) (child : Nat) (tag : BitVec 3) (count : Nat) (s : State) : Ends [.nodes, .links, .regs] s (execRq n child tag count s) := by
  unfold execRq
  dsimp only
  refine Ends.ite _ (fun _ => ?_) (fun _ => ?_)
  · refine Ends.done ?_
    exact Only.refl _ _
  · refine Ends.ite _ (fun _ => ?_) (fun _ => ?_)
    · split
      · refine Ends.done ?_
        refine Only.then ?_ (only_updNode ..) (by simp)
        refine Only.then ?_ (only_takeInto ..) (by simp)
        exact Only.refl _ _
      · refine Ends.done ?_
        refine Only.then ?_ (only_updTel ..) (by simp)
        refine Only.then ?_ (only_updNode ..) (by simp)
        refine Only.then ?_ (only_takeInto ..) (by simp)
        exact Only.refl _ _
    · refine Ends.ite _ (fun _ => ?_) (fun _ => ?_)
      · refine Ends.done ?_
        refine Only.then ?_ (only_tryRollup ..) (by simp)
        refine Only.then ?_ (only_updNode ..) (by simp)
        refine Only.then ?_ (only_takeInto ..) (by simp)
        exact Only.refl _ _
      · refine Ends.done ?_
        refine Only.then ?_ (only_sendUp ..) (by simp)
        refine Only.then ?_ (only_takeInto ..) (by simp)
        exact Only.refl _ _
theorem only_execRmm (n : Nat) (child : Nat) (tag : BitVec 3) (current : Bool) (incomplete : Bool) (vMax : BitVec 16) (vMin : BitVec 16) (s : State) : Ends [.nodes, .links, .regs] s (execRmm n child tag current incomplete vMax vMin s) := by
  unfold execRmm
  dsimp only
  refine Ends.ite _ (fun _ => ?_) (fun _ => ?_)
  · refine Ends.done ?_
    exact Only.refl _ _
  · refine Ends.ite _ (fun _ => ?_) (fun _ => ?_)
    · refine Ends.ite _ (fun _ => ?_) (fun _ => ?_)
      · split
        · refine Ends.done ?_
          refine Only.then ?_ (only_takeInto ..) (by simp)
          exact Only.refl _ _
        · refine Ends.done ?_
          refine Only.then ?_ (only_updTel ..) (by simp)
          refine Only.then ?_ (only_takeInto ..) (by simp)
          exact Only.refl _ _
      · refine Ends.done ?_
        refine Only.then ?_ (only_takeInto ..) (by simp)
        exact Only.refl _ _
    · refine Ends.ite _ (fun _ => ?_) (fun _ => ?_)
      · refine Ends.ite _ (fun _ => ?_) (fun _ => ?_)
        · refine Ends.done ?_
          refine Only.then ?_ (only_takeInto ..) (by simp)
          exact Only.refl _ _
        · refine Ends.done ?_
          refine Only.then ?_ (only_tryRollup ..) (by simp)
          refine Only.then ?_ (only_updNode ..) (by simp)
          refine Only.then ?_ (only_takeInto ..) (by simp)
          exact Only.refl _ _
      · refine Ends.done ?_
        refine Only.then ?_ (only_sendUp ..) (by simp)
        refine Only.then ?_ (only_takeInto ..) (by simp)
        exact Only.refl _ _
theorem only_execPondRollupDeadline (n : Nat) (s : State) : Ends [.now, .nodes, .links] s (execPondRollupDeadline n s) := by
  unfold execPondRollupDeadline
  dsimp only
  refine Ends.ite _ (fun _ => ?_) (fun _ => ?_)
  · refine Ends.done ?_
    refine Only.trans ?_ (Only.foldl _ (fun s a => ?_) _ _)
    · refine Only.then ?_ (only_sendRollup ..) (by simp)
      refine Only.then ?_ (only_reach ..) (by simp)
      exact Only.refl _ _
    · refine Only.then ?_ (only_setCarry ..) (by simp)
      exact Only.refl _ _
  · refine Ends.done ?_
    exact Only.refl _ _
theorem only_execNodeEpochBoundary (n : Nat) (m : EpochMeas) (s : State) : Ends [.now, .free, .nodes, .links, .pans] s (execNodeEpochBoundary n m s) := by
  unfold execNodeEpochBoundary
  dsimp only
  refine Ends.ite _ (fun _ => ?_) (fun _ => ?_)
  · refine Ends.done ?_
    exact Only.refl _ _
  · refine Ends.ite _ (fun _ => ?_) (fun _ => ?_)
    · refine Ends.done ?_
      refine Only.then ?_ (only_noteClamp ..) (by simp)
      refine Only.trans ?_ (Only.foldl _ (fun s a => ?_) _ _)
      · refine Only.then ?_ (only_updPan ..) (by simp)
        refine Only.then ?_ (only_updNode ..) (by simp)
        refine Only.ite _ (fun _ => ?_) (fun _ => ?_)
        · refine Only.ite _ (fun _ => ?_) (fun _ => ?_)
          · refine Only.trans ?_ (Only.foldl _ (fun s a => ?_) _ _)
            · refine Only.ite _ (fun _ => ?_) (fun _ => ?_)
              · refine Only.then ?_ (only_panEpoch ..) (by simp)
                refine Only.then ?_ (only_reach ..) (by simp)
                exact Only.refl _ _
              · refine Only.then ?_ (only_reach ..) (by simp)
                exact Only.refl _ _
            · refine Only.then ?_ (only_applyStage ..) (by simp)
              exact Only.refl _ _
          · refine Only.ite _ (fun _ => ?_) (fun _ => ?_)
            · refine Only.then ?_ (only_panEpoch ..) (by simp)
              refine Only.then ?_ (only_reach ..) (by simp)
              exact Only.refl _ _
            · refine Only.then ?_ (only_reach ..) (by simp)
              exact Only.refl _ _
        · refine Only.ite _ (fun _ => ?_) (fun _ => ?_)
          · refine Only.then ?_ (only_sendEvent ..) (by simp)
            refine Only.ite _ (fun _ => ?_) (fun _ => ?_)
            · refine Only.then ?_ (only_panEpoch ..) (by simp)
              refine Only.then ?_ (only_reach ..) (by simp)
              exact Only.refl _ _
            · refine Only.then ?_ (only_reach ..) (by simp)
              exact Only.refl _ _
          · refine Only.ite _ (fun _ => ?_) (fun _ => ?_)
            · refine Only.then ?_ (only_panEpoch ..) (by simp)
              refine Only.then ?_ (only_reach ..) (by simp)
              exact Only.refl _ _
            · refine Only.then ?_ (only_reach ..) (by simp)
              exact Only.refl _ _
      · refine Only.then ?_ (only_applyWrite ..) (by simp)
        exact Only.refl _ _
    · refine Ends.done ?_
      refine Only.then ?_ (only_tryRollup ..) (by simp)
      refine Only.then ?_ (only_updNode ..) (by simp)
      refine Only.ite _ (fun _ => ?_) (fun _ => ?_)
      · refine Only.ite _ (fun _ => ?_) (fun _ => ?_)
        · refine Only.trans ?_ (Only.foldl _ (fun s a => ?_) _ _)
          · refine Only.ite _ (fun _ => ?_) (fun _ => ?_)
            · refine Only.then ?_ (only_panEpoch ..) (by simp)
              refine Only.then ?_ (only_reach ..) (by simp)
              exact Only.refl _ _
            · refine Only.then ?_ (only_reach ..) (by simp)
              exact Only.refl _ _
          · refine Only.then ?_ (only_applyStage ..) (by simp)
            exact Only.refl _ _
        · refine Only.ite _ (fun _ => ?_) (fun _ => ?_)
          · refine Only.then ?_ (only_panEpoch ..) (by simp)
            refine Only.then ?_ (only_reach ..) (by simp)
            exact Only.refl _ _
          · refine Only.then ?_ (only_reach ..) (by simp)
            exact Only.refl _ _
      · refine Only.ite _ (fun _ => ?_) (fun _ => ?_)
        · refine Only.then ?_ (only_sendEvent ..) (by simp)
          refine Only.ite _ (fun _ => ?_) (fun _ => ?_)
          · refine Only.then ?_ (only_panEpoch ..) (by simp)
            refine Only.then ?_ (only_reach ..) (by simp)
            exact Only.refl _ _
          · refine Only.then ?_ (only_reach ..) (by simp)
            exact Only.refl _ _
        · refine Only.ite _ (fun _ => ?_) (fun _ => ?_)
          · refine Only.then ?_ (only_panEpoch ..) (by simp)
            refine Only.then ?_ (only_reach ..) (by simp)
            exact Only.refl _ _
          · refine Only.then ?_ (only_reach ..) (by simp)
            exact Only.refl _ _
theorem only_execTime (n : Nat) (h : Hdr) (cycle : Nat) (epoch : Nat) (hold : Nat) (s : State) : Ends [.now, .nodes, .links] s (execTime n h cycle epoch hold s) := by
  unfold execTime
  dsimp only
  refine Ends.ite _ (fun _ => ?_) (fun _ => ?_)
  · refine Ends.done ?_
    exact Only.refl _ _
  · refine Ends.ite _ (fun _ => ?_) (fun _ => ?_)
    · refine Ends.done ?_
      refine Only.then ?_ (only_onward ..) (by simp)
      refine Only.then ?_ (only_reach ..) (by simp)
      refine Only.then ?_ (only_takeDown ..) (by simp)
      refine Only.then ?_ (only_reach ..) (by simp)
      exact Only.refl _ _
    · refine Ends.ite _ (fun _ => ?_) (fun _ => ?_)
      · refine Ends.done ?_
        refine Only.then ?_ (only_sendEvent ..) (by simp)
        refine Only.then ?_ (only_updNode ..) (by simp)
        refine Only.ite _ (fun _ => ?_) (fun _ => ?_)
        · refine Only.then ?_ (only_updNode ..) (by simp)
          refine Only.then ?_ (only_takeDown ..) (by simp)
          refine Only.then ?_ (only_reach ..) (by simp)
          exact Only.refl _ _
        · refine Only.then ?_ (only_takeDown ..) (by simp)
          refine Only.then ?_ (only_reach ..) (by simp)
          exact Only.refl _ _
      · refine Ends.done ?_
        refine Only.then ?_ (only_updNode ..) (by simp)
        refine Only.ite _ (fun _ => ?_) (fun _ => ?_)
        · refine Only.then ?_ (only_updNode ..) (by simp)
          refine Only.then ?_ (only_takeDown ..) (by simp)
          refine Only.then ?_ (only_reach ..) (by simp)
          exact Only.refl _ _
        · refine Only.then ?_ (only_takeDown ..) (by simp)
          refine Only.then ?_ (only_reach ..) (by simp)
          exact Only.refl _ _
theorem only_execTimeResyncPeriod (s : State) : Ends [.links, .sys] s (execTimeResyncPeriod s) := by
  unfold execTimeResyncPeriod
  refine Ends.ite _ (fun _ => ?_) (fun _ => ?_)
  · refine Ends.done ?_
    refine Only.then ?_ (only_timeAll ..) (by simp)
    exact Only.refl _ _
  · refine Ends.done ?_
    exact Only.refl _ _
theorem only_execCreditReturn (l : LinkId) (d : Dir) (k : PClass) (s : State) : Ends [.links] s (execCreditReturn l d k s) := by
  unfold execCreditReturn
  refine Ends.done ?_
  refine Only.then ?_ (only_updDir ..) (by simp)
  exact Only.refl _ _
theorem only_execParityErrorPacket (l : LinkId) (d : Dir) (s : State) : Ends [.nodes, .links] s (execParityErrorPacket l d s) := by
  unfold execParityErrorPacket
  dsimp only
  refine Ends.done ?_
  refine Only.then ?_ (only_updNode ..) (by simp)
  refine Only.then ?_ (only_updDir ..) (by simp)
  exact Only.refl _ _
theorem only_execLinkAuditTimer (l : LinkId) (d : Dir) (s : State) : Ends [.now, .links] s (execLinkAuditTimer l d s) := by
  unfold execLinkAuditTimer
  dsimp only
  refine Ends.done ?_
  refine Only.then ?_ (only_updDir ..) (by simp)
  refine Only.then ?_ (only_reach ..) (by simp)
  exact Only.refl _ _
theorem only_execAudit (l : LinkId) (d : Dir) (sentC : Nat) (sentT : Nat) (sentU : Nat) (s : State) : Ends [.nodes, .links] s (execAudit l d sentC sentT sentU s) := by
  unfold execAudit
  dsimp only
  refine Ends.ite _ (fun _ => ?_) (fun _ => ?_)
  · refine Ends.done ?_
    refine Only.then ?_ (only_takeOn ..) (by simp)
    refine Only.then ?_ (only_updDir ..) (by simp)
    exact Only.refl _ _
  · refine Ends.done ?_
    exact Only.refl _ _
theorem only_execResetRequest (l : LinkId) (d : Dir) (s : State) : Ends [.links] s (execResetRequest l d s) := by
  unfold execResetRequest
  refine Ends.ite _ (fun _ => ?_) (fun _ => ?_)
  · dsimp only
    refine Ends.done ?_
    refine Only.then ?_ (only_updDir ..) (by simp)
    refine Only.then ?_ (only_updDir ..) (by simp)
    exact Only.refl _ _
  · refine Ends.done ?_
    exact Only.refl _ _
theorem only_execResetDone (l : LinkId) (d : Dir) (s : State) : Ends [.nodes, .links] s (execResetDone l d s) := by
  unfold execResetDone
  refine Ends.ite _ (fun _ => ?_) (fun _ => ?_)
  · dsimp only
    refine Ends.done ?_
    refine Only.then ?_ (only_updDir ..) (by simp)
    refine Only.then ?_ (only_updDir ..) (by simp)
    refine Only.then ?_ (only_takeOn ..) (by simp)
    exact Only.refl _ _
  · refine Ends.done ?_
    exact Only.refl _ _
theorem only_execCreditInvariantBreak (l : LinkId) (d : Dir) (k : PClass) (s : State) : Ends [.flt] s (execCreditInvariantBreak l d k s) := by
  unfold execCreditInvariantBreak
  dsimp only
  refine Ends.ite _ (fun _ => ?_) (fun _ => ?_)
  · refine Ends.done ?_
    refine Only.then ?_ (only_sluiceFault ..) (by simp)
    exact Only.refl _ _
  · refine Ends.done ?_
    exact Only.refl _ _
theorem only_execParentPathTimeout (n : Nat) (s : State) : Ends [.now, .nodes, .links, .pans, .eng, .flt] s (execParentPathTimeout n s) := by
  unfold execParentPathTimeout
  refine Ends.ite _ (fun _ => ?_) (fun _ => ?_)
  · refine Ends.done ?_
    exact Only.refl _ _
  · refine Ends.done ?_
    refine Only.then ?_ (only_pathFailed ..) (by simp)
    refine Only.then ?_ (only_reach ..) (by simp)
    exact Only.refl _ _
theorem only_execParityLimitReached (n : Nat) (port : Nat) (s : State) : Ends [.free, .nodes, .links, .pans, .eng, .flt] s (execParityLimitReached n port s) := by
  unfold execParityLimitReached
  refine Ends.ite _ (fun _ => ?_) (fun _ => ?_)
  · refine Ends.done ?_
    exact Only.refl _ _
  · refine Ends.ite _ (fun _ => ?_) (fun _ => ?_)
    · refine Ends.done ?_
      refine Only.then ?_ (only_pathFailed ..) (by simp)
      exact Only.refl _ _
    · refine Ends.ite _ (fun _ => ?_) (fun _ => ?_)
      · refine Ends.done ?_
        refine Only.then ?_ (only_updNode ..) (by simp)
        exact Only.refl _ _
      · dsimp only
        refine Ends.done ?_
        refine Only.then ?_ (only_sluiceFault ..) (by simp)
        refine Only.ite _ (fun _ => ?_) (fun _ => ?_)
        · exact Only.refl _ _
        · refine Only.then ?_ (only_draw ..) (by simp)
          refine Only.then ?_ (only_sendEvent ..) (by simp)
          exact Only.refl _ _
theorem only_execReservedPacket (l : LinkId) (d : Dir) (ty : BitVec 4) (s : State) : Ends [.nodes, .links] s (execReservedPacket l d ty s) := by
  unfold execReservedPacket
  refine Ends.ite _ (fun _ => ?_) (fun _ => ?_)
  · refine Ends.done ?_
    exact Only.refl _ _
  · dsimp only
    refine Ends.ite _ (fun _ => ?_) (fun _ => ?_)
    · refine Ends.done ?_
      split
      · refine Only.ite _ (fun _ => ?_) (fun _ => ?_)
        · refine Only.then ?_ (only_takeOn ..) (by simp)
          exact Only.refl _ _
        · exact Only.refl _ _
      · exact Only.refl _ _
    · refine Ends.done ?_
      refine Only.then ?_ (only_sendEvent ..) (by simp)
      split
      · refine Only.ite _ (fun _ => ?_) (fun _ => ?_)
        · refine Only.then ?_ (only_takeOn ..) (by simp)
          exact Only.refl _ _
        · exact Only.refl _ _
      · exact Only.refl _ _
theorem only_execUnroutablePacket (n : Nat) (h : Hdr) (s : State) : Ends [.nodes, .links] s (execUnroutablePacket n h s) := by
  unfold execUnroutablePacket
  refine Ends.ite _ (fun _ => ?_) (fun _ => ?_)
  · refine Ends.done ?_
    exact Only.refl _ _
  · dsimp only
    refine Ends.done ?_
    refine Only.then ?_ (only_sendEvent ..) (by simp)
    split
    · refine Only.ite _ (fun _ => ?_) (fun _ => ?_)
      · refine Only.then ?_ (only_takeDown ..) (by simp)
        exact Only.refl _ _
      · exact Only.refl _ _
    · exact Only.refl _ _
theorem only_execAdoptRequest (n : Nat) (lo : NodeId) (hi : NodeId) (s : State) : Ends [.nodes, .links, .flt] s (execAdoptRequest n lo hi s) := by
  unfold execAdoptRequest
  dsimp only
  refine Ends.ite _ (fun _ => ?_) (fun _ => ?_)
  · refine Ends.done ?_
    exact Only.refl _ _
  · refine Ends.ite _ (fun _ => ?_) (fun _ => ?_)
    · refine Ends.done ?_
      refine Only.then ?_ (only_sendUp ..) (by simp)
      refine Only.then ?_ (only_takeInto ..) (by simp)
      exact Only.refl _ _
    · split
      · refine Ends.done ?_
        refine Only.then ?_ (only_adopt ..) (by simp)
        refine Only.then ?_ (only_takeInto ..) (by simp)
        exact Only.refl _ _
      · refine Ends.done ?_
        refine Only.then ?_ (only_takeInto ..) (by simp)
        exact Only.refl _ _
theorem only_execAdoptDone (n : Nat) (h : Hdr) (lo : NodeId) (hi : NodeId) (s : State) : Ends [.nodes, .links] s (execAdoptDone n h lo hi s) := by
  unfold execAdoptDone
  dsimp only
  refine Ends.ite _ (fun _ => ?_) (fun _ => ?_)
  · refine Ends.done ?_
    exact Only.refl _ _
  · refine Ends.ite _ (fun _ => ?_) (fun _ => ?_)
    · refine Ends.done ?_
      refine Only.then ?_ (only_onward ..) (by simp)
      refine Only.then ?_ (only_takeDown ..) (by simp)
      exact Only.refl _ _
    · refine Ends.done ?_
      refine Only.then ?_ (only_updNode ..) (by simp)
      refine Only.then ?_ (only_takeDown ..) (by simp)
      exact Only.refl _ _
theorem only_execRosterRemove (n : Nat) (h : Hdr) (lo : NodeId) (hi : NodeId) (s : State) : Ends [.nodes, .links] s (execRosterRemove n h lo hi s) := by
  unfold execRosterRemove
  dsimp only
  refine Ends.ite _ (fun _ => ?_) (fun _ => ?_)
  · refine Ends.done ?_
    exact Only.refl _ _
  · refine Ends.ite _ (fun _ => ?_) (fun _ => ?_)
    · refine Ends.done ?_
      refine Only.then ?_ (only_onward ..) (by simp)
      refine Only.then ?_ (only_takeDown ..) (by simp)
      exact Only.refl _ _
    · split
      · refine Ends.done ?_
        refine Only.then ?_ (only_updNode ..) (by simp)
        refine Only.then ?_ (only_takeDown ..) (by simp)
        exact Only.refl _ _
      · refine Ends.done ?_
        refine Only.then ?_ (only_takeDown ..) (by simp)
        exact Only.refl _ _
theorem only_execProbe (n : Nat) (dst : NodeId) (port : Nat) (newId : NodeId) (s : State) : Ends [.nodes, .links] s (execProbe n dst port newId s) := by
  unfold execProbe
  dsimp only
  refine Ends.ite _ (fun _ => ?_) (fun _ => ?_)
  · refine Ends.done ?_
    exact Only.refl _ _
  · refine Ends.ite _ (fun _ => ?_) (fun _ => ?_)
    · refine Ends.ite _ (fun _ => ?_) (fun _ => ?_)
      · refine Ends.done ?_
        refine Only.then ?_ (only_sendOn ..) (by simp)
        refine Only.then ?_ (only_takeOn ..) (by simp)
        exact Only.refl _ _
      · refine Ends.done ?_
        exact Only.refl _ _
    · refine Ends.ite _ (fun _ => ?_) (fun _ => ?_)
      · refine Ends.done ?_
        exact Only.refl _ _
      · refine Ends.ite _ (fun _ => ?_) (fun _ => ?_)
        · refine Ends.ite _ (fun _ => ?_) (fun _ => ?_)
          · refine Ends.done ?_
            refine Only.then ?_ (only_takeOn ..) (by simp)
            exact Only.refl _ _
          · refine Ends.done ?_
            refine Only.then ?_ (only_sendUp ..) (by simp)
            refine Only.then ?_ (only_updNode ..) (by simp)
            refine Only.then ?_ (only_takeOn ..) (by simp)
            exact Only.refl _ _
        · refine Ends.ite _ (fun _ => ?_) (fun _ => ?_)
          · refine Ends.done ?_
            refine Only.then ?_ (only_takeOn ..) (by simp)
            exact Only.refl _ _
          · refine Ends.ite _ (fun _ => ?_) (fun _ => ?_)
            · refine Ends.ite _ (fun _ => ?_) (fun _ => ?_)
              · refine Ends.done ?_
                refine Only.then ?_ (only_takeOn ..) (by simp)
                exact Only.refl _ _
              · refine Ends.ite _ (fun _ => ?_) (fun _ => ?_)
                · refine Ends.done ?_
                  refine Only.then ?_ (only_sendPort ..) (by simp)
                  refine Only.then ?_ (only_updNode ..) (by simp)
                  refine Only.then ?_ (only_takeOn ..) (by simp)
                  exact Only.refl _ _
                · refine Ends.done ?_
                  refine Only.then ?_ (only_sendPort ..) (by simp)
                  refine Only.then ?_ (only_takeOn ..) (by simp)
                  exact Only.refl _ _
            · refine Ends.done ?_
              refine Only.then ?_ (only_onward ..) (by simp)
              refine Only.then ?_ (only_takeOn ..) (by simp)
              exact Only.refl _ _
theorem only_execProbeTimeout (n : Nat) (port : Nat) (s : State) : Ends [.now, .nodes, .links, .eng, .com, .safe, .regs, .conv, .stg, .flt, .hw, .store, .sys, .ports] s (execProbeTimeout n port s) := by
  unfold execProbeTimeout
  refine Ends.ite _ (fun _ => ?_) (fun _ => ?_)
  · refine Ends.done ?_
    refine Only.then ?_ (only_enumMoved ..) (by simp)
    refine Only.then ?_ (only_enumAdvance ..) (by simp)
    refine Only.then ?_ (only_reach ..) (by simp)
    exact Only.refl _ _
  · refine Ends.ite _ (fun _ => ?_) (fun _ => ?_)
    · refine Ends.done ?_
      refine Only.then ?_ (only_enumMoved ..) (by simp)
      refine Only.then ?_ (only_enumNextAdopt ..) (by simp)
      refine Only.then ?_ (only_reach ..) (by simp)
      exact Only.refl _ _
    · refine Ends.done ?_
      exact Only.refl _ _
theorem only_execDesc (n : Nat) (src : NodeId) (kind : Nat) (ports : Nat) (wide : Bool) (rating : Nat) (revision : Nat) (s : State) : Ends [.nodes, .links, .eng, .com, .safe, .regs, .conv, .stg, .flt, .hw, .store, .sys, .ports] s (execDesc n src kind ports wide rating revision s) := by
  unfold execDesc
  dsimp only
  refine Ends.ite _ (fun _ => ?_) (fun _ => ?_)
  · refine Ends.done ?_
    exact Only.refl _ _
  · refine Ends.ite _ (fun _ => ?_) (fun _ => ?_)
    · refine Ends.done ?_
      refine Only.then ?_ (only_sendUp ..) (by simp)
      refine Only.then ?_ (only_takeInto ..) (by simp)
      exact Only.refl _ _
    · split
      · refine Ends.ite _ (fun _ => ?_) (fun _ => ?_)
        · refine Ends.done ?_
          refine Only.then ?_ (only_takeInto ..) (by simp)
          exact Only.refl _ _
        · refine Ends.done ?_
          refine Only.then ?_ (only_enumMoved ..) (by simp)
          refine Only.then ?_ (only_described ..) (by simp)
          refine Only.then ?_ (only_takeInto ..) (by simp)
          exact Only.refl _ _
      · refine Ends.done ?_
        refine Only.then ?_ (only_enumMoved ..) (by simp)
        refine Only.then ?_ (only_enumNextAdopt ..) (by simp)
        refine Only.ite _ (fun _ => ?_) (fun _ => ?_)
        · refine Only.then ?_ (only_updNode ..) (by simp)
          refine Only.then ?_ (only_takeInto ..) (by simp)
          exact Only.refl _ _
        · refine Only.then ?_ (only_takeInto ..) (by simp)
          exact Only.refl _ _
      · refine Ends.done ?_
        refine Only.then ?_ (only_takeInto ..) (by simp)
        exact Only.refl _ _
theorem only_execSample (n : Nat) (src : NodeId) (kind : Byte) (value : Word) (s : State) : Ends [.links, .eng, .regs] s (execSample n src kind value s) := by
  unfold execSample
  dsimp only
  refine Ends.ite _ (fun _ => ?_) (fun _ => ?_)
  · refine Ends.done ?_
    exact Only.refl _ _
  · refine Ends.ite _ (fun _ => ?_) (fun _ => ?_)
    · refine Ends.done ?_
      refine Only.then ?_ (only_sendUp ..) (by simp)
      refine Only.then ?_ (only_takeInto ..) (by simp)
      exact Only.refl _ _
    · refine Ends.done ?_
      refine Only.then ?_ (only_sampleIn ..) (by simp)
      refine Only.then ?_ (only_takeInto ..) (by simp)
      exact Only.refl _ _
theorem only_execRollupClose (s : State) : Ends [.now, .free, .eng, .regs, .conv, .tel, .bud, .led, .flt] s (execRollupClose s) := by
  unfold execRollupClose
  refine Ends.ite _ (fun _ => ?_) (fun _ => ?_)
  · refine Ends.done ?_
    exact Only.refl _ _
  · dsimp only
    refine Ends.done ?_
    refine Only.then ?_ (only_queryTake ..) (by simp)
    refine Only.then ?_ (only_attribute ..) (by simp)
    refine Only.then ?_ (only_updBud ..) (by simp)
    refine Only.trans ?_ (Only.foldl _ (fun s a => ?_) _ _)
    · refine Only.then ?_ (only_tally ..) (by simp)
      refine Only.trans ?_ (Only.foldl _ (fun s a => ?_) _ _)
      · refine Only.then ?_ (only_fillSnaps ..) (by simp)
        refine Only.then ?_ (only_updDie ..) (by simp)
        refine Only.then ?_ (only_rollConv ..) (by simp)
        refine Only.trans ?_ (Only.foldl _ (fun s a => ?_) _ _)
        · refine Only.then ?_ (only_reach ..) (by simp)
          exact Only.refl _ _
        · refine Only.then ?_ (only_rollRegion ..) (by simp)
          exact Only.refl _ _
      · refine Only.then ?_ (only_rollTally ..) (by simp)
        exact Only.refl _ _
    · refine Only.then ?_ (only_rollSlots ..) (by simp)
      exact Only.refl _ _
theorem only_execCalibrationWindowClose (s : State) : Ends [.eng, .regs, .tel, .bud, .flt, .ports] s (execCalibrationWindowClose s) := by
  unfold execCalibrationWindowClose
  refine Ends.ite _ (fun _ => ?_) (fun _ => ?_)
  · refine Ends.done ?_
    exact Only.refl _ _
  · dsimp only
    refine Ends.done ?_
    refine Only.then ?_ (only_updDie ..) (by simp)
    refine Only.then ?_ (only_updPorts ..) (by simp)
    refine Only.ite _ (fun _ => ?_) (fun _ => ?_)
    · refine Only.then ?_ (only_capRise ..) (by simp)
      refine Only.then ?_ (only_updBud ..) (by simp)
      refine Only.then ?_ (only_updBud ..) (by simp)
      refine Only.trans ?_ (Only.foldl _ (fun s a => ?_) _ _)
      · exact Only.refl _ _
      · refine Only.then ?_ (only_closeUse ..) (by simp)
        exact Only.refl _ _
    · refine Only.ite _ (fun _ => ?_) (fun _ => ?_)
      · refine Only.then ?_ (only_updBud ..) (by simp)
        refine Only.then ?_ (only_updBud ..) (by simp)
        refine Only.trans ?_ (Only.foldl _ (fun s a => ?_) _ _)
        · exact Only.refl _ _
        · refine Only.then ?_ (only_closeUse ..) (by simp)
          exact Only.refl _ _
      · refine Only.then ?_ (only_updBud ..) (by simp)
        refine Only.trans ?_ (Only.foldl _ (fun s a => ?_) _ _)
        · exact Only.refl _ _
        · refine Only.then ?_ (only_closeUse ..) (by simp)
          exact Only.refl _ _
theorem only_execAllowanceRecomputation (s : State) : Ends [.stg, .bud, .ports] s (execAllowanceRecomputation s) := by
  unfold execAllowanceRecomputation
  refine Ends.ite _ (fun _ => ?_) (fun _ => ?_)
  · refine Ends.done ?_
    exact Only.refl _ _
  · dsimp only
    refine Ends.ite _ (fun _ => ?_) (fun _ => ?_)
    · refine Ends.done ?_
      refine Only.then ?_ (only_updBud ..) (by simp)
      exact Only.refl _ _
    · refine Ends.done ?_
      refine Only.then ?_ (only_stageSet ..) (by simp)
      refine Only.then ?_ (only_updBud ..) (by simp)
      exact Only.refl _ _
theorem only_execSnapshotReady (slot : Nat) (s : State) : Ends [.tel] s (execSnapshotReady slot s) := by
  unfold execSnapshotReady
  dsimp only
  refine Ends.ite _ (fun _ => ?_) (fun _ => ?_)
  · refine Ends.done ?_
    exact Only.refl _ _
  · refine Ends.ite _ (fun _ => ?_) (fun _ => ?_)
    · refine Ends.done ?_
      refine Only.then ?_ (only_updDie ..) (by simp)
      exact Only.refl _ _
    · refine Ends.done ?_
      refine Only.then ?_ (only_cause ..) (by simp)
      refine Only.then ?_ (only_updDie ..) (by simp)
      exact Only.refl _ _
theorem only_execTallyValueReady (s : State) : Ends [.flt] s (execTallyValueReady s) := by
  unfold execTallyValueReady
  refine Ends.ite _ (fun _ => ?_) (fun _ => ?_)
  · refine Ends.done ?_
    exact Only.refl _ _
  · dsimp only
    refine Ends.done ?_
    refine Only.then ?_ (only_updFlt ..) (by simp)
    exact Only.refl _ _
theorem only_execEvent (n : Nat) (src : NodeId) (cause : Byte) (detail : Word) (s : State) : Ends [.nodes, .links, .eng, .regs, .flt] s (execEvent n src cause detail s) := by
  unfold execEvent
  dsimp only
  refine Ends.ite _ (fun _ => ?_) (fun _ => ?_)
  · refine Ends.done ?_
    exact Only.refl _ _
  · refine Ends.ite _ (fun _ => ?_) (fun _ => ?_)
    · refine Ends.done ?_
      refine Only.then ?_ (only_hubEvent ..) (by simp)
      refine Only.then ?_ (only_takeEvent ..) (by simp)
      exact Only.refl _ _
    · split
      · refine Ends.ite _ (fun _ => ?_) (fun _ => ?_)
        · refine Ends.done ?_
          refine Only.then ?_ (only_setCarry ..) (by simp)
          refine Only.then ?_ (only_sendUp ..) (by simp)
          refine Only.then ?_ (only_takeInto ..) (by simp)
          exact Only.refl _ _
        · refine Ends.done ?_
          refine Only.then ?_ (only_sendUp ..) (by simp)
          refine Only.then ?_ (only_takeInto ..) (by simp)
          exact Only.refl _ _
      · refine Ends.done ?_
        refine Only.then ?_ (only_sendUp ..) (by simp)
        refine Only.then ?_ (only_takeInto ..) (by simp)
        exact Only.refl _ _
theorem only_execStageFaultEvent (pond : Nat) (child : Nat) (s : State) : Ends [.links] s (execStageFaultEvent pond child s) := by
  unfold execStageFaultEvent
  dsimp only
  refine Ends.ite _ (fun _ => ?_) (fun _ => ?_)
  · refine Ends.done ?_
    exact Only.refl _ _
  · refine Ends.done ?_
    refine Only.then ?_ (only_setCarry ..) (by simp)
    refine Only.then ?_ (only_sendUp ..) (by simp)
    refine Only.then ?_ (only_takeUp ..) (by simp)
    exact Only.refl _ _
theorem only_execWindowExitPending (src : NodeId) (cause : Byte) (detail : Word) (s : State) : Ends [.links, .regs, .flt] s (execWindowExitPending src cause detail s) := by
  unfold execWindowExitPending
  refine Ends.ite _ (fun _ => ?_) (fun _ => ?_)
  · refine Ends.done ?_
    refine Only.then ?_ (only_windowExit ..) (by simp)
    refine Only.then ?_ (only_takeEvent ..) (by simp)
    exact Only.refl _ _
  · refine Ends.done ?_
    exact Only.refl _ _
theorem only_execTallyReport (src : NodeId) (cause : Byte) (detail : Word) (s : State) : Ends [.links, .flt] s (execTallyReport src cause detail s) := by
  unfold execTallyReport
  refine Ends.ite _ (fun _ => ?_) (fun _ => ?_)
  · refine Ends.done ?_
    refine Only.then ?_ (only_tallyIn ..) (by simp)
    refine Only.then ?_ (only_takeEvent ..) (by simp)
    exact Only.refl _ _
  · refine Ends.done ?_
    exact Only.refl _ _
theorem only_execLossReport (src : NodeId) (cause : Byte) (detail : Word) (s : State) : Ends [.links, .eng, .flt] s (execLossReport src cause detail s) := by
  unfold execLossReport
  refine Ends.ite _ (fun _ => ?_) (fun _ => ?_)
  · refine Ends.done ?_
    refine Only.then ?_ (only_lossIn ..) (by simp)
    refine Only.then ?_ (only_takeEvent ..) (by simp)
    exact Only.refl _ _
  · refine Ends.done ?_
    exact Only.refl _ _
theorem only_execSluiceFaultExpiry (s : State) : Ends [.now, .flt] s (execSluiceFaultExpiry s) := by
  unfold execSluiceFaultExpiry
  split
  · refine Ends.done ?_
    refine Only.then ?_ (only_updFlt ..) (by simp)
    refine Only.then ?_ (only_reach ..) (by simp)
    exact Only.refl _ _
  · refine Ends.done ?_
    exact Only.refl _ _
theorem only_execLossResponse (s : State) : Ends [.now, .stg, .flt, .ports] s (execLossResponse s) := by
  unfold execLossResponse
  split
  · refine Ends.done ?_
    exact Only.refl _ _
  · refine Ends.ite _ (fun _ => ?_) (fun _ => ?_)
    · refine Ends.done ?_
      exact Only.refl _ _
    · dsimp only
      refine Ends.done ?_
      refine Only.then ?_ (only_updFlt ..) (by simp)
      refine Only.then ?_ (only_tally ..) (by simp)
      refine Only.then ?_ (only_tally ..) (by simp)
      refine Only.trans ?_ (Only.foldl _ (fun s a => ?_) _ _)
      · refine Only.trans ?_ (Only.foldl _ (fun s a => ?_) _ _)
        · refine Only.then ?_ (only_stageSet ..) (by simp)
          refine Only.then ?_ (only_reach ..) (by simp)
          exact Only.refl _ _
        · refine Only.then ?_ (only_updNflt ..) (by simp)
          exact Only.refl _ _
      · refine Only.then ?_ (only_updNflt ..) (by simp)
        exact Only.refl _ _
theorem only_execFaultedPanReturn (n : Nat) (s : State) : Ends [.now, .stg, .flt, .ports] s (execFaultedPanReturn n s) := by
  unfold execFaultedPanReturn
  dsimp only
  refine Ends.ite _ (fun _ => ?_) (fun _ => ?_)
  · refine Ends.ite _ (fun _ => ?_) (fun _ => ?_)
    · refine Ends.done ?_
      refine Only.then ?_ (only_tally ..) (by simp)
      refine Only.then ?_ (only_updNflt ..) (by simp)
      refine Only.then ?_ (only_reach ..) (by simp)
      exact Only.refl _ _
    · refine Ends.done ?_
      refine Only.then ?_ (only_tally ..) (by simp)
      refine Only.then ?_ (only_updNflt ..) (by simp)
      refine Only.then ?_ (only_stageFw ..) (by simp)
      refine Only.then ?_ (only_reach ..) (by simp)
      exact Only.refl _ _
  · refine Ends.done ?_
    exact Only.refl _ _
theorem only_execFaultOrder (r : Nat) (s : State) : Ends [.stg, .flt, .ports] s (execFaultOrder r s) := by
  unfold execFaultOrder
  dsimp only
  refine Ends.ite _ (fun _ => ?_) (fun _ => ?_)
  · refine Ends.done ?_
    refine Only.then ?_ (only_tally ..) (by simp)
    refine Only.then ?_ (only_stageFw ..) (by simp)
    exact Only.refl _ _
  · refine Ends.done ?_
    exact Only.refl _ _
theorem only_execStagingClose (s : State) : Ends [.now, .links, .stg, .tide, .flt, .ports] s (execStagingClose s) := by
  unfold execStagingClose
  refine Ends.ite _ (fun _ => ?_) (fun _ => ?_)
  · refine Ends.done ?_
    exact Only.refl _ _
  · dsimp only
    refine Ends.done ?_
    refine Only.then ?_ (only_formSet ..) (by simp)
    refine Only.then ?_ (only_refuseCoefs ..) (by simp)
    refine Only.then ?_ (only_updStg ..) (by simp)
    refine Only.then ?_ (only_deferLimit ..) (by simp)
    refine Only.then ?_ (only_stageAutos ..) (by simp)
    refine Only.then ?_ (only_reach ..) (by simp)
    exact Only.refl _ _
theorem only_execAckDeadline (s : State) : Ends [.now, .links, .stg, .ports] s (execAckDeadline s) := by
  unfold execAckDeadline
  refine Ends.ite _ (fun _ => ?_) (fun _ => ?_)
  · dsimp only
    refine Ends.ite _ (fun _ => ?_) (fun _ => ?_)
    · refine Ends.done ?_
      refine Only.then ?_ (only_giveVerdict ..) (by simp)
      refine Only.then ?_ (only_reach ..) (by simp)
      exact Only.refl _ _
    · refine Ends.done ?_
      refine Only.then ?_ (only_requeue ..) (by simp)
      refine Only.then ?_ (only_giveVerdict ..) (by simp)
      refine Only.then ?_ (only_reach ..) (by simp)
      exact Only.refl _ _
  · refine Ends.done ?_
    exact Only.refl _ _
theorem only_execSetDeferralLimit (s : State) : Ends [.stg, .tide, .flt, .ports] s (execSetDeferralLimit s) := by
  unfold execSetDeferralLimit
  refine Ends.done ?_
  refine Only.then ?_ (only_deferLimit ..) (by simp)
  exact Only.refl _ _
theorem only_execEpochBoundary (s : State) : Ends [.now, .epoch, .nodes, .eng, .com, .safe, .regs, .conv, .stg, .tel, .led, .tide, .flt, .hw, .store, .sys, .ports] s (execEpochBoundary s) := by
  unfold execEpochBoundary
  refine Ends.ite _ (fun _ => ?_) (fun _ => ?_)
  · refine Ends.done ?_
    exact Only.refl _ _
  · dsimp only
    refine Ends.done ?_
    refine Only.then ?_ (only_bootBoundary ..) (by simp)
    refine Only.then ?_ (only_latchSnaps ..) (by simp)
    refine Only.then ?_ (only_updStg ..) (by simp)
    refine Only.ite _ (fun _ => ?_) (fun _ => ?_)
    · refine Only.then ?_ (only_glueUp ..) (by simp)
      refine Only.ite _ (fun _ => ?_) (fun _ => ?_)
      · refine Only.then ?_ (only_requeue ..) (by simp)
        refine Only.then ?_ (only_newEpoch ..) (by simp)
        exact Only.refl _ _
      · refine Only.then ?_ (only_newEpoch ..) (by simp)
        exact Only.refl _ _
    · refine Only.ite _ (fun _ => ?_) (fun _ => ?_)
      · refine Only.then ?_ (only_requeue ..) (by simp)
        refine Only.then ?_ (only_newEpoch ..) (by simp)
        exact Only.refl _ _
      · refine Only.then ?_ (only_newEpoch ..) (by simp)
        exact Only.refl _ _

end Sys2Proof.Machine
end

