-- ==== Sys2Proof/Laws/Links.lean ====
section
/-! SUPPORT. Link directions: the credit sum of R48 under each operation, and what a change of one direction leaves. -/

namespace Sys2Proof.Machine

theorem LinkDir.Balanced.intro {d : LinkDir} (c : d.creditC + d.onWire .c + d.lostC + d.backC = 4)
    (t : d.creditT + d.onWire .t + d.lostT + d.backT = 4) (u : d.creditU + d.onWire .u + d.lostU + d.backU = 2) : d.Balanced := by
  intro k; cases k
  · exact c
  · exact t
  · exact u

/-- The sum of one class. -/
def LinkDir.sum (d : LinkDir) (k : PClass) : Nat := d.credit k + d.onWire k + d.lost k + d.back k

theorem LinkDir.balanced_iff (d : LinkDir) : d.Balanced ↔ ∀ k, d.sum k = buffers k := Iff.rfl

/-- What leaves every sum as it was leaves the balance. -/
theorem LinkDir.Balanced.of_sum {d e : LinkDir} (h : d.Balanced) (g : ∀ k, e.sum k = d.sum k) : e.Balanced :=
  fun k => (g k).trans (h k)

/-- The packet that leaves was the oldest on the wire. -/
theorem onWire_tail (d : LinkDir) (p : Packet) (h : d.holds p = true) (k : PClass) :
    d.onWire k = (d.wire.tail.filter fun p => decide (classOfTy p.ty = k)).length + if classOfTy p.ty = k then 1 else 0 := by
  unfold LinkDir.holds at h
  cases e : d.wire with
  | nil => simp [e] at h
  | cons q w =>
    have : q = p := by simpa [e] using h
    subst this
    simp only [LinkDir.onWire, e, List.filter_cons, List.tail_cons]
    split <;> simp_all

theorem take_sum (d : LinkDir) (p : Packet) (k : PClass) : (d.take p).sum k = d.sum k := by
  unfold LinkDir.take
  split
  · have h := onWire_tail d p ‹_› k
    simp only [LinkDir.sum, h]
    cases e : classOfTy p.ty <;> cases k <;>
      simp [LinkDir.setBack, LinkDir.countRecv, LinkDir.credit, LinkDir.onWire, LinkDir.lost, LinkDir.back] <;> omega
  · rfl

theorem fillAudit_ty (d : LinkDir) (p : Packet) : (d.fillAudit p).ty = p.ty := by
  unfold LinkDir.fillAudit; split <;> rfl

theorem fillTime_ty (now : Nat) (d : LinkDir) (p : Packet) : (d.fillTime now p).ty = p.ty := by
  unfold LinkDir.fillTime; split <;> rfl

theorem sendAt_sum (now : Nat) (d : LinkDir) (i : Nat) (hc : ∀ p, d.queue[i]? = some p → 0 < d.credit (classOfTy p.ty)) (k : PClass) :
    (d.sendAt now i).sum k = d.sum k := by
  unfold LinkDir.sendAt
  split
  · rfl
  · rename_i p hp
    have := hc p hp
    revert this
    cases e : classOfTy p.ty <;> cases k <;>
      simp [LinkDir.sum, LinkDir.setCredit, LinkDir.countSent, LinkDir.credit, LinkDir.onWire, LinkDir.lost, LinkDir.back, fillAudit_ty, fillTime_ty, e,
        List.filter_append] <;> omega

theorem firstOf_class (d : LinkDir) (cl : Bool) (k : PClass) (i : Nat) (h : d.firstOf cl k = some i) :
    ∃ p, d.queue[i]? = some p ∧ classOfTy p.ty = k ∧ 0 < d.credit k := by
  unfold LinkDir.firstOf at h
  split at h
  · cases h
  · have any : ∀ j, (d.queue.findIdx? fun p => decide (classOfTy p.ty = k)) = some j →
        ∃ p, d.queue[j]? = some p ∧ classOfTy p.ty = k ∧ 0 < d.credit k := by
      intro j hj
      obtain ⟨hlt, hp, _⟩ := List.findIdx?_eq_some_iff_getElem.mp hj
      exact ⟨d.queue[j], List.getElem?_eq_getElem hlt, by simpa using hp, by omega⟩
    dsimp only at h
    split at h
    · rename_i j ha
      split at h
      · cases h
        obtain ⟨hlt, hp, _⟩ := List.findIdx?_eq_some_iff_getElem.mp ha
        simp only [Bool.and_eq_true, decide_eq_true_eq] at hp
        exact ⟨d.queue[i], List.getElem?_eq_getElem hlt, hp.1, by omega⟩
      · exact any i h
    · exact any i h

theorem pick_class (d : LinkDir) (cl : Bool) (i : Nat) (h : d.pick cl = some i) :
    ∃ p, d.queue[i]? = some p ∧ 0 < d.credit (classOfTy p.ty) := by
  have key : ∀ k, d.firstOf cl k = some i → ∃ p, d.queue[i]? = some p ∧ 0 < d.credit (classOfTy p.ty) := by
    intro k hk
    obtain ⟨p, a, b, c⟩ := firstOf_class d cl k i hk
    exact ⟨p, a, by rw [b]; exact c⟩
  unfold LinkDir.pick at h
  split at h
  · exact key .u (by simp_all)
  · split at h
    · split at h
      · exact key .c (by simp_all)
      · exact key .t (by simp_all)
    · exact key .c (by simp_all)
    · exact key .t (by simp_all)

theorem pump_sum (now : Nat) (cl : Bool) (n : Nat) (d : LinkDir) (k : PClass) : (d.pump now cl n).sum k = d.sum k := by
  induction n generalizing d with
  | zero => rfl
  | succ n ih =>
    unfold LinkDir.pump
    split
    · rfl
    · split
      · rfl
      · rename_i i hi
        rw [ih, sendAt_sum]
        intro p hp
        obtain ⟨q, a, b⟩ := pick_class d cl i hi
        rw [hp] at a
        cases a
        exact b

theorem push_sum (now : Nat) (cl : Bool) (p : Packet) (d : LinkDir) (k : PClass) : (d.push now cl p).sum k = d.sum k := by
  unfold LinkDir.push
  rw [pump_sum]; cases k <;> rfl

/-- An audit leaves a class in balance exactly where the packets it finds missing are those on the wire and lost: those lost
are written off and their credits return. -/
theorem restore_sum (k : PClass) (a b : Nat) (d : LinkDir) (j : PClass) :
    (d.restore k a b).sum j = if j = k then d.credit j + d.onWire j + (d.back j + (a + 256 - b) % 256) else d.sum j := by
  unfold LinkDir.restore
  cases k <;> cases j <;>
    simp [LinkDir.sum, LinkDir.setLost, LinkDir.setBack, LinkDir.credit, LinkDir.onWire, LinkDir.lost, LinkDir.back] <;> omega

theorem linkKey_inj {l m : LinkId} (h : linkKey l = linkKey m) : l = m := by
  obtain ⟨a, p⟩ := l
  obtain ⟨b, q⟩ := m
  cases p <;> cases q <;> simp [linkKey] at h ⊢ <;> omega

/-- Another link is left as it was. -/
theorem State.updDir_link_other (s : State) {l m : LinkId} (d : Dir) (f : LinkDir → LinkDir) (h : m ≠ l) :
    (s.updDir l d f).link m = s.link m := by
  have : linkKey m ≠ linkKey l := fun e => h (linkKey_inj e)
  simp [State.link, State.updDir, Tbl.get_set_other _ _ _ this]

theorem State.updDir_dir_other (s : State) {l m : LinkId} (d e : Dir) (f : LinkDir → LinkDir) (h : m ≠ l) :
    (s.updDir l d f).dir m e = s.dir m e := by
  cases e <;> simp only [State.dir, State.updDir_link_other s d f h]

theorem State.updDir_dir_opp (s : State) (l : LinkId) {d e : Dir} (f : LinkDir → LinkDir) (h : e ≠ d) :
    (s.updDir l d f).dir l e = s.dir l e := by
  cases d <;> cases e <;> simp_all [State.dir, State.updDir, State.link]

/-- Every link direction keeps its credits. -/
theorem State.updDir_balanced (s : State) (l : LinkId) (d : Dir) (f : LinkDir → LinkDir) (h : ∀ m e, (s.dir m e).Balanced)
    (g : (f (s.dir l d)).Balanced) (m : LinkId) (e : Dir) : ((s.updDir l d f).dir m e).Balanced := by
  by_cases hm : m = l
  · subst hm
    by_cases he : e = d
    · subst he; rw [State.updDir_dir_same]; exact g
    · rw [State.updDir_dir_opp s m f he]; exact h _ _
  · rw [State.updDir_dir_other s d e f hm]; exact h _ _

end Sys2Proof.Machine
end

