-- ==== Sys2Proof/Machine/Library.lean ====
section
/-! DEFINITION. The maker's jig library (R238 to R242, R244 to R246, R303 to R306, R328, R366 to R370, R374, R451): the listings as
Mulith instructions, with their coefficients and bindings, and the laws that the library's runs compute. The engine runs whatever
code the image holds; an image built from the library holds these. Where the spec gives a law and no listing, the law stands
alone (DESIGN CHOICE, log 124). -/

namespace Sys2Proof.Machine

/-! ### Arithmetic of the laws -/

/-- sat(x, n) of R238: clamped to -2^n to 2^n - 1. -/
def satP (x : Int) (n : Nat) : Int := clampI x (-(2 ^ n)) (2 ^ n - 1)
/-- A number times a coefficient (R210). -/
def coefMul (x : Int) (c : CoefWord) : Int := (cprod (BitVec.ofInt 32 x) c).1.toInt
/-- s32, saturating. -/
def satS32 (x : Int) : Int := (sat32 x).1.toInt

/-! ### The region outer loop (R238 to R240, R242) -/

/-- The library's coefficients c0 to c4 of the outer loop (R238), with their role marks: 1 installer, 2 maker. -/
def outerCoefs : List (CoefWord × Nat) :=
  [({ value := 0x33333333, shift := -19 }, 1), ({ value := 0x4CCCCCCD, shift := -19 }, 1), ({ value := 0x06666666, shift := -19 }, 1),
   ({ value := 0xFE147AE1, shift := -19 }, 2), ({ value := 0x00007080, shift := 0 }, 2)]
/-- Coefficient `k` of the outer loop. -/
def outerCoef (k : Nat) : CoefWord := ((outerCoefs[k]?).map Prod.fst).getD {}

/-- The outer loop's state words (R238): s0 the integrator in Q16 mV, s1 the previous y, s2 the instant of the record whose
pre-arming was last withdrawn, s3 the previous pb. -/
structure OuterState where
  i : Int := 0
  y : Int := 0
  withdrawn : Word := 0
  pb : Int := 0
  deriving DecidableEq, Repr
/-- What a run of the outer loop reads (R238, R239): the control pan's mean voltage code, SETPT, the VIB code, the pre-boost record with
its instant and its age. -/
structure OuterIn where
  vCtl : Int
  setpt : Int
  vib : Int
  rec_ : Word
  instant : Word
  age : Nat
  deriving DecidableEq, Repr
/-- What it sends (R238): the PID part on out2, OFFSET on out0, and 5 on out1 (ARM) where it withdraws a pre-arming. -/
structure OuterOut where
  pid : Int
  offset : Int
  arm : Option Nat
  deriving DecidableEq, Repr

/-- The pre-boost in force (R239): min(boost, max(0, (expiry - age) / 512)). -/
def prePb (rec_ : Word) (age : Nat) : Int := min (ufield rec_ 0 8 : Int) (max 0 (((ufield rec_ 16 16 : Int) - age) / 512))
/-- Line 26 and 27 (R238): the error of a voltage code against the target code. -/
def outerErr (setpt y : Int) : Int := 16 * (300 + setpt) - y
/-- A normal run of the outer loop (R238): at or past the record's expiry a pre-arming that still stands is withdrawn. -/
def outerRun (c : Nat → CoefWord) (st : OuterState) (x : OuterIn) : OuterState × OuterOut :=
  let pb := prePb x.rec_ x.age
  let ends := decide (ufield x.rec_ 16 16 ≤ x.age) && decide (x.instant ≠ st.withdrawn)
  let y := x.vCtl - 16 * st.pb
  let e := outerErr x.setpt y
  let i := satP (st.i + coefMul e (c 1)) 21
  let u := i + coefMul e (c 0) + coefMul (st.y - y) (c 2) + coefMul (x.vib - (c 4).value.toInt) (c 3)
  let pid := satP (rnd u 16) 6
  ({ i := i, y := y, withdrawn := if ends then x.instant else st.withdrawn, pb := pb },
   { pid := pid, offset := pid + pb, arm := if ends then some 5 else none })
/-- The scribe run of the outer loop (R242): the integrator that makes the next normal run send `sent` again. -/
def outerScribe (c : Nat → CoefWord) (sent : Int) (x : OuterIn) : OuterState :=
  let pb := prePb x.rec_ x.age
  let y := x.vCtl - 16 * pb
  let e := outerErr x.setpt y
  let acc := (sent - pb) * 2 ^ 16 - coefMul e (c 0) - coefMul e (c 1) - coefMul (x.vib - (c 4).value.toInt) (c 3)
  { i := satP (satS32 acc) 21, y := y, withdrawn := 0, pb := pb }

/-- The outer loop's listing (R238) at address `at_`: slots PBREC and VIBS by their bases. -/
def outerListing (lane at_ pbrec vibs : Nat) : List Instr :=
  let ctrl : BitVec 13 := BitVec.ofNat 13 (at_ + 17)
  [.mLdi lane 8 0 2 (BitVec.ofNat 14 pbrec), .mLdi lane 9 0 0 (BitVec.ofNat 14 pbrec), .mLdi lane 10 0 1 (BitVec.ofNat 14 pbrec),
   .mShri lane 11 9 16, .mAndi lane 12 9 0x00FF, .mSub lane 13 11 10, .mSrai lane 13 13 9, .mMax lane 13 13 31, .mMin lane 14 13 12,
   .mBltu lane 10 11 ctrl, .mLds lane 15 31 2, .mBeq lane 8 15 ctrl, .mLdi lane 15 0 2 (BitVec.ofNat 14 pbrec), .mBne lane 8 15 ctrl,
   .mAddi lane 15 31 5, .mOut lane 1 15, .mSts lane 8 31 2] ++
  [.mLdt lane 8 0 0, .mExt lane 8 8 0 15 false, .mLds lane 9 31 3, .mSts lane 14 31 3, .mShli lane 9 9 4, .mSub lane 8 8 9,
   .mLdh lane 10 0 0, .mAddi lane 10 10 300, .mShli lane 10 10 4, .mSub lane 10 10 8, .mLds lane 11 31 0, .mAld lane 0 11 0,
   .mCmac lane 0 10 0 false 1, .mLds lane 12 31 1, .mAmov lane 11 0 0, .mSati lane 11 11 21, .mSts lane 11 31 0] ++
  [.mAld lane 0 11 0, .mCmac lane 0 10 0 false 0, .mSub lane 12 12 8, .mCmac lane 0 12 0 false 2, .mLdi lane 12 0 0 (BitVec.ofNat 14 vibs),
   .mExt lane 12 12 0 15 false, .mCld lane 13 0 false false 4, .mSub lane 12 12 13, .mCmac lane 0 12 0 false 3, .mSts lane 8 31 1,
   .mAmov lane 12 0 16, .mSati lane 12 12 6, .mOut lane 2 12, .mAdd lane 12 12 14, .mOut lane 0 12, .mEnd lane]
/-- The scribe's listing (R242). -/
def scribeListing (lane pbrec vibs : Nat) : List Instr :=
  [.mExt lane 15 4 0 7 true,
   .mLdi lane 8 0 2 (BitVec.ofNat 14 pbrec), .mLdi lane 9 0 0 (BitVec.ofNat 14 pbrec), .mLdi lane 10 0 1 (BitVec.ofNat 14 pbrec),
   .mShri lane 11 9 16, .mAndi lane 12 9 0x00FF, .mSub lane 13 11 10, .mSrai lane 13 13 9, .mMax lane 13 13 31, .mMin lane 14 13 12,
   .mSts lane 14 31 3, .mSts lane 31 31 2, .mLdt lane 8 0 0, .mExt lane 8 8 0 15 false, .mShli lane 9 14 4, .mSub lane 8 8 9] ++
  [.mSts lane 8 31 1, .mLdh lane 10 0 0, .mAddi lane 10 10 300, .mShli lane 10 10 4, .mSub lane 10 10 8,
   .mLdi lane 12 0 0 (BitVec.ofNat 14 vibs), .mExt lane 12 12 0 15 false, .mCld lane 13 0 false false 4, .mSub lane 12 12 13,
   .mSub lane 15 15 14, .mAld lane 0 15 16, .mCmsu lane 0 10 0 false 0, .mCmsu lane 0 10 0 false 1, .mCmsu lane 0 12 0 false 3,
   .mAmov lane 11 0 0, .mSati lane 11 11 21, .mSts lane 11 31 0, .mEnd lane]

/-- The pre-boost loop's coefficients (R240, R316): kb is 0.29 mV per A, and 12 CKE cycles make one lead unit. -/
def preBoostCoefs : List CoefWord := [{ value := 0x251EB852, shift := -15 }, { value := 0x000C0000, shift := 0 }]
/-- Lead in CKE cycles, Lc, at most 32,767 (R239). -/
def preLead (k : CoefWord) (lead : Int) : Int := satP (satS32 (rnd (coefMul lead k) 16)) 15
/-- The boost of an announced change in current, mV (R239): clamp(rnd(kb * dI), 0, Lc / 512). -/
def preBoost (kb : CoefWord) (dI lc : Int) : Int := min (max (satS32 (rnd (coefMul dI kb) 16)) 0) (max (lc / 512) 0)
/-- The pre-boost record of a step hint (R239): the expiry, twice the lead, in [31:16]; the boost in [7:0]. -/
def preRecord (kb kl : CoefWord) (dI lead : Int) : Word :=
  let lc := preLead kl lead
  BitVec.ofInt 32 (2 * lc * 65536 + preBoost kb dI lc)
/-- The pre-boost loop's listing (R240): the record before ARM, the outer loop's PID part from slot PIDPART. -/
def preBoostListing (lane pidpart : Nat) : List Instr :=
  [.mLdt lane 8 0 0, .mExt lane 9 8 16 11 true, .mExt lane 10 8 0 11 false, .mCmac lane 0 9 0 false 0, .mCmac lane 1 10 0 false 1,
   .mAmov lane 11 0 16, .mAmov lane 12 1 16, .mSati lane 12 12 15, .mShri lane 13 12 9, .mClmp lane 11 11 31 13, .mShli lane 12 12 17,
   .mOr lane 12 12 11, .mOut lane 2 12, .mLdi lane 13 0 0 (BitVec.ofNat 14 (pidpart + 16384 - 1024)), .mAdd lane 13 13 11, .mOut lane 0 13,
   .mAddi lane 14 31 6, .mOut lane 1 14, .mEnd lane]
/-- The outer loop's bindings (R238): OFFSET and ARM of the region pond, and the slot that the pre-boost loop reads. -/
def outerBinds (pond : NodeId) (pidpart r : Nat) : List Word :=
  [BitVec.ofNat 32 (0x10030000 + pond.toNat), BitVec.ofNat 32 (0x10090000 + pond.toNat), BitVec.ofNat 32 (0x40000000 + pidpart + r)]

/-! ### The pan sharing law (R241) -/

/-- SHARE of a pan, mA (R241): rnd(rnd(Q * L, 31) * w, 30). -/
def shareLaw (q l w : Int) : Int := satS32 (rnd (satS32 (rnd (q * l) 31) * w) 30)
/-- The sharing loop's listing (R241) at address `at_`: slot LIVE by its base; s0 holds the region number. -/
def shareListing (lane at_ live : Nat) : List Instr :=
  [.mLds lane 9 31 0, .mLdh lane 10 9 (BitVec.ofNat 16 (0x0B * 1024)), .mBbs lane 10 0 (BitVec.ofNat 13 (at_ + 9)),
   .mLdh lane 8 9 (BitVec.ofNat 16 (0x08 * 1024)), .mLdi lane 11 9 0 (BitVec.ofNat 14 live), .mMulq lane 12 8 11 31,
   .mCld lane 13 0 false false 0, .mMulq lane 12 12 13 30, .mOut lane 0 12, .mEnd lane]

/-- A listing placed in instruction memory (R212, R232). -/
def placeListing (imem : Tbl (BitVec 32)) (at_ : Nat) (xs : List Instr) : Tbl (BitVec 32) :=
  xs.zipIdx.foldl (fun t x => t.set 0 (at_ + x.2) ((mcode x.1).getD 0)) imem

/-! ### Estimate and kerf (R303 to R306) -/

/-- The figures of an estimate (R303), in 1/256 W: dynamic, static, the calibrated estimate p and the uncalibrated `raw`. -/
structure Estimate where
  dyn : Int
  st : Int
  p : Int
  raw : Int
  deriving DecidableEq, Repr
/-- The gain and offset of a run (R303): the maker's gain with 15 per cent and the maker's offset while CALG or CALO is stale. -/
def calInUse (stale : Bool) (g o makerG makerO : Int) : Int × Int := if stale then (makerG * 115 / 100, makerO) else (g, o)
/-- One run's estimate (R303): `count` events at mean voltage `v`, coefficients v0, c0 and c_s, gain `g` in Q2.29, offset `o`, bias `b`. -/
def estimate (c0 v0 cs count v g o b : Int) : Estimate :=
  let base := Int.tdiv (c0 * count * v * v) (v0 * v0)
  let dyn := g * base / 2 ^ 29
  let st := g * cs / 2 ^ 29 + Int.tdiv o 1000 + b
  { dyn := dyn, st := st, p := dyn + st, raw := base + cs }
/-- The stale path (R305): the measured epoch power stands in for the count, and nothing joins the mailbox sum. -/
def estimateStale (cs m g o b : Int) : Estimate :=
  let st := g * cs / 2 ^ 29 + Int.tdiv o 1000 + b
  { dyn := max 0 (m - st), st := st, p := max 0 (m - st) + st, raw := 0 }
/-- A run takes the stale path (R305): the marker, an age above 4,800 CKE cycles, or a stale slot. -/
def takesStale (count : Word) (age : Nat) (stale : Bool) : Bool := decide (count = 0xFFFFFFFF) || decide (4800 < age) || stale
/-- The honesty bias after a roll-up close (R304): `m` the measured epoch power, `mean` the mean p of the epoch's runs, none without a
run. -/
def biasStep (b m : Int) : Option Int → Int
  | none => b
  | some mean => if mean + Int.tdiv mean 16 < m then max (Int.tdiv b 2) (m - mean) else Int.tdiv b 2
/-- The mailbox word after a run (R244): the running sum of `raw` modulo 2^31, and the stale flag. -/
def mailboxStep (w : Word) (e : Estimate) (stale : Bool) : Word :=
  let sum := (w.toNat % 2 ^ 31 + e.raw.toNat) % 2 ^ 31
  BitVec.ofNat 32 (sum + if stale then 2 ^ 31 else 0)

/-- The kerf ratio (R306), in 1/64: `a` the allowance, `st` and `dyn` the estimate, `kPrev` the ratio last sent, `kdown` the largest fall. -/
def kerfLaw (a st dyn : Int) (kPrev kdown : Nat) : Nat :=
  let d := Int.tdiv (dyn * 64) (64 - kPrev)
  let kn : Int := if a ≤ st then 60 else if d = 0 then 0 else 64 - Int.tdiv (64 * (a - st)) d
  let kn := (clampI kn 0 60).toNat
  if kn + kdown < kPrev then kPrev - kdown else kn
/-- The kerf ratio that a run sends for a region (R306): its committed allowance, 32 units a grain, the ratio last sent, the committed
KDOWN. -/
def State.kerfRun (s : State) (r : Nat) (e : Estimate) : Nat :=
  kerfLaw (32 * (s.com.reg r).rallow) e.st e.dyn (s.reg r).krf.kLoop s.com.bud.kdown
/-- The run of the estimate-and-kerf jig of a region sends its ratio (R306, R307). -/
def State.runKerf (s : State) (r : Nat) (e : Estimate) : State := s.takeKerf r (BitVec.ofNat 32 (s.kerfRun r e))

/-! ### Calibration (R244, R245) -/

/-- The two-parameter least-squares fit of a region (R244, R245): gain in Q2.29, offset in 1/256 uJ per window, the covariance, the valid
windows to 64, the consecutive windows in which the clamp has acted. -/
structure CalFit where
  g : Int := 0
  o : Int := 0
  p00 : Rat := 1
  p01 : Rat := 0
  p11 : Rat := 1
  n : Nat := 0
  clamps : Nat := 0
  deriving DecidableEq, Repr
/-- The forgetting factor 1 - 2^-6 (R244). -/
def calLam : Rat := 63 / 64
/-- One window of the fit (R244): an invalid window changes nothing. The scaling of p is the jig's; here p is exact. -/
def CalFit.step (f : CalFit) (ewin eest : Word) : CalFit :=
  if ewin.getLsbD 31 || eest.getLsbD 31 then f
  else
    let x : Int := eest.toNat
    let err : Int := ewin.toNat - f.g * x / 2 ^ 29 - f.o
    let q0 : Rat := f.p00 * x + f.p01
    let q1 : Rat := f.p01 * x + f.p11
    let den : Rat := calLam + q0 * x + q1
    { f with
      g := f.g + (q0 * err / den).floor, o := f.o + (q1 * err / den).floor,
      p00 := (f.p00 - q0 * q0 / den) / calLam, p01 := (f.p01 - q0 * q1 / den) / calLam, p11 := (f.p11 - q1 * q1 / den) / calLam,
      n := min (f.n + 1) 64 }
/-- The gain and offset that the loop sends (R245), and whether the clamp acts. -/
def CalFit.out (f : CalFit) (makerG makerO : Int) : (Int × Int) × Bool :=
  if f.n < 64 then ((makerG * 115 / 100, makerO), false)
  else
    let g := clampI f.g (makerG / 2) (2 * makerG)
    ((g, f.o), decide (g ≠ f.g))
/-- The clamp's count (R245): in the eighth consecutive window p is reset and n starts anew. -/
def CalFit.judge (f : CalFit) (acted : Bool) : CalFit :=
  if acted = false then { f with clamps := 0 }
  else if 7 ≤ f.clamps then { f with p00 := 1, p01 := 0, p11 := 1, n := 0, clamps := 0 }
  else { f with clamps := f.clamps + 1 }

/-! ### Margin trim (R246) -/

/-- The margin-trim loop's state (R246): consecutive runs at or above the high threshold, and the band of the last run. -/
structure TrimFit where
  count : Nat := 0
  band : Nat := 0
  deriving DecidableEq, Repr
/-- One run (R246): the change requested, mV, with the state it leaves; `low` and `high` are c0 and c1. -/
def TrimFit.step (f : TrimFit) (slack low high : Int) (band : Nat) : Int × TrimFit :=
  if band ≠ f.band then (0, { count := 0, band := band })
  else if slack < low then (2, { f with count := 0 })
  else if slack < high then (0, { f with count := 0 })
  else if 15 ≤ f.count then (-1, { f with count := 0 })
  else (0, { f with count := f.count + 1 })
/-- The request word (R246): [7:0] the change, [15:8] the count, [31:16] the least slack. -/
def trimWord (change : Int) (count : Nat) (slack : Int) : Word :=
  BitVec.ofNat 32 (encS 8 change + 256 * (count % 256) + 65536 * encS 16 slack)

/-! ### The shim jig (R328) -/

/-- One run of the shim jig (R328): `t` the region's target, `m` its measured epoch power RE / 256, grains. -/
def shimLaw (i t m : Int) : Int := if t = 0 then 0 else clampI (i + roundR ((8 * (t - m) : Int) / (t : Rat))) 0 15

/-! ### The thermal loop (R366 to R370, R374, R451) -/

/-- The coefficients of a region's thermal loop (R366, R370). -/
structure ThCoefs where
  kq : CoefWord := {}
  ads : CoefWord := {}
  bds : CoefWord := {}
  asc : CoefWord := {}
  bsc : CoefWord := {}
  aca : CoefWord := {}
  alat : List CoefWord := []
  cg : CoefWord := {}
  cp : CoefWord := {}
  deriving DecidableEq, Repr
/-- The loop's state (R366 to R370): die, spreader and coolant in 1/64 C; confidence in 1/8 C; the heat of the previous step; the td of the
last 10 steps, newest first; whether it has been anchored; the heat used since EWIN refreshed; the correction and the steps it is
still added in. -/
structure ThFit where
  td : Int := 0
  ts : Int := 0
  tc : Int := 0
  sigma : Int := 0
  q : Int := 0
  hist : List Int := []
  anchored : Bool := false
  used : Int := 0
  corr : Int := 0
  left : Nat := 0
  deriving DecidableEq, Repr
/-- heat(r) of a step (R367): the last closed roll-up's energy times 12.5, and a tenth of the window's difference in each of the ten
steps after a refresh. -/
def ThFit.heat (f : ThFit) (re : Int) : Int := re * 25 / 2 + if 0 < f.left then f.corr else 0
/-- EWIN refreshes (R367): with bit 31 set no correction is made. -/
def ThFit.refresh (f : ThFit) (ewin : Word) : ThFit :=
  if ewin.getLsbD 31 then f else { f with corr := Int.tdiv (ewin.toNat - f.used) 10, left := 10, used := 0 }
/-- One step (R366, R370): `tdn` the neighbours' td, `tin` the inlet. -/
def ThFit.step (f : ThFit) (k : ThCoefs) (re tin : Int) (tdn : List Int) : ThFit :=
  let q := f.heat re
  let lat := ((tdn.zip k.alat).map fun x => coefMul (f.td - x.1) x.2).sum
  let fd := coefMul q k.kq - coefMul (f.td - f.ts) k.ads - lat
  let fs := coefMul (f.td - f.ts) k.bds - coefMul (f.ts - f.tc) k.asc
  let fc := coefMul (f.ts - f.tc) k.bsc - coefMul (f.tc - tin) k.aca
  { f with
    td := satS32 (f.td + fd), ts := satS32 (f.ts + fs), tc := satS32 (f.tc + fc), q := q, used := f.used + q, left := f.left - 1,
    sigma := f.sigma + coefMul 1 k.cg + coefMul (q - f.q).natAbs k.cp, hist := (f.td :: f.hist).take 10 }
/-- A reading anchors the model (R374): its jump never enters the slope. -/
def ThFit.anchor (f : ThFit) (reading : Int) : ThFit :=
  let d := reading - f.td
  { f with
    td := reading, ts := f.ts + Int.tdiv d 2, sigma := 8, anchored := true,
    hist := if f.anchored then f.hist.map (· + d) else List.replicate 10 reading }
/-- Three forced readings have failed (R451): the highest successful one among the thermal neighbours plus 10 C, or TINLET + 40 C. -/
def ThFit.anchorFailed (f : ThFit) (neighbours : List Int) (tinlet : Int) : ThFit :=
  let t := match neighbours with
    | [] => 64 * (tinlet + 40)
    | x :: xs => xs.foldl max x + 640
  { f.anchor t with sigma := 255 }
/-- The slope (R368): td less the td 1 ms, ten steps, earlier; 0x8000 while the model has not been anchored since BOOT. -/
def ThFit.slope (f : ThFit) : Nat := if f.anchored then encS 16 (f.td - (f.hist.getLast?).getD f.td) else 0x8000
/-- out0 (R368): td in [15:0], the slope in [31:16]. -/
def ThFit.out0 (f : ThFit) : Word := BitVec.ofNat 32 (encS 16 f.td + 65536 * f.slope)
/-- out1 (R368): td in [15:0], the confidence in [23:16], bit 24 where it exceeds CONFTHR. -/
def ThFit.out1 (f : ThFit) (confthr : Nat) : Word :=
  BitVec.ofNat 32 (encS 16 f.td + 65536 * (min f.sigma 255).toNat + if (confthr : Int) < f.sigma then 2 ^ 24 else 0)

end Sys2Proof.Machine
end

