-- ==== Sys2Proof/Tests/Slice0.lean ====
section
/-! SUPPORT. Tests of the model on small states: the checks of `Instr.wf`, the words and the arithmetic of the worked example, and
states that meet the hypotheses of statements. -/

open Sys2Proof Sys2Proof.Machine

/-! ### Well-formed and ill-formed terms, one for each check of `Instr.wf` -/

theorem test_wf_node : Instr.wf (.parentPathTimeout 8192) = true ∧ Instr.wf (.parentPathTimeout 8193) = false := by decide
theorem test_wf_port : Instr.wf (.parityLimitReached 1 95) = true ∧ Instr.wf (.parityLimitReached 1 96) = false := by decide
theorem test_wf_phase : Instr.wf (.wakeElapsed 39) = true ∧ Instr.wf (.wakeElapsed 40) = false := by decide
theorem test_wf_region : Instr.wf (.fenceTimeout 1023) = true ∧ Instr.wf (.fenceTimeout 1024) = false := by decide
theorem test_wf_lane : Instr.wf (.mNop 71) = true ∧ Instr.wf (.mNop 72) = false := by decide
theorem test_wf_offset : Instr.wf (.lowWordRead 0xFFFC) = true ∧ Instr.wf (.lowWordRead 0xFFFE) = false ∧
    Instr.wf (.lowWordRead 0x10000) = false := by decide
theorem test_wf_hint : Instr.wf (.bwait ⟨15, 0, false, 1023, 0⟩) = true ∧ Instr.wf (.bwait ⟨16, 0, false, 0, 0⟩) = false ∧
    Instr.wf (.bwait ⟨0, 0, false, 1024, 0⟩) = false := by decide
theorem test_wf_frame : Instr.wf (.xfer ⟨1, 1, 1, 2, 3, 4, 5, 6, 7, -32768, 0, 0, 0, 0⟩) = true ∧
    Instr.wf (.xfer ⟨1, 1, 1048576, 2, 3, 4, 5, 6, 7, 0, 0, 0, 0, 0⟩) = false ∧
    Instr.wf (.xfer ⟨1, 1, 1, 2, 3, 4, 5, 6, 7, 32768, 0, 0, 0, 0⟩) = false := by decide
theorem test_wf_slew : Instr.wf (.slewStep (.panSet 8193)) = false ∧ Instr.wf (.slewStep (.railSet .vib)) = true := by decide
theorem test_wf_model : Instr.wf (.setPointModelStep (.region 1024)) = false ∧ Instr.wf (.setPointModelStep (.rail .vqa)) = true := by decide
theorem test_wf_memory : Instr.wf (.scrubError .coef 16384 true) = false ∧ Instr.wf (.scrubError .state 65536 true) = false ∧
    Instr.wf (.scrubError .imem 8192 true) = false ∧ Instr.wf (.scrubError .imem 8191 true) = true := by decide
theorem test_wf_field : Instr.wf (.mExt 0 1 2 31 0 false) = true ∧ Instr.wf (.mExt 0 1 2 31 1 false) = false := by decide
theorem test_wf_index : Instr.wf (.mCmac 0 0 1 5 true 0) = true ∧ Instr.wf (.mCmac 0 0 1 5 false 0) = false := by decide
theorem test_wf_shift : Instr.wf (.mAld 0 0 1 32) = true ∧ Instr.wf (.mAld 0 0 1 33) = false := by decide
theorem test_wf_counts : Instr.wf (.exceptionRange 1 ⟨false, 1⟩ 4 0) = false ∧ Instr.wf (.childPortRange 1 ⟨false, 1⟩ 16 0) = false ∧
    Instr.wf (.desc 0 1 5 16 false 0 0) = false ∧ Instr.wf (.time 1 ⟨false, 1⟩ 4800 0 0) = false ∧
    Instr.wf (.snapshotReady 5) = false ∧ Instr.wf (.engineTimerTick 64) = false ∧ Instr.wf (.dbgStoreWrite 11 []) = false ∧
    Instr.wf (.ledgerWriteBack (2 ^ 20)) = false ∧ Instr.wf (.dvtRetrain 4) = false ∧ Instr.wf (.hntRdyFall 16) = false ∧
    Instr.wf (.escrowRetry 32 0) = false ∧ Instr.wf (.tracePoint (.budget 0 1024)) = false ∧ Instr.wf (.logEntry (.host 0 none) 0 0) = false ∧ Instr.wf (.hntRdyFall 15) = true := by decide

/-! ### The words of the worked example of spec/07_mulith_isa.md, each as its encoding writes it -/

theorem test_decode_ldt : mdecode 0 0xCD000000 = some (.mLdt 0 8 0 0) := by decide
theorem test_decode_ext : mdecode 0 0x850801E0 = some (.mExt 0 8 8 0 15 false) := by decide
theorem test_decode_lds : mdecode 0 0xC13F0000 = some (.mLds 0 9 31 0) := by decide
theorem test_decode_sub : mdecode 0 0x09494000 = some (.mSub 0 10 9 8) := by decide
theorem test_decode_cmac : mdecode 0 0xA8500000 = some (.mCmac 0 0 10 0 false 0) := by decide
theorem test_decode_amov : mdecode 0 0xB4160006 = some (.mAmov 0 11 0 0) := by decide
theorem test_decode_out : mdecode 0 0xD80B0000 = some (.mOut 0 0 11) := by decide
theorem test_decode_end : mdecode 0 0xFC000000 = some (.mEnd 0) := by decide
/-- A field marked zero that is not zero makes the word illegal (R212, R214). -/
theorem test_decode_illegal : mdecode 0 0xFC000001 = none ∧ mdecode 0 0x00000000 = none ∧ mdecode 0 0x09494001 = none := by decide
/-- The arithmetic of the worked example: -96 times the coefficient with shift -31 is -4. -/
theorem test_worked_example : cmacW 0 (-96) ⟨0x0599999A, -31⟩ false = (-4, false) := by decide

/-! ### States that meet the hypotheses of the statements with basis 'stated' -/

/-- A converter with two main phases in the given states, VIB in REG. -/
def tConv (a b : Phase) : State :=
  ({ State.reset with
      com := { State.reset.com with conv := { State.reset.com.conv with fitted := 3, shedPermit := true, minph := 0 } },
      conv := { State.reset.conv with vib := { State.reset.conv.vib with st := .reg }, ntarget := 1 } }).updPhase 0 (fun _ => a) |>.updPhase 1 fun _ => b
/-- A pan at node 1 whose cell is rated 2.0 A. -/
def tPan (p : Pan) : State :=
  (State.reset.updNode 1 fun _ => { kind := .pan, id := 1, rating := 20 }).updPan 1 fun _ => p

/-- For ProvisionalPhasesAreShed, at both ends of the slots. -/
theorem test_witness_provisional :
    ((State.reset.updPhase 0 fun _ => { st := .provisional }).phase 0).st = .provisional ∧
    ((State.reset.updPhase 39 fun _ => { st := .provisional }).phase 39).st = .provisional := by decide
/-- For ShedBeginsUnderItsConditions: with SHEDMAX exactly reached, slot 1 is shed; a state without the permit fails them. -/
theorem test_witness_shed :
    let s := tConv { st := .active } { st := .active }
    (s.com.conv.shedPermit = true ∧ (s.rail .vib).st = .reg ∧ s.target < (s.mainsIn .active).length ∧
      s.com.conv.minph < (s.mainsIn .active).length ∧ s.anyIn .wake = false ∧ s.anyIn .admitting = false ∧
      s.conv.shedHold = none ∧ s.conv.lastShed = none ∧ 1 ∈ s.mainsIn .active ∧ (∀ m ∈ s.mainsIn .active, m ≤ 1) ∧
      s.com.conv.shedmax ≤ s.com.conv.shedmax * ((s.mainsIn .active).length - 1)) ∧
    ({ s with com := { s.com with conv := { s.com.conv with shedPermit := false } } } : State).com.conv.shedPermit = false := by decide
/-- For ComparatorConflictFallsBackToLocalSense. -/
theorem test_witness_conflict :
    ((tPan { droopFired := true, overFired := true, bst := true }).pan 1).droopFired = true ∧
    ((tPan { droopFired := true, overFired := true, bst := true }).pan 1).overFired = true := by decide
/-- For TrimsAndLockAreFrozenInDiodeEmulation: at a mean current one step above 12 % of the rating. -/
theorem test_witness_emulation :
    ((tPan { de := true, trimA := 3 }).pan 1).de = true ∧ 12 * ((tPan { de := true }).node 1).rating < 241 := by decide
/-- For CarryRaisesTheContinuousLimit: a running pan with and without carry, at its limit and one above it. -/
theorem test_witness_carry :
    let s := tPan { st := .run, par := { carryPermit := true } }
    let u := tPan { st := .run }
    (s.pan 1).carryOn = true ∧ s.isPan 1 = true ∧ (s.pan 1).st.runs = true ∧ (s.pan 1).excur = .none ∧ s.contLimit 1 = 2500 ∧
    (u.pan 1).carryOn = false ∧ u.contLimit 1 = 2000 ∧ u.contLimit 1 < 2001 := by decide

/-! ### States that meet the hypotheses of the statements about the tree and the pans -/

/-- A state with the packet alone on one link direction. -/
def tWire (s : State) (l : LinkId) (d : Dir) (p : Packet) : State := s.updDir l d fun x => { x with wire := [p] }
/-- The packet on the link from the parent of node 1. -/
def tDown (s : State) (p : Packet) : State := tWire s { node := 1, path := .primary } .down p
/-- The packet on the link up from node `n`. -/
def tUp (s : State) (n : Nat) (p : Packet) : State := tWire s { node := n, path := .primary } .up p
/-- A pond at node 1 with the pan 2 on its port 0, enumerated, as region 0 of the image with its other pan 3. -/
def tTree : State :=
  let s := (State.reset.updNode 1 fun _ => { kind := .pond, id := 1, subHi := 3, roster := 1, height := 1, held := { closed := true }, rollup := { sent := false } }).updNode 2 fun _ =>
    { kind := .pan, id := 2, subHi := 2, parent := 1, rating := 20, depth := 2 }
  let s := s.updNode 3 fun _ => { kind := .pan, id := 3, subHi := 3, parent := 1, port := 1, rating := 20, depth := 2 }
  s.updSys fun y => { y with image := { y.image with regs := [(0, { defined := true, pond := 1, pans := [2, 3] })], nodes := [(1, 1), (2, 2), (3, 3)] } }
/-- The header of a packet for node 1. -/
def tH : Hdr := { bc := false, dst := 1 }
/-- The header of a packet for every node. -/
def tB : Hdr := { bc := true, dst := 0xFFFF }

/-- For StagePacketsAreHeldUntilTheVerdict: a STAGE for the pan and a broadcast one. -/
theorem test_witness_stage : (tDown (tPan {}) (stagePkt tH 0x64 7 0)).isFor 1 tH = true ∧ (tDown (tPan {}) (stagePkt tH 0x64 7 0)).hasDown 1 (stagePkt tH 0x64 7 0) = true ∧
    (tPan {}).isPan 1 = true ∧ (tPan {}).isFor 1 tB = true := by decide
/-- For PanWritesTakeEffectOnArrival, WritesOnTheBoundaryCycleWait and CalibrationLoadsWaitForTheBoundary: off and on the first cycle of the boundary. -/
theorem test_witness_writes :
    let s := tDown (tPan {}) (writePkt tH 0x03 0xFF)
    (1 : Nat) ≠ 0 ∧ s.isFor 1 tH = true ∧ s.hasDown 1 (writePkt tH 0x03 0xFF) = true ∧ s.onBoundary 1 = false ∧ s.isPan 1 = true ∧
    ({ s with now := epochT } : State).onBoundary 1 = true ∧ ({ s with now := epochT + cksT } : State).onBoundary 1 = false ∧
    (tDown (tPan {}) (writePkt tH 0x5F 1)).hasDown 1 (writePkt tH 0x5F 1) = true ∧ (tDown (tPan {}) (writePkt tH 0x5C 1)).hasDown 1 (writePkt tH 0x5C 1) = true := by decide
/-- For PondRegistersAreWritten: the last entry of each table. -/
theorem test_witness_pond :
    let s := tDown tTree (writePkt tH 0x8F 0xFFFF0000)
    s.isFor 1 tH = true ∧ s.isPan 1 = false ∧ s.hasDown 1 (writePkt tH (0x80 + 15) 0xFFFF0000) = true ∧
    (tDown tTree (writePkt tH 0x78 5)).hasDown 1 (writePkt tH (0x72 + 2 * 3) 5) = true ∧ (tDown tTree (writePkt tH 0x70 5)).hasDown 1 (writePkt tH 0x70 5) = true := by decide
/-- For UnimplementedSelIsReported: a STAGE and a WRITE, at a pan and broadcast at a pond. -/
theorem test_witness_sel :
    (tPan {}).implements 1 tH true 0x05 = false ∧ (tPan {}).implements 1 tH false 0x00 = false ∧ tTree.implements 1 tB false 0x6F = false ∧
    (tDown tTree (writePkt tB 0x6F 9)).hasDown 1 (writePkt tB 0x6F 9) = true ∧ tTree.isFor 1 tB = true := by decide
/-- For SetsAreAnsweredAndVerdictsKept. -/
theorem test_witness_sets :
    (tDown (tPan {}) (stagePkt tH 0xFF 1 65535)).hasDown 1 (stagePkt tH 0xFF 1 (BitVec.ofNat 32 (65535 % 65536))) = true ∧
    (tDown (tPan {}) (stagePkt tH 0xFE 1 0)).hasDown 1 (stagePkt tH 0xFE 1 0) = true ∧
    (tDown (tPan {}) (verdictPkt tH 1 true 5)).hasDown 1 (verdictPkt tH 1 true 5) = true ∧
    (tDown (tPan {}) (verdictPkt tH 1 false 0)).hasDown 1 (verdictPkt tH 1 false 0) = true := by decide
/-- For GlueUpCommitsAtTheBoundary and EpochClockAndTreeArrivalsComplete: GUARD with no set, and a set in hand. -/
theorem test_witness_glue :
    let s := State.reset.updHw fun h => { h with bstate := .guard_ }
    let u := s.updStg fun g => { g with hand := { g.hand with active := true } }
    s.hw.bstate ≠ .off ∧ s.stg.closed = false ∧ s.commits = false ∧ s.stopDue = false ∧
    u.stg.hand.active = true ∧ u.stg.hand.verdict = none ∧
    (let v := u.updStg fun g => { g with hand := { g.hand with verdict := some true, writes := [{ cw := .recompute, src := .firmware }] } }
     v.commits = true ∧ v.stopDue = false ∧ v.com.guardStop = false) := by decide
/-- For LinkCommandsMoveCredits: a credit on its way back, a packet on the wire, two starved audits, a reset and its confirmation. -/
theorem test_witness_links :
    let l : LinkId := { node := 1, path := .primary }
    let d : LinkDir := { backC := 1, creditC := 0, zeroC := 2 }
    0 < d.back .c ∧ d.credit .c = 0 ∧ 2 ≤ d.zero .c ∧ d.onWire .c < buffers .c ∧
    ((tDown (tPan {}) (linkPkt 1 0 0 0)).dir l .down).holds (linkPkt 1 0 0 0) = true ∧
    ((tDown (tPan {}) (linkPkt 2 0 0 0)).dir l .down).wire = [linkPkt 2 0 0 0] ∧
    ((tDown (tPan {}) (linkPkt 3 0 0 0)).dir l .down).holds (linkPkt 3 0 0 0) = true := by decide
/-- For LinkCommandsKeepTheCreditInvariant: reset keeps it, and an audit that finds one lost class C packet is exact. -/
theorem test_witness_audit : let x : LinkDir := { lostC := 1, creditC := 3 }
    x.Balanced ∧ (1 % 256 + 256 - x.recvC.toNat) % 256 = x.lostC ∧ (0 % 256 + 256 - x.recvT.toNat) % 256 = x.lostT := by
  refine ⟨fun k => by cases k <;> decide, by decide, by decide⟩
/-- For AnswersAndRollupsClimbTheTree: at the pond 1 from its pan 2, and at the hub from the pond 1. -/
theorem test_witness_answers :
    let a := ackPkt 2 0 true 1 0
    (tUp tTree 2 a).awaits 1 2 a = true ∧ (tTree.node 1).held.closed = true ∧ (tTree.node 1).acks = [] ∧
    (tUp tTree 3 a).fromBelow 1 a ≠ none ∧ (tUp tTree 3 a).awaits 1 2 a = false ∧
    (tUp tTree 1 (ackPkt 1 0 true 1 0)).fromBelow 0 (ackPkt 1 0 true 1 0) ≠ none ∧
    (tTree.node 1).acked = false ∧ tTree.isPan 1 = false ∧ (tTree.node 1).rollup.sent = false ∧
    (tUp tTree 2 (rqPkt 2 0 9)).awaits 1 2 (rqPkt 2 0 9) = true ∧ tTree.regionFor 1 = some 0 ∧
    (tUp tTree 1 (rqPkt 1 0 9)).fromBelow 0 (rqPkt 1 0 9) ≠ none ∧
    (tUp tTree 2 (rmmPkt 2 0 true false {})).awaits 1 2 (rmmPkt 2 0 true false {}) = true ∧ (tTree.node 1).rollup.tag = 0 ∧
    (tUp tTree 1 (rmmPkt 1 7 true false {})).fromBelow 0 (rmmPkt 1 7 true false {}) ≠ none ∧ BitVec.ofNat 3 (tTree.epoch.toNat + 7) = 7 := by decide
/-- For PathsAndPacketsAtANode. -/
theorem test_witness_paths :
    let s := tTree.updNode 1 fun x => { x with spareParent := some 0, parity := [(7, 8), (31, 8)], ranges := [(0, { lo := 2, hi := 2, used := true })] }
    (s.node 1).id ≠ 0 ∧ (s.node 1).onSpare = false ∧ (s.node 1).spareParent.isSome = true ∧ (s.node 1).spareOff = false ∧ (s.node 1).badSpare = false ∧
    (tTree.node 1).spareParent = none ∧ 8 ≤ (s.node 1).parity.get 0 (s.node 1).parentPort ∧ 8 ≤ (s.node 1).parity.get 0 7 ∧
    (let p : Packet := pkt 0xE tH 0
     ((tDown s p).dir { node := 1, path := .primary } .down).wire.head? = some p ∧ p.ty = 0xE ∧ (s.receiver { node := 1, path := .primary } .down).1 = 1) ∧
    s.isFor 1 { bc := false, dst := 9 } = false ∧ s.portFor 1 9 = none ∧
    (tDown s (pkt 3 { bc := false, dst := 9 } 0)).hasDown 1 (pkt 3 { bc := false, dst := 9 } 0) = true ∧
    (tDown s (pkt 7 tH (timeBody 4799 1 0))).hasDown 1 (pkt 7 tH (timeBody 4799 1 0)) = true ∧ s.isFor 1 tH = true ∧
    (tDown s (pathPkt tH 1 2 2)).hasDown 1 (pathPkt tH 1 2 2) = true ∧ (tDown s (pathPkt tH 2 2 2)).hasDown 1 (pathPkt tH 2 2 2) = true ∧
    ((s.node 1).ranges.find? fun e => e.2.used && inRange e.2.lo e.2.hi 2).map Prod.fst = some 0 ∧
    (let u := State.reset.updNode 1 fun _ => { kind := .pan }
     (u.node 1).kind ≠ .absent ∧ (u.node 1).id = 0 ∧
     ((tDown u (probePkt 0 0 1)).dir { node := 1, path := .primary } .down).holds (probePkt 0 0 1) = true) := by decide
/-- For CommittedValuesApplyAtTheNodeBoundary: a pan that holds one committed SETPT for its coming epoch. -/
theorem test_witness_boundary :
    let s := (tPan {}).updNode 1 fun x => { x with held := { tag := 1, verdict := some true, stages := [⟨tH, 0, 1023⟩] } }
    (s.node 1).id ≠ 0 ∧ s.isPan 1 = true ∧ (s.node 1).kind.isSpare = false ∧ (s.node 1).held.tag = (s.node 1).epochNo.setWidth 3 + 1 ∧
    (s.node 1).held.verdict = some true ∧ (s.node 1).held.stages = [⟨tH, 0, 1023⟩] ∧ (s.pan 1).late = [] := by decide
/-- For EnumerationAndAdoptionAdvance: a DESC of the next ID, a port with a successor, a free way for an adoption. -/
theorem test_witness_enumeration :
    let s := (State.reset.updNode 1 fun _ => { kind := .pond, id := 1, subHi := 1, spareParent := some 0 }).updSys fun y =>
      { y with step := 5, enumAt := [(0, 0)], enumNext := 1, image := { y.image with nodes := [(1, 1)] } }
    let p := pkt 2 { bc := false, dst := 1 } (descBody 0 16 true 20 1)
    5 ≤ s.sys.step ∧ 0 + 1 < childPorts 0 ∧ s.sys.enumNext ≤ 0x2000 ∧ s.nodeById 1 = some 1 ∧ (1 : NodeId).toNat = s.sys.enumNext ∧
    s.sys.image.nodes.get 0 1 ≠ 0 ∧ (s.node 0).depth + 0 ≤ 15 ∧ (tUp s 1 p).fromBelow 0 p ≠ none ∧
    (tUp tTree 2 (pkt 2 { bc := false, dst := 2 } (descBody 1 0 true 20 1))).fromBelow 1 (pkt 2 { bc := false, dst := 2 } (descBody 1 0 true 20 1)) ≠ none ∧
    (tUp s 1 (adoptPkt 1 1)).fromBelow 0 (adoptPkt 1 1) ≠ none ∧
    ((s.adoptEntries 1 0 0).any fun e => decide (4 ≤ s.flt.excUsed.get 0 e.1)) = false ∧
    (tUp tTree 2 (adoptPkt 2 2)).fromBelow 1 (adoptPkt 2 2) ≠ none := by decide
/-- For CurrentLimitsAndTrimsOfAPan: each limit at its first value beyond it, on a cell of 2.0 A. -/
theorem test_witness_limits :
    let s := tPan { st := .run, hga := true, hgb := true, satA := 64, satB := 64, periods := 256, par := { balance := true, dePermit := true } }
    s.isPan 1 = true ∧ (s.pan 1).st.runs = true ∧ (s.pan 1).excur = .none ∧ 100 * (s.node 1).rating < 2001 ∧ 2600 ≤ 130 * (s.node 1).rating ∧
    ((tPan { excur := .active }).pan 1).excur = .active ∧ ((tPan { excur := .holdoff }).pan 1).excur = .holdoff ∧
    (s.pan 1).hga = true ∧ s.peakLimit 1 ≤ 1800 ∧ (s.pan 1).sent.getLsbD 1 = false ∧ ((tPan { sent := 2 }).pan 1).sent.getLsbD 1 = true ∧
    s.privPan 1 = false ∧ (s.pan 1).armed ≠ 2 ∧ 159 < 8 * (s.node 1).rating ∧ 12 * (s.node 1).rating < 241 ∧
    (s.pan 1).par.balance = true ∧ (s.pan 1).de = false ∧ (s.pan 1).bst = false ∧ (s.pan 1).balAt + 256 ≤ (s.pan 1).periods ∧
    64 ≤ (s.pan 1).satA ∧ (s.pan 1).sent.getLsbD 4 = false ∧ (s.pan 1).st = .run ∧ (s.pan 1).starting = false ∧ (s.pan 1).shareAt + 64 ≤ (s.pan 1).periods := by decide
/-- For TransientCircuitsFireAndRelease: the droop and overshoot thresholds one code beyond, armed, disarmed and pre-armed. -/
theorem test_witness_transients :
    let p : Pan := { st := .run, instSet := 450, par := { boostArm := 1, shuntEn := true } }
    let s := tPan p
    let q := s.pan 1
    s.isPan 1 = true ∧ q.st.runs = true ∧ q.armed ≠ 0 ∧ q.fired < q.par.boostMax ∧
    ((16 * (q.target - q.par.droopNorm) - 1).toNat : Int) < 16 * (q.target - (if q.armed = 2 then q.par.droopPre else q.par.droopNorm)) ∧
    ((tPan {}).pan 1).armed = 0 ∧ q.par.shuntEn = true ∧ 16 * (q.target + q.par.overshoot) < ((16 * (q.target + q.par.overshoot) + 1).toNat : Int) ∧
    (let f := (tPan { p with droopFired := true, bst := true }).pan 1
     f.droopFired = true ∧ f.bst = true ∧ f.overFired = false ∧ 16 * (f.target - (f.droopMv - 2 : Nat)) ≤ ((16 * f.target).toNat : Int) ∧ f.sent.getLsbD 2 = false) ∧
    (let o := (tPan { p with overFired := true, shn := true }).pan 1
     o.overFired = true ∧ o.droopFired = false ∧ o.shn = true ∧ (((0 : Nat) : Int)) ≤ 16 * (o.target + (o.par.overshoot - 2 : Nat))) ∧
    ((tPan { fired := 255 }).pan 1).par.boostMax ≤ ((tPan { fired := 255 }).pan 1).fired := by decide
/-- For ModulatorsAndSlewsStep. -/
theorem test_witness_modulators :
    let s := tPan { st := .run, instSet := 450, instOff := 1, periods := 64, par := { setpt := 451 } }
    let q := s.pan 1
    s.isPan 1 = true ∧ s.privPan 1 = false ∧ q.st.runs = true ∧ q.overFired = false ∧ q.de = false ∧ q.lockAt + 64 ≤ q.periods ∧
    ((0 : Nat) : Int) + 16 * rippleMv q.par.ripple * ((0 : Nat) % 256 : Nat) / 256 < 16 * q.target + 4 * q.trimNow s.now + 8 * rippleMv q.par.ripple ∧
    q.st ≠ .prebias ∧ q.instSet < q.par.setpt ∧ q.instOff ≠ q.offTarget ∧
    (let u := (State.reset.updNode 1 fun _ => { kind := .privPan, id := 1 }).updPan 1 fun _ => { st := .run }
     u.isPan 1 = true ∧ u.privPan 1 = true ∧ (u.pan 1).st.runs = true ∧ (u.pan 1).nextB = false) ∧
    (let u := State.reset.updRail .vib fun q => { q with inst := 5000, off := 1, offReq := 0, model := 5000 }
     (u.rail .vib).inst ≠ u.railSet .vib ∧ (u.rail .vib).off ≠ (u.rail .vib).offReq ∧ (u.rail .vib).model ≠ u.railSet .vib) ∧
    (let u := tTree.updReg 0 fun x => { x with model := -3 }
     u.hasReg 0 = true ∧ (u.reg 0).model < ((u.com.reg 0).setpt : Int) - 1 ∧
     ((u.updReg 0 fun x => { x with model := ((u.com.reg 0).setpt : Int) - 1 }).reg 0).model = ((u.com.reg 0).setpt : Int) - 1) := by decide
/-- For PansPassThroughTheirStates. -/
theorem test_witness_pan_states :
    let s := tPan { st := .run, par := { loopWd := true } }
    s.isPan 1 = true ∧ max 1600 0 - min 1600 0 ≤ 1600 ∧ 1600 < max 1601 0 - min 1601 0 ∧ (s.pan 1).local_ = false ∧ ((tPan { local_ := true }).pan 1).local_ = true ∧
    (s.pan 1).fltN = true ∧ (s.pan 1).st.runs = true ∧ ((tPan { fltN := false }).pan 1).fltN = false ∧
    ((tPan { st := .prebias }).pan 1).st = .prebias ∧ ((tPan { st := .prebias }).pan 1).rampOut = false ∧
    ((tPan { st := .shadow, frac := 62 }).pan 1).frac < 63 ∧ ((tPan { st := .shadow, frac := 63 }).pan 1).frac = 63 ∧ ((tPan { rampOut := true }).pan 1).rampOut = true ∧
    (s.pan 1).par.loopWd = true ∧ (s.pan 1).overFired = false ∧
    (let e := eventPkt 2 0x15 1
     let u := tUp tTree 2 e
     (2 ∈ u.children 1) ∧ u.isPan 2 = true ∧ (u.dir (u.upLink 2) .up).holds (eventPkt (u.node 2).id 0x15 1) = true) := by decide
/-- For SenseConvertersAndWindowsAct. -/
theorem test_witness_sense :
    let s := tPan { st := .run, instSet := 450, fast := { st := .armed }, par := { calEn := true, streamInt := [(0, 1)], streamKind := [(0, 1)] } }
    let q := s.pan 1
    s.isPan 1 = true ∧ q.st = .run ∧ q.par.calEn = true ∧ q.sense.c = .spare ∧ q.sense.cFor = 0 ∧ q.sense.a ≠ .failed ∧ q.sense.b ≠ .failed ∧
    (q.sense.runs + 1) % 64 ≠ 0 ∧ q.sense.shadowB = false ∧ q.sense.updA < 31 ∧ q.sense.d ≠ .failed ∧ q.sense.lost = 0 ∧ q.sense.swapA = false ∧
    q.fast.st = .armed ∧ q.fast.sentFirst = false ∧ q.sense.working = 2 ∧ q.par.streamInt.get 0 0 ≠ 0 ∧ q.par.streamKind.get 0 0 = 1 ∧ q.streamTurn 0 = true ∧
    (let f := (tPan { sense := { a := .failed, c := .inUse, lost := 2 }, contact := { n := 1000, excess := 64 } }).pan 1
     f.sense.a = .failed ∧ f.sense.b ≠ .failed ∧ f.sense.c ≠ .spare ∧ f.sense.lost = 2 ∧ f.contact.n = 1000 ∧ f.contact.formed = false ∧
     64 ≤ f.contact.excess ∧ f.contact.stopped = false) ∧
    ((tPan { fast := { st := .exitedLow } }).pan 1).fast.st = .exitedLow ∧ ((tPan { fast := { st := .exitedHigh } }).pan 1).fast.st = .exitedHigh ∧
    (let u := (tPan {}).updNode 1 fun x => { x with epochNo := 4 }
     (u.node 1).id ≠ 0 ∧ (u.node 1).epochNo.toNat % 32768 = (u.node 1).id.toNat * 4 % 32768) := by decide
/-- For the window clauses of SenseConvertersAndWindowsAct, at a target of 300 mV: raw pairs below, above and inside the band. -/
theorem test_witness_windows :
    let q : Pan := { st := .run, instSet := 450, fast := { st := .armed } }
    (q.sense.pairAvg (16 * 160) (16 * 160) : Int) < 16 * (q.target - q.par.fwBelow) ∧
    16 * (q.target + q.par.fwAbove) < (q.sense.pairAvg (16 * 300) (16 * 300) : Int) ∧
    16 * (q.target - q.par.fwBelow + q.par.fwHyst) ≤ (q.sense.pairAvg (16 * 200) (16 * 200) : Int) ∧
    (q.sense.pairAvg (16 * 200) (16 * 200) : Int) ≤ 16 * (q.target + q.par.fwAbove - q.par.fwHyst) := by
  refine ⟨?_, ?_, ?_, ?_⟩ <;> decide +kernel

/-! ### The worked examples of the maker's library (spec/08_jigs.md, spec/11_budget_kerf.md) -/

/-- The announced step: a lead of 4.0 us and +28 A give the record 0x2580_0008 (R239, R240). -/
theorem test_prebias_record : preRecord { value := 0x251EB852, shift := -15 } { value := 0x000C0000, shift := 0 } 28 400 = 0x25800008 := by decide
/-- Rows 4.80 us and 6.80 us of the outer loop's table: OFFSET 10 and 9 with the integrator in Q16 (R238). -/
theorem test_outer_rows :
    let a := outerRun outerCoef { i := 0, y := 12000, pb := 8 } { vCtl := 12080, setpt := 450, vib := 28768, rec_ := 0x25800008, instant := 0, age := 5760 }
    let b := outerRun outerCoef { i := 117965, y := 11952, pb := 7 } { vCtl := 12032, setpt := 450, vib := 28800, rec_ := 0x25800008, instant := 0, age := 8160 }
    a.1.i = 117965 ∧ a.1.pb = 7 ∧ a.1.y = 11952 ∧ a.2.pid = 3 ∧ a.2.offset = 10 ∧
    b.1.i = 314573 ∧ b.1.pb = 2 ∧ b.1.y = 11920 ∧ b.2.pid = 7 ∧ b.2.offset = 9 := by decide
/-- The shares of 63 live pans and of 64 (R241). -/
theorem test_share_law : shareLaw 4864000 426088 (2 ^ 30) = 965 ∧ shareLaw 4864000 419430 (2 ^ 30) = 950 := by decide
/-- Region 40: the ratio 6 holds steady, and falls 4, 2, 0 with KDOWN 2 (R306). -/
theorem test_kerf_law : kerfLaw (32 * 324) (32 * 48) (32 * 304) 0 2 = 6 ∧ kerfLaw (32 * 324) (32 * 48) 8816 6 2 = 6 ∧
    kerfLaw (32 * 324) (32 * 48) (32 * 200 * 58 / 64) 6 2 = 4 ∧ kerfLaw (32 * 324) (32 * 48) (32 * 200 * 60 / 64) 4 2 = 2 ∧
    kerfLaw (32 * 324) (32 * 48) (32 * 200 * 62 / 64) 2 2 = 0 := by decide
/-- The outer loop's listing has 50 instructions, each of one word (R238). -/
theorem test_outer_listing : (outerListing 0 100 3072 4096).length = 50 ∧ ((outerListing 0 100 3072 4096).all fun i => (mcode i).isSome) = true := by decide

/-! ### States that meet the hypotheses of the statements about the engine, the hub, the converter and the host -/

/-- A lane in a run of loop 0 that stands at the word `w` in instruction word 0, with a limit of 100 slots. -/
def tRun (w : Word) : State :=
  (State.reset.updEng fun e => { e with imem := [(0, w)], loops := [(0, { used := true, rlim := 100 })] }).updLane 0 fun l =>
    { l with run := some { loop := 0, pc := 0, scribe := false, closed := false, startAt := 0, first := 0, posted := 0, deadline := 0, mask := 0 } }
/-- For the four statements about Mulith: ADD, the last word below the limit, MAC with its reads, a store, a taken branch, END. -/
theorem test_witness_mulith :
    let r : Run := { loop := 0, pc := 0, scribe := false, closed := false, startAt := 0, first := 0, posted := 0, deadline := 0, mask := 0 }
    Issues (tRun (encR 0x01 1 2 3 0)) 0 (encR 0x01 1 2 3 0) {} r ∧
    Issues (tRun (encR 0x10 1 2 3 0)) 0 (encR 0x10 1 2 3 0) { prod := .reg 1 } { r with slots := 0 } ∧
    (((tRun 0xFC000000).mrun 0).map Run.pc = some 0) := by
  refine ⟨?_, ?_, by decide⟩ <;> unfold Issues <;> decide
/-- A state in a service state. -/
def tRunning : State := (State.reset.updHw fun h => { h with bstate := .run, role := some .operator }).updSys fun y => { y with coreRun := true, ready := true, step := 12 }
/-- For NodeReportsReachTheFaultRecords. -/
theorem test_witness_reports :
    let e := fun c d => eventPkt 2 c d
    (tUp tTree 2 (e 0x11 1)).fromBelow 1 (e 0x11 1) ≠ none ∧
    (let h := fun c d => (tUp tTree 1 (e c d)).hubHas 2 c d
     h 0x05 0 = true ∧ h 0x13 1 = true ∧ h 0x24 1 = true ∧ h 0x15 1 = true ∧ h 0x15 0 = true ∧ h 0x18 2 = true ∧ h 0x18 (BitVec.ofNat 32 (1 + 65536 * 65535)) = true ∧
     h 0x20 256 = true ∧ h 0x39 65535 = true) ∧ tTree.nodeById 2 = some 2 ∧ tTree.regionOf 2 = some 0 ∧ (tTree.reg 0).tel.wxFast = false ∧
    (let s := tRunning.updFlt fun f => { f with windowAt := some 5, losses := [(2, 3)], sluAt := some 7 }
     s.flt.windowAt = some 5 ∧ s.sys.ready = true ∧ s.service = true ∧ s.flt.losses = [(2, 3)] ∧ s.flt.sluAt = some 7) ∧
    (tUp tTree 2 (samplePkt 2 1 7)).fromBelow 1 (samplePkt 2 1 7) ≠ none ∧ (tUp tTree 1 (samplePkt 2 1 7)).fromBelow 0 (samplePkt 2 1 7) ≠ none ∧
    tTree.eng.slotsOf (.sample 2 1) = [] ∧ (tTree.updEng fun x => { x with subs := [{ slot := 9, src := .sample 2 1 }] }).eng.slotsOf (.sample 2 1) = [9] ∧
    (State.reset.updStg fun g => { g with queue := [{ cw := .recompute, src := .firmware, defer := 4 }] }).stg.queue = [{ cw := .recompute, src := .firmware, defer := 4 }] := by decide
/-- For the faulted pan's return and the maker's fault order in NodeReportsReachTheFaultRecords. -/
theorem test_witness_returns :
    let s := ({ tTree with com := { tTree.com with regs := [(0, { state := .on })] } } : State).updReg 0 fun x => { x with overcap := 16, seq := { x.seq with st := .live } }
    let s := (s.updSys fun y => { y with ready := true }).updNflt 2 fun x => { x with st := .faulted }
    s.knownSt 2 = .faulted ∧ (s.nflt 2).stflt = false ∧ (s.nflt 2).rcause = 0 ∧ (s.nflt 2).returns < 3 ∧ (s.nflt 2).returning = 0 ∧ (s.nflt 2).keepOn = false ∧
    (s.flt.losses.any fun y => decide (y.1 = 2)) = false ∧ s.regionOf 2 = some 0 ∧ (s.reg 0).seq.st = .live ∧ s.hasReg 0 = true ∧
    (s.com.reg 0).state = .on ∧ (s.com.reg 0).forder = false ∧ 16 ≤ (s.reg 0).overcap := by decide
/-- For RollupsWindowsAndSnapshotsClose. -/
theorem test_witness_rollups :
    let s : State := { tRunning with epoch := 1, tel := { tRunning.tel with closed := false, rollups := 125, snaps := [(4, { filling := true, got := true })] } }
    s.tel.closed = false ∧ s.epoch ≠ 0 ∧ 125 ≤ s.tel.rollups ∧ s.sys.ready = true ∧ s.service = true ∧ s.recompWrites = [] ∧
    (s.tel.snaps.get {} 4).filling = true ∧ (s.tel.snaps.get {} 4).got = true := by decide
/-- For SchedulerChecksLanesAndMemory. -/
theorem test_witness_scheduler :
    let s := State.reset.updEng fun e => { e with
      timerAt := some 0, timers := [(63, { period := 1 })], subs := [{ slot := 9, src := .timer 63 }], dispatching := true,
      loops := [(0, { used := true, rlim := 100, sbase := 0, slen := 1 })], badWords := [8191] }
    s.eng.timerAt = some 0 ∧ (s.eng.timers.get {} 63).period ≠ 0 ∧ s.eng.slotsOf (.timer 63) = [9] ∧ s.eng.dispatching = true ∧
    (s.lane 0).st = .active ∧ (s.lane 0).run = none ∧ s.groupBusy 0 = false ∧ s.blockLoop 0 = some 0 ∧ s.eng.badWords.contains 8191 = true ∧
    ((s.updEng fun e => { e with input := [(3, { stale := false })] }).eng.input.get {} 3).stale = false ∧
    ((s.updLane 71 fun l => { l with st := .check, since := [0] }).lane 71).st = .check ∧ ((s.updLane 71 fun l => { l with st := .retest }).lane 71).st = .retest := by decide
/-- For ConverterLoopOutputsArrive, with slot 39 and the trim frozen in WAKE. -/
theorem test_witness_outputs :
    State.reset.mainsIn .provisional = [] ∧ State.reset.mainsIn .shed = [] ∧ State.reset.trimFrozen 39 = false ∧
    (State.reset.updPhase 39 fun p => { p with st := .wake }).trimFrozen 39 = true ∧ tTree.hasReg 0 = true ∧
    ((tTree.updReg 0 fun x => { x with krf := { x.krf with run60 := 63 } }).reg 0).krf.run60 = 63 ∧ State.reset.bud.capshort = false ∧
    State.reset.conv.engLoss = false ∧ (tRunning.updSys fun y => { y with engStopAt := some 3 }).sys.engStopAt = some 3 ∧ tRunning.service = true ∧ tRunning.sys.stop = .none := by decide
/-- For MainPhasesSwitchAndAreShed. -/
theorem test_witness_phases :
    let s := tConv { st := .active } { st := .active, pk := 8, overload := true, ends := 64 }
    s.conv.vib.st.switching = true ∧ s.conv.vib.heldLow = false ∧
    512 * ((0 : Nat) : Int) + 2 * mrippleMv s.com.conv.mripple * ((0 : Nat) % 256 : Nat) < 512 * s.railRef .vib + 256 * mrippleMv s.com.conv.mripple ∧
    8 ≤ (s.phase 1).pk ∧ (s.phase 1).overload = true ∧ 64 ≤ (s.phase 1).ends ∧ s.com.conv.shedPermit = true ∧ s.conv.vib.st = .reg ∧
    s.target < (s.mainsIn .active).length ∧ s.com.conv.minph < (s.mainsIn .active).length ∧ s.anyIn .wake = false ∧ s.anyIn .admitting = false ∧ s.conv.shedHold = none ∧
    (s.mainsIn .active).getLast? = some 1 ∧ ((0 : Nat) : Int) + s.com.conv.cdroop < s.railTarget .vib ∧ s.railTarget .vib ≤ ((2000 : Nat) : Int) + s.com.conv.cdroop := by decide
/-- For the PKLIM clause of MainPhasesSwitchAndAreShed: a phase in its on-time, at the limit. -/
theorem test_witness_pklim :
    let u := tConv { st := .active, pwm := .high, offAt := 50 } {}
    (u.phase 0).pwm = .high ∧ (u.phase 0).onAt ≤ nsOf u.now ∧ nsOf u.now < (u.phase 0).offAt ∧ u.com.conv.pklim ≤ u.com.conv.pklim := by decide +kernel
/-- For PhasesWakeFaultAndAreSpared, at slots 0 and 39. -/
theorem test_witness_spares :
    let s := tConv { st := .faulted, respDue := true, readmits := 3 } { st := .spare }
    (s.phase 0).st = .faulted ∧ (s.phase 0).respDue = true ∧ s.sparePhase 0 = some 1 ∧ (tConv { st := .faulted } {}).sparePhase 0 = none ∧ 3 ≤ (s.phase 0).readmits ∧
    ((State.reset.updPhase 39 fun _ => { st := .wake }).phase 39).st = .wake ∧ ((State.reset.updPhase 39 fun _ => { st := .admitting }).phase 39).s = 0 ∧
    ((State.reset.updPhase 39 fun _ => { st := .admitting, s := 63 }).phase 39).s < 64 ∧ ((State.reset.updPhase 39 fun _ => { st := .admitting, s := 64 }).phase 39).s = 64 ∧
    ((State.reset.updPhase 39 fun _ => { st := .active }).phase 39).st.running = true ∧ (State.reset.phase 39).st.running = false ∧
    (let u := { tConv { st := .active } {} with com := { State.reset.com with conv := { State.reset.com.conv with dePermit := true, minph := 1, fitted := 3 } } }
     let u := u.updConv fun c => { c with ntarget := 1, fires := 64 }
     u.com.conv.dePermit = true ∧ u.conv.vib.st = .reg ∧ (u.mainsIn .active).length = max u.target u.com.conv.minph ∧ u.anyIn .provisional = false ∧
     u.anyIn .wake = false ∧ u.anyIn .admitting = false ∧ u.conv.shedHold = none ∧ 100 * (-1 : Int) < 8 * (u.com.conv.phrate : Int) ∧
     12 * (u.com.conv.phrate : Int) < 100 * (10 ^ 6 : Int) ∧ u.conv.vib.de = false ∧ u.conv.vib.st.switching = true ∧ 64 * u.rotation.length ≤ u.conv.fires) ∧
    (let u := State.reset.updRail .vqc fun q => { q with st := .ramp }
     (u.rail .vqc).st.switching = true ∧ (u.rail .vqc).heldLow = false) := by decide
/-- For RailsStartRegulateAndStop, each state of a rail, and 1.10 times the reference exceeded by 1 mV. -/
theorem test_witness_rails :
    let at_ := fun st => State.reset.updRail .vqa fun q => { q with st := st }
    ((at_ .off).rail .vqa).st = .off ∧ ((at_ .fault).rail .vqa).ov = false ∧ ((at_ .delay).rail .vqa).st = .delay ∧ (at_ .delay).phase 39 = {} ∧
    ((at_ .ramp).rail .vqa).st = .ramp ∧ ((at_ .sdelay).rail .vqa).st = .sdelay ∧ ((at_ .sramp).rail .vqa).st = .sramp ∧
    0 < 100 * State.reset.com.conv.vinWarn ∧ State.reset.conv.vinLow = false ∧ 100 * State.reset.com.conv.vinWarn + 200 ≤ 20000 ∧
    11 * (at_ .reg).railRef .vqa < 10 * ((11 * ((at_ .reg).railRef .vqa).toNat / 10 + 1 : Nat) : Int) ∧
    (let u := (at_ .reg).updRail .vqa fun q => { q with ov := true }
     (u.rail .vqa).ov = true ∧ 97 * u.railRef .vqa ≤ 100 * (((u.railRef .vqa).toNat : Nat) : Int) ∧ 100 * (((u.railRef .vqa).toNat : Nat) : Int) ≤ 103 * u.railRef .vqa) := by decide
/-- For RailFaultsAndInputStopsEndTheRun. -/
theorem test_witness_stops :
    let s := tRunning.updRail .vib fun q => { q with st := .reg, watch := true, ov := true, heldLow := true }
    (s.rail .vib).watch = true ∧ (s.rail .vib).st = .reg ∧ 20 * 0 < 19 * s.railMv .vib ∧ s.service = true ∧ s.sys.nocfgRun = false ∧
    ¬ (20 * s.railMv .vib < 19 * s.railMv .vib ∨ 21 * s.railMv .vib < 20 * s.railMv .vib) ∧ (s.rail .vib).ov = true ∧ (s.rail .vib).heldLow = true ∧
    0 < 100 * s.com.conv.vinUnder ∧ s.hw.bstate ≠ .halted ∧ 100 * s.com.conv.vinUnder ≤ 100 * s.com.conv.vinOver ∧
    (let u := ((State.reset.updHw fun h => { h with bstate := .boot }).updSys fun y => { y with step := 8 }).updRail .vib fun q => { q with st := .fault }
     u.stepping = true ∧ u.sys.step = 8 ∧ (u.rail .vib).st = .fault ∧ (u.rail .vib).tried = false ∧ (u.rail .vib).ov = false ∧
     ((u.updRail .vib fun q => { q with tried := true }).rail .vib).tried = true) ∧
    (let u := ((State.reset.updHw fun h => { h with bstate := .halted }).updSys fun y => { y with hkind := 4 }).updConv fun c => { c with vinGoodAt := some 0 }
     u.conv.vinGoodAt = some 0 ∧ u.hw.bstate = .halted ∧ u.sys.hkind = 4) := by decide
/-- For the statements about host commands: an operator in RUN with the core ready, and a maker. -/
theorem test_witness_host :
    tRunning.hw.bstate ≠ .off ∧ tRunning.hw.bstate ≠ .guard_ ∧ tRunning.hw.bstate ≠ .boot ∧ tRunning.hw.role = some .operator ∧ tRunning.hw.queue = [] ∧
    tRunning.sys.ready = true ∧ tRunning.stg.closing = [] ∧ tRunning.stg.queue = [] ∧ tRunning.hw.wrbnd = 0 ∧
    tRunning.fwCheck 0x200 0 500 = true ∧ tRunning.fwCheck 0x208 0 0 = false ∧ wkind 0x200 = .ticket .operator ∧
    (tRunning.needRole 0x200 0 500 .operator).rank ≤ Role.operator.rank ∧ wkind 0x82C = .ticket .installer ∧
    (tRunning.tel.snaps.get {} 3).filling = false ∧ tTree.hasReg tTree.hw.regsel = true ∧ wkind 0x60 = .hw ∧ wkind 0x1000 = .hw ∧
    tRunning.attachCode 0x0301 = 0 ∧ tRunning.attachCode 0x0401 ≠ 0 ∧ wkind 0x3FFC = .unassigned ∧ (tRunning.updHw fun h => { h with role := none }).hw.role = none ∧
    (State.reset.updHw fun h => { h with bstate := .boot }).hw.bstate = .boot := by decide
/-- For HostCommandsThatTheFirmwareServes: the maker's commands, a tide that is settled, a load under way. -/
theorem test_witness_served :
    let s := tRunning.updHw fun h => { h with role := some .maker, imgState := 1 }
    s.hw.role = some .maker ∧ s.hw.sesState ≠ 5 ∧ s.hw.elevated = true ∧ s.hw.imgState = 1 ∧ s.hw.imgOff < areaBytes s.hw.imgTarget ∧ s.service = true ∧
    s.sys.nocfg = false ∧ s.hw.bstate = .run ∧ s.sys.stop = .none ∧ s.tide.st ≠ .settled ∧
    ({ s with tide := { s.tide with st := .settled } } : State).tide.st = .settled ∧ areaBytes 1 ≤ areaBytes 1 := by decide
/-- For AttachSessionsAndHostReads and ImageChecksTracesAndLogEntries. -/
theorem test_witness_window :
    let s := tRunning.updHw fun h => { h with sesState := 2, imgState := 2, imgTarget := 1, snpsel := 0x80000000 }
    s.hw.sesState = 2 ∧ s.hw.imgState = 2 ∧ s.hw.imgTarget = 1 ∧ s.hw.snpsel.getLsbD 31 = true ∧ (s.updHw fun h => { h with sesState := 5 }).hw.sesState = 5 ∧
    s.sys.coreRun = true ∧ s.logMsg (.host 0xFF none) ≠ none ∧ s.logMsg (.host 0 none) = none ∧
    (let u := { s with log := { s.log with en := true, mask := [(6, 0x80000000)] } }
     u.log.en = true ∧ (u.log.mask.get 0 ((u.tracePt (.harvest 31 0)).1 / 32)).getLsbD ((u.tracePt (.harvest 31 0)).1 % 32) = true ∧ u.log.buf.length < 2048) := by decide

/-! ### States that meet the hypotheses of the statements about regions, hints, the tide, the links of the die, the stops and the ports -/

/-- A state in RUN whose region 0 has the sequencer, kerf and thermal state given. -/
def tReg (q : SeqDyn) (k : KerfDyn) (h : ThDyn) : State :=
  let s := (tTree.updHw fun w => { w with bstate := .run }).updSys fun y => { y with coreRun := true, ready := true, step := 12 }
  s.updReg 0 fun x => { x with seq := q, krf := k, th := h }
/-- For RegionSequencersGoThroughTheirStates: every state of a sequencer, the stages at both ends. -/
theorem test_witness_sequencers :
    let q := fun q : SeqDyn => tReg q {} {}
    ((q { st := .rising, stages := 14 }).reg 0).atSet = true ∧ 0 ∉ (q {}).stg.onsDue ∧ ((q { st := .rising, stages := 14 }).reg 0).seq.stages < 15 ∧
    ((q { st := .staging, forced := true, stages := 15 }).reg 0).seq.forced = true ∧ ((q { st := .staging, stages := 14, heldAt := some 7 }).reg 0).seq.heldAt = some 7 ∧
    ((q { st := .handover, ret := true }).reg 0).seq.ret = true ∧
    (let s := q { st := .fencing, stages := 1 }
     s.com.guardStop = false ∧ s.forcedRank 0 = false ∧ (s.reg 0).seq.st = .fencing ∧
     ({ s with com := { s.com with regs := [(0, { mks := .off })] } } : State).forcedRank 0 = true) ∧
    ((q { st := .lowering, stages := 2 }).reg 0).seq.stages = 2 ∧ ((q { st := .lowering, stages := 1 }).reg 0).seq.stages = 1 ∧
    (∀ k ∈ [0, 2, 3], let s := q { st := .falling, target := k }
      s.pansOff 0 = true ∧ 0 ∉ s.stg.offsDue ∧ (s.reg 0).seq.failSeen = false ∧ (s.reg 0).seq.target = k) ∧
    ((q { prgDue := some 9 }).reg 0).seq.prgDue = some 9 ∧
    (let x := ((q { st := .purging, agone := true, prg := true }).reg 0).seq
     x.st = .purging ∧ x.agone = true ∧ x.prg = true ∧ x.ret = false) := by decide
/-- The source 15 attached at version 2, assigned region 0. -/
def tHint : State :=
  ((tReg {} {} {}).updHsrc 15 fun p => { p with attached := true, ver := 2 }).updSys fun y =>
    { y with image := { y.image with regs := [(0, { defined := true, src := some 15 })], actList := [(15, [7])] } }
/-- For HintsAreTakenOrCounted: a hint of every type at the greatest body, one outside the scope, a good and a bad word, a frame. -/
theorem test_witness_hints :
    let x := fun b : Nat => ({ src := 15, seq := 1, all := false, region := 0, body := BitVec.ofNat 41 b } : Hint)
    (tHint.hsrc 15).attached = true ∧ (∀ c ∈ [1, 2, 3, 4, 5, 6, 7], tHint.hintVerdict c (x (2 ^ bodyBits c - 1)) = 0) ∧
    tHint.hintVerdict 1 (x 4) = 2 ∧ tHint.hintVerdict 1 { x 3 with region := 1 } = 3 ∧ hfield (x (2 ^ 9 - 1)) 8 1 = 1 ∧
    tHint.stg.hand.writes.length + tHint.stg.queue.length < 2048 ∧
    (let w := BitVec.ofNat 72 (256 * (6 * 2 ^ 60 + 2 ^ 52) + crc8 (bytesBE 8 (6 * 2 ^ 60 + 2 ^ 52)))
     crc8 (bytesBE 8 (w.toNat / 256)) = w.toNat % 256 ∧ x 0 = hintOf 15 w ∧ w.toNat / 2 ^ 68 = 6) ∧
    crc8 (bytesBE 8 ((1 : BitVec 72).toNat / 256)) ≠ (1 : BitVec 72).toNat % 256 ∧ tHint.hintVerdict 0 (x 0) ≠ 0 ∧
    crc16 (frameBytes 1 [5]) = (BitVec.ofNat 16 (crc16 (frameBytes 1 [5]))).toNat ∧ crc16 (frameBytes 1 [5]) ≠ (BitVec.ofNat 16 (crc16 (frameBytes 1 [5]) + 1)).toNat ∧
    tHint.hintState = true ∧ (tHint.com.hnt.get {} 15).aen = true ∧ (tHint.sys.image.actList.get [] 15).zip [(5 : BitVec 16)] = [(7, 5)] ∧
    State.reset.hintState = false := by decide +kernel
/-- For ShimWindowsAndFencesMove. -/
theorem test_witness_shim :
    let s := tReg { st := .fencing, tag := some 3, stages := 1 } { annAt := some 5, win := 2 } {}
    (s.reg 0).krf.annAt = some 5 ∧ (s.reg 0).krf.win = 2 ∧ s.shim.st = 0 ∧ s.windows ≠ [] ∧
    (s.updShim fun y => { y with st := 1, noneAt := some 4 }).shim.noneAt = some 4 ∧ (tReg {} {} {}).windows = [] ∧
    (s.updShim fun y => { y with st := 2 }).shim.f = 0 ∧ s.fenceOpen = true ∧ s.hasReg 0 = true ∧ (s.reg 0).seq.tag = some 3 ∧ 0 < (s.reg 0).seq.stages ∧
    orderOfCode 4 = some .purge ∧ orderOfCode 5 = none ∧ orderOfCode 0 = some .none ∧ (s.rimg 0).rail ≠ .vret ∧ s.hw.bstate = .run ∧
    s.stg.hand.writes.length + s.stg.queue.length < 2048 := by decide
/-- A member of the tide with the peer 31 at its second incarnation. -/
def tMember : State :=
  let s : State := { tReg {} {} {} with com := { State.reset.com with tide := { State.reset.com.tide with ten := true, dieId := 1, peers := [(31, { die := 2, valid := true })] } } }
  (s.updTide fun t => { t with st := .member, inc := 4, raised := true, escrow := [{ peer := 31, inc := 2, seq := 1, grains := 3 }] }).updTPeer 31 fun p => { p with inc := 2, live := true }
/-- For TideFramesAndWindowsAreTaken: a transfer credited, one seen before, one beyond the window, an advertisement as sent. -/
theorem test_witness_tide :
    let f : TideFrame := { (default : TideFrame) with ty := 1, ver := 1, dst := 1, src := 2, sinc := 2, dinc := 4, seq := 64, grains := 3 }
    let c := fun f : TideFrame => xferCase tMember.tide.inc (tMember.com.tide.peers.get {} 31).expinc (tMember.tpeer 31).inc (tMember.tpeer 31).base (tMember.tpeer 31).mask f
    tMember.peerOf f.src = some 31 ∧ tMember.tide.st = .member ∧ (tMember.com.tide.peers.get {} 31).expinc < f.sinc ∧ (tMember.tpeer 31).inc = f.sinc ∧
    (∀ ty ∈ [1, 2, 3, 4, 5], tMember.frameOk { f with ty := ty } = true) ∧ tMember.frameOk { f with ver := 2 } = false ∧
    c f = .credit ∧ c { f with seq := 0 } = .duplicate ∧ c { f with seq := 65 } = .beyond ∧ f.dinc = tMember.tide.inc ∧
    tMember.tide.raised = true ∧ tMember.sys.ready = true ∧ tMember.tide.planned = false ∧ (tMember.tpeer 31).live = true ∧
    (∃ e ∈ tMember.tide.escrow, e.superseded = false) ∧ State.reset.sys.ready = false ∧ parseTide [] = none := by decide
/-- For the clause of TideFramesAndWindowsAreTaken about a frame at the fabric port. -/
theorem test_witness_fabric :
    let b := [3, 1] ++ leBytes 3 1 ++ leBytes 3 2 ++ leBytes 4 0 ++ leBytes 4 2 ++ leBytes 4 4 ++ List.replicate 40 0
    let bytes := b ++ leBytes 4 (crc32 (b.map BitVec.toNat))
    parseTide bytes = some { (default : TideFrame) with ty := 3, ver := 1, dst := 1, src := 2, sinc := 2, dinc := 4 } := by decide +kernel
/-- The board port 3 up, with every feature. -/
def tLink (d : Dvt) : State :=
  let s : State := { tReg {} {} {} with com := { State.reset.com with tide := { State.reset.com.tide with dvtEn := 15, dieId := 1, ndies := 3, bslot := 1, dvtSlot := [(2, 2)] } } }
  (s.updDvt 3 fun _ => d).updDvt 2 fun _ => { up := true, feat := 15 }
/-- For DieLinksTrainCarryFramesAndGoDown: a port up, down and in training, a frame for this die and one for the next. -/
theorem test_witness_dovetail :
    let s := tLink { up := true, feat := 15 }
    s.dvtOn 3 = true ∧ (s.dvt 3).up = true ∧ ((tLink {}).dvt 3).up = false ∧ ((tLink {}).dvt 3).training = false ∧ ((tLink { training := true }).dvt 3).training = true ∧
    (∀ ty ∈ [1, 2, 4], s.dvtCarries 3 ty = true ∧ s.dvtCarries 2 ty = true) ∧
    (let b := 1 :: List.replicate 66 (0 : Byte)
     b.length = 67 ∧ b.head? = some 1 ∧ leAt (b.drop 3) 2 3 ≠ s.com.tide.dieId ∧
     (((s.updPorts fun q => { q with slots := [(2, 1)] }).dvtHeard 3).slotOfDie (leAt (b.drop 3) 2 3)).bind ((s.updPorts fun q => { q with slots := [(2, 1)] }).dvtHeard 3).dvtRoute = some 2) ∧
    (let b := 1 :: (List.replicate 4 0 ++ 1 :: List.replicate 61 (0 : Byte))
     b.length = 67 ∧ leAt (b.drop 3) 2 3 = s.com.tide.dieId ∧ parseTide (b.drop 3) = none) ∧
    (0 : Nat) ≠ s.com.tide.bslot ∧ seenLately s.now s.ports.seenOnset 0 = false ∧ 0 + 1 < s.com.tide.ndies ∧ seenLately s.now s.ports.seenAlert 0 = false ∧
    (s.updPorts fun q => { q with peerDroop := some 8 }).ports.peerDroop = some 8 := by decide +kernel
/-- For ThermalReadingsBandsAndOrdersComplete: a reading at each end of its range, the levels of a guard input. -/
theorem test_witness_thermal :
    let s := (tReg { st := .live } {} { slope := 1, lowAt := some 4, mmreq := true, mmsel := 3, coreMax := some 7296, coreMin := some 7296 }).updSys fun y =>
      { y with diodeQ := [0], image := { y.image with regs := [(0, { defined := true, thLoop := some 5 })] } }
    let b := ({ s with com := { s.com with regs := [(0, { band := 5 })] } } : State)
    s.sys.ready = true ∧ s.hasReg 0 = true ∧ (s.rimg 0).thLoop ≠ none ∧ bitOf (BitVec.ofNat 32 (2 ^ 24)) 24 = true ∧ (s.reg 0).th.sigBit = false ∧
    0 ∈ s.sys.diodeQ ∧ s.sys.coreRun = true ∧ (-1280 : Int) ≤ -1280 ∧ (7551 : Int) < shutLevel ∧ nextBand (s.com.reg 0).band 7551 7551 ≠ (s.com.reg 0).band ∧
    s.hw.bstate ≠ .halted ∧ shutLevel ≤ (9600 : Int) ∧ s.hw.bstate ≠ .boot ∧ (-1281 : Int) < -1280 ∧
    (s.updPorts fun q => { q with inletAt := some 2 }).ports.inletAt = some 2 ∧ nextBand (s.com.reg 0).band 7296 7296 ≠ (s.com.reg 0).band ∧
    (b.com.reg 0).band = 5 ∧ (b.com.reg 0).ths = .none ∧ 0 < (b.reg 0).th.slope ∧
    (let c := ({ s with com := { s.com with regs := [(0, { band := 3, ths := .off })] } } : State)
     (c.reg 0).th.lowAt = some 4 ∧ (c.com.reg 0).ths ≠ .none ∧ (c.com.reg 0).band ≤ 3) ∧
    (s.rimg 0).monitors = true ∧ (s.reg 0).seq.st = .live ∧ (s.reg 0).atSet = true ∧ (s.reg 0).th.mmreq = true ∧ (s.reg 0).th.mmsel < 4 ∧
    ufield 0x7FFF0000 16 16 ≠ 0x8000 ∧ (s.reg 0).th.trimmed = false ∧ sfield 7551 0 16 < shutLevel ∧ sfield 7551 16 16 ≤ 0 := by decide
/-- For StopsRunDownToTheirEnd: a stop before its fifth step with the rails down, and a coolant stop. -/
theorem test_witness_rundown :
    let s := (tReg {} {} {}).updSys fun y => { y with stop := .warm, stopStep := 5 }
    let u : State := { s with com := { s.com with guardStop := true } }
    u.sys.stop ≠ .none ∧ u.sys.stop ≠ .coolant ∧ u.com.guardStop = true ∧ (u.updSys fun y => { y with stopStep := 4 }).sys.stopStep < 5 ∧
    (∀ r ∈ u.coreRegions, (u.reg r).seq.st = .dark) ∧ ((u.updHw fun h => { h with bstate := .stopping }).hw.bstate = .stopping) ∧
    (∀ x ∈ [Rail.vib, .vqa, .vqc], (u.rail x).st = .off ∨ (u.rail x).st = .fault) ∧ s.sys.hkind = 0 ∧
    (let c := (tReg {} {} {}).updPorts fun q => { q with flowN := true }
     c.ports.flowN = true ∧ c.hw.bstate ≠ .off ∧ c.sys.stop ≠ .coolant ∧ c.hw.bstate ≠ .halted) ∧
    (s.updSys fun y => { y with stop := .coolant, stopStep := 2 }).sys.stopStep < 3 := by decide
/-- For LedgerAndTallyWorkCompletes: a dirty line, one being fetched, the record at its age. -/
theorem test_witness_ledger :
    let s := (tReg {} {} {}).updLed fun l => { l with st := 1, qst := 1, qArmed := true, fault := true, cache := [{ ctx := 1048575, dirty := true }, { ctx := 2, ready := false }, { ctx := 3, wb := some {} }] }
    s.led.line 1048575 = some { ctx := 1048575, dirty := true } ∧ s.led.line 2 = some { ctx := 2, ready := false } ∧ s.led.line 3 = some { ctx := 3, wb := some {} } ∧
    s.led.st ≠ 3 ∧ s.led.qst = 1 ∧ s.led.qArmed = true ∧ s.led.st = 1 ∧ s.led.fault = true ∧ s.sys.coreRun = true ∧ s.flt.harvesting = false ∧
    ({ s with epoch := BitVec.ofNat 64 harvestEpochs } : State).flt.harvestAt.toNat + harvestEpochs ≤ (BitVec.ofNat 64 harvestEpochs).toNat ∧
    (s.updFlt fun f => { f with talFault := true }).flt.talFault = true ∧ s.flt.talReady = false ∧ (s.updSys fun y => { y with cfgSaving := true }).sys.cfgSaving = true := by decide
/-- For ResetBootAndTheManagementCoreRestart. -/
theorem test_witness_boot :
    let s := State.reset.updHw fun h => { h with bstate := .guard_ }
    let g := s.updSys fun y => { y with step := 1 }
    State.reset.hw.bstate = .off ∧ State.reset.sys.porstN = false ∧ s.hw.bstate ≠ .off ∧ (State.reset.updSys fun y => { y with ckeLost := true }).sys.ckeLost = true ∧
    g.hw.bstate = .guard_ ∧ g.sys.step = 1 ∧ g.fwOrder.find? g.fwOk = none ∧
    (let u : State := { g with store := { g.store with fw1 := { present := true, signer := some [], security := 1 }, fwPending := some 1, keyHashes := [[]] } }
     u.fwOrder.find? u.fwOk = some 1) ∧
    (let b := (State.reset.updHw fun h => { h with bstate := .boot }).updSys fun y => { y with coreRun := true, fwTried := 1, step := 8 }
     let b : State := { b with store := { b.store with fwPending := some 0 } }
     b.hw.bstate = .boot ∧ b.sys.refuse = 0 ∧ b.sys.coreRun = true ∧ b.sys.ready = false ∧ b.sys.restart = false ∧ b.store.fwPending = some b.sys.fwSlot ∧
     b.sys.fwTried = 1 ∧ b.fwOk (1 - b.sys.fwSlot) = false ∧ b.stepping = true ∧ b.sys.step = 8 ∧
     (∀ x ∈ [Rail.vib, .vqa, .vqc], ((b.updRail x fun q => { q with st := .reg }).rail x).st = .reg) ∧
     ((b.updSys fun y => { y with step := 10 }).bootRegions.all fun r => decide ((b.reg r).seq.st = .live)) = true ∧ b.sys.nocfgRun = false) ∧
    ((State.reset.updSys fun y => { y with restart := true }).sys.restart = true) ∧ State.reset.sys.mcheld = false ∧
    ((State.reset.updSys fun y => { y with coreRun := true, kickHalf := true }).sys.kickHalf = true) ∧
    (State.reset.updConv fun c => { c with vinGoodAt := some 3 }).conv.vinGoodAt = some 3 := by decide
/-- For BusAndTrayAndTapCommandsAnswer. -/
theorem test_witness_ports :
    let s := (tReg {} {} {}).updPorts fun q => { q with avs := true, trayAddr := some 127, trayVer := 2, ir := 4, dbgOpen := true, flowN := false }
    (3 : Byte).toNat < 4 ∧ 4 ≤ (4 : Byte).toNat ∧ s.ports.avs = true ∧ State.reset.ports.avs = false ∧ (State.reset.updHw fun h => { h with bstate := .boot }).hw.bstate = .boot ∧
    s.trayOk 1 = true ∧ s.trayOk 2 = true ∧ s.coreServes = true ∧ s.ports.flowN ≠ true ∧ s.railsOff = true ∧ s.ports.ir = 4 ∧ s.store.dbgClosed = false ∧ s.ports.dbgOpen = true ∧
    s.pmbConds &&& ~~~ (s.updPorts fun q => { q with pmbSeen := 0x1FF }).ports.pmbSeen = 0 ∧ s.ports.page < 3 ∧ ¬ (s.updPorts fun q => { q with page := 3 }).ports.page < 3 := by decide
end

section
/-! SUPPORT. A packet with a SEL that its node does not implement (R44): what the node does with it, whether it comes as a STAGE
or as a WRITE, and the proof of the obligation about it. -/

namespace Sys2Proof.Machine

/-- A node discards a packet whose SEL it does not implement (R44, R54): the packet leaves the link, EVENT 0x02 goes up, and a
pond forwards a broadcast packet all the same. -/
def State.rejectSel (s : State) (n : Nat) (h : Hdr) (p : Packet) : State :=
  let u := (s.takeDown n p).badSel n
  if s.isPan n = false ∧ h.bc = true then u.toAll n p else u

theorem only_rejectSel (s : State) (n : Nat) (h : Hdr) (p : Packet) : Only [.links, .nodes] s (s.rejectSel n h p) := by
  have hu : Only [.links, .nodes] s ((s.takeDown n p).badSel n) :=
    ((only_takeDown s n p).mono (by simp)).then (only_badSel _ n) (by simp)
  exact Only.ite _ (fun _ => hu.then (only_toAll _ n p) (by simp)) fun _ => hu

theorem State.rejectSel_of_isPan {s : State} {n : Nat} (h : Hdr) (p : Packet) (hp : s.isPan n = true) :
    s.rejectSel n h p = (s.takeDown n p).badSel n := by
  simp [State.rejectSel, hp]

theorem State.rejectSel_of_not_isPan {s : State} {n : Nat} (h : Hdr) (p : Packet) (hp : s.isPan n = false) :
    s.rejectSel n h p = if h.bc then ((s.takeDown n p).badSel n).toAll n p else (s.takeDown n p).badSel n := by
  simp [State.rejectSel, hp]

/-- A STAGE whose SEL the node does not implement is rejected: a pan takes only its own parameters, a pond only those that it
passes on. -/
theorem State.recvStage_of_not_implements {s : State} {n : Nat} {h : Hdr} {tag : BitVec 3} {sel : Nat} {v : Word}
    (hi : s.implements n h true sel = false) (hg : s.Gets n h (stagePkt h sel tag v)) :
    s.recvStage n h tag sel v = s.rejectSel n h (stagePkt h sel tag v) := by
  obtain ⟨⟨hn, hfor⟩, hdown⟩ := hg
  cases hp : s.isPan n with
  | true =>
    have hsel : panStageSel sel = false := by simp_all [State.implements]
    simp [State.recvStage, State.rejectSel_of_isPan, hn, hfor, hdown, hp, hsel]
  | false =>
    have hok : (panStageSel sel && (h.bc || passedSel sel)) = false := by simp_all [State.implements]
    simp [State.recvStage, State.rejectSel_of_not_isPan, hn, hfor, hdown, hp, hok]

/-- A pond implements the loop writes that it passes on without BC: OFFSET, SHARE and ARM (R72). -/
theorem State.implements_write_loop (s : State) (n : Nat) (h : Hdr) {sel : Nat} (hs : sel = 0x03 ∨ sel = 0x05 ∨ sel = 0x09) :
    s.implements n h false sel = true := by
  rcases hs with rfl | rfl | rfl <;> simp [State.implements, panWriteSel]

/-- A WRITE whose SEL the node does not implement is rejected: it is no path selection, no parameter of a pan, no register of a
pond and nothing that a pond passes on. -/
theorem State.recvWrite_of_not_implements {s : State} {n : Nat} {h : Hdr} {sel : Nat} {v : Word}
    (hi : s.implements n h false sel = false) (hg : s.Gets n h (writePkt h sel v)) :
    s.recvWrite n h sel v = s.rejectSel n h (writePkt h sel v) := by
  obtain ⟨⟨hn, hfor⟩, hdown⟩ := hg
  cases hp : s.isPan n with
  | true =>
    obtain ⟨hpath, hsel⟩ : sel ≠ 0x71 ∧ panWriteSel sel = false := by simpa [State.implements, hp] using hi
    simp [State.recvWrite, State.rejectSel_of_isPan, hn, hfor, hdown, hp, hpath, hsel]
  | false =>
    obtain ⟨hoffset, hshare, harm⟩ : sel ≠ 0x03 ∧ sel ≠ 0x05 ∧ sel ≠ 0x09 := by
      refine ⟨?_, ?_, ?_⟩ <;> rintro rfl <;> simp [State.implements_write_loop] at hi
    obtain ⟨hpath, hreg, hpass⟩ : sel ≠ 0x71 ∧ pondSel sel = false ∧
        (panWriteSel sel && decide (sel ≠ 0x0F) && (h.bc || decide (sel < 0x0F))) = false := by
      simpa [State.implements, hp, and_assoc] using hi
    have hbroadcast : (h.bc && panWriteSel sel && decide (sel ≠ 0x0F)) = false := by grind
    have hloop : (!h.bc && panWriteSel sel && decide (sel < 0x0F)) = false := by grind
    simp only [State.recvWrite, State.rejectSel_of_not_isPan _ _ hp, hn, hfor, hdown, hp, hpath, hreg, hbroadcast, hloop,
      hoffset, hshare, harm, State.takeDown_isFor, State.takeDown_isPan, or_self, reduceCtorEq, Bool.false_eq_true, if_false]

/-- The command brings a SEL that is not implemented to its node, and the node rejects it. -/
theorem exec_unimplementedSel {s : State} {n : Nat} {h : Hdr} {st : Bool} {tag : BitVec 3} {sel : Byte} {v : Word}
    (hi : s.implements n h st sel.toNat = false)
    (hg : s.Gets n h (if st then stagePkt h sel.toNat tag v else writePkt h sel.toNat v)) :
    exec (.unimplementedSel n h st tag sel v) s =
      done (s.rejectSel n h (if st then stagePkt h sel.toNat tag v else writePkt h sel.toNat v)) := by
  change execUnimplementedSel n h st tag sel v s = _
  cases st with
  | true => simp [execUnimplementedSel, hi, State.recvStage_of_not_implements hi hg]
  | false => simp [execUnimplementedSel, hi, State.recvWrite_of_not_implements hi hg]

/-- Settles O10: the node rejects the packet, and a rejection changes links and nodes only. -/
theorem unimplementedSelIsReported : Obligations.UnimplementedSelIsReported := by
  intro n h st tag sel v s hi p hg
  exact Does.of_done (exec_unimplementedSel hi hg) (settle_links _) (only_rejectSel s n h p)

end Sys2Proof.Machine
end

section
/-! SUPPORT. Commands that change one pan or nothing, and the proofs of the obligations about the comparator conflict (R96, R99),
diode emulation (R91) and the continuous limit under carry (R73, R102). -/

namespace Sys2Proof.Machine

variable {c : Instr} {s : State} {n : Nat}

/-! ### Commands of one shape -/

/-- A command that ends in an update of one pan changes that pan only. -/
theorem Does.of_updPan {f : Pan → Pan} (h : exec c s = done (s.updPan n f)) :
    Does c s [.pans] (PanBecomes s n (f (s.pan n))) := by
  refine Does.of_done h ⟨?_, fun m hm => ?_⟩ (only_updPan s n f)
  · rw [settle_pan, State.updPan_pan_same]
  · rw [settle_pan, State.updPan_pan_other s f hm]

/-- A command that ends in the state it began with leaves every pan as it was. -/
theorem Does.of_done_self (n : Nat) (h : exec c s = done s) : Does c s [] fun t => t.pan n = s.pan n :=
  Does.of_done h (settle_pan s n) (Only.refl _ s)

/-! ### Both comparators fired -/

@[simp] theorem Pan.endBoost_bst (now w : Nat) (p : Pan) : (p.endBoost now w).bst = false := by
  unfold Pan.endBoost
  split
  · rfl
  · simpa using ‹¬ p.bst = true›

@[simp] theorem Pan.endBoost_par (now w : Nat) (p : Pan) : (p.endBoost now w).par = p.par := by
  unfold Pan.endBoost
  split <;> rfl

/-- Neither comparator acts any longer: boost and shunt end, and both are released (R96). -/
def Pan.releaseComparators (now w : Nat) (p : Pan) : Pan :=
  { p.endBoost now w with shn := false, droopFired := false, overFired := false }

/-- The fallback puts the pan on local sense now (R99); of the rest only what bears on the contact's baseline and the EVENT sent
changes. -/
theorem fallback_pan_same (s : State) (n : Nat) :
    (s.fallback n).pan n =
      { s.pan n with
        local_ := true, localAt := s.now, usedLocal := true, contact := { (s.pan n).contact with wholeRun := false },
        sent := ((s.fallback n).pan n).sent } := by
  unfold State.fallback
  dsimp only
  split
  · rw [State.updPan_pan_same]
  · rw [panEvent_pan_same, State.updPan_pan_same]

theorem exec_comparatorConflict (hd : (s.pan n).droopFired = true) (ho : (s.pan n).overFired = true) :
    exec (.comparatorConflict n) s = done ((s.updPan n (Pan.releaseComparators s.now (s.windowNow n))).fallback n) :=
  if_pos ⟨hd, ho⟩

/-- Settles O39: the comparators are released, then the pan falls back to local sense. -/
theorem comparatorConflictFallsBackToLocalSense : Obligations.ComparatorConflictFallsBackToLocalSense := by
  intro s n hd ho
  refine Does.of_done (exec_comparatorConflict hd ho) ?_ (((only_updPan s n _).mono (by simp)).trans (only_fallback _ n))
  simp only [settle_pan]
  have others : ∀ m, m ≠ n →
      ((s.updPan n (Pan.releaseComparators s.now (s.windowNow n))).fallback n).pan m = s.pan m := fun m hm => by
    rw [fallback_pan_other _ _ hm, State.updPan_pan_other s _ hm]
  rw [fallback_pan_same, State.updPan_pan_same]
  simpa [Pan.releaseComparators] using others

/-! ### Diode emulation -/

theorem exec_balanceUpdate_of_de (hde : (s.pan n).de = true) (ia ib : Int) : exec (.balanceUpdate n ia ib) s = done s :=
  if_neg fun ⟨_, _, _, off, _⟩ => by simp [hde] at off

theorem exec_frequencyLockUpdate_of_de (hde : (s.pan n).de = true) : exec (.frequencyLockUpdate n) s = done s :=
  if_neg fun ⟨_, _, _, off, _⟩ => by simp [hde] at off

theorem exec_deExitMean {mean : Nat} (hde : (s.pan n).de = true) (hm : 12 * (s.node n).rating < mean) :
    exec (.deExitMean n mean) s = done (s.updPan n fun p => { p with de := false }) :=
  if_pos ⟨hde, hm⟩

/-- Settles O40: both updates ask for a pan out of emulation, and the exit changes the mark of emulation alone. -/
theorem trimsAndLockAreFrozenInDiodeEmulation : Obligations.TrimsAndLockAreFrozenInDiodeEmulation := by
  intro s n hde
  refine ⟨fun ia ib => ?_, ?_, fun mean hm => ?_⟩
  · exact Does.of_done_self n (exec_balanceUpdate_of_de hde ia ib)
  · exact Does.of_done_self n (exec_frequencyLockUpdate_of_de hde)
  · refine (Does.of_updPan (exec_deExitMean hde hm)).imp fun t ⟨hpan, others⟩ => ?_
    rw [hpan]
    exact ⟨rfl, rfl, rfl, rfl, others⟩

/-! ### Carry and the continuous limit -/

theorem Pan.carryOn_iff (p : Pan) : p.carryOn = true ↔ p.par.carryPermit = true ∨ p.par.carryAuto = true := by
  simp [Pan.carryOn]

theorem State.contLimit_of_carryOn (h : (s.pan n).carryOn = true) : s.contLimit n = 125 * (s.node n).rating := by
  simp [State.contLimit, h]

theorem State.contLimit_of_not_carryOn (h : (s.pan n).carryOn = false) : s.contLimit n = 100 * (s.node n).rating := by
  simp [State.contLimit, h]

theorem exec_excursionStart {i : Nat} (hp : s.isPan n = true) (hr : (s.pan n).st.runs = true) (he : (s.pan n).excur = .none)
    (hi : s.contLimit n < i) :
    exec (.excursionStart n i) s =
      done (s.updPan n fun p => { p with excur := .active, excurAt := s.now, limTrim := p.limNow s.now, limRel := none }) :=
  if_pos ⟨hp, hr, he, hi⟩

theorem exec_excursionStart_of_le {i : Nat} (hi : i ≤ s.contLimit n) : exec (.excursionStart n i) s = done s :=
  if_neg fun ⟨_, _, _, above⟩ => Nat.not_lt.mpr hi above

/-- Settles O41: the limit is read off the carry bit, and the excursion's guard compares the current with that limit. -/
theorem carryRaisesTheContinuousLimit : Obligations.CarryRaisesTheContinuousLimit := by
  intro s n
  refine ⟨Pan.carryOn_iff _, fun hc => ?_, State.contLimit_of_not_carryOn, fun i hp hr he hi => ?_, fun i hi => ?_⟩
  · rw [State.contLimit_of_carryOn hc]
    omega
  · exact Does.of_updPan (exec_excursionStart hp hr he hi)
  · exact Does.of_done_self n (exec_excursionStart_of_le hi)

end Sys2Proof.Machine
end

section
/-! SUPPORT. The phases of the converter after a command, and the proofs of the obligations about the shed of a main phase: its
beginning (R121) and its end after 20 us in PROVISIONAL (R122). -/

namespace Sys2Proof.Machine

variable {s : State} {n : Nat}

/-! ### One phase changes -/

theorem phaseBecomes_updPhase (s : State) (n : Nat) (f : Phase → Phase) : PhaseBecomes s n (f (s.phase n)) (s.updPhase n f) :=
  ⟨State.updPhase_phase_same s n f, fun _ hm => State.updPhase_phase_other s f hm⟩

@[simp] theorem phaseBecomes_settle {p : Phase} {t : State} : PhaseBecomes s n p (settle t) ↔ PhaseBecomes s n p t := by
  simp [PhaseBecomes]

@[simp] theorem State.updPhase_rail (s : State) (n : Nat) (f : Phase → Phase) (x : Rail) : (s.updPhase n f).rail x = s.rail x := by
  cases x <;> rfl

@[simp] theorem State.reach_rail (s : State) (a : Nat) (x : Rail) : (s.reach a).rail x = s.rail x := by
  cases x <;> rfl

/-! ### The end of PROVISIONAL -/

theorem exec_provisionalExpiry (hn : n < 40) (hp : (s.phase n).st = .provisional) :
    exec (.provisionalExpiry n) s =
      done ((s.reach ((s.phase n).at_ + 20 * usT)).updPhase n fun p =>
        { p with st := .shed, en := false, at_ := (s.reach ((s.phase n).at_ + 20 * usT)).now }) :=
  if_pos ⟨hn, hp⟩

/-- Settles O37: the time reaches the end of the 20 us, then the phase alone changes. -/
theorem provisionalPhasesAreShed : Obligations.ProvisionalPhasesAreShed := by
  intro s n hn hp
  refine Does.of_done (exec_provisionalExpiry hn hp) ⟨?_, ?_, fun x => ?_⟩
    (((only_reach s _).mono (by simp)).then (only_updPhase _ n _) (by simp))
  · simp
  · rw [phaseBecomes_settle, settle_now]
    exact phaseBecomes_updPhase (s.reach _) n _
  · simp

/-! ### The conditions of a shed -/

theorem State.holdoff_eq_false_iff (s : State) : s.holdoff = false ↔ ∀ a, s.conv.shedHold = some a → a ≤ s.now := by
  unfold State.holdoff
  cases s.conv.shedHold <;> simp

/-- At least 2 us have passed since the previous shed began (R121). -/
def State.shedSpaced (s : State) : Bool :=
  match s.conv.lastShed with
  | some a => decide (a + 2 * usT ≤ s.now)
  | none => true

theorem State.shedSpaced_iff (s : State) : s.shedSpaced = true ↔ ∀ a, s.conv.lastShed = some a → a + 2 * usT ≤ s.now := by
  unfold State.shedSpaced
  cases s.conv.lastShed <;> simp

/-- The conditions of R121 on a shed at the mean total main-phase current `total`. -/
def State.ShedDue (s : State) (total : Nat) : Prop :=
  s.com.conv.shedPermit = true ∧ (s.rail .vib).st = .reg ∧ s.target < (s.mainsIn .active).length ∧
  s.com.conv.minph < (s.mainsIn .active).length ∧ s.anyIn .wake = false ∧ s.anyIn .admitting = false ∧
  (∀ a, s.conv.shedHold = some a → a ≤ s.now) ∧ (∀ a, s.conv.lastShed = some a → a + 2 * usT ≤ s.now) ∧
  total ≤ s.com.conv.shedmax * ((s.mainsIn .active).length - 1)

/-- The main phase `n` leaves the rotation for PROVISIONAL, and the instant of the shed is kept (R121). -/
def State.beginShed (s : State) (n : Nat) : State :=
  (s.updPhase n fun p => { p with st := .provisional, pwm := .mid, at_ := s.now }).updConv fun c => { c with lastShed := some s.now }

theorem exec_shedBegin_of_shedDue {total : Nat} (h : s.ShedDue total) (hlast : (s.mainsIn .active).getLast? = some n) :
    exec (.shedBegin total) s = done (s.beginShed n) := by
  obtain ⟨permit, inReg, aboveTarget, aboveMin, noWake, noAdmit, held, spaced, load⟩ := h
  refine (if_pos ⟨permit, inReg, aboveTarget, aboveMin, noWake, noAdmit, s.holdoff_eq_false_iff.mpr held,
    s.shedSpaced_iff.mpr spaced, load⟩).trans ?_
  rw [hlast]
  rfl

theorem exec_shedBegin_of_not_shedDue {total : Nat} (h : ¬ s.ShedDue total) : exec (.shedBegin total) s = done s :=
  if_neg fun ⟨permit, inReg, aboveTarget, aboveMin, noWake, noAdmit, held, spaced, load⟩ =>
    h ⟨permit, inReg, aboveTarget, aboveMin, noWake, noAdmit, s.holdoff_eq_false_iff.mp held, s.shedSpaced_iff.mp spaced, load⟩

/-! ### The phase that is shed -/

/-- Main phases are listed by slot, so the last one has the highest slot number. -/
theorem State.mainsIn_getLast? {st : PhSt} (hn : n ∈ s.mainsIn st) (hmax : ∀ m ∈ s.mainsIn st, m ≤ n) :
    (s.mainsIn st).getLast? = some n := by
  have ascending : (s.mainsIn st).Pairwise (· ≤ ·) := List.pairwise_le_range.filter _
  cases hlast : (s.mainsIn st).getLast? with
  | none => exact absurd (List.getLast?_eq_none_iff.mp hlast) (List.ne_nil_of_mem hn)
  | some k =>
    obtain ⟨before, hsplit⟩ := List.getLast?_eq_some_iff.mp hlast
    have hle : k ≤ n := hmax k (by simp [hsplit])
    rw [hsplit] at ascending hn
    obtain ⟨_, _, below⟩ := List.pairwise_append.mp ascending
    have hge : n ≤ k := by
      rcases List.mem_append.mp hn with h | h
      · exact below n h k (List.mem_singleton_self k)
      · exact Nat.le_of_eq (List.mem_singleton.mp h)
    exact congrArg some (Nat.le_antisymm hle hge)

theorem State.not_mem_rotation_of_provisional (h : (s.phase n).st = .provisional) : n ∉ s.rotation := by
  simp [State.rotation, h]

theorem only_beginShed (s : State) (n : Nat) : Only [.conv] s (s.beginShed n) :=
  (only_updPhase s n _).trans (only_updConv _ _)

theorem phaseBecomes_beginShed (s : State) (n : Nat) :
    PhaseBecomes s n { s.phase n with st := .provisional, pwm := .mid, at_ := s.now } (s.beginShed n) :=
  phaseBecomes_updPhase s n fun p => { p with st := .provisional, pwm := .mid, at_ := s.now }

/-- Settles O38: the guard of the command is the nine conditions, and the last ACTIVE main phase is the highest one. -/
theorem shedBeginsUnderItsConditions : Obligations.ShedBeginsUnderItsConditions := by
  intro s total
  refine ⟨fun n due hn hmax => ?_, fun notDue => ?_⟩
  · have becomes := phaseBecomes_settle.mpr (phaseBecomes_beginShed s n)
    have hphase := becomes.1
    refine Does.of_done (exec_shedBegin_of_shedDue due (State.mainsIn_getLast? hn hmax))
      ⟨becomes, ?_, State.not_mem_rotation_of_provisional ?_, ?_⟩ (only_beginShed s n)
    · rw [hphase]
    · rw [hphase]
    · rw [settle_conv]
      rfl
  · exact Does.of_done (exec_shedBegin_of_not_shedDue notDue) trivial (Only.refl _ s)

end Sys2Proof.Machine
end

section
/-! SUPPORT. What every command does: it answers a next state reached by changing only its parts, with its outputs settled; and
the proofs of the obligations about every step: totality and the queue, the frame of every command, the outputs presented. -/

namespace Sys2Proof.Machine

-- The joined text is checked under a memory limit that counts every thread's stack: one proof at a time.
set_option Elab.async false

/-! ### Every command ends in a settled next state -/

/-- The frame lemmas of the meanings in one statement, by the command. -/
theorem exec_ends (c : Instr) (s : State) : Ends (partsOf c) s (exec c s) := by
  cases c with
  | epochBoundary => exact only_execEpochBoundary ..
  | stagingClose => exact only_execStagingClose ..
  | ackDeadline => exact only_execAckDeadline ..
  | setDeferralLimit => exact only_execSetDeferralLimit ..
  | nodeEpochBoundary _ _ => exact only_execNodeEpochBoundary ..
  | parentPathTimeout _ => exact only_execParentPathTimeout ..
  | parityLimitReached _ _ => exact only_execParityLimitReached ..
  | parityErrorPacket _ _ => exact only_execParityErrorPacket ..
  | reservedPacket _ _ _ => exact only_execReservedPacket ..
  | unroutablePacket _ _ => exact only_execUnroutablePacket ..
  | probe _ _ _ _ => exact only_execProbe ..
  | probeTimeout _ _ => exact only_execProbeTimeout ..
  | desc _ _ _ _ _ _ _ => exact only_execDesc ..
  | ack _ _ _ _ _ _ => exact only_execAck ..
  | pondAckDeadline _ => exact only_execPondAckDeadline ..
  | verdict _ _ _ _ _ => exact only_execVerdict ..
  | time _ _ _ _ _ => exact only_execTime ..
  | timeResyncPeriod => exact only_execTimeResyncPeriod ..
  | rq _ _ _ _ => exact only_execRq ..
  | rmm _ _ _ _ _ _ _ => exact only_execRmm ..
  | pondRollupDeadline _ => exact only_execPondRollupDeadline ..
  | linkAuditTimer _ _ => exact only_execLinkAuditTimer ..
  | audit _ _ _ _ _ => exact only_execAudit ..
  | resetRequest _ _ => exact only_execResetRequest ..
  | resetDone _ _ => exact only_execResetDone ..
  | creditInvariantBreak _ _ _ => exact only_execCreditInvariantBreak ..
  | adoptRequest _ _ _ => exact only_execAdoptRequest ..
  | adoptDone _ _ _ _ => exact only_execAdoptDone ..
  | rosterRemove _ _ _ _ => exact only_execRosterRemove ..
  | setpt _ _ _ _ => exact only_execSetpt ..
  | slew _ _ _ _ => exact only_execSlew ..
  | window _ _ _ _ => exact only_execWindow ..
  | offset _ _ _ => exact only_execOffset ..
  | offslew _ _ _ _ => exact only_execOffslew ..
  | share _ _ _ => exact only_execShare ..
  | mode _ _ _ _ => exact only_execMode ..
  | freq _ _ _ _ => exact only_execFreq ..
  | bandset _ _ _ _ => exact only_execBandset ..
  | arm _ _ _ => exact only_execArm ..
  | droop _ _ _ _ => exact only_execDroop ..
  | overshoot _ _ _ _ => exact only_execOvershoot ..
  | boostlim _ _ _ _ => exact only_execBoostlim ..
  | balance _ _ _ _ => exact only_execBalance ..
  | vmcomp _ _ _ _ => exact only_execVmcomp ..
  | carryauto _ _ _ => exact only_execCarryauto ..
  | fwin _ _ _ _ => exact only_execFwin ..
  | swinv _ _ _ _ => exact only_execSwinv ..
  | swini _ _ _ _ => exact only_execSwini ..
  | sensesel _ _ _ _ => exact only_execSensesel ..
  | calctl _ _ _ _ => exact only_execCalctl ..
  | calload _ _ _ _ => exact only_execCalload ..
  | calloadI _ _ _ => exact only_execCalloadI ..
  | stream _ _ _ _ _ => exact only_execStream ..
  | epochsamp _ _ _ _ => exact only_execEpochsamp ..
  | roster _ _ _ => exact only_execRoster ..
  | parentSelect _ _ _ => exact only_execParentSelect ..
  | exceptionRange _ _ _ _ => exact only_execExceptionRange ..
  | exceptionTarget _ _ _ _ => exact only_execExceptionTarget ..
  | childPortRange _ _ _ _ => exact only_execChildPortRange ..
  | setClose _ _ _ => exact only_execSetClose ..
  | stageEnd _ _ _ _ => exact only_execStageEnd ..
  | unimplementedSel _ _ _ _ _ _ => exact only_execUnimplementedSel ..
  | slewStep _ => exact only_execSlewStep ..
  | setPointModelStep _ => exact only_execSetPointModelStep ..
  | cotComparatorFire _ _ _ _ _ => exact only_execCotComparatorFire ..
  | frequencyLockUpdate _ => exact only_execFrequencyLockUpdate ..
  | peakLimitReached _ _ _ => exact only_execPeakLimitReached ..
  | excursionStart _ _ => exact only_execExcursionStart ..
  | excursionEnd _ _ => exact only_execExcursionEnd ..
  | excursionLimit _ _ => exact only_execExcursionLimit ..
  | excursionHoldoffExpiry _ => exact only_execExcursionHoldoffExpiry ..
  | deEntry _ _ => exact only_execDeEntry ..
  | deExitMean _ _ => exact only_execDeExitMean ..
  | balanceUpdate _ _ _ => exact only_execBalanceUpdate ..
  | balanceTrimSaturated _ _ => exact only_execBalanceTrimSaturated ..
  | shareTrimUpdate _ _ => exact only_execShareTrimUpdate ..
  | droopCrossing _ _ => exact only_execDroopCrossing ..
  | boostRecovery _ _ _ => exact only_execBoostRecovery ..
  | boostConductionLimit _ => exact only_execBoostConductionLimit ..
  | boostCountUsed _ => exact only_execBoostCountUsed ..
  | overshootCrossing _ _ => exact only_execOvershootCrossing ..
  | shuntRecovery _ _ => exact only_execShuntRecovery ..
  | shuntConductionLimit _ => exact only_execShuntConductionLimit ..
  | comparatorConflict _ => exact only_execComparatorConflict ..
  | senseFallback _ _ _ => exact only_execSenseFallback ..
  | senseReturn _ => exact only_execSenseReturn ..
  | panStageFault _ => exact only_execPanStageFault ..
  | panStageFaultClear _ => exact only_execPanStageFaultClear ..
  | prebiasComplete _ => exact only_execPrebiasComplete ..
  | shadowRampStep _ => exact only_execShadowRampStep ..
  | rampOutComplete _ => exact only_execRampOutComplete ..
  | panLoopWatchdogExpiry _ => exact only_execPanLoopWatchdogExpiry ..
  | fastWindowExit _ _ _ => exact only_execFastWindowExit ..
  | shadowRunEnd _ _ _ _ _ _ _ _ => exact only_execShadowRunEnd ..
  | conversionCheckFailures _ _ => exact only_execConversionCheckFailures ..
  | sampleStreamInterval _ _ _ _ _ _ _ => exact only_execSampleStreamInterval ..
  | tallyReportInterval _ => exact only_execTallyReportInterval ..
  | contactBaselineFormed _ => exact only_execContactBaselineFormed ..
  | contactSuspect _ => exact only_execContactSuspect ..
  | stageFaultEvent _ _ => exact only_execStageFaultEvent ..
  | lossReport _ _ _ => exact only_execLossReport ..
  | lossResponse => exact only_execLossResponse ..
  | faultedPanReturn _ => exact only_execFaultedPanReturn ..
  | faultOrder _ => exact only_execFaultOrder ..
  | windowExitPending _ _ _ => exact only_execWindowExitPending ..
  | tallyReport _ _ _ => exact only_execTallyReport ..
  | sample _ _ _ _ => exact only_execSample ..
  | rollupClose => exact only_execRollupClose ..
  | calibrationWindowClose => exact only_execCalibrationWindowClose ..
  | allowanceRecomputation => exact only_execAllowanceRecomputation ..
  | snapshotReady _ => exact only_execSnapshotReady ..
  | engineTimerTick _ => exact only_execEngineTimerTick ..
  | dispatch _ => exact only_execDispatch ..
  | runLimit _ => exact only_execRunLimit ..
  | selfCheckDue _ => exact only_execSelfCheckDue ..
  | selfCheckComplete _ _ => exact only_execSelfCheckComplete ..
  | laneRegisterError _ => exact only_execLaneRegisterError ..
  | scrubError _ _ _ => exact only_execScrubError ..
  | instructionRewrite _ => exact only_execInstructionRewrite ..
  | slotStale _ => exact only_execSlotStale ..
  | retest => exact only_execRetest ..
  | retestComplete _ _ => exact only_execRetestComplete ..
  | mAdd _ _ _ _ => exact only_execMAdd ..
  | mSub _ _ _ _ => exact only_execMSub ..
  | mAdds _ _ _ _ => exact only_execMAdds ..
  | mSubs _ _ _ _ => exact only_execMSubs ..
  | mAnd _ _ _ _ => exact only_execMAnd ..
  | mOr _ _ _ _ => exact only_execMOr ..
  | mXor _ _ _ _ => exact only_execMXor ..
  | mShl _ _ _ _ => exact only_execMShl ..
  | mShr _ _ _ _ => exact only_execMShr ..
  | mSra _ _ _ _ => exact only_execMSra ..
  | mMin _ _ _ _ => exact only_execMMin ..
  | mMax _ _ _ _ => exact only_execMMax ..
  | mSlt _ _ _ _ => exact only_execMSlt ..
  | mSltu _ _ _ _ => exact only_execMSltu ..
  | mClmp _ _ _ _ _ => exact only_execMClmp ..
  | mMul _ _ _ _ => exact only_execMMul ..
  | mMulq _ _ _ _ _ => exact only_execMMulq ..
  | mDivq _ _ _ _ _ => exact only_execMDivq ..
  | mAbss _ _ _ => exact only_execMAbss ..
  | mNegs _ _ _ => exact only_execMNegs ..
  | mAddi _ _ _ _ => exact only_execMAddi ..
  | mAndi _ _ _ _ => exact only_execMAndi ..
  | mOri _ _ _ _ => exact only_execMOri ..
  | mXori _ _ _ _ => exact only_execMXori ..
  | mLui _ _ _ => exact only_execMLui ..
  | mShli _ _ _ _ => exact only_execMShli ..
  | mShri _ _ _ _ => exact only_execMShri ..
  | mSrai _ _ _ _ => exact only_execMSrai ..
  | mSlti _ _ _ _ => exact only_execMSlti ..
  | mExt _ _ _ _ _ _ => exact only_execMExt ..
  | mIns _ _ _ _ _ => exact only_execMIns ..
  | mSati _ _ _ _ => exact only_execMSati ..
  | mMac _ _ _ _ => exact only_execMMac ..
  | mMsu _ _ _ _ => exact only_execMMsu ..
  | mCmac _ _ _ _ _ _ => exact only_execMCmac ..
  | mCmsu _ _ _ _ _ _ => exact only_execMCmsu ..
  | mCld _ _ _ _ _ _ => exact only_execMCld ..
  | mAclr _ _ => exact only_execMAclr ..
  | mAld _ _ _ _ => exact only_execMAld ..
  | mAadd _ _ _ => exact only_execMAadd ..
  | mAsub _ _ _ => exact only_execMAsub ..
  | mAsra _ _ _ => exact only_execMAsra ..
  | mAshl _ _ _ => exact only_execMAshl ..
  | mAmov _ _ _ _ => exact only_execMAmov ..
  | mAhi _ _ _ => exact only_execMAhi ..
  | mAlo _ _ _ => exact only_execMAlo ..
  | mAput _ _ _ _ => exact only_execMAput ..
  | mAneg _ _ => exact only_execMAneg ..
  | mLds _ _ _ _ => exact only_execMLds ..
  | mSts _ _ _ _ => exact only_execMSts ..
  | mLdi _ _ _ _ _ => exact only_execMLdi ..
  | mLdt _ _ _ _ => exact only_execMLdt ..
  | mLdo _ _ _ _ _ _ => exact only_execMLdo ..
  | mLdh _ _ _ _ => exact only_execMLdh ..
  | mOut _ _ _ => exact only_execMOut ..
  | mBeq _ _ _ _ => exact only_execMBeq ..
  | mBne _ _ _ _ => exact only_execMBne ..
  | mBlt _ _ _ _ => exact only_execMBlt ..
  | mBge _ _ _ _ => exact only_execMBge ..
  | mBltu _ _ _ _ => exact only_execMBltu ..
  | mBgeu _ _ _ _ => exact only_execMBgeu ..
  | mBbs _ _ _ _ => exact only_execMBbs ..
  | mBbc _ _ _ _ => exact only_execMBbc ..
  | mJmp _ _ => exact only_execMJmp ..
  | mCall _ _ => exact only_execMCall ..
  | mRet _ => exact only_execMRet ..
  | mLoop _ _ _ => exact only_execMLoop ..
  | mLoopr _ _ _ _ => exact only_execMLoopr ..
  | mRfl _ _ => exact only_execMRfl ..
  | mRflc _ _ => exact only_execMRflc ..
  | mLfl _ _ => exact only_execMLfl ..
  | mCyc _ _ => exact only_execMCyc ..
  | mNow _ _ => exact only_execMNow ..
  | mSysMode _ _ => exact only_execMSysMode ..
  | mNop _ => exact only_execMNop ..
  | mEnd _ => exact only_execMEnd ..
  | illegalInstruction _ => exact only_execIllegalInstruction ..
  | viboff _ => exact only_execViboff ..
  | qoff _ => exact only_execQoff ..
  | ntarget _ => exact only_execNtarget ..
  | trim _ _ => exact only_execTrim ..
  | cancel _ => exact only_execCancel ..
  | kerfRatio _ _ => exact only_execKerfRatio ..
  | shimIntensity _ _ => exact only_execShimIntensity ..
  | hubGuardThermalInput _ _ => exact only_execHubGuardThermalInput ..
  | converterOutputTimeout => exact only_execConverterOutputTimeout ..
  | engineLossTimeout => exact only_execEngineLossTimeout ..
  | converterComparatorFire _ _ _ _ => exact only_execConverterComparatorFire ..
  | converterFreqLock => exact only_execConverterFreqLock ..
  | phasePeakLimit _ _ => exact only_execPhasePeakLimit ..
  | phaseOverload _ => exact only_execPhaseOverload ..
  | phaseOverloadClear _ => exact only_execPhaseOverloadClear ..
  | trimLimit _ => exact only_execTrimLimit ..
  | shedBegin _ => exact only_execShedBegin ..
  | provisionalExpiry _ => exact only_execProvisionalExpiry ..
  | vibDroopCrossing _ => exact only_execVibDroopCrossing ..
  | currentStepDetected _ => exact only_execCurrentStepDetected ..
  | shedHoldoffExpiry => exact only_execShedHoldoffExpiry ..
  | wakeElapsed _ => exact only_execWakeElapsed ..
  | admitRampStep _ => exact only_execAdmitRampStep ..
  | phaseFault _ _ => exact only_execPhaseFault ..
  | phaseSpareResponse _ => exact only_execPhaseSpareResponse ..
  | converterDeEntry _ => exact only_execConverterDeEntry ..
  | converterDeExit _ => exact only_execConverterDeExit ..
  | railStartCommand _ => exact only_execRailStartCommand ..
  | railDelayElapsed _ _ => exact only_execRailDelayElapsed ..
  | railRefReached _ => exact only_execRailRefReached ..
  | railNotGoodTimeout _ _ => exact only_execRailNotGoodTimeout ..
  | railStopCommand _ => exact only_execRailStopCommand ..
  | railStopDelayElapsed _ => exact only_execRailStopDelayElapsed ..
  | railDown _ _ => exact only_execRailDown ..
  | inputStop _ => exact only_execInputStop ..
  | vinLow _ => exact only_execVinLow ..
  | overvoltage _ _ => exact only_execOvervoltage ..
  | overvoltagePersists _ => exact only_execOvervoltagePersists ..
  | railGood _ => exact only_execRailGood ..
  | startfailTimeout _ => exact only_execStartfailTimeout ..
  | stagingInterval _ => exact only_execStagingInterval ..
  | forcedStaging _ => exact only_execForcedStaging ..
  | handoverTret _ => exact only_execHandoverTret ..
  | fenceTimeout _ => exact only_execFenceTimeout ..
  | stageOpen _ => exact only_execStageOpen ..
  | fallingComplete _ => exact only_execFallingComplete ..
  | purgeClampTret _ => exact only_execPurgeClampTret ..
  | agoneChange _ _ => exact only_execAgoneChange ..
  | purgeComplete _ => exact only_execPurgeComplete ..
  | purgeslow _ => exact only_execPurgeslow ..
  | hintWordCheck _ _ => exact only_execHintWordCheck ..
  | phase _ => exact only_execPhase ..
  | batch _ => exact only_execBatch ..
  | kvgrow _ => exact only_execKvgrow ..
  | barrier _ => exact only_execBarrier ..
  | bwait _ => exact only_execBwait ..
  | step _ => exact only_execStep ..
  | context _ => exact only_execContext ..
  | activityFrame _ _ _ _ => exact only_execActivityFrame ..
  | hntRdyRise _ _ => exact only_execHntRdyRise ..
  | hntRdyFall _ => exact only_execHntRdyFall ..
  | shimAnnouncedArrival _ => exact only_execShimAnnouncedArrival ..
  | annwaitExpiry _ => exact only_execAnnwaitExpiry ..
  | shimOnset => exact only_execShimOnset ..
  | taperStart => exact only_execTaperStart ..
  | shimTargetUpdate => exact only_execShimTargetUpdate ..
  | shimIdle => exact only_execShimIdle ..
  | drained _ _ => exact only_execDrained ..
  | request _ _ _ => exact only_execRequest ..
  | fenceMessageDiscard w => exact only_execFenceMessageDiscard w s
  | kerfResend => exact only_execKerfResend ..
  | xfer _ => exact only_execXfer ..
  | xack _ => exact only_execXack ..
  | advert _ => exact only_execAdvert ..
  | stale _ => exact only_execStale ..
  | expelled _ => exact only_execExpelled ..
  | tideFrameDiscard _ => exact only_execTideFrameDiscard ..
  | tideWindow => exact only_execTideWindow ..
  | tideCreditStage => exact only_execTideCreditStage ..
  | escrowRetry _ _ => exact only_execEscrowRetry ..
  | peerDead _ => exact only_execPeerDead ..
  | tideFiguresStale => exact only_execTideFiguresStale ..
  | presenceTimer => exact only_execPresenceTimer ..
  | presence port origin die group => exact only_execPresence port origin die group s
  | dvtTideFrame _ _ => exact only_execDvtTideFrame ..
  | dvtShimOnset _ _ _ => exact only_execDvtShimOnset ..
  | droopAlert _ _ => exact only_execDroopAlert ..
  | peerdroopExpiry => exact only_execPeerdroopExpiry ..
  | dvtFrameCrcError _ => exact only_execDvtFrameCrcError ..
  | dvtLinkDown _ => exact only_execDvtLinkDown ..
  | dvtLockTimeout _ => exact only_execDvtLockTimeout ..
  | dvtRetrain _ => exact only_execDvtRetrain ..
  | dvtTraining _ _ => exact only_execDvtTraining ..
  | fabFrame _ => exact only_execFabFrame ..
  | fabUpChange _ => exact only_execFabUpChange ..
  | thstale _ => exact only_execThstale ..
  | lowconfQueue _ _ => exact only_execLowconfQueue ..
  | diodeReadingComplete _ _ => exact only_execDiodeReadingComplete ..
  | tinletSubstitution => exact only_execTinletSubstitution ..
  | bandEvaluation => exact only_execBandEvaluation ..
  | thermalRegionOrder _ => exact only_execThermalRegionOrder ..
  | thermalOrderRelease _ => exact only_execThermalOrderRelease ..
  | monitorRead _ => exact only_execMonitorRead ..
  | monitorAnswer _ _ _ => exact only_execMonitorAnswer ..
  | guardbandTrim _ _ => exact only_execGuardbandTrim ..
  | drainTimeout => exact only_execDrainTimeout ..
  | stopRegionsDark => exact only_execStopRegionsDark ..
  | stopRailsDown => exact only_execStopRailsDown ..
  | coolantStop => exact only_execCoolantStop ..
  | coolantRailStop => exact only_execCoolantRailStop ..
  | ledgerWriteBack _ => exact only_execLedgerWriteBack ..
  | ledgerWriteComplete _ _ => exact only_execLedgerWriteComplete ..
  | ledgerFetchComplete _ _ _ _ => exact only_execLedgerFetchComplete ..
  | ledgerQueryReady => exact only_execLedgerQueryReady ..
  | ledgerClearComplete => exact only_execLedgerClearComplete ..
  | harvest _ _ => exact only_execHarvest ..
  | harvestRetry _ => exact only_execHarvestRetry ..
  | watchdogExpiry => exact only_execWatchdogExpiry ..
  | coreRelease => exact only_execCoreRelease ..
  | firmwareReady => exact only_execFirmwareReady ..
  | firmwareReadyTimeout => exact only_execFirmwareReadyTimeout ..
  | kick _ => exact only_execKick ..
  | hostQueueService => exact only_execHostQueueService ..
  | registerWrite _ _ => exact only_execRegisterWrite ..
  | lowWordRead _ => exact only_execLowWordRead ..
  | attach _ => exact only_execAttach ..
  | detach _ => exact only_execDetach ..
  | hbeat _ => exact only_execHbeat ..
  | heartbeatTimeout => exact only_execHeartbeatTimeout ..
  | intcause _ => exact only_execIntcause ..
  | sessionRequest _ => exact only_execSessionRequest ..
  | sessionClose _ => exact only_execSessionClose ..
  | sesgo _ => exact only_execSesgo ..
  | sessionVerified => exact only_execSessionVerified ..
  | sessionIdleTimeout => exact only_execSessionIdleTimeout ..
  | lockoutExpiry => exact only_execLockoutExpiry ..
  | instkeygo _ => exact only_execInstkeygo ..
  | wrbnd _ => exact only_execWrbnd ..
  | bundleClose _ => exact only_execBundleClose ..
  | snpreq _ _ => exact only_execSnpreq ..
  | snpdatAutoRead => exact only_execSnpdatAutoRead ..
  | lqreq _ => exact only_execLqreq ..
  | dioreq _ => exact only_execDioreq ..
  | thrst _ => exact only_execThrst ..
  | talsel _ => exact only_execTalsel ..
  | tallyValueReady => exact only_execTallyValueReady ..
  | trcctlClear _ => exact only_execTrcctlClear ..
  | tracePoint _ => exact only_execTracePoint ..
  | logEntry _ _ _ => exact only_execLogEntry ..
  | loopOpen => exact only_execLoopOpen ..
  | loopClose => exact only_execLoopClose ..
  | loopman _ _ => exact only_execLoopman ..
  | coefval _ => exact only_execCoefval ..
  | imageStart _ => exact only_execImageStart ..
  | imgdat _ => exact only_execImgdat ..
  | imageFinish => exact only_execImageFinish ..
  | imageCheckComplete _ => exact only_execImageCheckComplete ..
  | imageAbort => exact only_execImageAbort ..
  | rwx _ => exact only_execRwx ..
  | restart => exact only_execRestart ..
  | warm => exact only_execWarm ..
  | pdown => exact only_execPdown ..
  | cfgsave _ => exact only_execCfgsave ..
  | cfgsaveComplete _ => exact only_execCfgsaveComplete ..
  | rvreq _ => exact only_execRvreq ..
  | vibset _ => exact only_execVibset ..
  | qset _ => exact only_execQset ..
  | orderNone _ => exact only_execOrderNone ..
  | orderOn _ => exact only_execOrderOn ..
  | orderOff _ => exact only_execOrderOff ..
  | orderRetention _ => exact only_execOrderRetention ..
  | orderPurge _ => exact only_execOrderPurge ..
  | phcmdAdmit _ => exact only_execPhcmdAdmit ..
  | phcmdRetire _ => exact only_execPhcmdRetire ..
  | dcapop _ => exact only_execDcapop ..
  | dcapin _ => exact only_execDcapin ..
  | dcapmk _ => exact only_execDcapmk ..
  | ledenSet => exact only_execLedenSet ..
  | ledenClear => exact only_execLedenClear ..
  | ledbase _ _ => exact only_execLedbase ..
  | ten _ => exact only_execTen ..
  | freeze _ => exact only_execFreeze ..
  | trel _ => exact only_execTrel ..
  | expinc _ => exact only_execExpinc ..
  | page _ => exact only_execPage ..
  | clearFaults => exact only_execClearFaults ..
  | capability => exact only_execCapability ..
  | voutMode => exact only_execVoutMode ..
  | statusByte => exact only_execStatusByte ..
  | statusWord => exact only_execStatusWord ..
  | statusVout => exact only_execStatusVout ..
  | statusIout => exact only_execStatusIout ..
  | statusInput => exact only_execStatusInput ..
  | statusTemperature => exact only_execStatusTemperature ..
  | readVin => exact only_execReadVin ..
  | readIin => exact only_execReadIin ..
  | readVout => exact only_execReadVout ..
  | readIout => exact only_execReadIout ..
  | readTemperature1 => exact only_execReadTemperature1 ..
  | readPout => exact only_execReadPout ..
  | readPin => exact only_execReadPin ..
  | pmbusRevision => exact only_execPmbusRevision ..
  | pmbusOtherWrite _ => exact only_execPmbusOtherWrite ..
  | alertResponse => exact only_execAlertResponse ..
  | avsbusPoll => exact only_execAvsbusPoll ..
  | avsbusReply _ _ _ => exact only_execAvsbusReply ..
  | dynamicAddressAssigned _ => exact only_execDynamicAddressAssigned ..
  | tver _ => exact only_execTver ..
  | inlet _ => exact only_execInlet ..
  | tceil _ => exact only_execTceil ..
  | trayState => exact only_execTrayState ..
  | trayCap => exact only_execTrayCap ..
  | pdel => exact only_execPdel ..
  | tryFlowChange _ => exact only_execTryFlowChange ..
  | porstNAssert => exact only_execPorstNAssert ..
  | porstNRelease => exact only_execPorstNRelease ..
  | vaonRemoved => exact only_execVaonRemoved ..
  | ckeAbsent => exact only_execCkeAbsent ..
  | ckrPresent => exact only_execCkrPresent ..
  | firmwareStart => exact only_execFirmwareStart ..
  | bootVinGood => exact only_execBootVinGood ..
  | bootRailsInReg => exact only_execBootRailsInReg ..
  | bootRegionsLive => exact only_execBootRegionsLive ..
  | railFaultRetry _ => exact only_execRailFaultRetry ..
  | inputStopRecovery => exact only_execInputStopRecovery ..
  | fastWindowRearm _ _ _ => exact only_execFastWindowRearm ..
  | creditReturn _ _ _ => exact only_execCreditReturn ..
  | event _ _ _ _ => exact only_execEvent ..
  | overvoltageClear _ _ => exact only_execOvervoltageClear ..
  | ledfaultClear => exact only_execLedfaultClear ..
  | sluiceFaultExpiry => exact only_execSluiceFaultExpiry ..
  | monitorAnswerTimeout _ => exact only_execMonitorAnswerTimeout ..
  | voltageModePeriod _ _ _ => exact only_execVoltageModePeriod ..
  | quietRailPeriod _ _ _ => exact only_execQuietRailPeriod ..
  | dvtLock _ => exact only_execDvtLock ..
  | tapInstructionLoad _ => exact only_execTapInstructionLoad ..
  | dbgMakerChallenge _ => exact only_execDbgMakerChallenge ..
  | dbgTrstN => exact only_execDbgTrstN ..
  | dbgStoreWrite _ _ => exact only_execDbgStoreWrite ..

theorem exec_next {c : Instr} {s t : State} (h : exec c s = .next t) : ∃ u, t = settle u ∧ Only (partsOf c) s u := by
  obtain ⟨u, hu, only⟩ := exec_ends c s
  exact ⟨u, Host.Outcome.next.inj (h.symm.trans hu), only⟩

/-- A command completes with what holds of the state it ends in: its frame is the one of `exec_ends`. -/
theorem Does.of_exec {c : Instr} {s u : State} {ps : List Part} {P : State → Prop} (h : exec c s = done u) (hp : P (settle u))
    (hs : partsOf c ⊆ ps) : Does c s ps P := by
  obtain ⟨v, hv, only⟩ := exec_next h
  exact ⟨settle u, h, hp, hv ▸ only.settle.mono hs⟩

/-- Every part of one list is in another, by evaluation. -/
theorem parts_subset {ps qs : List Part} (h : ps.all (fun p => decide (p ∈ qs)) = true) : ps ⊆ qs := fun p hp =>
  of_decide_eq_true (List.all_eq_true.1 h p hp)

theorem Completes.of_exec {c : Instr} {s u : State} {P : State → Prop} (h : exec c s = done u) (hp : P (settle u)) :
    Completes c s P := Does.of_exec h hp (List.Subset.refl _)

/-- Settles O3: each command has its frame lemma, and settling the outputs changes no part. -/
theorem everyCommandKeepsToItsParts : Obligations.EveryCommandKeepsToItsParts := by
  intro c s t h
  obtain ⟨u, rfl, only⟩ := exec_next h
  exact only.settle

/-! ### The step -/

theorem step_of_pending_nil {s : State} (h : s.pending = []) : step s = .next (idleCycle s) := by
  simp [step, h]

theorem step_of_pending_cons {s : State} {c : Instr} {rest : List Instr} (h : s.pending = c :: rest) :
    step s = exec c (s.withPending rest) := by
  simp [step, h]

/-- Settles O1: by the definition of the step at an empty queue and at one with a front command. -/
theorem stepTakesTheFrontCommand : Obligations.StepTakesTheFrontCommand :=
  ⟨fun _ _ _ h => step_of_pending_cons h, fun s h => ⟨idleCycle s, step_of_pending_nil h, rfl, only_idleCycle s⟩⟩

/-- Settles O2: a command answers a next state, and its frame keeps the queue it started from. -/
theorem stepAnswersANextStateAndKeepsTheQueueInOrder : Obligations.StepAnswersANextStateAndKeepsTheQueueInOrder := by
  intro s
  cases h : s.pending with
  | nil => exact ⟨idleCycle s, step_of_pending_nil h, h⟩
  | cons c rest =>
    obtain ⟨u, hu, only⟩ := exec_ends c (s.withPending rest)
    exact ⟨settle u, (step_of_pending_cons h).trans hu, only.settle.1⟩

/-! ### The outputs presented -/

/-- What the kerf and shim ratios follow from is not among what settling writes. -/
theorem Kept.held60 {s t : State} (h : Kept s t) : t.held60 = s.held60 := by
  have hb : t.hw.bstate = s.hw.bstate := by rw [h.hw]
  simp only [State.held60, hb, h.sys]

theorem Kept.kerfOf {s t : State} (h : Kept s t) (r : Nat) : t.kerfOf r = s.kerfOf r := by
  obtain ⟨_, _, _, _, _, _, _, _, _, _, _, hkrf⟩ := h.reg r
  have hk : (t.reg r).krf.kLoop = (s.reg r).krf.kLoop := by rw [hkrf]
  simp only [State.kerfOf, h.held60, h.com, hk]

theorem Kept.shimOf {s t : State} (h : Kept s t) (r : Nat) : t.shimOf r = s.shimOf r := by
  obtain ⟨_, _, _, _, _, _, _, _, _, _, hseq, hkrf⟩ := h.reg r
  have hst : (t.reg r).seq.st = (s.reg r).seq.st := by rw [hseq]
  have hw : (t.reg r).krf.win = (s.reg r).krf.win := by rw [hkrf]
  have hl : (t.reg r).krf.sLoop = (s.reg r).krf.sLoop := by rw [hkrf]
  simp only [State.shimOf, h.kerfOf r, h.held60, h.com, hst, hw, hl]

theorem Kept.refreshOf {s t : State} (h : Kept s t) (n : Nat) : t.refreshOf n = s.refreshOf n := by
  simp only [State.refreshOf, State.rimg, h.sys, h.com]

theorem Kept.regions {s t : State} (h : Kept s t) : t.regions = s.regions := by
  simp only [State.regions, h.sys]

/-- Region `r` shows the kerf ratio and the shim intensity that the state calls for (R307, R309, R327). -/
def State.ShowsRatios (s : State) (r : Nat) : Prop := (s.reg r).krf.kPres = s.kerfOf r ∧ (s.reg r).krf.sPres = s.shimOf r

/-- Settling a region changes its record only, to one that shows both ratios. -/
theorem settleRegion_regs (s : State) (r : Nat) :
    ∃ f, (settleRegion s r).regs = (s.updReg r f).regs ∧ (f (s.reg r)).krf.kPres = s.kerfOf r ∧
      (f (s.reg r)).krf.sPres = s.shimOf r := by
  unfold settleRegion
  extract_lets k i x u
  obtain ⟨f, hu, hk, hi⟩ : ∃ f, u = s.updReg r f ∧ (f (s.reg r)).krf.kPres = k ∧ (f (s.reg r)).krf.sPres = i :=
    ⟨_, rfl, rfl, rfl⟩
  refine ⟨f, ?_, hk, hi⟩
  rw [← hu]
  split
  · rfl
  · exact State.updPorts_regs _ _

theorem settleRegion_reg_other (s : State) {r q : Nat} (h : q ≠ r) : (settleRegion s r).reg q = s.reg q := by
  obtain ⟨f, hf, _⟩ := settleRegion_regs s r
  unfold State.reg
  rw [hf]
  exact State.updReg_reg_other s f h

theorem settleRegion_shows (s : State) (r : Nat) : (settleRegion s r).ShowsRatios r := by
  obtain ⟨f, hf, hk, hi⟩ := settleRegion_regs s r
  have hreg : (settleRegion s r).reg r = f (s.reg r) := by
    unfold State.reg
    rw [hf]
    exact State.updReg_reg_same s r f
  have kept := Kept.settleRegion s r
  exact ⟨by rw [hreg, hk, kept.kerfOf], by rw [hreg, hi, kept.shimOf]⟩

/-- A region that shows its ratios still does when another one settles. -/
theorem State.ShowsRatios.settleRegion {s : State} {q : Nat} (h : s.ShowsRatios q) (r : Nat) : (settleRegion s r).ShowsRatios q := by
  by_cases hq : q = r
  · subst hq
    exact settleRegion_shows s q
  · have kept := Kept.settleRegion s r
    unfold ShowsRatios
    rw [settleRegion_reg_other s hq, kept.kerfOf, kept.shimOf]
    exact h

/-- After every listed region has settled, each of them shows its ratios. -/
theorem foldl_settleRegion_shows {q : Nat} : ∀ (l : List Nat) (s : State), (q ∈ l ∨ s.ShowsRatios q) → (l.foldl settleRegion s).ShowsRatios q
  | [], _, h => h.resolve_left (List.not_mem_nil)
  | r :: l, s, h => by
    refine foldl_settleRegion_shows l _ ?_
    rcases h with h | h
    · rcases List.mem_cons.mp h with rfl | h
      · exact Or.inr (settleRegion_shows s q)
      · exact Or.inl h
    · exact Or.inr (h.settleRegion r)

/-- A table after the entries of a range are written. -/
theorem Tbl.get_foldl_set_range (f : Nat → Nat) (t : Tbl Nat) {k n : Nat} (h : n < k) :
    Tbl.get 0 ((List.range k).foldl (fun t n => Tbl.set 0 t n (f n)) t) n = f n := by
  induction k with
  | zero => omega
  | succ k ih =>
    rw [List.range_succ, List.foldl_append, List.foldl_cons, List.foldl_nil, Tbl.get_set]
    split
    · subst_vars
      rfl
    · exact ih (by omega)

/-- After the regions have settled, the rest of `settle` leaves their records alone and writes the refresh codes. -/
theorem settle_regs_rfc (s : State) :
    (settle s).regs = (s.regions.foldl settleRegion s).regs ∧
    (settle s).ports.rfc = (List.range 8).foldl
      (fun t n => Tbl.set 0 t n ((s.regions.foldl settleRegion s).refreshOf n)) (s.regions.foldl settleRegion s).ports.rfc := by
  unfold settle
  extract_lets s1 s2 o s3 f rise s4 s5 c up s6 i s7
  have h5 : s5.regs = s4.regs ∧ s5.ports = s4.ports := by
    simp only [s5]
    split <;> exact ⟨rfl, rfl⟩
  obtain ⟨hregs, hports⟩ := h5
  refine ⟨?_, ?_⟩
  · calc (s7.updPorts _).regs = s5.regs := by simp only [s7, s6, State.updPorts_regs]
      _ = s1.regs := by simp only [hregs, s4, s3, s2, State.updFlt_regs, State.updShim_regs, State.updPorts_regs]
  · calc (s7.updPorts _).ports.rfc = s5.ports.rfc := by simp only [s7, s6, State.updPorts]
      _ = s2.ports.rfc := by simp only [hports, s4, s3, State.updFlt_ports, State.updShim_ports]

theorem settle_presented (s : State) : (settle s).Presented := by
  have kept := settle_kept s
  have keptFold : Kept s (s.regions.foldl settleRegion s) := Kept.foldl _ Kept.settleRegion _ s
  obtain ⟨hregs, hrfc⟩ := settle_regs_rfc s
  refine ⟨rfl, fun r hr => ?_, fun n hn => ?_⟩
  · rw [kept.regions] at hr
    have shown := foldl_settleRegion_shows s.regions s (Or.inl hr)
    unfold State.ShowsRatios at shown
    rwa [State.reg, hregs, kept.kerfOf, kept.shimOf, ← keptFold.kerfOf, ← keptFold.shimOf]
  · rw [hrfc, Tbl.get_foldl_set_range _ _ hn, kept.refreshOf, keptFold.refreshOf]

/-- The time is no part of what the outputs follow from. -/
theorem State.Presented.idleCycle {s : State} (h : s.Presented) : (idleCycle s).Presented := h

/-- Settles O4: a command settles the outputs at its end, whatever they were before, and an idle cycle touches nothing that they
follow from. -/
theorem stepKeepsTheOutputsPresented : Obligations.StepKeepsTheOutputsPresented := by
  intro s t hs h
  cases hq : s.pending with
  | nil =>
    rw [step_of_pending_nil hq] at h
    cases h
    exact hs.idleCycle
  | cons c rest =>
    rw [step_of_pending_cons hq] at h
    obtain ⟨u, rfl, _⟩ := exec_next h
    exact settle_presented u

theorem LinkDir.balanced_default : ({} : LinkDir).Balanced := LinkDir.Balanced.intro rfl rfl rfl

/-- Settles O5: the image defines no region yet, every table is empty, and every link direction holds all its credits. -/
theorem resetPresentsItsOutputs : Obligations.ResetPresentsItsOutputs := by
  refine ⟨⟨by decide, fun r hr => absurd hr List.not_mem_nil, fun n _ => rfl⟩, fun l d => ?_⟩
  cases d <;> exact LinkDir.balanced_default

end Sys2Proof.Machine
end

section
/-! SUPPORT. The link commands (R45 to R49): what each does to a direction of a link, the credit sum of R48 under each, and the
proofs of the obligations about credits. -/

namespace Sys2Proof.Machine

-- The joined text is checked under a memory limit that counts every thread's stack: one proof at a time.
set_option Elab.async false

variable {s : State} {l : LinkId} {d : Dir}

/-! ### Directions of links -/

/-- The links at the two ends of an update of one direction: every other direction is as before. -/
theorem State.updDir_dir_ne (s : State) {m : LinkId} {e : Dir} (f : LinkDir → LinkDir) (h : (m, e) ≠ (l, d)) :
    (s.updDir l d f).dir m e = s.dir m e := by
  by_cases hm : m = l
  · subst hm
    exact State.updDir_dir_opp s m f fun he => h (by rw [he])
  · exact State.updDir_dir_other s d e f hm

theorem otherDir_ne (d : Dir) : otherDir d ≠ d := by
  cases d <;> decide

@[simp] theorem State.updNode_dir (s : State) (n : Nat) (f : Node → Node) (m : LinkId) (e : Dir) :
    (s.updNode n f).dir m e = s.dir m e := by
  cases e <;> rfl

@[simp] theorem State.reach_dir (s : State) (t : Nat) (m : LinkId) (e : Dir) : (s.reach t).dir m e = s.dir m e := by
  cases e <;> rfl

@[simp] theorem State.updDir_node (s : State) (l : LinkId) (d : Dir) (f : LinkDir → LinkDir) (n : Nat) :
    (s.updDir l d f).node n = s.node n := rfl

/-- Where a packet arrives, only its direction of its link changes. -/
theorem State.takeOn_dir (s : State) (l : LinkId) (d : Dir) (p : Packet) (m : LinkId) (e : Dir) :
    (s.takeOn l d p).dir m e = (s.updDir l d (LinkDir.take · p)).dir m e := by
  unfold State.takeOn
  dsimp only
  split
  · exact State.updNode_dir _ _ _ _ _
  · rfl

/-- Nothing that a command decides by changes when a packet arrives, but its direction of its link. -/
theorem State.takeOn_now (s : State) (l : LinkId) (d : Dir) (p : Packet) : (s.takeOn l d p).now = s.now := by
  unfold State.takeOn
  dsimp only
  split <;> rfl

theorem State.takeOn_stg (s : State) (l : LinkId) (d : Dir) (p : Packet) : (s.takeOn l d p).stg = s.stg := by
  unfold State.takeOn
  dsimp only
  split <;> rfl

/-! ### What the commands do to a direction -/

/-- A credit returns to the sender, and what waited for it goes out (R45). -/
def LinkDir.creditIn (now : Nat) (closing : Bool) (k : PClass) (x : LinkDir) : LinkDir :=
  if 0 < x.back k then ((x.setBack k (x.back k - 1)).setCredit k (x.credit k + 1)).pump now closing x.queue.length else x

/-- The oldest packet on the wire is lost (R40): it stands as on the wire until the next audit (R48). -/
def LinkDir.loseFirst (x : LinkDir) : LinkDir :=
  match x.wire with
  | [] => x
  | p :: rest =>
    ({ x with wire := rest, timeOut := if p.ty = 7 then x.timeOut.drop 1 else x.timeOut } : LinkDir).setLost (classOfTy p.ty)
      (x.lost (classOfTy p.ty) + 1)

/-- A reset is over: what waited goes out (R49). -/
def LinkDir.resume (now : Nat) (closing : Bool) (x : LinkDir) : LinkDir :=
  ({ x with resetting := false } : LinkDir).pump now closing x.queue.length

theorem exec_creditReturn (s : State) (l : LinkId) (d : Dir) (k : PClass) :
    exec (.creditReturn l d k) s = done (s.updDir l d (LinkDir.creditIn s.now s.stg.closed k)) := rfl

theorem exec_linkAuditTimer (s : State) (l : LinkId) (d : Dir) :
    exec (.linkAuditTimer l d) s =
      let u := s.reach ((s.dir l d).auditAt + 256 * cksT)
      done (u.updDir l d fun x => (x.audited u.now).push u.now u.stg.closed (linkPkt 1 0 0 0)) := rfl

theorem exec_parityErrorPacket (s : State) (l : LinkId) (d : Dir) :
    exec (.parityErrorPacket l d) s =
      done ((s.updDir l d LinkDir.loseFirst).updNode (s.receiver l d).1 fun x =>
        { x with parity := x.parity.set 0 (s.receiver l d).2 (x.parity.get 0 (s.receiver l d).2 + 1) }) := by
  have hr : ∀ f, (s.updDir l d f).receiver l d = s.receiver l d := fun _ => by cases d <;> rfl
  change done _ = _
  rw [hr]
  rfl

theorem exec_audit {c t u : Nat} (h : (s.dir l d).holds (linkPkt 1 c t u) = true) :
    exec (.audit l d c t u) s = done ((s.updDir l d (LinkDir.auditIn c t u)).takeOn l d (linkPkt 1 c t u)) := if_pos h

theorem exec_audit_of_not_holds {c t u : Nat} (h : (s.dir l d).holds (linkPkt 1 c t u) = false) :
    exec (.audit l d c t u) s = done s := if_neg (by simp [h])

theorem exec_resetRequest (h : (s.dir l d).holds (linkPkt 2 0 0 0) = true) :
    exec (.resetRequest l d) s =
      done ((s.updDir l d fun x => { x.cleared with resetting := true }).updDir l (otherDir d)
        (LinkDir.resetSend (linkPkt 3 0 0 0))) := if_pos h

theorem exec_resetRequest_of_not_holds (h : (s.dir l d).holds (linkPkt 2 0 0 0) = false) :
    exec (.resetRequest l d) s = done s := if_neg (by simp [h])

theorem exec_resetDone (h : (s.dir l d).holds (linkPkt 3 0 0 0) = true) :
    exec (.resetDone l d) s =
      done (((s.takeOn l d (linkPkt 3 0 0 0)).updDir l d (LinkDir.resume s.now s.stg.closed)).updDir l (otherDir d)
        (LinkDir.resume s.now s.stg.closed)) := by
  refine (if_pos h).trans ?_
  simp only [State.takeOn_now, State.takeOn_stg]
  rfl

theorem exec_resetDone_of_not_holds (h : (s.dir l d).holds (linkPkt 3 0 0 0) = false) : exec (.resetDone l d) s = done s :=
  if_neg (by simp [h])

theorem exec_creditInvariantBreak {k : PClass} (hc : (s.dir l d).credit k = 0) (hz : 2 ≤ (s.dir l d).zero k)
    (hw : (s.dir l d).onWire k < buffers k) : exec (.creditInvariantBreak l d k) s = done s.sluiceFault := if_pos ⟨hc, hz, hw⟩

/-! ### The credit sum of a class (R48) -/

theorem creditIn_sum (now : Nat) (closing : Bool) (k : PClass) (x : LinkDir) (j : PClass) :
    (x.creditIn now closing k).sum j = x.sum j := by
  unfold LinkDir.creditIn
  split
  · rw [pump_sum]
    cases k <;> cases j <;>
      simp_all [LinkDir.sum, LinkDir.setBack, LinkDir.setCredit, LinkDir.credit, LinkDir.onWire, LinkDir.lost, LinkDir.back] <;> omega
  · rfl

theorem loseFirst_sum (x : LinkDir) (j : PClass) : x.loseFirst.sum j = x.sum j := by
  unfold LinkDir.loseFirst
  split
  · rfl
  · rename_i p rest hw
    cases hk : classOfTy p.ty <;> cases j <;>
      simp [LinkDir.sum, LinkDir.setLost, LinkDir.credit, LinkDir.onWire, LinkDir.lost, LinkDir.back, hw, hk] <;> omega

theorem resume_sum (now : Nat) (closing : Bool) (x : LinkDir) (j : PClass) : (x.resume now closing).sum j = x.sum j :=
  pump_sum now closing _ _ j

theorem auditTimer_sum (now : Nat) (closing : Bool) (p : Packet) (x : LinkDir) (j : PClass) :
    ((x.audited now).push now closing p).sum j = x.sum j :=
  (push_sum now closing p _ j).trans (by cases j <;> rfl)

/-- An audit that finds exactly the lost packets missing keeps every sum. -/
theorem auditIn_sum {x : LinkDir} {c t u : Nat} (hc : (c % 256 + 256 - x.recvC.toNat) % 256 = x.lostC)
    (ht : (t % 256 + 256 - x.recvT.toNat) % 256 = x.lostT) (hu : (u % 256 + 256 - x.recvU.toNat) % 256 = x.lostU) (j : PClass) :
    (x.auditIn c t u).sum j = x.sum j := by
  cases j <;>
    simp [LinkDir.sum, LinkDir.auditIn, LinkDir.restore, LinkDir.setLost, LinkDir.setBack, LinkDir.credit, LinkDir.onWire,
      LinkDir.lost, LinkDir.back, hc, ht, hu] <;> omega

theorem cleared_balanced (x : LinkDir) (b : Bool) : ({ x.cleared with resetting := b } : LinkDir).Balanced :=
  LinkDir.Balanced.intro rfl rfl rfl

/-- The LINK packet of a reset stands on the wire on the credit it took. -/
theorem resetSend_balanced (x : LinkDir) (sub : Nat) : (x.resetSend (linkPkt sub 0 0 0)).Balanced :=
  LinkDir.Balanced.intro rfl rfl rfl

/-! ### The invariant under the commands -/

/-- Every direction of every link holds its credits (R48). -/
def State.LinksBalanced (s : State) : Prop := ∀ m e, (s.dir m e).Balanced

theorem State.LinksBalanced.updDir (h : s.LinksBalanced) (l : LinkId) (d : Dir) {f : LinkDir → LinkDir}
    (hf : ∀ x k, (f x).sum k = x.sum k) : (s.updDir l d f).LinksBalanced :=
  s.updDir_balanced l d f h ((h l d).of_sum (hf _))

theorem State.LinksBalanced.takeOn (h : s.LinksBalanced) (l : LinkId) (d : Dir) (p : Packet) : (s.takeOn l d p).LinksBalanced :=
  fun m e => by
    rw [State.takeOn_dir]
    exact h.updDir l d (fun x k => take_sum x p k) m e

theorem State.LinksBalanced.settle (h : s.LinksBalanced) : (settle s).LinksBalanced := fun m e => by
  rw [settle_dir]
  exact h m e

theorem creditReturn_balanced (h : s.LinksBalanced) (l : LinkId) (d : Dir) (k : PClass) :
    Does (.creditReturn l d k) s [.now, .links, .nodes] State.LinksBalanced :=
  Does.of_exec (exec_creditReturn s l d k) (h.updDir l d (creditIn_sum _ _ k)).settle (parts_subset rfl)

theorem linkAuditTimer_balanced (h : s.LinksBalanced) (l : LinkId) (d : Dir) :
    Does (.linkAuditTimer l d) s [.now, .links, .nodes] State.LinksBalanced := by
  have reached : (s.reach ((s.dir l d).auditAt + 256 * cksT)).LinksBalanced := fun m e => by
    rw [State.reach_dir]
    exact h m e
  exact Does.of_exec (exec_linkAuditTimer s l d) (reached.updDir l d (auditTimer_sum _ _ _)).settle (parts_subset rfl)

theorem parityErrorPacket_balanced (h : s.LinksBalanced) (l : LinkId) (d : Dir) :
    Does (.parityErrorPacket l d) s [.now, .links, .nodes] State.LinksBalanced := by
  have lost : (s.updDir l d LinkDir.loseFirst).LinksBalanced := h.updDir l d loseFirst_sum
  exact Does.of_exec (exec_parityErrorPacket s l d) (State.LinksBalanced.settle fun m e => by
    rw [State.updNode_dir]
    exact lost m e) (parts_subset rfl)

theorem resetRequest_balanced (h : s.LinksBalanced) (l : LinkId) (d : Dir) :
    Does (.resetRequest l d) s [.now, .links, .nodes] State.LinksBalanced := by
  cases hp : (s.dir l d).holds (linkPkt 2 0 0 0) with
  | false => exact Does.of_exec (exec_resetRequest_of_not_holds hp) h.settle (parts_subset rfl)
  | true =>
    have cleared := s.updDir_balanced l d (fun x => { x.cleared with resetting := true }) h (cleared_balanced _ _)
    exact Does.of_exec (exec_resetRequest hp) (State.LinksBalanced.settle
      (State.updDir_balanced _ l (otherDir d) _ cleared (resetSend_balanced _ 3))) (parts_subset rfl)

theorem resetDone_balanced (h : s.LinksBalanced) (l : LinkId) (d : Dir) :
    Does (.resetDone l d) s [.now, .links, .nodes] State.LinksBalanced := by
  cases hp : (s.dir l d).holds (linkPkt 3 0 0 0) with
  | false => exact Does.of_exec (exec_resetDone_of_not_holds hp) h.settle (parts_subset rfl)
  | true =>
    have resumed := ((h.takeOn l d (linkPkt 3 0 0 0)).updDir l d (resume_sum s.now s.stg.closed)).updDir l (otherDir d)
      (resume_sum s.now s.stg.closed)
    exact Does.of_exec (exec_resetDone hp) resumed.settle (parts_subset rfl)

theorem audit_balanced (h : s.LinksBalanced) {c t u : Nat}
    (hc : (c % 256 + 256 - (s.dir l d).recvC.toNat) % 256 = (s.dir l d).lostC)
    (ht : (t % 256 + 256 - (s.dir l d).recvT.toNat) % 256 = (s.dir l d).lostT)
    (hu : (u % 256 + 256 - (s.dir l d).recvU.toNat) % 256 = (s.dir l d).lostU) :
    Does (.audit l d c t u) s [.links, .nodes] State.LinksBalanced := by
  cases hp : (s.dir l d).holds (linkPkt 1 c t u) with
  | false => exact Does.of_exec (exec_audit_of_not_holds hp) h.settle (parts_subset rfl)
  | true =>
    have audited : (s.updDir l d (LinkDir.auditIn c t u)).LinksBalanced :=
      s.updDir_balanced l d _ h ((h l d).of_sum (auditIn_sum hc ht hu))
    exact Does.of_exec (exec_audit hp) (audited.takeOn l d _).settle (parts_subset rfl)

/-- Settles O13: every command keeps the sum of each class on the directions that it changes, an audit by its premise. -/
theorem linkCommandsKeepTheCreditInvariant : Obligations.LinkCommandsKeepTheCreditInvariant := by
  intro s h l d k
  refine ⟨fun x hx => ?_, fun c t u hc ht hu => audit_balanced h hc ht hu⟩
  simp only [List.mem_cons, List.not_mem_nil, or_false] at hx
  rcases hx with rfl | rfl | rfl | rfl | rfl
  · exact creditReturn_balanced h l d k
  · exact linkAuditTimer_balanced h l d
  · exact resetRequest_balanced h l d
  · exact resetDone_balanced h l d
  · exact parityErrorPacket_balanced h l d

/-! ### The effects of the commands -/

/-- An AUDIT first on the wire (R47): missing credits are restored and the counts taken over, then the AUDIT itself, of class U,
is received. -/
theorem auditIn_take {x : LinkDir} {c t u : Nat} (h : x.holds (linkPkt 1 c t u) = true) :
    (x.auditIn c t u).take (linkPkt 1 c t u) = { x.auditIn c t u with
      wire := x.wire.tail, creditLine := creditCode .u, backU := x.backU + (u % 256 + 256 - x.recvU.toNat) % 256 + 1,
      recvU := BitVec.ofNat 8 u + 1 } := by
  have held : (x.auditIn c t u).holds (linkPkt 1 c t u) = true := h
  unfold LinkDir.take
  rw [if_pos held]
  rfl

theorem loseFirst_of_wire {x : LinkDir} {p : Packet} {rest : List Packet} (h : x.wire = p :: rest) :
    x.loseFirst = ({ x with wire := rest, timeOut := if p.ty = 7 then x.timeOut.drop 1 else x.timeOut } : LinkDir).setLost
      (classOfTy p.ty) (x.lost (classOfTy p.ty) + 1) := by
  simp only [LinkDir.loseFirst, h]

theorem loseFirst_fields {x : LinkDir} {p : Packet} {rest : List Packet} (h : x.wire = p :: rest) :
    x.loseFirst.wire = rest ∧ x.loseFirst.queue = x.queue ∧
    (∀ k, x.loseFirst.lost k = x.lost k + (if classOfTy p.ty = k then 1 else 0) ∧ x.loseFirst.credit k = x.credit k ∧
      x.loseFirst.back k = x.back k) ∧
    x.loseFirst.recvC = x.recvC ∧ x.loseFirst.recvT = x.recvT ∧ x.loseFirst.recvU = x.recvU := by
  rw [loseFirst_of_wire h]
  cases classOfTy p.ty <;> refine ⟨rfl, rfl, fun k => ?_, rfl, rfl, rfl⟩ <;> cases k <;> exact ⟨rfl, rfl, rfl⟩

/-- Settles O14: each command by its effect on its direction. -/
theorem linkCommandsMoveCredits : Obligations.LinkCommandsMoveCredits := by
  intro s l d x
  refine ⟨fun k hk => ?_, ?_, fun c t u hp => ?_, fun p rest hw => ?_, fun k hc hz hroom => ?_, fun hp => ?_, fun hp => ?_⟩
  · refine Does.of_exec (exec_creditReturn s l d k) ⟨?_, fun m e hne => ?_⟩ (List.Subset.refl _)
    · rw [settle_dir, State.updDir_dir_same]
      exact if_pos hk
    · rw [settle_dir, State.updDir_dir_ne s _ hne]
  · refine Does.of_exec (exec_linkAuditTimer s l d) ⟨settle_now _, ?_, fun m e hne => ?_⟩ (List.Subset.refl _)
    · rw [settle_dir, settle_now, State.updDir_dir_same, State.reach_dir]
      rfl
    · rw [settle_dir, State.updDir_dir_ne _ _ hne, State.reach_dir]
  · have hdir : ∀ m e, ((s.updDir l d (LinkDir.auditIn c t u)).takeOn l d (linkPkt 1 c t u)).dir m e =
        ((s.updDir l d (LinkDir.auditIn c t u)).updDir l d (LinkDir.take · (linkPkt 1 c t u))).dir m e := State.takeOn_dir _ l d _
    refine Does.of_exec (exec_audit hp) ?_ (parts_subset rfl)
    simp only [settle_dir, hdir, State.updDir_dir_same, auditIn_take (x := s.dir l d) hp]
    refine ⟨rfl, rfl, rfl, rfl, rfl, rfl, rfl, rfl, trivial, rfl, fun m e hne => ?_⟩
    rw [State.updDir_dir_ne _ _ hne, State.updDir_dir_ne _ _ hne]
  · obtain ⟨hwire, hqueue, hclasses, hrc, hrt, hru⟩ := loseFirst_fields hw
    refine Does.of_exec (exec_parityErrorPacket s l d) ?_ (parts_subset rfl)
    simp only [settle_dir, settle_node, State.updNode_dir, State.updDir_dir_same, State.updNode_node_same, State.updDir_node,
      Tbl.get_set_same]
    refine ⟨hwire, hqueue, hclasses, hrc, hrt, hru, trivial, fun m e hne => State.updDir_dir_ne s _ hne⟩
  · exact Does.of_exec (exec_creditInvariantBreak hc hz hroom) (settle_flt_sluAt _) (List.Subset.refl _)
  · refine Does.of_exec (exec_resetRequest hp) ?_ (List.Subset.refl _)
    simp only [settle_dir, State.updDir_dir_same, State.updDir_dir_opp _ l _ (otherDir_ne d).symm]
    exact ⟨fun k => by cases k <;> exact ⟨rfl, rfl⟩, trivial, rfl, rfl, rfl, rfl, rfl⟩
  · refine Does.of_exec (exec_resetDone hp) ?_ (parts_subset rfl)
    simp only [settle_dir, State.updDir_dir_same, State.updDir_dir_opp _ l _ (otherDir_ne d).symm,
      State.updDir_dir_opp _ l _ (otherDir_ne d), State.takeOn_dir]
    exact ⟨rfl, rfl⟩

end Sys2Proof.Machine
end

section
/-! SUPPORT. Downward packets at a node (R44, R54, R61, R80): what a STAGE, a WRITE, an END, a set close and a verdict do there, and
the proofs of the obligations about them. -/

namespace Sys2Proof.Machine

-- The joined text is checked under a memory limit that counts every thread's stack: one proof at a time.
set_option Elab.async false

variable {s : State} {n : Nat} {h : Hdr} {tag : BitVec 3} {sel : Nat} {v : Word} {p : Packet}

/-! ### Taking the packet -/

@[simp] theorem State.takeDown_onBoundary (s : State) (n m : Nat) (p : Packet) : (s.takeDown n p).onBoundary m = s.onBoundary m := by
  unfold State.onBoundary
  rw [State.takeDown_node_epochAt]
  rfl

theorem State.Gets.hasDown (hg : s.Gets n h p) : s.hasDown n p = true := hg.2
theorem State.Gets.ne_zero (hg : s.Gets n h p) : n ≠ 0 := hg.1.1
theorem State.Gets.isFor (hg : s.Gets n h p) : s.isFor n h = true := hg.1.2

/-! ### STAGE at a pan -/

/-- A pan holds a STAGE that it implements. -/
theorem State.recvStage_of_isPan (hg : s.Gets n h (stagePkt h sel tag v)) (hp : s.isPan n = true) (hs : panStageSel sel = true) :
    s.recvStage n h tag sel v = (s.takeDown n (stagePkt h sel tag v)).updNode n fun x =>
      { x with held := x.held.add tag ⟨h, BitVec.ofNat 8 sel, v⟩ } := by
  simp [State.recvStage, hg.ne_zero, hg.hasDown, hg.isFor, hp, hs]

/-- Each STAGE command brings the packet with its SEL, which a pan implements. -/
theorem stageCommands_recvStage : ∀ x ∈ stageCommands, panStageSel x.2 = true ∧ ∀ n h tag v s,
    exec (x.1 n h tag v) s = done (s.recvStage n h tag x.2 v) ∧ partsOf (x.1 n h tag v) = [.nodes, .links] := by
  simp only [stageCommands, List.forall_mem_cons, List.not_mem_nil, false_implies, implies_true, and_true]
  and_intros <;> first | decide | exact fun _ _ _ _ _ => ⟨rfl, rfl⟩

/-- Settles O6: the pan holds the packet, and the arrival marks its time. -/
theorem stagePacketsAreHeldUntilTheVerdict : Obligations.StagePacketsAreHeldUntilTheVerdict := by
  intro x hx n h tag v s hg hp
  obtain ⟨hsel, hx⟩ := stageCommands_recvStage x hx
  obtain ⟨hexec, hparts⟩ := hx n h tag v s
  rw [State.recvStage_of_isPan hg hp hsel] at hexec
  refine Does.of_exec hexec ⟨?_, ?_, fun m hm => ?_⟩ (by simp [hparts])
  · rw [settle_node, State.updNode_node_same, State.takeDown_node_same]
    rfl
  · rw [settle_links, State.updNode_links]
  · rw [settle_node, State.updNode_node_other _ _ hm, State.takeDown_node_other _ _ hm]

/-! ### WRITE at a pan -/

/-- A WRITE to a pan on the cycle of its boundary waits (R82). -/
theorem State.recvWrite_of_onBoundary (hg : s.Gets n h (writePkt h sel v)) (hp : s.isPan n = true) (hs : panWriteSel sel = true)
    (hpath : sel ≠ 0x71) (hauto : sel ≠ 0x0F) (hb : s.onBoundary n = true) :
    s.recvWrite n h sel v = (s.takeDown n (writePkt h sel v)).updPan n fun p => { p with late := p.late ++ [(sel, v)] } := by
  simp [State.recvWrite, hg.ne_zero, hg.hasDown, hg.isFor, hp, hs, hpath, hauto, hb]

/-- Elsewhere it takes effect on arrival (R80). -/
theorem State.recvWrite_of_not_onBoundary (hg : s.Gets n h (writePkt h sel v)) (hp : s.isPan n = true)
    (hs : panWriteSel sel = true) (hpath : sel ≠ 0x71) (hauto : sel ≠ 0x0F) (hb : s.onBoundary n = false) :
    s.recvWrite n h sel v = (s.takeDown n (writePkt h sel v)).applyWrite n sel v := by
  simp [State.recvWrite, hg.ne_zero, hg.hasDown, hg.isFor, hp, hs, hpath, hauto, hb]

theorem applyWrite_pan_other (s : State) (n sel : Nat) (v : Word) {m : Nat} (hm : m ≠ n) : (s.applyWrite n sel v).pan m = s.pan m := by
  unfold State.applyWrite
  split
  · rw [noteClamp_pan_other _ _ hm, State.updPan_pan_other _ _ hm, noteWrite_pan_other _ _ hm]
  · rw [State.updPan_pan_other _ _ hm, noteWrite_pan_other _ _ hm]
  · rw [State.updPan_pan_other _ _ hm, noteWrite_pan_other _ _ hm]
  · rw [State.updPan_pan_other _ _ hm, noteWrite_pan_other _ _ hm]
  · exact State.updPan_pan_other _ _ hm
  · exact State.updPan_pan_other _ _ hm
  · exact State.updPan_pan_other _ _ hm
  · exact State.updPan_pan_other _ _ hm
  · rfl

/-- A clamp's report leaves the parameters and the time of the last write alone. -/
theorem noteClamp_par_lastWrite (s : State) (n : Nat) :
    ((s.noteClamp n).pan n).par = (s.pan n).par ∧ ((s.noteClamp n).pan n).lastWrite = (s.pan n).lastWrite := by
  rw [noteClamp_pan_same]
  exact ⟨rfl, rfl⟩

theorem applyWrite_offset (s : State) (n : Nat) (v : Word) :
    ((s.applyWrite n 0x03 v).pan n).par = { (s.pan n).par with offset := sfield v 0 8 } ∧
    ((s.applyWrite n 0x03 v).pan n).lastWrite = s.now := by
  obtain ⟨hpar, hlast⟩ := noteClamp_par_lastWrite ((s.noteWrite n).updPan n fun p => { p with
    par := { p.par with offset := sfield v 0 8 },
    offAt := if decide ((s.pan n).instOff = (s.pan n).offTarget) then s.now else p.offAt }) n
  rw [State.updPan_pan_same] at hpar hlast
  exact ⟨hpar.trans (by rw [noteWrite_par]), hlast.trans (noteWrite_lastWrite s n)⟩

theorem applyWrite_share (s : State) (n : Nat) (v : Word) :
    ((s.applyWrite n 0x05 v).pan n).par = { (s.pan n).par with share := ufield v 0 20 } ∧
    ((s.applyWrite n 0x05 v).pan n).lastWrite = s.now := by
  have heq : s.applyWrite n 0x05 v = (s.noteWrite n).updPan n fun p => { p with par := { p.par with share := ufield v 0 20 } } := rfl
  rw [heq, State.updPan_pan_same]
  exact ⟨by rw [noteWrite_par], noteWrite_lastWrite s n⟩

theorem applyWrite_carryauto (s : State) (n : Nat) (v : Word) :
    ((s.applyWrite n 0x0F v).pan n).par = { (s.pan n).par with carryAuto := bitOf v 0 } ∧
    ((s.applyWrite n 0x0F v).pan n).lastWrite = s.now := by
  have heq : s.applyWrite n 0x0F v = (s.noteWrite n).updPan n fun p => { p with par := { p.par with carryAuto := bitOf v 0 } } := rfl
  rw [heq, State.updPan_pan_same]
  exact ⟨by rw [noteWrite_par], noteWrite_lastWrite s n⟩

/-- Boost and shunt following their comparators leave the parameters and the time of the last write alone. -/
theorem Pan.transient_par_lastWrite (now : Nat) (p : Pan) :
    (p.transient now).par = p.par ∧ (p.transient now).lastWrite = p.lastWrite := by
  unfold Pan.transient
  dsimp only
  split <;> split <;> exact ⟨rfl, rfl⟩

/-- With the droop comparator released no boost begins. -/
theorem Pan.transient_bst_of_not_droopFired {p : Pan} (now : Nat) (hb : p.bst = false) (hd : p.droopFired = false) :
    (p.transient now).bst = false ∧ (p.transient now).droopFired = false := by
  unfold Pan.transient
  simp only [hd, Bool.false_and, Bool.false_eq_true, if_false]
  split <;> simp [hb, hd]

/-- With the overshoot comparator released no shunt begins. -/
theorem Pan.transient_shn_of_not_overFired {p : Pan} (now : Nat) (hs : p.shn = false) (ho : p.overFired = false) :
    (p.transient now).shn = false ∧ (p.transient now).overFired = false := by
  unfold Pan.transient
  dsimp only
  split <;> simp [hs, ho]

theorem Pan.endBoost_lastWrite (now w : Nat) (p : Pan) : (p.endBoost now w).lastWrite = p.lastWrite := by
  unfold Pan.endBoost
  split <;> rfl

/-- Boost as an ARM leaves it before the stages follow (R93): a disarm releases it. -/
def Pan.disarmed (now w : Nat) (v : Word) (p : Pan) : Pan :=
  if ufield v 0 2 = 0 then { p.endBoost now w with droopFired := false } else p

theorem Pan.disarmed_fields (now w : Nat) (v : Word) (p : Pan) :
    (p.disarmed now w v).par = p.par ∧ (p.disarmed now w v).lastWrite = p.lastWrite ∧
    (ufield v 0 2 = 0 → (p.disarmed now w v).bst = false ∧ (p.disarmed now w v).droopFired = false) := by
  unfold Pan.disarmed
  split
  · simp [Pan.endBoost_lastWrite]
  · simp [*]

/-- ARM taken by a pan (R90, R93): a disarm releases a boost, a disable a shunt, and the stages follow their comparators. -/
def Pan.armWrite (now w : Nat) (v : Word) (p : Pan) : Pan :=
  let q := p.disarmed now w v
  ({ q with
    par := { q.par with boostArm := ufield v 0 2, shuntEn := bitOf v 2 }, de := q.de && decide (ufield v 0 2 ≠ 2),
    shn := q.shn && bitOf v 2, overFired := q.overFired && bitOf v 2 } : Pan).transient now

theorem Pan.armWrite_fields (now w : Nat) (v : Word) (p : Pan) :
    (p.armWrite now w v).par = { p.par with boostArm := ufield v 0 2, shuntEn := bitOf v 2 } ∧
    (p.armWrite now w v).lastWrite = p.lastWrite ∧
    (ufield v 0 2 = 0 → (p.armWrite now w v).bst = false ∧ (p.armWrite now w v).droopFired = false) ∧
    (bitOf v 2 = false → (p.armWrite now w v).shn = false ∧ (p.armWrite now w v).overFired = false) := by
  obtain ⟨hpar, hlast, hoff⟩ := Pan.disarmed_fields now w v p
  unfold Pan.armWrite
  dsimp only
  refine ⟨?_, ?_, fun hz => ?_, fun hz => ?_⟩
  · rw [(Pan.transient_par_lastWrite now _).1, hpar]
  · rw [(Pan.transient_par_lastWrite now _).2, hlast]
  · exact Pan.transient_bst_of_not_droopFired now (hoff hz).1 (hoff hz).2
  · exact Pan.transient_shn_of_not_overFired now (by simp [hz]) (by simp [hz])

theorem applyWrite_arm (s : State) (n : Nat) (v : Word) :
    s.applyWrite n 0x09 v = (s.noteWrite n).updPan n (Pan.armWrite s.now (s.windowNow n) v) := rfl

theorem applyWrite_calload_a (s : State) (n : Nat) (v : Word) : s.applyWrite n 0x5C v =
    s.updPan n fun p => { p with sense := { p.sense.restart s.now with nextA := coefOf v } } := rfl

theorem applyWrite_calload_b (s : State) (n : Nat) (v : Word) : s.applyWrite n 0x5D v =
    s.updPan n fun p => { p with sense := { p.sense.restart s.now with nextB := coefOf v } } := rfl

theorem applyWrite_calload_c (s : State) (n : Nat) (v : Word) : s.applyWrite n 0x5E v =
    s.updPan n fun p => { p with sense := { p.sense.restart s.now with nextC := coefOf v, factC := coefOf v } } := rfl

theorem applyWrite_calloadI (s : State) (n : Nat) (v : Word) : s.applyWrite n 0x5F v =
    s.updPan n fun p => { p with sense := { p.sense with nextCur := some (sfield v 0 12, ufield v 16 12) } } := rfl

/-- The commands that bring a WRITE for a pan, each with its SEL. -/
theorem exec_panWrites :
    ∀ x ∈ ([(.offset, 0x03), (.share, 0x05), (.arm, 0x09), (fun n h v => .calload n h .a v, 0x5C), (fun n h v => .calload n h .b v, 0x5D),
            (fun n h v => .calload n h .c v, 0x5E), (.calloadI, 0x5F)] : List ((Nat → Hdr → Word → Instr) × Nat)),
      panWriteSel x.2 = true ∧ x.2 ≠ 0x71 ∧ x.2 ≠ 0x0F ∧
      ∀ n h v s, exec (x.1 n h v) s = done (s.recvWrite n h x.2 v) ∧ partsOf (x.1 n h v) = [.nodes, .links, .pans] := by
  simp only [List.forall_mem_cons, List.not_mem_nil, false_implies, implies_true, and_true]
  and_intros <;> first | decide | exact fun _ _ _ _ => ⟨rfl, rfl⟩

/-- Off the cycle of the boundary such a command ends with the WRITE applied. -/
theorem does_panWrite {x : (Nat → Hdr → Word → Instr) × Nat}
    (hx : x ∈ ([(.offset, 0x03), (.share, 0x05), (.arm, 0x09), (fun n h v => .calload n h .a v, 0x5C), (fun n h v => .calload n h .b v, 0x5D),
            (fun n h v => .calload n h .c v, 0x5E), (.calloadI, 0x5F)] : List ((Nat → Hdr → Word → Instr) × Nat)))
    (hr : s.Receives n h) (hp : s.isPan n = true) (hb : s.onBoundary n = false) (hd : s.hasDown n (writePkt h x.2 v) = true) :
    Does (x.1 n h v) s [.links, .nodes, .pans] fun t =>
      t.pan n = ((s.takeDown n (writePkt h x.2 v)).applyWrite n x.2 v).pan n ∧ ∀ m, m ≠ n → t.pan m = s.pan m := by
  obtain ⟨hsel, hpath, hauto, hx⟩ := exec_panWrites x hx
  obtain ⟨hexec, hparts⟩ := hx n h v s
  rw [State.recvWrite_of_not_onBoundary ⟨hr, hd⟩ hp hsel hpath hauto hb] at hexec
  refine Does.of_exec hexec ⟨settle_pan _ n, fun m hm => ?_⟩ (by simp [hparts])
  rw [settle_pan, applyWrite_pan_other _ _ _ _ hm, State.takeDown_pan]

theorem exec_carryauto (hp : s.isPan n = true) (hd : s.hasDown n (writePkt (s.hdrOf n) 0x0F v) = true) :
    exec (.carryauto n true v) s = done ((s.takeDown n (writePkt (s.hdrOf n) 0x0F v)).applyWrite n 0x0F v) :=
  (if_neg (by simp [hp, hd])).trans (if_pos rfl)

theorem sfield_zero (v : Word) (w : Nat) : sfield v 0 w = (v.setWidth w).toInt := by
  simp [sfield]

theorem ufield_zero (v : Word) (w : Nat) : ufield v 0 w = v.toNat % 2 ^ w := by
  simp [ufield]

/-- Settles O7: each WRITE applies on arrival, and what it writes is what its SEL says. -/
theorem panWritesTakeEffectOnArrival : Obligations.PanWritesTakeEffectOnArrival := by
  intro n h v s hr hp hb
  refine ⟨fun hd => ?_, fun hd => ?_, fun hd => ?_, fun hd => ?_, fun hd => ?_⟩
  · refine (does_panWrite (x := (.offset, 0x03)) (by simp) hr hp hb hd).imp fun t ⟨hpan, others⟩ => ?_
    obtain ⟨hpar, hlast⟩ := applyWrite_offset (s.takeDown n (writePkt h 0x03 v)) n v
    exact ⟨by rw [hpan, hpar, sfield_zero]; rfl, by rw [hpan, hlast]; rfl, others⟩
  · refine (does_panWrite (x := (.share, 0x05)) (by simp) hr hp hb hd).imp fun t ⟨hpan, others⟩ => ?_
    obtain ⟨hpar, hlast⟩ := applyWrite_share (s.takeDown n (writePkt h 0x05 v)) n v
    exact ⟨by rw [hpan, hpar, ufield_zero]; rfl, by rw [hpan, hlast]; rfl, others⟩
  · refine (does_panWrite (x := (.arm, 0x09)) (by simp) hr hp hb hd).imp fun t ⟨hpan, others⟩ => ?_
    obtain ⟨hpar, hlast, hboost, hshunt⟩ := Pan.armWrite_fields s.now ((s.takeDown n (writePkt h 0x09 v)).windowNow n) v
      (((s.takeDown n (writePkt h 0x09 v)).noteWrite n).pan n)
    rw [noteWrite_par, State.takeDown_pan, ufield_zero] at hpar
    rw [noteWrite_lastWrite] at hlast
    rw [ufield_zero] at hboost
    rw [applyWrite_arm, State.updPan_pan_same] at hpan
    rw [hpan]
    exact ⟨hpar, hlast, hboost, hshunt, others⟩
  · obtain ⟨hpar, hlast⟩ := applyWrite_carryauto (s.takeDown n (writePkt (s.hdrOf n) 0x0F v)) n v
    refine Does.of_exec (exec_carryauto hp hd) ⟨?_, ?_, fun m hm => ?_⟩ (parts_subset rfl)
    · rw [settle_pan]
      exact hpar
    · rw [settle_pan]
      exact hlast
    · rw [settle_pan, applyWrite_pan_other _ _ _ _ hm, State.takeDown_pan]
  · refine (does_panWrite (x := (.calloadI, 0x5F)) (by simp) hr hp hb hd).imp fun t ⟨hpan, others⟩ => ⟨?_, others⟩
    rw [hpan, applyWrite_calloadI, State.updPan_pan_same, State.takeDown_pan, sfield_zero]
    rfl

/-- Settles O8: the load restarts calibration and sets the next coefficients of its converter. -/
theorem calibrationLoadsWaitForTheBoundary : Obligations.CalibrationLoadsWaitForTheBoundary := by
  intro n h v s hr hp hb c again
  have hc : coefOf v = c := by simp [coefOf, c, sfield]
  have hagain : (s.pan n).sense.restart s.now = again := rfl
  refine ⟨fun hd => ?_, fun hd => ?_, fun hd => ?_⟩
  · refine (does_panWrite (x := (fun n h v => .calload n h .a v, 0x5C)) (by simp) hr hp hb hd).imp fun t ⟨hpan, others⟩ => ⟨?_, others⟩
    rw [hpan, applyWrite_calload_a, State.updPan_pan_same, State.takeDown_pan, ← hagain, ← hc, State.takeDown_now]
  · refine (does_panWrite (x := (fun n h v => .calload n h .b v, 0x5D)) (by simp) hr hp hb hd).imp fun t ⟨hpan, others⟩ => ⟨?_, others⟩
    rw [hpan, applyWrite_calload_b, State.updPan_pan_same, State.takeDown_pan, ← hagain, ← hc, State.takeDown_now]
  · refine (does_panWrite (x := (fun n h v => .calload n h .c v, 0x5E)) (by simp) hr hp hb hd).imp fun t ⟨hpan, others⟩ => ⟨?_, others⟩
    rw [hpan, applyWrite_calload_c, State.updPan_pan_same, State.takeDown_pan, ← hagain, ← hc, State.takeDown_now]

/-- Settles O44: on the cycle of the boundary the pan only lists the WRITE. -/
theorem writesOnTheBoundaryCycleWait : Obligations.WritesOnTheBoundaryCycleWait := by
  intro n h v s hr hp hb x hx hd
  obtain ⟨hsel, hpath, hauto, hx⟩ := exec_panWrites x hx
  obtain ⟨hexec, hparts⟩ := hx n h v s
  rw [State.recvWrite_of_onBoundary ⟨hr, hd⟩ hp hsel hpath hauto hb] at hexec
  refine Does.of_exec hexec ⟨?_, fun m hm => ?_⟩ (by simp [hparts])
  · rw [settle_pan, State.updPan_pan_same, State.takeDown_pan]
  · rw [settle_pan, State.updPan_pan_other _ _ hm, State.takeDown_pan]

/-! ### WRITE at a pond -/

/-- A pond passes a broadcast packet on to its child ports. -/
def State.passOn (s : State) (n : Nat) (h : Hdr) (p : Packet) : State := if h.bc then s.toAll n p else s

theorem only_passOn (s : State) (n : Nat) (h : Hdr) (p : Packet) : Only [.links] s (s.passOn n h p) :=
  Only.ite _ (fun _ => only_toAll s n p) fun _ => Only.refl _ s

/-- A pond writes its own register. -/
theorem State.recvWrite_of_pondSel (hg : s.Gets n h (writePkt h sel v)) (hp : s.isPan n = false) (hs : pondSel sel = true) :
    s.recvWrite n h sel v =
      ((s.takeDown n (writePkt h sel v)).updNode n (Node.write sel v)).passOn n h (writePkt h sel v) := by
  obtain ⟨hpath, hshare, hoffset, harm⟩ : sel ≠ 0x71 ∧ sel ≠ 0x05 ∧ sel ≠ 0x03 ∧ sel ≠ 0x09 := by
    refine ⟨?_, ?_, ?_, ?_⟩ <;> rintro rfl <;> exact absurd hs (by decide)
  simp [State.recvWrite, State.passOn, hg.ne_zero, hg.hasDown, hg.isFor, hp, hs, hpath, hshare, hoffset, harm]

/-- A command that brings a WRITE to a register of a pond writes that register only. -/
theorem does_pondWrite {c : Instr} (hc : exec c s = done (s.recvWrite n h sel v)) (hg : s.Gets n h (writePkt h sel v))
    (hp : s.isPan n = false) (hs : pondSel sel = true) :
    Does c s [.links, .nodes] fun t =>
      t.node n = Node.write sel v { s.node n with lastPkt := s.now } ∧ ∀ m, m ≠ n → t.node m = s.node m := by
  rw [State.recvWrite_of_pondSel hg hp hs] at hc
  have passed := only_passOn ((s.takeDown n (writePkt h sel v)).updNode n (Node.write sel v)) n h (writePkt h sel v)
  refine Does.of_done hc ⟨?_, fun m hm => ?_⟩ ?_
  · rw [settle_node, passed.node, State.updNode_node_same, State.takeDown_node_same]
  · rw [settle_node, passed.node, State.updNode_node_other _ _ hm, State.takeDown_node_other _ _ hm]
  · exact (((only_takeDown s n _).mono (by simp)).then (only_updNode _ n _) (by simp)).then passed (by simp)

@[simp] theorem State.askReset_node (s : State) (l : LinkId) (m : Nat) : (s.askReset l).node m = s.node m := rfl

theorem selectPath_node_same (s : State) (n : Nat) (b : Bool) (h : (s.node n).lastPkt = s.now) :
    (s.selectPath n b).node n = { s.node n with
      onSpare := b && (s.node n).spareParent.isSome && !(s.node n).spareOff } := by
  unfold State.selectPath
  dsimp only
  split
  · rename_i heq
    rw [heq]
  · rw [State.askReset_node, State.updNode_node_same, ← h]

theorem selectPath_node_other (s : State) {n m : Nat} (b : Bool) (h : m ≠ n) : (s.selectPath n b).node m = s.node m := by
  unfold State.selectPath
  dsimp only
  split
  · rfl
  · rw [State.askReset_node, State.updNode_node_other s _ h]

theorem selectPath_isPan (s : State) (n : Nat) (b : Bool) : (s.selectPath n b).isPan n = s.isPan n := by
  unfold State.selectPath State.isPan
  dsimp only
  split
  · rfl
  · rw [State.askReset_node, State.updNode_node_same]

theorem exec_parentSelect (hg : s.Gets n h (writePkt h 0x71 v)) (hp : s.isPan n = false) :
    exec (.parentSelect n h v) s =
      done (((s.takeDown n (writePkt h 0x71 v)).selectPath n (bitOf v 0)).passOn n h (writePkt h 0x71 v)) := by
  change done (s.recvWrite n h 0x71 v) = _
  simp [State.recvWrite, State.passOn, hg.ne_zero, hg.hasDown, hg.isFor, selectPath_isPan, hp]

theorem Node.write_exceptionRange {k : Nat} (hk : k < 4) (v : Word) (x : Node) :
    Node.write (0x72 + 2 * k) v x =
      { x with exc := x.exc.set {} k { x.exc.get {} k with lo := (v >>> 16).setWidth 16, hi := v.setWidth 16 } } := by
  have hdiv : (0x72 + 2 * k - 0x72) / 2 = k := by omega
  unfold Node.write
  rw [if_neg (by omega), if_pos (by omega), hdiv]
  exact if_pos (by omega)

theorem Node.write_exceptionTarget {k : Nat} (hk : k < 4) (v : Word) (x : Node) :
    Node.write (0x73 + 2 * k) v x =
      { x with exc := x.exc.set {} k { x.exc.get {} k with valid := v.getLsbD 31, port := v.toNat % 32 } } := by
  have hdiv : (0x73 + 2 * k - 0x72) / 2 = k := by omega
  unfold Node.write
  rw [if_neg (by omega), if_pos (by omega), hdiv, ufield_zero]
  exact if_neg (by omega)

theorem Node.write_childPortRange {k : Nat} (hk : k < 16) (v : Word) (x : Node) :
    Node.write (0x80 + k) v x =
      { x with ranges := x.ranges.set {} k { x.ranges.get {} k with
          lo := (v >>> 16).setWidth 16, hi := v.setWidth 16, used := true, disabled := decide (v = 0xFFFF0000) } } := by
  have hsub : 0x80 + k - 0x80 = k := by omega
  unfold Node.write
  rw [if_neg (by omega), if_neg (by omega), if_pos (by omega), hsub]
  rfl

theorem exec_exceptionRange {k : Nat} (hk : k < 4) :
    exec (.exceptionRange n h k v) s = done (s.recvWrite n h (0x72 + 2 * k) v) := if_pos hk

theorem exec_exceptionTarget {k : Nat} (hk : k < 4) :
    exec (.exceptionTarget n h k v) s = done (s.recvWrite n h (0x73 + 2 * k) v) := if_pos hk

theorem exec_childPortRange {k : Nat} (hk : k < 16) :
    exec (.childPortRange n h k v) s = done (s.recvWrite n h (0x80 + k) v) := if_pos hk

/-- Settles O9: each register by its SEL; the path selection by `selectPath`. -/
theorem pondRegistersAreWritten : Obligations.PondRegistersAreWritten := by
  intro n h v s hr hp x
  refine ⟨fun hd => ?_, fun hd => ?_, fun k hk hd => ?_, fun k hk hd => ?_, fun k hk hd => ?_⟩
  · exact does_pondWrite rfl ⟨hr, hd⟩ hp rfl
  · have passed := only_passOn ((s.takeDown n (writePkt h 0x71 v)).selectPath n (bitOf v 0)) n h (writePkt h 0x71 v)
    refine Does.of_done (exec_parentSelect ⟨hr, hd⟩ hp) ⟨?_, fun m hm => ?_⟩ ?_
    · rw [settle_node, passed.node, selectPath_node_same _ n _ (by rw [State.takeDown_node_same]; rfl), State.takeDown_node_same]
      rfl
    · rw [settle_node, passed.node, selectPath_node_other _ _ hm, State.takeDown_node_other _ _ hm]
    · exact (((only_takeDown s n _).mono (by simp)).then (only_selectPath _ n _) (by simp)).then passed (by simp)
  · have hs : pondSel (0x72 + 2 * k) = true := by simp [pondSel]; omega
    refine (does_pondWrite (exec_exceptionRange hk) ⟨hr, hd⟩ hp hs).imp fun t ⟨hnode, others⟩ => ?_
    rw [hnode, Node.write_exceptionRange hk]
    exact ⟨Tbl.get_set_same _ _ _ _, fun j hj => Tbl.get_set_other _ _ _ hj, rfl, others⟩
  · have hs : pondSel (0x73 + 2 * k) = true := by simp [pondSel]; omega
    refine (does_pondWrite (exec_exceptionTarget hk) ⟨hr, hd⟩ hp hs).imp fun t ⟨hnode, others⟩ => ?_
    rw [hnode, Node.write_exceptionTarget hk]
    exact ⟨Tbl.get_set_same _ _ _ _, fun j hj => Tbl.get_set_other _ _ _ hj, rfl, others⟩
  · have hs : pondSel (0x80 + k) = true := by simp [pondSel]; omega
    refine (does_pondWrite (exec_childPortRange hk) ⟨hr, hd⟩ hp hs).imp fun t ⟨hnode, others⟩ => ?_
    rw [hnode, Node.write_childPortRange hk]
    exact ⟨Tbl.get_set_same _ _ _ _, fun j hj => Tbl.get_set_other _ _ _ hj, rfl, others⟩

/-! ### Sets and verdicts at a pan -/

/-- The set that a node holds for a tag: the one it has, or a new one. -/
def HeldSet.forTag (tag : BitVec 3) (k : HeldSet) : HeldSet := if k.tag = tag then k else { tag := tag }

/-- The set closed: each END matched against the STAGE packets of its header (R61). -/
def HeldSet.close (k : HeldSet) : HeldSet :=
  { k with
    closed := true, matched := (k.ends.filter fun e => decide (e.count = k.count e.h)).length,
    ok := (k.ends.all fun e => decide (e.count = k.count e.h)) && k.stages.all fun x => k.ends.any fun e => decide (e.h = x.h) }

theorem exec_stageEnd {count : Nat} (hr : s.Receives n h) (hp : s.isPan n = true)
    (hd : s.hasDown n (stagePkt h 0xFF tag (BitVec.ofNat 32 (count % 65536))) = true) :
    exec (.stageEnd n h tag count) s =
      done ((s.takeDown n (stagePkt h 0xFF tag (BitVec.ofNat 32 (count % 65536)))).updNode n fun x =>
        { x with held := { x.held.forTag tag with ends := (x.held.forTag tag).ends ++ [⟨h, count⟩] } }) := by
  change execStageEnd n h tag count s = _
  simp [execStageEnd, hr.1, hr.2, hd, State.isPan, HeldSet.forTag] <;> simp_all [State.isPan]

theorem exec_setClose (hr : s.Receives n h) (hp : s.isPan n = true) (hd : s.hasDown n (stagePkt h 0xFE tag 0) = true) :
    exec (.setClose n h tag) s =
      let u := s.takeDown n (stagePkt h 0xFE tag 0)
      let k := ((s.node n).held.forTag tag).close
      done ((u.updNode n fun x => { x with held := k, acks := [], acked := false }).sendUp n
        (ackPkt (s.node n).id tag k.ok k.matched (if k.ok then 0 else (s.node n).id))) := by
  have hkind : (s.node n).kind.isPan = true := hp
  change execSetClose n h tag s = _
  unfold execSetClose
  generalize stagePkt h 0xFE tag 0 = p at hd ⊢
  simp [hr.1, hr.2, hd, hkind, HeldSet.forTag, HeldSet.close]

theorem exec_verdict {commit : Bool} {gen : Word} (hr : s.Receives n h) (hp : s.isPan n = true)
    (hd : s.hasDown n (verdictPkt h tag commit gen) = true) :
    exec (.verdict n h tag commit gen) s =
      done ((s.takeDown n (verdictPkt h tag commit gen)).updNode n fun x =>
        { x with held := if commit then { x.held.forTag tag with verdict := some true, gen := gen }
                         else { tag := tag, verdict := some false } }) := by
  have hkind : (s.node n).kind.isPan = true := hp
  change execVerdict n h tag commit gen s = _
  simp [execVerdict, hr.1, hr.2, hd, hkind, HeldSet.forTag]

/-- Settles O11: each command by what it leaves in the set that the pan holds. -/
theorem setsAreAnsweredAndVerdictsKept : Obligations.SetsAreAnsweredAndVerdictsKept := by
  intro n h tag s hr hp k
  refine ⟨fun count hd => ?_, fun hd => ?_, fun gen hd => ?_, fun gen hd => ?_⟩
  · refine Does.of_exec (exec_stageEnd hr hp hd) ⟨?_, fun m hm => ?_⟩ (parts_subset rfl)
    · rw [settle_node, State.updNode_node_same, State.takeDown_node_same]
      rfl
    · rw [settle_node, State.updNode_node_other _ _ hm, State.takeDown_node_other _ _ hm]
  · refine Does.of_exec (exec_setClose hr hp hd) ?_ (parts_subset rfl)
    simp only [settle_node, settle_links, State.sendUp_node, State.updNode_node_same]
    refine ⟨rfl, trivial, trivial, fun m hm => ?_, ?_⟩
    · rw [State.updNode_node_other _ _ hm, State.takeDown_node_other _ _ hm]
    · simp only [State.sendUp, State.upLink, State.updNode_node_same, State.takeDown_onSpare]
      rfl
  · refine Does.of_exec (exec_verdict hr hp hd) ⟨?_, fun m hm => ?_⟩ (parts_subset rfl)
    · rw [settle_node, State.updNode_node_same, State.takeDown_node_same]
      rfl
    · rw [settle_node, State.updNode_node_other _ _ hm, State.takeDown_node_other _ _ hm]
  · refine Does.of_exec (exec_verdict hr hp hd) ⟨?_, fun m hm => ?_⟩ (parts_subset rfl)
    · rw [settle_node, State.updNode_node_same, State.takeDown_node_same]
      rfl
    · rw [settle_node, State.updNode_node_other _ _ hm, State.takeDown_node_other _ _ hm]

end Sys2Proof.Machine
end

section
/-! SUPPORT. The times of glue-up (R19 to R24, R59, R62): the close of staging, the deadline of the answers and the epoch boundary;
the arrivals of enumeration (R51); and the proofs of the obligations about them. -/

namespace Sys2Proof.Machine

-- The joined text is checked under a memory limit that counts every thread's stack: one proof at a time.
set_option Elab.async false

variable {s : State}

/-! ### The close of staging -/

/-- The set formed closes staging under the next epoch's tag. -/
theorem formSet_closed_tag (s : State) (ws : List SWrite) (alone : List Nat) :
    (s.formSet ws alone).stg.closed = true ∧ (s.formSet ws alone).stg.tag = BitVec.ofNat 3 (s.epoch.toNat + 1) := by
  unfold State.formSet
  extract_lets x gen src c part xs u
  split
  · exact ⟨rfl, rfl⟩
  · rw [(only_sendSet u xs).stg]
    exact ⟨rfl, rfl⟩

/-- The close of staging moves the time to 4,200 cycles after the boundary, then forms a set from a state of the same epoch. -/
theorem exec_stagingClose (hb : s.hw.bstate ≠ .off) (hc : s.stg.closed = false) :
    ∃ u ws alone, exec .stagingClose s = done (u.formSet ws alone) ∧
      Only [.stg, .tide, .flt, .ports] (s.reach (s.epochAt + 4200 * cksT)) u := by
  have hguard : ¬ (s.hw.bstate = .off ∨ s.stg.closed = true) := by simp [hb, hc]
  refine ⟨_, _, _, if_neg hguard, ?_⟩
  exact ((((only_stageAutos _).mono (by simp)).then (only_deferLimit _) (by simp)).then (only_updStg _ _) (by simp)).then
    (only_refuseCoefs _ _ _) (by simp)

theorem stagingClose_does (hb : s.hw.bstate ≠ .off) (hc : s.stg.closed = false) :
    Does .stagingClose s [.now, .links, .stg, .tide, .flt, .ports] fun t =>
      t.now = max s.now (s.epochAt + 4200 * cksT) ∧ t.stg.closed = true ∧ t.stg.tag = BitVec.ofNat 3 (s.epoch.toNat + 1) := by
  obtain ⟨u, ws, alone, hexec, hu⟩ := exec_stagingClose hb hc
  obtain ⟨hclosed, htag⟩ := formSet_closed_tag u ws alone
  refine Does.of_exec hexec ⟨?_, ?_, ?_⟩ (List.Subset.refl _)
  · rw [settle_now, (only_formSet u ws alone).now, hu.now, State.reach_now]
  · rw [settle_stg, hclosed]
  · rw [settle_stg, htag, hu.epoch, State.reach_epoch]

/-! ### The deadline of the answers -/

theorem giveVerdict_hand (s : State) (commit : Bool) :
    (s.giveVerdict commit).stg.hand = { s.stg.hand with verdict := some commit } := by
  unfold State.giveVerdict
  dsimp only
  rw [(only_hubAll _ _).stg]
  rfl

theorem requeue_hand (s : State) : s.requeue.stg.hand = {} := rfl

theorem exec_ackDeadline (ha : s.stg.hand.active = true) (hv : s.stg.hand.verdict = none) :
    exec .ackDeadline s =
      let u := s.reach (s.epochAt + 4672 * cksT)
      done (if s.stg.hand.complete then u.giveVerdict true else (u.giveVerdict false).requeue) := by
  refine (if_pos ⟨ha, hv⟩).trans ?_
  dsimp only
  rw [State.reach_stg]
  split <;> rfl

theorem ackDeadline_does (ha : s.stg.hand.active = true) (hv : s.stg.hand.verdict = none) :
    Does .ackDeadline s [.now, .links, .stg, .ports] fun t =>
      t.now = max s.now (s.epochAt + 4672 * cksT) ∧
      t.stg.hand = if s.stg.hand.complete = true then { s.stg.hand with verdict := some true } else {} := by
  refine Does.of_exec (exec_ackDeadline ha hv) ?_ (List.Subset.refl _)
  simp only [settle_now, settle_stg]
  split
  · exact ⟨(only_giveVerdict _ true).now, giveVerdict_hand _ true⟩
  · exact ⟨(only_requeue _).now.trans (only_giveVerdict _ false).now, requeue_hand _⟩

/-! ### The epoch boundary -/

/-- The boundary's time and epoch, before anything else of the boundary (R19). -/
def State.epochBegun (s : State) : State :=
  { s.reach (s.epochAt + epochT) with epochAt := s.epochAt + epochT, epoch := s.epoch + 1 }

/-- What follows the count in a new epoch. -/
theorem only_newEpoch_of_epochBegun (s : State) : Only [.nodes, .eng, .regs, .conv, .tel, .led] s.epochBegun s.newEpoch := by
  have counted : Only [.nodes, .eng, .regs, .conv, .tel, .led] s.epochBegun
      ((s.epochBegun.regions.foldl State.latchRegion s.epochBegun).updDie fun d => { d with closed := false, genWas := s.com.gen }) :=
    ((Only.foldl _ only_latchRegion _ _).mono (by simp)).then (only_updDie _ _) (by simp)
  have genWas : (s.epochBegun.regions.foldl State.latchRegion s.epochBegun).com = s.com :=
    (Only.foldl _ only_latchRegion _ s.epochBegun).com
  rw [← genWas] at counted
  unfold State.newEpoch
  extract_lets t1 t2 t3 t4 t5 t6 t7
  have rest : Only [.nodes, .eng, .regs, .conv, .tel, .led] s.epochBegun t7 :=
    ((counted.then (only_updLed _ _) (by simp)).then (only_updNode _ 0 _) (by simp)).then (only_updConv _ _) (by simp)
  exact Only.ite _ (fun _ => rest.then (only_updEng _ _) (by simp)) fun _ => rest

/-- The new epoch keeps what the glue-up decides by. -/
theorem newEpoch_commits (s : State) : s.newEpoch.commits = s.commits := by
  unfold State.commits
  rw [(only_newEpoch s).stg]

theorem newEpoch_stopDue (s : State) : s.newEpoch.stopDue = s.stopDue := by
  unfold State.stopDue
  rw [(only_newEpoch s).sys, (only_newEpoch s).com]

/-- The loops and the outputs last sent are as before the boundary. -/
theorem newEpoch_loops_outs (s : State) : s.newEpoch.eng.loops = s.eng.loops ∧ s.newEpoch.eng.outs = s.eng.outs := by
  have same : ∀ u : State, u.eng = s.eng → ∀ (b : Prop) [Decidable b],
      (if b then u.updEng fun e => { e with timerAt := some u.now } else u).eng.loops = s.eng.loops ∧
      (if b then u.updEng fun e => { e with timerAt := some u.now } else u).eng.outs = s.eng.outs := by
    intro u hu b _
    split <;> simp [State.updEng, hu]
  unfold State.newEpoch
  extract_lets t1 t2 t3 t4 t5 t6 t7
  have h7 : t7.eng = t3.eng := by
    simp only [t7, t6, t5, t4, State.updConv_eng, State.updNode_eng, State.updLed_eng, State.updDie_eng]
  have h3 : t3.eng = s.eng := (Only.foldl _ only_latchRegion _ t2).eng
  exact same t7 (h7.trans h3) _

theorem newEpoch_openLoops (s : State) (ws : List SWrite) (c : Committed) : openLoops s.newEpoch ws c = openLoops s ws c := by
  obtain ⟨hloops, houts⟩ := newEpoch_loops_outs s
  have hopened : s.newEpoch.openedBy ws = s.openedBy ws := by
    unfold State.openedBy State.loopsOf
    rw [hloops, (only_newEpoch s).com]
  unfold openLoops
  rw [hopened, houts]

/-- What a boundary commits where no stop is due and none stands. -/
theorem newEpoch_boundaryCom (hc : s.commits = true) (hs : s.stopDue = false) (hg : s.com.guardStop = false) :
    s.newEpoch.boundaryCom = openLoops s s.stg.hand.writes s.stg.hand.next := by
  unfold State.boundaryCom
  simp only [newEpoch_commits, newEpoch_stopDue, newEpoch_openLoops, hc, hs, (only_newEpoch s).com, hg, (only_newEpoch s).stg,
    Bool.or_false, Bool.false_and, Bool.false_eq_true, if_true, if_false]

/-- A glue-up makes its composition the committed state and the safe copy, and the phase commands are spent (R31, R130, log 104). -/
theorem glueUp_com_safe (s : State) :
    s.glueUp.com = { s.boundaryCom with phcmd := [] } ∧ s.glueUp.safe = s.boundaryCom := by
  unfold State.glueUp
  extract_lets old c stopNow hand ws modes closes s1 sts t1 t2 t3 t4 t5 src t6 t7 t8
  have hrails : Only [.conv] t1 t2 := Only.foldl _ (fun t x => only_railMoved t s x) _ _
  have hmodels : Only [.regs] t2 t3 := Only.foldl _ (fun t r => only_modelMoved t old c r) _ _
  have heffects : Only [.eng, .regs, .stg, .led, .tide, .flt, .store, .sys, .ports] t3 t4 := only_glueEffects ..
  have hwrites : Only [.conv, .stg, .flt, .ports] t4 t5 := Only.foldl _ (fun t x => only_finishWrite t old c x) _ _
  have hspent : Only [.conv] { t5 with com := { t5.com with phcmd := [] } } t6 := only_convMoved _
  have hcloses : Only [.eng] t6 t7 := Only.foldl _ (fun t l => only_updLdyn t l _) _ _
  have hresync : Only [.nodes, .flt] t7 t8 :=
    Only.foldl _ (fun t n => ((only_updNode t n _).mono (by simp)).then (only_updNflt _ n _) (by simp)) _ _
  have hcom5 : t5.com = s.boundaryCom := by
    rw [hwrites.com, heffects.com, hmodels.com, hrails.com]
  have hsafe5 : t5.safe = s.boundaryCom := by
    rw [hwrites.safe, heffects.safe, hmodels.safe, hrails.safe]
  have hcom6 : t6.com = { t5.com with phcmd := [] } := hspent.com
  have hsafe6 : t6.safe = t5.safe := hspent.safe
  have hcom8 : t8.com = { s.boundaryCom with phcmd := [] } := by
    rw [hresync.com, hcloses.com, hcom6, hcom5]
  have hsafe8 : t8.safe = s.boundaryCom := by
    rw [hresync.safe, hcloses.safe, hsafe6, hsafe5]
  split
  · exact ⟨(only_stageFw t8 _).com.trans hcom8, (only_stageFw t8 _).safe.trans hsafe8⟩
  · exact ⟨hcom8, hsafe8⟩

/-- A new epoch in which the set in hand, without its verdict, is staged again (R21). -/
def State.boundaryStaged (s : State) : State :=
  if s.newEpoch.stg.hand.active ∧ s.newEpoch.commits = false then s.newEpoch.requeue else s.newEpoch

/-- The boundary up to its glue-up. -/
def State.boundaryGlued (s : State) : State :=
  if s.boundaryStaged.commits || s.boundaryStaged.stopDue then s.boundaryStaged.glueUp else s.boundaryStaged

theorem exec_epochBoundary (hb : s.hw.bstate ≠ .off) :
    exec .epochBoundary s = done (s.boundaryGlued.updStg fun g => { g with hand := {}, closed := false }).latchSnaps.bootBoundary :=
  if_neg hb

theorem only_boundaryStaged (s : State) : Only [.stg, .ports] s.newEpoch s.boundaryStaged :=
  Only.ite _ (fun _ => only_requeue _) fun _ => Only.refl _ _

theorem only_boundaryEnd (s : State) :
    Only [.stg, .tel, .flt, .hw, .sys, .ports] s (s.updStg fun g => { g with hand := {}, closed := false }).latchSnaps.bootBoundary :=
  (((only_updStg s _).mono (by simp)).then (only_latchSnaps _) (by simp)).then (only_bootBoundary _) (by simp)

/-- The time and the epoch of the boundary stand to its end. -/
theorem boundaryGlued_times (s : State) :
    s.boundaryGlued.now = max s.now (s.epochAt + epochT) ∧ s.boundaryGlued.epoch = s.epoch + 1 ∧
    s.boundaryGlued.epochAt = s.epochAt + epochT := by
  have hglued : Only [.nodes, .eng, .com, .safe, .regs, .conv, .stg, .led, .tide, .flt, .store, .sys, .ports] s.boundaryStaged
      s.boundaryGlued := Only.ite _ (fun _ => only_glueUp _) fun _ => Only.refl _ _
  have hstaged := only_boundaryStaged s
  have hbegun := only_newEpoch_of_epochBegun s
  exact ⟨hglued.now.trans (hstaged.now.trans hbegun.now), hglued.epoch.trans (hstaged.epoch.trans hbegun.epoch),
    hglued.epochAt.trans (hstaged.epochAt.trans hbegun.epochAt)⟩

theorem boundaryStaged_commits (s : State) : s.boundaryStaged.commits = s.commits := by
  unfold State.boundaryStaged
  split
  · rename_i h
    have hnot : s.commits = false := (newEpoch_commits s).symm.trans h.2
    rw [hnot]
    rfl
  · exact newEpoch_commits s

theorem boundaryStaged_stopDue (s : State) : s.boundaryStaged.stopDue = s.stopDue := by
  unfold State.stopDue
  rw [(only_boundaryStaged s).sys, (only_boundaryStaged s).com, (only_newEpoch s).sys, (only_newEpoch s).com]

/-- Without a commit and without a stop the committed states stay (R22, R31). -/
theorem boundaryGlued_of_not_commits (hc : s.commits = false) (hs : s.stopDue = false) :
    s.boundaryGlued.com = s.com ∧ s.boundaryGlued.safe = s.safe := by
  have hglued : s.boundaryGlued = s.boundaryStaged := if_neg (by simp [boundaryStaged_commits, boundaryStaged_stopDue, hc, hs])
  have hstaged := only_boundaryStaged s
  have hnew := only_newEpoch s
  rw [hglued]
  exact ⟨hstaged.com.trans hnew.com, hstaged.safe.trans hnew.safe⟩

theorem boundaryGlued_of_commits (hc : s.commits = true) (hs : s.stopDue = false) (hg : s.com.guardStop = false) :
    let n := openLoops s s.stg.hand.writes s.stg.hand.next
    s.boundaryGlued.com = { n with phcmd := [] } ∧ s.boundaryGlued.safe = n := by
  have hstaged : s.boundaryStaged = s.newEpoch := if_neg (by simp [newEpoch_commits, hc])
  have hglued : s.boundaryGlued = s.newEpoch.glueUp := by
    unfold State.boundaryGlued
    rw [hstaged, if_pos (by simp [newEpoch_commits, hc])]
  obtain ⟨hcom, hsafe⟩ := glueUp_com_safe s.newEpoch
  rw [newEpoch_boundaryCom hc hs hg] at hcom hsafe
  rw [hglued]
  exact ⟨hcom, hsafe⟩

theorem epochBoundary_does (hb : s.hw.bstate ≠ .off) :
    Does .epochBoundary s (partsOf .epochBoundary) fun t =>
      t.epoch = s.epoch + 1 ∧ t.epochAt = s.epochAt + epochT ∧ t.now = max s.now (s.epochAt + epochT) ∧
      (s.commits = false → s.stopDue = false → t.com = s.com ∧ t.safe = s.safe) ∧
      (s.commits = true → s.stopDue = false → s.com.guardStop = false →
        let n := openLoops s s.stg.hand.writes s.stg.hand.next
        t.com = { n with phcmd := [] } ∧ t.safe = n) := by
  obtain ⟨hnow, hepoch, hat⟩ := boundaryGlued_times s
  have hend := only_boundaryEnd s.boundaryGlued
  refine Does.of_exec (exec_epochBoundary hb) ?_ (List.Subset.refl _)
  rw [settle_epoch, settle_epochAt, settle_now, settle_com, settle_safe, hend.epoch, hend.epochAt, hend.now, hend.com, hend.safe]
  exact ⟨hepoch, hat, hnow, boundaryGlued_of_not_commits, boundaryGlued_of_commits⟩

/-- Settles O12: the three times of glue-up. -/
theorem glueUpCommitsAtTheBoundary : Obligations.GlueUpCommitsAtTheBoundary := by
  intro s
  refine ⟨stagingClose_does, fun ha hv => ?_, epochBoundary_does⟩
  refine (ackDeadline_does ha hv).imp fun t ⟨hnow, hhand⟩ => ⟨hnow, fun hc => ?_, fun hc => ?_⟩
  · rw [hhand, if_pos hc]
  · rw [hhand, if_neg (by simp [hc])]

/-! ### Enumeration -/

theorem sendProbe_sys (s : State) (n port : Nat) : (s.sendProbe n port).sys = { s.sys with probeAt := s.now } := by
  unfold State.sendProbe
  extract_lets u id child nid v
  split
  · rw [(only_sendPort _ 0 port _).sys]
    simp only [v]
    split <;> rfl
  · exact (only_hubSend u _).sys

/-- A probe writes the ranges of the hub alone. -/
theorem sendProbe_node_ne (s : State) (n port : Nat) {m : Nat} (hm : m ≠ 0) : (s.sendProbe n port).node m = s.node m := by
  unfold State.sendProbe
  extract_lets u id child nid v
  split
  · rw [(only_sendPort _ 0 port _).node]
    simp only [v]
    split
    · rw [State.updNode_node_other _ _ hm]
      rfl
    · rfl
  · exact (only_hubSend u _).node m

/-- While places are still to be probed the boot waits at its step. -/
theorem enumMoved_of_enumAt_ne_nil (h : s.sys.enumAt ≠ []) : s.enumMoved = s := by
  unfold State.enumMoved State.bootEnum
  rw [if_neg]
  simp [State.enumerating, h]

theorem enumAdvance_of_more_ports {n p : Nat} {up : List (Nat × Nat)} (hat : s.sys.enumAt = (n, p) :: up) (hp : p + 1 < childPorts n)
    (hnext : s.sys.enumNext ≤ 0x2000) :
    s.enumAdvance = (s.updSys fun y => { y with enumAt := (n, p + 1) :: up }).sendProbe n (p + 1) := by
  unfold State.enumAdvance
  rw [if_neg (by omega), State.enumNextPlace, hat]
  exact if_pos hp

/-- An unanswered place gives way to the next port of its node. -/
theorem exec_probeTimeout {n p : Nat} {up : List (Nat × Nat)} (hat : s.sys.enumAt = (n, p) :: up) (hp : p + 1 < childPorts n)
    (hnext : s.sys.enumNext ≤ 0x2000) :
    exec (.probeTimeout n p) s =
      done (((s.reach (s.sys.probeAt + 2048 * cksT)).updSys fun y => { y with enumAt := (n, p + 1) :: up }).sendProbe n (p + 1)) := by
  refine (if_pos (by rw [hat]; rfl)).trans ?_
  have hreach : (s.reach (s.sys.probeAt + 2048 * cksT)).sys = s.sys := State.reach_sys s _
  rw [enumAdvance_of_more_ports (by rw [hreach, hat]) hp (by rw [hreach]; exact hnext), enumMoved_of_enumAt_ne_nil]
  rw [sendProbe_sys]
  exact List.cons_ne_nil _ _

theorem probeTimeout_does {n p : Nat} {up : List (Nat × Nat)} (hat : s.sys.enumAt = (n, p) :: up) (hp : p + 1 < childPorts n)
    (hnext : s.sys.enumNext ≤ 0x2000) :
    Completes (.probeTimeout n p) s fun t =>
      t.now = max s.now (s.sys.probeAt + 2048 * cksT) ∧ t.sys = { s.sys with enumAt := (n, p + 1) :: up, probeAt := t.now } := by
  refine Completes.of_exec (exec_probeTimeout hat hp hnext) ?_
  rw [settle_now, settle_sys, (only_sendProbe _ _ _).now, sendProbe_sys]
  exact ⟨rfl, rfl⟩

/-! ### Descriptors -/

variable {n : Nat} {p : Packet}

theorem only_takeInto_sendUp (s : State) (n : Nat) (p : Packet) : Only [.links] s ((s.takeInto n p).sendUp n p) :=
  (only_takeInto s n p).trans (only_sendUp _ n p)

theorem Only.nodeById {ps : List Part} {s t : State} (h : Only ps s t) (id : NodeId) (hp : Part.nodes ∉ ps := by simp) :
    t.nodeById id = s.nodeById id := by
  have e := h.nodes hp
  unfold State.nodeById State.node
  rw [e]

/-- A pond passes a descriptor up. -/
theorem exec_desc_of_pond {src : NodeId} {kind ports rating revision : Nat} {wide : Bool} (hn : n ≠ 0)
    (hp : s.fromBelow n (pkt 2 { bc := false, dst := src } (descBody kind ports wide rating revision)) ≠ none) :
    exec (.desc n src kind ports wide rating revision) s =
      done ((s.takeInto n (pkt 2 { bc := false, dst := src } (descBody kind ports wide rating revision))).sendUp n
        (pkt 2 { bc := false, dst := src } (descBody kind ports wide rating revision))) :=
  (if_neg hp).trans (if_pos hn)

/-- The node of a descriptor as the hub records it (R51). -/
def State.recorded (s : State) (n c kind ports : Nat) (wide : Bool) (rating revision : Nat) : State :=
  (s.updNode c fun x => { x with
    kind := kindOf kind, ports := ports, wide := wide, rating := rating, revision := revision,
    depth := (s.node n).depth + (if n = 0 then 0 else 1) }).updSys fun y => { y with enumNext := y.enumNext + 1 }

theorem recorded_node_same (s : State) (n c kind ports : Nat) (wide : Bool) (rating revision : Nat) :
    (s.recorded n c kind ports wide rating revision).node c = { s.node c with
      kind := kindOf kind, ports := ports, wide := wide, rating := rating, revision := revision,
      depth := (s.node n).depth + (if n = 0 then 0 else 1) } := by
  have hsys : ∀ (u : State) f m, (u.updSys f).node m = u.node m := fun _ _ _ => rfl
  rw [State.recorded, hsys, State.updNode_node_same]

/-- A pond that the image knows, at a depth that the tree allows, is numbered on from its own first port. -/
theorem described_of_pond {m q c ports rating revision : Nat} {wide : Bool} (himg : s.sys.image.nodes.get 0 c ≠ 0)
    (hdepth : (s.node m).depth + (if m = 0 then 0 else 1) ≤ 15) (hnext : s.sys.enumNext < 0x2000) :
    s.described m q c 0 ports wide rating revision =
      ((s.recorded m c 0 ports wide rating revision).updSys fun y => { y with enumAt := (c, 0) :: y.enumAt }).sendProbe c 0 := by
  have hnode := recorded_node_same s m c 0 ports wide rating revision
  have hknown : (decide (s.sys.image.nodes.get 0 c ≠ 0) &&
      decide (((s.recorded m c 0 ports wide rating revision).node c).depth ≤ 15)) = true := by
    rw [hnode]
    simp only [decide_eq_true himg, decide_eq_true hdepth, Bool.and_self]
  have hkind : ((s.recorded m c 0 ports wide rating revision).node c).kind = .pond := by
    rw [hnode]
    rfl
  have hroom : ¬ 0x2000 < s.sys.enumNext + 1 := by omega
  exact (if_pos hknown).trans ((if_pos hkind).trans (if_neg hroom))

/-- At the hub the descriptor next in order, of such a pond, is recorded, and its ports are probed next. -/
theorem exec_desc_of_hub {src : NodeId} {c m q ports rating revision : Nat} {wide : Bool} {up : List (Nat × Nat)}
    (hp : s.fromBelow 0 (pkt 2 { bc := false, dst := src } (descBody 0 ports wide rating revision)) ≠ none)
    (hid : s.nodeById src = some c) (hat : s.sys.enumAt = (m, q) :: up) (hsrc : src.toNat = s.sys.enumNext)
    (himg : s.sys.image.nodes.get 0 c ≠ 0) (hdepth : (s.node m).depth + (if m = 0 then 0 else 1) ≤ 15)
    (hnext : s.sys.enumNext < 0x2000) :
    exec (.desc 0 src 0 ports wide rating revision) s =
      done ((((s.takeInto 0 (pkt 2 { bc := false, dst := src } (descBody 0 ports wide rating revision))).recorded m c 0 ports wide
        rating revision).updSys fun y => { y with enumAt := (c, 0) :: y.enumAt }).sendProbe c 0) := by
  have taken := only_takeInto s 0 (pkt 2 { bc := false, dst := src } (descBody 0 ports wide rating revision))
  refine (if_neg hp).trans ((if_neg (by simp)).trans ?_)
  rw [taken.nodeById, taken.sys, hid, hat]
  dsimp only
  rw [if_neg (by simp [hsrc]), described_of_pond (by rw [taken.sys]; exact himg) (by rw [taken.node]; exact hdepth)
    (by rw [taken.sys]; exact hnext), enumMoved_of_enumAt_ne_nil]
  rw [sendProbe_sys]
  exact List.cons_ne_nil _ _

/-- Settles O57: the commands of glue-up by their lemmas above, the arrivals by theirs. -/
theorem epochClockAndTreeArrivalsComplete : Obligations.EpochClockAndTreeArrivalsComplete := by
  intro s
  refine ⟨fun hb => ?_, fun hb hc => ?_, fun ha hv => ?_, fun l d p rest hw => ?_, fun n p up hat hp hnext => ?_,
    fun n src kind ports wide rating revision hn hk => ?_,
    fun src ports wide rating revision c n p up hk hid hat hsrc himg hdepth hnext hc => ?_⟩
  · obtain ⟨t, hexec, ⟨hepoch, hepochAt, hnow, hkept, _⟩, _⟩ := epochBoundary_does hb
    exact ⟨t, hexec, hepoch, hepochAt, hnow, fun h g => (hkept h g).1⟩
  · obtain ⟨t, hexec, ⟨hnow, hclosed, htag⟩, only⟩ := stagingClose_does hb hc
    exact ⟨t, hexec, hclosed, htag, hnow, only.com⟩
  · obtain ⟨t, hexec, ⟨hnow, hhand⟩, only⟩ := ackDeadline_does ha hv
    exact ⟨t, hexec, hnow, hhand, only.com⟩
  · obtain ⟨t, hexec, ⟨hwire, _, hlost, _, _, _, hparity, _⟩, only⟩ := (linkCommandsMoveCredits s l d).2.2.2.1 p rest hw
    obtain ⟨hlost, _, _⟩ := hlost (classOfTy p.ty)
    rw [if_pos rfl] at hlost
    have hflt : t.flt = { s.flt with prev := t.flt.prev } := only.2 .flt (by simp)
    exact ⟨t, hexec, hwire, hlost, hparity, by rw [hflt], only.pans⟩
  · obtain ⟨t, hexec, ⟨hnow, hsys⟩, _⟩ := probeTimeout_does hat hp hnext
    exact ⟨t, hexec, hnow, by rw [hsys], by rw [hsys], by rw [hsys]⟩
  · have only := only_takeInto_sendUp s n (pkt 2 { bc := false, dst := src } (descBody kind ports wide rating revision))
    exact ⟨_, exec_desc_of_pond hn hk, settle_links _, by rw [settle_nodes, only.nodes], by rw [settle_sys, only.sys]⟩
  · refine ⟨_, exec_desc_of_hub hk hid hat hsrc himg hdepth hnext, ?_⟩
    have taken := only_takeInto s 0 (pkt 2 { bc := false, dst := src } (descBody 0 ports wide rating revision))
    generalize s.takeInto 0 (pkt 2 { bc := false, dst := src } (descBody 0 ports wide rating revision)) = u at taken ⊢
    have hnode := recorded_node_same u n c 0 ports wide rating revision
    have hprobed := (sendProbe_node_ne ((u.recorded n c 0 ports wide rating revision).updSys fun y =>
      { y with enumAt := (c, 0) :: y.enumAt }) c 0 hc).trans hnode
    rw [settle_node, settle_sys, hprobed, sendProbe_sys, taken.node c, taken.node n]
    refine ⟨rfl, rfl, rfl, ?_, ?_⟩
    · change u.sys.enumNext + 1 = _
      rw [taken.sys]
    · change (c, 0) :: u.sys.enumAt = _
      rw [taken.sys, hat]

end Sys2Proof.Machine
end

section
/-! SUPPORT. What climbs the tree (R55, R61, R62, R65, R66), what a node does about its paths (R35, R41, R54, R68) and its own epoch
boundary (R19, R63); and the proofs of the obligations about them. -/

namespace Sys2Proof.Machine

-- The joined text is checked under a memory limit that counts every thread's stack: one proof at a time.
set_option Elab.async false

variable {s : State}

/-! ### Answers -/

theorem sendPondAck_node_other (s : State) {n m : Nat} (h : m ≠ n) : (s.sendPondAck n).node m = s.node m :=
  State.updNode_node_other _ _ h

theorem sendPondAck_acked (s : State) (n : Nat) : ((s.sendPondAck n).node n).acked = true := by
  unfold State.sendPondAck
  dsimp only
  rw [State.updNode_node_same]

theorem sendPondAck_acks (s : State) (n : Nat) : ((s.sendPondAck n).node n).acks = (s.node n).acks := by
  unfold State.sendPondAck
  dsimp only
  rw [State.updNode_node_same, State.sendUp_node]

theorem tryPondAck_node_other (s : State) {n m : Nat} (h : m ≠ n) : (s.tryPondAck n).node m = s.node m := by
  unfold State.tryPondAck
  dsimp only
  split
  · exact sendPondAck_node_other s h
  · rfl

theorem tryPondAck_acks (s : State) (n : Nat) : ((s.tryPondAck n).node n).acks = (s.node n).acks := by
  unfold State.tryPondAck
  dsimp only
  split
  · exact sendPondAck_acks s n
  · rfl

/-- What a node awaits has come in on one of its links. -/
theorem State.awaits_fromBelow {n child : Nat} {p : Packet} (h : s.awaits n child p = true) : s.fromBelow n p ≠ none := by
  intro hnone
  simp [State.awaits, hnone] at h

section
variable {n child count : Nat} {tag : BitVec 3} {ok : Bool} {failing : NodeId}

theorem exec_ack_of_awaits (hn : n ≠ 0) (ha : s.awaits n child (ackPkt (s.node child).id tag ok count failing) = true)
    (hclosed : (s.node n).held.closed = true) (htag : (s.node n).held.tag = tag)
    (hfresh : (s.node n).acks.any (fun a => decide (a.child = child)) = false) :
    exec (.ack n child tag ok count failing) s =
      done (((s.takeInto n (ackPkt (s.node child).id tag ok count failing)).updNode n fun x =>
        { x with acks := x.acks ++ [⟨child, ok, count, failing⟩] }).tryPondAck n) := by
  refine (if_neg (State.awaits_fromBelow ha)).trans ((if_neg hn).trans ((if_pos ha).trans (if_pos ?_)))
  rw [(only_takeInto _ n _).node n]
  exact ⟨hclosed, htag, by simp [hfresh]⟩

theorem exec_ack_of_not_awaits (hn : n ≠ 0) (hin : s.fromBelow n (ackPkt (s.node child).id tag ok count failing) ≠ none)
    (ha : s.awaits n child (ackPkt (s.node child).id tag ok count failing) = false) :
    exec (.ack n child tag ok count failing) s =
      done ((s.takeInto n (ackPkt (s.node child).id tag ok count failing)).sendUp n (ackPkt (s.node child).id tag ok count failing)) :=
  (if_neg hin).trans ((if_neg hn).trans (if_neg (by simp [ha])))

end

/-- The hub's record of a child port with one more ACK (R62). -/
def PortExp.answered (ok : Bool) (count : Nat) (failing : NodeId) (e : PortExp) : PortExp :=
  { e with ok := some (e.ok.getD true && ok), got := e.got + count, failing := if e.failing = 0 then failing else e.failing }

/-- The hub takes an ACK of the set in hand from what stands behind a key (R62). -/
def State.recordAck (s : State) (k : Nat) (ok : Bool) (count : Nat) (failing : NodeId) : State :=
  s.updStg fun g => { g with hand := { g.hand with ports := g.hand.ports.set {} k ((g.hand.ports.get {} k).answered ok count failing) } }

theorem recordAck_port (s : State) (k : Nat) (ok : Bool) (count : Nat) (failing : NodeId) :
    (s.recordAck k ok count failing).stg.hand.ports.get {} k = (s.stg.hand.ports.get {} k).answered ok count failing :=
  Tbl.get_set_same ..

theorem takeInto_flt (s : State) (n : Nat) (p : Packet) : (s.takeInto n p).flt = s.flt := by
  unfold State.takeInto
  split
  · exact State.updDir_flt ..
  · rfl

theorem takeInto_regs (s : State) (n : Nat) (p : Packet) : (s.takeInto n p).regs = s.regs := by
  unfold State.takeInto
  split
  · exact State.updDir_regs ..
  · rfl

/-- The key of a child of the hub does not depend on the packets under way. -/
theorem takeInto_portKey (s : State) (n : Nat) (p : Packet) (child : Nat) :
    (s.takeInto n p).portKey (((s.takeInto n p).hubChild child).getD child) = s.portKey ((s.hubChild child).getD child) := by
  have only := only_takeInto s n p
  have hnode : ∀ m, (s.takeInto n p).node m = s.node m := only.node
  unfold State.portKey State.hubChild State.children State.subtree
  simp only [hnode, only.nodes, takeInto_flt]

section
variable {child count : Nat} {tag : BitVec 3} {ok : Bool} {failing : NodeId}

theorem exec_ack_of_hub (hactive : s.stg.hand.active = true) (hnone : s.stg.hand.verdict = none) (htag : s.stg.tag = tag)
    (hin : s.fromBelow 0 (ackPkt (s.node child).id tag ok count failing) ≠ none) :
    exec (.ack 0 child tag ok count failing) s =
      let u := (s.takeInto 0 (ackPkt (s.node child).id tag ok count failing)).recordAck
        (s.portKey ((s.hubChild child).getD child)) ok count failing
      done (if u.stg.hand.complete then u.giveVerdict true else u) := by
  have only := only_takeInto s 0 (ackPkt (s.node child).id tag ok count failing)
  refine (if_neg hin).trans ((if_pos rfl).trans ((if_pos ?_).trans ?_))
  · rw [only.stg]
    exact ⟨hactive, hnone, htag⟩
  · rw [takeInto_portKey]
    exact (apply_ite done ..).symm


theorem ack_hub_does (hactive : s.stg.hand.active = true) (hnone : s.stg.hand.verdict = none) (htag : s.stg.tag = tag)
    (hin : s.fromBelow 0 (ackPkt (s.node child).id tag ok count failing) ≠ none) :
    Does (.ack 0 child tag ok count failing) s [.links, .stg] fun t =>
      t.stg.hand.ports.get {} (s.portKey ((s.hubChild child).getD child)) =
        (s.stg.hand.ports.get {} (s.portKey ((s.hubChild child).getD child))).answered ok count failing := by
  let k := s.portKey ((s.hubChild child).getD child)
  let u := (s.takeInto 0 (ackPkt (s.node child).id tag ok count failing)).recordAck k ok count failing
  have hexec : exec (.ack 0 child tag ok count failing) s = done (if u.stg.hand.complete then u.giveVerdict true else u) :=
    exec_ack_of_hub hactive hnone htag hin
  have taken := only_takeInto s 0 (ackPkt (s.node child).id tag ok count failing)
  have only : Only [.links, .stg] s u := (taken.mono (by simp)).then (only_updStg _ _) (by simp)
  have hport : u.stg.hand.ports.get {} k = (s.stg.hand.ports.get {} k).answered ok count failing := by
    rw [recordAck_port, taken.stg]
  split at hexec
  · refine Does.of_done hexec ?_ (only.then (only_giveVerdict u true) (by simp))
    rw [settle_stg, giveVerdict_hand]
    exact hport
  · refine Does.of_done hexec ?_ only
    rw [settle_stg]
    exact hport

end

/-! ### Roll-ups -/

theorem sendRollup_node_other (s : State) {n m : Nat} (h : m ≠ n) : (s.sendRollup n).node m = s.node m :=
  State.updNode_node_other _ _ h

theorem sendRollup_node_same (s : State) (n : Nat) :
    (s.sendRollup n).node n = { s.node n with rollup := { (s.node n).rollup with sent := true } } := by
  unfold State.sendRollup
  dsimp only
  simp only [State.updNode_node_same, State.sendUp_node]

theorem tryRollup_node_other (s : State) {n m : Nat} (h : m ≠ n) : (s.tryRollup n).node m = s.node m := by
  unfold State.tryRollup
  dsimp only
  split
  · exact sendRollup_node_other s h
  · rfl

/-- Trying to send a roll-up marks at most that it is sent. -/
theorem tryRollup_node_same (s : State) (n : Nat) :
    ∃ b, (s.tryRollup n).node n = { s.node n with rollup := { (s.node n).rollup with sent := b } } := by
  unfold State.tryRollup
  dsimp only
  split
  · exact ⟨true, sendRollup_node_same s n⟩
  · exact ⟨_, rfl⟩

/-- The roll-up of a tag that has not gone out is the one in progress. -/
theorem Rollup.forTag_of_unsent {tag : BitVec 3} {u : Rollup} (ht : u.tag = tag) (hs : u.sent = false) : u.forTag tag = u :=
  if_pos ⟨ht, hs⟩

/-- A pond's node once a child's increment is in (R66). -/
def Node.countIn (child count inc : Nat) (tag : BitVec 3) (x : Node) : Node :=
  let x := { x with lastRq := x.lastRq.set 0 child count, cum := x.cum + BitVec.ofNat 40 inc }
  if tag = x.rollup.tag ∧ x.rollup.sent then x
  else { x with rollup := { x.rollup.forTag tag with rqSeen := (x.rollup.forTag tag).rqSeen ++ [child] } }

theorem Node.countIn_fields (child count inc : Nat) (tag : BitVec 3) (x : Node) :
    (x.countIn child count inc tag).cum = x.cum + BitVec.ofNat 40 inc ∧
    (x.countIn child count inc tag).lastRq = x.lastRq.set 0 child count := by
  unfold Node.countIn
  dsimp only
  split <;> exact ⟨rfl, rfl⟩

/-- A pond's roll-up once a child's extremes are in (R65). -/
def Rollup.extremeIn (child : Nat) (cur inc : Bool) (e : Ext) (u : Rollup) : Rollup :=
  if cur then { u with i := u.i.join e, iInc := u.iInc || inc, iSeen := u.iSeen ++ [child] }
  else { u with v := u.v.join e, vInc := u.vInc || inc, vSeen := u.vSeen ++ [child] }

/-- The hub's input extremes once a child's are in (R65). -/
def TelDyn.extremeIn (child : Nat) (cur inc : Bool) (e : Ext) (t : TelDyn) : TelDyn :=
  let x := t.inExt
  let t := { t with inExt := { x with inc := x.inc || inc } }
  if cur then { t with inExt := { t.inExt with i := x.i.join e }, inI := t.inI ++ [child] }
  else { t with inExt := { t.inExt with v := x.v.join e }, inV := t.inV ++ [child] }

section
variable {n child count : Nat} {tag : BitVec 3} {cur inc : Bool} {vMax vMin : BitVec 16} {r : Nat}

theorem exec_rq_of_awaits (hn : n ≠ 0) (ha : s.awaits n child (rqPkt (s.node child).id tag count) = true) :
    exec (.rq n child tag count) s =
      done (((s.takeInto n (rqPkt (s.node child).id tag count)).updNode n
        (Node.countIn child count (rqInc (s.node child).wide ((s.node n).lastRq.get 0 child) count) tag)).tryRollup n) := by
  have hnode := (only_takeInto s n (rqPkt (s.node child).id tag count)).node
  refine (if_neg (State.awaits_fromBelow ha)).trans ((if_neg hn).trans ((if_pos ha).trans ?_))
  rw [hnode n, hnode child]
  rfl

theorem rq_of_awaits_does (hn : n ≠ 0) (ha : s.awaits n child (rqPkt (s.node child).id tag count) = true) :
    Does (.rq n child tag count) s [.nodes, .links] fun t =>
      (t.node n).cum = (s.node n).cum + BitVec.ofNat 40 (rqInc (s.node child).wide ((s.node n).lastRq.get 0 child) count) ∧
      (t.node n).lastRq.get 0 child = count ∧ ∀ m, m ≠ n → t.node m = s.node m := by
  have taken := only_takeInto s n (rqPkt (s.node child).id tag count)
  have only : Only [.nodes, .links] s ((s.takeInto n (rqPkt (s.node child).id tag count)).updNode n
      (Node.countIn child count (rqInc (s.node child).wide ((s.node n).lastRq.get 0 child) count) tag)) :=
    (taken.mono (by simp)).then (only_updNode _ _ _) (by simp)
  refine Does.of_done (exec_rq_of_awaits hn ha) ?_ (only.then (only_tryRollup _ n) (by simp))
  simp only [settle_node]
  obtain ⟨b, hsame⟩ := tryRollup_node_same ((s.takeInto n (rqPkt (s.node child).id tag count)).updNode n
      (Node.countIn child count (rqInc (s.node child).wide ((s.node n).lastRq.get 0 child) count) tag)) n
  obtain ⟨hcum, hlast⟩ := Node.countIn_fields child count (rqInc (s.node child).wide ((s.node n).lastRq.get 0 child) count) tag (s.node n)
  rw [hsame, State.updNode_node_same, taken.node n]
  refine ⟨hcum, ?_, fun m hm => ?_⟩
  · dsimp only
    rw [hlast, Tbl.get_set_same]
  · rw [tryRollup_node_other _ hm, State.updNode_node_other _ _ hm, taken.node m]

/-- The region of a child of the hub does not depend on the packets under way. -/
theorem takeInto_regionFor (s : State) (n m : Nat) (p : Packet) : (s.takeInto n p).regionFor m = s.regionFor m := by
  have only := only_takeInto s n p
  have hnode : ∀ k, (s.takeInto n p).node k = s.node k := only.node
  have hrimg : ∀ k, (s.takeInto n p).rimg k = s.rimg k := only.rimg
  unfold State.regionFor State.regionOf State.subtree
  simp only [hnode, hrimg, only.nodes, only.regions]

theorem takeInto_reg (s : State) (n r : Nat) (p : Packet) : (s.takeInto n p).reg r = s.reg r := by
  unfold State.reg
  rw [takeInto_regs]

theorem State.updNode_reg (s : State) (n r : Nat) (f : Node → Node) : (s.updNode n f).reg r = s.reg r := rfl

theorem State.updReg_node (s : State) (r n : Nat) (f : Region → Region) : (s.updReg r f).node n = s.node n := rfl

/-- A region's charge once a child's increment is in (R66). -/
def TelDyn.countIn (s : State) (child inc : Nat) (tag : BitVec 3) (t : TelDyn) : TelDyn :=
  { t with
    inQ := t.inQ + BitVec.ofNat 40 inc,
    inRq := if s.tel.closed ∨ tag ≠ BitVec.ofNat 3 (s.epoch.toNat + 7) ∨ t.inRq.contains child then t.inRq else t.inRq ++ [child] }

theorem exec_rq_of_hub (hr : s.regionFor child = some r) (hin : s.fromBelow 0 (rqPkt (s.node child).id tag count) ≠ none) :
    exec (.rq 0 child tag count) s =
      let u := (s.takeInto 0 (rqPkt (s.node child).id tag count)).updNode 0 fun x => { x with lastRq := x.lastRq.set 0 child count }
      done (u.updTel r (TelDyn.countIn u child (rqInc (s.node child).wide ((s.node 0).lastRq.get 0 child) count) tag)) := by
  have hnode := (only_takeInto s 0 (rqPkt (s.node child).id tag count)).node
  refine (if_neg hin).trans ((if_pos rfl).trans ?_)
  rw [takeInto_regionFor, hr, hnode 0, hnode child]
  rfl

theorem rq_of_hub_does (hr : s.regionFor child = some r) (hin : s.fromBelow 0 (rqPkt (s.node child).id tag count) ≠ none) :
    Does (.rq 0 child tag count) s [.nodes, .links, .regs] fun t =>
      (t.reg r).tel.inQ = (s.reg r).tel.inQ + BitVec.ofNat 40 (rqInc (s.node child).wide ((s.node 0).lastRq.get 0 child) count) ∧
      (t.node 0).lastRq.get 0 child = count := by
  have taken := only_takeInto s 0 (rqPkt (s.node child).id tag count)
  refine Does.of_done (exec_rq_of_hub hr hin) ⟨?_, ?_⟩
    (((taken.mono (by simp)).then (only_updNode _ _ _) (by simp)).then (only_updTel _ _ _) (by simp))
  · simp only [settle_reg_tel, State.updTel_eq, State.updReg_reg_same, State.updNode_reg, takeInto_reg, TelDyn.countIn]
  · simp only [settle_node, State.updTel_eq, State.updReg_node, State.updNode_node_same, Tbl.get_set_same]

/-! #### Extremes -/

theorem exec_rmm_of_awaits (hn : n ≠ 0)
    (ha : s.awaits n child (rmmPkt (s.node child).id tag cur inc { min := vMin, max := vMax }) = true)
    (hsent : (s.node n).rollup.sent = false) :
    exec (.rmm n child tag cur inc vMax vMin) s =
      done (((s.takeInto n (rmmPkt (s.node child).id tag cur inc { min := vMin, max := vMax })).updNode n fun x =>
        { x with rollup := (x.rollup.forTag tag).extremeIn child cur inc { min := vMin, max := vMax } }).tryRollup n) := by
  refine (if_neg (State.awaits_fromBelow ha)).trans ((if_neg hn).trans ((if_pos ha).trans ((if_neg ?_).trans rfl)))
  rw [(only_takeInto s n _).node n]
  simp [hsent]

theorem Rollup.extremeIn_fields (child : Nat) (cur inc : Bool) (e : Ext) (u : Rollup) :
    (u.extremeIn child cur inc e).v = (if cur then u.v else u.v.join e) ∧
    (u.extremeIn child cur inc e).i = (if cur then u.i.join e else u.i) ∧
    (u.extremeIn child cur inc e).vInc = (u.vInc || (!cur && inc)) ∧
    (u.extremeIn child cur inc e).iInc = (u.iInc || (cur && inc)) := by
  cases cur <;> simp [Rollup.extremeIn]

theorem TelDyn.extremeIn_fields (child : Nat) (cur inc : Bool) (e : Ext) (t : TelDyn) :
    (t.extremeIn child cur inc e).inExt.v = (if cur then t.inExt.v else t.inExt.v.join e) ∧
    (t.extremeIn child cur inc e).inExt.i = (if cur then t.inExt.i.join e else t.inExt.i) ∧
    (t.extremeIn child cur inc e).inExt.inc = (t.inExt.inc || inc) := by
  cases cur <;> simp [TelDyn.extremeIn]

theorem rmm_of_awaits_does (hn : n ≠ 0)
    (ha : s.awaits n child (rmmPkt (s.node child).id tag cur inc { min := vMin, max := vMax }) = true)
    (htag : (s.node n).rollup.tag = tag) (hsent : (s.node n).rollup.sent = false) :
    Does (.rmm n child tag cur inc vMax vMin) s [.nodes, .links] fun t =>
      (t.node n).rollup.v = (if cur then (s.node n).rollup.v else (s.node n).rollup.v.join { min := vMin, max := vMax }) ∧
      (t.node n).rollup.i = (if cur then (s.node n).rollup.i.join { min := vMin, max := vMax } else (s.node n).rollup.i) ∧
      (t.node n).rollup.vInc = ((s.node n).rollup.vInc || (!cur && inc)) ∧
      (t.node n).rollup.iInc = ((s.node n).rollup.iInc || (cur && inc)) ∧ ∀ m, m ≠ n → t.node m = s.node m := by
  have hexec := exec_rmm_of_awaits hn ha hsent
  generalize rmmPkt (s.node child).id tag cur inc { min := vMin, max := vMax } = p at hexec
  have taken := only_takeInto s n p
  refine Does.of_done hexec ?_ (((taken.mono (by simp)).then (only_updNode _ _ _) (by simp)).then (only_tryRollup _ n) (by simp))
  simp only [settle_node]
  obtain ⟨b, hsame⟩ := tryRollup_node_same ((s.takeInto n p).updNode n fun x =>
    { x with rollup := (x.rollup.forTag tag).extremeIn child cur inc { min := vMin, max := vMax } }) n
  obtain ⟨hv, hi, hvInc, hiInc⟩ := Rollup.extremeIn_fields child cur inc { min := vMin, max := vMax } (s.node n).rollup
  rw [hsame, State.updNode_node_same, taken.node n]
  dsimp only
  rw [Rollup.forTag_of_unsent htag hsent]
  refine ⟨hv, hi, hvInc, hiInc, fun m hm => ?_⟩
  rw [tryRollup_node_other _ hm, State.updNode_node_other _ _ hm, taken.node m]

theorem exec_rmm_of_hub (htag : tag = BitVec.ofNat 3 (s.epoch.toNat + 7)) (hopen : s.tel.closed = false)
    (hr : s.regionFor child = some r)
    (hin : s.fromBelow 0 (rmmPkt (s.node child).id tag cur inc { min := vMin, max := vMax }) ≠ none) :
    exec (.rmm 0 child tag cur inc vMax vMin) s =
      done ((s.takeInto 0 (rmmPkt (s.node child).id tag cur inc { min := vMin, max := vMax })).updTel r
        (TelDyn.extremeIn child cur inc { min := vMin, max := vMax })) := by
  have taken := only_takeInto s 0 (rmmPkt (s.node child).id tag cur inc { min := vMin, max := vMax })
  refine (if_neg hin).trans ((if_pos rfl).trans ((if_pos ?_).trans ?_))
  · rw [taken.epoch, taken.tel]
    exact ⟨htag, hopen⟩
  · rw [takeInto_regionFor, hr]
    rfl

theorem rmm_of_hub_does (htag : tag = BitVec.ofNat 3 (s.epoch.toNat + 7)) (hopen : s.tel.closed = false)
    (hr : s.regionFor child = some r)
    (hin : s.fromBelow 0 (rmmPkt (s.node child).id tag cur inc { min := vMin, max := vMax }) ≠ none) :
    Does (.rmm 0 child tag cur inc vMax vMin) s [.links, .regs] fun t =>
      (t.reg r).tel.inExt.v = (if cur then (s.reg r).tel.inExt.v else (s.reg r).tel.inExt.v.join { min := vMin, max := vMax }) ∧
      (t.reg r).tel.inExt.i = (if cur then (s.reg r).tel.inExt.i.join { min := vMin, max := vMax } else (s.reg r).tel.inExt.i) ∧
      (t.reg r).tel.inExt.inc = ((s.reg r).tel.inExt.inc || inc) := by
  have hexec := exec_rmm_of_hub htag hopen hr hin
  generalize rmmPkt (s.node child).id tag cur inc { min := vMin, max := vMax } = p at hexec
  refine Does.of_done hexec ?_ (((only_takeInto s 0 p).mono (by simp)).then (only_updTel _ _ _) (by simp))
  simp only [settle_reg_tel, State.updTel_eq, State.updReg_reg_same, takeInto_reg]
  exact TelDyn.extremeIn_fields child cur inc { min := vMin, max := vMax } (s.reg r).tel

end

/-! #### Deadlines -/

theorem exec_pondAckDeadline {n : Nat} (hn : n ≠ 0) (hp : s.isPan n = false) (hclosed : (s.node n).held.closed = true)
    (hnot : (s.node n).acked = false) :
    exec (.pondAckDeadline n) s =
      done ((s.reach ((s.node n).epochAt + cksT * (4800 - 136 - 8 * (s.node n).depth))).sendPondAck n) :=
  if_pos ⟨hn, hclosed, hnot, hp⟩

theorem exec_pondRollupDeadline {n : Nat} (hn : n ≠ 0) (hp : s.isPan n = false) (hnot : (s.node n).rollup.sent = false) :
    ∃ silent : List Nat, exec (.pondRollupDeadline n) s =
      done (silent.foldl (fun s c => s.setCarry n c) ((s.reach ((s.node n).epochAt + cksT * 64 * (s.node n).height)).sendRollup n)) :=
  ⟨_, if_pos ⟨hn, hp, hnot⟩⟩

theorem pondAckDeadline_does {n : Nat} (hn : n ≠ 0) (hp : s.isPan n = false) (hclosed : (s.node n).held.closed = true)
    (hnot : (s.node n).acked = false) :
    Does (.pondAckDeadline n) s [.now, .nodes, .links] fun t => (t.node n).acked = true ∧
      t.now = max s.now ((s.node n).epochAt + cksT * (4800 - 136 - 8 * (s.node n).depth)) ∧ ∀ m, m ≠ n → t.node m = s.node m := by
  refine Does.of_exec (exec_pondAckDeadline hn hp hclosed hnot) ⟨?_, ?_, fun m hm => ?_⟩ (List.Subset.refl _)
  · rw [settle_node, sendPondAck_acked]
  · rw [settle_now, (only_sendPondAck _ n).now, State.reach_now]
  · rw [settle_node, sendPondAck_node_other _ hm, State.reach_node]

theorem pondRollupDeadline_does {n : Nat} (hn : n ≠ 0) (hp : s.isPan n = false) (hnot : (s.node n).rollup.sent = false) :
    Does (.pondRollupDeadline n) s [.now, .nodes, .links] fun t => (t.node n).rollup.sent = true ∧
      t.now = max s.now ((s.node n).epochAt + cksT * 64 * (s.node n).height) ∧ ∀ m, m ≠ n → t.node m = s.node m := by
  obtain ⟨silent, hexec⟩ := exec_pondRollupDeadline hn hp hnot
  have carried := Only.foldl (ps := [.links]) (fun (s : State) c => s.setCarry n c) (fun s c => only_setCarry s n c) silent
    ((s.reach ((s.node n).epochAt + cksT * 64 * (s.node n).height)).sendRollup n)
  refine Does.of_exec hexec ⟨?_, ?_, fun m hm => ?_⟩ (List.Subset.refl _)
  · rw [settle_node, carried.node n, sendRollup_node_same]
  · rw [settle_now, carried.now, (only_sendRollup _ n).now, State.reach_now]
  · rw [settle_node, carried.node m, sendRollup_node_other _ hm, State.reach_node]

/-- Settles O15: each report is folded where it is awaited and passed on where it is not; the deadlines send what has come. -/
theorem answersAndRollupsClimbTheTree : Obligations.AnswersAndRollupsClimbTheTree := by
  intro s
  refine ⟨?_, ?_, ?_, ?_, ?_, ?_, ?_, ?_, ?_⟩
  · intro n child tag ok count failing hn ha hclosed htag hfresh
    have taken := only_takeInto s n (ackPkt (s.node child).id tag ok count failing)
    refine Does.of_done (exec_ack_of_awaits hn ha hclosed htag hfresh) ⟨?_, fun m hm => ?_⟩
      (((taken.mono (by simp)).then (only_updNode _ _ _) (by simp)).then (only_tryPondAck _ n) (by simp))
    · rw [settle_node, tryPondAck_acks, State.updNode_node_same, taken.node n]
    · rw [settle_node, tryPondAck_node_other _ hm, State.updNode_node_other _ _ hm, taken.node m]
  · intro n child tag ok count failing hn p hin ha
    refine Does.of_done (exec_ack_of_not_awaits hn hin ha) ⟨settle_links _, ?_⟩ ((only_takeInto_sendUp s n p).mono (by simp))
    rw [settle_nodes, State.sendUp_nodes, (only_takeInto s n p).nodes]
  · intro child tag ok count failing hactive hnone htag hin
    exact ack_hub_does hactive hnone htag hin
  · exact fun n hn hp hclosed hnot => pondAckDeadline_does hn hp hclosed hnot
  · exact fun n child tag count hn ha => rq_of_awaits_does hn ha
  · exact fun child tag count r hr hin => rq_of_hub_does hr hin
  · exact fun n child tag cur inc vMax vMin hn ha htag hsent => rmm_of_awaits_does hn ha htag hsent
  · exact fun child tag cur inc vMax vMin r htag hopen hr hin => rmm_of_hub_does htag hopen hr hin
  · exact fun n hn hp hnot => pondRollupDeadline_does hn hp hnot

/-! ### Paths that fail (R35) -/

/-- A key that a table does not list reads as the value of an unlisted key. -/
theorem Tbl.mem_keys_of_get_ne {α : Type} {d : α} {t : Tbl α} {n : Nat} (h : Tbl.get d t n ≠ d) : n ∈ t.keys := by
  refine Decidable.byContradiction fun hn => ?_
  refine h (Tbl.get_eq_of_not_mem d n t fun p hp heq => hn ?_)
  exact List.mem_map.2 ⟨p, hp, heq.symm⟩

/-- The pans of a subtree are those of any state with the same numbers and kinds. -/
theorem mem_subtree_isPan {t : State} {n c : Nat} (hsame : ∀ m, (t.node m).id = (s.node m).id ∧ (t.node m).subHi = (s.node m).subHi ∧
    (t.node m).kind = (s.node m).kind) (hc : c ∈ s.subtree n) (hp : s.isPan c = true) : c ∈ (t.subtree n).filter t.isPan := by
  obtain ⟨hid, hhi, hkind⟩ := hsame c
  obtain ⟨hidn, hhin, -⟩ := hsame n
  have hcond := (List.mem_filter.1 hc).2
  refine List.mem_filter.2 ⟨List.mem_filter.2 ⟨?_, by rw [hid, hidn, hhin]; exact hcond⟩, ?_⟩
  · refine Tbl.mem_keys_of_get_ne (d := {}) fun hdefault => ?_
    have hzero : (t.node c).id = 0 := congrArg Node.id hdefault
    simp [← hid, hzero] at hcond
  · unfold State.isPan at hp ⊢
    rw [hkind, hp]

theorem enterHold_of_run {n : Nat} (h : (s.pan n).st = .run) : ((s.enterHold n).pan n).st = .hold := by
  unfold State.enterHold
  dsimp only
  rw [if_pos (Or.inl h)]
  unfold State.panEvent
  dsimp only
  split
  · rw [State.updPan_pan_same]; rfl
  · rw [State.sendEvent_pan, State.updPan_pan_same, State.updPan_pan_same]; rfl

theorem enterHold_of_hold {n m : Nat} (h : (s.pan m).st = .hold) : ((s.enterHold n).pan m).st = .hold := by
  by_cases hm : m = n
  · subst hm
    unfold State.enterHold
    dsimp only
    rw [if_neg (by simp [h]), h]
  · rw [enterHold_pan_other s _ hm, h]

/-- Each running pan of the list ends in HOLD. -/
theorem foldl_enterHold : ∀ (l : List Nat) (s : State) (c : Nat), (s.pan c).st = .hold ∨ c ∈ l ∧ (s.pan c).st = .run →
    ((l.foldl State.enterHold s).pan c).st = .hold
  | [], s, c, h => by simpa using h
  | n :: l, s, c, h => by
    refine foldl_enterHold l (s.enterHold n) c ?_
    rcases h with hold | ⟨hmem, hrun⟩
    · exact Or.inl (enterHold_of_hold hold)
    · by_cases hc : c = n
      · exact Or.inl (hc ▸ enterHold_of_run (hc ▸ hrun))
      · rw [enterHold_pan_other s _ hc]
        exact Or.inr ⟨(List.mem_cons.1 hmem).resolve_left hc, hrun⟩

/-- A node whose path has failed, the other pans of its parent in carry (R35, R103). -/
def State.pathLost (s : State) (n : Nat) : State :=
  let x := s.node n
  let parent := if x.onSpare then x.spareParent.getD 0 else x.parent
  (if parent ≠ 0 then s.setCarry parent n else s).updNode n fun y => { y with
    pathHold := true, badPrimary := y.badPrimary || !x.onSpare, badSpare := y.badSpare || x.onSpare }

/-- The node goes on over its spare path and asks for adoption (R35, R68). -/
def State.toSpare (s : State) (n : Nat) (lo hi : NodeId) : State :=
  ((s.updNode n fun y => { y with onSpare := true, lastPkt := s.now }).askReset { node := n, path := .spare }).sendUp n (adoptPkt lo hi)

/-- The node has a spare path to go to. -/
def Node.hasSpare (x : Node) : Prop := x.onSpare = false ∧ x.spareParent.isSome ∧ x.spareOff = false ∧ x.badSpare = false

theorem pathFailed_of_hasSpare {n : Nat} (h : (s.node n).hasSpare) :
    s.pathFailed n = ((s.pathLost n).toSpare n (s.node n).id (s.node n).subHi).holdSubtree n := if_pos h

theorem pathFailed_of_not_hasSpare {n : Nat} (h : ¬ (s.node n).hasSpare) :
    s.pathFailed n = (((s.pathLost n).holdSubtree n).rosterWithout n).loseSubtree n := if_neg h

theorem pathLost_carried (s : State) (n : Nat) : ∃ u, Only [.links] s u ∧ s.pathLost n = u.updNode n fun y => { y with
    pathHold := true, badPrimary := y.badPrimary || !(s.node n).onSpare, badSpare := y.badSpare || (s.node n).onSpare } :=
  ⟨_, Only.ite _ (fun _ => only_setCarry s _ n) fun _ => Only.refl _ s, rfl⟩

theorem pathLost_node_same (s : State) (n : Nat) : (s.pathLost n).node n = { s.node n with
    pathHold := true, badPrimary := (s.node n).badPrimary || !(s.node n).onSpare,
    badSpare := (s.node n).badSpare || (s.node n).onSpare } := by
  obtain ⟨u, only, hu⟩ := pathLost_carried s n
  rw [hu, State.updNode_node_same, only.node n]

theorem pathLost_node_other (s : State) {n m : Nat} (h : m ≠ n) : (s.pathLost n).node m = s.node m := by
  obtain ⟨u, only, hu⟩ := pathLost_carried s n
  rw [hu, State.updNode_node_other _ _ h, only.node m]

theorem pathLost_pan (s : State) (n m : Nat) : (s.pathLost n).pan m = s.pan m := by
  obtain ⟨u, only, hu⟩ := pathLost_carried s n
  rw [hu, State.updNode_pan, only.pan m]

theorem toSpare_node_same (s : State) (n : Nat) (lo hi : NodeId) :
    (s.toSpare n lo hi).node n = { s.node n with onSpare := true, lastPkt := s.now } := by
  unfold State.toSpare
  rw [State.sendUp_node, State.askReset_node, State.updNode_node_same]

theorem toSpare_node_other (s : State) {n m : Nat} (lo hi : NodeId) (h : m ≠ n) : (s.toSpare n lo hi).node m = s.node m := by
  unfold State.toSpare
  rw [State.sendUp_node, State.askReset_node, State.updNode_node_other _ _ h]

theorem toSpare_pan (s : State) (n m : Nat) (lo hi : NodeId) : (s.toSpare n lo hi).pan m = s.pan m := rfl

theorem pathLost_numbers (s : State) (n m : Nat) : ((s.pathLost n).node m).id = (s.node m).id ∧
    ((s.pathLost n).node m).subHi = (s.node m).subHi ∧ ((s.pathLost n).node m).kind = (s.node m).kind := by
  by_cases hm : m = n
  · subst hm; rw [pathLost_node_same]; exact ⟨rfl, rfl, rfl⟩
  · rw [pathLost_node_other s hm]; exact ⟨rfl, rfl, rfl⟩

theorem toSpare_numbers (s : State) (n m : Nat) (lo hi : NodeId) : ((s.toSpare n lo hi).node m).id = (s.node m).id ∧
    ((s.toSpare n lo hi).node m).subHi = (s.node m).subHi ∧ ((s.toSpare n lo hi).node m).kind = (s.node m).kind := by
  by_cases hm : m = n
  · subst hm; rw [toSpare_node_same]; exact ⟨rfl, rfl, rfl⟩
  · rw [toSpare_node_other s lo hi hm]; exact ⟨rfl, rfl, rfl⟩

/-- Every running pan of the subtree holds, whether the node has gone to its spare path or not. -/
theorem pathFailed_holds (s : State) (n : Nat) :
    ∀ c ∈ s.subtree n, s.isPan c = true → (s.pan c).st = .run → ((s.pathFailed n).pan c).st = .hold := by
  intro c hc hp hrun
  by_cases h : (s.node n).hasSpare
  · rw [pathFailed_of_hasSpare h]
    refine foldl_enterHold _ _ c (Or.inr ⟨mem_subtree_isPan (fun m => ?_) hc hp, ?_⟩)
    · obtain ⟨hid, hhi, hkind⟩ := pathLost_numbers s n m
      obtain ⟨hid', hhi', hkind'⟩ := toSpare_numbers (s.pathLost n) n m (s.node n).id (s.node n).subHi
      exact ⟨hid'.trans hid, hhi'.trans hhi, hkind'.trans hkind⟩
    · rw [toSpare_pan, pathLost_pan, hrun]
  · rw [pathFailed_of_not_hasSpare h, (only_loseSubtree _ n).pan c, (only_rosterWithout _ n).pan c]
    refine foldl_enterHold _ _ c (Or.inr ⟨mem_subtree_isPan (pathLost_numbers s n) hc hp, ?_⟩)
    rw [pathLost_pan, hrun]

theorem pathFailed_pathHold (s : State) (n : Nat) : ((s.pathFailed n).node n).pathHold = true := by
  by_cases h : (s.node n).hasSpare
  · rw [pathFailed_of_hasSpare h, (only_holdSubtree _ n).node n, toSpare_node_same, pathLost_node_same]
  · rw [pathFailed_of_not_hasSpare h, (only_loseSubtree _ n).node n, (only_rosterWithout _ n).node n, (only_holdSubtree _ n).node n,
      pathLost_node_same]

theorem pathFailed_hasSpare_node {n : Nat} (h : (s.node n).hasSpare) :
    ((s.pathFailed n).node n).onSpare = true ∧ ((s.pathFailed n).node n).badPrimary = true ∧
    ∀ m, m ≠ n → (s.pathFailed n).node m = s.node m := by
  have hon : (s.node n).onSpare = false := h.1
  have held := only_holdSubtree ((s.pathLost n).toSpare n (s.node n).id (s.node n).subHi) n
  rw [pathFailed_of_hasSpare h, held.node n, toSpare_node_same, pathLost_node_same, hon]
  refine ⟨rfl, by simp, fun m hm => ?_⟩
  rw [held.node m, toSpare_node_other _ _ _ hm, pathLost_node_other _ hm]

theorem pathFailed_now (s : State) (n : Nat) : (s.pathFailed n).now = s.now := (only_pathFailed s n).now

theorem exec_parentPathTimeout {n : Nat} (hn : n ≠ 0) (hid : (s.node n).id ≠ 0) :
    exec (.parentPathTimeout n) s = done ((s.reach ((s.node n).lastPkt + 320 * cksT)).pathFailed n) :=
  if_neg (not_or.2 ⟨hn, hid⟩)

theorem exec_parityLimit_parent {n : Nat} (hn : n ≠ 0) (h8 : 8 ≤ (s.node n).parity.get 0 (s.node n).parentPort) :
    exec (.parityLimitReached n (s.node n).parentPort) s = done (s.pathFailed n) :=
  (if_neg (by omega)).trans (if_pos ⟨hn, rfl⟩)

theorem exec_parityLimit_child {n port : Nat} (hn : n ≠ 0) (h30 : port ≠ 30) (h31 : port ≠ 31) (h8 : 8 ≤ (s.node n).parity.get 0 port) :
    exec (.parityLimitReached n port) s =
      done (s.sendEvent n (Config.measure s.free 91 |>.setWidth 8) (BitVec.ofNat 32 port)).draw.sluiceFault := by
  have hport : port ≠ (s.node n).parentPort := by
    unfold Node.parentPort
    split <;> assumption
  refine (if_neg (by omega)).trans ((if_neg (by simp [hport])).trans ((if_neg (by simp [h30, h31])).trans ?_))
  dsimp only
  rw [if_neg hn]

/-! ### Packets that a node reports -/

theorem exec_reservedPacket {l : LinkId} {d : Dir} {ty : BitVec 4} {p : Packet} (hty : ty = 0 ∨ ty = 0xE ∨ ty = 0xF)
    (hp : (s.dir l d).wire.head? = some p) (hpty : p.ty = ty) (hn : (s.receiver l d).1 ≠ 0) :
    exec (.reservedPacket l d ty) s = done ((s.takeOn l d p).sendEvent (s.receiver l d).1 0x01 0) := by
  refine (if_neg (by simp only [hty, decide_true, Bool.not_true, Bool.false_eq_true, not_false_eq_true])).trans ?_
  simp only [hp, hpty, if_true, if_neg hn]

theorem exec_unroutablePacket {n : Nat} {h : Hdr} {p : Packet} (hn : n ≠ 0) (hfor : s.isFor n h = false)
    (hport : (s.node n).kind = .pond → s.portFor n h.dst = none) (hp : (s.dir (s.upLink n) .down).wire.head? = some p)
    (hbc : p.bc = h.bc) (hdst : p.node = h.dst) :
    exec (.unroutablePacket n h) s = done ((s.takeDown n p).sendEvent n 0x04 0) := by
  refine (if_neg ?_).trans ?_
  · rintro (h0 | hyes | ⟨hpond, hsome⟩)
    · exact hn h0
    · simp [hfor] at hyes
    · simp [hport hpond] at hsome
  · simp only [hp, hbc, hdst, and_self, if_true]

/-! ### TIME (R53) -/

/-- A node's count and boundary are not those that TIME gives. -/
def Node.differs (now cycle epoch : Nat) (x : Node) : Bool :=
  decide ((now - x.epochAt) / cksT ≠ cycle) || decide (x.epochNo.toNat % 65536 ≠ epoch % 65536)

/-- A node takes the count and the boundary that TIME gives. -/
def Node.align (now cycle epoch : Nat) (x : Node) : Node :=
  { x with epochNo := BitVec.ofNat 64 (x.epochNo.toNat / 65536 * 65536 + epoch % 65536), epochAt := now - cksT * cycle }

/-- TIME has been read at a node. -/
def State.timeIn (s : State) (n cycle epoch : Nat) : State :=
  (if (s.node n).differs s.now cycle epoch then s.updNode n (Node.align s.now cycle epoch) else s).updNode n fun x =>
    { x with aligned := true }

/-- The instant at which a node has received TIME: 4 cycles after it left (R53, R57). -/
def State.timeReached (s : State) (n : Nat) : State := s.reach ((s.dir (s.upLink n) .down).timeOut.headD s.now + 4 * cksT)

theorem State.reach_chain (s : State) (t f m : Nat) : (s.reach t).chain f m = s.chain f m := by
  induction f generalizing m with
  | zero => rfl
  | succ f ih =>
    simp only [State.chain, ih, State.reach_node]
    rfl

theorem State.reach_isFor (s : State) (t n : Nat) (h : Hdr) : (s.reach t).isFor n h = s.isFor n h := by
  simp only [State.isFor, State.reach_node, State.reach_chain]
  rfl

theorem State.Gets.not_absent {n : Nat} {h : Hdr} {p : Packet} (hg : s.Gets n h p) : ¬ (n = 0 ∨ s.hasDown n p = false) :=
  not_or.2 ⟨hg.ne_zero, fun hnot => Bool.noConfusion (hg.hasDown.symm.trans hnot)⟩

theorem exec_time {n cycle epoch hold : Nat} {h : Hdr} (hg : s.Gets n h (pkt 7 h (timeBody cycle epoch 0))) :
    exec (.time n h cycle epoch hold) s =
      let w := (s.timeReached n).takeDown n (pkt 7 h (timeBody cycle epoch 0))
      done (if (w.node n).differs w.now cycle epoch && (w.node n).aligned then (w.timeIn n cycle epoch).sendEvent n 0x03 0
        else w.timeIn n cycle epoch) := by
  have hfor : ((s.timeReached n).takeDown n (pkt 7 h (timeBody cycle epoch 0))).isFor n h = true := by
    rw [State.takeDown_isFor, State.timeReached, State.reach_isFor, hg.isFor]
  refine (if_neg hg.not_absent).trans ((if_neg ?_).trans (apply_ite done ..).symm)
  exact fun hnot => Bool.noConfusion (hfor.symm.trans hnot)

theorem timeIn_node_other (s : State) {n m : Nat} (cycle epoch : Nat) (h : m ≠ n) :
    (s.timeIn n cycle epoch).node m = s.node m := by
  unfold State.timeIn
  rw [State.updNode_node_other _ _ h]
  split
  · rw [State.updNode_node_other _ _ h]
  · rfl

theorem timeIn_node_same (s : State) (n cycle epoch : Nat) :
    (s.timeIn n cycle epoch).node n =
      { (if (s.node n).differs s.now cycle epoch then (s.node n).align s.now cycle epoch else s.node n) with aligned := true } := by
  unfold State.timeIn
  rw [State.updNode_node_same]
  split
  · rw [State.updNode_node_same]
  · rfl

/-- What TIME leaves in a node (R53). -/
theorem timed_fields (now cycle epoch : Nat) (x : Node) :
    (if x.differs now cycle epoch then x.align now cycle epoch else x).epochNo.toNat % 65536 = epoch % 65536 ∧
    ((now - x.epochAt) / cksT ≠ cycle →
      (if x.differs now cycle epoch then x.align now cycle epoch else x).epochAt = now - cksT * cycle) := by
  cases hd : x.differs now cycle epoch with
  | true =>
    refine ⟨?_, fun _ => rfl⟩
    simp only [if_true, Node.align, BitVec.toNat_ofNat]
    omega
  | false =>
    obtain ⟨hcycle, hepoch⟩ := Bool.or_eq_false_iff.1 hd
    refine ⟨?_, fun hne => absurd hne ?_⟩
    · simpa using hepoch
    · simpa using hcycle

theorem time_does {n cycle epoch hold : Nat} {h : Hdr} (hg : s.Gets n h (pkt 7 h (timeBody cycle epoch 0))) :
    Does (.time n h cycle epoch hold) s [.now, .nodes, .links] fun t =>
      t.now = max s.now ((s.dir (s.upLink n) .down).timeOut.headD s.now + 4 * cksT) ∧ (t.node n).aligned = true ∧
      (t.node n).epochNo.toNat % 65536 = epoch % 65536 ∧
      ((t.now - (s.node n).epochAt) / cksT ≠ cycle → (t.node n).epochAt = t.now - cksT * cycle) ∧
      ∀ m, m ≠ n → t.node m = s.node m := by
  have hexec := exec_time (hold := hold) hg
  generalize pkt 7 h (timeBody cycle epoch 0) = p at hexec
  dsimp only at hexec
  have hnow : ((s.timeReached n).takeDown n p).now = max s.now ((s.dir (s.upLink n) .down).timeOut.headD s.now + 4 * cksT) := rfl
  have hnode : ((s.timeReached n).takeDown n p).node n = { s.node n with lastPkt := (s.timeReached n).now } := by
    rw [State.takeDown_node_same, State.timeReached, State.reach_node]
  have hother : ∀ m, m ≠ n → ((s.timeReached n).takeDown n p).node m = s.node m := fun m hm => by
    rw [State.takeDown_node_other _ _ hm, State.timeReached, State.reach_node]
  generalize (s.timeReached n).takeDown n p = w at hexec hnow hnode hother
  obtain ⟨hepoch, hat⟩ := timed_fields w.now cycle epoch (w.node n)
  have sent : Only [.links] (w.timeIn n cycle epoch) (if (w.node n).differs w.now cycle epoch && (w.node n).aligned then
      (w.timeIn n cycle epoch).sendEvent n 0x03 0 else w.timeIn n cycle epoch) :=
    Only.ite _ (fun _ => only_sendEvent _ n _ _) fun _ => Only.refl _ _
  have timed : Only [.nodes] w (w.timeIn n cycle epoch) :=
    (Only.ite _ (fun _ => only_updNode w n _) fun _ => Only.refl _ w).then (only_updNode _ n _) (by simp)
  refine Does.of_exec hexec ?_ (List.Subset.refl _)
  simp only [settle_now, settle_node, sent.now, sent.node n, timed.now, timeIn_node_same]
  refine ⟨hnow, trivial, hepoch, fun hne => hat ?_, fun m hm => ?_⟩
  · rw [hnode]; exact hne
  · rw [sent.node m, timeIn_node_other _ _ _ hm, hother m hm]

/-! ### PATH and PROBE -/

theorem exec_adoptDone {n : Nat} {h : Hdr} {lo hi : NodeId} (hg : s.Gets n h (pathPkt h 1 lo hi)) :
    exec (.adoptDone n h lo hi) s =
      done ((s.takeDown n (pathPkt h 1 lo hi)).updNode n fun x => { x with pathHold := false }) :=
  (if_neg hg.not_absent).trans (if_neg (by simp [hg.isFor]))

theorem exec_rosterRemove {n k : Nat} {h : Hdr} {lo hi : NodeId} {x : PortRange} (hg : s.Gets n h (pathPkt h 2 lo hi))
    (hk : (s.node n).ranges.find? (fun e => e.2.used && inRange e.2.lo e.2.hi lo) = some (k, x)) :
    exec (.rosterRemove n h lo hi) s =
      done ((s.takeDown n (pathPkt h 2 lo hi)).updNode n fun x => { x with roster := x.roster &&& ~~~ ((1 : BitVec 16) <<< k) }) := by
  refine (if_neg hg.not_absent).trans ((if_neg (by simp [hg.isFor])).trans ?_)
  rw [State.takeDown_node_same]
  simp only [hk, Option.map_some]

theorem exec_probe_numbers {n port : Nat} {dst newId : NodeId} (hn : n ≠ 0) (hkind : (s.node n).kind ≠ .absent)
    (hid : (s.node n).id = 0) (hnew : newId ≠ 0)
    (hp : (s.dir { node := n, path := .primary } .down).holds (probePkt dst port newId) = true) :
    ∃ p, exec (.probe n dst port newId) s =
      done (((s.takeOn { node := n, path := .primary } .down (probePkt dst port newId)).updNode n fun x =>
        { x with id := newId, subHi := newId }).sendUp n p) := by
  refine ⟨_, (if_neg (not_or.2 ⟨hn, hkind⟩)).trans ((if_neg fun hc => hc.1 hid).trans ((if_neg ?_).trans
    ((if_pos hid).trans (if_neg hnew))))⟩
  exact fun hnot => Bool.noConfusion (hp.symm.trans hnot)

theorem takeOn_node_other (s : State) {l : LinkId} {d : Dir} {p : Packet} {m : Nat} (h : m ≠ l.node) :
    (s.takeOn l d p).node m = s.node m := by
  unfold State.takeOn
  dsimp only
  split
  · rw [State.updNode_node_other _ _ h, State.updDir_node]
  · rw [State.updDir_node]

/-- Settles O16: paths by the two ways on from a failed one, packets each by its equation. -/
theorem pathsAndPacketsAtANode : Obligations.PathsAndPacketsAtANode := by
  intro s n hn
  refine ⟨?_, ?_, ?_, ?_, ?_, ?_, ?_, ?_, ?_, ?_⟩
  · intro hid hon hspare hoff hbad
    have hhas : ((s.reach ((s.node n).lastPkt + 320 * cksT)).node n).hasSpare := ⟨hon, hspare, hoff, hbad⟩
    obtain ⟨hspared, hprimary, hother⟩ := pathFailed_hasSpare_node hhas
    refine Does.of_exec (exec_parentPathTimeout hn hid) ?_ (List.Subset.refl _)
    simp only [settle_now, settle_node, settle_pan]
    exact ⟨pathFailed_now _ n, hspared, pathFailed_pathHold _ n, hprimary,
      fun c hc hp hrun => pathFailed_holds (s.reach ((s.node n).lastPkt + 320 * cksT)) n c hc hp hrun, hother⟩
  · intro hid hnone
    refine Does.of_exec (exec_parentPathTimeout hn hid) ?_ (List.Subset.refl _)
    simp only [settle_now, settle_node, settle_pan]
    exact ⟨pathFailed_now _ n, pathFailed_pathHold _ n,
      fun c hc hp hrun => pathFailed_holds (s.reach ((s.node n).lastPkt + 320 * cksT)) n c hc hp hrun⟩
  · intro h8
    refine Does.of_exec (exec_parityLimit_parent hn h8) ?_ (List.Subset.refl _)
    rw [settle_node, pathFailed_pathHold]
  · intro port h30 h31 h8
    refine Does.of_exec (exec_parityLimit_child hn h30 h31 h8) ⟨?_, ?_⟩ (List.Subset.refl _)
    · rw [settle_flt_sluAt]; rfl
    · rw [settle_nodes]; rfl
  · rintro l d ty p hty hp hpty rfl
    refine Does.of_exec (exec_reservedPacket hty hp hpty hn) ?_ (List.Subset.refl _)
    rw [settle_links]
  · intro h p hfor hport hp hbc hdst
    refine Does.of_exec (exec_unroutablePacket hn hfor hport hp hbc hdst) ?_ (List.Subset.refl _)
    rw [settle_links]
  · exact fun h cycle epoch hold hg => time_does hg
  · intro h lo hi hg
    refine Does.of_exec (exec_adoptDone hg) ⟨?_, fun m hm => ?_⟩ (List.Subset.refl _)
    · rw [settle_node, State.updNode_node_same]
    · rw [settle_node, State.updNode_node_other _ _ hm, State.takeDown_node_other _ _ hm]
  · intro h lo hi k x hg hk
    refine Does.of_exec (exec_rosterRemove hg hk) ⟨?_, fun m hm => ?_⟩ (List.Subset.refl _)
    · rw [settle_node, State.updNode_node_same, State.takeDown_node_same]
    · rw [settle_node, State.updNode_node_other _ _ hm, State.takeDown_node_other _ _ hm]
  · intro dst port newId hkind hid hnew hp
    obtain ⟨p, hexec⟩ := exec_probe_numbers hn hkind hid hnew hp
    refine Does.of_exec hexec ?_ (List.Subset.refl _)
    simp only [settle_node, State.sendUp_node, State.updNode_node_same]
    refine ⟨trivial, trivial, fun m hm => ?_⟩
    rw [State.updNode_node_other _ _ hm, takeOn_node_other s hm]

end Sys2Proof.Machine
end

section
/-! SUPPORT. What a pan does at its epoch boundary (R65, R80, R105, R153, R184): the parts of it that take no parameter, the
committed value that does, and the proof of the obligation about it. -/

namespace Sys2Proof.Machine

-- The joined text is checked under a memory limit that counts every thread's stack: one proof at a time.
set_option Elab.async false

variable {s : State}

/-! ### What the boundary leaves of a pan's parameters -/

/-- The parts of a pan that say which parameters it has, will have and has yet to take. -/
def Pan.held (p : Pan) : PanPar × List (Nat × Word) × Option (Int × Nat) := (p.par, p.late, p.sense.nextCur)

theorem Pan.held_eq {p q : Pan} (h : p.held = q.held) : p.par = q.par ∧ p.late = q.late ∧ p.sense.nextCur = q.sense.nextCur := by
  simpa [Pan.held] using h

theorem updPan_held (s : State) (n : Nat) {f : Pan → Pan} (h : ∀ p, (f p).held = p.held) :
    ((s.updPan n f).pan n).held = (s.pan n).held := by
  rw [State.updPan_pan_same, h]

theorem slowWindows_held (s : State) (n : Nat) (m : EpochMeas) (inc : Nat) : ((s.slowWindows n m inc).pan n).held = (s.pan n).held := by
  unfold State.slowWindows
  extract_lets p q vMean lo hi v i u1 u2 u3
  have h1 : (u1.pan n).held = (s.pan n).held := updPan_held s n fun _ => rfl
  have h2 : u2.pan n = u1.pan n := by
    simp only [u2]
    split
    · rw [State.sendEvent_pan]
    · rfl
  have h3 : u3.pan n = u2.pan n := by
    simp only [u3]
    split
    · rw [State.sendEvent_pan]
    · rfl
  split
  · rw [h3, h2, h1]
  · rw [State.sendEvent_pan, h3, h2, h1]

theorem panCount_held (s : State) (n : Nat) (m : EpochMeas) (inc : Nat) : ((s.panCount n m inc).pan n).held = (s.pan n).held :=
  updPan_held s n fun _ => rfl

theorem judge_held (s : State) (n : Nat) (m : EpochMeas) (inc : Nat) : ((s.judge n m inc).pan n).held = (s.pan n).held :=
  updPan_held s n fun _ => rfl

theorem swapConv_held (s : State) (n : Nat) : ((s.swapConv n).pan n).held = (s.pan n).held := by
  unfold State.swapConv
  dsimp only
  split
  · rw [State.sendEvent_pan, State.updPan_pan_same]
    rfl
  · rfl

/-- A waiting calibration of the current takes force (R153). -/
def Pan.calibrated (p : Pan) : PanPar :=
  match p.sense.nextCur with
  | some c => { p.par with curGain := c.1, boostCoef := c.2 }
  | none => p.par

theorem calibrated_of_held {p q : Pan} (h : p.held = q.held) : p.calibrated = q.calibrated := by
  obtain ⟨hpar, -, hcur⟩ := Pan.held_eq h
  unfold Pan.calibrated
  rw [hpar, hcur]

/-- Of a pan's parameters, its boundary changes the calibration of the current alone. -/
theorem panEpoch_par_late (s : State) (n : Nat) (tag : BitVec 3) (m : EpochMeas) :
    ((s.panEpoch n tag m).pan n).par = (s.pan n).calibrated ∧ ((s.panEpoch n tag m).pan n).late = (s.pan n).late := by
  unfold State.panEpoch
  extract_lets p id on vMean inc u1 u2 noConv u3 u4 u5 delay u6 u7 u8 u9
  have h1 : (u1.pan n).held = (s.pan n).held := updPan_held s n fun _ => rfl
  have h4 : u4.pan n = u1.pan n := by simp only [u4, u3, u2, State.sendUp_pan]
  have h5 : (u5.pan n).held = (u4.pan n).held := slowWindows_held u4 n m inc
  have h6 : u6.pan n = u5.pan n := by
    simp only [u6]
    split
    · rw [(only_draw _).pan n, State.sendUp_pan]
    · rfl
  have h7 : u7.pan n = u6.pan n := by
    simp only [u7]
    split
    · rw [(only_draw _).pan n, State.sendUp_pan]
    · rfl
  have h8 : (u8.pan n).held = (u7.pan n).held := (judge_held _ n m inc).trans (panCount_held u7 n m inc)
  have h9 : (u9.pan n).held = (u8.pan n).held := swapConv_held u8 n
  have held : (u9.pan n).held = (s.pan n).held := by rw [h9, h8, h7, h6, h5, h4, h1]
  clear_value u9
  rw [State.updPan_pan_same]
  exact ⟨calibrated_of_held held, (Pan.held_eq held).2.1⟩

/-! ### What a committed value leaves of them -/

theorem Pan.gatesLow_par_late (now w : Nat) (p : Pan) : (p.gatesLow now w).par = p.par ∧ (p.gatesLow now w).late = p.late := by
  unfold Pan.gatesLow Pan.endBoost Pan.addBoost
  split <;> exact ⟨rfl, rfl⟩

theorem Pan.enterOff_par_late (now w : Nat) (p : Pan) : (p.enterOff now w).par = p.par ∧ (p.enterOff now w).late = p.late :=
  Pan.gatesLow_par_late now w p

theorem updPan_par_late (s : State) (n : Nat) {f : Pan → Pan} (h : ∀ p, (f p).par = p.par ∧ (f p).late = p.late) :
    ((s.updPan n f).pan n).par = (s.pan n).par ∧ ((s.updPan n f).pan n).late = (s.pan n).late := by
  rw [State.updPan_pan_same]
  exact h _

theorem panStart_par_late (s : State) (n : Nat) :
    ((s.panStart n).pan n).par = (s.pan n).par ∧ ((s.panStart n).pan n).late = (s.pan n).late :=
  updPan_par_late s n fun p => by
    dsimp only
    split <;> exact ⟨rfl, rfl⟩

/-- A committed MODE as a pan holds it (R80, R103). -/
def modeStage (v : Word) (q : PanPar) : PanPar :=
  { q with modeReq := ufield v 0 2, dePermit := bitOf v 2, carryPermit := bitOf v 3, loopWd := bitOf v 4, carryAuto := false }

/-- A MODE changes of a pan's parameters those that it names. -/
theorem applyMode_par_late {n : Nat} {own : Bool} {v : Word} (hspare : (s.node n).kind.isSpare = false) :
    ((s.applyMode n own v).pan n).par = modeStage v (s.pan n).par ∧ ((s.applyMode n own v).pan n).late = (s.pan n).late := by
  unfold State.applyMode
  extract_lets req spare u p w
  have hu : (u.pan n).par = modeStage v (s.pan n).par ∧ (u.pan n).late = (s.pan n).late := by
    rw [State.updPan_pan_same]
    exact ⟨rfl, rfl⟩
  rw [if_neg (by simp [spare, hspare])]
  obtain ⟨hpar, hlate⟩ := hu
  rw [← hpar, ← hlate]
  split
  · exact ⟨rfl, rfl⟩
  · split
    · exact updPan_par_late u n fun p => Pan.gatesLow_par_late u.now w p
    · split
      · split
        · exact panStart_par_late u n
        · split
          · exact updPan_par_late u n fun _ => ⟨rfl, rfl⟩
          · exact ⟨rfl, rfl⟩
      · split
        · split
          · exact updPan_par_late u n fun p => Pan.enterOff_par_late u.now w p
          · exact ⟨rfl, rfl⟩
        · split
          · exact updPan_par_late u n fun _ => ⟨rfl, rfl⟩
          · exact ⟨rfl, rfl⟩

/-- A committed value as a pan of no spare kind holds it (R80, R153, R184). -/
def stageValue (sel : Nat) (v : Word) (q : PanPar) : PanPar :=
  if sel = 0x06 then modeStage v q else if sel < 0x40 then regStage sel v q else if sel < 0x60 then winStage sel v q else planStage sel v q

theorem noteClamp_par_late (s : State) (n : Nat) :
    ((s.noteClamp n).pan n).par = (s.pan n).par ∧ ((s.noteClamp n).pan n).late = (s.pan n).late := by
  rw [noteClamp_pan_same]
  exact ⟨rfl, rfl⟩

theorem applyStage_par_late {n : Nat} (hspare : (s.node n).kind.isSpare = false) (h : Hdr) (sel : Nat) (v : Word) :
    ((s.applyStage n h sel v).pan n).par = stageValue sel v (s.pan n).par ∧
    ((s.applyStage n h sel v).pan n).late = (s.pan n).late := by
  unfold State.applyStage stageValue
  split
  · exact applyMode_par_late hspare
  · split
    · extract_lets p q moved
      obtain ⟨hpar, hlate⟩ := noteClamp_par_late (s.updPan n fun p => { p with
        par := q, setAt := if moved then s.now else p.setAt,
        offAt := if q.offslew ≠ p.par.offslew then s.now else p.offAt,
        trimA := if q.balance then p.trimA else 0, trimB := if q.balance then p.trimB else 0,
        satA := if q.balance then p.satA else 0, satB := if q.balance then p.satB else 0 }) n
      exact ⟨hpar.trans (by rw [State.updPan_pan_same]), hlate.trans (by rw [State.updPan_pan_same])⟩
    · split
      · rename_i h43
        subst h43
        extract_lets x y u
        have hu : (u.pan n).par = winStage 0x43 v (s.pan n).par ∧ (u.pan n).late = (s.pan n).late := by
          rw [State.updPan_pan_same]
          exact ⟨rfl, rfl⟩
        split
        · rw [State.sendEvent_pan]; exact hu
        · exact hu
      · split
        · rw [State.updPan_pan_same]
          exact ⟨rfl, rfl⟩
        · rw [State.updPan_pan_same]
          exact ⟨rfl, rfl⟩

/-! ### The boundary of a pan's node -/

/-- A node's count, boundary and sets at its own boundary (R19, R63). -/
def Node.nextEpoch (pan : Bool) (tag : BitVec 3) (y : Node) : Node :=
  { y with
    epochNo := y.epochNo + 1, epochAt := y.epochAt + epochT, parity := [], held := {}, acks := [], acked := false,
    rollup := if pan then y.rollup else y.rollup.forTag tag }

section
variable {n : Nat} {m : EpochMeas} {h : Hdr} {sel : Byte} {v : Word}

/-- The state of a pan's boundary once its committed value has taken effect. -/
def State.boundaryApplied (s : State) (n : Nat) (m : EpochMeas) (h : Hdr) (sel : Byte) (v : Word) : State :=
  ((s.reach ((s.node n).epochAt + epochT)).panEpoch n ((s.node n).epochNo.setWidth 3) m).applyStage n h sel.toNat v

theorem only_boundaryApplied (s : State) (n : Nat) (m : EpochMeas) (h : Hdr) (sel : Byte) (v : Word) :
    Only [.free, .links, .pans] (s.reach ((s.node n).epochAt + epochT)) (s.boundaryApplied n m h sel v) :=
  (only_panEpoch _ n _ m).then (only_applyStage _ n h _ v) (by simp)

theorem boundaryApplied_node (s : State) (n k : Nat) (m : EpochMeas) (h : Hdr) (sel : Byte) (v : Word) :
    (s.boundaryApplied n m h sel v).node k = s.node k := by
  rw [(only_boundaryApplied s n m h sel v).node k, State.reach_node]

theorem boundaryApplied_par_late (hspare : (s.node n).kind.isSpare = false) :
    ((s.boundaryApplied n m h sel v).pan n).par = stageValue sel.toNat v (s.pan n).calibrated ∧
    ((s.boundaryApplied n m h sel v).pan n).late = (s.pan n).late := by
  have epoch := only_panEpoch (s.reach ((s.node n).epochAt + epochT)) n ((s.node n).epochNo.setWidth 3) m
  have hkind : ((s.reach ((s.node n).epochAt + epochT)).panEpoch n ((s.node n).epochNo.setWidth 3) m).node n = s.node n := by
    rw [epoch.node n, State.reach_node]
  obtain ⟨hpar, hlate⟩ := panEpoch_par_late (s.reach ((s.node n).epochAt + epochT)) n ((s.node n).epochNo.setWidth 3) m
  have hspare' : (((s.reach ((s.node n).epochAt + epochT)).panEpoch n ((s.node n).epochNo.setWidth 3) m).node n).kind.isSpare = false := by
    rw [hkind, hspare]
  obtain ⟨hpar', hlate'⟩ := applyStage_par_late hspare' h sel.toNat v
  refine ⟨hpar'.trans ?_, hlate'.trans (hlate.trans ?_)⟩
  · rw [hpar, State.reach_pan]
  · rw [State.reach_pan]

theorem exec_nodeEpochBoundary (hn : n ≠ 0) (hid : (s.node n).id ≠ 0) (hp : s.isPan n = true)
    (hspare : (s.node n).kind.isSpare = false) (htag : (s.node n).held.tag = (s.node n).epochNo.setWidth 3 + 1)
    (hverdict : (s.node n).held.verdict = some true) (hset : (s.node n).held.stages = [⟨h, sel, v⟩]) (hlate : (s.pan n).late = []) :
    exec (.nodeEpochBoundary n m) s =
      done ((((s.boundaryApplied n m h sel v).updNode n (Node.nextEpoch true ((s.node n).epochNo.setWidth 3))).updPan n fun p =>
        { p with late := [] }).noteClamp n) := by
  have hpan : ∀ t : State, t.node n = s.node n → t.isPan n = true := fun t ht => by rw [State.isPan, ht]; exact hp
  change execNodeEpochBoundary n m s = _
  unfold execNodeEpochBoundary
  extract_lets x u tag u1 k u2 u3 late u4
  rw [if_neg (not_or.2 ⟨hn, hid⟩)]
  have hu1 : u1 = u.panEpoch n tag m := if_pos (hpan u (State.reach_node ..))
  have hu1pan : u1.isPan n = true := by
    rw [hu1]
    exact hpan _ (by rw [(only_panEpoch u n tag m).node n, State.reach_node])
  have hstages : k.stages = [⟨h, sel, v⟩] := hset
  have hu2 : u2 = s.boundaryApplied n m h sel v := by
    refine (if_pos ⟨htag, hverdict⟩).trans ((if_pos hu1pan).trans ?_)
    rw [hstages]
    change u1.applyStage n h sel.toNat v = _
    rw [hu1]
    rfl
  have hu2pan : u2.isPan n = true := by
    rw [hu2]
    exact hpan _ (boundaryApplied_node s n n m h sel v)
  have hu3 : u3 = u2.updNode n (Node.nextEpoch (u2.isPan n) tag) := rfl
  rw [hu2pan, hu2] at hu3
  have hu3pan : u3.isPan n = true := by
    rw [hu3, State.updNode_isPan, State.updNode_node_same, boundaryApplied_node]
    exact hp
  have hu3late : (u3.pan n).late = [] := by
    rw [hu3, State.updNode_pan, (boundaryApplied_par_late hspare).2, hlate]
  have hu4 : u4 = u3.updPan n fun p => { p with late := [] } := rfl
  rw [if_pos hu3pan, show late = [] from hu3late, hu4, hu3]
  rfl

theorem nodeEpochBoundary_does (hn : n ≠ 0) (hid : (s.node n).id ≠ 0) (hp : s.isPan n = true)
    (hspare : (s.node n).kind.isSpare = false) (htag : (s.node n).held.tag = (s.node n).epochNo.setWidth 3 + 1)
    (hverdict : (s.node n).held.verdict = some true) (hset : (s.node n).held.stages = [⟨h, sel, v⟩]) (hlate : (s.pan n).late = []) :
    Does (.nodeEpochBoundary n m) s [.now, .free, .nodes, .links, .pans] fun t =>
      t.node n = Node.nextEpoch true ((s.node n).epochNo.setWidth 3) (s.node n) ∧ (∀ k, k ≠ n → t.node k = s.node k) ∧
      (t.pan n).par = stageValue sel.toNat v (s.pan n).calibrated := by
  have clamp := only_noteClamp (((s.boundaryApplied n m h sel v).updNode n (Node.nextEpoch true ((s.node n).epochNo.setWidth 3))).updPan n
    fun p => { p with late := [] }) n
  refine Does.of_exec (exec_nodeEpochBoundary hn hid hp hspare htag hverdict hset hlate) ⟨?_, fun k hk => ?_, ?_⟩ (List.Subset.refl _)
  · rw [settle_node, clamp.node n, State.updPan_node, State.updNode_node_same, boundaryApplied_node]
  · rw [settle_node, clamp.node k, State.updPan_node, State.updNode_node_other _ _ hk, boundaryApplied_node]
  · rw [settle_pan, (noteClamp_par_late _ n).1, State.updPan_pan_same, State.updNode_pan]
    exact (boundaryApplied_par_late hspare).1

end

/-- A stream's kind and interval (R184). -/
theorem stageValue_stream {k : Nat} (hk : k < 4) (v : Word) (q : PanPar) : stageValue (BitVec.ofNat 8 (0x60 + k)).toNat v q =
    { q with streamKind := q.streamKind.set 0 k (ufield v 0 8), streamInt := q.streamInt.set 0 k (ufield v 8 16) } := by
  match k, hk with
  | 0, _ => rfl
  | 1, _ => rfl
  | 2, _ => rfl
  | 3, _ => rfl

/-- Settles O17: the boundary's value by its SEL, each field by its range. -/
theorem committedValuesApplyAtTheNodeBoundary : Obligations.CommittedValuesApplyAtTheNodeBoundary := by
  intro s n m h sel v hn hid hp hspare htag hverdict hset hlate
  refine (nodeEpochBoundary_does hn hid hp hspare htag hverdict hset hlate).imp ?_
  rintro t ⟨hnode, hother, hpar⟩
  rw [hnode]
  refine ⟨rfl, rfl, rfl, hother, ?_⟩
  intro q p
  have hq : (s.pan n).calibrated = q := rfl
  rw [hq] at hpar
  have hp : p = stageValue sel.toNat v q := hpar
  clear_value p q
  refine ⟨?_, ?_, ?_, ?_, ?_, ?_, ?_, ?_, ?_, ?_, ?_, ?_, ?_, ?_, ?_, ?_, ?_, ?_, ?_⟩
  case refine_18 =>
    rintro k hk rfl
    rw [hp, stageValue_stream hk, ufield_zero]
    rfl
  all_goals
    intro hsel
    rw [hp, hsel]
    simp [stageValue, modeStage, regStage, winStage, planStage, ufield, bitOf, clampN]

end Sys2Proof.Machine
end

section
/-! SUPPORT. The limits, trims and transient circuits of a pan (R73 to R76, R89 to R96, R100, R101), its states (R97 to R99, R105),
and the proofs of the obligations about them. -/

namespace Sys2Proof.Machine

-- The joined text is checked under a memory limit that counts every thread's stack: one proof at a time.
set_option Elab.async false

variable {c : Instr} {s u : State} {n : Nat} {p q : Pan}

/-! ### One pan changes -/

theorem panBecomes_updPan (s : State) (n : Nat) (f : Pan → Pan) : PanBecomes s n (f (s.pan n)) (s.updPan n f) :=
  ⟨State.updPan_pan_same .., fun _ hm => State.updPan_pan_other _ _ hm⟩

theorem panBecomes_settle : PanBecomes s n q (settle u) ↔ PanBecomes s n q u := by
  simp only [PanBecomes, settle_pan]

/-- An EVENT not yet sent in this epoch marks in the pan that it was. -/
theorem PanBecomes.panEvent_new {k : Nat} (d : Word) (h : PanBecomes s n q u) (hnew : q.sent.getLsbD (k - 16) = false) :
    PanBecomes s n { q with sent := q.sent ||| (1 : BitVec 8) <<< (k - 16) } (u.panEvent n k d) := by
  obtain ⟨hpan, hother⟩ := h
  obtain ⟨hsent, -⟩ := Machine.panEvent_new u n k d (hpan ▸ hnew)
  refine ⟨hsent.trans (by rw [hpan]), fun m hm => ?_⟩
  rw [panEvent_pan_other _ _ _ _ hm, hother m hm]

/-- An EVENT that reports every change marks in the pan that it was sent. -/
theorem PanBecomes.panEvent_change {k : Nat} (d : Word) (h : PanBecomes s n q u)
    (hk : (decide (k = 0x13) || decide (k = 0x15) || decide (k = 0x17)) = true) :
    PanBecomes s n { q with sent := q.sent ||| (1 : BitVec 8) <<< (k - 16) } (u.panEvent n k d) := by
  obtain ⟨hpan, hother⟩ := h
  obtain ⟨hsent, -⟩ := Machine.panEvent_change u n k d hk
  refine ⟨hsent.trans (by rw [hpan]), fun m hm => ?_⟩
  rw [panEvent_pan_other _ _ _ _ hm, hother m hm]

/-- A command that ends in a pan's change and a first report of it. -/
theorem Does.of_updPan_event {k : Nat} {d : Word} {f : Pan → Pan} (h : exec c s = done ((s.updPan n f).panEvent n k d))
    (hnew : (f (s.pan n)).sent.getLsbD (k - 16) = false) :
    Does c s [.links, .pans] fun t =>
      PanBecomes s n { f (s.pan n) with sent := (f (s.pan n)).sent ||| (1 : BitVec 8) <<< (k - 16) } t ∧
      t.links = (s.sendEvent n (BitVec.ofNat 8 k) d).links := by
  have hpan : ((s.updPan n f).pan n).sent.getLsbD (k - 16) = false := by rw [State.updPan_pan_same, hnew]
  refine Does.of_done h ⟨panBecomes_settle.2 ((panBecomes_updPan s n f).panEvent_new d hnew), ?_⟩
    (((only_updPan s n f).mono (by simp)).then (only_panEvent _ n k d) (by simp))
  rw [settle_links, (panEvent_new _ n k d hpan).2, sendEvent_updPan_links]

/-- A command that ends in the first report of a pan's state. -/
theorem Does.of_event {k : Nat} {d : Word} (h : exec c s = done (s.panEvent n k d)) (hnew : (s.pan n).sent.getLsbD (k - 16) = false) :
    Does c s [.links, .pans] fun t =>
      PanBecomes s n { s.pan n with sent := (s.pan n).sent ||| (1 : BitVec 8) <<< (k - 16) } t ∧
      t.links = (s.sendEvent n (BitVec.ofNat 8 k) d).links := by
  refine Does.of_done h ⟨panBecomes_settle.2 (PanBecomes.panEvent_new d ⟨rfl, fun _ _ => rfl⟩ hnew), ?_⟩ (only_panEvent _ n k d)
  rw [settle_links, (panEvent_new _ n k d hnew).2]

theorem State.reach_max (s : State) (t : Nat) : s.reach (max s.now t) = s.reach t := by
  unfold State.reach
  rw [← Nat.max_assoc, Nat.max_self]

theorem State.reach_contLimit (s : State) (t n : Nat) : (s.reach t).contLimit n = s.contLimit n := rfl

/-! ### Limits (R73 to R76) -/

theorem State.contLimit_eq (s : State) (n : Nat) :
    s.contLimit n = (if (s.pan n).par.carryPermit || (s.pan n).par.carryAuto then 125 else 100) * (s.node n).rating := by
  rfl

theorem State.shortLimit_eq (s : State) (n : Nat) :
    s.shortLimit n = if (s.pan n).excur = .holdoff then s.contLimit n else 130 * (s.node n).rating := rfl

theorem Pan.limNow_le (p : Pan) (now : Nat) : p.limNow now ≤ p.limTrim := by
  unfold Pan.limNow
  split
  · exact Nat.le_refl _
  · exact Nat.sub_le ..

theorem exec_excursionEnd {i : Nat} (he : (s.pan n).excur = .active) (hi : i ≤ s.contLimit n) :
    exec (.excursionEnd n i) s = done (s.updPan n fun p => { p with
      excur := if p.excur = .active then .holdoff else p.excur, excurAt := if p.excur = .active then s.now else p.excurAt,
      limRel := some (p.limRel.getD s.now) }) :=
  if_pos ⟨Or.inl he, hi⟩

theorem exec_excursionHoldoffExpiry (he : (s.pan n).excur = .holdoff) :
    exec (.excursionHoldoffExpiry n) s =
      done ((s.reach ((s.pan n).excurAt + 30 * usT)).updPan n fun p => { p with excur := .none }) :=
  if_pos he

/-- The limiter lowers a pan's regulation point by a drawn amount (R75). -/
def State.limited (s : State) (n k : Nat) : State :=
  (s.updPan n fun p => { p with limTrim := max (p.limNow s.now) (k % 13), limRel := none }).draw

theorem exec_excursionLimit {i : Nat} (hp : s.isPan n = true) (hr : (s.pan n).st.runs = true) (hi : s.contLimit n < i)
    (hlim : s.shortLimit n < i ∨ (s.pan n).excur = .active) :
    exec (.excursionLimit n i) s =
      let u := if decide (s.shortLimit n < i) then s else s.reach ((s.pan n).excurAt + 10 * usT)
      done ((u.limited n (Config.measure u.free 90).toNat).panEvent n 0x10 (if decide (s.shortLimit n < i) then 1 else 0)) :=
  if_pos ⟨hp, hr, hi, by simpa using hlim⟩

theorem panEvent_sent (s : State) (n k : Nat) (d : Word) : ((s.panEvent n k d).pan n).sent.getLsbD (k - 16) = true ∨ 8 ≤ k - 16 := by
  by_cases hk : 8 ≤ k - 16
  · exact Or.inr hk
  · left
    unfold State.panEvent
    dsimp only
    split
    · rename_i h
      exact (Bool.and_eq_true_iff.1 h).1
    · rw [State.sendEvent_pan, State.updPan_pan_same]
      have hlt : k - 16 < 8 := by omega
      simp [hlt]

/-- The limiter acts from a state of the same pans: its trim is bounded, held, and reported (R75, R110). -/
theorem limited_pan {k : Nat} {d : Word} (hpans : u.pans = s.pans) :
    (((u.limited n k).panEvent n 0x10 d).pan n).limTrim ≤ max 12 (s.pan n).limTrim ∧
    (((u.limited n k).panEvent n 0x10 d).pan n).limRel = none ∧
    (((u.limited n k).panEvent n 0x10 d).pan n).sent.getLsbD 0 = true ∧
    ∀ m, m ≠ n → ((u.limited n k).panEvent n 0x10 d).pan m = s.pan m := by
  have hpan : ∀ m, u.pan m = s.pan m := fun m => by unfold State.pan; rw [hpans]
  have hlimited : (u.limited n k).pan n = { s.pan n with limTrim := max ((s.pan n).limNow u.now) (k % 13), limRel := none } := by
    rw [State.limited, (only_draw _).pan n, State.updPan_pan_same, hpan]
  have hle := (s.pan n).limNow_le u.now
  have hk : k % 13 < 13 := Nat.mod_lt _ (by decide)
  refine ⟨?_, ?_, (panEvent_sent (u.limited n k) n 0x10 d).resolve_right (by decide), fun m hm => ?_⟩
  · rw [panEvent_pan_same, hlimited]
    dsimp only
    omega
  · rw [panEvent_pan_same, hlimited]
  · rw [panEvent_pan_other _ _ _ _ hm, State.limited, (only_draw _).pan m, State.updPan_pan_other _ _ hm, hpan]

theorem excursionLimit_does {i : Nat} (hp : s.isPan n = true) (hr : (s.pan n).st.runs = true) (hi : s.contLimit n < i)
    (hlim : s.shortLimit n < i ∨ (s.pan n).excur = .active) :
    Does (.excursionLimit n i) s [.now, .free, .links, .pans] fun t =>
      t.now = (if s.shortLimit n < i then s.now else max s.now ((s.pan n).excurAt + 10 * usT)) ∧
      (t.pan n).limTrim ≤ max 12 (s.pan n).limTrim ∧ (t.pan n).limRel = none ∧ t.free = s.free + 1 ∧
      (t.pan n).sent.getLsbD 0 = true ∧ ∀ m, m ≠ n → t.pan m = s.pan m := by
  have hexec := exec_excursionLimit hp hr hi hlim
  generalize hu : (if decide (s.shortLimit n < i) then s else s.reach ((s.pan n).excurAt + 10 * usT)) = w at hexec
  have hpans : w.pans = s.pans := by rw [← hu]; split <;> rfl
  have hfree : w.free = s.free := by rw [← hu]; split <;> rfl
  have hnow : w.now = if s.shortLimit n < i then s.now else max s.now ((s.pan n).excurAt + 10 * usT) := by
    rw [← hu]
    simp only [decide_eq_true_eq]
    split <;> rfl
  dsimp only at hexec
  generalize (Config.measure w.free 90).toNat = k at hexec
  generalize (if decide (s.shortLimit n < i) then 1 else 0 : Word) = d at hexec
  obtain ⟨htrim, hrel, hsent, hother⟩ := limited_pan (n := n) (k := k) (d := d) hpans
  refine Does.of_exec hexec ?_ (List.Subset.refl _)
  simp only [settle_now, settle_pan, settle_free]
  refine ⟨?_, htrim, hrel, ?_, hsent, hother⟩
  · rw [(only_panEvent _ n _ d).now, State.limited, (only_draw _).now, State.updPan_now, hnow]
  · rw [(only_panEvent _ n _ d).free, ← hfree]
    rfl

/-- A phase's current has reached its peak limit: its high side is off (R76). -/
def Pan.peaked (now : Nat) (x : Phase2) (q : Pan) : Pan :=
  match x with
  | .a => { q with hga := false, lga := true, gapPs := q.deadPs, endOnA := nsOf now, peaks := q.peaks ||| 1 }
  | .b => { q with hgb := false, lgb := true, gapPs := q.deadPs, endOnB := nsOf now, peaks := q.peaks ||| 2 }

theorem exec_peakLimitReached {x : Phase2} {i : Nat} (hp : s.isPan n = true) (hr : (s.pan n).st.runs = true)
    (hx : (match x with | .a => (s.pan n).hga | .b => (s.pan n).hgb) = true) (hi : s.peakLimit n ≤ i) :
    exec (.peakLimitReached n x i) s =
      done ((s.updPan n (Pan.peaked s.now x)).panEvent n 0x11 (((s.updPan n (Pan.peaked s.now x)).pan n).peaks.setWidth 32)) :=
  if_pos ⟨hp, hr, hx, hi⟩

/-! ### Diode emulation, balance and share -/

theorem exec_deEntry {mean : Nat} (hp : s.isPan n = true) (hpriv : s.privPan n = false) (hr : (s.pan n).st.runs = true)
    (hde : (s.pan n).par.dePermit = true) (ha : (s.pan n).armed ≠ 2) (he : (s.pan n).excur ≠ .active)
    (hm : mean < 8 * (s.node n).rating) : exec (.deEntry n mean) s = done (s.updPan n fun p => { p with de := true }) :=
  if_pos ⟨hp, hpriv, hr, hde, ha, he, hm⟩

/-- A balance update: both trims step by `d`, in opposite directions (R92). -/
def Pan.balanced (d : Int) (p : Pan) : Pan :=
  let a := clampI (p.trimA - d) (-31) 31
  let b := clampI (p.trimB + d) (-31) 31
  let e (x : Int) (k : Nat) : Nat := if x = 31 ∨ x = -31 then min 64 (k + 1) else 0
  { p with trimA := a, trimB := b, satA := e a p.satA, satB := e b p.satB, balAt := p.periods }

theorem Pan.balanced_trims (d : Int) (p : Pan) : (p.balanced d).trimA = max (-31) (min (p.trimA - d) 31) ∧
    (p.balanced d).trimB = max (-31) (min (p.trimB + d) 31) := ⟨rfl, rfl⟩

theorem exec_balanceUpdate {ia ib : Int} (hp : s.isPan n = true) (hr : (s.pan n).st.runs = true) (hb : (s.pan n).par.balance = true)
    (hde : (s.pan n).de = false) (hbst : (s.pan n).bst = false) (hat : (s.pan n).balAt + 256 ≤ (s.pan n).periods) :
    exec (.balanceUpdate n ia ib) s =
      done (s.updPan n fun _ => (s.pan n).balanced (if ib < ia then 1 else if ia < ib then -1 else 0)) :=
  (if_pos ⟨hp, hr, hb, hde, hbst, hat⟩).trans rfl

theorem exec_shareTrimUpdate {mean : Nat} (hp : s.isPan n = true) (hr : (s.pan n).st = .run) (hs : (s.pan n).starting = false)
    (hat : (s.pan n).shareAt + 64 ≤ (s.pan n).periods) :
    exec (.shareTrimUpdate n mean) s = done (s.updPan n fun p => { p with
      shareTrim := clampI (p.shareTrim + (if mean < s.effShare n then 1 else if s.effShare n < mean then -1 else 0)) (-16) 16,
      shareAt := p.periods }) :=
  if_pos ⟨hp, Or.inl ⟨hr, hs⟩, hat⟩

theorem exec_balanceTrimSaturated_a (h : 64 ≤ (s.pan n).satA) : exec (.balanceTrimSaturated n .a) s = done (s.panEvent n 0x14 0) :=
  if_pos h

theorem exec_balanceTrimSaturated_b (h : 64 ≤ (s.pan n).satB) : exec (.balanceTrimSaturated n .b) s = done (s.panEvent n 0x14 1) :=
  if_pos h

/-- Settles O19: each limit, trim and report by the equation of its command. -/
theorem currentLimitsAndTrimsOfAPan : Obligations.CurrentLimitsAndTrimsOfAPan := by
  intro s n p limit
  have hlimit : s.contLimit n = limit := s.contLimit_eq n
  refine ⟨?_, ?_, ?_, ?_, ?_, ?_, ?_, ?_, ?_, ?_, ?_, ?_, ?_⟩
  · exact fun i hp hr he hi => Does.of_updPan (exec_excursionStart hp hr he (hlimit ▸ hi))
  · intro i he hi
    have hdoes := Does.of_updPan (exec_excursionEnd he (hlimit ▸ hi))
    rw [if_pos he, if_pos he] at hdoes
    exact hdoes
  · intro he
    refine Does.of_exec (exec_excursionHoldoffExpiry he) ⟨panBecomes_settle.2 ?_, ?_⟩ (List.Subset.refl _)
    · exact panBecomes_updPan (s.reach ((s.pan n).excurAt + 30 * usT)) n _
    · rw [settle_now, State.updPan_now, State.reach_now]
  · intro i hp hr he hlow hhigh
    refine (excursionLimit_does hp hr (hlimit ▸ hlow) (Or.inr he)).imp ?_
    rintro t ⟨hnow, hrest⟩
    rw [if_neg] at hnow
    · exact ⟨hnow, hrest⟩
    · rw [State.shortLimit_eq, if_neg fun h => absurd (he.symm.trans h) (by decide)]
      omega
  · intro i hp hr hlow hhigh
    have hshort : s.shortLimit n < i := by
      rw [State.shortLimit_eq, hlimit]
      exact hhigh
    refine (excursionLimit_does hp hr (hlimit ▸ hlow) (Or.inl hshort)).imp ?_
    rintro t ⟨hnow, hrest⟩
    rw [if_pos hshort] at hnow
    exact ⟨hnow, hrest⟩
  · intro i hp hr hx hi hnew
    have hexec := exec_peakLimitReached (x := .a) hp hr hx hi
    rw [State.updPan_pan_same] at hexec
    exact Does.of_updPan_event hexec hnew
  · intro i hp hr hx hi hold
    have hexec := exec_peakLimitReached (x := .b) hp hr hx hi
    rw [panEvent_old _ _ _ _ (by rw [State.updPan_pan_same]; exact hold) rfl] at hexec
    exact Does.of_done hexec ⟨panBecomes_settle.2 (panBecomes_updPan s n _), settle_links _⟩ ((only_updPan s n _).mono (by simp))
  · exact fun mean hp hpriv hr hde ha he hm => Does.of_updPan (exec_deEntry hp hpriv hr hde ha he hm)
  · exact fun mean hde hm => Does.of_updPan (exec_deExitMean hde hm)
  · intro ia ib hp hr hb hde hbst hat
    refine (Does.of_updPan (exec_balanceUpdate (ia := ia) (ib := ib) hp hr hb hde hbst hat)).imp ?_
    rintro t ⟨hpan, hother⟩
    rw [hpan]
    refine ⟨fun hlt => ?_, fun hlt => ?_, hother⟩
    · rw [if_pos hlt]
      exact Pan.balanced_trims 1 p
    · rw [if_neg (by omega), if_pos hlt]
      obtain ⟨ha, hb⟩ := Pan.balanced_trims (-1) p
      exact ⟨ha.trans (by rw [Int.sub_neg]), hb⟩
  · exact fun hsat hnew => Does.of_event (exec_balanceTrimSaturated_a hsat) hnew
  · exact fun hsat hnew => Does.of_event (exec_balanceTrimSaturated_b hsat) hnew
  · intro mean hp hr hs hat
    refine (Does.of_updPan (exec_shareTrimUpdate hp hr hs hat)).imp ?_
    rintro t ⟨hpan, hother⟩
    rw [hpan]
    refine ⟨fun hlt => ?_, fun hlt => ?_, rfl, hother⟩
    · rw [if_pos hlt]
      rfl
    · rw [if_neg (by omega), if_pos hlt]
      rfl

/-! ### The transient circuits (R93 to R96) -/

/-- With no comparator fired nothing changes. -/
theorem Pan.transient_of_released {now : Nat} (hd : p.droopFired = false) (ho : p.overFired = false) : p.transient now = p := by
  simp [Pan.transient, hd, ho]

/-- The droop comparator fires the boost within its count (R93, R94). -/
theorem Pan.transient_of_droop {now : Nat} (hd : p.droopFired = true) (hb : p.bst = false) (hs : p.shn = false)
    (ho : p.overFired = false) :
    p.transient now = if p.fired < p.par.boostMax then { p with bst := true, fired := p.fired + 1, bstAt := now } else p := by
  by_cases hf : p.fired < p.par.boostMax <;> simp [Pan.transient, hd, hb, hs, ho, hf]

/-- The overshoot comparator stops both high sides, and fires the shunt unless the boost conducts (R95). -/
theorem Pan.transient_of_over {now : Nat} (hd : p.droopFired = false ∨ p.bst = true) (ho : p.overFired = true) :
    p.transient now = { p with shn := p.shn || !p.bst, hga := false, hgb := false } := by
  unfold Pan.transient
  rcases hd with hd | hb
  · simp [hd, ho]
  · simp [hb, ho]

/-- The droop comparator has fired (R90, R93). -/
def Pan.droopIn (p : Pan) : Pan := { p with droopFired := true, de := false }

/-- The overshoot comparator has fired (R95). -/
def Pan.overIn (p : Pan) : Pan := { p with overFired := true }

/-- The boost and its comparator are released, the charge of a conduction counted (R93). -/
def Pan.boostOut (w ns : Nat) (p : Pan) : Pan :=
  { (if p.bst then p.addBoost w ns else p) with bst := false, droopFired := false }

/-- The boost ends at its limit (R93). -/
def Pan.boostSpent (w : Nat) (p : Pan) : Pan := { p.addBoost w p.par.boostNs with bst := false, droopFired := false }

/-- The shunt and its comparator are released (R95). -/
def Pan.shuntOut (p : Pan) : Pan := { p with shn := false, overFired := false }

theorem Pan.boostOut_of_bst {w ns : Nat} (h : p.bst = true) :
    p.boostOut w ns = { p.addBoost w ns with bst := false, droopFired := false } := by
  unfold Pan.boostOut
  rw [if_pos h]

theorem Pan.boostOut_of_not_bst {w ns : Nat} (h : p.bst = false) : p.boostOut w ns = { p with bst := false, droopFired := false } := by
  unfold Pan.boostOut
  rw [if_neg (ne_true_of_eq_false h)]

theorem Pan.boostOut_overFired (w ns : Nat) (p : Pan) : (p.boostOut w ns).overFired = p.overFired := by
  unfold Pan.boostOut
  split <;> rfl

theorem exec_droopCrossing {v : Nat} (hp : s.isPan n = true) (hr : (s.pan n).st.runs = true) (ha : (s.pan n).armed ≠ 0)
    (hd : (s.pan n).droopFired = false) (hv : (v : Int) < codeOf ((s.pan n).target - (s.pan n).droopMv)) :
    exec (.droopCrossing n v) s =
      done (s.updPan n fun p => p.droopIn.transient s.now) :=
  if_pos ⟨hp, hr, ha, hd, hv⟩

theorem exec_boostRecovery {v ns : Nat} (hd : (s.pan n).droopFired = true)
    (hv : codeOf ((s.pan n).target - ((s.pan n).droopMv - 2 : Nat)) ≤ (v : Int)) (hb : (s.pan n).bst = false ∨ ns ≤ (s.pan n).par.boostNs) :
    exec (.boostRecovery n v ns) s =
      done (s.updPan n fun p => (p.boostOut (s.windowNow n) ns).transient s.now) :=
  if_pos ⟨hd, hv, hb⟩

theorem exec_boostConductionLimit (hb : (s.pan n).bst = true) :
    exec (.boostConductionLimit n) s =
      let u := s.reach ((s.pan n).bstAt + tickOf (s.pan n).par.boostNs)
      done ((u.updPan n fun p => (p.boostSpent (u.windowNow n)).transient u.now).panEvent n 0x12 0) :=
  if_pos hb

theorem exec_overshootCrossing {v : Nat} (hp : s.isPan n = true) (hr : (s.pan n).st.runs = true) (he : (s.pan n).par.shuntEn = true)
    (ho : (s.pan n).overFired = false) (hv : codeOf ((s.pan n).target + (s.pan n).par.overshoot) < (v : Int)) :
    exec (.overshootCrossing n v) s = done (s.updPan n fun p => p.overIn.transient s.now) :=
  if_pos ⟨hp, hr, he, ho, hv⟩

theorem exec_shuntRecovery {v : Nat} (ho : (s.pan n).overFired = true)
    (hv : (v : Int) ≤ codeOf ((s.pan n).target + ((s.pan n).par.overshoot - 2 : Nat))) :
    exec (.shuntRecovery n v) s =
      done (s.updPan n fun p => p.shuntOut.transient s.now) :=
  if_pos ⟨ho, hv⟩

theorem exec_shuntConductionLimit (hs : (s.pan n).shn = true) :
    exec (.shuntConductionLimit n) s =
      done (s.updPan n fun p => p.shuntOut.transient s.now) :=
  if_pos hs

theorem exec_boostCountUsed (hp : s.isPan n = true) (hf : (s.pan n).par.boostMax ≤ (s.pan n).fired) :
    exec (.boostCountUsed n) s = done (s.panEvent n 0x12 1) :=
  if_pos ⟨hp, hf⟩

theorem exec_droopCrossing_of_disarmed {v : Nat} (ha : (s.pan n).armed = 0) : exec (.droopCrossing n v) s = done s :=
  if_neg fun ⟨_, _, harmed, _⟩ => harmed ha

theorem boostConductionLimit_does (hb : (s.pan n).bst = true) (ho : (s.pan n).overFired = false)
    (hnew : (s.pan n).sent.getLsbD 2 = false) :
    Does (.boostConductionLimit n) s [.now, .links, .pans] fun t =>
      let at' := max s.now ((s.pan n).bstAt + tickOf (s.pan n).par.boostNs)
      t.now = at' ∧
      PanBecomes s n { (s.pan n).boostSpent (windowOf (s.node n).epochAt at') with sent := (s.pan n).sent ||| 4 } t ∧
      t.links = ((s.reach at').sendEvent n 0x12 0).links := by
  have hexec := exec_boostConductionLimit hb
  rw [← State.reach_max] at hexec
  generalize hat : max s.now ((s.pan n).bstAt + tickOf (s.pan n).par.boostNs) = a at hexec ⊢
  have hnow : (s.reach a).now = a := by rw [State.reach_now, ← hat, Nat.max_eq_right (Nat.le_max_left _ _)]
  have hwindow : (s.reach a).windowNow n = windowOf (s.node n).epochAt a := by rw [State.windowNow, State.reach_node, hnow]
  dsimp only at hexec
  rw [hwindow, hnow] at hexec
  have hspent : ((s.pan n).boostSpent (windowOf (s.node n).epochAt a)).transient a =
      (s.pan n).boostSpent (windowOf (s.node n).epochAt a) := Pan.transient_of_released rfl ho
  have hpan := panBecomes_updPan (s.reach a) n fun p => (p.boostSpent (windowOf (s.node n).epochAt a)).transient a
  rw [State.reach_pan, hspent] at hpan
  refine Does.of_exec hexec ⟨?_, panBecomes_settle.2 (hpan.panEvent_new (k := 0x12) 0 hnew), ?_⟩ (List.Subset.refl _)
  · rw [settle_now, (only_panEvent _ n _ _).now, State.updPan_now, hnow]
  · rw [settle_links, (panEvent_new _ n 0x12 0 (by rw [hpan.1]; exact hnew)).2, sendEvent_updPan_links]
    rfl

/-- A pan on local sense (R99). -/
def Pan.toLocal (now : Nat) (p : Pan) : Pan :=
  { p with local_ := true, localAt := now, usedLocal := true, contact := { p.contact with wholeRun := false } }

theorem fallback_of_remote (h : (s.pan n).local_ = false) : s.fallback n = (s.updPan n (Pan.toLocal s.now)).panEvent n 0x13 1 :=
  if_neg (ne_true_of_eq_false h)

/-- A pan on remote sense falls back to local sense after a change, and reports it. -/
theorem updPan_fallback {f : Pan → Pan} (h : (f (s.pan n)).local_ = false) :
    PanBecomes s n { (f (s.pan n)).toLocal s.now with sent := (f (s.pan n)).sent ||| 8 } ((s.updPan n f).fallback n) ∧
    ((s.updPan n f).fallback n).links = (s.sendEvent n 0x13 1).links := by
  have hpan : PanBecomes s n ((f (s.pan n)).toLocal s.now) ((s.updPan n f).updPan n (Pan.toLocal s.now)) :=
    ⟨by rw [State.updPan_pan_same, State.updPan_pan_same],
      fun m hm => by rw [State.updPan_pan_other _ _ hm, State.updPan_pan_other _ _ hm]⟩
  rw [fallback_of_remote (by rw [State.updPan_pan_same, h]), State.updPan_now]
  refine ⟨hpan.panEvent_change (k := 0x13) 1 rfl, ?_⟩
  rw [(panEvent_change _ n 0x13 1 rfl).2, sendEvent_updPan_links, sendEvent_updPan_links]
  rfl

theorem Pan.endBoost_local_sent (now w : Nat) (p : Pan) : (p.endBoost now w).local_ = p.local_ ∧ (p.endBoost now w).sent = p.sent ∧
    (p.endBoost now w).contact = p.contact := by
  unfold Pan.endBoost
  split <;> exact ⟨rfl, rfl, rfl⟩

theorem comparatorConflict_does (hd : (s.pan n).droopFired = true) (ho : (s.pan n).overFired = true) (hl : (s.pan n).local_ = false) :
    Does (.comparatorConflict n) s [.links, .pans] fun t =>
      PanBecomes s n { (s.pan n).endBoost s.now (s.windowNow n) with
        shn := false, droopFired := false, overFired := false, local_ := true, localAt := s.now, usedLocal := true,
        contact := { (s.pan n).contact with wholeRun := false }, sent := (s.pan n).sent ||| 8 } t ∧
      t.links = (s.sendEvent n 0x13 1).links := by
  obtain ⟨hlocal, hsent, hcontact⟩ := (s.pan n).endBoost_local_sent s.now (s.windowNow n)
  obtain ⟨hpan, hlinks⟩ := updPan_fallback (f := Pan.releaseComparators s.now (s.windowNow n)) (hlocal.trans hl)
  refine Does.of_exec (exec_comparatorConflict hd ho) ⟨panBecomes_settle.2 ?_, (settle_links _).trans hlinks⟩ (List.Subset.refl _)
  rw [← hsent, ← hcontact]
  exact hpan

/-- Settles O20: the two comparators by what `Pan.transient` makes of them, each command by its equation. -/
theorem transientCircuitsFireAndRelease : Obligations.TransientCircuitsFireAndRelease := by
  intro s n p w
  refine ⟨?_, ?_, ?_, ?_, ?_, ?_, ?_, ?_, ?_, ?_, ?_⟩
  · intro v hp hr ha hd hb hs ho hv
    have hdoes := Does.of_updPan (exec_droopCrossing hp hr ha hd hv)
    rw [Pan.transient_of_droop (p := (s.pan n).droopIn) rfl hb hs ho] at hdoes
    exact hdoes
  · exact fun v ha => (Does.of_done_self n (exec_droopCrossing_of_disarmed ha)).imp fun _ _ => trivial
  · intro v ns hd hb ho hns hv
    have hdoes := Does.of_updPan (exec_boostRecovery hd hv (Or.inr hns))
    rw [Pan.transient_of_released (by rw [Pan.boostOut_of_bst hb]) ((Pan.boostOut_overFired ..).trans ho), Pan.boostOut_of_bst hb] at hdoes
    exact hdoes
  · intro v ns hd hb ho hv
    have hdoes := Does.of_updPan (exec_boostRecovery (ns := ns) hd hv (Or.inl hb))
    rw [Pan.transient_of_released (by rw [Pan.boostOut_of_not_bst hb]) ((Pan.boostOut_overFired ..).trans ho),
      Pan.boostOut_of_not_bst hb] at hdoes
    exact hdoes
  · exact fun hb ho hnew => boostConductionLimit_does hb ho hnew
  · exact fun hp hf hnew => Does.of_event (exec_boostCountUsed hp hf) hnew
  · intro v hp hr he ho hb hd hv
    have hdoes := Does.of_updPan (exec_overshootCrossing hp hr he ho hv)
    rw [Pan.transient_of_over (p := (s.pan n).overIn) (Or.inl hd) rfl] at hdoes
    have hshn : ((s.pan n).overIn.shn || !(s.pan n).overIn.bst) = true := by
      rw [show (s.pan n).overIn.bst = false from hb, Bool.not_false, Bool.or_true]
    rw [hshn] at hdoes
    exact hdoes
  · intro v hp hr he ho hb hv
    have hdoes := Does.of_updPan (exec_overshootCrossing hp hr he ho hv)
    rw [Pan.transient_of_over (p := (s.pan n).overIn) (Or.inr hb) rfl] at hdoes
    have hshn : ((s.pan n).overIn.shn || !(s.pan n).overIn.bst) = (s.pan n).shn := by
      rw [show (s.pan n).overIn.bst = true from hb, Bool.not_true, Bool.or_false]
      rfl
    rw [hshn] at hdoes
    exact hdoes
  · intro v ho hd hv
    have hdoes := Does.of_updPan (exec_shuntRecovery ho hv)
    rw [Pan.transient_of_released (p := (s.pan n).shuntOut) hd rfl] at hdoes
    exact hdoes
  · intro hs hd
    have hdoes := Does.of_updPan (exec_shuntConductionLimit hs)
    rw [Pan.transient_of_released (p := (s.pan n).shuntOut) hd rfl] at hdoes
    exact hdoes
  · exact fun hd ho hl => comparatorConflict_does hd ho hl

/-! ### Sense, faults and the timed steps of the states (R97 to R99, R105) -/

theorem exec_senseFallback_of_near {rs vlo : Nat} (hp : s.isPan n = true) (h : max rs vlo - min rs vlo ≤ 1600) :
    exec (.senseFallback n rs vlo) s = done (s.updPan n fun p => { p with grid := rs, vlo := vlo }) :=
  (if_pos hp).trans (if_neg (Nat.not_lt.2 h))

theorem exec_senseFallback_of_apart {rs vlo : Nat} (hp : s.isPan n = true) (h : 1600 < max rs vlo - min rs vlo) :
    exec (.senseFallback n rs vlo) s = done ((s.updPan n fun p => { p with grid := rs, vlo := vlo }).fallback n) :=
  (if_pos hp).trans (if_pos h)

theorem exec_senseReturn (h : (s.pan n).local_ = true) :
    exec (.senseReturn n) s =
      done (((s.reach ((s.pan n).localAt + 4096 * cksT)).updPan n fun p => { p with local_ := false }).panEvent n 0x13 0) :=
  if_pos h

theorem exec_panStageFaultClear (hp : s.isPan n = true) (h : (s.pan n).fltN = false) :
    exec (.panStageFaultClear n) s = done ((s.updPan n fun p => { p with fltN := true }).panEvent n 0x15 0) :=
  if_pos ⟨hp, h⟩

/-- A command that ends in a pan's change and a report of every change of its kind. -/
theorem Does.of_updPan_change {k : Nat} {d : Word} {f : Pan → Pan} (h : exec c s = done ((s.updPan n f).panEvent n k d))
    (hk : (decide (k = 0x13) || decide (k = 0x15) || decide (k = 0x17)) = true) :
    Does c s [.links, .pans] fun t =>
      PanBecomes s n { f (s.pan n) with sent := (f (s.pan n)).sent ||| (1 : BitVec 8) <<< (k - 16) } t ∧
      t.links = (s.sendEvent n (BitVec.ofNat 8 k) d).links := by
  refine Does.of_done h ⟨panBecomes_settle.2 ((panBecomes_updPan s n f).panEvent_change d hk), ?_⟩
    (((only_updPan s n f).mono (by simp)).then (only_panEvent _ n k d) (by simp))
  rw [settle_links, (panEvent_change _ n k d hk).2, sendEvent_updPan_links]

/-- The same after a wait for a time. -/
theorem Does.of_reach_updPan_change {k a : Nat} {d : Word} {f : Pan → Pan} {ps : List Part}
    (h : exec c s = done (((s.reach a).updPan n f).panEvent n k d))
    (hk : (decide (k = 0x13) || decide (k = 0x15) || decide (k = 0x17)) = true) (hps : partsOf c ⊆ ps) :
    Does c s ps fun t =>
      (PanBecomes s n { f (s.pan n) with sent := (f (s.pan n)).sent ||| (1 : BitVec 8) <<< (k - 16) } t ∧
        t.links = ((s.reach a).sendEvent n (BitVec.ofNat 8 k) d).links) ∧ t.now = max s.now a := by
  have hpan := (panBecomes_updPan (s.reach a) n f).panEvent_change d hk
  refine Does.of_exec h ⟨⟨panBecomes_settle.2 hpan, ?_⟩, ?_⟩ hps
  · rw [settle_links, (panEvent_change _ n k d hk).2, sendEvent_updPan_links]
  · rw [settle_now, (only_panEvent _ n k d).now, State.updPan_now, State.reach_now]

/-- A pan that faults, before its states follow (R97, R105). -/
def Pan.toFaulted (now w : Nat) (p : Pan) : Pan :=
  ({ p.gatesLow now w with en := true, rampOut := false, starting := false, preset := false } : Pan).to .faulted

theorem exec_panStageFault (hp : s.isPan n = true) (hf : (s.pan n).fltN = true) (hst : (s.pan n).st = .off ∨ (s.pan n).st.runs = true) :
    exec (.panStageFault n) s =
      done (((s.updPan n fun p => { p with fltN := false }).updPan n (Pan.toFaulted s.now (s.windowNow n))).panEvent n 0x15 1) := by
  have hpan : (s.updPan n fun p => { p with fltN := false }).pan n = { s.pan n with fltN := false } := State.updPan_pan_same ..
  refine (if_pos ⟨hp, hf⟩).trans ?_
  dsimp only
  rw [if_pos (by rw [hpan]; exact hst)]
  rfl

/-- What a fault leaves of a pan: every gate off, the stage enabled, the boost's charge counted. -/
theorem Pan.toFaulted_fields (now w : Nat) (p : Pan) :
    let q := p.toFaulted now w
    q.st = .faulted ∧ q.fltN = p.fltN ∧ q.en = true ∧ q.hga = false ∧ q.lga = false ∧ q.hgb = false ∧ q.lgb = false ∧
    q.bst = false ∧ q.shn = false ∧ q.par = p.par ∧ q.charge = (p.endBoost now w).charge := by
  have hfltN : (p.endBoost now w).fltN = p.fltN := by
    unfold Pan.endBoost
    split <;> rfl
  exact ⟨rfl, hfltN, rfl, rfl, rfl, rfl, rfl, Pan.endBoost_bst now w p, rfl, Pan.endBoost_par now w p, rfl⟩

theorem panStageFault_does (hp : s.isPan n = true) (hf : (s.pan n).fltN = true) (hst : (s.pan n).st = .off ∨ (s.pan n).st.runs = true) :
    Does (.panStageFault n) s [.links, .pans] fun t =>
      let q := t.pan n
      q.st = .faulted ∧ q.fltN = false ∧ q.en = true ∧ q.hga = false ∧ q.lga = false ∧ q.hgb = false ∧ q.lgb = false ∧
      q.bst = false ∧ q.shn = false ∧ q.par = (s.pan n).par ∧ q.charge = ((s.pan n).endBoost s.now (s.windowNow n)).charge ∧
      (∀ m, m ≠ n → t.pan m = s.pan m) ∧ t.links = (s.sendEvent n 0x15 1).links := by
  have hcharge : (({ s.pan n with fltN := false } : Pan).endBoost s.now (s.windowNow n)).charge =
      ((s.pan n).endBoost s.now (s.windowNow n)).charge := by
    unfold Pan.endBoost
    split <;> rfl
  have hpan : PanBecomes s n (Pan.toFaulted s.now (s.windowNow n) { s.pan n with fltN := false })
      ((s.updPan n fun p => { p with fltN := false }).updPan n (Pan.toFaulted s.now (s.windowNow n))) :=
    ⟨by rw [State.updPan_pan_same, State.updPan_pan_same],
      fun m hm => by rw [State.updPan_pan_other _ _ hm, State.updPan_pan_other _ _ hm]⟩
  obtain ⟨hst', hflt, hen, hhga, hlga, hhgb, hlgb, hbst, hshn, hpar, hch⟩ :=
    Pan.toFaulted_fields s.now (s.windowNow n) { s.pan n with fltN := false }
  obtain ⟨hsame, hother⟩ := hpan.panEvent_change (k := 0x15) 1 rfl
  refine Does.of_exec (exec_panStageFault hp hf hst) ?_ (List.Subset.refl _)
  simp only [settle_pan, settle_links]
  rw [hsame]
  refine ⟨hst', hflt, hen, hhga, hlga, hhgb, hlgb, hbst, hshn, hpar, hch.trans hcharge, hother, ?_⟩
  rw [(panEvent_change _ n 0x15 1 rfl).2, sendEvent_updPan_links, sendEvent_updPan_links]
  rfl

/-- A command that waits for a time and then changes one pan. -/
theorem Does.of_reach_updPan {a : Nat} {f : Pan → Pan} {ps : List Part} (h : exec c s = done ((s.reach a).updPan n f)) (hps : partsOf c ⊆ ps) :
    Does c s ps fun t => t.now = max s.now a ∧ PanBecomes s n (f (s.pan n)) t := by
  refine Does.of_exec h ⟨?_, panBecomes_settle.2 (panBecomes_updPan (s.reach a) n f)⟩ hps
  rw [settle_now, State.updPan_now, State.reach_now]

/-- A pan that leaves PREBIAS (R105). -/
def Pan.toShadow (now : Nat) (p : Pan) : Pan :=
  ({ p with frac := 0, rampAt := now, setAt := now, sense := { p.sense with runAt := now } } : Pan).to .shadow

theorem exec_prebiasComplete (hst : (s.pan n).st = .prebias) (hr : (s.pan n).rampOut = false) :
    exec (.prebiasComplete n) s =
      let u := s.reach ((s.pan n).prebiasAt + 1200 * cksT)
      done (u.updPan n (Pan.toShadow u.now)) :=
  if_pos ⟨hst, hr⟩

/-- A step of the ramp in (R105). -/
def Pan.rampStep (now f : Nat) (p : Pan) : Pan :=
  let p := { p with frac := f, rampAt := now }
  if f = 64 then p.to .run else p

theorem exec_shadowRampStep (hst : (s.pan n).st = .shadow) (hr : (s.pan n).rampOut = false) :
    exec (.shadowRampStep n) s =
      let u := s.reach ((s.pan n).rampAt + 4 * usT)
      done (u.updPan n (Pan.rampStep u.now (min 64 ((s.pan n).frac + 1)))) :=
  if_pos ⟨hst, hr⟩

theorem exec_rampOutComplete (hr : (s.pan n).rampOut = true) :
    exec (.rampOutComplete n) s =
      let u := s.reach ((s.pan n).rampAt + 16 * usT)
      done (u.updPan n fun p => p.enterOff u.now (u.windowNow n)) :=
  if_pos hr

/-- What OFF leaves of a pan. -/
theorem Pan.enterOff_fields (now w : Nat) (p : Pan) :
    let q := p.enterOff now w
    q.st = .off ∧ q.en = false ∧ q.rampOut = false ∧ q.frac = 0 ∧ q.hga = false ∧ q.lga = false ∧ q.hgb = false ∧ q.lgb = false ∧
    q.par = p.par :=
  ⟨rfl, rfl, rfl, rfl, rfl, rfl, rfl, rfl, Pan.endBoost_par now w p⟩

/-! ### The loop watchdog (R34, R105) -/

/-- A pan about to hold: its boost has ended, its droop comparator is released. -/
def Pan.holding (now w : Nat) (p : Pan) : Pan :=
  { p.endBoost now w with before := p.st, offAt := if p.instOff = p.offTarget then now else p.offAt, droopFired := false }

/-- A pan that enters HOLD (R105). -/
def Pan.toHold (now w : Nat) (p : Pan) : Pan := ((p.holding now w).transient now).to .hold

theorem enterHold_of_running (h : (s.pan n).st = .run ∨ (s.pan n).st = .shadow) :
    s.enterHold n = (s.updPan n fun _ => (s.pan n).toHold s.now (s.windowNow n)).panEvent n 0x17 1 :=
  if_pos h

theorem exec_panLoopWatchdogExpiry (hw : (s.pan n).par.loopWd = true) (h : (s.pan n).st = .run ∨ (s.pan n).st = .shadow) :
    exec (.panLoopWatchdogExpiry n) s = done ((s.reach ((s.pan n).lastWrite + 6000 * cksT)).enterHold n) :=
  if_pos ⟨hw, h⟩

/-- What HOLD leaves of a pan whose overshoot comparator is not fired: the boost ends, the ramp fraction is held. -/
theorem Pan.toHold_fields {now w : Nat} (ho : p.overFired = false) :
    let q := p.toHold now w
    q.st = .hold ∧ q.before = p.st ∧ q.bst = false ∧ q.frac = p.frac ∧ q.shn = p.shn ∧ q.par = p.par := by
  have hkept : (p.endBoost now w).overFired = p.overFired ∧ (p.endBoost now w).frac = p.frac ∧ (p.endBoost now w).shn = p.shn := by
    unfold Pan.endBoost
    split <;> exact ⟨rfl, rfl, rfl⟩
  obtain ⟨hover, hfrac, hshn⟩ := hkept
  have hbst := Pan.endBoost_bst now w p
  have hpar := Pan.endBoost_par now w p
  unfold Pan.toHold
  rw [Pan.transient_of_released (p := p.holding now w) rfl (hover.trans ho)]
  exact ⟨rfl, rfl, hbst, hfrac, hshn, hpar⟩

theorem panLoopWatchdogExpiry_does (hw : (s.pan n).par.loopWd = true) (h : (s.pan n).st = .run ∨ (s.pan n).st = .shadow)
    (ho : (s.pan n).overFired = false) :
    Does (.panLoopWatchdogExpiry n) s [.now, .links, .pans] fun t =>
      let q := t.pan n
      t.now = max s.now ((s.pan n).lastWrite + 6000 * cksT) ∧ q.st = .hold ∧ q.before = (s.pan n).st ∧ q.bst = false ∧
      q.frac = (s.pan n).frac ∧ q.shn = (s.pan n).shn ∧ q.par = (s.pan n).par ∧ (∀ m, m ≠ n → t.pan m = s.pan m) ∧
      t.links = ((s.reach ((s.pan n).lastWrite + 6000 * cksT)).sendEvent n 0x17 1).links := by
  have hexec := exec_panLoopWatchdogExpiry hw h
  rw [enterHold_of_running (s := s.reach ((s.pan n).lastWrite + 6000 * cksT)) h] at hexec
  refine (Does.of_reach_updPan_change hexec rfl (List.Subset.refl _)).imp ?_
  rintro t ⟨⟨⟨hpan, hother⟩, hlinks⟩, hnow⟩
  obtain ⟨hst, hbefore, hbst, hfrac, hshn, hpar⟩ := Pan.toHold_fields (p := (s.pan n))
    (now := (s.reach ((s.pan n).lastWrite + 6000 * cksT)).now) (w := (s.reach ((s.pan n).lastWrite + 6000 * cksT)).windowNow n) ho
  rw [State.reach_pan] at hpan
  dsimp only
  rw [hpan]
  exact ⟨hnow, hst, hbefore, hbst, hfrac, hshn, hpar, hother, hlinks⟩

theorem exec_stageFaultEvent {k : Nat} (hn : n ≠ 0) (hc : k ∈ s.children n) (hp : s.isPan k = true)
    (hin : (s.dir (s.upLink k) .up).holds (eventPkt (s.node k).id 0x15 1) = true) :
    exec (.stageFaultEvent n k) s =
      done (((s.takeUp k (eventPkt (s.node k).id 0x15 1)).sendUp n (eventPkt (s.node k).id 0x15 1)).setCarry n k) := by
  refine if_neg ?_
  rintro (h0 | hnot | hpan | hempty)
  · exact hn h0
  · simp [hc] at hnot
  · exact Bool.noConfusion (hp.symm.trans hpan)
  · exact Bool.noConfusion (hin.symm.trans hempty)

/-- Settles O22: each passage of a pan by the equation of its command. -/
theorem pansPassThroughTheirStates : Obligations.PansPassThroughTheirStates := by
  intro s n p
  refine ⟨?_, ?_, ?_, ?_, ?_, ?_, ?_, ?_, ?_, ?_, ?_⟩
  · intro rs vlo hp hnear
    exact Does.of_done (exec_senseFallback_of_near hp hnear) ⟨panBecomes_settle.2 (panBecomes_updPan s n _), settle_links _⟩
      ((only_updPan s n _).mono (by simp))
  · intro rs vlo hp hapart hl
    obtain ⟨hpan, hlinks⟩ := updPan_fallback (f := fun p => { p with grid := rs, vlo := vlo }) hl
    exact Does.of_exec (exec_senseFallback_of_apart hp hapart) ⟨panBecomes_settle.2 hpan, (settle_links _).trans hlinks⟩ (List.Subset.refl _)
  · exact fun hl => Does.of_reach_updPan_change (exec_senseReturn hl) rfl (List.Subset.refl _)
  · exact fun hp hf hst => panStageFault_does hp hf hst
  · exact fun hp hf => Does.of_updPan_change (exec_panStageFaultClear hp hf) rfl
  · intro hst hr
    refine (Does.of_reach_updPan (exec_prebiasComplete hst hr) (List.Subset.refl _)).imp ?_
    rintro t ⟨hnow, hpan, hother⟩
    rw [hpan]
    exact ⟨hnow, rfl, rfl, hnow.symm, rfl, hother⟩
  · intro hst hr hf
    have hfrac : (s.pan n).frac < 63 := hf
    refine (Does.of_reach_updPan (exec_shadowRampStep hst hr) (List.Subset.refl _)).imp ?_
    rintro t ⟨hnow, hpan⟩
    have hstep : min 64 ((s.pan n).frac + 1) = (s.pan n).frac + 1 := by omega
    rw [hstep, Pan.rampStep, if_neg (by omega)] at hpan
    rw [hnow]
    exact ⟨rfl, hpan⟩
  · intro hst hr hf
    have hfrac : (s.pan n).frac = 63 := hf
    refine (Does.of_reach_updPan (exec_shadowRampStep hst hr) (List.Subset.refl _)).imp ?_
    rintro t ⟨hnow, hpan, hother⟩
    have hstep : min 64 ((s.pan n).frac + 1) = 64 := by omega
    rw [hstep, Pan.rampStep, if_pos rfl] at hpan
    rw [hpan]
    exact ⟨hnow, rfl, rfl, rfl, hother⟩
  · intro hr
    refine (Does.of_reach_updPan (exec_rampOutComplete hr) (List.Subset.refl _)).imp ?_
    rintro t ⟨hnow, hpan, hother⟩
    obtain ⟨hst, hen, hout, hfrac, hhga, hlga, hhgb, hlgb, hpar⟩ := Pan.enterOff_fields
      (s.reach ((s.pan n).rampAt + 16 * usT)).now ((s.reach ((s.pan n).rampAt + 16 * usT)).windowNow n) (s.pan n)
    dsimp only
    rw [hpan]
    exact ⟨hnow, hst, hen, hout, hfrac, hhga, hlga, hhgb, hlgb, hpar, hother⟩
  · exact fun hw h ho => panLoopWatchdogExpiry_does hw h ho
  · intro k hn hc hp hin
    refine Does.of_exec (exec_stageFaultEvent hn hc hp hin) ?_ (List.Subset.refl _)
    rw [settle_links]

end Sys2Proof.Machine
end

section
/-! SUPPORT. The modulators of a pan (R83 to R87), the slews of pans and rails (R82, R115, R254), the models of set-points (R255),
and the proof of the obligation about them. -/

namespace Sys2Proof.Machine

-- The joined text is checked under a memory limit that counts every thread's stack: one proof at a time.
set_option Elab.async false

variable {s u : State} {n : Nat} {p : Pan}

/-! ### Bounds of rationals -/

theorem rat_le_max_left (a b : Rat) : a ≤ max a b := by
  have hmax : max a b = if a ≤ b then b else a := rfl
  rw [hmax]
  split
  · assumption
  · exact Rat.le_refl

theorem rat_max_le {a b k : Rat} (ha : a ≤ k) (hb : b ≤ k) : max a b ≤ k := by
  have hmax : max a b = if a ≤ b then b else a := rfl
  rw [hmax]
  split
  · exact hb
  · exact ha

theorem rat_min_le_left (a b : Rat) : min a b ≤ a := by
  have hmin : min a b = if a ≤ b then a else b := rfl
  rw [hmin]
  split
  · exact Rat.le_refl
  · next h => exact Rat.le_of_lt (Rat.not_le.1 h)

theorem rat_min_le_right (a b : Rat) : min a b ≤ b := by
  have hmin : min a b = if a ≤ b then a else b := rfl
  rw [hmin]
  split
  · assumption
  · exact Rat.le_refl

/-! ### Modulators -/

/-- The edges of an on-time: the phase named conducts, the other does not, and the next turn is the other's. -/
theorem Pan.onTime_fields (b : Bool) (at_ ton : Rat) (io : Int) (p : Pan) :
    let q := p.onTime b at_ ton io
    q.ton = ton ∧ q.nextB = (!b) ∧ q.hga = (!b) ∧ q.hgb = b ∧ (b = false → q.lga = false) ∧ (b = true → q.lgb = false) := by
  cases b <;> exact ⟨rfl, rfl, rfl, rfl, by simp [Pan.onTime], by simp [Pan.onTime]⟩

/-- The comparator's threshold with its ramp's mean removed (R83, R85). -/
theorem Pan.fires_of_lt {now v ramp : Nat}
    (h : (v : Int) + 16 * rippleMv p.par.ripple * (ramp % 256 : Nat) / 256 < 16 * p.target + 4 * p.trimNow now + 8 * rippleMv p.par.ripple) :
    p.fires now v ramp = true := by
  unfold Pan.fires Pan.regPoint
  have hhalf : (16 * (rippleMv p.par.ripple : Int)) / 2 = 8 * rippleMv p.par.ripple := by omega
  simpa only [decide_eq_true_eq, hhalf] using h

theorem Pan.cotTon_of_vibs {b : Bool} {vibs : Nat} (h : vibs ≠ 0) :
    p.cotTon b vibs =
      max ((16 * p.target : Int) / (vibs : Rat) * 1000 / (p.par.freq : Rat) * p.klock * (1 + (p.trimOf b : Rat) / 400)) (2 / 5) := by
  unfold Pan.cotTon
  rw [if_neg h]

theorem exec_cotComparatorFire {vibs v ramp : Nat} {io : Int} (hp : s.isPan n = true) (hpriv : s.privPan n = false)
    (hr : (s.pan n).st.runs = true) (ho : (s.pan n).overFired = false) (hf : (s.pan n).fires s.now v ramp = true) :
    exec (.cotComparatorFire n vibs v ramp io) s =
      done ((s.reach (tickOf ((s.pan n).onFrom (s.pan n).nextB s.now))).updPan n fun q =>
        { q.onTime (s.pan n).nextB ((s.pan n).onFrom (s.pan n).nextB s.now) ((s.pan n).cotTon (s.pan n).nextB vibs) io with vibs := vibs }) :=
  if_pos ⟨hp, hpriv, hr, ho, hf⟩

theorem cotComparatorFire_does {vibs v ramp : Nat} {io : Int} (hp : s.isPan n = true) (hpriv : s.privPan n = false)
    (hr : (s.pan n).st.runs = true) (ho : (s.pan n).overFired = false) (hf : (s.pan n).fires s.now v ramp = true) :
    Does (.cotComparatorFire n vibs v ramp io) s [.now, .pans] fun t =>
      let p := s.pan n
      let a := p.onFrom p.nextB s.now
      let ton := p.cotTon p.nextB vibs
      t.now = max s.now (tickOf a) ∧ PanBecomes s n { p.onTime p.nextB a ton io with vibs := vibs } t ∧ (t.pan n).ton = ton ∧
      (t.pan n).nextB = (!p.nextB) ∧ (t.pan n).hga = (!p.nextB) ∧ (t.pan n).hgb = p.nextB ∧
      (p.nextB = false → (t.pan n).lga = false) ∧ (p.nextB = true → (t.pan n).lgb = false) := by
  refine (Does.of_reach_updPan (exec_cotComparatorFire hp hpriv hr ho hf) (List.Subset.refl _)).imp ?_
  rintro t ⟨hnow, hpan⟩
  refine ⟨hnow, hpan, ?_⟩
  rw [hpan.1]
  exact Pan.onTime_fields ..

/-- The period of a privileged pan (R87). -/
def Pan.vmPeriod (b : Bool) (now vc vibs : Nat) (q : Pan) : Pan :=
  let t := q.vmTon b vc vibs now
  { (if q.overFired then { q with nextB := !b, ton := t } else q.onTime b (nsOf now) t 1) with vibs := vibs, vmAt := now }

theorem Pan.vmPeriod_of_not_overFired {b : Bool} {now vc vibs : Nat} (ho : p.overFired = false) :
    p.vmPeriod b now vc vibs = { p.onTime b (nsOf now) (p.vmTon b vc vibs now) 1 with vibs := vibs, vmAt := now } := by
  unfold Pan.vmPeriod
  dsimp only
  rw [if_neg (ne_true_of_eq_false ho)]

theorem Pan.vmTon_bounds (b : Bool) (vc vibs now : Nat) (p : Pan) :
    2 / 5 ≤ p.vmTon b vc vibs now ∧ p.vmTon b vc vibs now ≤ 20 / 3 - 3 / 5 :=
  ⟨rat_le_max_left _ _, rat_max_le (by decide +kernel) (rat_min_le_left _ _)⟩

theorem exec_voltageModePeriod {x : Phase2} {vibs : Nat} (hp : s.isPan n = true) (hpriv : s.privPan n = true)
    (hr : (s.pan n).st.runs = true) (hx : (s.pan n).nextB = decide (x = .b)) :
    exec (.voltageModePeriod n x vibs) s =
      let u := s.reach ((s.pan n).vmAt + 8)
      done ((u.updPan n (Pan.vmPeriod (decide (x = .b)) u.now
        (Config.compensator u.free (crossoverMHz (s.pan n).par.vmcomp)).toNat vibs)).draw) :=
  if_pos ⟨hp, hpriv, hr, hx⟩

theorem panBecomes_draw {q : Pan} (h : PanBecomes s n q u) : PanBecomes s n q u.draw := h

theorem voltageModePeriod_does {x : Phase2} {vibs : Nat} (hp : s.isPan n = true) (hpriv : s.privPan n = true)
    (hr : (s.pan n).st.runs = true) (hx : (s.pan n).nextB = decide (x = .b)) (ho : (s.pan n).overFired = false) :
    Does (.voltageModePeriod n x vibs) s [.now, .free, .pans] fun t =>
      t.now = max s.now ((s.pan n).vmAt + 8) ∧
      PanBecomes s n { (s.pan n).onTime (s.pan n).nextB (nsOf t.now) (t.pan n).ton 1 with vibs := vibs, vmAt := t.now } t ∧
      2 / 5 ≤ (t.pan n).ton ∧ (t.pan n).ton ≤ 20 / 3 - 3 / 5 ∧ t.free = s.free + 1 := by
  have hexec := exec_voltageModePeriod (vibs := vibs) hp hpriv hr hx
  rw [← hx] at hexec
  dsimp only at hexec
  generalize (Config.compensator (s.reach ((s.pan n).vmAt + 8)).free (crossoverMHz (s.pan n).par.vmcomp)).toNat = vc at hexec
  have hpan := panBecomes_updPan (s.reach ((s.pan n).vmAt + 8)) n
    (Pan.vmPeriod (s.pan n).nextB (s.reach ((s.pan n).vmAt + 8)).now vc vibs)
  rw [State.reach_pan, Pan.vmPeriod_of_not_overFired ho] at hpan
  obtain ⟨hlo, hhi⟩ := (s.pan n).vmTon_bounds (s.pan n).nextB vc vibs (s.reach ((s.pan n).vmAt + 8)).now
  have hton := ((s.pan n).onTime_fields (s.pan n).nextB (nsOf (s.reach ((s.pan n).vmAt + 8)).now)
    ((s.pan n).vmTon (s.pan n).nextB vc vibs (s.reach ((s.pan n).vmAt + 8)).now) 1).1
  refine Does.of_exec hexec ?_ (List.Subset.refl _)
  simp only [settle_now, settle_pan, settle_free, panBecomes_settle]
  rw [(only_draw _).now, (only_draw _).pan n, State.updPan_now, hpan.1]
  dsimp only
  rw [hton]
  exact ⟨State.reach_now .., panBecomes_draw hpan, hlo, hhi, rfl⟩

theorem exec_frequencyLockUpdate (hp : s.isPan n = true) (hpriv : s.privPan n = false) (hr : (s.pan n).st.runs = true)
    (hde : (s.pan n).de = false) (hat : (s.pan n).lockAt + 64 ≤ (s.pan n).periods) :
    exec (.frequencyLockUpdate n) s =
      done (s.updPan n fun p => { p with klock := max (3 / 4) (min (Config.klock s.free) (5 / 4)), lockAt := p.periods }).draw :=
  if_pos ⟨hp, hpriv, hr, hde, hat⟩

theorem frequencyLockUpdate_does (hp : s.isPan n = true) (hpriv : s.privPan n = false) (hr : (s.pan n).st.runs = true)
    (hde : (s.pan n).de = false) (hat : (s.pan n).lockAt + 64 ≤ (s.pan n).periods) :
    Does (.frequencyLockUpdate n) s [.free, .pans] fun t =>
      PanBecomes s n { s.pan n with klock := (t.pan n).klock, lockAt := (s.pan n).periods } t ∧ 3 / 4 ≤ (t.pan n).klock ∧
      (t.pan n).klock ≤ 5 / 4 ∧ t.free = s.free + 1 := by
  have hpan := panBecomes_updPan s n fun p => { p with klock := max (3 / 4) (min (Config.klock s.free) (5 / 4)), lockAt := p.periods }
  refine Does.of_exec (exec_frequencyLockUpdate hp hpriv hr hde hat) ?_ (List.Subset.refl _)
  simp only [settle_pan, settle_free, panBecomes_settle]
  rw [(only_draw _).pan n, hpan.1]
  exact ⟨panBecomes_draw hpan, rat_le_max_left _ _, rat_max_le (by decide +kernel) (rat_min_le_right _ _), rfl⟩

/-! ### Slews -/

theorem stepTo_of_lt {x y : Int} (h : x < y) : stepTo x y = x + 1 := if_pos h

theorem stepTo_of_gt {x y : Int} (h : y < x) : stepTo x y = x - 1 := (if_neg (by omega)).trans (if_pos h)

theorem stepTo_of_ne {x y : Int} (h : x ≠ y) : stepTo x y = if x < y then x + 1 else x - 1 := by
  unfold stepTo
  split
  · rfl
  · exact if_pos (by omega)

/-- A pan's set-point after one step; the ramp and the preset end with it (R82, R105). -/
def Pan.stepSet (now : Nat) (p : Pan) : Pan := { p with instSet := stepTo p.instSet p.par.setpt, setAt := now }

/-- The marks of a start and of a preset as a step leaves them (R105). -/
def Pan.stepMarks (p : Pan) : Pan :=
  { p with
    starting := p.starting && decide (p.instSet ≠ p.par.setpt), preset := p.preset && decide (p.instSet ≠ p.par.setpt) && !p.inWindow }

theorem exec_slewStep_panSet (hst : (s.pan n).st ≠ .prebias) (h : (s.pan n).instSet ≠ (s.pan n).par.setpt) :
    exec (.slewStep (.panSet n)) s =
      let u := s.reach ((s.pan n).setAt + slewT (s.pan n).par.slew)
      done (((u.updPan n (Pan.stepSet u.now)).updPan n Pan.stepMarks).noteClamp n) :=
  (if_neg hst).trans (congrArg done (if_neg h))

theorem exec_slewStep_panOff (h : (s.pan n).instOff ≠ (s.pan n).offTarget) :
    exec (.slewStep (.panOff n)) s =
      let u := s.reach ((s.pan n).offAt + slewT (s.pan n).par.offslew)
      done ((u.updPan n fun p => { p with instOff := stepTo p.instOff p.offTarget, offAt := u.now }).noteClamp n) :=
  congrArg done (if_neg h)

theorem slewStep_panSet_does (hst : (s.pan n).st ≠ .prebias) (h : (s.pan n).instSet ≠ (s.pan n).par.setpt) :
    Does (.slewStep (.panSet n)) s [.now, .links, .pans] fun t =>
      t.now = max s.now ((s.pan n).setAt + slewT (s.pan n).par.slew) ∧ (t.pan n).setAt = t.now ∧
      (t.pan n).instSet = stepTo (s.pan n).instSet (s.pan n).par.setpt ∧ ∀ m, m ≠ n → t.pan m = s.pan m := by
  have hexec := exec_slewStep_panSet hst h
  dsimp only at hexec
  refine Does.of_done hexec ?_ ((((only_reach s _).mono (by simp)).then (only_updPan _ n _) (by simp)).then (only_updPan _ n _) (by simp) |>.then
    (only_noteClamp _ n) (by simp))
  simp only [settle_now, settle_pan]
  have hnow : ∀ w : State, (w.noteClamp n).now = w.now := fun w => (only_noteClamp w n).now
  rw [noteClamp_pan_same, hnow, State.updPan_pan_same, State.updPan_pan_same, State.updPan_now, State.updPan_now, State.reach_pan]
  refine ⟨State.reach_now .., rfl, rfl, fun m hm => ?_⟩
  rw [noteClamp_pan_other _ _ hm, State.updPan_pan_other _ _ hm, State.updPan_pan_other _ _ hm, State.reach_pan]

theorem slewStep_panOff_does (h : (s.pan n).instOff ≠ (s.pan n).offTarget) :
    Does (.slewStep (.panOff n)) s [.now, .links, .pans] fun t =>
      t.now = max s.now ((s.pan n).offAt + slewT (s.pan n).par.offslew) ∧ (t.pan n).offAt = t.now ∧
      (t.pan n).instOff = stepTo (s.pan n).instOff (s.pan n).offTarget ∧ ∀ m, m ≠ n → t.pan m = s.pan m := by
  have hexec := exec_slewStep_panOff h
  dsimp only at hexec
  refine Does.of_done hexec ?_ (((only_reach s _).mono (by simp)).then (only_updPan _ n _) (by simp) |>.then (only_noteClamp _ n) (by simp))
  simp only [settle_now, settle_pan]
  have hnow : ∀ w : State, (w.noteClamp n).now = w.now := fun w => (only_noteClamp w n).now
  rw [noteClamp_pan_same, hnow, State.updPan_pan_same, State.updPan_now, State.reach_pan]
  refine ⟨State.reach_now .., rfl, rfl, fun m hm => ?_⟩
  rw [noteClamp_pan_other _ _ hm, State.updPan_pan_other _ _ hm, State.reach_pan]

theorem exec_slewStep_railSet {x : Rail} (h : (s.rail x).inst ≠ s.railSet x) :
    exec (.slewStep (.railSet x)) s =
      let u := s.reach ((s.rail x).setAt + slewT (s.railSlew x))
      done (u.updRail x fun q => { q with inst := stepTo q.inst (u.railSet x), setAt := u.now }) :=
  congrArg done (if_neg h)

theorem exec_slewStep_railOff {x : Rail} (h : (s.rail x).off ≠ (s.rail x).offReq) :
    exec (.slewStep (.railOff x)) s =
      let u := s.reach ((s.rail x).offAt + slewT (s.railSlew x))
      done (u.updRail x fun q => { q with off := stepTo q.off q.offReq, offAt := u.now }) :=
  congrArg done (if_neg h)

theorem railBecomes_updRail (s : State) (x : Rail) (f : RailDyn → RailDyn) : RailBecomes s x (f (s.rail x)) (s.updRail x f) :=
  ⟨State.updRail_rail_same .., fun _ h => State.updRail_rail_other _ _ h⟩

theorem railBecomes_settle {x : Rail} {q : RailDyn} : RailBecomes s x q (settle u) ↔ RailBecomes s x q u := by
  simp only [RailBecomes, settle_rail]

/-- A command that waits for a time and then changes one rail. -/
theorem Does.of_reach_updRail {c : Instr} {a : Nat} {x : Rail} {f : RailDyn → RailDyn} (h : exec c s = done ((s.reach a).updRail x f)) :
    Does c s [.now, .conv] fun t => t.now = max s.now a ∧ RailBecomes s x (f (s.rail x)) t := by
  refine Does.of_done h ⟨?_, railBecomes_settle.2 ?_⟩ (((only_reach s a).mono (by simp)).then (only_updRail _ x f) (by simp))
  · rw [settle_now, State.updRail_now, State.reach_now]
  · obtain ⟨hsame, hother⟩ := railBecomes_updRail (s.reach a) x f
    rw [State.reach_rail] at hsame
    exact ⟨hsame, fun y hy => (hother y hy).trans (State.reach_rail ..)⟩

theorem State.reach_railSet (s : State) (a : Nat) (x : Rail) : (s.reach a).railSet x = s.railSet x := by
  cases x <;> rfl

/-! ### Models of set-points -/

theorem updRec_regs (s : State) (k : Option Nat) (f : CRec → CRec) : (s.updRec k f).regs = s.regs := by
  unfold State.updRec
  split
  · rfl
  · dsimp only
    split <;> rfl

theorem modelReached_regs (s : State) (k : ModelRef) : (s.modelReached k).regs = s.regs := by
  have records : ∀ (l : List VCmd) (t : State), (l.foldl (fun s c => s.updRec c.ticket fun r => { r with status := .done }) t).regs = t.regs := by
    intro l
    induction l with
    | nil => exact fun _ => rfl
    | cons c l ih => exact fun t => (ih _).trans (updRec_regs ..)
  unfold State.modelReached
  exact records _ s

/-- A command that waited for a model no longer waits for it once it stands at its set-point. -/
theorem modelReached_vcmds (s : State) (k : ModelRef) : ∀ c ∈ (s.modelReached k).stg.vcmds, k ∉ c.targets := by
  intro c hc
  obtain ⟨d, -, rfl⟩ := List.mem_map.1 hc
  simp

theorem exec_setPointModelStep_region {r : Nat} (hr : s.hasReg r = true) (h : (s.reg r).model ≠ (s.com.reg r).setpt) :
    exec (.setPointModelStep (.region r)) s =
      let u := s.reach ((s.reg r).modelAt + slewT (min (s.com.reg r).slew (s.com.reg r).slewmax))
      let w := u.updReg r fun y => { y with model := stepTo (s.reg r).model (s.com.reg r).setpt, modelAt := u.now }
      if stepTo (s.reg r).model (s.com.reg r).setpt = ((s.com.reg r).setpt : Int) then
        done ((w.updReg r fun y => { y with atSet := true, modelAtSet := w.now }).modelReached (.region r))
      else done w :=
  if_neg (not_or.2 ⟨fun hno => Bool.noConfusion (hr.symm.trans hno), h⟩)

theorem exec_setPointModelStep_rail {x : Rail} (h : (s.rail x).model ≠ s.railSet x) :
    exec (.setPointModelStep (.rail x)) s =
      let u := s.reach ((s.rail x).modelAt + slewT (s.railSlew x))
      let w := u.updRail x fun y => { y with model := stepTo (s.rail x).model (s.railSet x), modelAt := u.now }
      if stepTo (s.rail x).model (s.railSet x) = w.railSet x then done (w.modelReached (.rail x)) else done w :=
  (if_neg h).trans rfl

/-- A region's model one step on, short of its set-point. -/
theorem modelStep_region_does {r : Nat} (hr : s.hasReg r = true) (h : (s.reg r).model < ((s.com.reg r).setpt : Int) - 1) :
    Does (.setPointModelStep (.region r)) s [.now, .regs] fun t =>
      t.now = max s.now ((s.reg r).modelAt + slewT (min (s.com.reg r).slew (s.com.reg r).slewmax)) ∧
      (t.reg r).model = (s.reg r).model + 1 ∧ (t.reg r).modelAt = t.now ∧ ∀ k, k ≠ r → (t.reg k).model = (s.reg k).model := by
  have hexec := exec_setPointModelStep_region hr (by omega)
  rw [stepTo_of_lt (by omega), if_neg (by omega)] at hexec
  refine Does.of_done hexec ?_ (((only_reach s _).mono (by simp)).then (only_updReg _ r _) (by simp))
  simp only [settle_now, settle_reg_model, settle_reg_modelAt, State.updReg_reg_same, State.updReg_now]
  refine ⟨State.reach_now .., trivial, trivial, fun k hk => ?_⟩
  rw [State.updReg_reg_other _ _ hk]
  rfl

/-- A region's model at its set-point: its commands no longer wait. -/
theorem modelStep_region_reached {r : Nat} (hr : s.hasReg r = true) (h : (s.reg r).model = ((s.com.reg r).setpt : Int) - 1) :
    Does (.setPointModelStep (.region r)) s [.now, .regs, .stg] fun t =>
      (t.reg r).model = (s.com.reg r).setpt ∧ (t.reg r).modelAt = t.now ∧ (t.reg r).atSet = true ∧ (t.reg r).modelAtSet = t.now ∧
      ∀ c ∈ t.stg.vcmds, ModelRef.region r ∉ c.targets := by
  have hexec := exec_setPointModelStep_region hr (by omega)
  have hstep : stepTo (s.reg r).model (s.com.reg r).setpt = (s.com.reg r).setpt := by
    rw [stepTo_of_lt (by omega), h]
    omega
  rw [hstep, if_pos rfl] at hexec
  generalize hw : (s.reach ((s.reg r).modelAt + slewT (min (s.com.reg r).slew (s.com.reg r).slewmax))).updReg r (fun y =>
    { y with model := ((s.com.reg r).setpt : Int),
             modelAt := (s.reach ((s.reg r).modelAt + slewT (min (s.com.reg r).slew (s.com.reg r).slewmax))).now }) = w at hexec
  have hmodel : (w.reg r).model = (s.com.reg r).setpt ∧ (w.reg r).modelAt = w.now := by
    rw [← hw, State.updReg_reg_same]
    exact ⟨rfl, rfl⟩
  have only : Only [.now, .regs, .stg] s w := by
    rw [← hw]
    exact ((only_reach s _).mono (by simp)).then (only_updReg _ r _) (by simp)
  have hregs : ∀ v : State, (v.modelReached (.region r)).reg r = v.reg r := fun v => by
    unfold State.reg
    rw [modelReached_regs]
  refine Does.of_done hexec ?_ ((only.then (only_updReg w r _) (by simp)).then (only_modelReached _ _) (by simp))
  simp only [settle_now, settle_stg, settle_reg_model, settle_reg_modelAt, settle_reg_atSet, settle_reg_modelAtSet, hregs,
    State.updReg_reg_same, (only_modelReached _ _).now, State.updReg_now]
  exact ⟨hmodel.1, hmodel.2, trivial, trivial, modelReached_vcmds _ _⟩

theorem modelStep_rail_does {x : Rail} (h : (s.rail x).model ≠ s.railSet x) :
    Does (.setPointModelStep (.rail x)) s [.now, .conv, .stg] fun t =>
      t.now = max s.now ((s.rail x).modelAt + slewT (s.railSlew x)) ∧
      RailBecomes s x { s.rail x with model := stepTo (s.rail x).model (s.railSet x), modelAt := t.now } t := by
  have hexec := exec_setPointModelStep_rail h
  dsimp only at hexec
  generalize hw : (s.reach ((s.rail x).modelAt + slewT (s.railSlew x))).updRail x (fun y =>
    { y with model := stepTo (s.rail x).model (s.railSet x),
             modelAt := (s.reach ((s.rail x).modelAt + slewT (s.railSlew x))).now }) = w at hexec
  have hnow : w.now = max s.now ((s.rail x).modelAt + slewT (s.railSlew x)) := by rw [← hw]; rfl
  have hrail : RailBecomes s x { s.rail x with model := stepTo (s.rail x).model (s.railSet x), modelAt := w.now } w := by
    rw [← hw]
    exact ⟨by rw [State.updRail_rail_same, State.reach_rail]; rfl, fun y hy => by rw [State.updRail_rail_other _ _ hy, State.reach_rail]⟩
  have only : Only [.now, .conv, .stg] s w := by
    rw [← hw]
    exact ((only_reach s _).mono (by simp)).then (only_updRail _ x _) (by simp)
  have reached := only_modelReached w (.rail x)
  split at hexec
  · refine Does.of_done hexec ?_ (only.then reached (by simp))
    simp only [railBecomes_settle, settle_now, reached.now]
    exact ⟨hnow, (reached.rail x).trans hrail.1, fun y hy => (reached.rail y).trans (hrail.2 y hy)⟩
  · refine Does.of_done hexec ?_ only
    simp only [railBecomes_settle, settle_now]
    exact ⟨hnow, hrail⟩

/-- Settles O21: each modulator, slew and model by the equation of its command. -/
theorem modulatorsAndSlewsStep : Obligations.ModulatorsAndSlewsStep := by
  intro s n p
  refine ⟨?_, ?_, ?_, ?_, ?_, ?_, ?_, ?_, ?_, ?_⟩
  · intro vibs v ramp io hp hpriv hr ho hv hlt
    have hdoes := cotComparatorFire_does (vibs := vibs) (io := io) hp hpriv hr ho (Pan.fires_of_lt hlt)
    dsimp only at hdoes
    rw [Pan.cotTon_of_vibs hv] at hdoes
    exact hdoes
  · exact fun x vibs hp hpriv hr hx ho => voltageModePeriod_does hp hpriv hr hx ho
  · exact fun hp hpriv hr hde hat => frequencyLockUpdate_does hp hpriv hr hde hat
  · intro hst h
    refine (slewStep_panSet_does hst h).imp ?_
    rintro t ⟨hnow, hat, hset, hother⟩
    exact ⟨hnow, hat, fun hlt => hset.trans (stepTo_of_lt hlt), fun hgt => hset.trans (stepTo_of_gt hgt), hother⟩
  · intro h
    refine (slewStep_panOff_does h).imp ?_
    rintro t ⟨hnow, hat, hoff, hother⟩
    exact ⟨hnow, hat, fun hlt => hoff.trans (stepTo_of_lt hlt), fun hgt => hoff.trans (stepTo_of_gt hgt), hother⟩
  · intro x h
    refine (Does.of_reach_updRail (exec_slewStep_railSet h)).imp ?_
    rintro t ⟨hnow, hrail, hother⟩
    rw [State.reach_railSet, stepTo_of_ne h, State.reach_now, ← hnow] at hrail
    exact ⟨hnow, hrail, hother⟩
  · intro x h
    refine (Does.of_reach_updRail (exec_slewStep_railOff h)).imp ?_
    rintro t ⟨hnow, hrail, hother⟩
    rw [stepTo_of_ne h, State.reach_now, ← hnow] at hrail
    exact ⟨hnow, hrail, hother⟩
  · exact fun r hr h => modelStep_region_does hr h
  · exact fun r hr h => modelStep_region_reached hr h
  · intro x h
    refine (modelStep_rail_does h).imp ?_
    rintro t ⟨hnow, hrail, hother⟩
    rw [stepTo_of_ne h] at hrail
    exact ⟨hnow, hrail, hother⟩

end Sys2Proof.Machine
end

section
/-! SUPPORT. A Mulith instruction that issues (R187 to R191, R207, R214, R226 to R230): the state in which its effect acts, what
the effects leave of the lane and its run, and the proofs of the obligations about register arithmetic, saturation, loads and
stores. -/

namespace Sys2Proof.Machine

-- The joined text is checked under a memory limit that counts every thread's stack: one proof at a time.
set_option Elab.async false

variable {c : Instr} {s u v : State} {lane : Nat} {w : Word} {x : Issue} {r q : Run} {l : Lane}

/-! ### Lanes -/

/-- Of the engine, an update of a lane changes the lanes alone. -/
theorem State.updLane_eng (s : State) (i : Nat) (f : Lane → Lane) : (s.updLane i f).eng = { s.eng with lanes := (s.updLane i f).eng.lanes } := by
  unfold State.updLane
  dsimp only [State.updEng]
  split <;> rfl

@[simp] theorem State.updLane_ldyn (s : State) (i k : Nat) (f : Lane → Lane) : (s.updLane i f).ldyn k = s.ldyn k :=
  (congrArg (fun e : Engine => Tbl.get ({} : LoopDyn) e.dyn k) (s.updLane_eng i f)).trans rfl

@[simp] theorem State.updLane_lent (s : State) (i k : Nat) (f : Lane → Lane) : (s.updLane i f).lent k = s.lent k :=
  (congrArg (fun e : Engine => Tbl.get ({} : LoopEnt) e.loops k) (s.updLane_eng i f)).trans rfl

theorem State.updRun_eq (s : State) (i : Nat) (f : Run → Run) : s.updRun i f = s.updLane i fun l => { l with run := l.run.map f } := rfl

/-! ### The state in which an instruction acts -/

/-- The lane at the slot of its instruction, its stall taken (R228, R230). -/
def State.issueAt (s : State) (lane : Nat) (r : Run) (x : Issue) : State :=
  (s.reach (r.startAt + ckeT * (r.slots + stallOf r.prod x.reads))).updRun lane fun q => { q with slots := q.slots + stallOf r.prod x.reads }

/-- The run once the effect has acted: its slots, its producer, its next address (R226, R229, R230). -/
def Run.advance (x : Issue) (q : Run) : Run := ({ q with slots := q.slots + x.cost, prod := x.prod } : Run).go x.flow

/-- An instruction that can issue acts, then its run goes on. -/
theorem mStep_of_issues (hi : Issues s lane w x r) (f : State → State) :
    s.mStep lane w x f = (f (s.issueAt lane r x)).updRun lane (Run.advance x) := by
  obtain ⟨hrun, hbad, hpc, hword, hallow, hlimit⟩ := hi
  unfold State.mStep
  rw [hrun]
  dsimp only
  rw [if_neg (ne_true_of_eq_false hbad), if_neg (Nat.not_le.2 hpc), if_neg (not_not_intro hword),
    if_neg (fun hno => Bool.noConfusion (hallow.symm.trans hno)), if_neg (Nat.not_lt.2 hlimit)]
  rfl

theorem only_issueAt (s : State) (lane : Nat) (r : Run) (x : Issue) : Only [.now, .eng] s (s.issueAt lane r x) :=
  ((only_reach s _).mono (by simp)).then (only_updRun _ lane _) (by simp)

theorem issueAt_now : (s.issueAt lane r x).now = max s.now (r.startAt + ckeT * (r.slots + stallOf r.prod x.reads)) := rfl

theorem State.reach_lane (s : State) (a k : Nat) : (s.reach a).lane k = s.lane k := rfl

theorem issueAt_lane (hrun : s.mrun lane = some r) :
    (s.issueAt lane r x).lane lane = { s.lane lane with run := some { r with slots := r.slots + stallOf r.prod x.reads } } := by
  have hlane : (s.lane lane).run = some r := hrun
  rw [State.issueAt, State.updRun_eq, State.updLane_lane_same, State.reach_lane]
  dsimp only
  rw [hlane]
  rfl

theorem issueAt_lane_other {m : Nat} (h : m ≠ lane) : (s.issueAt lane r x).lane m = s.lane m := by
  rw [State.issueAt, State.updRun_eq, State.updLane_lane_other _ _ h, State.reach_lane]

/-- Registers and accumulators stand until the effect. -/
theorem issueAt_mreg (hrun : s.mrun lane = some r) : (s.issueAt lane r x).mreg lane = s.mreg lane := by
  funext k
  unfold State.mreg
  rw [issueAt_lane hrun]

theorem issueAt_macc (hrun : s.mrun lane = some r) : (s.issueAt lane r x).macc lane = s.macc lane := by
  funext k
  unfold State.macc
  rw [issueAt_lane hrun]

theorem issueAt_mrun (hrun : s.mrun lane = some r) :
    (s.issueAt lane r x).mrun lane = some { r with slots := r.slots + stallOf r.prod x.reads } := by
  unfold State.mrun
  rw [issueAt_lane hrun]

theorem issueAt_mloop (hrun : s.mrun lane = some r) : (s.issueAt lane r x).mloop lane = r.loop := by
  unfold State.mloop
  rw [issueAt_mrun hrun]
  rfl

theorem State.reach_ldyn (s : State) (a k : Nat) : (s.reach a).ldyn k = s.ldyn k := rfl

theorem State.reach_lent (s : State) (a k : Nat) : (s.reach a).lent k = s.lent k := rfl

theorem issueAt_ldyn (s : State) (lane k : Nat) (r : Run) (x : Issue) : (s.issueAt lane r x).ldyn k = s.ldyn k := by
  rw [State.issueAt, State.updRun_eq, State.updLane_ldyn, State.reach_ldyn]

theorem issueAt_lent (s : State) (lane k : Nat) (r : Run) (x : Issue) : (s.issueAt lane r x).lent k = s.lent k := by
  rw [State.issueAt, State.updRun_eq, State.updLane_lent, State.reach_lent]

/-! ### What an effect leaves -/

/-- An effect has left the lane `l` with the run `q`, whose slots it has not counted, every other lane and the time. -/
def Left (s : State) (lane : Nat) (r : Run) (x : Issue) (q : Run) (l : Lane) (v : State) : Prop :=
  v.lane lane = { l with run := some { q with slots := r.slots + stallOf r.prod x.reads } } ∧
  (∀ m, m ≠ lane → v.lane m = s.lane m) ∧
  v.now = max s.now (r.startAt + ckeT * (r.slots + stallOf r.prod x.reads))

/-- A run that differs at most in its flags. -/
def Run.sameButFlags (q r : Run) : Prop := q = { r with ov := q.ov, sat := q.sat }

theorem issued_of_left (hq : q.sameButFlags r) (h : Left s lane r x q l v) : Issued s lane q x l (v.updRun lane (Run.advance x)) := by
  obtain ⟨hlane, hother, hnow⟩ := h
  have hslots : q.slots = r.slots := by rw [hq]
  have hprod : q.prod = r.prod := by rw [hq]
  have hstart : q.startAt = r.startAt := by rw [hq]
  rw [← hslots, ← hprod] at hlane hnow
  rw [← hstart] at hnow
  refine ⟨⟨?_, fun m hm => ?_⟩, hnow⟩
  · rw [State.updRun_eq, State.updLane_lane_same, hlane]
    rfl
  · rw [State.updRun_eq, State.updLane_lane_other _ _ hm, hother m hm]

theorem left_issueAt (hrun : s.mrun lane = some r) : Left s lane r x r (s.lane lane) (s.issueAt lane r x) :=
  ⟨issueAt_lane hrun, fun _ hm => issueAt_lane_other hm, issueAt_now⟩

/-- Nothing but lanes counts for what is left. -/
theorem Left.of_lanes (h : Left s lane r x q l u) (hl : v.eng.lanes = u.eng.lanes) (hn : v.now = u.now) : Left s lane r x q l v := by
  have hlane : ∀ m, v.lane m = u.lane m := fun m => by unfold State.lane; rw [hl]
  obtain ⟨hsame, hother, hnow⟩ := h
  exact ⟨(hlane lane).trans hsame, fun m hm => (hlane m).trans (hother m hm), hn.trans hnow⟩

theorem Left.setMreg {rd : Nat} {a : Word} (h : Left s lane r x q l u) :
    Left s lane r x q { l with regs := l.regs.set 0 rd a } (u.setMreg lane rd a) := by
  obtain ⟨hlane, hother, hnow⟩ := h
  refine ⟨?_, fun m hm => ?_, hnow⟩
  · rw [State.setMreg, State.updLane_lane_same, hlane]
  · rw [State.setMreg, State.updLane_lane_other _ _ hm, hother m hm]

theorem Left.setMacc {k : Nat} {a : BitVec 64} (h : Left s lane r x q l u) :
    Left s lane r x q { l with accs := l.accs.set 0 k a } (u.setMacc lane k a) := by
  obtain ⟨hlane, hother, hnow⟩ := h
  refine ⟨?_, fun m hm => ?_, hnow⟩
  · rw [State.setMacc, State.updLane_lane_same, hlane]
  · rw [State.setMacc, State.updLane_lane_other _ _ hm, hother m hm]

/-- The run's own flags change. -/
theorem Left.updFlags {f : Run → Run} (h : Left s lane r x q l u) (hf : ∀ q k, f { q with slots := k } = { f q with slots := k }) :
    Left s lane r x (f q) l (u.updRun lane f) := by
  obtain ⟨hlane, hother, hnow⟩ := h
  refine ⟨?_, fun m hm => ?_, hnow⟩
  · rw [State.updRun_eq, State.updLane_lane_same, hlane]
    dsimp only
    rw [Option.map_some, hf]
  · rw [State.updRun_eq, State.updLane_lane_other _ _ hm, hother m hm]

/-! ### A command that issues -/

/-- A command whose effect is known does what the effect does, and its run goes on. -/
theorem Does.of_issue {ps : List Part} {f : State → State} {P : State → Prop} (h : exec c s = mDo s lane w x f) (hi : Issues s lane w x r)
    (hq : q.sameButFlags r) (hleft : Left s lane r x q l (f (s.issueAt lane r x))) (only : Only ps s (f (s.issueAt lane r x)))
    (heng : Part.eng ∈ ps) (hP : P (settle ((f (s.issueAt lane r x)).updRun lane (Run.advance x)))) :
    Does c s ps fun t => Issued s lane q x l t ∧ P t := by
  have hdone : exec c s = done ((f (s.issueAt lane r x)).updRun lane (Run.advance x)) := h.trans (congrArg done (mStep_of_issues hi f))
  refine Does.of_done hdone ⟨?_, hP⟩ (only.then (only_updRun _ lane _) (by simpa using heng))
  obtain ⟨⟨hlane, hother⟩, hnow⟩ := issued_of_left hq hleft
  exact ⟨⟨(settle_lane ..).trans hlane, fun m hm => (settle_lane ..).trans (hother m hm)⟩, (settle_now _).trans hnow⟩

theorem Run.sameButFlags_refl (r : Run) : r.sameButFlags r := rfl

/-- The effect of an instruction is a write of a register (R215). -/
theorem Does.of_setMreg_eq {rd : Nat} {a : Word} {f : State → State} (h : exec c s = mDo s lane w x f) (hi : Issues s lane w x r)
    (hf : f (s.issueAt lane r x) = (s.issueAt lane r x).setMreg lane rd a) :
    Does c s [.now, .eng] (Issued s lane r x { s.lane lane with regs := (s.lane lane).regs.set 0 rd a }) := by
  have only : Only [.now, .eng] s (f (s.issueAt lane r x)) := by
    rw [hf]
    exact (only_issueAt s lane r x).then (only_setMreg _ lane rd a) (by simp)
  have hleft := (left_issueAt (x := x) hi.1).setMreg (rd := rd) (a := a)
  rw [← hf] at hleft
  exact (Does.of_issue (P := fun _ => True) h hi r.sameButFlags_refl hleft only (by simp) trivial).imp fun _ ht => ht.1

/-- The effect of an instruction is a write of an accumulator (R216). -/
theorem Does.of_setMacc_eq {k : Nat} {a : BitVec 64} {f : State → State} (h : exec c s = mDo s lane w x f) (hi : Issues s lane w x r)
    (hf : f (s.issueAt lane r x) = (s.issueAt lane r x).setMacc lane k a) :
    Does c s [.now, .eng] (Issued s lane r x { s.lane lane with accs := (s.lane lane).accs.set 0 k a }) := by
  have only : Only [.now, .eng] s (f (s.issueAt lane r x)) := by
    rw [hf]
    exact (only_issueAt s lane r x).then (only_setMacc _ lane k a) (by simp)
  have hleft := (left_issueAt (x := x) hi.1).setMacc (k := k) (a := a)
  rw [← hf] at hleft
  exact (Does.of_issue (P := fun _ => True) h hi r.sameButFlags_refl hleft only (by simp) trivial).imp fun _ ht => ht.1

/-- An instruction whose result is a function of the state in which it issues. -/
theorem Does.of_setMreg {rd : Nat} {g : State → Word} {a : Word} (h : exec c s = mDo s lane w x fun u => u.setMreg lane rd (g u))
    (hi : Issues s lane w x r) (hg : g (s.issueAt lane r x) = a) :
    Does c s [.now, .eng] (Issued s lane r x { s.lane lane with regs := (s.lane lane).regs.set 0 rd a }) :=
  Does.of_setMreg_eq h hi (by rw [hg])

theorem Does.of_setMacc {k : Nat} {g : State → BitVec 64} {a : BitVec 64} (h : exec c s = mDo s lane w x fun u => u.setMacc lane k (g u))
    (hi : Issues s lane w x r) (hg : g (s.issueAt lane r x) = a) :
    Does c s [.now, .eng] (Issued s lane r x { s.lane lane with accs := (s.lane lane).accs.set 0 k a }) :=
  Does.of_setMacc_eq h hi (by rw [hg])

/-- The registers that an instruction reads are those of the state in which it issues. -/
theorem Issues.mreg (hi : Issues s lane w x r) : (s.issueAt lane r x).mreg lane = s.mreg lane := issueAt_mreg hi.1

theorem Issues.macc (hi : Issues s lane w x r) : (s.issueAt lane r x).macc lane = s.macc lane := issueAt_macc hi.1

theorem boolW_decide (p : Prop) [Decidable p] : boolW (decide p) = if p then 1 else 0 := by
  unfold boolW
  simp only [decide_eq_true_eq]

theorem exec_mExt {rd ra pos lenm1 : Fin 32} {signed : Bool} (h : pos.val + lenm1.val + 1 ≤ 32) :
    exec (.mExt lane rd ra pos lenm1 signed) s = mDo s lane (encI 0x21 rd ra (pos + lenm1 * 2 ^ 5 + bit1 signed * 2 ^ 10)) {} fun s =>
      s.setMreg lane rd (extW (s.mreg lane ra) pos (lenm1.val + 1) signed) :=
  if_neg (Nat.not_lt.2 h)

theorem exec_mIns {rd ra pos lenm1 : Fin 32} (h : pos.val + lenm1.val + 1 ≤ 32) :
    exec (.mIns lane rd ra pos lenm1) s = mDo s lane (encI 0x22 rd ra (pos + lenm1 * 2 ^ 5)) {} fun s =>
      s.setMreg lane rd (insW (s.mreg lane rd) (s.mreg lane ra) pos (lenm1.val + 1)) :=
  if_neg (Nat.not_lt.2 h)

/-- Settles O27: every one of them puts into its register a function of the registers it reads. -/
theorem registerArithmeticOfTheMulith : Obligations.RegisterArithmeticOfTheMulith := by
  intro s lane r a sets
  refine ⟨fun rd ra rb hi => ?_, fun rd ra rb hi => ?_, fun rd ra rb hi => ?_, fun rd ra rb hi => ?_, fun rd ra rb hi => ?_,
    fun rd ra rb hi => ?_, fun rd ra rb hi => ?_, fun rd ra rb hi => ?_, fun rd ra rb hi => ?_, fun rd ra rb hi => ?_,
    fun rd ra rb hi => ?_, fun rd ra rb hi => ?_, fun rd ra rb rc hi => ?_, fun rd ra rb hi => ?_, fun rd ra imm hi => ?_,
    fun rd ra imm hi => ?_, fun rd ra imm hi => ?_, fun rd ra imm hi => ?_, fun rd imm hi => ?_, fun rd ra n hi => ?_,
    fun rd ra n hi => ?_, fun rd ra n hi => ?_, fun rd ra imm hi => ?_, fun rd ra pos lenm1 signed hle hi => ?_,
    fun rd ra pos lenm1 hle hi => ?_⟩
  case refine_11 => exact Does.of_setMreg rfl hi (by rw [hi.mreg, boolW_decide])
  case refine_12 => exact Does.of_setMreg rfl hi (by rw [hi.mreg, boolW_decide])
  case refine_19 => exact Does.of_setMreg rfl hi rfl
  case refine_23 => exact Does.of_setMreg rfl hi (by rw [hi.mreg, boolW_decide])
  case refine_24 => exact Does.of_setMreg (exec_mExt hle) hi (by rw [hi.mreg])
  case refine_25 => exact Does.of_setMreg (exec_mIns hle) hi (by rw [hi.mreg])
  case refine_6 | refine_7 | refine_8 | refine_9 | refine_10 | refine_14 => exact Does.of_setMreg rfl hi (by rw [hi.mreg]; rfl)
  all_goals exact Does.of_setMreg rfl hi (by rw [hi.mreg])

/-! ### Flags -/

/-- A bit that is set stays as it is when it is set again. -/
theorem or_bit_of_getLsbD {y : BitVec 7} {k : Nat} (h : y.getLsbD k = true) : y ||| (1 : BitVec 7) <<< k = y := by
  refine BitVec.eq_of_getLsbD_eq fun i hlt => ?_
  by_cases hik : i = k
  · subst hik
    simp [h]
  · have hbit : ((1 : BitVec 7) <<< k).getLsbD i = false := by
      rw [BitVec.getLsbD_shiftLeft]
      by_cases hlow : i < k
      · simp [hlow]
      · have hne : i - k ≠ 0 := by omega
        simp [BitVec.getLsbD_one, hne]
    rw [BitVec.getLsbD_or, hbit, Bool.or_false]

/-- A sticky flag of a loop, set or set already (R178). -/
theorem loopFlag_ldyn (s : State) (loop k : Nat) :
    (s.loopFlag loop k).ldyn loop = { s.ldyn loop with flags := (s.ldyn loop).flags ||| ((1 : BitVec 7) <<< k) } := by
  unfold State.loopFlag
  split
  · rename_i hset
    rw [or_bit_of_getLsbD hset]
  · rw [(only_tally _ _ _ _ _).ldyn loop, State.updLdyn_ldyn_same]

theorem loopFlag_lanes_now (s : State) (loop k : Nat) : (s.loopFlag loop k).eng.lanes = s.eng.lanes ∧ (s.loopFlag loop k).now = s.now := by
  unfold State.loopFlag
  split <;> exact ⟨rfl, rfl⟩

theorem Left.loopFlag {loop k : Nat} (h : Left s lane r x q l u) : Left s lane r x q l (u.loopFlag loop k) :=
  h.of_lanes (loopFlag_lanes_now u loop k).1 (loopFlag_lanes_now u loop k).2

theorem Left.mloop (h : Left s lane r x q l u) : u.mloop lane = q.loop := by
  unfold State.mloop State.mrun
  rw [h.1]
  rfl

theorem FlagRaised.settle {loop k : Nat} {b : Bool} (h : FlagRaised s loop k b u) : FlagRaised s loop k b (settle u) :=
  (settle_ldyn u loop).trans h

/-- The run goes on without a change of the loop. -/
theorem FlagRaised.updRun {loop k : Nat} {b : Bool} {f : Run → Run} (h : FlagRaised s loop k b u) :
    FlagRaised s loop k b (u.updRun lane f) := by
  unfold FlagRaised
  rw [State.updRun_eq, State.updLane_ldyn]
  exact h

/-- A flag of the lane's loop is raised where a result was clamped. -/
theorem flagRaised_loopFlag {loop k : Nat} (h : u.ldyn loop = s.ldyn loop) : FlagRaised s loop k true (u.loopFlag loop k) := by
  unfold FlagRaised
  rw [if_pos rfl, loopFlag_ldyn, h]

/-! ### Saturation -/

theorem left_putSat {rd : Nat} {a : Word × Bool} (hrun : s.mrun lane = some r) :
    Left s lane r x (if a.2 then { r with sat := true } else r) { s.lane lane with regs := (s.lane lane).regs.set 0 rd a.1 }
      ((s.issueAt lane r x).putSat lane rd a) := by
  have hset := (left_issueAt (x := x) hrun).setMreg (rd := rd) (a := a.1)
  unfold State.putSat State.raiseSat
  split
  · exact (hset.updFlags (f := fun q => { q with sat := true }) fun _ _ => rfl).loopFlag
  · exact hset

theorem left_putOv {k : Nat} {a : BitVec 64 × Bool} (hrun : s.mrun lane = some r) :
    Left s lane r x (if a.2 then { r with ov := true } else r) { s.lane lane with accs := (s.lane lane).accs.set 0 k a.1 }
      ((s.issueAt lane r x).putOv lane k a) := by
  have hset := (left_issueAt (x := x) hrun).setMacc (k := k) (a := a.1)
  unfold State.putOv State.raiseOv
  split
  · exact (hset.updFlags (f := fun q => { q with ov := true }) fun _ _ => rfl).loopFlag
  · exact hset

theorem flagRaised_putSat {rd : Nat} {a : Word × Bool} (hrun : s.mrun lane = some r) :
    FlagRaised s r.loop 1 a.2 ((s.issueAt lane r x).putSat lane rd a) := by
  have hloop := ((left_issueAt (x := x) hrun).setMreg (rd := rd) (a := a.1)).mloop
  have hldyn : ((s.issueAt lane r x).setMreg lane rd a.1).ldyn r.loop = s.ldyn r.loop := by
    rw [State.setMreg, State.updLane_ldyn, issueAt_ldyn]
  unfold State.putSat State.raiseSat
  rw [hloop]
  cases a.2 with
  | true =>
    rw [if_pos rfl]
    exact flagRaised_loopFlag (by rw [State.updRun_eq, State.updLane_ldyn, hldyn])
  | false => exact hldyn

theorem flagRaised_putOv {k : Nat} {a : BitVec 64 × Bool} (hrun : s.mrun lane = some r) :
    FlagRaised s r.loop 0 a.2 ((s.issueAt lane r x).putOv lane k a) := by
  have hloop := ((left_issueAt (x := x) hrun).setMacc (k := k) (a := a.1)).mloop
  have hldyn : ((s.issueAt lane r x).setMacc lane k a.1).ldyn r.loop = s.ldyn r.loop := by
    rw [State.setMacc, State.updLane_ldyn, issueAt_ldyn]
  unfold State.putOv State.raiseOv
  rw [hloop]
  cases a.2 with
  | true =>
    rw [if_pos rfl]
    exact flagRaised_loopFlag (by rw [State.updRun_eq, State.updLane_ldyn, hldyn])
  | false => exact hldyn

/-- The effect of an instruction is a register result that may have saturated (R211). -/
theorem Does.of_putSat {rd : Nat} {a : Word × Bool} {f : State → State} (h : exec c s = mDo s lane w x f) (hi : Issues s lane w x r)
    (hf : f (s.issueAt lane r x) = (s.issueAt lane r x).putSat lane rd a) :
    Does c s [.now, .eng, .flt] fun t =>
      Issued s lane (if a.2 then { r with sat := true } else r) x { s.lane lane with regs := (s.lane lane).regs.set 0 rd a.1 } t ∧
      FlagRaised s r.loop 1 a.2 t := by
  have only : Only [.now, .eng, .flt] s (f (s.issueAt lane r x)) := by
    rw [hf]
    exact ((only_issueAt s lane r x).mono (by simp)).then (only_putSat _ lane rd a) (by simp)
  have hflags : (if a.2 then { r with sat := true } else r : Run).sameButFlags r := by split <;> rfl
  refine Does.of_issue h hi hflags (by rw [hf]; exact left_putSat hi.1) only (by simp) ?_
  rw [hf]
  exact (flagRaised_putSat hi.1).updRun.settle

/-- The effect of an instruction is an accumulator result that may have saturated (R211). -/
theorem Does.of_putOv {k : Nat} {a : BitVec 64 × Bool} {f : State → State} (h : exec c s = mDo s lane w x f) (hi : Issues s lane w x r)
    (hf : f (s.issueAt lane r x) = (s.issueAt lane r x).putOv lane k a) :
    Does c s [.now, .eng, .flt] fun t =>
      Issued s lane (if a.2 then { r with ov := true } else r) x { s.lane lane with accs := (s.lane lane).accs.set 0 k a.1 } t ∧
      FlagRaised s r.loop 0 a.2 t := by
  have only : Only [.now, .eng, .flt] s (f (s.issueAt lane r x)) := by
    rw [hf]
    exact ((only_issueAt s lane r x).mono (by simp)).then (only_putOv _ lane k a) (by simp)
  have hflags : (if a.2 then { r with ov := true } else r : Run).sameButFlags r := by split <;> rfl
  refine Does.of_issue h hi hflags (by rw [hf]; exact left_putOv hi.1) only (by simp) ?_
  rw [hf]
  exact (flagRaised_putOv hi.1).updRun.settle

/-- The effect of an instruction is the loop's bounds flag alone (R176). -/
theorem Does.of_raiseBounds {f : State → State} (h : exec c s = mDo s lane w x f) (hi : Issues s lane w x r)
    (hf : f (s.issueAt lane r x) = (s.issueAt lane r x).raiseBounds lane) :
    Does c s [.now, .eng, .flt] fun t => Issued s lane r x (s.lane lane) t ∧ FlagRaised s r.loop 2 true t := by
  have only : Only [.now, .eng, .flt] s (f (s.issueAt lane r x)) := by
    rw [hf]
    exact ((only_issueAt s lane r x).mono (by simp)).then (only_raiseBounds _ lane) (by simp)
  refine Does.of_issue h hi r.sameButFlags_refl (by rw [hf]; exact (left_issueAt hi.1).loopFlag) only (by simp) ?_
  rw [hf, State.raiseBounds, issueAt_mloop hi.1]
  exact (flagRaised_loopFlag (issueAt_ldyn ..)).updRun.settle

/-- The effect of an instruction is a zero read beyond the bounds (R176). -/
theorem Does.of_zeroed {rd : Nat} {f : State → State} (h : exec c s = mDo s lane w x f) (hi : Issues s lane w x r)
    (hf : f (s.issueAt lane r x) = ((s.issueAt lane r x).setMreg lane rd 0).raiseBounds lane) :
    Does c s [.now, .eng, .flt] fun t =>
      Issued s lane r x { s.lane lane with regs := (s.lane lane).regs.set 0 rd 0 } t ∧ FlagRaised s r.loop 2 true t := by
  have only : Only [.now, .eng, .flt] s (f (s.issueAt lane r x)) := by
    rw [hf]
    exact (((only_issueAt s lane r x).mono (by simp)).then (only_setMreg _ lane rd 0) (by simp)).then (only_raiseBounds _ lane) (by simp)
  have hset := (left_issueAt (x := x) hi.1).setMreg (rd := rd) (a := 0)
  refine Does.of_issue h hi r.sameButFlags_refl (by rw [hf]; exact hset.loopFlag) only (by simp) ?_
  rw [hf, State.raiseBounds, hset.mloop]
  exact (flagRaised_loopFlag (by rw [State.setMreg, State.updLane_ldyn, issueAt_ldyn])).updRun.settle

/-! ### Coefficients (R216, R217) -/

/-- The coefficient that an instruction names is that of the run's own view. -/
theorem issueAt_coefAt (hrun : s.mrun lane = some r) (rk : Fin 32) (b : Bool) (k : BitVec 12) :
    (s.issueAt lane r x).coefAt lane rk b k =
      if k.toNat + (if b then (s.mreg lane rk).toNat else 0) < (s.lent r.loop).clen then
        some ((s.views.get {} lane).com.coef.get {} ((s.lent r.loop).cbase + (k.toNat + (if b then (s.mreg lane rk).toNat else 0))))
      else none := by
  unfold State.coefAt
  rw [issueAt_mloop hrun, issueAt_mreg hrun, issueAt_lent, (only_issueAt s lane r x).views]

theorem exec_mCmac {k : Fin 4} {ra rk : Fin 32} {b : Bool} {i : BitVec 12} (hb : b = true ∨ rk = 0) :
    exec (.mCmac lane k ra rk b i) s = mDo s lane (encC 0x2A k ra rk 0 (bit1 b) i.toNat) { prod := .accum k.val } fun s =>
      s.cmac lane k ra (s.coefAt lane rk b i) false :=
  if_neg (by rcases hb with rfl | rfl <;> simp)

theorem exec_mCmsu {k : Fin 4} {ra rk : Fin 32} {b : Bool} {i : BitVec 12} (hb : b = true ∨ rk = 0) :
    exec (.mCmsu lane k ra rk b i) s = mDo s lane (encC 0x2B k ra rk 0 (bit1 b) i.toNat) { prod := .accum k.val } fun s =>
      s.cmac lane k ra (s.coefAt lane rk b i) true :=
  if_neg (by rcases hb with rfl | rfl <;> simp)

theorem issueAt_cmac {k : Fin 4} {ra : Fin 32} {b : Bool} {cw : CoefWord} (hi : Issues s lane w x r) :
    (s.issueAt lane r x).cmac lane k ra (some cw) b = (s.issueAt lane r x).putOv lane k (cmacW (s.macc lane k) (s.mreg lane ra) cw b) := by
  unfold State.cmac
  rw [hi.macc, hi.mreg]

/-- Settles O28: every one of them puts a result that may have saturated into a register or an accumulator. -/
theorem saturatingResultsRaiseTheirFlags : Obligations.SaturatingResultsRaiseTheirFlags := by
  intro s lane r a acc L satResult ovResult coef
  refine ⟨fun rd ra rb hi => ?_, fun rd ra rb hi => ?_, fun rd ra rb sh hi => ?_, fun rd ra rb sh hi => ?_, fun rd ra hi => ?_,
    fun rd ra hi => ?_, fun rd ra n hi => ?_, fun k ra rb hi => ?_, fun k ra rb hi => ?_, fun k j hi => ?_, fun k j hi => ?_,
    fun k sh hi => ?_, fun k hi => ?_, fun rd k sh hi => ?_, fun k ra rk b i hb hlt hi => ?_, fun k ra rk b i hb hlt hi => ?_,
    fun k ra rk b i hb hge hi => ?_⟩
  case refine_1 | refine_2 | refine_4 | refine_7 => exact Does.of_putSat rfl hi (by rw [hi.mreg])
  case refine_3 | refine_5 | refine_6 => exact Does.of_putSat rfl hi (by rw [hi.mreg]; rfl)
  case refine_8 | refine_9 => exact Does.of_putOv rfl hi (by rw [hi.mreg, hi.macc]; rfl)
  case refine_10 | refine_11 | refine_12 | refine_13 => exact Does.of_putOv rfl hi (by rw [hi.macc]; rfl)
  case refine_14 => exact Does.of_putSat rfl hi (by rw [hi.macc]; rfl)
  case refine_15 => exact Does.of_putOv (exec_mCmac hb) hi (by rw [issueAt_coefAt hi.1, if_pos hlt, issueAt_cmac hi])
  case refine_16 => exact Does.of_putOv (exec_mCmsu hb) hi (by rw [issueAt_coefAt hi.1, if_pos hlt, issueAt_cmac hi])
  case refine_17 =>
    exact Does.of_raiseBounds (exec_mCmac hb) hi (by rw [issueAt_coefAt hi.1, if_neg (Nat.not_lt.2 hge)]; rfl)

end Sys2Proof.Machine
end

section
/-! SUPPORT. Loads, stores, reads, control flow, outputs and the ends of a Mulith run (R172, R177, R189 to R196, R214, R216 to
R231), and the proofs of the obligations about them. -/

namespace Sys2Proof.Machine

-- The joined text is checked under a memory limit that counts every thread's stack: one proof at a time.
set_option Elab.async false

variable {c : Instr} {s u v : State} {lane : Nat} {w : Word} {x : Issue} {r q : Run} {l : Lane}

/-! ### What a run reads of the state in which it issues -/

/-- The issue of an instruction changes the lanes of the engine alone. -/
theorem issueAt_eng (s : State) (lane : Nat) (r : Run) (x : Issue) :
    (s.issueAt lane r x).eng = { s.eng with lanes := (s.issueAt lane r x).eng.lanes } := by
  rw [State.issueAt, State.updRun_eq]
  exact State.updLane_eng ..

theorem issueAt_input (s : State) (lane : Nat) (r : Run) (x : Issue) : (s.issueAt lane r x).eng.input = s.eng.input :=
  (congrArg Engine.input (issueAt_eng s lane r x)).trans rfl

theorem issueAt_state (s : State) (lane : Nat) (r : Run) (x : Issue) : (s.issueAt lane r x).eng.state = s.eng.state :=
  (congrArg Engine.state (issueAt_eng s lane r x)).trans rfl

theorem issueAt_outs (s : State) (lane : Nat) (r : Run) (x : Issue) : (s.issueAt lane r x).eng.outs = s.eng.outs :=
  (congrArg Engine.outs (issueAt_eng s lane r x)).trans rfl

theorem issueAt_views (s : State) (lane : Nat) (r : Run) (x : Issue) : (s.issueAt lane r x).views = s.views :=
  (only_issueAt s lane r x).views

theorem issueAt_hubItem (s : State) (lane : Nat) (r : Run) (x : Issue) (m h : Nat) :
    (s.issueAt lane r x).hubItem m h = s.hubItem m h := by
  unfold State.hubItem
  simp only [issueAt_views, (only_issueAt s lane r x).hasReg]

@[simp] theorem stallOf_nothing (p : Producer) : stallOf p {} = 0 := by cases p <;> rfl

theorem issueAt_cke_of_nothing (h : x.reads = {}) : (s.issueAt lane r x).cke = max s.now (r.startAt + ckeT * r.slots) / ckeT := by
  rw [State.cke, issueAt_now, h, stallOf_nothing, Nat.add_zero]

theorem issueAt_slotRead (h : x.reads = {}) (k : Nat) (what : Fin 3) :
    (s.issueAt lane r x).slotRead k what =
      if what = 0 then (s.eng.input.get {} k).value
      else if what = 1 then
        (if (s.eng.input.get {} k).stale then 65535
          else BitVec.ofNat 32 (min ((max s.now (r.startAt + ckeT * r.slots) / ckeT + 2 ^ 32 - (s.eng.input.get {} k).instant.toNat) % 2 ^ 32) 65535))
      else (s.eng.input.get {} k).instant := by
  unfold State.slotRead
  rw [issueAt_input, issueAt_cke_of_nothing h]

theorem issueAt_runFlags (hrun : s.mrun lane = some r) :
    (s.issueAt lane r x).runFlags lane = BitVec.ofNat 32 (b2n r.ov + 2 * b2n r.sat) := by
  unfold State.runFlags
  rw [issueAt_mrun hrun]

theorem issueAt_stateIdx (hi : Issues s lane w x r) (ra : Fin 32) (off : BitVec 10) :
    (s.issueAt lane r x).stateIdx lane ra off = (s.mreg lane ra).toNat + off.toNat := by
  unfold State.stateIdx
  rw [hi.mreg]

/-- The entry of the loop that the lane runs. -/
theorem issueAt_own_lent (hrun : s.mrun lane = some r) : (s.issueAt lane r x).lent ((s.issueAt lane r x).mloop lane) = s.lent r.loop := by
  rw [issueAt_mloop hrun, issueAt_lent]

/-! ### Loads, stores and reads -/

theorem exec_mCld {rr rk : Fin 32} {f b : Bool} {i : BitVec 12} (hb : b = true ∨ rk = 0) :
    exec (.mCld lane rr rk f b i) s = mDo s lane (encC 0x2C 0 rr rk (bit1 f) (bit1 b) i.toNat) {} fun s =>
      match s.coefAt lane rk b i with
      | some c => s.setMreg lane rr (if f then BitVec.ofInt 32 c.shift else c.value)
      | none => (s.setMreg lane rr 0).raiseBounds lane :=
  if_neg (by rcases hb with rfl | rfl <;> simp)

theorem exec_mAld {k : Fin 4} {rr : Fin 32} {sh : BitVec 6} (h : sh.toNat ≤ 32) :
    exec (.mAld lane k rr sh) s = mDo s lane (encG 1 k 0 rr sh.toNat) {} fun s => s.setMacc lane k (aldW (s.mreg lane rr) sh.toNat) :=
  if_neg (Nat.not_lt.2 h)

/-- One word of the state blocks is stored (R218). -/
def State.storeWord (s : State) (k : Nat) (a : Word) : State := s.updEng fun g => { g with state := g.state.set 0 k a }

/-- The effect of an instruction is a store into the loop's state block (R218). -/
theorem Does.of_storeWord {k : Nat} {a : Word} {f : State → State} (h : exec c s = mDo s lane w x f) (hi : Issues s lane w x r)
    (hf : f (s.issueAt lane r x) = (s.issueAt lane r x).storeWord k a) :
    Does c s [.now, .eng] fun t => Issued s lane r x (s.lane lane) t ∧ t.eng.state = s.eng.state.set 0 k a := by
  have only : Only [.now, .eng] s (f (s.issueAt lane r x)) := by
    rw [hf]
    exact (only_issueAt s lane r x).then (only_updEng _ fun g : Engine => { g with state := g.state.set 0 k a }) (by simp)
  have hleft : Left s lane r x r (s.lane lane) ((s.issueAt lane r x).storeWord k a) := (left_issueAt hi.1).of_lanes rfl rfl
  refine Does.of_issue h hi r.sameButFlags_refl (by rw [hf]; exact hleft) only (by simp) ?_
  rw [hf, settle_eng, State.updRun_eq, congrArg Engine.state (State.updLane_eng ..)]
  change Tbl.set 0 (s.issueAt lane r x).eng.state k a = _
  rw [issueAt_state]

/-- The effect of an instruction is the bounds flag; the state blocks stand (R218). -/
theorem Does.of_raiseBounds_state {f : State → State} (h : exec c s = mDo s lane w x f) (hi : Issues s lane w x r)
    (hf : f (s.issueAt lane r x) = (s.issueAt lane r x).raiseBounds lane) :
    Does c s [.now, .eng, .flt] fun t =>
      Issued s lane r x (s.lane lane) t ∧ FlagRaised s r.loop 2 true t ∧ t.eng.state = s.eng.state := by
  have only : Only [.now, .eng, .flt] s (f (s.issueAt lane r x)) := by
    rw [hf]
    exact ((only_issueAt s lane r x).mono (by simp)).then (only_raiseBounds _ lane) (by simp)
  refine Does.of_issue h hi r.sameButFlags_refl (by rw [hf]; exact (left_issueAt hi.1).loopFlag) only (by simp) ?_
  rw [hf, State.raiseBounds, issueAt_mloop hi.1]
  refine ⟨(flagRaised_loopFlag (issueAt_ldyn ..)).updRun.settle, ?_⟩
  rw [settle_eng, State.updRun_eq, congrArg Engine.state (State.updLane_eng ..)]
  have hflag : ∀ (u : State) (i k : Nat), (u.loopFlag i k).eng.state = u.eng.state := fun u i k => by
    unfold State.loopFlag
    split <;> rfl
  rw [hflag, issueAt_state]

/-- The effect of an instruction is a write of a register, and the run's flags are cleared (R228). -/
theorem Does.of_setMreg_cleared {rd : Nat} {a : Word} {f : State → State} (h : exec c s = mDo s lane w x f) (hi : Issues s lane w x r)
    (hf : f (s.issueAt lane r x) = ((s.issueAt lane r x).setMreg lane rd a).updRun lane fun q => { q with ov := false, sat := false }) :
    Does c s [.now, .eng]
      (Issued s lane { r with ov := false, sat := false } x { s.lane lane with regs := (s.lane lane).regs.set 0 rd a }) := by
  have only : Only [.now, .eng] s (f (s.issueAt lane r x)) := by
    rw [hf]
    exact ((only_issueAt s lane r x).then (only_setMreg _ lane rd a) (by simp)).then (only_updRun _ lane _) (by simp)
  have hleft := ((left_issueAt (x := x) hi.1).setMreg (rd := rd) (a := a)).updFlags (f := fun q => { q with ov := false, sat := false })
    fun _ _ => rfl
  refine (Does.of_issue (q := { r with ov := false, sat := false }) (P := fun _ => True) h hi rfl (by rw [hf]; exact hleft) only
    (by simp) trivial).imp fun _ ht => ht.1

/-- An instruction without an effect of its own. -/
theorem Does.of_issue_alone {f : State → State} (h : exec c s = mDo s lane w x f) (hi : Issues s lane w x r)
    (hf : f (s.issueAt lane r x) = s.issueAt lane r x) : Does c s [.now, .eng] (Issued s lane r x (s.lane lane)) := by
  refine (Does.of_issue (P := fun _ => True) h hi r.sameButFlags_refl ?_ ?_ (by simp) trivial).imp fun _ ht => ht.1
  · rw [hf]
    exact left_issueAt hi.1
  · rw [hf]
    exact only_issueAt s lane r x

theorem bound_iff {e : LoopEnt} {b : Nat} :
    (e.used && decide ((e.binds.get 0 b).toNat / 2 ^ 28 ≠ 0)) = true ↔ e.used = true ∧ (e.binds.get 0 b).toNat / 2 ^ 28 ≠ 0 := by
  rw [Bool.and_eq_true, decide_eq_true_eq]

/-- Settles O29: each puts into its destination what the issue of the instruction leaves as it was; beyond the bounds, zero. -/
theorem loadsStoresAndReadsOfARun : Obligations.LoadsStoresAndReadsOfARun := by
  intro s lane r a acc L e cycle slot coef setReg setAcc zeroed
  refine ⟨fun rr rk f b i hb hi => ⟨fun hlt => ?_, fun hge => ?_⟩, fun k hi => ?_, fun k rr sh hle hi => ?_, fun k sh hi => ?_,
    fun rd k hi => ?_, fun rd k hi => ?_, fun k rr rb hi => ?_, fun rd ra off hi => ⟨fun hlt => ?_, fun hge => ?_⟩,
    fun rs ra off hi => ⟨fun hlt => ?_, fun hge => ?_⟩, fun rd ra what imm hi => ?_, fun rd k what hi => ⟨fun hv => ?_, fun hv => ?_⟩,
    fun rd ra what b l hi => ⟨fun hb => ?_, fun hb => ?_⟩, fun rd ra imm hi => ⟨fun v hv => ?_, fun hv => ?_⟩, fun rd hi => ?_,
    fun rd hi => ?_, fun rd hi => ?_, fun rd hi => ?_, fun rd hi => ?_, fun rd hi => ?_, fun hi => ?_⟩
  · exact Does.of_setMreg_eq (exec_mCld hb) hi (by rw [issueAt_coefAt hi.1, if_pos hlt])
  · exact Does.of_zeroed (exec_mCld hb) hi (by rw [issueAt_coefAt hi.1, if_neg (Nat.not_lt.2 hge)])
  · exact Does.of_setMacc_eq rfl hi rfl
  · exact Does.of_setMacc_eq (exec_mAld hle) hi (by rw [hi.mreg]; rfl)
  · exact Does.of_setMacc_eq rfl hi (by rw [hi.macc]; rfl)
  · exact Does.of_setMreg_eq rfl hi (by rw [hi.macc]; rfl)
  · exact Does.of_setMreg_eq rfl hi (by rw [hi.macc]; rfl)
  · exact Does.of_setMacc_eq rfl hi (by rw [hi.mreg]; rfl)
  · exact Does.of_setMreg_eq rfl hi (by dsimp only; rw [issueAt_own_lent hi.1, issueAt_stateIdx hi, if_pos hlt, issueAt_state])
  · exact Does.of_zeroed rfl hi (by dsimp only; rw [issueAt_own_lent hi.1, issueAt_stateIdx hi, if_neg (Nat.not_lt.2 hge)])
  · exact Does.of_storeWord rfl hi (by dsimp only; rw [issueAt_own_lent hi.1, issueAt_stateIdx hi, if_pos hlt, hi.mreg]; rfl)
  · exact Does.of_raiseBounds_state rfl hi (by dsimp only; rw [issueAt_own_lent hi.1, issueAt_stateIdx hi, if_neg (Nat.not_lt.2 hge)])
  · exact Does.of_setMreg_eq rfl hi (by rw [hi.mreg, issueAt_slotRead rfl])
  · exact Does.of_setMreg_eq rfl hi (by dsimp only; rw [issueAt_own_lent hi.1, if_pos hv, issueAt_slotRead rfl])
  · exact Does.of_zeroed rfl hi (by dsimp only; rw [issueAt_own_lent hi.1, if_neg (ne_true_of_eq_false hv)])
  · exact Does.of_setMreg_eq rfl hi (by dsimp only; rw [hi.mreg, issueAt_lent, if_pos (bound_iff.2 hb), issueAt_outs])
  · exact Does.of_zeroed rfl hi (by dsimp only; rw [hi.mreg, issueAt_lent, if_neg (mt bound_iff.1 hb)])
  · exact Does.of_setMreg_eq rfl hi (by rw [hi.mreg, issueAt_hubItem, hv])
  · exact Does.of_zeroed rfl hi (by rw [hi.mreg, issueAt_hubItem, hv])
  · exact Does.of_setMreg_eq rfl hi (by rw [issueAt_runFlags hi.1])
  · exact Does.of_setMreg_cleared rfl hi (by rw [issueAt_runFlags hi.1])
  · exact Does.of_setMreg_eq rfl hi (by rw [issueAt_mloop hi.1, issueAt_ldyn])
  · exact Does.of_setMreg_eq rfl hi (by rw [issueAt_mrun hi.1, stallOf_nothing]; rfl)
  · exact Does.of_setMreg_eq rfl hi (by rw [issueAt_cke_of_nothing rfl])
  · exact Does.of_setMreg_eq rfl hi (by rw [issueAt_mrun hi.1])
  · exact Does.of_issue_alone rfl hi rfl

/-! ### The end of a run (R189 to R191) -/

/-- The lane has given up its run, and with it the loop and the view (R187, R189). -/
def RunEnded (s : State) (lane loop : Nat) (t : State) : Prop :=
  LaneBecomes s lane { s.lane lane with run := none } t ∧ (t.ldyn loop).running = false ∧ t.views.get {} lane = {}

/-- The lanes differ at most in the run of one of them. -/
def AllButRun (s : State) (lane : Nat) (u : State) : Prop :=
  ({ u.lane lane with run := none } : Lane) = { s.lane lane with run := none } ∧ ∀ m, m ≠ lane → u.lane m = s.lane m

theorem AllButRun.of_lanes (h : AllButRun s lane u) (hl : v.eng.lanes = u.eng.lanes) : AllButRun s lane v := by
  have hlane : ∀ m, v.lane m = u.lane m := fun m => by unfold State.lane; rw [hl]
  obtain ⟨hsame, hother⟩ := h
  exact ⟨by rw [hlane]; exact hsame, fun m hm => (hlane m).trans (hother m hm)⟩

theorem allButRun_issueAt (hrun : s.mrun lane = some r) : AllButRun s lane (s.issueAt lane r x) :=
  ⟨by rw [issueAt_lane hrun], fun _ hm => issueAt_lane_other hm⟩

theorem freeLane_ldyn (u : State) (lane loop : Nat) :
    (u.freeLane lane loop).ldyn loop = { u.ldyn loop with running := false } := by
  change ((u.updLane lane fun l => { l with run := none }).updLdyn loop fun d => { d with running := false }).ldyn loop = _
  rw [State.updLdyn_ldyn_same, State.updLane_ldyn]

theorem freeLane_lane (u : State) (lane loop m : Nat) :
    (u.freeLane lane loop).lane m = (u.updLane lane fun l => { l with run := none }).lane m := rfl

theorem runEnded_freeLane {loop : Nat} (h : AllButRun s lane u) : RunEnded s lane loop (u.freeLane lane loop) := by
  obtain ⟨hsame, hother⟩ := h
  refine ⟨⟨?_, fun m hm => ?_⟩, ?_, ?_⟩
  · rw [freeLane_lane, State.updLane_lane_same, hsame]
  · rw [freeLane_lane, State.updLane_lane_other _ _ hm, hother m hm]
  · rw [freeLane_ldyn]
  · exact Tbl.get_set_same ({} : View) _ lane {}

/-- The deadline of a run is judged at its end (R191). -/
def State.judged (s : State) (r : Run) : State := if r.deadline < s.cke then s.loopFlag r.loop fDeadline else s

theorem endRun_eq (u : State) (lane : Nat) (r : Run) :
    u.endRun lane r = (((u.judged r).tally 0x04 ((u.judged r).lent r.loop).cls (latencyBin ((u.judged r).cke - r.posted)) 1).freeLane lane r.loop) :=
  rfl

theorem judged_lanes (u : State) (r : Run) : (u.judged r).eng.lanes = u.eng.lanes := by
  unfold State.judged
  split
  · exact (loopFlag_lanes_now ..).1
  · rfl

theorem runEnded_endRun (h : AllButRun s lane u) : RunEnded s lane r.loop (u.endRun lane r) := by
  rw [endRun_eq]
  exact runEnded_freeLane (h.of_lanes ((congrArg Engine.lanes (only_tally ..).eng).trans (judged_lanes u r)))

theorem endRun_flags (u : State) (lane : Nat) (r : Run) : ((u.endRun lane r).ldyn r.loop).flags = ((u.judged r).ldyn r.loop).flags := by
  rw [endRun_eq, freeLane_ldyn, (only_tally ..).ldyn]

theorem getLsbD_or_bit (y : BitVec 7) {k : Nat} (hk : k < 7) : (y ||| (1 : BitVec 7) <<< k).getLsbD k = true := by
  simp [hk]

theorem judged_flag_of_late (h : r.deadline < u.cke) : ((u.judged r).ldyn r.loop).flags.getLsbD 6 = true := by
  unfold State.judged
  rw [if_pos h, loopFlag_ldyn]
  exact getLsbD_or_bit _ (by decide)

/-- A flag that is raised stands at the end of the run. -/
theorem endRun_flag_of_raised {k : Nat} (hk : k < 7) :
    (((u.loopFlag r.loop k).endRun lane r).ldyn r.loop).flags.getLsbD k = true := by
  have hraised : ((u.loopFlag r.loop k).ldyn r.loop).flags.getLsbD k = true := by
    rw [loopFlag_ldyn]
    exact getLsbD_or_bit _ hk
  rw [endRun_flags]
  unfold State.judged
  split
  · rw [loopFlag_ldyn]
    simp [hraised]
  · exact hraised

theorem RunEnded.settle {loop : Nat} (h : RunEnded s lane loop u) : RunEnded s lane loop (settle u) := by
  obtain ⟨⟨hlane, hother⟩, hdyn, hview⟩ := h
  refine ⟨⟨(settle_lane ..).trans hlane, fun m hm => (settle_lane ..).trans (hother m hm)⟩, ?_, ?_⟩
  · rw [settle_ldyn]
    exact hdyn
  · rw [settle_views]
    exact hview

/-- A lane without a run has none to go on. -/
theorem RunEnded.updRun {loop : Nat} {f : Run → Run} (h : RunEnded s lane loop u) : RunEnded s lane loop (u.updRun lane f) := by
  obtain ⟨⟨hlane, hother⟩, hdyn, hview⟩ := h
  refine ⟨⟨?_, fun m hm => ?_⟩, ?_, ?_⟩
  · rw [State.updRun_eq, State.updLane_lane_same, hlane]
    rfl
  · rw [State.updRun_eq, State.updLane_lane_other _ _ hm, hother m hm]
  · rw [State.updRun_eq, State.updLane_ldyn]
    exact hdyn
  · rw [(only_updRun ..).views]
    exact hview

/-- The run at the slot of its END (R190, R191). -/
def State.atEnd (s : State) (lane : Nat) (r : Run) : State :=
  (s.issueAt lane r { flow := .stop }).reach (r.startAt + ckeT * (r.slots + 1))

theorem atEnd_now (s : State) (lane : Nat) (r : Run) : (s.atEnd lane r).now = max s.now (r.startAt + ckeT * (r.slots + 1)) := by
  have hle : r.startAt + ckeT * r.slots ≤ r.startAt + ckeT * (r.slots + 1) := Nat.add_le_add_left (Nat.mul_le_mul_left _ (Nat.le_succ _)) _
  rw [State.atEnd, State.reach_now, issueAt_now, stallOf_nothing, Nat.add_zero, Nat.max_assoc, Nat.max_eq_right hle]

theorem exec_mEnd (hi : Issues s lane (encZ 0x3F) { flow := .stop } r) :
    exec (.mEnd lane) s = done (((s.atEnd lane r).endRun lane r).updRun lane (Run.advance { flow := .stop })) := by
  have hrun : (s.issueAt lane r { flow := .stop }).mrun lane = some r := by
    rw [issueAt_mrun hi.1, stallOf_nothing]
    rfl
  refine (congrArg done (mStep_of_issues hi _)).trans ?_
  rw [hrun]
  rfl

theorem endRun_now (u : State) (lane : Nat) (r : Run) : (u.endRun lane r).now = u.now := (only_endRun u lane r).now

theorem does_mEnd (hi : Issues s lane (encZ 0x3F) { flow := .stop } r) :
    Does (.mEnd lane) s [.now, .eng, .views, .flt] fun t =>
      RunEnded s lane r.loop t ∧ t.now = max s.now (r.startAt + ckeT * (r.slots + 1)) ∧
      (r.deadline < t.now / ckeT → (t.ldyn r.loop).flags.getLsbD 6 = true) := by
  have hbut : AllButRun s lane (s.atEnd lane r) := (allButRun_issueAt hi.1).of_lanes rfl
  have hnow := atEnd_now s lane r
  have only : Only [.now, .eng, .views, .flt] s (s.atEnd lane r) :=
    ((only_issueAt s lane r _).mono (by simp)).then (only_reach _ _) (by simp)
  have hexec := exec_mEnd hi
  generalize s.atEnd lane r = u at hbut hnow only hexec
  have hend : ((settle ((u.endRun lane r).updRun lane (Run.advance { flow := .stop }))).now) = u.now := by
    rw [settle_now, (only_updRun ..).now, endRun_now]
  refine Does.of_done hexec ⟨(runEnded_endRun hbut).updRun.settle, hend.trans hnow, fun hlate => ?_⟩
    ((only.then (only_endRun u lane r) (by simp)).then (only_updRun _ lane _) (by simp))
  rw [hend] at hlate
  rw [settle_ldyn, State.updRun_eq, State.updLane_ldyn, endRun_flags]
  exact judged_flag_of_late hlate

/-! ### Aborted and illegal runs (R177, R190, R214) -/

theorem exec_runLimit {i : Instr} (hrun : s.mrun lane = some r) (hl : s.legalAt lane r = some i)
    (h : (s.lent r.loop).limit < r.slots + needOf (s.mreg lane) r.prod i) :
    exec (.runLimit lane) s = done (((s.reach (r.startAt + ckeT * (s.lent r.loop).limit)).loopFlag r.loop fRunLimit).endRun lane r) := by
  change execRunLimit lane s = _
  unfold execRunLimit
  rw [hrun]
  dsimp only
  rw [hl]
  exact if_pos h

theorem exec_illegalInstruction (hrun : s.mrun lane = some r) (hb : s.eng.badWords.contains r.pc = false) (hl : s.legalAt lane r = none)
    (hs : r.slots < (s.lent r.loop).limit) :
    exec (.illegalInstruction lane) s = done (((s.reach (r.startAt + ckeT * r.slots)).loopFlag r.loop fBounds).endRun lane r) := by
  change execIllegalInstruction lane s = _
  unfold execIllegalInstruction
  rw [hrun]
  dsimp only
  rw [if_neg (ne_true_of_eq_false hb), hl]
  exact if_neg (not_or.2 ⟨Bool.false_ne_true, Nat.not_le.2 hs⟩)

theorem exec_illegalInstruction_bad (hrun : s.mrun lane = some r) (hb : s.eng.badWords.contains r.pc = true) :
    exec (.illegalInstruction lane) s = done (s.freeLane lane r.loop) := by
  change execIllegalInstruction lane s = _
  unfold execIllegalInstruction
  rw [hrun]
  exact if_pos hb

/-- A command that ends the run at an instant with a flag raised. -/
theorem Does.of_endRun {a k : Nat} (h : exec c s = done (((s.reach a).loopFlag r.loop k).endRun lane r)) (hk : k < 7) :
    Does c s [.now, .eng, .views, .flt] fun t =>
      RunEnded s lane r.loop t ∧ (t.ldyn r.loop).flags.getLsbD k = true ∧ t.now = max s.now a := by
  have hbut : AllButRun s lane ((s.reach a).loopFlag r.loop k) :=
    AllButRun.of_lanes ⟨rfl, fun _ _ => rfl⟩ ((loopFlag_lanes_now (s.reach a) r.loop k).1.trans rfl)
  refine Does.of_done h ⟨(runEnded_endRun hbut).settle, ?_, ?_⟩
    ((((only_reach s a).mono (by simp)).then (only_loopFlag _ r.loop k) (by simp)).then (only_endRun _ lane r) (by simp))
  · rw [settle_ldyn]
    exact endRun_flag_of_raised hk
  · rw [settle_now, endRun_now, (loopFlag_lanes_now ..).2, State.reach_now]

/-! ### Outputs (R192 to R196, R224, R225) -/

/-- Posting to the loops that subscribe to a slot leaves lanes and outputs. -/
theorem foldl_updLdyn_kept {β : Type} (g : β → Nat) (f : State → β → LoopDyn → LoopDyn) (xs : List β) (s : State) :
    (xs.foldl (fun s x => s.updLdyn (g x) (f s x)) s).eng.lanes = s.eng.lanes ∧
    (xs.foldl (fun s x => s.updLdyn (g x) (f s x)) s).eng.outs = s.eng.outs := by
  induction xs generalizing s with
  | nil => exact ⟨rfl, rfl⟩
  | cons x xs ih => exact ih (s.updLdyn (g x) (f s x))

/-- An output leaves every lane and every recorded output as it is, wherever it goes. -/
theorem outSend_kept (u : State) (key : Nat) (bind a : Word) (first : Nat) :
    (u.outSend key bind a first).eng.lanes = u.eng.lanes ∧ (u.outSend key bind a first).eng.outs = u.eng.outs := by
  unfold State.outSend
  dsimp only
  split
  · rw [(only_outNode ..).eng]
    exact ⟨rfl, rfl⟩
  · rw [(only_outConv ..).eng]
    exact ⟨rfl, rfl⟩
  · rw [(only_outKrf ..).eng]
    exact ⟨rfl, rfl⟩
  · exact foldl_updLdyn_kept Prod.fst (fun s y => postTrigger first s.cke y.2) _ _
  · split
    · rw [(only_guardInput ..).eng]
      exact ⟨rfl, rfl⟩
    · exact ⟨rfl, rfl⟩
  · exact ⟨rfl, rfl⟩
  · exact ⟨rfl, rfl⟩

theorem outSend_mbox {bind : Word} (h : bind.toNat / 2 ^ 28 = 6) (u : State) (key : Nat) (a : Word) (first : Nat) :
    (u.outSend key bind a first).eng.mbox.get 0 (bind.toNat % 4096) = a := by
  have hdest : bind.toNat % 2 ^ 28 % 4096 = bind.toNat % 4096 := Nat.mod_mod_of_dvd _ (by decide)
  unfold State.outSend
  dsimp only
  rw [h]
  change Tbl.get 0 (Tbl.set 0 u.eng.mbox (bind.toNat % 2 ^ 28 % 4096) a) _ = a
  rw [hdest]
  exact Tbl.get_set_same ..

/-- The value that an OUT sends: its own in a closed loop and to the hub guard, and else the manual value (R195, R369). -/
def State.sentBy (s : State) (lane : Nat) (r : Run) (b : Nat) (a : Word) : Word :=
  if r.closed || decide (((s.lent r.loop).binds.get 0 b).toNat / 2 ^ 28 = 5) then a
  else (((s.views.get {} lane).com.loop r.loop).man).get 0 b

/-- What an OUT records of its value (R194). -/
def State.outRecord (s : State) (lane : Nat) (r : Run) (b : Nat) (a : Word) : OutEnt :=
  { value := a, age := min ((s.cke + 2 ^ 32 - r.first % 2 ^ 32) % 2 ^ 32) 65535, sent := r.closed, lastSent := s.sentBy lane r b a }

/-- The value of an OUT is recorded. -/
def State.recordOut (s : State) (lane : Nat) (r : Run) (b : Nat) (a : Word) : State :=
  s.updEng fun e => { e with outs := e.outs.set {} (4 * r.loop + b) (s.outRecord lane r b a) }

theorem outOf_scribe (h : r.scribe = true) (b : Nat) (a : Word) : u.outOf lane r b a = u := if_pos h

theorem outOf_unbound {b : Nat} (h : r.scribe = false) (hb : ((u.lent r.loop).binds.get 0 b).toNat / 2 ^ 28 = 0) (a : Word) :
    u.outOf lane r b a = u.raiseBounds lane := by
  unfold State.outOf
  rw [if_neg (ne_true_of_eq_false h)]
  exact if_pos hb

theorem outOf_bound {b : Nat} (h : r.scribe = false) (hb : ((u.lent r.loop).binds.get 0 b).toNat / 2 ^ 28 ≠ 0) (a : Word) :
    u.outOf lane r b a =
      (u.recordOut lane r b a).outSend (4 * r.loop + b) ((u.lent r.loop).binds.get 0 b) (u.sentBy lane r b a) r.first := by
  unfold State.outOf
  rw [if_neg (ne_true_of_eq_false h)]
  exact (if_neg hb).trans rfl

theorem recordOut_outs (u : State) (lane : Nat) (r : Run) (b : Nat) (a : Word) :
    (u.recordOut lane r b a).eng.outs.get {} (4 * r.loop + b) = u.outRecord lane r b a := Tbl.get_set_same ..

/-- An OUT issues: the run itself sends the value of the register. -/
theorem exec_mOut {b : Fin 4} {ra : Fin 32} (hi : Issues s lane (encU b ra) {} r) :
    ∃ f, exec (.mOut lane b ra) s = mDo s lane (encU b ra) {} f ∧
      f (s.issueAt lane r {}) = (s.issueAt lane r {}).outOf lane r b (s.mreg lane ra) := by
  have hrun : (s.issueAt lane r {}).mrun lane = some r := by
    rw [issueAt_mrun hi.1, stallOf_nothing]
    rfl
  refine ⟨_, rfl, ?_⟩
  rw [hrun, hi.mreg]

theorem outOf_kept (h : r.scribe = false) {b : Nat} (hb : ((u.lent r.loop).binds.get 0 b).toNat / 2 ^ 28 ≠ 0) (a : Word) :
    (u.outOf lane r b a).eng.lanes = u.eng.lanes ∧ (u.outOf lane r b a).eng.outs.get {} (4 * r.loop + b) = u.outRecord lane r b a ∧
    (((u.lent r.loop).binds.get 0 b).toNat / 2 ^ 28 = 6 →
      (u.outOf lane r b a).eng.mbox.get 0 (((u.lent r.loop).binds.get 0 b).toNat % 4096) = u.sentBy lane r b a) := by
  rw [outOf_bound h hb]
  refine ⟨(outSend_kept ..).1.trans rfl, ?_, fun hm => outSend_mbox hm ..⟩
  rw [(outSend_kept ..).2]
  exact recordOut_outs ..

/-- An OUT records its value and sends it on. -/
theorem does_mOut_bound {b : Fin 4} {ra : Fin 32} (hi : Issues s lane (encU b ra) {} r) (h : r.scribe = false)
    (hb : ((s.lent r.loop).binds.get 0 b).toNat / 2 ^ 28 ≠ 0) :
    Does (.mOut lane b ra) s (partsOf (.mOut lane b ra)) fun t =>
      Issued s lane r {} (s.lane lane) t ∧
      ∃ u : State, u.now = t.now ∧ t.eng.outs.get {} (4 * r.loop + b) = u.outRecord lane r b (s.mreg lane ra) ∧
      (((s.lent r.loop).binds.get 0 b).toNat / 2 ^ 28 = 6 →
        t.eng.mbox.get 0 (((s.lent r.loop).binds.get 0 b).toNat % 4096) = u.sentBy lane r b (s.mreg lane ra)) := by
  have hlent := issueAt_lent s lane r.loop r {}
  rw [← hlent] at hb
  obtain ⟨hlanes, houts, hmbox⟩ := outOf_kept (lane := lane) h hb (s.mreg lane ra)
  have onlyOut := only_outOf (s.issueAt lane r {}) lane r b (s.mreg lane ra)
  obtain ⟨f, hexec, hf⟩ := exec_mOut hi
  refine Does.of_issue hexec hi r.sameButFlags_refl ?_ ?_ (parts_subset (ps := [.eng]) rfl (by simp)) ⟨s.issueAt lane r {}, ?_, ?_, fun hm => ?_⟩
  · rw [hf]
    exact (left_issueAt hi.1).of_lanes hlanes onlyOut.now
  · rw [hf]
    exact ((only_issueAt s lane r {}).mono (parts_subset rfl)).then onlyOut (parts_subset rfl)
  · rw [hf, settle_now, (only_updRun ..).now, onlyOut.now]
  · rw [hf, settle_eng, State.updRun_eq, congrArg Engine.outs (State.updLane_eng ..)]
    exact houts
  · rw [hf, settle_eng, State.updRun_eq, congrArg Engine.mbox (State.updLane_eng ..)]
    rw [← hlent] at hm ⊢
    exact hmbox hm

/-! ### Where the run goes (R226, R227) -/

theorem after_pc_of_jump {t : Nat} (h : x.flow = .jump t) :
    (r.after x).pc = t ∧ (r.after x).bodies = popPast t r.bodies ∧ (r.after x).calls = r.calls := by
  unfold Run.after
  rw [h]
  exact ⟨rfl, rfl, rfl⟩

theorem after_pc_of_call {t : Nat} (h : x.flow = .call t) : (r.after x).pc = t ∧ (r.after x).calls = (r.pc + 1) :: r.calls := by
  unfold Run.after
  rw [h]
  exact ⟨rfl, rfl⟩

theorem after_pc_of_ret {p : Nat} {rest : List Nat} (h : x.flow = .ret) (hc : r.calls = p :: rest) :
    (r.after x).pc = p ∧ (r.after x).calls = rest := by
  unfold Run.after
  rw [h]
  exact ⟨congrArg (·.headD 0) hc, congrArg List.tail hc⟩

theorem after_pc_of_openBody {last n : Nat} (h : x.flow = .openBody last n) :
    (r.after x).pc = r.pc + 1 ∧ (r.after x).bodies = { first := r.pc + 1, last := last, left := n } :: r.bodies := by
  unfold Run.after
  rw [h]
  exact ⟨rfl, rfl⟩

theorem after_of_seq (h : x.flow = .seq) :
    (r.after x).bodies = (afterBody r.pc r.bodies).1 ∧ (r.after x).pc = (afterBody r.pc r.bodies).2 := by
  unfold Run.after
  rw [h]
  exact ⟨rfl, rfl⟩

/-- A run that steps past an instruction inside a body, at its end, or at the end of the outermost one (R227 item 4). -/
theorem after_pc_of_seq {b : Body} {rest : List Body} (h : x.flow = .seq) (hb : r.bodies = b :: rest) :
    (r.pc ≠ b.last → (r.after x).pc = r.pc + 1 ∧ (r.after x).bodies = r.bodies) ∧
    (r.pc = b.last → 1 < b.left → (r.after x).pc = b.first ∧ (r.after x).bodies = { b with left := b.left - 1 } :: rest) ∧
    (r.pc = b.last → b.left ≤ 1 → rest = [] → (r.after x).pc = r.pc + 1 ∧ (r.after x).bodies = []) := by
  obtain ⟨hbodies, hpc⟩ := after_of_seq (r := r) h
  rw [hpc, hbodies, hb]
  refine ⟨fun hne => ?_, fun heq hleft => ?_, fun heq hleft hrest => ?_⟩
  · simp only [afterBody, if_neg hne, and_self]
  · simp only [afterBody, if_pos heq, if_pos hleft, and_self]
  · simp only [afterBody, if_pos heq, if_neg (Nat.not_lt.2 hleft), hrest, and_self]

/-- Settles O30: a transfer of control is the run's step alone; an OUT records and sends; a run's end frees its lane. -/
theorem controlFlowAndRunEnds : Obligations.ControlFlowAndRunEnds := by
  intro s lane r a L ended
  refine ⟨fun ra rb t hi => ?_, fun ra rb t hi => ?_, fun ra rb t hi => ?_, fun ra rb t hi => ?_, fun ra rb t hi => ?_,
    fun ra rb t hi => ?_, fun ra n t hi => ?_, fun ra n t hi => ?_, fun t hi => ?_, fun t hi => ?_, fun hi => ?_,
    fun cnt last hi => ?_, fun ra mx last hi => ?_, fun x t h => after_pc_of_jump h, fun x t h => after_pc_of_call h,
    fun x p rest h hc => after_pc_of_ret h hc, fun x last n h => after_pc_of_openBody h, fun x b rest h hb => after_pc_of_seq h hb,
    fun hi => does_mEnd hi, fun b ra hi h => ?_, fun b ra hi h hb => ?_, fun b ra hi h hb => ?_, fun i hrun hl hlt => ?_,
    fun hrun hb hl hs => ?_, fun hrun hb => ?_⟩
  case refine_14 =>
    obtain ⟨f, hexec, hf⟩ := exec_mOut hi
    exact Does.of_issue_alone hexec hi (by rw [hf, outOf_scribe h])
  case refine_15 =>
    obtain ⟨f, hexec, hf⟩ := exec_mOut hi
    exact Does.of_raiseBounds hexec hi (by rw [hf, outOf_unbound h (by rw [issueAt_lent]; exact hb)])
  case refine_16 =>
    refine (does_mOut_bound hi h hb).imp fun t ht => ?_
    obtain ⟨hissued, u, hnow, hout, hmbox⟩ := ht
    refine ⟨hissued, ?_, ?_, ?_, fun hc => ?_, fun hm => ?_⟩
    · rw [hout]; rfl
    · rw [hout]; rfl
    · rw [hout, ← hnow]; rfl
    · rw [hout]
      exact if_pos (by rw [hc, Bool.true_or])
    · rw [hout]
      exact hmbox hm
  case refine_17 => exact Does.of_endRun (exec_runLimit hrun hl hlt) (by decide)
  case refine_18 => exact Does.of_endRun (exec_illegalInstruction hrun hb hl hs) (by decide)
  case refine_19 =>
    refine Does.of_done (exec_illegalInstruction_bad hrun hb) ⟨(runEnded_freeLane ⟨rfl, fun _ _ => rfl⟩).settle, ?_⟩
      (only_freeLane s lane r.loop)
    rw [settle_ldyn, freeLane_ldyn]
  all_goals exact Does.of_issue_alone rfl hi rfl

end Sys2Proof.Machine
end

section
/-! SUPPORT. The converter (R111 to R138): what passes over many phases leave, cancellations, loop outputs, and the proofs of the
obligations about outputs and main phases. -/

namespace Sys2Proof.Machine

-- The joined text is checked under a memory limit that counts every thread's stack: one proof at a time.
set_option Elab.async false

variable {c : Instr} {s u v t : State} {n m : Nat}

/-! ### Passes over phases -/

/-- Of the state, a change of a phase changes the phases of the converter alone. -/
theorem State.updPhase_conv (s : State) (n : Nat) (f : Phase → Phase) :
    (s.updPhase n f).conv = { s.conv with phases := (s.updPhase n f).conv.phases } := rfl

/-- A pass over different phases changes each once, where what it makes of one does not depend on another. -/
theorem foldl_updPhase_phase {f : Nat → State → Phase → Phase} (hf : ∀ n k s g p, n ≠ k → f n (s.updPhase k g) p = f n s p)
    {xs : List Nat} (nodup : xs.Nodup) (s : State) (m : Nat) :
    (xs.foldl (fun s n => s.updPhase n (f n s)) s).phase m = if m ∈ xs then f m s (s.phase m) else s.phase m := by
  induction xs generalizing s with
  | nil => rfl
  | cons x xs ih =>
    obtain ⟨hx, hxs⟩ := List.nodup_cons.1 nodup
    rw [List.foldl_cons, ih hxs]
    by_cases hm : m = x
    · subst hm
      rw [if_neg hx, State.updPhase_phase_same, if_pos (List.mem_cons_self ..)]
    · rw [State.updPhase_phase_other _ _ hm, hf _ _ _ _ _ hm]
      simp only [List.mem_cons, hm, false_or]

/-- A pass that changes phases, wherever its condition holds, leaves the time and everything else of the converter. -/
theorem foldl_phases_kept {g : State → Nat → State} (hg : ∀ s n, (g s n).conv = { s.conv with phases := (g s n).conv.phases })
    (xs : List Nat) (s : State) : (xs.foldl g s).conv = { s.conv with phases := (xs.foldl g s).conv.phases } := by
  induction xs generalizing s with
  | nil => rfl
  | cons x xs ih =>
    rw [List.foldl_cons, ih (g s x), hg s x]

/-- A condition chooses whether a phase changes. -/
theorem updPhase_ite_conv (s : State) (n : Nat) (b : Prop) [Decidable b] (f : Phase → Phase) :
    (if b then s.updPhase n f else s).conv = { s.conv with phases := (if b then s.updPhase n f else s).conv.phases } := by
  split <;> rfl

theorem mains_nodup : mains.Nodup := List.nodup_range

theorem mem_mains : n ∈ mains ↔ n < 32 := List.mem_range

/-! ### Cancellations (R124) -/

/-- The main phases after a cancellation. -/
def State.cancelPass (s : State) : State := mains.foldl (fun s n => s.updPhase n fun p => p.cancelled s.now) s

theorem State.cancelPass_phase (s : State) (m : Nat) :
    s.cancelPass.phase m = if m ∈ mains then (s.phase m).cancelled s.now else s.phase m :=
  foldl_updPhase_phase (f := fun _ s p => p.cancelled s.now) (fun _ _ _ _ _ _ => rfl) mains_nodup s m

theorem State.cancelPass_conv (s : State) : s.cancelPass.conv = { s.conv with phases := s.cancelPass.conv.phases } :=
  foldl_phases_kept (g := fun s n => s.updPhase n fun p => p.cancelled s.now) (fun _ _ => rfl) mains s

theorem State.cancelPass_now (s : State) : s.cancelPass.now = s.now :=
  (Only.foldl _ (fun s n => only_updPhase s n fun p => p.cancelled s.now) mains s).now

/-- What a cancellation changes beside the phases, once they have been passed over. -/
def State.holdOffSheds (u : State) : State :=
  (u.updRail .vib fun q => { q with de := if q.st = .ramp then q.de else false }).updConv fun c => { c with shedHold := some (u.now + 100 * usT) }

theorem State.cancel_eq (s : State) : s.cancel = s.cancelPass.holdOffSheds := rfl

theorem State.holdOffSheds_phase (u : State) (m : Nat) : u.holdOffSheds.phase m = u.phase m := rfl

theorem State.holdOffSheds_conv (u : State) : u.holdOffSheds.conv =
    { u.conv with vib := { u.conv.vib with de := if u.conv.vib.st = RailSt.ramp then u.conv.vib.de else false },
                  shedHold := some (u.now + 100 * usT) } := rfl

theorem State.cancel_phase (s : State) (m : Nat) : s.cancel.phase m = if m ∈ mains then (s.phase m).cancelled s.now else s.phase m := by
  rw [State.cancel_eq, State.holdOffSheds_phase, State.cancelPass_phase]

/-- Of the converter a cancellation changes the phases, VIB's diode emulation and the hold-off. -/
theorem State.cancel_conv (s : State) : s.cancel.conv =
    { s.conv with phases := s.cancelPass.conv.phases,
                  vib := { s.conv.vib with de := if s.conv.vib.st = RailSt.ramp then s.conv.vib.de else false },
                  shedHold := some (s.now + 100 * usT) } := by
  rw [State.cancel_eq, State.holdOffSheds_conv, State.cancelPass_now, s.cancelPass_conv]

theorem ite_false_eq_and {p : Prop} [Decidable p] (b : Bool) : (if p then b else false) = (decide p && b) := by
  by_cases h : p <;> simp [h]

theorem cancelled_cancel (s : State) : Cancelled s s.cancel := by
  have hconv := s.cancel_conv
  refine ⟨fun n hn => ?_, fun n hn => ?_, ?_, ?_⟩
  · rw [State.cancel_phase, if_pos (mem_mains.2 hn)]
  · rw [State.cancel_phase, if_neg (mt mem_mains.1 (Nat.not_lt.2 hn))]
  · rw [hconv]
  · change s.cancel.conv.vib = _
    rw [hconv, ← ite_false_eq_and]
    rfl

theorem Cancelled.settle (h : Cancelled s t) : Cancelled s (settle t) := by
  obtain ⟨hmain, hpriv, hhold, hvib⟩ := h
  refine ⟨fun n hn => ?_, fun n hn => ?_, ?_, ?_⟩
  · rw [settle_phase, hmain n hn]
  · rw [settle_phase, hpriv n hn]
  · rw [settle_conv, hhold]
  · rw [settle_rail, hvib]

/-- A cancellation is about phases, the time and VIB. -/
theorem Cancelled.of_same (h : Cancelled u t) (hphase : ∀ n, u.phase n = s.phase n) (hnow : u.now = s.now) (hvib : u.rail .vib = s.rail .vib) :
    Cancelled s t := by
  obtain ⟨hmain, hpriv, hhold, hrail⟩ := h
  refine ⟨fun n hn => ?_, fun n hn => ?_, ?_, ?_⟩
  · rw [hmain n hn, hphase, hnow]
  · rw [hpriv n hn, hphase]
  · rw [hhold, hnow]
  · rw [hrail, hvib]

/-- Later changes elsewhere leave a cancellation. -/
theorem Cancelled.of_target (h : Cancelled s t) (hphase : ∀ n, v.phase n = t.phase n) (hhold : v.conv.shedHold = t.conv.shedHold)
    (hvib : v.rail .vib = t.rail .vib) : Cancelled s v := by
  obtain ⟨hmain, hpriv, hshed, hrail⟩ := h
  exact ⟨fun n hn => (hphase n).trans (hmain n hn), fun n hn => (hphase n).trans (hpriv n hn), hhold.trans hshed, hvib.trans hrail⟩

/-- Raising the target changes phases alone (R125). -/
theorem State.raiseTarget_conv (s : State) : s.raiseTarget.conv = { s.conv with phases := s.raiseTarget.conv.phases } := by
  have hfirst := foldl_phases_kept
    (g := fun s n => if s.counted < s.target then s.updPhase n fun p => { p with st := .active, at_ := s.now } else s)
    (fun s n => updPhase_ite_conv ..) (s.mainsIn .provisional) s
  unfold State.raiseTarget
  dsimp only
  generalize (s.mainsIn .provisional).foldl (fun s n =>
    if s.counted < s.target then s.updPhase n fun p => { p with st := .active, at_ := s.now } else s) s = u at hfirst ⊢
  rw [foldl_phases_kept
    (g := fun s n => if s.counted < s.target then s.updPhase n fun p => { p.enable with st := .wake, at_ := s.now } else s)
    (fun s n => updPhase_ite_conv ..) (u.mainsIn .shed) u, hfirst]

theorem State.raiseTarget_of_none (h : s.mainsIn .provisional = []) (h' : s.mainsIn .shed = []) : s.raiseTarget = s := by
  unfold State.raiseTarget
  rw [h]
  dsimp only [List.foldl_nil]
  rw [h']
  rfl

/-! ### Offsets (R115, R252) -/

/-- The offset that a loop asks for, held in the rail's window. -/
def State.heldOffset (s : State) (x : Rail) (o : Int) : Int := clampI o ((s.railWin x).1 - s.railSet x) ((s.railWin x).2 - s.railSet x)

theorem orderOffset_offReq (s : State) (x : Rail) (o : Int) : ((s.orderOffset x o).rail x).offReq = s.heldOffset x o := by
  change ((s.updRail x fun q => { q with offReq := s.heldOffset x o, offAt := if q.off = q.offReq then s.now else q.offAt }).rail x).offReq = _
  rw [State.updRail_rail_same]

theorem orderOffset_other (s : State) (o : Int) {x y : Rail} (h : y ≠ x) : (s.orderOffset x o).rail y = s.rail y :=
  State.updRail_rail_other _ _ h

theorem heldOffset_of_com (h : u.com = s.com) (x : Rail) (o : Int) : u.heldOffset x o = s.heldOffset x o := by
  unfold State.heldOffset State.railWin State.railSet
  rw [h]

theorem orderOffset_conv (s : State) (x : Rail) (o : Int) :
    (s.orderOffset x o).conv.lastOutAt = s.conv.lastOutAt ∧ (s.orderOffset x o).conv.engLoss = s.conv.engLoss := by
  cases x <;> exact ⟨rfl, rfl⟩

theorem viboff_does (s : State) (v : Word) : Does (.viboff v) s [.conv] fun t =>
    (t.rail .vib).offReq = s.heldOffset .vib (v.setWidth 8).toInt ∧
    (t.rail .vqa) = s.rail .vqa ∧ (t.rail .vqc) = s.rail .vqc ∧ t.conv.lastOutAt = s.now ∧ t.conv.engLoss = false := by
  refine Does.of_done (u := s.takeViboff v) rfl ?_ (only_takeViboff s v)
  rw [settle_rail, settle_rail, settle_rail, settle_conv, State.takeViboff, orderOffset_offReq, sfield_zero]
  exact ⟨rfl, orderOffset_other _ _ (by decide), orderOffset_other _ _ (by decide), (orderOffset_conv ..).1, (orderOffset_conv ..).2⟩

theorem qoff_does (s : State) (v : Word) : Does (.qoff v) s [.conv] fun t =>
    (t.rail .vqa).offReq = s.heldOffset .vqa (sfield v 0 8) ∧ (t.rail .vqc).offReq = s.heldOffset .vqc (sfield v 8 8) ∧
    (t.rail .vib) = s.rail .vib ∧ t.conv.lastOutAt = s.now ∧ t.conv.engLoss = false := by
  refine Does.of_done (u := s.takeQoff v) rfl ?_ (only_takeQoff s v)
  rw [settle_rail, settle_rail, settle_rail, settle_conv, State.takeQoff, orderOffset_offReq]
  refine ⟨?_, ?_, ?_, ?_, ?_⟩
  · rw [orderOffset_other _ _ (by decide), orderOffset_offReq]
    rfl
  · rfl
  · rw [orderOffset_other _ _ (by decide), orderOffset_other _ _ (by decide)]
    rfl
  · rw [(orderOffset_conv ..).1, (orderOffset_conv ..).1]
    rfl
  · rw [(orderOffset_conv ..).2, (orderOffset_conv ..).2]
    rfl

theorem ntarget_does (s : State) (v : Word) (h : s.mainsIn .provisional = []) (h' : s.mainsIn .shed = []) :
    Does (.ntarget v) s [.conv] fun t => t.conv = { s.conv with ntarget := min 32 (v.toNat % 64), lastOutAt := s.now, engLoss := false } := by
  have hraise : s.takeNtarget v = s.convOut.updConv fun c => { c with ntarget := min 32 (ufield v 0 6) } :=
    State.raiseTarget_of_none h h'
  have hfield : ufield v 0 6 = v.toNat % 64 := congrArg (· % 64) (Nat.div_one v.toNat)
  refine Does.of_done (u := s.takeNtarget v) rfl ?_ (only_takeNtarget s v)
  rw [settle_conv, hraise, hfield]
  rfl

/-! ### Trims (R120) -/

/-- The trim of a phase with its output taken. -/
def Phase.trimmed (frozen : Bool) (x : Int) (p : Phase) : Phase :=
  let e := decide (x = 24) || decide (x = -24)
  { p with trim := if frozen then p.trim else x, ends := if e then p.ends + 1 else 0, trimLim := p.trimLim && e }

theorem trim_does (v : Word) (hn : n < 40) : Does (.trim n v) s [.conv]
    (PhaseBecomes s n (Phase.trimmed (s.trimFrozen n) (clampI (v.setWidth 6).toInt (-24) 24) (s.phase n))) := by
  have hexec : exec (.trim n v) s =
      done (s.convOut.updPhase n (Phase.trimmed (s.trimFrozen n) (clampI (sfield v 0 6) (-24) 24))) :=
    congrArg done (if_neg (Nat.not_le.2 hn))
  rw [sfield_zero] at hexec
  refine Does.of_done hexec (phaseBecomes_settle.2 (phaseBecomes_updPhase s.convOut n _)) ?_
  exact (only_updConv s _).trans (only_updPhase _ n _)

/-! ### Cancellation outputs (R123) -/

theorem cancel_does_of_bit {v : Word} (h : v.getLsbD 0 = true) :
    Does (.cancel v) s [.conv] fun t => Cancelled s t ∧ t.conv.lastOutAt = s.now := by
  have hexec : exec (.cancel v) s = done s.convOut.cancel := congrArg done (if_pos h)
  refine Does.of_done hexec ⟨((cancelled_cancel s.convOut).of_same (fun _ => rfl) rfl rfl).settle, ?_⟩
    ((only_updConv s _).trans (only_cancel _))
  rw [settle_conv, State.cancel_conv]
  rfl

theorem cancel_does_of_no_bit {v : Word} (h : v.getLsbD 0 = false) :
    Does (.cancel v) s [.conv] fun t => t.conv = { s.conv with lastOutAt := s.now, engLoss := false } := by
  have hexec : exec (.cancel v) s = done s.convOut := congrArg done (if_neg (ne_true_of_eq_false h))
  refine Does.of_done hexec ?_ (only_updConv s _)
  rw [settle_conv]
  rfl

/-! ### Kerf and shim outputs (R307, R327, R328) -/

/-- A region has taken a kerf ratio (R307). -/
def State.kerfTaken (s : State) (r x : Nat) : State :=
  s.updKrf r fun k => { k with kLoop := x, run60 := if x = 60 then min 64 (k.run60 + 1) else 0 }

theorem kerfTaken_krf (s : State) (r x : Nat) : ((s.kerfTaken r x).reg r).krf =
    { (s.reg r).krf with kLoop := x, run60 := if x = 60 then min 64 ((s.reg r).krf.run60 + 1) else 0 } := by
  rw [State.kerfTaken, State.updKrf_eq, State.updReg_reg_same]

/-- The shortage bit rises with its cause and its tally (R307). -/
def State.raiseShortage (s : State) : State := ((s.updBud fun b => { b with capshort := true, clearAt := s.now }).cause 2).tally 0x0F 0 0 1

theorem takeKerf_eq {r : Nat} {v : Word} (h : s.hasReg r = true) : s.takeKerf r v =
    if ((s.kerfTaken r (clampI v.toInt 0 60).toNat).reg r).krf.run60 = 64 ∧ s.bud.capshort = false then
      (s.kerfTaken r (clampI v.toInt 0 60).toNat).raiseShortage
    else s.kerfTaken r (clampI v.toInt 0 60).toNat := if_pos h

theorem kerf_does {r : Nat} {v : Word} (h : s.hasReg r = true) (hrun : (s.reg r).krf.run60 < 63) :
    Does (.kerfRatio r v) s [.regs, .flt] fun t =>
      let x := (clampI v.toInt 0 60).toNat
      (t.reg r).krf.kLoop = x ∧ (t.reg r).krf.run60 = (if x = 60 then (s.reg r).krf.run60 + 1 else 0) := by
  have hkrf := kerfTaken_krf s r (clampI v.toInt 0 60).toNat
  have hmin : min 64 ((s.reg r).krf.run60 + 1) = (s.reg r).krf.run60 + 1 := by omega
  rw [hmin] at hkrf
  have hexec : exec (.kerfRatio r v) s = done (s.kerfTaken r (clampI v.toInt 0 60).toNat) := by
    refine congrArg done ((takeKerf_eq h).trans (if_neg fun hno => ?_))
    rw [hkrf] at hno
    obtain ⟨hfull, -⟩ := hno
    dsimp only at hfull
    split at hfull <;> omega
  refine Does.of_done hexec ⟨?_, ?_⟩ ((only_updKrf s r _).mono (by simp))
  · rw [settle_krf_kLoop, hkrf]
  · rw [settle_krf_run60, hkrf]

theorem cause_intcause (s : State) {b : Nat} (hb : b < 9) : (s.cause b).hw.intcause.getLsbD b = true := by
  change (s.hw.intcause ||| (1 : BitVec 9) <<< b).getLsbD b = true
  simp [hb]

theorem tally_get (s : State) (id ix bin n : Nat) :
    (s.tally id ix bin n).flt.tally.get 0 (tallyKey id ix bin) = s.flt.tally.get 0 (tallyKey id ix bin) + n := Tbl.get_set_same ..

theorem clampI_toNat_of_top {x : Int} (h : 60 ≤ x) : (clampI x 0 60).toNat = 60 := by
  unfold clampI
  omega

theorem shortage_does {r : Nat} {v : Word} (h : s.hasReg r = true) (hrun : 63 ≤ (s.reg r).krf.run60) (hv : 60 ≤ v.toInt)
    (hs : s.bud.capshort = false) : Does (.kerfRatio r v) s [.regs, .bud, .flt, .hw] fun t =>
      t.bud.capshort = true ∧ t.bud.clearAt = s.now ∧ t.hw.intcause.getLsbD 2 = true ∧ (t.reg r).krf.run60 = 64 ∧
      t.flt.tally.get 0 (tallyKey 0x0F 0 0) = s.flt.tally.get 0 (tallyKey 0x0F 0 0) + 1 := by
  have hkrf := kerfTaken_krf s r 60
  have hmin : min 64 ((s.reg r).krf.run60 + 1) = 64 := by omega
  rw [if_pos rfl, hmin] at hkrf
  have hexec : exec (.kerfRatio r v) s = done (s.kerfTaken r 60).raiseShortage := by
    refine congrArg done ((takeKerf_eq h).trans ?_)
    rw [clampI_toNat_of_top hv]
    exact if_pos ⟨by rw [hkrf], hs⟩
  refine Does.of_done hexec ⟨?_, ?_, settle_intcause _ 2 (cause_intcause _ (by decide)), ?_, ?_⟩ ?_
  · rw [settle_bud]
    rfl
  · rw [settle_bud]
    rfl
  · rw [settle_krf_run60]
    exact congrArg KerfDyn.run60 hkrf
  · rw [settle_flt_tally]
    exact tally_get ..
  · exact ((((only_updKrf s r _).mono (by simp)).then (only_updBud _ _) (by simp)).then (only_cause _ 2) (by simp)).then
      (only_tally _ _ _ _ _) (by simp)

theorem shim_does {r : Nat} {v : Word} (h : s.hasReg r = true) : Does (.shimIntensity r v) s [.regs] fun t =>
    (t.reg r).krf.sLoop = if s.com.shim.en then (clampI v.toInt 0 15).toNat else 0 := by
  have hexec : exec (.shimIntensity r v) s =
      done (s.updKrf r fun k => { k with sLoop := if s.com.shim.en then (clampI v.toInt 0 15).toNat else 0 }) := congrArg done (if_pos h)
  refine Does.of_done hexec ?_ (only_updKrf s r _)
  rw [settle_krf_sLoop, State.updKrf_eq, State.updReg_reg_same]

/-! ### The loss of the outputs (R34, R137) -/

/-- A rail's offset request is withdrawn. -/
def State.zeroOffset (s : State) (x : Rail) : State :=
  s.updRail x fun q => { q with offReq := 0, offAt := if q.off = q.offReq then s.now else q.offAt }

/-- The converter has lost its outputs: cancelled, with its own target and no offsets. -/
def State.outputsLost (s : State) : State :=
  (((s.cancel.updConv fun c => { c with engLoss := true, ntarget := 32 }).zeroOffset .vib).zeroOffset .vqa).zeroOffset .vqc

/-- Where the engine as a whole has stopped dispatching, its loss begins (R34). -/
def State.watchEngine (s : State) : State :=
  if s.eng.dispatching ∧ s.eng.lastRun + 10 * usT ≤ s.now ∧ s.sys.engStopAt = none then s.updSys fun y => { y with engStopAt := some s.now }
  else s

theorem exec_converterOutputTimeout (h : s.conv.engLoss = false) :
    exec .converterOutputTimeout s = done (s.reach (s.conv.lastOutAt + 10 * usT)).outputsLost.watchEngine.raiseTarget :=
  if_neg (ne_true_of_eq_false h)

theorem only_outputsLost (s : State) : Only [.conv] s s.outputsLost :=
  ((((only_cancel s).trans (only_updConv _ _)).trans (only_updRail _ .vib _)).trans (only_updRail _ .vqa _)).trans (only_updRail _ .vqc _)

theorem outputsLost_offReq (s : State) (x : Rail) : (s.outputsLost.rail x).offReq = 0 := by
  unfold State.outputsLost
  generalize s.cancel.updConv _ = u
  cases x <;> rfl

theorem zeroOffset_conv (s : State) (x : Rail) :
    (s.zeroOffset x).conv.engLoss = s.conv.engLoss ∧ (s.zeroOffset x).conv.shedHold = s.conv.shedHold := by
  cases x <;> exact ⟨rfl, rfl⟩

theorem outputsLost_conv (s : State) : s.outputsLost.conv.engLoss = true ∧ s.outputsLost.conv.shedHold = some (s.now + 100 * usT) := by
  unfold State.outputsLost
  simp only [zeroOffset_conv, State.updConv_conv, State.cancel_conv, and_self]

theorem watchEngine_conv (s : State) : s.watchEngine.conv = s.conv := by
  unfold State.watchEngine
  split <;> rfl

theorem watchEngine_engStopAt (s : State) : s.watchEngine.sys.engStopAt =
    if s.eng.dispatching ∧ s.eng.lastRun + 10 * usT ≤ s.now ∧ s.sys.engStopAt = none then some s.now else s.sys.engStopAt := by
  unfold State.watchEngine
  split <;> rfl

theorem only_watchEngine (s : State) : Only [.sys] s s.watchEngine := Only.ite _ (fun _ => only_updSys s _) fun _ => Only.refl _ s

theorem raiseTarget_rail (s : State) (x : Rail) : s.raiseTarget.rail x = s.rail x := by
  cases x
  · exact (congrArg ConvDyn.vib s.raiseTarget_conv).trans rfl
  · exact (congrArg ConvDyn.vqa s.raiseTarget_conv).trans rfl
  · exact (congrArg ConvDyn.vqc s.raiseTarget_conv).trans rfl

theorem outputTimeout_does (h : s.conv.engLoss = false) : Does .converterOutputTimeout s [.now, .conv, .sys] fun t =>
    t.conv.engLoss = true ∧ t.now = max s.now (s.conv.lastOutAt + 10 * usT) ∧
    t.sys.engStopAt = (if s.eng.dispatching = true ∧ s.eng.lastRun + 10 * usT ≤ t.now ∧ s.sys.engStopAt = none then some t.now else s.sys.engStopAt) ∧
    (∀ x, (t.rail x).offReq = 0) ∧ t.conv.shedHold = some (t.now + 100 * usT) := by
  have hexec := exec_converterOutputTimeout h
  have only : Only [.now, .conv] s (s.reach (s.conv.lastOutAt + 10 * usT)).outputsLost :=
    ((only_reach s _).mono (by simp)).then (only_outputsLost _) (by simp)
  have hoff := outputsLost_offReq (s.reach (s.conv.lastOutAt + 10 * usT))
  obtain ⟨hloss, hhold⟩ := outputsLost_conv (s.reach (s.conv.lastOutAt + 10 * usT))
  have hnow := (only_outputsLost (s.reach (s.conv.lastOutAt + 10 * usT))).now
  generalize (s.reach (s.conv.lastOutAt + 10 * usT)).outputsLost = u at hexec only hoff hloss hhold hnow
  rw [State.reach_now] at hnow hhold
  have hnow' : (settle u.watchEngine.raiseTarget).now = u.now := by
    rw [settle_now, (only_raiseTarget _).now, (only_watchEngine u).now]
  refine Does.of_done hexec ⟨?_, hnow'.trans hnow, ?_, fun x => ?_, ?_⟩
    (((only.mono (by simp)).then (only_watchEngine u) (by simp)).then (only_raiseTarget _) (by simp))
  · rw [settle_conv, State.raiseTarget_conv, watchEngine_conv]
    exact hloss
  · rw [hnow', settle_sys, (only_raiseTarget _).sys, watchEngine_engStopAt, only.eng, only.sys]
  · rw [settle_rail, raiseTarget_rail]
    have hrail : u.watchEngine.rail x = u.rail x := by
      unfold State.rail
      rw [watchEngine_conv]
    rw [hrail]
    exact hoff x
  · rw [hnow', settle_conv, State.raiseTarget_conv, watchEngine_conv, hnow]
    exact hhold

/-! ### Orderly stops (R381, R382, R385, R459) -/

theorem service_bstate (h : s.service = true) : s.hw.bstate ≠ .stopping := by
  intro hb
  unfold State.service at h
  rw [hb] at h
  exact absurd h (by decide)

theorem orderlyStop_eq {k : StopKind} (h : s.service = true) (hs : s.sys.stop = .none) : orderlyStop s k =
    ((s.updSys fun y => { y with stop := k, stopStep := 1, stopAt := s.now, drainDone := false }).updHw fun h =>
      { h with bstate := .stopping }).cause 5 := by
  refine (if_neg (not_or.2 ⟨not_not_intro hs, fun hno => Bool.noConfusion (h.symm.trans hno)⟩)).trans ?_
  exact if_neg (service_bstate h)

theorem engineLoss_does {a : Nat} (h : s.sys.engStopAt = some a) (hservice : s.service = true) (hs : s.sys.stop = .none) :
    Does .engineLossTimeout s [.now, .sys, .hw] fun t =>
      t.now = max s.now (a + msT) ∧ t.sys.stop = .engine ∧ t.sys.stopStep = 1 ∧ t.hw.bstate = .stopping ∧ t.hw.intcause.getLsbD 5 = true := by
  have hexec : exec .engineLossTimeout s = done (orderlyStop (s.reach (a + msT)) .engine) := by
    change execEngineLossTimeout s = _
    unfold execEngineLossTimeout
    rw [h]
  have only := ((only_reach s (a + msT)).mono (qs := [.now, .sys, .hw]) (by simp)).then (only_orderlyStop _ .engine) (by simp)
  have heq : orderlyStop (s.reach (a + msT)) .engine = _ := orderlyStop_eq (s := s.reach (a + msT)) hservice hs
  rw [heq] at hexec only
  refine Does.of_done hexec ⟨?_, ?_, ?_, ?_, settle_intcause _ 5 (cause_intcause _ (by decide))⟩ only
  · rw [settle_now]
    rfl
  · rw [settle_sys]
    rfl
  · rw [settle_sys]
    rfl
  · rw [settle_hw_bstate]
    rfl

theorem agoneChange_does (r : Nat) (level : Bool) : Does (.agoneChange r level) s [.regs] fun t =>
    (t.reg r).seq.agone = level ∧ (t.reg r).seq.agoneAt = if level && !(s.reg r).seq.agone then s.now else (s.reg r).seq.agoneAt := by
  refine Does.of_done (u := s.updSeq r fun q => { q with agone := level, agoneAt := if level && !q.agone then s.now else q.agoneAt }) rfl
    ⟨?_, ?_⟩ (only_updSeq s r _)
  · rw [settle_seq_agone, State.updSeq_eq, State.updReg_reg_same]
  · rw [settle_seq_agoneAt, State.updSeq_eq, State.updReg_reg_same]

/-- Settles O36: each output goes to its own rail, phase or region; their loss cancels and withdraws. -/
theorem converterLoopOutputsArrive : Obligations.ConverterLoopOutputsArrive := by
  intro s
  refine ⟨viboff_does s, qoff_does s, ntarget_does s, fun n v hn hf => ?_, fun n v hn hf => ?_, fun v h => cancel_does_of_bit h,
    fun v h => cancel_does_of_no_bit h, fun r v h hrun => kerf_does h hrun, fun r v h hrun hv hs => shortage_does h hrun hv hs,
    fun r v h => shim_does h, outputTimeout_does, fun a h hservice hs => engineLoss_does h hservice hs, agoneChange_does⟩
  · have htrim := trim_does (s := s) v hn
    rw [hf] at htrim
    exact htrim
  · refine (trim_does v hn).imp fun t ht => ?_
    obtain ⟨hsame, hother⟩ := ht
    rw [hf] at hsame
    exact ⟨by rw [hsame]; rfl, hother⟩

end Sys2Proof.Machine
end

section
/-! SUPPORT. The main phases and the rails of the converter (R112 to R136, R409): firings, limits, sheds, faults and spares, starts
and stops, protection, and the proofs of the obligations about them. -/

namespace Sys2Proof.Machine

-- The joined text is checked under a memory limit that counts every thread's stack: one proof at a time.
set_option Elab.async false

variable {c : Instr} {s u v t : State} {n m : Nat}

/-! ### Commands that change one phase -/

theorem Does.of_updPhase {f : Phase → Phase} (h : exec c s = done (s.updPhase n f)) : Does c s [.conv] (PhaseBecomes s n (f (s.phase n))) :=
  Does.of_done h (phaseBecomes_settle.2 (phaseBecomes_updPhase s n f)) (only_updPhase s n f)

/-- A command that waits for a time and then changes one phase. -/
theorem Does.of_reach_updPhase {a : Nat} {f : Phase → Phase} (h : exec c s = done ((s.reach a).updPhase n f)) :
    Does c s [.now, .conv] fun t => t.now = max s.now a ∧ PhaseBecomes s n (f (s.phase n)) t := by
  refine Does.of_done h ⟨?_, phaseBecomes_settle.2 (phaseBecomes_updPhase (s.reach a) n f)⟩
    (((only_reach s a).mono (by simp)).then (only_updPhase _ n f) (by simp))
  rw [settle_now, State.updPhase_now, State.reach_now]

/-! ### What a sensed voltage leaves (R135) -/

/-- The time from which a sensed voltage has lain above 1.10 times the reference (R135). -/
def State.excessFrom (s : State) (x : Rail) (a : Nat) : Option Nat :=
  if decide (11 * s.railRef x < 10 * (a : Int)) && decide ((s.rail x).st ≠ .off) && decide ((s.rail x).st ≠ .fault) then
    some ((s.rail x).ovFrom.getD s.now)
  else none

theorem noteRail_rail_same (s : State) (x : Rail) (a : Nat) :
    (s.noteRail x a).rail x = { s.rail x with v := a, ovFrom := s.excessFrom x a } := State.updRail_rail_same ..

theorem noteRail_rail_other (s : State) {x y : Rail} (a : Nat) (h : y ≠ x) : (s.noteRail x a).rail y = s.rail y :=
  State.updRail_rail_other _ _ h

theorem noteRail_phase (s : State) (x : Rail) (a m : Nat) : (s.noteRail x a).phase m = s.phase m := by
  cases x <;> rfl

/-- Rails with the same state, set-point, offset and time: the reference is the same (R115, R132, R133). -/
theorem railRef_congr {x : Rail} (hcom : u.com = s.com) (hnow : u.now = s.now)
    {a : Nat} {b : Option Nat} (hq : u.rail x = { s.rail x with v := a, ovFrom := b }) : u.railRef x = s.railRef x := by
  unfold State.railRef State.railTarget State.railMv State.railSet State.railWin State.startRamp
  rw [hcom, hnow, hq]

/-! ### Firings of VIB's comparator (R116 to R118) -/

/-- What the control of a low side reads of the state. -/
theorem settlePwm_congr {imon : List Int} {p : Phase} (hcom : u.com = s.com) (hnow : u.now = s.now)
    (hst : ∀ x, (u.rail x).st = (s.rail x).st) (hde : u.conv.vib.de = s.conv.vib.de) (hp : u.phase n = s.phase n) :
    u.settlePwm imon n p = s.settlePwm imon n p := by
  unfold State.settlePwm State.lowSide State.imonFloor State.railOfSlot State.passign
  simp only [hcom, hnow, hst, hde, hp]

/-- Settling a phase's level changes the level alone. -/
theorem settlePwm_fields (s : State) (imon : List Int) (n : Nat) (p : Phase) :
    ∃ b, s.settlePwm imon n p = { p with pwm := b } := by
  unfold State.settlePwm
  split
  · exact ⟨_, rfl⟩
  · exact ⟨p.pwm, rfl⟩

/-- Sensed input and output of the converter. -/
def State.sense (s : State) (vin a : Nat) : State := (s.noteVin vin).noteRail .vib a

theorem sense_phase (s : State) (vin a m : Nat) : (s.sense vin a).phase m = s.phase m := rfl

theorem sense_vib (s : State) (vin a : Nat) :
    (s.sense vin a).rail .vib = { s.rail .vib with v := a, ovFrom := (s.noteVin vin).excessFrom .vib a } := rfl

theorem sense_st (s : State) (vin a : Nat) (x : Rail) : ((s.sense vin a).rail x).st = (s.rail x).st := by
  cases x <;> rfl

theorem sense_railRef (s : State) (vin a : Nat) : (s.sense vin a).railRef .vib = s.railRef .vib :=
  railRef_congr rfl rfl (sense_vib s vin a)

theorem sense_settlePwm (s : State) (vin a : Nat) (imon : List Int) (n : Nat) (p : Phase) :
    (s.sense vin a).settlePwm imon n p = s.settlePwm imon n p :=
  settlePwm_congr rfl rfl (sense_st s vin a) rfl rfl

theorem rotation_congr (hst : ∀ k, (u.phase k).st = (s.phase k).st) (hs : ∀ k, (u.phase k).s = (s.phase k).s) : u.rotation = s.rotation := by
  unfold State.rotation
  simp only [hst, hs]

theorem State.rotation_nodup (s : State) : s.rotation.Nodup := mains_nodup.filter _

/-- The phases in rotation settle (R112, R126). -/
def State.settleRotation (s : State) (imon : List Int) : State := s.rotation.foldl (fun s n => s.updPhase n (s.settlePwm imon n)) s

theorem only_settleRotation (s : State) (imon : List Int) : Only [.conv] s (s.settleRotation imon) :=
  Only.foldl _ (fun s n => only_updPhase s n _) _ _

theorem settleRotation_phase (s : State) (imon : List Int) (m : Nat) :
    (s.settleRotation imon).phase m = if m ∈ s.rotation then s.settlePwm imon m (s.phase m) else s.phase m :=
  foldl_updPhase_phase (f := fun n s p => s.settlePwm imon n p)
    (fun _ _ _ _ _ hne => settlePwm_congr rfl rfl (fun x => by rw [State.updPhase_rail]) rfl (State.updPhase_phase_other _ _ hne))
    s.rotation_nodup s m

theorem settleRotation_conv (s : State) (imon : List Int) :
    (s.settleRotation imon).conv = { s.conv with phases := (s.settleRotation imon).conv.phases } :=
  foldl_phases_kept (g := fun s n => s.updPhase n (s.settlePwm imon n)) (fun _ _ => rfl) s.rotation s

/-- But for their levels the phases are as before. -/
theorem settleRotation_fields (s : State) (imon : List Int) (m : Nat) :
    ∃ b, (s.settleRotation imon).phase m = { s.phase m with pwm := b } := by
  rw [settleRotation_phase]
  split
  · exact settlePwm_fields ..
  · exact ⟨(s.phase m).pwm, rfl⟩

/-- The next phase of the rotation that may turn on (R116). -/
def State.nextPhase (s : State) : Option Nat :=
  ((s.rotation.filter fun k => decide ((s.phase k).offAt + 100 ≤ nsOf s.now)).find? fun k => decide (s.conv.rot ≤ k)) <|>
    (s.rotation.filter fun k => decide ((s.phase k).offAt + 100 ≤ nsOf s.now)).head?

theorem nextPhase_mem (h : s.nextPhase = some n) : n ∈ s.rotation := by
  unfold State.nextPhase at h
  have hmem : n ∈ s.rotation.filter fun k => decide ((s.phase k).offAt + 100 ≤ nsOf s.now) := by
    generalize (s.rotation.filter fun k => decide ((s.phase k).offAt + 100 ≤ nsOf s.now)) = l at *
    cases hfind : l.find? fun k => decide (s.conv.rot ≤ k) with
    | some k =>
      rw [hfind] at h
      exact List.mem_of_find?_eq_some (hfind.trans h)
    | none =>
      rw [hfind] at h
      exact List.mem_of_head? h
  exact (List.mem_filter.1 hmem).1

theorem nextPhase_congr (hrot : u.rotation = s.rotation) (hoff : ∀ k, (u.phase k).offAt = (s.phase k).offAt) (hnow : u.now = s.now)
    (hr : u.conv.rot = s.conv.rot) : u.nextPhase = s.nextPhase := by
  unfold State.nextPhase
  simp only [hrot, hoff, hnow, hr]

/-- A phase turns on and the rotation moves on (R116, R117). -/
def State.fire (s : State) (vin n : Nat) : State :=
  (s.updPhase n fun p => p.turnOn (nsOf s.now) (s.mainTon vin n)).updConv fun c => { c with rot := n + 1, fires := c.fires + 1 }

/-- The converter when its comparator fires: sensed and settled. -/
def State.atFiring (s : State) (vin a : Nat) (imon : List Int) : State := (s.sense vin a).settleRotation imon

theorem only_atFiring (s : State) (vin a : Nat) (imon : List Int) : Only [.conv] s (s.atFiring vin a imon) :=
  ((only_noteVin s vin).trans (only_noteRail _ .vib a)).trans (only_settleRotation _ imon)

theorem sense_rotation (s : State) (vin a : Nat) : (s.sense vin a).rotation = s.rotation := rotation_congr (fun _ => rfl) fun _ => rfl

theorem atFiring_phase (s : State) (vin a : Nat) (imon : List Int) (m : Nat) :
    (s.atFiring vin a imon).phase m = if m ∈ s.rotation then s.settlePwm imon m (s.phase m) else s.phase m := by
  rw [State.atFiring, settleRotation_phase, sense_rotation, sense_phase, sense_settlePwm]

theorem atFiring_fields (s : State) (vin a : Nat) (imon : List Int) (m : Nat) :
    ∃ b, (s.atFiring vin a imon).phase m = { s.phase m with pwm := b } := settleRotation_fields (s.sense vin a) imon m

theorem atFiring_conv (s : State) (vin a : Nat) (imon : List Int) :
    (s.atFiring vin a imon).conv = { (s.sense vin a).conv with phases := (s.atFiring vin a imon).conv.phases } := settleRotation_conv ..

theorem atFiring_vib (s : State) (vin a : Nat) (imon : List Int) :
    (s.atFiring vin a imon).rail .vib = { s.rail .vib with v := a, ovFrom := (s.noteVin vin).excessFrom .vib a } := by
  change (s.atFiring vin a imon).conv.vib = _
  rw [atFiring_conv]
  exact sense_vib s vin a

theorem atFiring_nextPhase (s : State) (vin a : Nat) (imon : List Int) : (s.atFiring vin a imon).nextPhase = s.nextPhase := by
  have hfields : ∀ k, ((s.atFiring vin a imon).phase k).st = (s.phase k).st ∧ ((s.atFiring vin a imon).phase k).s = (s.phase k).s ∧
      ((s.atFiring vin a imon).phase k).offAt = (s.phase k).offAt := fun k => by
    obtain ⟨b, hb⟩ := atFiring_fields s vin a imon k
    rw [hb]
    exact ⟨rfl, rfl, rfl⟩
  refine nextPhase_congr (rotation_congr (fun k => (hfields k).1) fun k => (hfields k).2.1) (fun k => (hfields k).2.2)
    (only_atFiring s vin a imon).now ?_
  rw [atFiring_conv]
  rfl

theorem mainTon_congr {vin : Nat} {b : Pwm} (hcom : u.com = s.com) (href : u.railRef .vib = s.railRef .vib)
    (hk : u.conv.vib.klock = s.conv.vib.klock) (hp : u.phase n = { s.phase n with pwm := b }) : u.mainTon vin n = s.mainTon vin n := by
  unfold State.mainTon Phase.factor
  rw [hcom, href, hk, hp]

theorem atFiring_mainTon (s : State) (vin a : Nat) (imon : List Int) (n : Nat) :
    (s.atFiring vin a imon).mainTon vin n = s.mainTon vin n := by
  obtain ⟨b, hb⟩ := atFiring_fields s vin a imon n
  have only := only_atFiring s vin a imon
  have hvib := atFiring_vib s vin a imon
  refine mainTon_congr only.com (railRef_congr only.com only.now hvib) ?_ hb
  exact (congrArg RailDyn.klock hvib).trans rfl

theorem turnOn_fields (a b : Rat) (p : Phase) : (p.turnOn a b).pwm = .high ∧ (p.turnOn a b).ton = b := ⟨rfl, rfl⟩

theorem exec_converterComparatorFire {vin a ramp : Nat} {imon : List Int}
    (h : ¬ ((s.sense vin a).conv.vib.st.switching = false ∨ (s.sense vin a).conv.vib.heldLow ∨ (s.sense vin a).vibBelow a ramp = false))
    (hn : (s.atFiring vin a imon).nextPhase = some n) :
    exec (.converterComparatorFire vin a ramp imon) s = done ((s.atFiring vin a imon).fire vin n) := by
  refine (if_neg h).trans ?_
  change (match (s.atFiring vin a imon).nextPhase with
    | none => done (s.atFiring vin a imon)
    | some n => done ((s.atFiring vin a imon).fire vin n)) = _
  rw [hn]

theorem sense_fires {vin a ramp : Nat} (hsw : s.conv.vib.st.switching = true) (hlow : s.conv.vib.heldLow = false)
    (hbelow : 512 * (a : Int) + 2 * mrippleMv s.com.conv.mripple * (ramp % 256 : Nat) <
      512 * s.railRef .vib + 256 * mrippleMv s.com.conv.mripple) :
    ¬ ((s.sense vin a).conv.vib.st.switching = false ∨ (s.sense vin a).conv.vib.heldLow ∨ (s.sense vin a).vibBelow a ramp = false) := by
  have hvib : (s.sense vin a).vibBelow a ramp = true := by
    unfold State.vibBelow
    rw [sense_railRef]
    exact decide_eq_true hbelow
  rintro (h | h | h)
  · exact Bool.noConfusion (hsw.symm.trans h)
  · exact Bool.noConfusion (hlow.symm.trans h)
  · exact Bool.noConfusion (hvib.symm.trans h)

theorem fire_phase_same (u : State) (vin n : Nat) : (u.fire vin n).phase n = (u.phase n).turnOn (nsOf u.now) (u.mainTon vin n) :=
  State.updPhase_phase_same u n _

theorem fire_phase_other (u : State) (vin : Nat) (h : m ≠ n) : (u.fire vin n).phase m = u.phase m := State.updPhase_phase_other u _ h

theorem fire_conv (u : State) (vin n : Nat) :
    (u.fire vin n).conv.rot = n + 1 ∧ (u.fire vin n).conv.fires = u.conv.fires + 1 ∧ (u.fire vin n).conv.vin = u.conv.vin := ⟨rfl, rfl, rfl⟩

theorem only_fire (u : State) (vin n : Nat) : Only [.conv] u (u.fire vin n) := (only_updPhase u n _).trans (only_updConv _ _)

theorem mainTon_ge (s : State) (vin n : Nat) : 20 ≤ s.mainTon vin n := rat_le_max_left _ _

theorem comparatorFire_does {vin a ramp : Nat} {imon : List Int} (hsw : s.conv.vib.st.switching = true) (hlow : s.conv.vib.heldLow = false)
    (hbelow : 512 * (a : Int) + 2 * mrippleMv s.com.conv.mripple * (ramp % 256 : Nat) <
      512 * s.railRef .vib + 256 * mrippleMv s.com.conv.mripple)
    (hnext : s.nextPhase = some n) : Does (.converterComparatorFire vin a ramp imon) s [.conv] fun t =>
      t.phase n = (s.settlePwm imon n (s.phase n)).turnOn (nsOf s.now) (s.mainTon vin n) ∧ (t.phase n).pwm = .high ∧ 20 ≤ (t.phase n).ton ∧
      (∀ m, m ≠ n → t.phase m = if m ∈ s.rotation then s.settlePwm imon m (s.phase m) else s.phase m) ∧
      t.conv.rot = n + 1 ∧ t.conv.fires = s.conv.fires + 1 ∧ t.conv.vin = vin := by
  have hexec := exec_converterComparatorFire (imon := imon) (sense_fires (vin := vin) hsw hlow hbelow)
    ((atFiring_nextPhase s vin a imon).trans hnext)
  have only := only_atFiring s vin a imon
  have hphase := atFiring_phase s vin a imon
  have hton := atFiring_mainTon s vin a imon n
  have hconv := atFiring_conv s vin a imon
  generalize s.atFiring vin a imon = u at hexec only hphase hton hconv
  have hn : (settle (u.fire vin n)).phase n = (s.settlePwm imon n (s.phase n)).turnOn (nsOf s.now) (s.mainTon vin n) := by
    rw [settle_phase, fire_phase_same, hphase, if_pos (nextPhase_mem hnext), only.now, hton]
  obtain ⟨hrot, hfires, hvin⟩ := fire_conv u vin n
  refine Does.of_done hexec ⟨hn, ?_, ?_, fun m hm => ?_, ?_, ?_, ?_⟩ (only.trans (only_fire u vin n))
  · rw [hn]
    exact (turnOn_fields ..).1
  · rw [hn, (turnOn_fields ..).2]
    exact mainTon_ge ..
  · rw [settle_phase, fire_phase_other u vin hm, hphase]
  · rw [settle_conv, hrot]
  · rw [settle_conv, hfires, hconv]
    rfl
  · rw [settle_conv, hvin, hconv]
    rfl

/-! ### Limits, sheds and cancellations of the main phases (R119 to R124, R136) -/

theorem exec_phasePeakLimit {cur : Nat} (hn : n < 40) (hp : (s.phase n).pwm = .high) (hon : (s.phase n).onAt ≤ nsOf s.now)
    (hoff : nsOf s.now < (s.phase n).offAt) (hcur : s.com.conv.pklim ≤ cur) :
    exec (.phasePeakLimit n cur) s = done (s.updPhase n fun p => { p with
      pwm := .low, offAt := nsOf s.now, ton := nsOf s.now - p.onAt, pk := if p.pkHit then p.pk else p.pk + 1, pkHit := true, pkAt := s.now }) :=
  if_pos ⟨hn, hp, hon, hoff, hcur⟩

theorem exec_phaseOverload (hn : n < 40) (hp : 8 ≤ (s.phase n).pk) :
    exec (.phaseOverload n) s = done (s.updPhase n fun p => { p with overload := true }).cancel := if_pos ⟨hn, hp⟩

theorem exec_phaseOverloadClear (hn : n < 40) (hp : (s.phase n).overload = true) : exec (.phaseOverloadClear n) s =
    done ((s.reach ((s.phase n).pkAt + msT)).updPhase n fun p => { p with overload := false, pk := 0 }) := if_pos ⟨hn, hp⟩

theorem exec_trimLimit (hn : n < 40) (hp : 64 ≤ (s.phase n).ends) :
    exec (.trimLimit n) s = done (s.updPhase n fun p => { p with trimLim := true }) := if_pos ⟨hn, hp⟩

/-- A command that changes a phase, or nothing, and then cancels (R124). -/
theorem Does.of_cancel {only : Only [.conv] s u} (h : exec c s = done u.cancel) : Does c s [.conv] (Cancelled u) :=
  Does.of_done h (cancelled_cancel u).settle (only.trans (only_cancel u))

theorem railTarget_congr {x : Rail} {a : Nat} {b : Option Nat} (hcom : u.com = s.com)
    (hq : u.rail x = { s.rail x with v := a, ovFrom := b }) : u.railTarget x = s.railTarget x := by
  unfold State.railTarget State.railWin
  rw [hcom, hq]

theorem exec_vibDroopCrossing_far {a : Nat} (hst : s.conv.vib.st = .reg) (h : (a : Int) + s.com.conv.cdroop < s.railTarget .vib) :
    exec (.vibDroopCrossing a) s = done (s.noteRail .vib a).cancel :=
  if_pos ⟨hst, by rw [railTarget_congr rfl (noteRail_rail_same s .vib a)]; exact h⟩

theorem exec_vibDroopCrossing_near {a : Nat} (h : s.railTarget .vib ≤ (a : Int) + s.com.conv.cdroop) :
    exec (.vibDroopCrossing a) s = done (s.noteRail .vib a) :=
  if_neg fun hno => by
    obtain ⟨-, hlt⟩ := hno
    rw [railTarget_congr rfl (noteRail_rail_same s .vib a)] at hlt
    exact absurd h (Int.not_le.2 hlt)

theorem droopNear_does {a : Nat} (h : s.railTarget .vib ≤ (a : Int) + s.com.conv.cdroop) : Does (.vibDroopCrossing a) s [.conv]
    fun t => (t.rail .vib).v = a ∧ (t.rail .vib).st = (s.rail .vib).st ∧ (t.rail .vib).de = (s.rail .vib).de ∧
      (∀ y, y ≠ .vib → t.rail y = s.rail y) ∧ ∀ m, t.phase m = s.phase m := by
  refine Does.of_done (exec_vibDroopCrossing_near h) ?_ (only_noteRail s .vib a)
  rw [settle_rail, noteRail_rail_same]
  refine ⟨rfl, rfl, rfl, fun y hy => ?_, fun m => ?_⟩
  · rw [settle_rail, noteRail_rail_other s a hy]
  · rw [settle_phase, noteRail_phase]

theorem exec_currentStep_far {rise : Nat} (h : 10 * s.com.conv.cstep < rise) : exec (.currentStepDetected rise) s = done s.cancel := if_pos h

theorem exec_currentStep_near {rise : Nat} (h : rise ≤ 10 * s.com.conv.cstep) : exec (.currentStepDetected rise) s = done s :=
  if_neg (Nat.not_lt.2 h)

theorem exec_shedHoldoffExpiry {a : Nat} (h : s.conv.shedHold = some a) :
    exec .shedHoldoffExpiry s = done ((s.reach a).updConv fun c => { c with shedHold := none }) := by
  change execShedHoldoffExpiry s = _
  unfold execShedHoldoffExpiry
  rw [h]

theorem shedHoldoffExpiry_does {a : Nat} (h : s.conv.shedHold = some a) : Does .shedHoldoffExpiry s [.now, .conv] fun t =>
    t.conv = { s.conv with shedHold := none } ∧ t.now = max s.now a := by
  refine Does.of_done (exec_shedHoldoffExpiry h) ⟨?_, ?_⟩ (((only_reach s a).mono (by simp)).then (only_updConv _ _) (by simp))
  · rw [settle_conv]
    rfl
  · rw [settle_now]
    rfl

/-- A phase whose shed time is over (R122). -/
theorem provisionalExpiry_does (hn : n < 40) (hp : (s.phase n).st = .provisional) : Does (.provisionalExpiry n) s [.now, .conv] fun t =>
    t.now = max s.now ((s.phase n).at_ + 20 * usT) ∧ PhaseBecomes s n { s.phase n with st := .shed, en := false, at_ := t.now } t := by
  refine (Does.of_reach_updPhase (exec_provisionalExpiry hn hp)).imp fun t ht => ?_
  obtain ⟨hnow, hbecomes⟩ := ht
  exact ⟨hnow, by rw [hnow]; exact hbecomes⟩

theorem shedBegin_does {total : Nat} (due : s.ShedDue total) (hlast : (s.mainsIn .active).getLast? = some n) :
    Does (.shedBegin total) s [.conv] fun t =>
      PhaseBecomes s n { s.phase n with st := .provisional, pwm := .mid, at_ := s.now } t ∧ t.conv.lastShed = some s.now := by
  refine Does.of_done (exec_shedBegin_of_shedDue due hlast) ⟨phaseBecomes_settle.2 (phaseBecomes_beginShed s n), ?_⟩ (only_beginShed s n)
  rw [settle_conv]
  rfl

/-- Settles O42: a firing turns the next phase on, and every other event changes one phase or cancels. -/
theorem mainPhasesSwitchAndAreShed : Obligations.MainPhasesSwitchAndAreShed := by
  intro s n p
  refine ⟨fun vin v ramp imon hsw hlow hbelow hnext => comparatorFire_does hsw hlow hbelow hnext,
    fun cur hn hp hon hoff hcur => Does.of_updPhase (exec_phasePeakLimit hn hp hon hoff hcur),
    fun hn hp => Does.of_cancel (only := only_updPhase s n _) (exec_phaseOverload hn hp), fun hn hp => ?_,
    fun hn hp => Does.of_updPhase (exec_trimLimit hn hp), fun total permit inReg aboveTarget aboveMin noWake noAdmit held spaced load hlast => ?_,
    fun hn hp => provisionalExpiry_does hn hp,
    fun v hst h => Does.of_cancel (only := only_noteRail s .vib v) (exec_vibDroopCrossing_far hst h), fun v h => droopNear_does h,
    fun rise h => Does.of_cancel (only := Only.refl _ s) (exec_currentStep_far h),
    fun rise h => Does.of_done (exec_currentStep_near h) trivial (Only.refl _ s), fun a h => shedHoldoffExpiry_does h⟩
  · exact (Does.of_reach_updPhase (exec_phaseOverloadClear hn hp)).imp fun t ht => ht.symm
  · refine shedBegin_does ⟨permit, inReg, aboveTarget, aboveMin, noWake, noAdmit, fun a ha => ?_, spaced, load⟩ hlast
    rw [held] at ha
    exact absurd ha (by simp)

/-! ### Wakes, admissions and faults of phases (R130, R131) -/

theorem exec_wakeElapsed_wake (hn : n < 40) (hp : (s.phase n).st = .wake) : exec (.wakeElapsed n) s =
    done ((s.reach ((s.phase n).at_ + usT * s.com.conv.wake)).updPhase n fun p =>
      { p with st := .active, at_ := max s.now ((s.phase n).at_ + usT * s.com.conv.wake) }) := by
  refine (if_neg (Nat.not_le.2 hn)).trans ?_
  rw [hp]
  rfl

theorem exec_wakeElapsed_admitting (hn : n < 40) (hp : (s.phase n).st = .admitting) (hs : (s.phase n).s = 0) : exec (.wakeElapsed n) s =
    done ((s.reach ((s.phase n).at_ + usT * s.com.conv.wake)).updPhase n fun p =>
      { p with s := 1, at_ := max s.now ((s.phase n).at_ + usT * s.com.conv.wake) }) := by
  refine (if_neg (Nat.not_le.2 hn)).trans ?_
  rw [hp]
  exact if_pos hs

/-- One step of a phase's ramp (R131). -/
def Phase.rampStep (now : Nat) (p : Phase) : Phase :=
  if 64 ≤ p.s then { p with st := .active, s := 0, at_ := now } else { p with s := p.s + 1, at_ := now }

theorem exec_admitRampStep (hn : n < 40) (hp : (s.phase n).st = .admitting) (hs : 0 < (s.phase n).s) : exec (.admitRampStep n) s =
    done ((s.reach ((s.phase n).at_ + 4 * usT)).updPhase n (Phase.rampStep (max s.now ((s.phase n).at_ + 4 * usT)))) := if_pos ⟨hn, hp, hs⟩

/-- What a command that waits makes of a phase may name the time it ends at. -/
theorem Does.of_reach_updPhase_now {a : Nat} {f : Nat → Phase → Phase} (h : exec c s = done ((s.reach a).updPhase n (f (max s.now a)))) :
    Does c s [.now, .conv] fun t => t.now = max s.now a ∧ PhaseBecomes s n (f t.now (s.phase n)) t := by
  refine (Does.of_reach_updPhase h).imp fun t ht => ?_
  obtain ⟨hnow, hbecomes⟩ := ht
  exact ⟨hnow, by rw [hnow]; exact hbecomes⟩

/-- A phase that its PSG_FLT_N takes out (R130). -/
def Phase.toFaulted (now : Nat) (p : Phase) : Phase :=
  { p with st := .faulted, pwm := .mid, en := false, s := 0, at_ := now, respDue := true }

theorem Phase.cancelled_st (p : Phase) (a : Nat) : (p.cancelled a).st ≠ .provisional ∧ (p.cancelled a).st ≠ .shed := by
  unfold Phase.cancelled
  cases h : p.st <;> simp [h]

/-- After a cancellation no main phase waits for the target (R124, R125). -/
theorem State.cancel_raiseTarget (s : State) : s.cancel.raiseTarget = s.cancel := by
  have hst : ∀ n ∈ mains, (s.cancel.phase n).st ≠ .provisional ∧ (s.cancel.phase n).st ≠ .shed := fun n hn => by
    rw [State.cancel_phase, if_pos hn]
    exact Phase.cancelled_st _ _
  have hnone : ∀ st, (st = .provisional ∨ st = .shed) → s.cancel.mainsIn st = [] := fun st h => by
    refine List.filter_eq_nil_iff.2 fun n hn => ?_
    obtain ⟨hp, hs⟩ := hst n hn
    rw [decide_eq_true_eq]
    rcases h with rfl | rfl
    · exact hp
    · exact hs
  exact State.raiseTarget_of_none (hnone _ (.inl rfl)) (hnone _ (.inr rfl))

theorem phaseFaulted_main (hflt : (u.phase n).fltN = false) (hrun : (u.phase n).st.running = true) (hn : n < 32) :
    u.phaseFaulted n = ((u.updPhase n (Phase.toFaulted u.now)).tally 0x0C 0 5 1).cancel := by
  unfold State.phaseFaulted
  dsimp only
  rw [if_pos ⟨hflt, hrun⟩, if_pos hn, State.cancel_raiseTarget]
  rfl

theorem phaseFaulted_priv (hflt : (u.phase n).fltN = false) (hrun : (u.phase n).st.running = true) (hn : 32 ≤ n) :
    u.phaseFaulted n = (u.updPhase n (Phase.toFaulted u.now)).tally 0x0C 0 5 1 := by
  unfold State.phaseFaulted
  dsimp only
  rw [if_pos ⟨hflt, hrun⟩, if_neg (Nat.not_lt.2 hn)]
  rfl

theorem phaseFaulted_of_not_running (h : (u.phase n).fltN = true ∨ (u.phase n).st.running = false) : u.phaseFaulted n = u := by
  refine if_neg fun hno => ?_
  obtain ⟨hflt, hrun⟩ := hno
  rcases h with h | h
  · exact Bool.noConfusion (hflt.symm.trans h)
  · exact Bool.noConfusion (h.symm.trans hrun)

/-- PSG_FLT_N of a phase is low. -/
def State.faultLow (s : State) (n : Nat) : State := s.updPhase n fun p => { p with fltN := false }

theorem exec_phaseFault_low (hn : n < 40) : exec (.phaseFault n true) s = done ((s.faultLow n).phaseFaulted n) :=
  (if_neg (Nat.not_le.2 hn)).trans (if_pos rfl)

theorem exec_phaseFault_high (hn : n < 40) : exec (.phaseFault n false) s =
    done (s.updPhase n fun p => { p with fltN := true, fltAt := if p.fltN then p.fltAt else s.now }) :=
  (if_neg (Nat.not_le.2 hn)).trans (if_neg Bool.false_ne_true)

theorem faultLow_phase_same (s : State) (n : Nat) : (s.faultLow n).phase n = { s.phase n with fltN := false } :=
  State.updPhase_phase_same s n _

theorem faultLow_running (h : (s.phase n).st.running = true) :
    ((s.faultLow n).phase n).fltN = false ∧ ((s.faultLow n).phase n).st.running = true := by
  rw [faultLow_phase_same]
  exact ⟨rfl, h⟩

/-- The phase that goes FAULTED, from the level of its pin on. -/
def State.faultOut (s : State) (n : Nat) : State := (s.faultLow n).updPhase n (Phase.toFaulted s.now)

theorem phaseBecomes_faultOut (s : State) (n : Nat) : PhaseBecomes s n
    { s.phase n with st := .faulted, fltN := false, pwm := .mid, en := false, s := 0, at_ := s.now, respDue := true } (s.faultOut n) := by
  refine ⟨?_, fun m hm => ?_⟩
  · rw [State.faultOut, State.updPhase_phase_same, faultLow_phase_same]
    rfl
  · rw [State.faultOut, State.updPhase_phase_other _ _ hm, State.faultLow, State.updPhase_phase_other _ _ hm]

theorem only_faultOut (s : State) (n : Nat) : Only [.conv] s (s.faultOut n) := (only_updPhase s n _).trans (only_updPhase _ n _)

/-- Tallies stand where no fault part is named. -/
theorem Only.tallies {ps : List Part} (h : Only ps s t) (hp : Part.flt ∉ ps := by simp) : t.flt.tally = s.flt.tally := by
  have hflt : t.flt = { s.flt with prev := t.flt.prev } := h.2 .flt hp
  exact (congrArg Faults.tally hflt).trans rfl

theorem phaseFault_main_does (hn : n < 32) (hrun : (s.phase n).st.running = true) : Does (.phaseFault n true) s [.conv, .flt] fun t =>
    Cancelled (s.updPhase n fun p => { p with st := .faulted, fltN := false, pwm := .mid, en := false, s := 0, at_ := s.now, respDue := true }) t ∧
    t.flt.tally.get 0 (tallyKey 0x0C 0 5) = s.flt.tally.get 0 (tallyKey 0x0C 0 5) + 1 := by
  obtain ⟨hflt, hrun'⟩ := faultLow_running hrun
  have hexec : exec (.phaseFault n true) s = done ((s.faultOut n).tally 0x0C 0 5 1).cancel :=
    (exec_phaseFault_low (by omega)).trans (congrArg done (phaseFaulted_main hflt hrun' hn))
  obtain ⟨hsame, hother⟩ := phaseBecomes_faultOut s n
  have onlyOut := only_faultOut s n
  have hvib : (s.faultOut n).rail .vib = s.rail .vib := (State.updPhase_rail ..).trans (State.updPhase_rail ..)
  generalize s.faultOut n = u at *
  refine Does.of_done hexec ⟨Cancelled.settle ((cancelled_cancel _).of_same (fun m => ?_) ?_ ?_), ?_⟩
    (((onlyOut.mono (by simp)).then (only_tally u 0x0C 0 5 1) (by simp)).then (only_cancel _) (by simp))
  · by_cases hm : m = n
    · subst hm
      rw [State.updPhase_phase_same]
      exact hsame
    · rw [State.updPhase_phase_other _ _ hm]
      exact hother m hm
  · exact onlyOut.now
  · rw [State.updPhase_rail]
    exact hvib
  · rw [settle_flt_tally, (only_cancel _).tallies, tally_get, onlyOut.tallies]

theorem phaseFault_priv_does (hn : n < 40) (hpriv : 32 ≤ n) (hrun : (s.phase n).st.running = true) :
    Does (.phaseFault n true) s [.conv, .flt] fun t =>
      PhaseBecomes s n { s.phase n with st := .faulted, fltN := false, pwm := .mid, en := false, s := 0, at_ := s.now, respDue := true } t ∧
      t.flt.tally.get 0 (tallyKey 0x0C 0 5) = s.flt.tally.get 0 (tallyKey 0x0C 0 5) + 1 := by
  obtain ⟨hflt, hrun'⟩ := faultLow_running hrun
  have hexec : exec (.phaseFault n true) s = done ((s.faultOut n).tally 0x0C 0 5 1) :=
    (exec_phaseFault_low hn).trans (congrArg done (phaseFaulted_priv hflt hrun' hpriv))
  refine Does.of_done hexec ⟨phaseBecomes_settle.2 (phaseBecomes_faultOut s n), ?_⟩
    (((only_faultOut s n).mono (by simp)).then (only_tally _ 0x0C 0 5 1) (by simp))
  rw [settle_flt_tally, tally_get, (only_faultOut s n).tallies]

theorem phaseFault_idle_does (hn : n < 40) (hrun : (s.phase n).st.running = false) :
    Does (.phaseFault n true) s [.conv] (PhaseBecomes s n { s.phase n with fltN := false }) := by
  have hexec : exec (.phaseFault n true) s = done (s.updPhase n fun p => { p with fltN := false }) := by
    refine (exec_phaseFault_low hn).trans (congrArg done (phaseFaulted_of_not_running (.inr ?_)))
    rw [faultLow_phase_same]
    exact hrun
  exact Does.of_updPhase hexec

/-! ### Spares and re-admissions (R409) -/

theorem updRec_queue (s : State) (k : Option Nat) (f : CRec → CRec) : (s.updRec k f).stg.queue = s.stg.queue := by
  unfold State.updRec
  split
  · rfl
  · dsimp only
    split <;> rfl

/-- The end of one write leaves those that wait. -/
theorem complete_queue (s : State) (w : SWrite) (st : Status) (held : Bool) (gen : Word) : (s.complete w st held gen).stg.queue = s.stg.queue := by
  unfold State.complete
  dsimp only
  split
  · split
    · rw [(only_fenceMsg ..).stg, updRec_queue]
    · split
      · rw [(only_refuse ..).stg, updRec_queue]
      · split
        · rw [(only_refuse ..).stg, updRec_queue]
        · split
          · rw [(only_refuse ..).stg, updRec_queue]
          · exact updRec_queue ..
  · exact updRec_queue ..

/-- A write of the firmware joins the queue, and what it does not supersede stays in it (R260, R261). -/
theorem stage_queue {w : SWrite} (h : w.src = .firmware) (s : State) :
    (s.stage w).stg.queue = s.stg.queue.filter (fun x => !clashes w x) ++ [w] := by
  have hold : ∀ (xs : List SWrite) (u : State), (xs.foldl (fun s x => s.complete x .superseded false 0) u).stg.queue = u.stg.queue := by
    intro xs
    induction xs with
    | nil => exact fun _ => rfl
    | cons x xs ih => exact fun u => (ih _).trans (complete_queue ..)
  have hqueue := hold (s.stg.queue.filter (clashes w)) s
  unfold State.stage
  dsimp only
  generalize (s.stg.queue.filter (clashes w)).foldl (fun s x => s.complete x .superseded false 0) s = u at hqueue ⊢
  rw [if_neg (by simp [h]), ← hqueue]
  rfl

theorem stage_mem {w : SWrite} (h : w.src = .firmware) (s : State) : w ∈ (s.stage w).stg.queue := by
  rw [stage_queue h]
  simp

theorem stage_mem_of_mem {w x : SWrite} (h : w.src = .firmware) (hx : x ∈ s.stg.queue) (hc : clashes w x = false) :
    x ∈ (s.stage w).stg.queue := by
  rw [stage_queue h]
  simp [hx, hc]

theorem stageFw_mem (s : State) (c : CW) : ∃ w ∈ (s.stageFw c).stg.queue, w.cw = c := ⟨_, stage_mem rfl s, rfl⟩

theorem clashes_of_key {w x : SWrite} (h : cwKey x.cw ≠ cwKey w.cw) : clashes w x = false := by
  unfold clashes
  simp [h]

/-- A write of the set that is staged next. -/
def State.setWrite (s : State) (a : CW) : SWrite := { cw := a, src := .firmware, grp := s.stg.derived }

theorem stageSet_eq (s : State) (a b : CW) : s.stageSet [a, b] =
    ((s.updStg fun x => { x with derived := s.stg.derived + 1 }).stage (s.setWrite a)).stage (s.setWrite b) := rfl

/-- Two writes of one set stand in the queue, where they are of different fields. -/
theorem stageSet_mem (s : State) {a b : CW} (h : cwKey a ≠ cwKey b) :
    (∃ w ∈ (s.stageSet [a, b]).stg.queue, w.cw = a) ∧ ∃ w ∈ (s.stageSet [a, b]).stg.queue, w.cw = b := by
  have hclash : clashes (s.setWrite b) (s.setWrite a) = false := clashes_of_key h
  have hfirst := stage_mem (w := s.setWrite a) rfl (s.updStg fun x => { x with derived := s.stg.derived + 1 })
  rw [stageSet_eq]
  exact ⟨⟨s.setWrite a, stage_mem_of_mem rfl hfirst hclash, rfl⟩, s.setWrite b, stage_mem rfl _, rfl⟩

/-- The response to a phase's fault is not due again. -/
def State.respDone (s : State) (n : Nat) : State := s.updPhase n fun p => { p with respDue := false }

theorem spareResponse_guard (hn : n < 40) (hst : (s.phase n).st = .faulted) (hdue : (s.phase n).respDue = true) (hready : s.sys.ready = true) :
    ¬ (40 ≤ n ∨ (s.phase n).st ≠ .faulted ∨ (s.phase n).respDue = false ∨ s.sys.ready = false) := by
  rintro (h | h | h | h)
  · omega
  · exact h hst
  · exact Bool.noConfusion (hdue.symm.trans h)
  · exact Bool.noConfusion (hready.symm.trans h)

section
variable (hn : n < 40) (hst : (s.phase n).st = .faulted) (hdue : (s.phase n).respDue = true) (hready : s.sys.ready = true)
include hn hst hdue hready

theorem exec_spareResponse_spare {k : Nat} (hk : s.sparePhase n = some k) : exec (.phaseSpareResponse n) s =
    done ((((s.respDone n).stageSet [.phcmd k 1, .phcmd n 2]).tally 0x0C 0 6 1).tally 0x0C 0 11 1) := by
  refine (if_neg (spareResponse_guard hn hst hdue hready)).trans ?_
  rw [hk]
  rfl

theorem exec_spareResponse_retire (hk : s.sparePhase n = none) (h3 : 3 ≤ (s.phase n).readmits) : exec (.phaseSpareResponse n) s =
    done (((s.respDone n).stageFw (.phcmd n 2)).tally 0x0C 0 11 1) := by
  refine (if_neg (spareResponse_guard hn hst hdue hready)).trans ?_
  rw [hk]
  exact if_pos h3

theorem exec_spareResponse_readmit (hk : s.sparePhase n = none) (h3 : (s.phase n).readmits < 3) (hflt : (s.phase n).fltN = true) :
    exec (.phaseSpareResponse n) s =
      done (((((s.reach ((s.phase n).fltAt + 10 * msT)).updPhase n fun p => { p with respDue := false, readmits := p.readmits + 1 }).stageFw
        (.phcmd n 1)).tally 0x0C 0 6 1).tally 0x0C 0 11 1) := by
  refine (if_neg (spareResponse_guard hn hst hdue hready)).trans ?_
  rw [hk]
  exact (if_neg (Nat.not_le.2 h3)).trans (if_neg fun hno => Bool.noConfusion (hflt.symm.trans hno))

omit hready in
theorem sparePhase_ne {k : Nat} (hk : s.sparePhase n = some k) : k ≠ n := by
  rintro rfl
  have hspare := List.find?_some hk
  rw [decide_eq_true_eq, hst] at hspare
  exact PhSt.noConfusion hspare

theorem spareResponse_spare_does {k : Nat} (hk : s.sparePhase n = some k) : Does (.phaseSpareResponse n) s [.conv, .stg, .flt, .ports] fun t =>
    PhaseBecomes s n { s.phase n with respDue := false } t ∧ (∃ w ∈ t.stg.queue, w.cw = .phcmd k 1) ∧ (∃ w ∈ t.stg.queue, w.cw = .phcmd n 2) := by
  have hkey : cwKey (.phcmd k 1) ≠ cwKey (.phcmd n 2) := by
    simp [cwKey, sparePhase_ne hn hst hdue hk]
  have hexec := exec_spareResponse_spare hn hst hdue hready hk
  have hmem := stageSet_mem (s.respDone n) hkey
  have staged := only_stageSet (s.respDone n) [.phcmd k 1, .phcmd n 2]
  generalize (s.respDone n).stageSet [.phcmd k 1, .phcmd n 2] = u at hexec hmem staged
  refine Does.of_done hexec ⟨phaseBecomes_settle.2 ?_, ?_⟩
    (((((only_updPhase s n _).mono (by simp)).then staged (by simp)).then (only_tally u _ _ _ _) (by simp)).then (only_tally _ _ _ _ _) (by simp))
  · obtain ⟨hsame, hother⟩ := phaseBecomes_updPhase s n fun p => { p with respDue := false }
    exact ⟨(staged.phase n).trans hsame, fun m hm => (staged.phase m).trans (hother m hm)⟩
  · rw [settle_stg]
    exact hmem

theorem spareResponse_retire_does (hk : s.sparePhase n = none) (h3 : 3 ≤ (s.phase n).readmits) :
    Does (.phaseSpareResponse n) s [.conv, .stg, .flt, .ports] fun t =>
      PhaseBecomes s n { s.phase n with respDue := false } t ∧ ∃ w ∈ t.stg.queue, w.cw = .phcmd n 2 := by
  have hexec := exec_spareResponse_retire hn hst hdue hready hk h3
  have hmem := stageFw_mem (s.respDone n) (.phcmd n 2)
  have staged := only_stageFw (s.respDone n) (.phcmd n 2)
  generalize (s.respDone n).stageFw (.phcmd n 2) = u at hexec hmem staged
  refine Does.of_done hexec ⟨phaseBecomes_settle.2 ?_, ?_⟩
    ((((only_updPhase s n _).mono (by simp)).then staged (by simp)).then (only_tally u _ _ _ _) (by simp))
  · obtain ⟨hsame, hother⟩ := phaseBecomes_updPhase s n fun p => { p with respDue := false }
    exact ⟨(staged.phase n).trans hsame, fun m hm => (staged.phase m).trans (hother m hm)⟩
  · rw [settle_stg]
    exact hmem

theorem spareResponse_readmit_does (hk : s.sparePhase n = none) (h3 : (s.phase n).readmits < 3) (hflt : (s.phase n).fltN = true) :
    Does (.phaseSpareResponse n) s [.now, .conv, .stg, .flt, .ports] fun t =>
      t.now = max s.now ((s.phase n).fltAt + 10 * msT) ∧
      PhaseBecomes s n { s.phase n with respDue := false, readmits := (s.phase n).readmits + 1 } t ∧ ∃ w ∈ t.stg.queue, w.cw = .phcmd n 1 := by
  have hexec := exec_spareResponse_readmit hn hst hdue hready hk h3 hflt
  have hphase := phaseBecomes_updPhase (s.reach ((s.phase n).fltAt + 10 * msT)) n fun p => { p with respDue := false, readmits := p.readmits + 1 }
  have only : Only [.now, .conv] s ((s.reach ((s.phase n).fltAt + 10 * msT)).updPhase n fun p =>
      { p with respDue := false, readmits := p.readmits + 1 }) :=
    ((only_reach s _).mono (by simp)).then (only_updPhase _ n _) (by simp)
  have hnow : ((s.reach ((s.phase n).fltAt + 10 * msT)).updPhase n fun p => { p with respDue := false, readmits := p.readmits + 1 }).now =
      max s.now ((s.phase n).fltAt + 10 * msT) := rfl
  generalize ((s.reach ((s.phase n).fltAt + 10 * msT)).updPhase n fun p => { p with respDue := false, readmits := p.readmits + 1 }) = u
    at hexec hphase only hnow
  have hmem := stageFw_mem u (.phcmd n 1)
  have staged := only_stageFw u (.phcmd n 1)
  generalize u.stageFw (.phcmd n 1) = v at hexec hmem staged
  obtain ⟨hsame, hother⟩ := hphase
  refine Does.of_done hexec ⟨?_, phaseBecomes_settle.2 ⟨(staged.phase n).trans hsame, fun m hm => (staged.phase m).trans (hother m hm)⟩, ?_⟩
    ((((only.mono (by simp)).then staged (by simp)).then (only_tally v _ _ _ _) (by simp)).then (only_tally _ _ _ _ _) (by simp))
  · rw [settle_now]
    exact staged.now.trans hnow
  · rw [settle_stg]
    exact hmem

end

/-! ### Diode emulation and the frequency lock of VIB (R117, R126, R127) -/

theorem Does.of_updRail {x : Rail} {f : RailDyn → RailDyn} (h : exec c s = done (s.updRail x f)) :
    Does c s [.conv] (RailBecomes s x (f (s.rail x))) :=
  Does.of_done h (railBecomes_settle.2 (railBecomes_updRail s x f)) (only_updRail s x f)

theorem exec_converterDeEntry {mean : Int} (permit : s.com.conv.dePermit = true) (inReg : s.conv.vib.st = .reg)
    (atTarget : (s.mainsIn .active).length = max s.target s.com.conv.minph) (noProv : s.anyIn .provisional = false)
    (noWake : s.anyIn .wake = false) (noAdmit : s.anyIn .admitting = false) (held : s.conv.shedHold = none)
    (low : 100 * mean < 8 * (s.com.conv.phrate : Int)) :
    exec (.converterDeEntry mean) s = done (s.updRail .vib fun q => { q with de := true }) :=
  if_pos ⟨permit, inReg, atTarget, noProv, noWake, noAdmit, s.holdoff_eq_false_iff.2 (fun a ha => by rw [held] at ha; exact absurd ha (by simp)), low⟩

theorem exec_converterDeExit {mean : Int} (hst : s.conv.vib.st = .reg ∨ s.conv.vib.st = .sdelay)
    (high : 12 * (s.com.conv.phrate : Int) < 100 * mean) :
    exec (.converterDeExit mean) s = done (s.updRail .vib fun q => { q with de := false }) := if_pos ⟨hst, high⟩

/-- The lock factor as a free value gives it (R117). -/
def State.nextLock (s : State) : Rat := max (4 / 5) (min (6 / 5) (Config.klock s.free))

theorem nextLock_bounds (s : State) : 4 / 5 ≤ s.nextLock ∧ s.nextLock ≤ 6 / 5 :=
  ⟨rat_le_max_left _ _, rat_max_le (by decide +kernel) (rat_min_le_left _ _)⟩

theorem exec_converterFreqLock (hde : s.conv.vib.de = false) (hsw : s.conv.vib.st.switching = true)
    (hfires : 64 * s.rotation.length ≤ s.conv.fires) : exec .converterFreqLock s =
    done ((s.draw.updRail .vib fun q => { q with klock := s.nextLock }).updConv fun c => { c with fires := 0 }) := by
  refine if_neg ?_
  rintro (h | h | h)
  · exact Bool.noConfusion (hde.symm.trans h)
  · exact Bool.noConfusion (hsw.symm.trans h)
  · omega

theorem freqLock_does (hde : s.conv.vib.de = false) (hsw : s.conv.vib.st.switching = true) (hfires : 64 * s.rotation.length ≤ s.conv.fires) :
    Does .converterFreqLock s [.free, .conv] fun t =>
      RailBecomes s .vib { s.rail .vib with klock := (t.rail .vib).klock } t ∧ 4 / 5 ≤ (t.rail .vib).klock ∧ (t.rail .vib).klock ≤ 6 / 5 ∧
      t.conv.fires = 0 ∧ t.free = s.free + 1 := by
  have hvib : (settle ((s.draw.updRail .vib fun q => { q with klock := s.nextLock }).updConv fun c => { c with fires := 0 })).rail .vib =
      { s.rail .vib with klock := s.nextLock } := by
    rw [settle_rail]
    rfl
  obtain ⟨hlow, hhigh⟩ := nextLock_bounds s
  refine Does.of_done (exec_converterFreqLock hde hsw hfires) ⟨⟨?_, fun y hy => ?_⟩, ?_, ?_, ?_, ?_⟩
    ((((only_draw s).mono (by simp)).then (only_updRail _ .vib _) (by simp)).then (only_updConv _ _) (by simp))
  · rw [hvib]
  · rw [settle_rail]
    cases y
    · exact absurd rfl hy
    · rfl
    · rfl
  · rw [hvib]
    exact hlow
  · rw [hvib]
    exact hhigh
  · rw [settle_conv]
    rfl
  · rw [settle_free]
    rfl

/-! ### Periods of a quiet rail (R128, R129, R131) -/

/-- A pass over different phases with their places changes each once. -/
theorem foldl_zipIdx_updPhase {f : Nat → Nat → Phase → Phase} {xs : List Nat} (nodup : xs.Nodup) (j : Nat) (s : State) (m : Nat) :
    (m ∉ xs → ((xs.zipIdx j).foldl (fun t y => t.updPhase y.1 (f y.1 y.2)) s).phase m = s.phase m) ∧
    (m ∈ xs → ∃ i, ((xs.zipIdx j).foldl (fun t y => t.updPhase y.1 (f y.1 y.2)) s).phase m = f m i (s.phase m)) := by
  induction xs generalizing j s with
  | nil => exact ⟨fun _ => rfl, fun h => absurd h (by simp)⟩
  | cons x xs ih =>
    obtain ⟨hx, hxs⟩ := List.nodup_cons.1 nodup
    obtain ⟨hout, hin⟩ := ih hxs (j + 1) (s.updPhase x (f x j))
    rw [List.zipIdx_cons, List.foldl_cons]
    refine ⟨fun hm => ?_, fun hm => ?_⟩
    · obtain ⟨hmx, hmxs⟩ := not_or.1 (mt List.mem_cons.2 hm)
      rw [hout hmxs, State.updPhase_phase_other _ _ hmx]
    · by_cases hmx : m = x
      · subst hmx
        exact ⟨j, by rw [hout hx, State.updPhase_phase_same]⟩
      · obtain ⟨i, hi⟩ := hin ((List.mem_cons.1 hm).resolve_left hmx)
        exact ⟨i, by rw [hi, State.updPhase_phase_other _ _ hmx]⟩

theorem foldl_zipIdx_conv {f : Nat → Nat → Phase → Phase} (xs : List (Nat × Nat)) (s : State) :
    (xs.foldl (fun t y => t.updPhase y.1 (f y.1 y.2)) s).conv =
      { s.conv with phases := (xs.foldl (fun t y => t.updPhase y.1 (f y.1 y.2)) s).conv.phases } := by
  induction xs generalizing s with
  | nil => rfl
  | cons x xs ih =>
    rw [List.foldl_cons, ih]
    rfl

/-- The divider that a quiet rail takes at a period (R128). -/
def State.quietDiv (s : State) (x : Rail) : Nat := if x = .vqa then s.com.conv.qfdivA else s.com.conv.qfdivC

/-- The phases of a quiet rail that switch, in order (R128, R131). -/
def State.quietPhases (s : State) (x : Rail) : List Nat :=
  (s.slotsOfRail x).filter fun n => (s.phase n).st = .active || ((s.phase n).st = .admitting && decide (0 < (s.phase n).s))

/-- A period of a phase in its place (R128, R131). -/
def State.quietPhase (v : State) (imon : List Int) (x : Rail) (vin len n i : Nat) (p : Phase) : Phase :=
  { (v.settlePwm imon n p).turnOn (nsOf v.now + (quietPlace i len (v.quietDiv x) : Rat) * 10 / 3)
      ((v.settlePwm imon n p).quietTon (v.quietDiv x)
        (((Config.compensator v.free (64 * qcrossKHz (v.qcomp x) + n)).toNat : Rat) / (max 1 vin : Nat))) with
    place := quietPlace i len (v.quietDiv x) }

/-- The rail has begun a period. -/
def State.quietBegun (v : State) (x : Rail) : State := (v.updRail x fun q => { q with div := v.quietDiv x, perAt := v.now }).draw

theorem exec_quietRailPeriod {x : Rail} {vin : Nat} {imon : List Int} (hx : x ≠ .vib) (hsw : (s.rail x).st.switching = true)
    (hlow : (s.rail x).heldLow = false) : exec (.quietRailPeriod x vin imon) s =
    let v := (s.noteVin vin).reach ((s.rail x).perAt + 8 * (s.rail x).div)
    done (((v.quietPhases x).zipIdx.foldl (fun t y => t.updPhase y.1 (v.quietPhase imon x vin (v.quietPhases x).length y.1 y.2))
      (v.quietBegun x))) := by
  have hrail : (s.noteVin vin).rail x = s.rail x := by cases x <;> rfl
  refine (if_neg ?_).trans ?_
  · rw [hrail]
    rintro (h | h | h)
    · exact hx h
    · exact Bool.noConfusion (hsw.symm.trans h)
    · exact Bool.noConfusion (hlow.symm.trans h)
  · rw [← hrail]
    rfl

theorem slotsOfRail_congr (x : Rail) (hcom : u.com = s.com) (hserves : ∀ n, (u.phase n).serves = (s.phase n).serves) :
    u.slotsOfRail x = s.slotsOfRail x := by
  unfold State.slotsOfRail State.fitted State.railOfSlot State.passign
  simp only [hcom, hserves]

theorem slotsOfRail_nodup (s : State) (x : Rail) : (s.slotsOfRail x).Nodup := List.nodup_range.filter _

theorem quietPhases_nodup (s : State) (x : Rail) : (s.quietPhases x).Nodup := (slotsOfRail_nodup s x).filter _

theorem quietPhase_fields (v : State) (imon : List Int) (x : Rail) (vin len n i : Nat) (p : Phase) :
    (v.quietPhase imon x vin len n i p).pwm = .high ∧
    (v.quietPhase imon x vin len n i p).onAt = nsOf v.now + ((v.quietPhase imon x vin len n i p).place : Rat) * 10 / 3 ∧
    (v.quietPhase imon x vin len n i p).offAt = (v.quietPhase imon x vin len n i p).onAt + (v.quietPhase imon x vin len n i p).ton :=
  ⟨rfl, rfl, rfl⟩

theorem quietPeriod_does {x : Rail} {vin : Nat} {imon : List Int} (hx : x ≠ .vib) (hsw : (s.rail x).st.switching = true)
    (hlow : (s.rail x).heldLow = false) : Does (.quietRailPeriod x vin imon) s [.free, .now, .conv] fun t =>
      t.now = max s.now ((s.rail x).perAt + 8 * (s.rail x).div) ∧
      RailBecomes s x { s.rail x with div := s.quietDiv x, perAt := t.now } t ∧ t.free = s.free + 1 ∧
      t.conv.vin = vin ∧ (∀ m, m ∉ s.slotsOfRail x → t.phase m = s.phase m) ∧
      ∀ m ∈ s.slotsOfRail x, (s.phase m).st = .active → (t.phase m).pwm = .high ∧
        (t.phase m).onAt = nsOf t.now + ((t.phase m).place : Rat) * 10 / 3 ∧ (t.phase m).offAt = (t.phase m).onAt + (t.phase m).ton := by
  have hexec := exec_quietRailPeriod (vin := vin) (imon := imon) hx hsw hlow
  have hrail : ∀ y, ((s.noteVin vin).reach ((s.rail x).perAt + 8 * (s.rail x).div)).rail y = s.rail y := fun y => by cases y <;> rfl
  have hphase : ∀ m, ((s.noteVin vin).reach ((s.rail x).perAt + 8 * (s.rail x).div)).phase m = s.phase m := fun m => rfl
  have hnow : ((s.noteVin vin).reach ((s.rail x).perAt + 8 * (s.rail x).div)).now = max s.now ((s.rail x).perAt + 8 * (s.rail x).div) := rfl
  have hvin : ((s.noteVin vin).reach ((s.rail x).perAt + 8 * (s.rail x).div)).conv.vin = vin := rfl
  have only : Only [.now, .conv] s ((s.noteVin vin).reach ((s.rail x).perAt + 8 * (s.rail x).div)) :=
    ((only_noteVin s vin).mono (by simp)).then (only_reach _ _) (by simp)
  dsimp only at hexec
  generalize (s.noteVin vin).reach ((s.rail x).perAt + 8 * (s.rail x).div) = v at hexec hrail hphase hnow hvin only
  have hslots : v.slotsOfRail x = s.slotsOfRail x := slotsOfRail_congr x only.com fun n => by rw [hphase]
  have hbegun : ∀ m, (v.quietBegun x).phase m = s.phase m := fun m => by
    have hdraw : (v.quietBegun x).phase m = v.phase m := by cases x <;> rfl
    rw [hdraw, hphase]
  have hpass := fun m => foldl_zipIdx_updPhase (f := v.quietPhase imon x vin (v.quietPhases x).length) (quietPhases_nodup v x) 0 (v.quietBegun x) m
  have hconv := foldl_zipIdx_conv (f := v.quietPhase imon x vin (v.quietPhases x).length) (v.quietPhases x).zipIdx (v.quietBegun x)
  have onlyPass : Only [.conv] (v.quietBegun x)
      ((v.quietPhases x).zipIdx.foldl (fun t y => t.updPhase y.1 (v.quietPhase imon x vin (v.quietPhases x).length y.1 y.2)) (v.quietBegun x)) :=
    Only.foldl _ (fun t (y : Nat × Nat) => only_updPhase t y.1 _) _ _
  have onlyBegun : Only [.free, .conv] v (v.quietBegun x) := ((only_updRail v x _).mono (by simp)).then (only_draw _) (by simp)
  generalize (v.quietPhases x).zipIdx.foldl (fun t y => t.updPhase y.1 (v.quietPhase imon x vin (v.quietPhases x).length y.1 y.2))
    (v.quietBegun x) = w at hexec hpass hconv onlyPass
  have hrails : ∀ y, w.rail y = (v.quietBegun x).rail y := fun y => by
    unfold State.rail
    rw [hconv]
  have hw : (settle w).now = v.now := by rw [settle_now, onlyPass.now, onlyBegun.now]
  refine Does.of_done hexec ⟨hw.trans hnow, ⟨?_, fun y hy => ?_⟩, ?_, ?_, fun m hm => ?_, fun m hm hact => ?_⟩
    (((only.mono (by simp)).then onlyBegun (by simp)).then onlyPass (by simp))
  · have hsame : (v.quietBegun x).rail x = { v.rail x with div := v.quietDiv x, perAt := v.now } := by cases x <;> rfl
    have hdiv : v.quietDiv x = s.quietDiv x := by
      unfold State.quietDiv
      rw [only.com]
    rw [settle_rail, hrails, hw, hsame, hrail, hdiv]
  · have hother : (v.quietBegun x).rail y = (v.updRail x fun q => { q with div := v.quietDiv x, perAt := v.now }).rail y := by cases y <;> rfl
    rw [settle_rail, hrails, hother, State.updRail_rail_other _ _ hy, hrail]
  · have hfree : (v.quietBegun x).free = v.free + 1 := rfl
    rw [settle_free, onlyPass.free, hfree, only.free]
  · have hbegin : (v.quietBegun x).conv.vin = v.conv.vin := by cases x <;> rfl
    rw [settle_conv, hconv]
    exact hbegin.trans hvin
  · rw [settle_phase, (hpass m).1 fun hin => hm (hslots ▸ (List.mem_filter.1 hin).1), hbegun]
  · have hin : m ∈ v.quietPhases x := List.mem_filter.2 ⟨by rw [hslots]; exact hm, by rw [hphase, hact]; rfl⟩
    obtain ⟨i, hi⟩ := (hpass m).2 hin
    rw [settle_phase, hi, hw]
    exact quietPhase_fields ..

/-- Settles O43: each event changes its own phase or rail, a fault of a main phase cancels, and responses are staged. -/
theorem phasesWakeFaultAndAreSpared : Obligations.PhasesWakeFaultAndAreSpared := by
  intro s n hn p
  refine ⟨fun hp => Does.of_reach_updPhase_now (f := fun a p => { p with st := .active, at_ := a }) (exec_wakeElapsed_wake hn hp),
    fun hp hs => Does.of_reach_updPhase_now (f := fun a p => { p with s := 1, at_ := a }) (exec_wakeElapsed_admitting hn hp hs),
    fun hp hs hlt => ?_, fun hp hge => ?_, fun hrun hmain => phaseFault_main_does hmain hrun, fun hrun hpriv => phaseFault_priv_does hn hpriv hrun,
    fun hrun => phaseFault_idle_does hn hrun, Does.of_updPhase (exec_phaseFault_high hn),
    fun k hst hdue hready hk => spareResponse_spare_does hn hst hdue hready hk,
    fun hst hdue hready hk h3 => spareResponse_retire_does hn hst hdue hready hk h3,
    fun hst hdue hready hk h3 hflt => spareResponse_readmit_does hn hst hdue hready hk h3 hflt,
    fun mean permit inReg atTarget noProv noWake noAdmit held low =>
      Does.of_updRail (exec_converterDeEntry permit inReg atTarget noProv noWake noAdmit held low),
    fun mean hst high => Does.of_updRail (exec_converterDeExit hst high), fun hde hsw hfires => freqLock_does hde hsw hfires,
    fun x vin imon hx hsw hlow => quietPeriod_does hx hsw hlow⟩
  · refine (Does.of_reach_updPhase_now (f := Phase.rampStep) (exec_admitRampStep hn hp hs)).imp fun t ht => ?_
    have hstep : Phase.rampStep t.now (s.phase n) = { s.phase n with s := (s.phase n).s + 1, at_ := t.now } := if_neg (Nat.not_le.2 hlt)
    rw [hstep] at ht
    exact ht
  · refine (Does.of_reach_updPhase_now (f := Phase.rampStep) (exec_admitRampStep hn hp (Nat.lt_of_lt_of_le (by decide : 0 < 64) hge))).imp fun t ht => ?_
    have hstep : Phase.rampStep t.now (s.phase n) = { s.phase n with st := .active, s := 0, at_ := t.now } := if_pos hge
    rw [hstep] at ht
    exact ht

end Sys2Proof.Machine
end

section
/-! SUPPORT. The rails of the converter (R132 to R136, R449, R452, R457 to R459): starts, stops, voltages beyond their limits, the
faults that halt the block and the input stop, and the proofs of the obligations about them. -/

namespace Sys2Proof.Machine

-- The joined text is checked under a memory limit that counts every thread's stack: one proof at a time.
set_option Elab.async false

variable {c : Instr} {s u v t : State} {n m : Nat} {x y : Rail}

/-! ### Starts (R132) -/

theorem railStart_eq (h : (s.rail x).st = .off ∨ ((s.rail x).st = .fault ∧ (s.rail x).ov = false)) :
    ∃ b : Bool → Bool, s.railStart x = (s.updRail x fun q => { q with st := .delay, at_ := s.now, notGood := false, watch := false }).updConv fun y =>
      { y with inStop := b y.inStop } :=
  ⟨fun b => b && !(decide (100 * s.com.conv.vinUnder ≤ s.conv.vin) && decide (s.conv.vin ≤ 100 * s.com.conv.vinOver)), if_pos h⟩

/-- Input flags of the converter are no part of its rails. -/
theorem updConv_inStop_rail (s : State) (b : Bool → Bool) (y : Rail) : (s.updConv fun c => { c with inStop := b c.inStop }).rail y = s.rail y := by
  cases y <;> rfl

theorem railBecomes_railStart (h : (s.rail x).st = .off ∨ ((s.rail x).st = .fault ∧ (s.rail x).ov = false)) :
    RailBecomes s x { s.rail x with st := .delay, at_ := s.now, notGood := false, watch := false } (s.railStart x) := by
  obtain ⟨b, hb⟩ := railStart_eq h
  obtain ⟨hsame, hother⟩ := railBecomes_updRail s x fun q => { q with st := .delay, at_ := s.now, notGood := false, watch := false }
  rw [hb]
  exact ⟨(updConv_inStop_rail ..).trans hsame, fun y hy => (updConv_inStop_rail ..).trans (hother y hy)⟩

/-! ### The end of a rail's delay (R130, R132, R133) -/

theorem mem_slotsOfRail : n ∈ s.slotsOfRail x ↔ n < 40 ∧ s.fitted n = true ∧ s.railOfSlot n = some x := by
  simp [State.slotsOfRail, List.mem_filter]

theorem railOfSlot_of_idleSpare (h : n ∈ s.idleSpares) : s.railOfSlot n = none := by
  obtain ⟨hn, hidle⟩ := List.mem_filter.1 h
  obtain ⟨k, -, rfl⟩ := List.mem_map.1 hn
  rw [Bool.and_eq_true, decide_eq_true_eq, Option.isNone_iff_eq_none] at hidle
  obtain ⟨hassign, hserves⟩ := hidle
  unfold State.railOfSlot
  rw [if_neg (by omega), hassign]
  exact hserves

theorem privs_nodup : privs.Nodup := by decide

theorem slots_append_nodup {xs : List Nat} (hxs : xs = [] ∨ xs = s.idleSpares) : (s.slotsOfRail x ++ xs).Nodup := by
  rcases hxs with rfl | rfl
  · rw [List.append_nil]
    exact slotsOfRail_nodup s x
  · refine List.nodup_append.2 ⟨slotsOfRail_nodup s x, privs_nodup.filter _, fun a ha b hb hab => ?_⟩
    obtain ⟨-, -, hrail⟩ := mem_slotsOfRail.1 ha
    rw [hab, railOfSlot_of_idleSpare hb] at hrail
    exact absurd hrail (by simp)

/-- The slots that join with a rail. -/
def State.joining (s : State) (x : Rail) : List Nat := s.slotsOfRail x ++ (if x = .vib then [] else s.idleSpares)

theorem joining_nodup (s : State) (x : Rail) : (s.joining x).Nodup := by
  refine slots_append_nodup ?_
  split
  · exact .inl rfl
  · exact .inr rfl

/-- A phase as it joins with its rail. -/
def State.joined (d a : Nat) (x : Rail) (n : Nat) (s : State) (p : Phase) : Phase :=
  if p.st ≠ .off then p
  else if s.spareSlot n then { p with st := .spare, at_ := s.now }
  else if x = .vib then { p.enable with st := .active, at_ := s.now }
  else { p.enable with st := .active, at_ := s.now, ton := p.quietTon d ((a : Rat) / (max 1 s.conv.vin : Nat)) }

theorem joined_of_off {d a : Nat} {p : Phase} (h : p.st = .off) : (State.joined d a x n s p).st = (if s.spareSlot n then .spare else .active) ∧
    (s.spareSlot n = false → (State.joined d a x n s p).en = true) := by
  unfold State.joined
  rw [if_neg (not_not_intro h)]
  split
  · rename_i hspare
    exact ⟨rfl, fun hno => Bool.noConfusion (hspare.symm.trans hno)⟩
  · split <;> exact ⟨rfl, fun _ => rfl⟩

theorem joined_fltN {d a : Nat} {p : Phase} : (State.joined d a x n s p).fltN = p.fltN := by
  unfold State.joined
  split
  · rfl
  · split
    · rfl
    · split <;> rfl

/-- The rail enters its ramp (R132, R133). -/
def State.rampBegun (s : State) (x : Rail) (a : Nat) : State :=
  s.updRail x fun q => { q with st := .ramp, at_ := s.now, v := a, ref := if 200 ≤ a then a else 0, de := decide (x = .vib), off := 0 }

/-- The rail's phases have joined. -/
def State.phasesJoined (u : State) (x : Rail) (a : Nat) : State :=
  (u.joining x).foldl (fun s n => s.updPhase n (State.joined (u.rail x).div a x n s)) u

theorem phasesJoined_phase (u : State) (x : Rail) (a m : Nat) : (u.phasesJoined x a).phase m =
    if m ∈ u.joining x then State.joined (u.rail x).div a x m u (u.phase m) else u.phase m :=
  foldl_updPhase_phase (f := fun n s p => State.joined (u.rail x).div a x n s p) (fun _ _ _ _ _ _ => rfl) (joining_nodup u x) u m

theorem phasesJoined_conv (u : State) (x : Rail) (a : Nat) :
    (u.phasesJoined x a).conv = { u.conv with phases := (u.phasesJoined x a).conv.phases } :=
  foldl_phases_kept (g := fun s n => s.updPhase n (State.joined (u.rail x).div a x n s)) (fun _ _ => rfl) (u.joining x) u

theorem only_phasesJoined (u : State) (x : Rail) (a : Nat) : Only [.conv] u (u.phasesJoined x a) :=
  Only.foldl _ (fun s n => only_updPhase s n _) _ _

theorem foldl_phaseFaulted_of_high (h : ∀ m, (u.phase m).fltN = true) (xs : List Nat) : xs.foldl State.phaseFaulted u = u := by
  induction xs with
  | nil => rfl
  | cons k xs ih => rw [List.foldl_cons, phaseFaulted_of_not_running (.inl (h k)), ih]

theorem exec_railDelayElapsed {a : Nat} (h : (s.rail x).st = .delay) : exec (.railDelayElapsed x a) s =
    let u := (s.reach ((s.rail x).at_ + s.startDelay x)).rampBegun x a
    done ((u.joining x).foldl State.phaseFaulted (u.phasesJoined x a)) := if_pos h

theorem rail_of_conv_phases (h : v.conv = { u.conv with phases := v.conv.phases }) (y : Rail) : v.rail y = u.rail y := by
  unfold State.rail
  rw [h]

theorem railDelayElapsed_does {a : Nat} (h : (s.rail x).st = .delay) (hflt : ∀ m, (s.phase m).fltN = true) :
    Does (.railDelayElapsed x a) s [.now, .conv, .flt] fun t =>
      t.now = max s.now ((s.rail x).at_ + s.startDelay x) ∧
      RailBecomes s x { s.rail x with
        st := .ramp, at_ := t.now, v := a, ref := if 200 ≤ a then a else 0, de := decide (x = .vib), off := 0 } t ∧
      ∀ n ∈ s.slotsOfRail x, (s.phase n).st = .off →
        (t.phase n).st = (if s.spareSlot n then .spare else .active) ∧ (s.spareSlot n = false → (t.phase n).en = true) := by
  have hexec := exec_railDelayElapsed (a := a) h
  obtain ⟨hsame, hother⟩ := railBecomes_updRail (s.reach ((s.rail x).at_ + s.startDelay x)) x fun q =>
    { q with st := .ramp, at_ := max s.now ((s.rail x).at_ + s.startDelay x), v := a, ref := if 200 ≤ a then a else 0, de := decide (x = .vib), off := 0 }
  have hphase : ∀ m, ((s.reach ((s.rail x).at_ + s.startDelay x)).rampBegun x a).phase m = s.phase m := fun m => by cases x <;> rfl
  have hnow : ((s.reach ((s.rail x).at_ + s.startDelay x)).rampBegun x a).now = max s.now ((s.rail x).at_ + s.startDelay x) := rfl
  have only : Only [.now, .conv] s ((s.reach ((s.rail x).at_ + s.startDelay x)).rampBegun x a) :=
    ((only_reach s _).mono (by simp)).then (only_updRail _ x _) (by simp)
  have hrail : ∀ y, (s.reach ((s.rail x).at_ + s.startDelay x)).rail y = s.rail y := fun y => State.reach_rail ..
  change ((s.reach ((s.rail x).at_ + s.startDelay x)).rampBegun x a).rail x = _ at hsame
  change ∀ y, y ≠ x → ((s.reach ((s.rail x).at_ + s.startDelay x)).rampBegun x a).rail y = _ at hother
  simp only [hrail] at hsame hother
  dsimp only at hexec
  generalize (s.reach ((s.rail x).at_ + s.startDelay x)).rampBegun x a = u at hexec hsame hother hphase hnow only
  have hjoined := phasesJoined_phase u x a
  have hconv := phasesJoined_conv u x a
  have onlyJoined := only_phasesJoined u x a
  have hhigh : ∀ m, ((u.phasesJoined x a).phase m).fltN = true := fun m => by
    rw [hjoined]
    split
    · rw [joined_fltN, hphase, hflt]
    · rw [hphase, hflt]
  rw [foldl_phaseFaulted_of_high hhigh] at hexec
  generalize u.phasesJoined x a = w at hexec hjoined hconv onlyJoined
  have hrails := rail_of_conv_phases hconv
  have hw : (settle w).now = u.now := by rw [settle_now, onlyJoined.now]
  refine Does.of_done hexec ⟨hw.trans hnow, ⟨?_, fun y hy => ?_⟩, fun n hn hoff => ?_⟩ ((only.mono (by simp)).then onlyJoined (by simp))
  · rw [settle_rail, hrails, hw, hnow, hsame]
  · rw [settle_rail, hrails, hother y hy]
  · have hslots : u.slotsOfRail x = s.slotsOfRail x := slotsOfRail_congr x only.com fun n => by rw [hphase]
    have hspare : u.spareSlot n = s.spareSlot n := by
      unfold State.spareSlot State.passign
      rw [only.com]
    have hin : n ∈ u.joining x := List.mem_append_left _ (hslots ▸ hn)
    rw [settle_phase, hjoined, if_pos hin, ← hspare]
    exact joined_of_off (by rw [hphase]; exact hoff)

/-! ### Regulation and stops (R132) -/

theorem exec_railRefReached (h : (s.rail x).st = .ramp) : exec (.railRefReached x) s =
    done ((s.reach ((s.rail x).at_ + s.startRamp x * (s.railMv x - (s.rail x).ref) / max 1 (s.railMv x))).updRail x fun q =>
      { q with st := .reg, at_ := max s.now ((s.rail x).at_ + s.startRamp x * (s.railMv x - (s.rail x).ref) / max 1 (s.railMv x)),
               ref := s.railMv x, inst := s.railSet x, de := false, watch := true }) := by
  refine (if_pos h).trans ?_
  rw [State.reach_railSet]
  rfl

/-- What a command that waits makes of a rail may name the time it ends at. -/
theorem Does.of_reach_updRail_now {a : Nat} {f : Nat → RailDyn → RailDyn} (h : exec c s = done ((s.reach a).updRail x (f (max s.now a)))) :
    Does c s [.now, .conv] fun t => t.now = max s.now a ∧ RailBecomes s x (f t.now (s.rail x)) t := by
  refine (Does.of_reach_updRail h).imp fun t ht => ?_
  obtain ⟨hnow, hbecomes⟩ := ht
  exact ⟨hnow, by rw [hnow]; exact hbecomes⟩

theorem exec_railStopCommand (h : (s.rail x).st = .reg) :
    exec (.railStopCommand x) s = done (s.updRail x fun q => { q with st := .sdelay, at_ := s.now, watch := false }) := if_pos h

/-- A rail's reference begins to fall (R132). -/
def State.fallFrom (w : State) (x : Rail) (now ref ramp : Nat) : State :=
  w.updRail x fun q => { q with st := .sramp, at_ := now, ref := ref, rampT := ramp, de := false }

theorem exec_railStopDelayElapsed (h : (s.rail x).st = .sdelay) : exec (.railStopDelayElapsed x) s =
    let u := s.reach ((s.rail x).at_ + s.stopDelay x)
    done (u.cancel.fallFrom x u.now (u.railRef x).toNat (u.stopRamp x)) := if_pos h

theorem fallFrom_now (w : State) (x : Rail) (a b c : Nat) : (w.fallFrom x a b c).now = w.now := State.updRail_now ..

theorem fallFrom_rail (w : State) (x : Rail) (a b c : Nat) : (w.fallFrom x a b c).rail x =
    { ({ w.rail x with de := false } : RailDyn) with st := .sramp, at_ := a, ref := b, rampT := c } := State.updRail_rail_same ..

theorem fallFrom_shedHold (w : State) (x : Rail) (a b c : Nat) : (w.fallFrom x a b c).conv.shedHold = w.conv.shedHold := by
  cases x <;> rfl

theorem only_fallFrom (w : State) (x : Rail) (a b c : Nat) : Only [.conv] w (w.fallFrom x a b c) := only_updRail w x _

/-- Of a rail a cancellation changes at most the diode emulation. -/
theorem cancel_rail_de (s : State) (x : Rail) (b : Bool) : { s.cancel.rail x with de := b } = { s.rail x with de := b } := by
  unfold State.rail
  rw [State.cancel_conv]
  cases x <;> rfl

theorem railRef_of_sdelay (h : (s.rail x).st = .sdelay) : s.railRef x = s.railTarget x := by
  unfold State.railRef
  dsimp only
  rw [h]

theorem reach_railTarget (s : State) (a : Nat) (x : Rail) : (s.reach a).railTarget x = s.railTarget x := by
  unfold State.railTarget
  rw [State.reach_rail]
  cases x <;> rfl

/-- The rail after its stop delay, in the state that has reached its end. -/
theorem cancel_fallFrom (u : State) (x : Rail) (b c : Nat) :
    (u.cancel.fallFrom x u.now b c).now = u.now ∧
    (u.cancel.fallFrom x u.now b c).rail x = { u.rail x with st := .sramp, at_ := u.now, ref := b, rampT := c, de := false } ∧
    (u.cancel.fallFrom x u.now b c).conv.shedHold = some (u.now + 100 * usT) := by
  refine ⟨(fallFrom_now ..).trans (only_cancel u).now, ?_, ?_⟩
  · rw [fallFrom_rail, cancel_rail_de]
  · rw [fallFrom_shedHold, State.cancel_conv]

theorem railStopDelayElapsed_does (h : (s.rail x).st = .sdelay) : Does (.railStopDelayElapsed x) s [.now, .conv] fun t =>
    t.now = max s.now ((s.rail x).at_ + s.stopDelay x) ∧
    t.rail x = { s.rail x with st := .sramp, at_ := t.now, ref := (s.railTarget x).toNat, rampT := s.stopRamp x, de := false } ∧
    t.conv.shedHold = some (t.now + 100 * usT) := by
  have hexec := exec_railStopDelayElapsed h
  have hst : ((s.reach ((s.rail x).at_ + s.stopDelay x)).rail x).st = .sdelay := by
    rw [State.reach_rail]
    exact h
  have hramp : (s.reach ((s.rail x).at_ + s.stopDelay x)).stopRamp x = s.stopRamp x := by cases x <;> rfl
  dsimp only at hexec
  rw [railRef_of_sdelay hst, reach_railTarget, hramp] at hexec
  obtain ⟨hnow, hrail, hhold⟩ := cancel_fallFrom (s.reach ((s.rail x).at_ + s.stopDelay x)) x (s.railTarget x).toNat (s.stopRamp x)
  rw [State.reach_rail] at hrail
  refine Does.of_done hexec ⟨?_, ?_, ?_⟩
    ((((only_reach s _).mono (by simp)).then (only_cancel _) (by simp)).then (only_fallFrom _ x _ _ _) (by simp))
  · rw [settle_now, hnow, State.reach_now]
  · rw [settle_rail, settle_now, hnow]
    exact hrail
  · rw [settle_conv, settle_now, hnow]
    exact hhold

/-! ### A rail that is down (R130, R132) -/

/-- A phase of a rail that goes OFF. -/
def Phase.railOff (now : Nat) (p : Phase) : Phase :=
  if p.st = .retired then p else { p with st := .off, en := false, pwm := .mid, s := 0, at_ := now, serves := none }

theorem Phase.railOff_fields {p : Phase} {a : Nat} (h : p.st ≠ .retired) :
    (p.railOff a).st = .off ∧ (p.railOff a).en = false ∧ (p.railOff a).pwm = .mid := by
  unfold Phase.railOff
  rw [if_neg h]
  exact ⟨rfl, rfl, rfl⟩

theorem sparesOff_cases (s : State) (x : Rail) : s.sparesOff x = [] ∨ s.sparesOff x = s.idleSpares := by
  unfold State.sparesOff
  split
  · exact .inl rfl
  · split
    · exact .inl rfl
    · exact .inr rfl

theorem railPhasesOff_phase (s : State) (x : Rail) (m : Nat) : (s.railPhasesOff x).phase m =
    if m ∈ s.slotsOfRail x ++ s.sparesOff x then (s.phase m).railOff s.now else s.phase m :=
  foldl_updPhase_phase (f := fun _ s p => p.railOff s.now) (fun _ _ _ _ _ _ => rfl) (slots_append_nodup (sparesOff_cases s x)) s m

theorem railPhasesOff_conv (s : State) (x : Rail) :
    (s.railPhasesOff x).conv = { s.conv with phases := (s.railPhasesOff x).conv.phases } :=
  foldl_phases_kept (g := fun s n => s.updPhase n fun p => p.railOff s.now) (fun _ _ => rfl) (s.slotsOfRail x ++ s.sparesOff x) s

theorem railPhasesOff_rail (s : State) (x y : Rail) : (s.railPhasesOff x).rail y = s.rail y := rail_of_conv_phases (railPhasesOff_conv s x) y

theorem noteRail_st (s : State) (x : Rail) (a : Nat) : ((s.noteRail x a).rail x).st = (s.rail x).st := by
  rw [noteRail_rail_same]

theorem exec_railDown_low {a : Nat} (h : (s.rail x).st = .sramp) (ha : a ≤ 200) : exec (.railDown x a) s =
    let u := s.noteRail x a
    done ((u.railPhasesOff x).updRail x fun q => { q with st := .off, at_ := u.now, ref := 0 }) :=
  if_pos ⟨(noteRail_st s x a).trans h, ha⟩

theorem exec_railDown_high {a : Nat} (h : (s.rail x).st ≠ .sramp ∨ 200 < a) : exec (.railDown x a) s = done (s.noteRail x a) := by
  refine if_neg fun hno => ?_
  obtain ⟨hst, ha⟩ := hno
  rw [noteRail_st] at hst
  rcases h with h | h
  · exact h hst
  · omega

theorem railDown_low_does {a : Nat} (h : (s.rail x).st = .sramp) (ha : a ≤ 200) : Does (.railDown x a) s [.conv] fun t =>
    (t.rail x).st = .off ∧ (t.rail x).v = a ∧ (∀ y, y ≠ x → t.rail y = s.rail y) ∧
    ∀ n ∈ s.slotsOfRail x, (s.phase n).st ≠ .retired → (t.phase n).st = .off ∧ (t.phase n).en = false ∧ (t.phase n).pwm = .mid := by
  have hexec := exec_railDown_low h ha
  have noted := only_noteRail s x a
  have hsame := noteRail_rail_same s x a
  have hother := fun y hy => noteRail_rail_other s (x := x) (y := y) a hy
  have hphase := noteRail_phase s x a
  dsimp only at hexec
  generalize s.noteRail x a = u at hexec noted hsame hother hphase
  have hoff := railPhasesOff_phase u x
  have hrail := railPhasesOff_rail u x
  have onlyOff := only_railPhasesOff u x
  have hslots : u.slotsOfRail x = s.slotsOfRail x := slotsOfRail_congr x noted.com fun n => by rw [hphase]
  generalize u.railPhasesOff x = w at hexec hoff hrail onlyOff
  refine Does.of_done hexec ⟨?_, ?_, fun y hy => ?_, fun n hn hret => ?_⟩ ((noted.trans onlyOff).trans (only_updRail _ x _))
  · rw [settle_rail, State.updRail_rail_same]
  · rw [settle_rail, State.updRail_rail_same, hrail, hsame]
  · rw [settle_rail, State.updRail_rail_other _ _ hy, hrail, hother y hy]
  · have hp : (w.updRail x fun q => { q with st := .off, at_ := u.now, ref := 0 }).phase n = w.phase n := by cases x <;> rfl
    rw [settle_phase, hp, hoff, if_pos (List.mem_append_left _ (hslots ▸ hn)), hphase]
    exact Phase.railOff_fields hret

theorem railDown_high_does {a : Nat} (h : (s.rail x).st ≠ .sramp ∨ 200 < a) : Does (.railDown x a) s [.conv] fun t =>
    (t.rail x).st = (s.rail x).st ∧ (t.rail x).v = a := by
  refine Does.of_done (exec_railDown_high h) ?_ (only_noteRail s x a)
  rw [settle_rail, noteRail_rail_same]
  exact ⟨rfl, rfl⟩

/-! ### The warning of the input (R134, R488) -/

theorem exec_vinLow_rise {vin : Nat} (h : vin < 100 * s.com.conv.vinWarn) (hlow : s.conv.vinLow = false) :
    exec (.vinLow vin) s = done ((s.noteVin vin).updConv fun c => { c with vinLow := true }).alertOut :=
  (if_pos h).trans (if_neg (ne_true_of_eq_false hlow))

theorem exec_vinLow_fall {vin : Nat} (h : 100 * s.com.conv.vinWarn + 200 ≤ vin) :
    exec (.vinLow vin) s = done ((s.noteVin vin).updConv fun c => { c with vinLow := false }) :=
  (if_neg (Nat.not_lt.2 (Nat.le_trans (Nat.le_add_right _ 200) h))).trans (if_pos h)

theorem vinLow_rise_does {vin : Nat} (h : vin < 100 * s.com.conv.vinWarn) (hlow : s.conv.vinLow = false) :
    Does (.vinLow vin) s [.conv, .ports] fun t => t.conv.vinLow = true ∧ t.conv.vin = vin := by
  have hset : ∀ u : State, (u.alertOut).conv = u.conv := fun u => (only_alertOut u).conv
  refine Does.of_done (exec_vinLow_rise h hlow) ?_
    ((((only_noteVin s vin).mono (by simp)).then (only_updConv _ _) (by simp)).then (only_alertOut _) (by simp))
  rw [settle_conv, hset]
  exact ⟨rfl, rfl⟩

theorem vinLow_fall_does {vin : Nat} (h : 100 * s.com.conv.vinWarn + 200 ≤ vin) :
    Does (.vinLow vin) s [.conv] fun t => t.conv.vinLow = false ∧ t.conv.vin = vin := by
  refine Does.of_done (exec_vinLow_fall h) ?_ ((only_noteVin s vin).trans (only_updConv _ _))
  rw [settle_conv]
  exact ⟨rfl, rfl⟩

/-! ### Overvoltage (R135, R136) -/

theorem excessFrom_of_high {a : Nat} (hoff : (s.rail x).st ≠ .off) (hfault : (s.rail x).st ≠ .fault) (h : 11 * s.railRef x < 10 * (a : Int)) :
    s.excessFrom x a = some ((s.rail x).ovFrom.getD s.now) := by
  unfold State.excessFrom
  rw [decide_eq_true h, decide_eq_true hoff, decide_eq_true hfault]
  rfl

/-- A phase held low. -/
def Phase.heldLow (now : Rat) (p : Phase) : Phase := if p.pwm = .high then { p with pwm := .low, offAt := min p.offAt now } else p

theorem Phase.heldLow_pwm (p : Phase) (a : Rat) : (p.heldLow a).pwm ≠ .high := by
  unfold Phase.heldLow
  split
  · exact fun h => Pwm.noConfusion h
  · assumption

/-- The phases of a rail are held low. -/
def State.holdLow (s : State) (x : Rail) : State := (s.slotsOfRail x).foldl (fun s n => s.updPhase n (Phase.heldLow (nsOf s.now))) s

theorem holdLow_phase (s : State) (x : Rail) (m : Nat) :
    (s.holdLow x).phase m = if m ∈ s.slotsOfRail x then (s.phase m).heldLow (nsOf s.now) else s.phase m :=
  foldl_updPhase_phase (f := fun _ s p => p.heldLow (nsOf s.now)) (fun _ _ _ _ _ _ => rfl) (slotsOfRail_nodup s x) s m

theorem holdLow_rail (s : State) (x y : Rail) : (s.holdLow x).rail y = s.rail y :=
  rail_of_conv_phases (foldl_phases_kept (g := fun s n => s.updPhase n (Phase.heldLow (nsOf s.now))) (fun _ _ => rfl) (s.slotsOfRail x) s) y

theorem only_holdLow (s : State) (x : Rail) : Only [.conv] s (s.holdLow x) := Only.foldl _ (fun s n => only_updPhase s n _) _ _

/-- An overvoltage of the rail is on from now (R135). -/
def State.ovBegun (s : State) (x : Rail) : State := s.updRail x fun q => { q with ov := true, ovAt := s.now, heldLow := true }

theorem exec_overvoltage {a b : Nat} (hfrom : s.excessFrom x a = some b) (hov : (s.rail x).ov = false) :
    exec (.overvoltage x a) s = done ((((s.noteRail x a).reach (b + usT)).ovBegun x).holdLow x) := by
  have hrail := noteRail_rail_same s x a
  change execOvervoltage x a s = _
  unfold execOvervoltage
  dsimp only
  rw [hrail, hfrom]
  exact if_neg (ne_true_of_eq_false hov)

theorem ovBegun_rail_same (s : State) (x : Rail) : (s.ovBegun x).rail x = { s.rail x with ov := true, ovAt := s.now, heldLow := true } :=
  State.updRail_rail_same ..

theorem overvoltage_does {a : Nat} (hoff : (s.rail x).st ≠ .off) (hfault : (s.rail x).st ≠ .fault) (hov : (s.rail x).ov = false)
    (h : 11 * s.railRef x < 10 * (a : Int)) : Does (.overvoltage x a) s [.now, .conv] fun t =>
      t.now = max s.now ((s.rail x).ovFrom.getD s.now + usT) ∧
      RailBecomes s x { s.rail x with
        v := a, ovFrom := some ((s.rail x).ovFrom.getD s.now), ov := true, ovAt := t.now, heldLow := true } t ∧
      ∀ n ∈ s.slotsOfRail x, (t.phase n).pwm ≠ .high := by
  have hfrom := excessFrom_of_high hoff hfault h
  have hexec := exec_overvoltage hfrom hov
  have noted := only_noteRail s x a
  have hsame := noteRail_rail_same s x a
  have hother := fun y hy => noteRail_rail_other s (x := x) (y := y) a hy
  have hphase := noteRail_phase s x a
  rw [hfrom] at hsame
  generalize (s.rail x).ovFrom.getD s.now = b at hexec hsame
  generalize s.noteRail x a = u at hexec noted hsame hother hphase
  have only : Only [.now, .conv] s ((u.reach (b + usT)).ovBegun x) :=
    ((noted.mono (by simp)).then (only_reach u _) (by simp)).then (only_updRail _ x _) (by simp)
  have hslots : ((u.reach (b + usT)).ovBegun x).slotsOfRail x = s.slotsOfRail x := slotsOfRail_congr x only.com fun n => by
    have hp : ((u.reach (b + usT)).ovBegun x).phase n = u.phase n := by cases x <;> rfl
    rw [hp, hphase]
  have hov' := ovBegun_rail_same (u.reach (b + usT)) x

  have hov'' : ∀ y, y ≠ x → ((u.reach (b + usT)).ovBegun x).rail y = u.rail y := fun y hy =>
    (State.updRail_rail_other _ _ hy).trans (State.reach_rail ..)
  rw [State.reach_now, noted.now, State.reach_rail, hsame] at hov'
  have hnow : ((u.reach (b + usT)).ovBegun x).now = max s.now (b + usT) := by
    rw [State.ovBegun, State.updRail_now, State.reach_now, noted.now]
  generalize (u.reach (b + usT)).ovBegun x = w at hexec only hslots hov' hov'' hnow
  have hw : (settle (w.holdLow x)).now = max s.now (b + usT) := by rw [settle_now, (only_holdLow w x).now, hnow]
  refine Does.of_done hexec ⟨hw, ⟨?_, fun y hy => ?_⟩, fun n hn => ?_⟩ (only.then (only_holdLow w x) (by simp))
  · rw [settle_rail, holdLow_rail, hw, hov']
  · rw [settle_rail, holdLow_rail, hov'' y hy, hother y hy]
  · rw [settle_phase, holdLow_phase, if_pos (hslots ▸ hn)]
    exact Phase.heldLow_pwm _ _

theorem noteRail_railRef (s : State) (x : Rail) (a : Nat) : (s.noteRail x a).railRef x = s.railRef x :=
  railRef_congr rfl rfl (noteRail_rail_same s x a)

theorem exec_overvoltageClear {a : Nat} (hov : (s.rail x).ov = true) (hlow : 97 * s.railRef x ≤ 100 * (a : Int))
    (hhigh : 100 * (a : Int) ≤ 103 * s.railRef x) :
    exec (.overvoltageClear x a) s = done ((s.noteRail x a).updRail x fun q => { q with ov := false, heldLow := false }) := by
  have hov' : ((s.noteRail x a).rail x).ov = true := by
    rw [noteRail_rail_same]
    exact hov
  refine if_pos ⟨hov', ?_, ?_⟩
  · rw [noteRail_railRef]
    exact hlow
  · rw [noteRail_railRef]
    exact hhigh

theorem overvoltageClear_does {a : Nat} (hov : (s.rail x).ov = true) (hlow : 97 * s.railRef x ≤ 100 * (a : Int))
    (hhigh : 100 * (a : Int) ≤ 103 * s.railRef x) : Does (.overvoltageClear x a) s [.conv] fun t =>
      (t.rail x).ov = false ∧ (t.rail x).heldLow = false ∧ (t.rail x).v = a ∧ ∀ y, y ≠ x → t.rail y = s.rail y := by
  refine Does.of_done (exec_overvoltageClear hov hlow hhigh) ?_ ((only_noteRail s x a).trans (only_updRail _ x _))
  rw [settle_rail, State.updRail_rail_same, noteRail_rail_same]
  refine ⟨rfl, rfl, rfl, fun y hy => ?_⟩
  rw [settle_rail, State.updRail_rail_other _ _ hy, noteRail_rail_other s a hy]

/-- Settles O45: each command moves its own rail one state on, with the phases that follow it. -/
theorem railsStartRegulateAndStop : Obligations.RailsStartRegulateAndStop := by
  intro s x q
  exact ⟨fun h => Does.of_done (u := s.railStart x) rfl (railBecomes_settle.2 (railBecomes_railStart h)) (only_railStart s x),
    fun v h hflt => railDelayElapsed_does h hflt,
    fun h => Does.of_reach_updRail_now
      (f := fun a q => { q with st := .reg, at_ := a, ref := s.railMv x, inst := s.railSet x, de := false, watch := true }) (exec_railRefReached h),
    fun h => Does.of_updRail (exec_railStopCommand h), fun h => railStopDelayElapsed_does h, fun v h ha => railDown_low_does h ha,
    fun v h => railDown_high_does h, fun vin h hlow => vinLow_rise_does h hlow, fun vin h => vinLow_fall_does h,
    fun v hoff hfault hov h => overvoltage_does hoff hfault hov h, fun v hov hlow hhigh => overvoltageClear_does hov hlow hhigh⟩

/-! ### Halts (R457 to R459) -/

theorem Only.bstate {ps : List Part} (h : Only ps s t) (hp : Part.hw ∉ ps := by simp) : t.hw.bstate = s.hw.bstate := by
  obtain ⟨hhw, -⟩ : t.hw = { s.hw with intcause := t.hw.intcause } ∧ _ := h.2 .hw hp
  rw [hhw]

theorem setB_eq {b : BState} (h : s.hw.bstate ≠ b) : s.setB b = (s.updHw fun h => { h with bstate := b }).cause 5 := if_neg h

/-- What is left of the block once it has halted (R457). -/
def Halted (s : State) (k : Nat) (t : State) : Prop :=
  t.hw.bstate = .halted ∧ t.sys.hkind = k ∧ t.sys.stop = .none ∧ t.hw.intcause.getLsbD 5 = true ∧
  (∀ n < 40, (t.phase n).en = false ∧ (t.phase n).pwm = .mid) ∧ ∀ r ∈ s.regions, (t.reg r).seq.st = .dark

theorem halted_setB {k : Nat} (hb : u.hw.bstate ≠ .halted) (hkind : u.sys.hkind = k) (hstop : u.sys.stop = .none)
    (hphase : ∀ n < 40, (u.phase n).en = false ∧ (u.phase n).pwm = .mid) (hdark : ∀ r ∈ s.regions, (u.reg r).seq.st = .dark) :
    Halted s k (settle (u.setB .halted)) := by
  have only := only_setB u .halted
  have hcause : (u.setB .halted).hw.intcause.getLsbD 5 = true := by
    rw [setB_eq hb]
    exact cause_intcause _ (by decide)
  refine ⟨?_, ?_, ?_, settle_intcause _ 5 hcause, fun n hn => ?_, fun r hr => ?_⟩
  · rw [settle_hw_bstate, setB_eq hb]
    rfl
  · rw [settle_sys, only.sys]
    exact hkind
  · rw [settle_sys, only.sys]
    exact hstop
  · rw [settle_phase, only.phase]
    exact hphase n hn
  · rw [settle_seq_st]
    have hregs : (u.setB .halted).reg r = u.reg r := by
      rw [setB_eq hb]
      rfl
    rw [hregs]
    exact hdark r hr

/-- A sequencer at once in DARK (R287). -/
def SeqDyn.darkened (now : Nat) (q : SeqDyn) : SeqDyn :=
  { q with st := .dark, target := 0, stages := 0, ret := false, prg := false, prgDue := none, holding := false,
           forced := false, overdue := false, heldAt := none, tag := none, at_ := now }

theorem foldl_darkened (xs : List Nat) (s : State) (r : Nat) :
    ((s.reg r).seq.st = .dark ∨ r ∈ xs) → ((xs.foldl (fun s r => s.updSeq r (SeqDyn.darkened s.now)) s).reg r).seq.st = .dark := by
  induction xs generalizing s with
  | nil => exact fun h => h.resolve_right (by simp)
  | cons k xs ih =>
    intro h
    refine ih (s.updSeq k (SeqDyn.darkened s.now)) ?_
    by_cases hk : r = k
    · subst hk
      refine .inl ?_
      rw [State.updSeq_eq, State.updReg_reg_same]
      rfl
    · rw [State.updSeq_eq, State.updReg_reg_other _ _ hk]
      rcases h with h | h
      · exact .inl h
      · exact .inr ((List.mem_cons.1 h).resolve_left hk)

theorem darkAll_st {r : Nat} (h : r ∈ s.regions) : ((darkAll s).reg r).seq.st = .dark := foldl_darkened s.regions s r (.inr h)

/-- A phase cut off with the converter. -/
def Phase.cut (p : Phase) : Phase :=
  { p with en := false, pwm := .mid, st := if p.st = .retired then .retired else .off, s := 0, serves := none }

/-- Every phase cut off. -/
def State.cutPhases (s : State) : State := (List.range 40).foldl (fun s n => s.updPhase n Phase.cut) s

/-- Every rail off, its phases apart. -/
def State.cutRails (s : State) : State :=
  [Rail.vib, Rail.vqa, Rail.vqc].foldl (fun s x => s.updRail x fun q => { q with st := .off, ref := 0, at_ := s.now, heldLow := false, watch := false }) s

theorem converterCut_eq (s : State) : converterCut s = s.cutPhases.cutRails := rfl

theorem cutPhases_phase (s : State) (m : Nat) : s.cutPhases.phase m = if m ∈ List.range 40 then (s.phase m).cut else s.phase m :=
  foldl_updPhase_phase (f := fun _ _ p => p.cut) (fun _ _ _ _ _ _ => rfl) List.nodup_range s m

theorem cutRails_phase (s : State) (m : Nat) : s.cutRails.phase m = s.phase m := rfl

theorem cutRails_st (s : State) (y : Rail) : (s.cutRails.rail y).st = .off := by cases y <;> rfl

theorem converterCut_phase (hn : n < 40) : ((converterCut s).phase n).en = false ∧ ((converterCut s).phase n).pwm = .mid := by
  rw [converterCut_eq, cutRails_phase, cutPhases_phase, if_pos (List.mem_range.2 hn)]
  exact ⟨rfl, rfl⟩

theorem converterCut_st (s : State) (y : Rail) : ((converterCut s).rail y).st = .off := by
  rw [converterCut_eq]
  exact cutRails_st ..

/-! ### Faults of rails (R135, R136, R452, R457) -/

/-- The rail itself in FAULT, its phases off. -/
def State.faultRail (s : State) (x : Rail) : State :=
  (s.railPhasesOff x).updRail x fun q => { q with st := .fault, at_ := s.now, watch := false, de := false, heldLow := false }

theorem faultRail_rail_same (s : State) (x : Rail) :
    (s.faultRail x).rail x = { s.rail x with st := .fault, at_ := s.now, watch := false, de := false, heldLow := false } := by
  rw [State.faultRail, State.updRail_rail_same, railPhasesOff_rail]

theorem faultRail_rail_other (s : State) (h : y ≠ x) : (s.faultRail x).rail y = s.rail y := by
  rw [State.faultRail, State.updRail_rail_other _ _ h, railPhasesOff_rail]

theorem only_faultRail (s : State) (x : Rail) : Only [.conv] s (s.faultRail x) := (only_railPhasesOff s x).trans (only_updRail _ x _)

theorem State.updRail_phase (s : State) (x : Rail) (f : RailDyn → RailDyn) (n : Nat) : (s.updRail x f).phase n = s.phase n := by
  cases x <;> rfl

/-- The rail in FAULT when everything else is cut. -/
def State.faultAlone (s : State) (x : Rail) : State := (converterCut s).updRail x fun q => { q with st := .fault }

/-- The halt latch of a rail's fault, with its tally. -/
def State.latchRailFault (s : State) : State := (s.updSys fun y => { y with stop := .none, stopStep := 0, hkind := 5 }).tally 9 0 5 1

theorem latchRailFault_fields (s : State) : s.latchRailFault.sys.hkind = 5 ∧ s.latchRailFault.sys.stop = .none := ⟨rfl, rfl⟩

theorem latchRailFault_phase (s : State) (m : Nat) : s.latchRailFault.phase m = s.phase m := rfl

theorem latchRailFault_rail (s : State) (y : Rail) : s.latchRailFault.rail y = s.rail y := by cases y <;> rfl

theorem latchRailFault_reg (s : State) (r : Nat) : s.latchRailFault.reg r = s.reg r := rfl

/-- The block after the fault of a rail, but for its state. -/
def State.faultHalting (s : State) (x : Rail) : State := (darkAll (s.faultAlone x)).latchRailFault

/-- What the fault of a rail makes of the block, by the block's state. -/
theorem railFault_eq (s : State) (x : Rail) : s.railFault x =
    match (s.faultRail x).hw.bstate with
    | .boot | .off | .guard_ | .halted => s.faultRail x
    | _ => if (s.faultRail x).sys.nocfgRun then s.faultRail x else ((s.faultRail x).faultHalting x).setB .halted := rfl

theorem railFault_of_boot (h : s.hw.bstate = .boot) : s.railFault x = s.faultRail x := by
  rw [railFault_eq, (only_faultRail s x).bstate, h]

theorem service_cases (h : s.service = true) : s.hw.bstate = .standby ∨ s.hw.bstate = .run ∨ s.hw.bstate = .unattended := by
  unfold State.service at h
  simpa [or_assoc] using h

theorem railFault_of_service (h : s.service = true) (hn : s.sys.nocfgRun = false) :
    s.railFault x = ((s.faultRail x).faultHalting x).setB .halted := by
  rw [railFault_eq, (only_faultRail s x).bstate, (only_faultRail s x).sys, hn]
  generalize ((s.faultRail x).faultHalting x).setB .halted = w
  generalize s.faultRail x = u
  rcases service_cases h with h | h | h
  · rw [h]
    exact if_neg Bool.false_ne_true
  · rw [h]
    exact if_neg Bool.false_ne_true
  · rw [h]
    exact if_neg Bool.false_ne_true

theorem faultAlone_phase (hn : n < 40) : ((s.faultAlone x).phase n).en = false ∧ ((s.faultAlone x).phase n).pwm = .mid := by
  rw [State.faultAlone, State.updRail_phase]
  exact converterCut_phase hn

theorem only_faultAlone (s : State) (x : Rail) : Only [.conv] s (s.faultAlone x) := (only_converterCut s).trans (only_updRail _ x _)

theorem only_faultHalting (s : State) (x : Rail) : Only [.regs, .conv, .flt, .sys] s (s.faultHalting x) :=
  ((((only_faultAlone s x).mono (by simp)).then (only_darkAll _) (by simp)).then (only_updSys _ _) (by simp)).then (only_tally _ _ _ _ _) (by simp)

theorem faultHalting_phase (hn : n < 40) : ((s.faultHalting x).phase n).en = false ∧ ((s.faultHalting x).phase n).pwm = .mid := by
  rw [State.faultHalting, latchRailFault_phase, (only_darkAll _).phase]
  exact faultAlone_phase hn

theorem faultHalting_st {r : Nat} (h : r ∈ s.regions) : ((s.faultHalting x).reg r).seq.st = .dark := by
  rw [State.faultHalting, latchRailFault_reg]
  exact darkAll_st ((only_faultAlone s x).regions.symm ▸ h)

theorem faultHalting_rail (s : State) (x : Rail) : ((s.faultHalting x).rail x).st = .fault := by
  rw [State.faultHalting, latchRailFault_rail, (only_darkAll _).rail, State.faultAlone, State.updRail_rail_same]

/-- A rail's fault in a service state halts the block. -/
theorem halted_railFault (h : s.service = true) (hn : s.sys.nocfgRun = false) :
    Halted s 5 (settle (s.railFault x)) ∧ ((settle (s.railFault x)).rail x).st = .fault := by
  have hb : ((s.faultRail x).faultHalting x).hw.bstate = s.hw.bstate := (only_faultHalting _ x).bstate.trans (only_faultRail s x).bstate
  have hregions := (only_faultRail s x).regions
  obtain ⟨hkind, hstop⟩ := latchRailFault_fields (darkAll ((s.faultRail x).faultAlone x))
  rw [railFault_of_service h hn]
  refine ⟨halted_setB ?_ hkind hstop (fun n hn => faultHalting_phase hn) fun r hr => faultHalting_st (hregions.symm ▸ hr), ?_⟩
  · rw [hb]
    rcases service_cases h with h | h | h <;> rw [h] <;> decide
  · rw [settle_rail, (only_setB _ _).rail]
    exact faultHalting_rail ..

/-! ### A rail not good (R132, R136) -/

/-- A rail sensed at the end of its watch. -/
def State.watchEnded (s : State) (x : Rail) (a : Nat) : State := s.updRail x fun q => { q with watch := false, v := a }

/-- A sensed rail beyond 5 % of its set-point (R136). -/
def State.notGoodAt (s : State) (x : Rail) (a : Nat) : Prop := 20 * a < 19 * s.railMv x ∨ 21 * s.railMv x < 20 * a

theorem reach_railMv (s : State) (b : Nat) (x : Rail) : (s.reach b).railMv x = s.railMv x := by
  unfold State.railMv
  rw [State.reach_railSet]

theorem exec_railNotGoodTimeout_good {a : Nat} (hw : (s.rail x).watch = true) (hst : (s.rail x).st = .reg) (h : ¬ s.notGoodAt x a) :
    exec (.railNotGoodTimeout x a) s = done ((s.reach ((s.rail x).at_ + 2 * msT)).watchEnded x a) := by
  refine (if_pos ⟨hw, hst⟩).trans (if_neg ?_)
  rw [reach_railMv]
  exact h

/-- The rail is not good. -/
def State.notGood (s : State) (x : Rail) : State := s.updRail x fun q => { q with notGood := true }

theorem exec_railNotGoodTimeout_bad {a : Nat} (hw : (s.rail x).watch = true) (hst : (s.rail x).st = .reg) (h : s.notGoodAt x a) :
    exec (.railNotGoodTimeout x a) s = done ((((s.reach ((s.rail x).at_ + 2 * msT)).watchEnded x a).notGood x).railFault x) := by
  refine (if_pos ⟨hw, hst⟩).trans (if_pos ?_)
  rw [reach_railMv]
  exact h

/-- The rail as it is judged not good, at the end of the watch. -/
def State.judgedBad (s : State) (x : Rail) (a : Nat) : State := ((s.reach ((s.rail x).at_ + 2 * msT)).watchEnded x a).notGood x

theorem only_judgedBad (s : State) (x : Rail) (a : Nat) : Only [.now, .conv] s (s.judgedBad x a) :=
  (((only_reach s _).mono (by simp)).then (only_updRail _ x _) (by simp)).then (only_updRail _ x _) (by simp)

theorem judgedBad_rail_same (s : State) (x : Rail) (a : Nat) : ((s.judgedBad x a).rail x).notGood = true := by
  rw [State.judgedBad, State.notGood, State.updRail_rail_same]

theorem judgedBad_rail_other (s : State) (a : Nat) (h : y ≠ x) : (s.judgedBad x a).rail y = s.rail y := by
  rw [State.judgedBad, State.notGood, State.updRail_rail_other _ _ h, State.watchEnded, State.updRail_rail_other _ _ h, State.reach_rail]

theorem notGood_boot_does {a : Nat} (hw : (s.rail x).watch = true) (hst : (s.rail x).st = .reg) (h : s.notGoodAt x a) (hb : s.hw.bstate = .boot) :
    Does (.railNotGoodTimeout x a) s [.now, .conv] fun t =>
      (t.rail x).st = .fault ∧ (t.rail x).notGood = true ∧ ∀ y, y ≠ x → t.rail y = s.rail y := by
  have hexec : exec (.railNotGoodTimeout x a) s = done ((s.judgedBad x a).railFault x) := exec_railNotGoodTimeout_bad hw hst h
  have only := only_judgedBad s x a
  have hsame := judgedBad_rail_same s x a
  have hother := fun y hy => judgedBad_rail_other s (x := x) (y := y) a hy
  generalize s.judgedBad x a = u at hexec only hsame hother
  rw [railFault_of_boot (only.bstate.trans hb)] at hexec
  refine Does.of_done hexec ⟨?_, ?_, fun y hy => ?_⟩ (only.then (only_faultRail u x) (by simp))
  · rw [settle_rail, faultRail_rail_same]
  · rw [settle_rail, faultRail_rail_same]
    exact hsame
  · rw [settle_rail, faultRail_rail_other u hy, hother y hy]

theorem Only.service {ps : List Part} (h : Only ps s t) (hp : Part.hw ∉ ps := by simp) : t.service = s.service := by
  unfold State.service
  rw [h.bstate hp]

theorem Halted.of_regions {k : Nat} (h : Halted u k t) (hr : u.regions = s.regions) : Halted s k t := by
  obtain ⟨hb, hkind, hstop, hcause, hphase, hdark⟩ := h
  exact ⟨hb, hkind, hstop, hcause, hphase, fun r hin => hdark r (hr.symm ▸ hin)⟩

theorem notGood_service_does {a : Nat} (hw : (s.rail x).watch = true) (hst : (s.rail x).st = .reg) (h : s.notGoodAt x a)
    (hb : s.service = true) (hn : s.sys.nocfgRun = false) :
    Does (.railNotGoodTimeout x a) s [.now, .regs, .conv, .flt, .hw, .sys] fun t => Halted s 5 t ∧ (t.rail x).st = .fault := by
  have hexec : exec (.railNotGoodTimeout x a) s = done ((s.judgedBad x a).railFault x) := exec_railNotGoodTimeout_bad hw hst h
  have only := only_judgedBad s x a
  generalize s.judgedBad x a = u at hexec only
  obtain ⟨hhalt, hfault⟩ := halted_railFault (s := u) (x := x) (only.service.trans hb) (by rw [only.sys]; exact hn)
  exact Does.of_done hexec ⟨hhalt.of_regions only.regions, hfault⟩ ((only.mono (by simp)).then (only_railFault u x) (by simp))

theorem exec_overvoltagePersists (hov : (s.rail x).ov = true) (hlow : (s.rail x).heldLow = true) (hst : (s.rail x).st = .reg) :
    exec (.overvoltagePersists x) s = done ((s.reach ((s.rail x).ovAt + 100 * usT)).railFault x) :=
  if_pos ⟨hov, hlow, by rw [hst]; decide, by rw [hst]; decide⟩

theorem overvoltagePersists_does (hov : (s.rail x).ov = true) (hlow : (s.rail x).heldLow = true) (hst : (s.rail x).st = .reg)
    (hb : s.service = true) (hn : s.sys.nocfgRun = false) :
    Does (.overvoltagePersists x) s [.now, .regs, .conv, .flt, .hw, .sys] fun t =>
      Halted s 5 t ∧ (t.rail x).st = .fault ∧ t.now = max s.now ((s.rail x).ovAt + 100 * usT) := by
  have hexec := exec_overvoltagePersists hov hlow hst
  have only := only_reach s ((s.rail x).ovAt + 100 * usT)
  have hnow := State.reach_now (s := s) ((s.rail x).ovAt + 100 * usT)
  generalize s.reach ((s.rail x).ovAt + 100 * usT) = u at hexec only hnow
  obtain ⟨hhalt, hfault⟩ := halted_railFault (s := u) (x := x) (only.service.trans hb) (by rw [only.sys]; exact hn)
  refine Does.of_done hexec ⟨hhalt.of_regions only.regions, hfault, ?_⟩ ((only.mono (by simp)).then (only_railFault u x) (by simp))
  rw [settle_now, (only_railFault u x).now, hnow]

/-! ### The retry of a rail in the boot (R452) -/

/-- A rail in FAULT is tried once more. -/
def State.triedAgain (s : State) (x : Rail) : State := s.updRail x fun q => { q with tried := true }

theorem exec_railFaultRetry_first (hstep : s.stepping = true) (h8 : s.sys.step = 8) (hst : (s.rail x).st = .fault) (ht : (s.rail x).tried = false) :
    exec (.railFaultRetry x) s = done (((s.reach ((s.rail x).at_ + 100 * msT)).triedAgain x).railStart x) :=
  (if_pos ⟨hstep, h8, hst⟩).trans (if_neg (ne_true_of_eq_false ht))

theorem railFaultRetry_first_does (hstep : s.stepping = true) (h8 : s.sys.step = 8) (hst : (s.rail x).st = .fault) (ht : (s.rail x).tried = false)
    (hov : (s.rail x).ov = false) : Does (.railFaultRetry x) s [.now, .conv] fun t =>
      t.now = max s.now ((s.rail x).at_ + 100 * msT) ∧
      RailBecomes s x { s.rail x with tried := true, st := .delay, at_ := t.now, notGood := false, watch := false } t := by
  have hexec := exec_railFaultRetry_first hstep h8 hst ht
  have only : Only [.now, .conv] s ((s.reach ((s.rail x).at_ + 100 * msT)).triedAgain x) :=
    ((only_reach s _).mono (by simp)).then (only_updRail _ x _) (by simp)
  have hsame : ((s.reach ((s.rail x).at_ + 100 * msT)).triedAgain x).rail x = { s.rail x with tried := true } := by
    rw [State.triedAgain, State.updRail_rail_same, State.reach_rail]
  have hother : ∀ y, y ≠ x → ((s.reach ((s.rail x).at_ + 100 * msT)).triedAgain x).rail y = s.rail y := fun y hy => by
    rw [State.triedAgain, State.updRail_rail_other _ _ hy, State.reach_rail]
  have hnow : ((s.reach ((s.rail x).at_ + 100 * msT)).triedAgain x).now = max s.now ((s.rail x).at_ + 100 * msT) := by
    rw [State.triedAgain, State.updRail_now, State.reach_now]
  generalize (s.reach ((s.rail x).at_ + 100 * msT)).triedAgain x = u at hexec only hsame hother hnow
  obtain ⟨hstart, hkept⟩ := railBecomes_railStart (s := u) (x := x) (.inr (by rw [hsame]; exact ⟨hst, hov⟩))
  have hu : (settle (u.railStart x)).now = u.now := by rw [settle_now, (only_railStart u x).now]
  refine Does.of_done hexec ⟨hu.trans hnow, ?_, fun y hy => ?_⟩ (only.then (only_railStart u x) (by simp))
  · rw [settle_rail, hstart, hu, hsame]
  · rw [settle_rail, hkept y hy, hother y hy]

/-- The rails in regulation are stopped. -/
def State.stopRails (s : State) : State :=
  [Rail.vib, .vqa, .vqc].foldl (fun s y => s.updRail y fun q => if q.st = .reg then { q with st := .sdelay, at_ := s.now, watch := false } else q) s

theorem stopRails_st (s : State) (y : Rail) : (s.stopRails.rail y).st ≠ .reg := by
  have hstop : ∀ (q : RailDyn) (a : Nat), (if q.st = .reg then { q with st := .sdelay, at_ := a, watch := false } else q : RailDyn).st ≠ .reg :=
    fun q a => by
      split
      · exact fun h => RailSt.noConfusion h
      · assumption
  cases y
  · exact hstop s.conv.vib s.now
  · exact hstop s.conv.vqa s.now
  · exact hstop s.conv.vqc s.now

theorem only_stopRails (s : State) : Only [.conv] s s.stopRails := Only.foldl _ (fun s y => only_updRail s y _) _ _

theorem exec_railFaultRetry_second (hstep : s.stepping = true) (h8 : s.sys.step = 8) (hst : (s.rail x).st = .fault) (ht : (s.rail x).tried = true) :
    exec (.railFaultRetry x) s =
      done (s.stopRails.updSys fun y => { y with refuse := if x = .vib then 0x50 else 0x51, nocfgRun := false }) :=
  (if_pos ⟨hstep, h8, hst⟩).trans (if_pos ht)

theorem railFaultRetry_second_does (hstep : s.stepping = true) (h8 : s.sys.step = 8) (hst : (s.rail x).st = .fault) (ht : (s.rail x).tried = true) :
    Does (.railFaultRetry x) s [.conv, .sys] fun t =>
      t.sys.refuse = (if x = .vib then 0x50 else 0x51) ∧ t.sys.nocfgRun = false ∧ ∀ y, (t.rail y).st ≠ .reg := by
  have hexec := exec_railFaultRetry_second hstep h8 hst ht
  have hst' := stopRails_st s
  have only := only_stopRails s
  generalize s.stopRails = u at hexec hst' only
  refine Does.of_done hexec ⟨?_, ?_, fun y => ?_⟩ ((only.mono (by simp)).then (only_updSys u _) (by simp))
  · rw [settle_sys]
    rfl
  · rw [settle_sys]
    rfl
  · rw [settle_rail, (only_updSys u _).rail]
    exact hst' y

/-! ### The input stop (R134, R458) -/

theorem Only.seqSt {ps : List Part} (h : Only ps s t) (r : Nat) (hp : Part.regs ∉ ps := by simp) :
    (t.reg r).seq.st = (s.reg r).seq.st := by
  obtain ⟨-, -, -, -, -, -, -, -, -, -, hseq, -⟩ : Region.kept (s.reg r) (t.reg r) := h.2 .regs hp r
  rw [hseq]

/-- VIN beyond its limits. -/
def State.vinOutside (s : State) (vin : Nat) : Prop := vin < 100 * s.com.conv.vinUnder ∨ 100 * s.com.conv.vinOver < vin

theorem noteVin_rail (s : State) (vin : Nat) (y : Rail) : (s.noteVin vin).rail y = s.rail y := by cases y <;> rfl

theorem noteVin_vinBadAt_of_outside {vin : Nat} (h : s.vinOutside vin) : (s.noteVin vin).conv.vinBadAt = some (s.conv.vinBadAt.getD s.now) := by
  change (if decide (vin < 100 * s.com.conv.vinUnder) || decide (100 * s.com.conv.vinOver < vin) then _ else none) = _
  refine if_pos ?_
  rw [Bool.or_eq_true, decide_eq_true_eq, decide_eq_true_eq]
  exact h

theorem noteVin_vinBadAt_of_inside {vin : Nat} (hlow : 100 * s.com.conv.vinUnder ≤ vin) (hhigh : vin ≤ 100 * s.com.conv.vinOver) :
    (s.noteVin vin).conv.vinBadAt = none := by
  change (if decide (vin < 100 * s.com.conv.vinUnder) || decide (100 * s.com.conv.vinOver < vin) then _ else none) = _
  refine if_neg ?_
  rw [Bool.or_eq_true, decide_eq_true_eq, decide_eq_true_eq]
  omega

/-- The input stop noted, with its tally (R134). -/
def State.inputStopNoted (s : State) : State := (s.updConv fun y => { y with inStop := true }).tally 9 0 4 1

/-- The latch of the input stop: kind 4, waiting for VIN (R457, R458). -/
def State.latchInputStop (s : State) : State := s.updSys fun y => { y with stop := .none, stopStep := 0, hkind := 4, vinwait := true }

/-- Tallies are taken where the core runs. -/
def State.harvestIfRun (s : State) : State := if s.sys.coreRun then s.harvestTake else s

/-- The converter cut and every region dark. -/
def State.allDown (s : State) : State := darkAll (converterCut s)

/-- The state in which an input stop with VIN out since `a` has taken everything down. -/
def State.inputDown (s : State) (vin a : Nat) : State := ((s.noteVin vin).reach (a + 20 * usT)).allDown.inputStopNoted

theorem inputStopNoted_phase (s : State) (n : Nat) : s.inputStopNoted.phase n = s.phase n := rfl

theorem inputStopNoted_reg (s : State) (n : Nat) : s.inputStopNoted.reg n = s.reg n := rfl

theorem inputStopNoted_conv (s : State) : s.inputStopNoted.conv.inStop = true := rfl

theorem only_inputStopNoted (s : State) : Only [.conv, .flt] s s.inputStopNoted :=
  ((only_updConv s _).mono (by simp)).then (only_tally ..) (by simp)

theorem only_latchInputStop (s : State) : Only [.sys] s s.latchInputStop := only_updSys ..

theorem only_allDown (s : State) : Only [.regs, .conv] s s.allDown :=
  ((only_converterCut s).mono (by simp)).then (only_darkAll _) (by simp)

theorem only_harvestIfRun (s : State) : Only [.flt] s s.harvestIfRun := Only.ite _ (fun _ => only_harvestTake s) fun _ => .refl _ _

theorem allDown_phase (hn : n < 40) : (s.allDown.phase n).en = false ∧ (s.allDown.phase n).pwm = .mid := by
  rw [State.allDown, (only_darkAll _).phase]
  exact converterCut_phase hn

theorem allDown_st {r : Nat} (h : r ∈ s.regions) : (s.allDown.reg r).seq.st = .dark :=
  darkAll_st ((only_converterCut s).regions.symm ▸ h)

theorem only_inputDown (s : State) (vin a : Nat) : Only [.now, .regs, .conv, .flt] s (s.inputDown vin a) :=
  ((((only_noteVin s vin).mono (by simp)).then (only_reach _ _) (by simp)).then (only_allDown _) (by simp)).then
    (only_inputStopNoted _) (by simp)

theorem inputDown_phase {vin a : Nat} (hn : n < 40) : ((s.inputDown vin a).phase n).en = false ∧ ((s.inputDown vin a).phase n).pwm = .mid := by
  rw [State.inputDown, inputStopNoted_phase]
  exact allDown_phase hn

theorem inputDown_st {vin a r : Nat} (h : r ∈ s.regions) : ((s.inputDown vin a).reg r).seq.st = .dark := by
  rw [State.inputDown, inputStopNoted_reg]
  exact allDown_st (((only_reach _ _).regions.trans (only_noteVin s vin).regions).symm ▸ h)

theorem inputDown_now (s : State) (vin a : Nat) : (s.inputDown vin a).now = max s.now (a + 20 * usT) := by
  rw [State.inputDown, (only_inputStopNoted _).now, (only_allDown _).now, State.reach_now, (only_noteVin s vin).now]

/-- An input stop with a rail up: all is down; outside HALTED it halts the block. -/
theorem exec_inputStop_up {vin a : Nat} (h : s.vinOutside vin) (hx : (s.rail x).st ≠ .off) (ha : (s.noteVin vin).conv.vinBadAt.getD s.now = a) :
    exec (.inputStop vin) s = let w := s.inputDown vin a
      if w.hw.bstate = .halted then done w else done (w.latchInputStop.harvestIfRun.setB .halted) := by
  have hcond : ((decide (vin < 100 * (s.noteVin vin).com.conv.vinUnder) || decide (100 * (s.noteVin vin).com.conv.vinOver < vin)) &&
      [Rail.vib, .vqa, .vqc].any fun x => decide (((s.noteVin vin).rail x).st ≠ .off)) = true := by
    rw [Bool.and_eq_true, Bool.or_eq_true, decide_eq_true_eq, decide_eq_true_eq, List.any_eq_true]
    refine ⟨h, x, by cases x <;> simp, ?_⟩
    rw [noteVin_rail, decide_eq_true_eq]
    exact hx
  subst ha
  exact if_pos hcond

theorem exec_inputStop {vin : Nat} (h : s.vinOutside vin) (hx : (s.rail x).st ≠ .off) (hb : s.hw.bstate ≠ .halted) :
    exec (.inputStop vin) s = done ((s.inputDown vin (s.conv.vinBadAt.getD s.now)).latchInputStop.harvestIfRun.setB .halted) := by
  have hbad : (s.noteVin vin).conv.vinBadAt.getD s.now = s.conv.vinBadAt.getD s.now := by rw [noteVin_vinBadAt_of_outside h]; rfl
  have hexec := exec_inputStop_up h hx hbad
  have only := only_inputDown s vin (s.conv.vinBadAt.getD s.now)
  dsimp only at hexec
  generalize s.inputDown vin (s.conv.vinBadAt.getD s.now) = u at hexec only
  exact hexec.trans (if_neg (only.bstate.symm ▸ hb))

theorem latchInputStop_fields (s : State) :
    s.latchInputStop.sys.hkind = 4 ∧ s.latchInputStop.sys.stop = .none ∧ s.latchInputStop.sys.vinwait = true := ⟨rfl, rfl, rfl⟩

theorem inputStop_halts_does {vin : Nat} (h : s.vinOutside vin) (hx : (s.rail x).st ≠ .off) (hb : s.hw.bstate ≠ .halted) :
    Does (.inputStop vin) s [.now, .regs, .conv, .flt, .hw, .sys] fun t =>
      Halted s 4 t ∧ t.sys.vinwait = true ∧ t.conv.inStop = true ∧ t.now = max s.now (s.conv.vinBadAt.getD s.now + 20 * usT) := by
  have hexec := exec_inputStop h hx hb
  have only := only_inputDown s vin (s.conv.vinBadAt.getD s.now)
  have hnow := inputDown_now s vin (s.conv.vinBadAt.getD s.now)
  have hphase := fun n (hn : n < 40) => inputDown_phase (s := s) (vin := vin) (a := s.conv.vinBadAt.getD s.now) hn
  have hdark := fun r (hr : r ∈ s.regions) => inputDown_st (vin := vin) (a := s.conv.vinBadAt.getD s.now) hr
  have hin : (s.inputDown vin (s.conv.vinBadAt.getD s.now)).conv.inStop = true := by
    rw [State.inputDown]
    exact inputStopNoted_conv _
  generalize s.inputDown vin (s.conv.vinBadAt.getD s.now) = u at *
  have latch := only_latchInputStop u
  obtain ⟨hkind, hstop, hwait⟩ := latchInputStop_fields u
  generalize u.latchInputStop = v at *
  have harvest := only_harvestIfRun v
  generalize v.harvestIfRun = w at *
  have set := only_setB w .halted
  refine Does.of_done hexec ⟨halted_setB ?_ ?_ ?_ (fun n hn => ?_) fun r hr => ?_, ?_, ?_, ?_⟩
    ((((only.mono (by simp)).then latch (by simp)).then harvest (by simp)).then set (by simp))
  · rw [harvest.bstate, latch.bstate, only.bstate]
    exact hb
  · rw [harvest.sys, hkind]
  · rw [harvest.sys, hstop]
  · rw [harvest.phase, latch.phase]
    exact hphase n hn
  · rw [harvest.seqSt, latch.seqSt]
    exact hdark r hr
  · rw [settle_sys, set.sys, harvest.sys, hwait]
  · rw [settle_conv, set.conv, harvest.conv, latch.conv, hin]
  · rw [settle_now, set.now, harvest.now, latch.now, hnow]

theorem exec_inputStop_inside {vin : Nat} (hlow : 100 * s.com.conv.vinUnder ≤ vin) (hhigh : vin ≤ 100 * s.com.conv.vinOver) :
    exec (.inputStop vin) s = done (s.noteVin vin) := by
  refine if_neg ?_
  rw [Bool.and_eq_true, Bool.or_eq_true, decide_eq_true_eq, decide_eq_true_eq]
  change ¬ ((vin < 100 * s.com.conv.vinUnder ∨ 100 * s.com.conv.vinOver < vin) ∧ _)
  omega

theorem inputStop_inside_does {vin : Nat} (hlow : 100 * s.com.conv.vinUnder ≤ vin) (hhigh : vin ≤ 100 * s.com.conv.vinOver) :
    Does (.inputStop vin) s [.conv] fun t => t.conv.vin = vin ∧ t.conv.vinBadAt = none := by
  have hin := noteVin_vinBadAt_of_inside hlow hhigh
  have hvin : (s.noteVin vin).conv.vin = vin := rfl
  have only := only_noteVin s vin
  have hexec := exec_inputStop_inside hlow hhigh
  generalize s.noteVin vin = u at *
  refine Does.of_done hexec ⟨?_, ?_⟩ only <;> rw [settle_conv]
  · exact hvin
  · exact hin

/-! ### Recovery of the input (R134, R459) -/

theorem setB_bstate (s : State) (b : BState) : (s.setB b).hw.bstate = b := by
  by_cases h : s.hw.bstate = b
  · exact (congrArg (fun u : State => u.hw.bstate) (if_pos h)).trans h
  · rw [setB_eq h]
    rfl

/-- GUARD entered at step 1. -/
def State.guardEntered (s : State) : State := (s.updSys fun y => { y with step := 1 }).setB .guard_

theorem only_guardEntered (s : State) : Only [.sys, .hw] s s.guardEntered :=
  ((only_updSys s _).mono (by simp)).then (only_setB _ _) (by simp)

theorem guardEntered_fields (s : State) :
    s.guardEntered.hw.bstate = .guard_ ∧ s.guardEntered.sys.hkind = s.sys.hkind ∧ s.guardEntered.sys.step = 1 := by
  rw [State.guardEntered, setB_bstate, (only_setB _ _).sys]
  exact ⟨rfl, rfl, rfl⟩

theorem enterGuard_of_start (h : s.sys.hkind = 0 ∨ s.sys.hkind = 4) : s.enterGuard = s.powerLinks.guardEntered :=
  if_pos (by rw [(only_powerLinks s).sys]; exact h)

/-- The block as a warm reset begins. -/
def State.warmFresh (s : State) : State := (s.fresh false).tally 0x0A 0 2 1

theorem warmFresh_fields (s : State) : s.warmFresh.now = s.now ∧ s.warmFresh.sys.hkind = s.sys.hkind := ⟨rfl, rfl⟩

theorem warmReset_eq (s : State) : s.warmReset = s.warmFresh.enterGuard := rfl

/-- A warm reset without a halt latch starts in GUARD (R459). -/
theorem warmReset_starts (h : s.sys.hkind = 0) :
    s.warmReset.now = s.now ∧ s.warmReset.hw.bstate = .guard_ ∧ s.warmReset.sys.hkind = 0 ∧ s.warmReset.sys.step = 1 := by
  obtain ⟨hnow, hkind⟩ := warmFresh_fields s
  rw [warmReset_eq]
  generalize s.warmFresh = u at *
  rw [enterGuard_of_start (.inl (hkind.trans h))]
  have power := only_powerLinks u
  generalize u.powerLinks = v at *
  obtain ⟨hb, hk, hstep⟩ := guardEntered_fields v
  refine ⟨?_, hb, ?_, hstep⟩
  · rw [(only_guardEntered v).now, power.now, hnow]
  · rw [hk, power.sys, hkind, h]

/-- The halt latch released. -/
def State.unlatched (s : State) : State := s.updSys fun y => { y with hkind := 0 }

theorem unlatched_hkind (s : State) : s.unlatched.sys.hkind = 0 := rfl

theorem exec_inputStopRecovery {a : Nat} (ha : s.conv.vinGoodAt = some a) (hb : s.hw.bstate = .halted) (hk : s.sys.hkind = 4) :
    exec .inputStopRecovery s = done (s.reach (a + 100 * msT)).unlatched.warmReset := by
  change execInputStopRecovery s = _
  unfold execInputStopRecovery
  rw [ha]
  exact if_pos ⟨hb, hk⟩

theorem inputStopRecovery_does {a : Nat} (ha : s.conv.vinGoodAt = some a) (hb : s.hw.bstate = .halted) (hk : s.sys.hkind = 4) :
    Does .inputStopRecovery s (partsOf .inputStopRecovery) fun t =>
      t.now = max s.now (a + 100 * msT) ∧ t.hw.bstate = .guard_ ∧ t.sys.hkind = 0 ∧ t.sys.step = 1 := by
  have hexec := exec_inputStopRecovery ha hb hk
  have hnow : (s.reach (a + 100 * msT)).unlatched.now = max s.now (a + 100 * msT) := State.reach_now ..
  obtain ⟨hwarm, hguard, hkind, hstep⟩ := warmReset_starts (unlatched_hkind (s.reach (a + 100 * msT)))
  generalize (s.reach (a + 100 * msT)).unlatched = u at *
  generalize u.warmReset = v at *
  refine Does.of_exec hexec ⟨?_, ?_, ?_, ?_⟩ (List.Subset.refl _)
  · rw [settle_now, hwarm, hnow]
  · rw [settle_hw_bstate, hguard]
  · rw [settle_sys, hkind]
  · rw [settle_sys, hstep]

/-- Settles O46. -/
theorem railFaultsAndInputStopsEndTheRun : Obligations.RailFaultsAndInputStopsEndTheRun := by
  unfold Obligations.RailFaultsAndInputStopsEndTheRun
  intro s x
  exact ⟨fun v hw hst hgood => Does.of_reach_updRail (exec_railNotGoodTimeout_good hw hst hgood), fun v hw hst hbad hb => notGood_boot_does hw hst hbad hb,
    fun v hw hst hbad hb hn => notGood_service_does hw hst hbad hb hn, overvoltagePersists_does,
    railFaultRetry_first_does, railFaultRetry_second_does, fun vin h hx hb => inputStop_halts_does h hx hb,
    fun vin hlow hhigh => inputStop_inside_does hlow hhigh, fun a ha hb hk => inputStopRecovery_does ha hb hk⟩

end Sys2Proof.Machine
end

section
/-! SUPPORT. The region sequencer (R275 to R287), and the proof of the obligation about it. -/

namespace Sys2Proof.Machine

-- The joined text is checked under a memory limit that counts every thread's stack: one proof at a time.
set_option Elab.async false

variable {s t u : State} {r : Nat}

/-! ### Entries of the sequencer's states (R275) -/

@[simp] theorem updSeq_seq (s : State) (r : Nat) (f : SeqDyn → SeqDyn) : ((s.updSeq r f).reg r).seq = f (s.reg r).seq := by
  rw [State.updSeq_eq, State.updReg_reg_same]

theorem reg_fenceMsg (s : State) (w : Word) (r : Nat) : (s.fenceMsg w).reg r = s.reg r := rfl

theorem fenceMsg_fence (s : State) (w : Word) : (s.fenceMsg w).ports.fence = s.ports.fence ++ [w] := rfl

theorem reg_updStg (s : State) (f : Staging → Staging) (r : Nat) : (s.updStg f).reg r = s.reg r := rfl

theorem enterLive_seq (s : State) (r : Nat) : ((enterLive s r).reg r).seq = { (s.reg r).seq with
    st := .live, target := 1, forced := false, overdue := false, startfail := false, holding := false, tag := none, at_ := s.now, inService := true } := by
  unfold enterLive
  rw [reg_fenceMsg, updSeq_seq]

theorem enterLive_fence (s : State) (r : Nat) : (enterLive s r).ports.fence = s.ports.fence ++ [fenceWord 2 0 0 r] := by
  unfold enterLive
  rw [fenceMsg_fence, State.updSeq_ports]

theorem enterHandover_seq (s : State) (r : Nat) :
    ((enterHandover s r).reg r).seq.st = (if (s.reg r).seq.ret then .handover else .live) ∧
    ((enterHandover s r).reg r).seq.stages = (s.reg r).seq.stages := by
  unfold enterHandover
  dsimp only
  rw [updSeq_seq]
  by_cases h : (s.reg r).seq.ret = true
  · rw [if_pos h, if_pos h, updSeq_seq]
    exact ⟨rfl, rfl⟩
  · rw [if_neg h, if_neg h, enterLive_seq, updSeq_seq]
    exact ⟨rfl, rfl⟩

/-- One more stage; the next interval has the given length. -/
def SeqDyn.staged (q : SeqDyn) (now next : Nat) : SeqDyn :=
  { q with stages := q.stages + 1, interval := next, nextAt := now + stgT next, holding := false, heldAt := none,
           holdSum := q.holdSum + match q.heldAt with | none => 0 | some h => now - h }

theorem enableStage_eq (s : State) (r next : Nat) : enableStage s r next =
    let u := s.updSeq r fun q => q.staged s.now next
    if 16 ≤ (u.reg r).seq.stages then enterHandover u r else u := by
  rfl

theorem enableStage_early (h : (s.reg r).seq.stages < 15) (next : Nat) :
    ((enableStage s r next).reg r).seq = (s.reg r).seq.staged s.now next := by
  rw [enableStage_eq]
  dsimp only
  rw [if_neg, updSeq_seq]
  rw [updSeq_seq]
  exact fun hno => absurd (Nat.le_of_lt_succ hno : 15 ≤ (s.reg r).seq.stages) (Nat.not_le.2 h)

theorem enableStage_last (h : 15 ≤ (s.reg r).seq.stages) (next : Nat) :
    ((enableStage s r next).reg r).seq.st = (if (s.reg r).seq.ret then .handover else .live) ∧
    ((enableStage s r next).reg r).seq.stages = (s.reg r).seq.stages + 1 := by
  have hseq := updSeq_seq s r fun q => q.staged s.now next
  rw [enableStage_eq]
  dsimp only
  generalize (s.updSeq r fun q => q.staged s.now next) = v at *
  have hstages : (v.reg r).seq.stages = (s.reg r).seq.stages + 1 := by rw [hseq]; rfl
  have hret : (v.reg r).seq.ret = (s.reg r).seq.ret := by rw [hseq]; rfl
  rw [if_pos (by omega)]
  obtain ⟨hst, hkept⟩ := enterHandover_seq v r
  exact ⟨hst.trans (by rw [hret]), hkept.trans hstages⟩

/-- The next stage waits: the interval is doubled, up to 32 us. -/
def SeqDyn.waiting (q : SeqDyn) (now : Nat) : SeqDyn :=
  { q with interval := min 64 (2 * q.interval), nextAt := now + stgT (min 64 (2 * q.interval)), holding := true,
           heldAt := some (q.heldAt.getD now) }

/-- Step hints are posted to regions (R278). -/
def State.postSteps (s : State) (l : List Nat) (lead r : Nat) : State := l.foldl (fun s n => s.postStep n lead (s.com.reg r).inrush) s

theorem only_postSteps (s : State) (l : List Nat) (lead r : Nat) : Only [.eng] s (s.postSteps l lead r) :=
  Only.foldl _ (fun s n => only_postStep s n lead _) l s

theorem Only.seq {ps : List Part} (h : Only ps s t) (r : Nat) (hp : Part.regs ∉ ps := by simp) :
    (t.reg r).seq = { (s.reg r).seq with inService := (t.reg r).seq.inService } := by
  obtain ⟨-, -, -, -, -, -, -, -, -, -, hseq, -⟩ : Region.kept (s.reg r) (t.reg r) := h.2 .regs hp r
  exact hseq

theorem stageCheck_eq (s : State) (r : Nat) : stageCheck s r =
    let bad := (s.checked r).filter fun n => !s.passes n
    let iv := min 64 (2 * (s.reg r).seq.interval)
    if bad.isEmpty then enableStage s r (max (s.com.reg r).stgint ((s.reg r).seq.interval / 2))
    else (s.updSeq r fun q => q.waiting s.now).postSteps bad (50 * iv) r := rfl

/-- A headroom check adds a stage or holds (R277). -/
theorem stageCheck_seq (h : (s.reg r).seq.stages < 15) :
    ((stageCheck s r).reg r).seq.st = (s.reg r).seq.st ∧
    (((stageCheck s r).reg r).seq.stages = (s.reg r).seq.stages + 1 ∨
      (((stageCheck s r).reg r).seq.stages = (s.reg r).seq.stages ∧ ((stageCheck s r).reg r).seq.holding = true)) := by
  rw [stageCheck_eq]
  dsimp only
  by_cases hbad : ((s.checked r).filter fun n => !s.passes n).isEmpty = true
  · rw [if_pos hbad, enableStage_early h]
    exact ⟨rfl, .inl rfl⟩
  · rw [if_neg hbad, (only_postSteps _ _ _ r).seq r, updSeq_seq]
    exact ⟨rfl, .inr ⟨rfl, rfl⟩⟩

theorem enterStaging_seq (h : (s.reg r).seq.stages < 15) :
    ((enterStaging s r).reg r).seq.st = .staging ∧
    (((enterStaging s r).reg r).seq.stages = (s.reg r).seq.stages + 1 ∨
      (((enterStaging s r).reg r).seq.stages = (s.reg r).seq.stages ∧ ((enterStaging s r).reg r).seq.holding = true)) := by
  unfold enterStaging
  dsimp only
  rw [updSeq_seq, if_neg (show ¬ 16 ≤ (s.reg r).seq.stages by omega)]
  obtain ⟨hst, hstages⟩ := stageCheck_seq (s := s.updSeq r fun q => { q with
    st := .staging, target := 1, interval := (s.com.reg r).stgint, at_ := s.now, heldAt := none, holdSum := 0, forced := false })
    (r := r) (by rw [updSeq_seq]; exact h)
  rw [updSeq_seq] at hst hstages
  exact ⟨hst, hstages⟩

theorem enterFalling_seq (s : State) (r : Nat) :
    ((enterFalling s r).reg r).seq = { (s.reg r).seq with st := .falling, at_ := s.now, holding := false, heldAt := none } := by
  unfold enterFalling
  rw [reg_updStg, updSeq_seq]

theorem enterFalling_offsDue (s : State) (r : Nat) : r ∈ (enterFalling s r).stg.offsDue := by
  unfold enterFalling
  rw [State.updStg_stg, State.updSeq_stg]
  dsimp only
  split
  · exact List.contains_iff_mem.1 ‹_›
  · simp

theorem enterLowering_seq (h : 0 < (s.reg r).seq.stages) (target : Nat) :
    ((enterLowering s r target).reg r).seq.st = .lowering ∧ ((enterLowering s r target).reg r).seq.target = target := by
  unfold enterLowering
  dsimp only
  rw [updSeq_seq, if_neg (Nat.ne_of_gt h), updSeq_seq]
  exact ⟨rfl, rfl⟩

/-! ### Timed events of a sequencer (R274 to R281) -/

theorem notDue_of_not_mem {l : List Nat} (h : r ∉ l) : (!l.contains r) = true := by simpa using h

theorem exec_railGood (hst : (s.reg r).seq.st = .rising) (hset : (s.reg r).atSet = true) (hdue : r ∉ s.stg.onsDue) :
    exec (.railGood r) s = done (enterStaging (s.reach (max (s.reg r).modelAtSet (s.reg r).seq.lastBelow + 2 * usT)) r) :=
  if_pos ⟨hst, hset, notDue_of_not_mem hdue⟩

theorem exec_startfailTimeout (hst : (s.reg r).seq.st = .rising) (hset : (s.reg r).atSet = true) (hdue : r ∉ s.stg.onsDue) :
    exec (.startfailTimeout r) s =
      done (enterFalling ((s.reach ((s.reg r).modelAtSet + 200 * usT)).updSeq r fun q => { q with startfail := true, failSeen := true }) r) :=
  if_pos ⟨hst, hset, notDue_of_not_mem hdue⟩

theorem exec_stagingInterval_check (hst : (s.reg r).seq.st = .staging) (hf : (s.reg r).seq.forced = false) :
    exec (.stagingInterval r) s = done (stageCheck (s.reach (s.reg r).seq.nextAt) r) :=
  (if_pos hst).trans (if_neg (ne_true_of_eq_false hf))

theorem exec_stagingInterval_forced (hst : (s.reg r).seq.st = .staging) (hf : (s.reg r).seq.forced = true) :
    exec (.stagingInterval r) s = done (enableStage (s.reach (s.reg r).seq.nextAt) r 64) := (if_pos hst).trans (if_pos hf)

/-- A start is forced on, with its tally (R279). -/
def State.forcedOn (s : State) (r : Nat) : State := (s.updSeq r fun q => { q with forced := true }).tally 0x0E r 0 1

theorem exec_forcedStaging {h : Nat} (hheld : (s.reg r).seq.heldAt = some h) (hst : (s.reg r).seq.st = .staging) (hf : (s.reg r).seq.forced = false) :
    exec (.forcedStaging r) s = done (enableStage ((s.reach (h + (200 * usT - (s.reg r).seq.holdSum))).forcedOn r) r 64) := by
  change execForcedStaging r s = _
  unfold execForcedStaging
  dsimp only
  rw [hheld]
  exact if_pos ⟨hst, hf⟩

theorem exec_handoverTret (hst : (s.reg r).seq.st = .handover) (hret : (s.reg r).seq.ret = true) :
    exec (.handoverTret r) s = done (enterLive ((s.reach ((s.reg r).seq.at_ + s.tretT r)).updSeq r fun q => { q with ret := false }) r) :=
  if_pos ⟨hst, hret⟩

theorem exec_fenceTimeout (hst : (s.reg r).seq.st = .fencing) (hstop : s.com.guardStop = false) : exec (.fenceTimeout r) s =
    let u := s.reach ((s.reg r).seq.at_ + msT * (s.com.reg r).fenceto)
    if u.forcedRank r then done (enterLowering (u.tally 0x0E r 1 1) r (s.reg r).seq.target) else done (u.updSeq r fun q => { q with overdue := true }) :=
  if_pos ⟨hst, hstop⟩

/-- The highest stage opens (R275). -/
def State.stageOpened (s : State) (r : Nat) : State := s.updSeq r fun q => { q with stages := q.stages - 1, nextAt := s.now + 1200 }

theorem exec_stageOpen (hst : (s.reg r).seq.st = .lowering) (hn : 0 < (s.reg r).seq.stages) : exec (.stageOpen r) s =
    let u := (s.reach (s.reg r).seq.nextAt).stageOpened r
    if (u.reg r).seq.stages = 0 then done (enterFalling u r) else done u := if_pos ⟨hst, hn⟩

theorem exec_fallingComplete (hst : (s.reg r).seq.st = .falling) (hoff : s.pansOff r = true) (hdue : r ∉ s.stg.offsDue) :
    exec (.fallingComplete r) s = done (finishFalling s r) := if_pos ⟨hst, hoff, notDue_of_not_mem hdue⟩

/-- A falling region whose start has not failed. -/
def State.fallen (s : State) (r : Nat) : State := s.updSeq r fun q => { q with failSeen := false }

/-- A completed FALLING ends by its target (R275). -/
theorem finishFalling_ends (hf : (s.reg r).seq.failSeen = false) :
    ((s.reg r).seq.target = 0 → finishFalling s r = enterDark (s.fallen r) r) ∧
    ((s.reg r).seq.target = 2 → finishFalling s r = enterRetained (s.fallen r) r) ∧
    ((s.reg r).seq.target = 3 → finishFalling s r = enterPurging (s.fallen r) r true) := by
  unfold finishFalling
  dsimp only
  rw [if_neg (by rw [hf, Bool.false_and]; exact Bool.false_ne_true)]
  split
  · next h => exact ⟨fun _ => rfl, fun ht => absurd (h.symm.trans ht) (by decide), fun ht => absurd (h.symm.trans ht) (by decide)⟩
  · next h => exact ⟨fun ht => absurd (h.symm.trans ht) (by decide), fun ht => absurd (h.symm.trans ht) (by decide),
      fun ht => absurd (h.symm.trans ht) (by decide)⟩
  · next h => exact ⟨fun ht => absurd (h.symm.trans ht) (by decide), fun _ => rfl, fun ht => absurd (h.symm.trans ht) (by decide)⟩
  · next h0 _ h2 => exact ⟨fun ht => absurd ht h0, fun ht => absurd ht h2, fun _ => rfl⟩

theorem exec_purgeClampTret {a : Nat} (h : (s.reg r).seq.prgDue = some a) : exec (.purgeClampTret r) s =
    done ((s.reach a).updSeq r fun q => { q with prg := true, prgDue := none, agoneAt := (s.reach a).now }) := by
  change execPurgeClampTret r s = _
  unfold execPurgeClampTret
  rw [h]

theorem exec_purgeComplete (hst : (s.reg r).seq.st = .purging) (hgone : (s.reg r).seq.agone = true) (hprg : (s.reg r).seq.prg = true)
    (hret : (s.reg r).seq.ret = false) : exec (.purgeComplete r) s =
    let u := s.reach ((s.reg r).seq.agoneAt + 10 * usT * (s.com.reg r).purgehold)
    done ((u.updSeq r fun q => { q with st := .purged, purged := true, purgeslow := false, at_ := u.now }).fenceMsg (fenceWord 5 0 0 r)) :=
  if_pos ⟨hst, hgone, hprg, hret⟩

theorem exec_purgeslow (hst : (s.reg r).seq.st = .purging) :
    exec (.purgeslow r) s = done ((s.reach ((s.reg r).seq.at_ + 10 * msT)).updSeq r fun q => { q with purgeslow := true }) := if_pos hst

/-- A stage has been added, or the start holds. -/
def Staged (s : State) (r : Nat) (t : State) : Prop := (t.reg r).seq.st = .staging ∧
  ((t.reg r).seq.stages = (s.reg r).seq.stages + 1 ∨ ((t.reg r).seq.stages = (s.reg r).seq.stages ∧ (t.reg r).seq.holding = true))

theorem Staged.settle (h : Staged s r t) : Staged s r (settle t) := by
  unfold Staged
  rw [settle_seq_st, settle_seq_stages, settle_seq_holding]
  exact h

theorem railGood_completes (hst : (s.reg r).seq.st = .rising) (hset : (s.reg r).atSet = true) (hdue : r ∉ s.stg.onsDue)
    (hn : (s.reg r).seq.stages < 15) : Completes (.railGood r) s fun t =>
      t.now = max s.now (max (s.reg r).modelAtSet (s.reg r).seq.lastBelow + 2 * usT) ∧ Staged s r t := by
  refine Completes.of_exec (exec_railGood hst hset hdue) ⟨?_, Staged.settle (enterStaging_seq ?_)⟩
  · rw [settle_now, (only_enterStaging _ r).now, State.reach_now]
  · exact hn

theorem startfailTimeout_completes (hst : (s.reg r).seq.st = .rising) (hset : (s.reg r).atSet = true) (hdue : r ∉ s.stg.onsDue) :
    Completes (.startfailTimeout r) s fun t => t.now = max s.now ((s.reg r).modelAtSet + 200 * usT) ∧
      (t.reg r).seq.st = .falling ∧ (t.reg r).seq.startfail = true ∧ r ∈ t.stg.offsDue := by
  refine Completes.of_exec (exec_startfailTimeout hst hset hdue) ⟨?_, ?_, ?_, ?_⟩
  · rw [settle_now, (only_enterFalling _ r).now, State.updSeq_now, State.reach_now]
  · rw [settle_seq_st, enterFalling_seq]
  · rw [settle_seq_startfail, enterFalling_seq, updSeq_seq]
  · rw [settle_stg]
    exact enterFalling_offsDue ..

theorem stagingInterval_check_completes (hst : (s.reg r).seq.st = .staging) (hf : (s.reg r).seq.forced = false)
    (hn : (s.reg r).seq.stages < 15) : Completes (.stagingInterval r) s fun t => t.now = max s.now (s.reg r).seq.nextAt ∧ Staged s r t := by
  obtain ⟨hkept, hstages⟩ := stageCheck_seq (s := s.reach (s.reg r).seq.nextAt) hn
  refine Completes.of_exec (exec_stagingInterval_check hst hf) ⟨?_, Staged.settle ⟨hkept.trans hst, hstages⟩⟩
  rw [settle_now, (only_stageCheck _ r).now, State.reach_now]

theorem stagingInterval_forced_completes (hst : (s.reg r).seq.st = .staging) (hf : (s.reg r).seq.forced = true)
    (hn : (s.reg r).seq.stages < 15) : Completes (.stagingInterval r) s fun t =>
      t.now = max s.now (s.reg r).seq.nextAt ∧ (t.reg r).seq.st = .staging ∧ (t.reg r).seq.stages = (s.reg r).seq.stages + 1 ∧
      (t.reg r).seq.nextAt = t.now + stgT 64 := by
  have hnow : (enableStage (s.reach (s.reg r).seq.nextAt) r 64).now = max s.now (s.reg r).seq.nextAt :=
    by
    rw [(only_enableStage _ r 64).now, State.reach_now]
  have hseq := enableStage_early (s := s.reach (s.reg r).seq.nextAt) hn 64
  refine Completes.of_exec (exec_stagingInterval_forced hst hf) ⟨?_, ?_, ?_, ?_⟩
  · rw [settle_now, hnow]
  · rw [settle_seq_st, hseq]
    exact hst
  · rw [settle_seq_stages, hseq]
    rfl
  · rw [settle_seq_nextAt, settle_now, hnow, hseq]
    rfl

theorem stagingInterval_last_completes (hst : (s.reg r).seq.st = .staging) (hf : (s.reg r).seq.forced = true)
    (hn : 15 ≤ (s.reg r).seq.stages) : Completes (.stagingInterval r) s fun t =>
      t.now = max s.now (s.reg r).seq.nextAt ∧ (t.reg r).seq.st = (if (s.reg r).seq.ret then .handover else .live) ∧
      (t.reg r).seq.stages = (s.reg r).seq.stages + 1 := by
  obtain ⟨hend, hstages⟩ := enableStage_last (s := s.reach (s.reg r).seq.nextAt) hn 64
  refine Completes.of_exec (exec_stagingInterval_forced hst hf) ⟨?_, ?_, ?_⟩
  · rw [settle_now, (only_enableStage _ r 64).now, State.reach_now]
  · rw [settle_seq_st]
    exact hend
  · rw [settle_seq_stages]
    exact hstages

theorem forcedOn_seq (s : State) (r : Nat) : ((s.forcedOn r).reg r).seq = { (s.reg r).seq with forced := true } :=
  (updSeq_seq s r fun q => { q with forced := true } :)

theorem forcedOn_tally (s : State) (r : Nat) :
    (s.forcedOn r).flt.tally.get 0 (tallyKey 0x0E r 0) = s.flt.tally.get 0 (tallyKey 0x0E r 0) + 1 := tally_get ..

theorem forcedOn_now (s : State) (r : Nat) : (s.forcedOn r).now = s.now := rfl

theorem forcedStaging_completes {h : Nat} (hst : (s.reg r).seq.st = .staging) (hf : (s.reg r).seq.forced = false)
    (hheld : (s.reg r).seq.heldAt = some h) (hn : (s.reg r).seq.stages < 15) : Completes (.forcedStaging r) s fun t =>
      t.now = max s.now (h + (200 * usT - (s.reg r).seq.holdSum)) ∧ (t.reg r).seq.forced = true ∧
      (t.reg r).seq.stages = (s.reg r).seq.stages + 1 ∧
      t.flt.tally.get 0 (tallyKey 0x0E r 0) = s.flt.tally.get 0 (tallyKey 0x0E r 0) + 1 := by
  have hexec := exec_forcedStaging hheld hst hf
  have hnow := forcedOn_now (s.reach (h + (200 * usT - (s.reg r).seq.holdSum))) r
  have hseq := forcedOn_seq (s.reach (h + (200 * usT - (s.reg r).seq.holdSum))) r
  have htally := forcedOn_tally (s.reach (h + (200 * usT - (s.reg r).seq.holdSum))) r
  generalize (s.reach (h + (200 * usT - (s.reg r).seq.holdSum))).forcedOn r = v at *
  rw [State.reach_reg] at hseq
  rw [State.reach_now] at hnow
  have hstage := enableStage_early (s := v) (r := r) (by rw [hseq]; exact hn) 64
  have only := only_enableStage v r 64
  refine Completes.of_exec hexec ⟨?_, ?_, ?_, ?_⟩
  · rw [settle_now, only.now, hnow]
  · rw [settle_seq_forced, hstage, hseq]
    rfl
  · rw [settle_seq_stages, hstage, hseq]
    rfl
  · rw [settle_flt_tally, only.tallies, htally]
    rfl

theorem handoverTret_completes (hst : (s.reg r).seq.st = .handover) (hret : (s.reg r).seq.ret = true) :
    Completes (.handoverTret r) s fun t => t.now = max s.now ((s.reg r).seq.at_ + s.tretT r) ∧ (t.reg r).seq.st = .live ∧
      (t.reg r).seq.ret = false ∧ (t.reg r).seq.stages = (s.reg r).seq.stages ∧ t.ports.fence = s.ports.fence ++ [fenceWord 2 0 0 r] := by
  refine Completes.of_exec (exec_handoverTret hst hret) ⟨?_, ?_, ?_, ?_, ?_⟩
  · rw [settle_now, (only_enterLive _ r).now, State.updSeq_now, State.reach_now]
  · rw [settle_seq_st, enterLive_seq]
  · rw [settle_seq_ret, enterLive_seq, updSeq_seq]
  · rw [settle_seq_stages, enterLive_seq, updSeq_seq, State.reach_reg]
  · rw [settle_ports_fence, enterLive_fence, State.updSeq_ports, State.reach_ports]

theorem reach_forcedRank (s : State) (a r : Nat) : (s.reach a).forcedRank r = s.forcedRank r := by
  unfold State.forcedRank
  rw [State.reach_com]

theorem fenceTimeout_overdue_completes (hst : (s.reg r).seq.st = .fencing) (hstop : s.com.guardStop = false) (hr : s.forcedRank r = false) :
    Completes (.fenceTimeout r) s fun t => t.now = max s.now ((s.reg r).seq.at_ + msT * (s.com.reg r).fenceto) ∧
      (t.reg r).seq.st = .fencing ∧ (t.reg r).seq.overdue = true := by
  refine Completes.of_exec ((exec_fenceTimeout hst hstop).trans (if_neg ?_)) ⟨?_, ?_, ?_⟩
  · rw [reach_forcedRank, hr]
    exact Bool.false_ne_true
  · rw [settle_now, State.updSeq_now, State.reach_now]
  · rw [settle_seq_st, updSeq_seq]
    exact hst
  · rw [settle_seq_overdue, updSeq_seq]

theorem tally_seq (s : State) (id ix bin n r : Nat) : ((s.tally id ix bin n).reg r).seq = (s.reg r).seq := rfl

theorem fenceTimeout_forced_completes (hst : (s.reg r).seq.st = .fencing) (hstop : s.com.guardStop = false) (hr : s.forcedRank r = true)
    (hn : 0 < (s.reg r).seq.stages) : Completes (.fenceTimeout r) s fun t =>
      t.now = max s.now ((s.reg r).seq.at_ + msT * (s.com.reg r).fenceto) ∧ (t.reg r).seq.st = .lowering ∧
      (t.reg r).seq.target = (s.reg r).seq.target ∧
      t.flt.tally.get 0 (tallyKey 0x0E r 1) = s.flt.tally.get 0 (tallyKey 0x0E r 1) + 1 := by
  have hexec := (exec_fenceTimeout hst hstop).trans (if_pos (by rw [reach_forcedRank, hr]))
  have htally := tally_get (s.reach ((s.reg r).seq.at_ + msT * (s.com.reg r).fenceto)) 0x0E r 1 1
  have hseq := tally_seq (s.reach ((s.reg r).seq.at_ + msT * (s.com.reg r).fenceto)) 0x0E r 1 1 r
  have hnow := State.tally_now (s := s.reach ((s.reg r).seq.at_ + msT * (s.com.reg r).fenceto)) 0x0E r 1 1
  generalize (s.reach ((s.reg r).seq.at_ + msT * (s.com.reg r).fenceto)).tally 0x0E r 1 1 = v at *
  rw [State.reach_reg] at hseq
  rw [State.reach_now] at hnow
  obtain ⟨hlow, htarget⟩ := enterLowering_seq (s := v) (r := r) (by rw [hseq]; exact hn) (s.reg r).seq.target
  have only := only_enterLowering v r (s.reg r).seq.target
  refine Completes.of_exec hexec ⟨?_, ?_, ?_, ?_⟩
  · rw [settle_now, only.now, hnow]
  · rw [settle_seq_st, hlow]
  · rw [settle_seq_target, htarget]
  · rw [settle_flt_tally, only.tallies, htally]
    rfl

theorem stageOpened_seq (s : State) (r : Nat) :
    ((s.stageOpened r).reg r).seq = { (s.reg r).seq with stages := (s.reg r).seq.stages - 1, nextAt := s.now + 1200 } := updSeq_seq ..

theorem stageOpened_now (s : State) (r : Nat) : (s.stageOpened r).now = s.now := rfl

theorem stageOpen_completes (hst : (s.reg r).seq.st = .lowering) (hn : 1 < (s.reg r).seq.stages) : Completes (.stageOpen r) s fun t =>
    t.now = max s.now (s.reg r).seq.nextAt ∧ (t.reg r).seq.st = .lowering ∧ (t.reg r).seq.stages = (s.reg r).seq.stages - 1 ∧
      (t.reg r).seq.nextAt = t.now + 1200 := by
  have hexec := exec_stageOpen hst (Nat.lt_trans Nat.zero_lt_one hn)
  have hseq := stageOpened_seq (s.reach (s.reg r).seq.nextAt) r
  have hnow := stageOpened_now (s.reach (s.reg r).seq.nextAt) r
  dsimp only at hexec
  generalize (s.reach (s.reg r).seq.nextAt).stageOpened r = v at *
  rw [State.reach_reg, State.reach_now] at hseq
  rw [State.reach_now] at hnow
  rw [if_neg (by rw [hseq]; exact Nat.sub_ne_zero_of_lt hn)] at hexec
  refine Completes.of_exec hexec ⟨?_, ?_, ?_, ?_⟩
  · rw [settle_now, hnow]
  · rw [settle_seq_st, hseq]
    exact hst
  · rw [settle_seq_stages, hseq]
  · rw [settle_seq_nextAt, settle_now, hnow, hseq]

theorem stageOpen_last_completes (hst : (s.reg r).seq.st = .lowering) (hn : (s.reg r).seq.stages = 1) : Completes (.stageOpen r) s fun t =>
    t.now = max s.now (s.reg r).seq.nextAt ∧ (t.reg r).seq.st = .falling ∧ (t.reg r).seq.stages = 0 ∧ r ∈ t.stg.offsDue := by
  have hexec := exec_stageOpen hst (hn ▸ Nat.zero_lt_one)
  have hseq := stageOpened_seq (s.reach (s.reg r).seq.nextAt) r
  have hnow := stageOpened_now (s.reach (s.reg r).seq.nextAt) r
  dsimp only at hexec
  generalize (s.reach (s.reg r).seq.nextAt).stageOpened r = v at *
  rw [State.reach_reg, State.reach_now] at hseq
  rw [State.reach_now] at hnow
  have hzero : (v.reg r).seq.stages = 0 := by rw [hseq, hn]
  rw [if_pos hzero] at hexec
  refine Completes.of_exec hexec ⟨?_, ?_, ?_, ?_⟩
  · rw [settle_now, (only_enterFalling v r).now, hnow]
  · rw [settle_seq_st, enterFalling_seq]
  · rw [settle_seq_stages, enterFalling_seq]
    exact hzero
  · rw [settle_stg]
    exact enterFalling_offsDue ..

theorem fallen_now (s : State) (r : Nat) : (s.fallen r).now = s.now := rfl

theorem fallen_tretT (s : State) (r : Nat) : (s.fallen r).tretT r = s.tretT r := rfl

theorem fallingComplete_dark (hst : (s.reg r).seq.st = .falling) (hoff : s.pansOff r = true) (hdue : r ∉ s.stg.offsDue)
    (hf : (s.reg r).seq.failSeen = false) (ht : (s.reg r).seq.target = 0) : Completes (.fallingComplete r) s fun t =>
      (t.reg r).seq.st = .dark ∧ (t.reg r).seq.ret = false ∧ (t.reg r).seq.prg = false := by
  have hexec := exec_fallingComplete hst hoff hdue
  rw [(finishFalling_ends hf).1 ht] at hexec
  refine Completes.of_exec hexec ?_
  rw [settle_seq_st, settle_seq_ret, settle_seq_prg, enterDark, updSeq_seq]
  exact ⟨rfl, rfl, rfl⟩

theorem fallingComplete_retained (hst : (s.reg r).seq.st = .falling) (hoff : s.pansOff r = true) (hdue : r ∉ s.stg.offsDue)
    (hf : (s.reg r).seq.failSeen = false) (ht : (s.reg r).seq.target = 2) : Completes (.fallingComplete r) s fun t =>
      (t.reg r).seq.st = .retained ∧ (t.reg r).seq.ret = true ∧ (t.reg r).seq.prg = false := by
  have hexec := exec_fallingComplete hst hoff hdue
  obtain ⟨-, hend, -⟩ := finishFalling_ends hf
  rw [hend ht] at hexec
  refine Completes.of_exec hexec ?_
  rw [settle_seq_st, settle_seq_ret, settle_seq_prg, enterRetained, updSeq_seq]
  exact ⟨rfl, rfl, rfl⟩

theorem fallingComplete_purging (hst : (s.reg r).seq.st = .falling) (hoff : s.pansOff r = true) (hdue : r ∉ s.stg.offsDue)
    (hf : (s.reg r).seq.failSeen = false) (ht : (s.reg r).seq.target = 3) : Completes (.fallingComplete r) s fun t =>
      (t.reg r).seq.st = .purging ∧ (t.reg r).seq.ret = false ∧ (t.reg r).seq.prg = false ∧
      (t.reg r).seq.prgDue = some (s.now + s.tretT r) := by
  have hexec := exec_fallingComplete hst hoff hdue
  obtain ⟨-, -, hend⟩ := finishFalling_ends hf
  rw [hend ht] at hexec
  refine Completes.of_exec hexec ?_
  rw [settle_seq_st, settle_seq_ret, settle_seq_prg, settle_seq_prgDue, enterPurging, updSeq_seq, fallen_now, fallen_tretT]
  exact ⟨rfl, rfl, rfl, rfl⟩

theorem purgeClampTret_completes {a : Nat} (h : (s.reg r).seq.prgDue = some a) : Completes (.purgeClampTret r) s fun t =>
    t.now = max s.now a ∧ (t.reg r).seq.prg = true ∧ (t.reg r).seq.prgDue = none ∧ (t.reg r).seq.agoneAt = t.now := by
  refine Completes.of_exec (exec_purgeClampTret h) ?_
  rw [settle_now, settle_seq_prg, settle_seq_prgDue, settle_seq_agoneAt, updSeq_seq, State.updSeq_now, State.reach_now]
  exact ⟨rfl, rfl, rfl, rfl⟩

theorem purgeComplete_completes (hst : (s.reg r).seq.st = .purging) (hgone : (s.reg r).seq.agone = true) (hprg : (s.reg r).seq.prg = true)
    (hret : (s.reg r).seq.ret = false) : Completes (.purgeComplete r) s fun t =>
      t.now = max s.now ((s.reg r).seq.agoneAt + 10 * usT * (s.com.reg r).purgehold) ∧ (t.reg r).seq.st = .purged ∧
      (t.reg r).seq.purged = true ∧ (t.reg r).seq.purgeslow = false ∧ t.ports.fence = s.ports.fence ++ [fenceWord 5 0 0 r] := by
  refine Completes.of_exec (exec_purgeComplete hst hgone hprg hret) ?_
  rw [settle_now, settle_seq_st, settle_seq_purged, settle_seq_purgeslow, settle_ports_fence, fenceMsg_fence, reg_fenceMsg, updSeq_seq,
    State.fenceMsg_now, State.updSeq_now, State.reach_now, State.updSeq_ports, State.reach_ports]
  exact ⟨rfl, rfl, rfl, rfl, rfl⟩

theorem purgeslow_completes (hst : (s.reg r).seq.st = .purging) : Completes (.purgeslow r) s fun t =>
    t.now = max s.now ((s.reg r).seq.at_ + 10 * msT) ∧ (t.reg r).seq.purgeslow = true ∧ (t.reg r).seq.st = .purging := by
  refine Completes.of_exec (exec_purgeslow hst) ?_
  rw [settle_now, settle_seq_purgeslow, settle_seq_st, updSeq_seq, State.updSeq_now, State.reach_now]
  exact ⟨rfl, rfl, hst⟩

/-- Settles O47. -/
theorem regionSequencersGoThroughTheirStates : Obligations.RegionSequencersGoThroughTheirStates := by
  unfold Obligations.RegionSequencersGoThroughTheirStates
  intro s r
  exact ⟨railGood_completes, startfailTimeout_completes, stagingInterval_check_completes, stagingInterval_forced_completes,
    stagingInterval_last_completes, fun h => forcedStaging_completes, handoverTret_completes, fenceTimeout_overdue_completes,
    fenceTimeout_forced_completes, stageOpen_completes, stageOpen_last_completes, fallingComplete_dark, fallingComplete_retained,
    fallingComplete_purging, fun a h => purgeClampTret_completes h, purgeComplete_completes, purgeslow_completes⟩

end Sys2Proof.Machine
end

section
/-! SUPPORT. The shim windows and the die sequence (R323 to R326), fence messages (R282 to R284) and the kerf lanes (R476), and the
proof of the obligation about them. -/

namespace Sys2Proof.Machine

-- The joined text is checked under a memory limit that counts every thread's stack: one proof at a time.
set_option Elab.async false

variable {s t u : State} {r : Nat}

/-! ### Windows of a region (R323) -/

@[simp] theorem updKrf_krf (s : State) (r : Nat) (f : KerfDyn → KerfDyn) : ((s.updKrf r f).reg r).krf = f (s.reg r).krf := by
  rw [State.updKrf_eq, State.updReg_reg_same]

theorem updKrf_krf_other (s : State) {r q : Nat} (f : KerfDyn → KerfDyn) (h : q ≠ r) : ((s.updKrf r f).reg q).krf = (s.reg q).krf := by
  rw [State.updKrf_eq, State.updReg_reg_other (h := h)]

theorem exec_shimAnnouncedArrival {a : Nat} (h : (s.reg r).krf.annAt = some a) : exec (.shimAnnouncedArrival r) s =
    let u := s.reach a
    done (u.updKrf r fun k => { k with annAt := none, win := if k.win = 0 then 2 else k.win, winAt := if k.win = 0 then u.now else k.winAt }) := by
  change execShimAnnouncedArrival r s = _
  unfold execShimAnnouncedArrival
  rw [h]

theorem shimAnnouncedArrival_completes {a : Nat} (h : (s.reg r).krf.annAt = some a) : Completes (.shimAnnouncedArrival r) s fun t =>
    t.now = max s.now a ∧ (t.reg r).krf.annAt = none ∧ (t.reg r).krf.win = (if (s.reg r).krf.win = 0 then 2 else (s.reg r).krf.win) := by
  refine Completes.of_exec (exec_shimAnnouncedArrival h) ?_
  rw [settle_now, settle_krf_annAt, settle_krf_win, updKrf_krf, State.updKrf_now, State.reach_now, State.reach_reg]
  exact ⟨rfl, rfl, rfl⟩

theorem annwaitExpiry_completes (h : (s.reg r).krf.win = 2) : Completes (.annwaitExpiry r) s fun t =>
    t.now = max s.now ((s.reg r).krf.winAt + 10 * usT * s.com.shim.annwait) ∧ (t.reg r).krf.win = 0 := by
  refine Completes.of_exec (if_pos h :) ?_
  rw [settle_now, settle_krf_win, updKrf_krf, State.updKrf_now, State.reach_now]
  exact ⟨rfl, rfl⟩

/-! ### The die sequence (R324 to R326) -/

theorem Only.shim {ps : List Part} (h : Only ps s t) (hp : Part.shim ∉ ps := by simp) : t.shim = { s.shim with noneAt := t.shim.noneAt } :=
  h.2 .shim hp

/-- The shim begins (R324). -/
def State.shimBegun (s : State) : State := s.updShim fun h => { h with
  st := 1, iref := s.irefNow, f := s.com.shim.floor * s.irefNow / 10, onset := s.now,
  tref := (s.shim.peers.filter fun t => s.now - t ≤ msT).foldl min s.now, updAt := s.now }

/-- The usage of every region at the onset (R326). -/
def State.usageNoted (s : State) : State := s.regions.foldl (fun s r => s.updUse r fun u => { u with onWin := u.usage }) s

theorem only_usageNoted (s : State) : Only [.regs] s s.usageNoted := Only.foldl _ (fun s (r : Nat) => only_updUse s r _) _ _

theorem shimBegun_shim (s : State) : s.shimBegun.shim.st = 1 ∧ s.shimBegun.shim.iref = s.irefNow ∧
    s.shimBegun.shim.f = s.com.shim.floor * s.irefNow / 10 ∧ s.shimBegun.shim.onset = s.now ∧ s.shimBegun.shim.updAt = s.now :=
  ⟨rfl, rfl, rfl, rfl, rfl⟩

theorem exec_shimOnset (hst : s.shim.st = 0) (h : s.windows ≠ []) :
    ∃ bytes, exec .shimOnset s = done (s.shimBegun.usageNoted.dvtSendAll none 2 bytes) :=
  ⟨_, if_pos ⟨hst, by simpa using h⟩⟩

theorem shimOnset_completes (hst : s.shim.st = 0) (h : s.windows ≠ []) : Completes .shimOnset s fun t =>
    t.shim.st = 1 ∧ t.shim.iref = s.irefNow ∧ t.shim.f = s.com.shim.floor * s.irefNow / 10 ∧ t.shim.onset = s.now ∧
      t.shim.updAt = s.now := by
  obtain ⟨bytes, hexec⟩ := exec_shimOnset hst h
  refine Completes.of_exec hexec ?_
  rw [settle_shim_st, settle_shim_iref, settle_shim_f, settle_shim_onset, settle_shim_updAt,
    (only_dvtSendAll _ _ _ _).shim, (only_usageNoted _).shim]
  exact shimBegun_shim s

theorem taperStart_completes (h : s.shim.st = 1) : Completes .taperStart s fun t =>
    t.now = max s.now (s.shim.tref + 10 * usT * s.com.shim.hold + s.com.shim.slot * (10 * usT * s.com.shim.stag)) ∧
      t.shim.st = 2 ∧ t.shim.updAt = t.now ∧ t.shim.f = s.shim.f := by
  refine Completes.of_exec (if_pos h :) ?_
  rw [settle_now, settle_shim_st, settle_shim_updAt, settle_shim_f]
  exact ⟨rfl, rfl, rfl, rfl⟩

theorem exec_shimTargetUpdate (h : s.shim.st ≠ 0) : exec .shimTargetUpdate s =
    let u := s.reach (s.shim.updAt + 100 * usT)
    let v := u.updShim fun h => { h with updAt := u.now, f := if h.st = 2 then h.f - u.com.shim.slope else h.f }
    done (if v.sys.ready then v.shimTargets else v) := if_neg h

theorem shimTargetUpdate_completes (h : s.shim.st ≠ 0) : Completes .shimTargetUpdate s fun t =>
    t.now = max s.now (s.shim.updAt + 100 * usT) ∧ t.shim.updAt = t.now ∧ t.shim.st = s.shim.st ∧
      t.shim.f = (if s.shim.st = 2 then s.shim.f - s.com.shim.slope else s.shim.f) := by
  have hexec := exec_shimTargetUpdate h
  dsimp only at hexec
  have hfields : ∀ v : State, Only [.eng] v (if v.sys.ready then v.shimTargets else v) := fun v =>
    Only.ite _ (fun _ => only_shimTargets v) fun _ => .refl _ _
  refine Completes.of_exec hexec ?_
  rw [settle_now, settle_shim_updAt, settle_shim_st, settle_shim_f, (hfields _).shim, (hfields _).now]
  exact ⟨rfl, rfl, rfl, rfl⟩

/-- Every window closes (R323). -/
def State.closeWindows (s : State) : State := s.regions.foldl (fun s r => s.updKrf r fun k => { k with win := 0 }) s

/-- Every target in SHIMR is 0 (R326). -/
def State.zeroTargets (s : State) : State := s.regions.foldl (fun s r => s.fwPlace fwShimr r 0 0) s

/-- The shim is idle (R323, R325). -/
def State.shimEnded (s : State) : State := ((s.updShim fun h => { h with st := 0 }).closeWindows).zeroTargets

theorem only_closeWindows (s : State) : Only [.regs] s s.closeWindows := Only.foldl _ (fun s (r : Nat) => only_updKrf s r _) _ _

theorem only_zeroTargets (s : State) : Only [.eng] s s.zeroTargets := Only.foldl _ (fun s (r : Nat) => only_fwPlace s _ r 0 0) _ _

theorem foldl_closed {r : Nat} : ∀ (l : List Nat) (u : State), (r ∈ l ∨ (u.reg r).krf.win = 0) →
    ((l.foldl (fun s r => s.updKrf r fun k => { k with win := 0 }) u).reg r).krf.win = 0
  | [], _, h => h.resolve_left (List.not_mem_nil)
  | q :: l, u, h => by
    refine foldl_closed l _ ?_
    by_cases hq : r = q
    · subst hq
      exact .inr (by rw [updKrf_krf])
    · rw [updKrf_krf_other _ _ hq]
      exact h.imp_left fun hmem => (List.mem_cons.1 hmem).resolve_left hq

theorem closeWindows_win (h : r ∈ s.regions) : ((s.closeWindows).reg r).krf.win = 0 := foldl_closed _ _ (.inl h)

theorem Only.win {ps : List Part} (h : Only ps s t) (r : Nat) (hp : Part.regs ∉ ps := by simp) : (t.reg r).krf.win = (s.reg r).krf.win := by
  obtain ⟨-, -, -, -, -, -, -, -, -, -, -, hkrf⟩ : Region.kept (s.reg r) (t.reg r) := h.2 .regs hp r
  rw [hkrf]

theorem only_shimEnded (s : State) : Only [.shim, .regs, .eng] s s.shimEnded :=
  (((only_updShim s _).mono (by simp)).then (only_closeWindows _) (by simp)).then (only_zeroTargets _) (by simp)

theorem shimEnded_st (s : State) : s.shimEnded.shim.st = 0 := by
  rw [State.shimEnded, (only_zeroTargets _).shim, (only_closeWindows _).shim]
  rfl

theorem shimEnded_win (h : r ∈ s.regions) : (s.shimEnded.reg r).krf.win = 0 := by
  rw [State.shimEnded, (only_zeroTargets _).win]
  exact closeWindows_win h

theorem shimIdle_ends {a : Nat} (h : exec .shimIdle s = done (s.reach a).shimEnded) : Completes .shimIdle s fun t =>
    t.now = max s.now a ∧ t.shim.st = 0 ∧ ∀ r ∈ s.regions, (t.reg r).krf.win = 0 := by
  refine Completes.of_exec h ⟨?_, ?_, fun r hr => ?_⟩
  · rw [settle_now, (only_shimEnded _).now, State.reach_now]
  · rw [settle_shim_st, shimEnded_st]
  · rw [settle_krf_win]
    exact shimEnded_win (s := s.reach a) hr

theorem shimIdle_taper_completes (hst : s.shim.st = 2) (hf : s.shim.f = 0) : Completes .shimIdle s fun t =>
    t.shim.st = 0 ∧ ∀ r ∈ s.regions, (t.reg r).krf.win = 0 := by
  have hexec : exec .shimIdle s = done s.shimEnded := (if_neg (by rw [hst]; decide)).trans (if_pos ⟨hst, hf⟩)
  refine Completes.of_exec hexec ⟨?_, fun r hr => ?_⟩
  · rw [settle_shim_st, shimEnded_st]
  · rw [settle_krf_win]
    exact shimEnded_win hr

theorem exec_shimIdle_none {a : Nat} (hst : s.shim.st = 1) (ha : s.shim.noneAt = some a) (h : s.windows = []) :
    exec .shimIdle s = done (s.reach (a + 100 * usT)).shimEnded := by
  refine (if_neg (by rw [hst]; decide)).trans ((if_neg (by rw [hst]; exact fun hno => absurd hno.1 (by decide))).trans ?_)
  rw [ha]
  exact if_pos (by rw [h]; rfl)

/-! ### Fence messages (R275, R282 to R284) -/

theorem enterLowering_tag (h : 0 < (s.reg r).seq.stages) (target : Nat) : ((enterLowering s r target).reg r).seq.tag = none := by
  unfold enterLowering
  dsimp only
  rw [updSeq_seq, if_neg (Nat.ne_of_gt h), updSeq_seq]

theorem drained_completes {tag : Byte} (hopen : s.fenceOpen = true) (hr : s.hasReg r = true) (hst : (s.reg r).seq.st = .fencing)
    (htag : (s.reg r).seq.tag = some tag) (hn : 0 < (s.reg r).seq.stages) : Completes (.drained tag r) s fun t =>
      (t.reg r).seq.st = .lowering ∧ (t.reg r).seq.target = (s.reg r).seq.target ∧ (t.reg r).seq.tag = none := by
  have hexec : exec (.drained tag r) s = done (enterLowering s r (s.reg r).seq.target) := if_pos ⟨hopen, hr, hst, htag⟩
  obtain ⟨hlow, htarget⟩ := enterLowering_seq hn (s.reg r).seq.target
  refine Completes.of_exec hexec ⟨?_, ?_, ?_⟩
  · rw [settle_seq_st, hlow]
  · rw [settle_seq_target, htarget]
  · rw [settle_seq_tag, enterLowering_tag hn]

theorem exec_request_none {tag : Byte} {arg : BitVec 4} (hopen : s.fenceOpen = true)
    (h : orderOfCode arg.toNat = none ∨ orderOfCode arg.toNat = some .none) : exec (.request tag arg r) s = done (s.fenceMsg (fenceWord 4 tag 2 r)) := by
  refine (if_neg (ne_false_of_eq_true hopen)).trans ?_
  rcases h with h | h <;> rw [h] <;> rfl

theorem request_refused_completes {tag : Byte} {arg : BitVec 4} (hopen : s.fenceOpen = true)
    (h : orderOfCode arg.toNat = none ∨ orderOfCode arg.toNat = some .none) : Completes (.request tag arg r) s fun t =>
      t.ports.fence = s.ports.fence ++ [fenceWord 4 tag 2 r] ∧ t.stg = s.stg := by
  refine Completes.of_exec (exec_request_none hopen h) ⟨?_, ?_⟩
  · rw [settle_ports_fence, fenceMsg_fence]
  · rw [settle_stg, State.fenceMsg_stg]

theorem exec_request_order {tag : Byte} {arg : BitVec 4} {o : Order} (hopen : s.fenceOpen = true) (ho : orderOfCode arg.toNat = some o)
    (hnone : o ≠ .none) (hr : s.hasReg r = true) (hrail : (s.rimg r).rail ≠ .vret) (hb : s.hw.bstate = .run ∨ s.hw.bstate = .unattended) :
    exec (.request tag arg r) s = done (s.stage { cw := .order r 0 o, src := .accel, tag := some tag }) := by
  refine (if_neg (ne_false_of_eq_true hopen)).trans ?_
  rw [ho]

  cases o with
  | none => exact absurd rfl hnone
  | on | off | retention | purge =>
    refine (if_neg (ne_false_of_eq_true hr)).trans ?_
    rcases hb with h | h <;> rw [h] <;> exact if_neg hrail

theorem updRec_stg (s : State) (k : Option Nat) (f : CRec → CRec) : ∃ rs, (s.updRec k f).stg = { s.stg with records := rs } := by
  unfold State.updRec
  split
  · exact ⟨s.stg.records, rfl⟩
  · dsimp only
    split
    · exact ⟨_, rfl⟩
    · exact ⟨s.stg.records, rfl⟩

/-- The end of a write is noted in its record alone. -/
theorem complete_stg (s : State) (w : SWrite) (st : Status) (held : Bool) (gen : Word) :
    ∃ rs, (s.complete w st held gen).stg = { s.stg with records := rs } := by
  obtain ⟨rs, hrs⟩ := updRec_stg s w.ticket fun c =>
    { c with status := st, held := held, gen := if st = .done || st = .clamped || st = .committed then gen else c.gen }
  refine ⟨rs, ?_⟩
  rw [← hrs]
  unfold State.complete
  dsimp only
  split
  · split
    · exact (only_fenceMsg ..).stg
    · split
      · exact (only_refuse ..).stg
      · split
        · exact (only_refuse ..).stg
        · split
          · exact (only_refuse ..).stg
          · rfl
  · rfl

theorem foldl_superseded_stg : ∀ (xs : List SWrite) (u : State),
    ∃ rs, (xs.foldl (fun s x => s.complete x .superseded false 0) u).stg = { u.stg with records := rs }
  | [], u => ⟨u.stg.records, rfl⟩
  | x :: xs, u => by
    obtain ⟨rs, hrs⟩ := complete_stg u x .superseded false 0
    obtain ⟨qs, hqs⟩ := foldl_superseded_stg xs (u.complete x .superseded false 0)
    exact ⟨qs, hqs.trans (by rw [hrs])⟩

/-- A write joins a queue that has room (R260, R261). -/
theorem stage_mem_of_room {w : SWrite} (h : s.stg.hand.writes.length + s.stg.queue.length < 2048) : w ∈ (s.stage w).stg.queue := by
  obtain ⟨rs, hrs⟩ := foldl_superseded_stg (s.stg.queue.filter (clashes w)) s
  unfold State.stage
  dsimp only
  generalize (s.stg.queue.filter (clashes w)).foldl (fun s x => s.complete x .superseded false 0) s = u at *
  rw [if_neg]
  · rw [State.updStg_stg]
    simp
  · rintro ⟨-, hfull⟩
    have hlen := Nat.le_trans hfull (List.length_filter_le _ _)
    rw [hrs, List.length_append] at hlen
    have hkeep := List.length_filter_le (fun x => !clashes w x) s.stg.queue
    exact absurd (Nat.le_trans hlen (Nat.add_le_add_left hkeep _)) (Nat.not_le.2 h)

theorem request_order_completes {tag : Byte} {arg : BitVec 4} {o : Order} (hopen : s.fenceOpen = true) (ho : orderOfCode arg.toNat = some o)
    (hnone : o ≠ .none) (hr : s.hasReg r = true) (hrail : (s.rimg r).rail ≠ .vret) (hb : s.hw.bstate = .run ∨ s.hw.bstate = .unattended)
    (hroom : s.stg.hand.writes.length + s.stg.queue.length < 2048) : Completes (.request tag arg r) s fun t =>
      { cw := .order r 0 o, src := .accel, tag := some tag } ∈ t.stg.queue := by
  refine Completes.of_exec (exec_request_order hopen ho hnone hr hrail hb) ?_
  rw [settle_stg]
  exact stage_mem_of_room hroom

theorem fenceMessageDiscard_completes (s : State) (w : Word) : Completes (.fenceMessageDiscard w) s fun t =>
    t.ports.fence = s.ports.fence ∧ t.stg = s.stg := by
  have hexec : exec (.fenceMessageDiscard w) s = done s := rfl
  refine Completes.of_exec hexec ⟨?_, ?_⟩
  · rw [settle_ports_fence]
  · rw [settle_stg]

/-! ### The kerf lanes (R476) -/

/-- A region's lane shows the values presented to it, sent at the time `a`. -/
def State.LaneShows (s : State) (a r : Nat) : Prop :=
  s.ports.krf.get (60, 0) r = ((s.reg r).krf.kPres, (s.reg r).krf.sPres) ∧ s.ports.krfAt.get 0 r = a

/-- A region's values go out on its lane. -/
def State.laneSent (s : State) (r : Nat) : State := s.updPorts fun p =>
  { p with krf := p.krf.set (60, 0) r ((s.reg r).krf.kPres, (s.reg r).krf.sPres), krfAt := p.krfAt.set 0 r s.now }

theorem laneSent_shows (s : State) (r : Nat) : (s.laneSent r).LaneShows s.now r := ⟨Tbl.get_set_same .., Tbl.get_set_same ..⟩

theorem State.LaneShows.laneSent {a q : Nat} (h : s.LaneShows a q) (hq : q ≠ r) : (s.laneSent r).LaneShows a q :=
  ⟨(Tbl.get_set_other _ _ _ hq).trans h.1, (Tbl.get_set_other _ _ _ hq).trans h.2⟩

theorem foldl_laneSent_shows {q a : Nat} : ∀ (l : List Nat) (u : State), u.now = a → (q ∈ l ∨ u.LaneShows a q) →
    (l.foldl State.laneSent u).LaneShows a q
  | [], _, _, h => h.resolve_left List.not_mem_nil
  | r :: l, u, hnow, h => by
    refine foldl_laneSent_shows l _ hnow ?_
    by_cases hq : q = r
    · subst hq
      subst hnow
      exact .inr (laneSent_shows u q)
    · exact h.imp (fun hmem => (List.mem_cons.1 hmem).resolve_left hq) fun hshows => hshows.laneSent hq

theorem exec_kerfResend (s : State) : exec .kerfResend s = done (s.regions.foldl State.laneSent s) := rfl

theorem settleRegion_now (s : State) (r : Nat) : (settleRegion s r).now = s.now := (only_settleRegion s r).now

theorem State.LaneShows.settleRegion_other {a q : Nat} (h : s.LaneShows a q) (hq : q ≠ r) : (settleRegion s r).LaneShows a q := by
  obtain ⟨hkrf, hat⟩ := h
  unfold State.LaneShows
  rw [settleRegion_reg_other s hq, ← hkrf, ← hat]
  unfold Machine.settleRegion
  dsimp only
  split
  · exact ⟨rfl, rfl⟩
  · exact ⟨Tbl.get_set_other _ _ _ hq, Tbl.get_set_other _ _ _ hq⟩

theorem State.LaneShows.settleRegion_same {a : Nat} (h : s.LaneShows a r) (hnow : s.now = a) : (settleRegion s r).LaneShows a r := by
  obtain ⟨hkrf, hat⟩ := h
  unfold State.LaneShows Machine.settleRegion
  extract_lets k i x s1
  have hreg : ((s1.reg r).krf.kPres, (s1.reg r).krf.sPres) = (k, i) := by
    simp only [s1, State.updReg_reg_same]
  split
  · next hsame =>
    obtain ⟨hk, hi⟩ := hsame
    rw [hreg, hk, hi]
    exact ⟨hkrf, hat⟩
  · exact ⟨(Tbl.get_set_same ..).trans hreg.symm, (Tbl.get_set_same ..).trans hnow⟩

theorem foldl_settleRegion_laneShows {a q : Nat} : ∀ (l : List Nat) (u : State), u.now = a → u.LaneShows a q → (l.foldl settleRegion u).LaneShows a q
  | [], _, _, h => h
  | r :: l, u, hnow, h => by
    refine foldl_settleRegion_laneShows l _ ((settleRegion_now u r).trans hnow) ?_
    by_cases hq : q = r
    · subst hq
      exact h.settleRegion_same hnow
    · exact h.settleRegion_other hq

/-- After the regions have settled, the rest of `settle` leaves the kerf lanes alone. -/
theorem settle_krf_ports (s : State) :
    (settle s).ports.krf = (s.regions.foldl settleRegion s).ports.krf ∧ (settle s).ports.krfAt = (s.regions.foldl settleRegion s).ports.krfAt := by
  unfold settle
  extract_lets s1 s2 o s3 f rise s4 s5 c up s6 i s7
  have h5 : s5.ports = s4.ports := by
    simp only [s5]
    split <;> rfl
  have h4 : s4.ports.krf = s1.ports.krf ∧ s4.ports.krfAt = s1.ports.krfAt := by
    simp only [s4, s3, s2, State.updFlt_ports, State.updShim_ports, State.updPorts, and_self]
  rw [← h4.1, ← h4.2, ← h5]
  constructor <;> simp only [s7, s6, State.updPorts]

theorem State.LaneShows.settle {a : Nat} (h : s.LaneShows a r) (hnow : s.now = a) : (settle s).LaneShows a r := by
  obtain ⟨hkrf, hat⟩ := settle_krf_ports s
  obtain ⟨hregs, -⟩ := settle_regs_rfc s
  unfold State.LaneShows State.reg
  rw [hkrf, hat, hregs]
  exact foldl_settleRegion_laneShows s.regions s hnow h

theorem laneSent_now (s : State) (r : Nat) : (s.laneSent r).now = s.now := rfl

theorem foldl_laneSent_now : ∀ (l : List Nat) (u : State), (l.foldl State.laneSent u).now = u.now
  | [], _ => rfl
  | _ :: l, u => (foldl_laneSent_now l _).trans (laneSent_now u _)

theorem kerfResend_completes (s : State) : Completes .kerfResend s fun t => ∀ r ∈ s.regions, t.LaneShows s.now r :=
  Completes.of_exec (exec_kerfResend s) fun _ hr =>
    (foldl_laneSent_shows _ s rfl (.inl hr)).settle (foldl_laneSent_now ..)

/-- Settles O49. -/
theorem shimWindowsAndFencesMove : Obligations.ShimWindowsAndFencesMove := by
  unfold Obligations.ShimWindowsAndFencesMove
  intro s r
  exact ⟨fun a h => shimAnnouncedArrival_completes h, annwaitExpiry_completes, shimOnset_completes, taperStart_completes,
    shimTargetUpdate_completes, shimIdle_taper_completes, fun a hst ha h => shimIdle_ends (exec_shimIdle_none hst ha h),
    fun tag => drained_completes, fun tag arg => request_refused_completes, fun tag arg o => request_order_completes,
    fenceMessageDiscard_completes s, kerfResend_completes s⟩

end Sys2Proof.Machine
end

section
/-! SUPPORT. Receipt of tide frames (R352 to R357, R361), windows and the timed events of the tide (R345 to R355), and the proof of the
obligation about them. -/

namespace Sys2Proof.Machine

-- The joined text is checked under a memory limit that counts every thread's stack: one proof at a time.
set_option Elab.async false

variable {s t u : State} {f g : TideFrame} {p : Nat}

/-! ### Frames of a known peer (R352, R361) -/

theorem recvTide_bad (h : s.frameOk f = false) : s.recvTide f = s.tideDiscard := if_pos h

/-- What a good frame does by its type, before FROZEN and SETTLED follow. -/
def State.taken (s : State) (p : Nat) (f : TideFrame) : State :=
  match f.ty.toNat with
  | 1 => s.recvXfer p f
  | 2 => s.recvOther p f (xackAct p f)
  | 3 => s.recvOther p f (advertAct p f)
  | 4 => s.recvOther p f (staleAct p f)
  | _ => s.recvOther p f (expelledAct f)

theorem recvTide_good (h : s.frameOk f = true) (hp : s.peerOf f.src = some p) : s.recvTide f = (s.taken p f).tideSettle := by
  refine (if_neg (ne_false_of_eq_true h)).trans ?_
  rw [hp]
  rfl

theorem tideSettle_of_member (h : s.tide.st = .member) : s.tideSettle = s := by
  unfold State.tideSettle
  dsimp only
  rw [h]

theorem tideSettle_of_expelled (h : s.tide.st = .expelled) : s.tideSettle = s := by
  unfold State.tideSettle
  dsimp only
  rw [h]

@[simp] theorem updTPeer_tpeer (s : State) (p : Nat) (f : TPeer → TPeer) : (s.updTPeer p f).tpeer p = f (s.tpeer p) := Tbl.get_set_same ..

/-- The peer is live as of now (R352, R355). -/
def State.peerLive (s : State) (p : Nat) : State := s.updTPeer p fun x => { x with live := true, dead := false, lastAt := s.now }

theorem peerLive_tpeer (s : State) (p : Nat) : (s.peerLive p).tpeer p = { s.tpeer p with live := true, dead := false, lastAt := s.now } :=
  updTPeer_tpeer s p _

theorem peerLive_tide (s : State) (p : Nat) : ∃ ps, (s.peerLive p).tide = { s.tide with peers := ps } := ⟨_, rfl⟩

theorem only_peerLive (s : State) (p : Nat) : Only [.tide] s (s.peerLive p) := only_updTPeer s p _

theorem markLive_current {k : Nat} (h : (s.tpeer p).inc = k) : s.markLive p k = s.peerLive p := if_pos h.symm

/-- A frame of the peer's current incarnation acts on the peer marked live. -/
theorem recvOther_current (hexp : (s.com.tide.peers.get {} p).expinc < f.sinc) (hinc : (s.tpeer p).inc = f.sinc) (act : State → State) :
    s.recvOther p f act = act (s.peerLive p) := by
  refine (if_neg (Nat.not_le.2 hexp)).trans ((if_neg (by rw [hinc]; exact Nat.lt_irrefl _)).trans ?_)
  rw [if_neg (by rw [hinc]; exact Nat.lt_irrefl _)]
  exact congrArg act (markLive_current hinc)

/-- What a member makes of a good frame whose type acts by `act` and keeps it a member. -/
theorem Completes.of_recvOther {c : Instr} {P : State → Prop} {act : State → State} (hc : exec c s = done (s.recvTide f))
    (hok : s.frameOk f = true) (hp : s.peerOf f.src = some p) (hexp : (s.com.tide.peers.get {} p).expinc < f.sinc)
    (hinc : (s.tpeer p).inc = f.sinc) (hact : s.taken p f = s.recvOther p f act)
    (hst : (act (s.peerLive p)).tideSettle = act (s.peerLive p)) (hP : P (settle (act (s.peerLive p)))) : Completes c s P := by
  refine Completes.of_exec hc ?_
  rw [recvTide_good hok hp, hact, recvOther_current hexp hinc, hst]
  exact hP

theorem xack_completes (hp : s.peerOf f.src = some p) (hst : s.tide.st = .member) (hexp : (s.com.tide.peers.get {} p).expinc < f.sinc)
    (hinc : (s.tpeer p).inc = f.sinc) (hok : s.frameOk { f with ty := 2 } = true) : Completes (.xack f) s fun t =>
      t.tide.escrow = s.tide.escrow.filter fun e => !(decide (e.peer = p) && decide (e.inc = f.sinc) && decide (e.seq = f.seq)) := by
  refine Completes.of_recvOther rfl hok hp hexp hinc rfl (tideSettle_of_member hst) ?_
  rw [settle_tide]
  rfl

theorem stale_completes (hp : s.peerOf f.src = some p) (hst : s.tide.st = .member) (hexp : (s.com.tide.peers.get {} p).expinc < f.sinc)
    (hinc : (s.tpeer p).inc = f.sinc) (hok : s.frameOk { f with ty := 4 } = true) : Completes (.stale f) s fun t =>
      t.tide.escrow = s.tide.escrow.map fun e => if e.peer = p ∧ e.inc = f.dinc ∧ e.seq = f.seq then { e with superseded := true } else e := by
  refine Completes.of_recvOther rfl hok hp hexp hinc rfl (tideSettle_of_member hst) ?_
  rw [settle_tide]
  rfl

theorem advertAct_tpeer (p : Nat) (f : TideFrame) (s : State) : (advertAct p f s).tpeer p =
    { s.tpeer p with advAt := some s.now, urg := f.urg, offer := f.offer, want := f.want, hold := f.hold, flags := f.flags } :=
  updTPeer_tpeer s p _

/-- What an ADVERT leaves of its peer. -/
def TPeer.Advertised (y : TPeer) (f : TideFrame) (now : Nat) : Prop :=
  y.advAt = some now ∧ y.urg = f.urg ∧ y.offer = f.offer ∧ y.want = f.want ∧ y.hold = f.hold ∧ y.flags = f.flags ∧ y.live = true ∧ y.lastAt = now

theorem advert_taken {c : Instr} (hc : exec c s = done (s.recvTide { f with ty := 3 })) (hp : s.peerOf f.src = some p) (hst : s.tide.st = .member)
    (hexp : (s.com.tide.peers.get {} p).expinc < f.sinc) (hinc : (s.tpeer p).inc = f.sinc) (hok : s.frameOk { f with ty := 3 } = true) :
    Completes c s fun t => (t.tpeer p).Advertised f s.now := by
  refine Completes.of_recvOther hc hok hp hexp hinc rfl (tideSettle_of_member hst) ?_
  rw [settle_tpeer, advertAct_tpeer, peerLive_tpeer, (only_peerLive s p).now]
  exact ⟨rfl, rfl, rfl, rfl, rfl, rfl, rfl, rfl⟩

/-- The die's own incarnation is expelled (R344). -/
def State.expelledNow (s : State) : State := s.updTide fun t =>
  { t with st := .expelled, texpel := true, escrow := [], plans := [], planned := false, raised := false, expelNext := true }

theorem expelledAct_own (h : f.dinc = s.tide.inc) (hst : s.tide.st = .member) :
    expelledAct f s = s.expelledNow.stageFw (.holding (some 0)) :=
  if_pos ⟨h, by rw [hst]; decide, by rw [hst]; decide⟩

theorem expelledNow_tide (s : State) :
    s.expelledNow.tide.st = .expelled ∧ s.expelledNow.tide.texpel = true ∧ s.expelledNow.tide.escrow = [] ∧ s.expelledNow.tide.plans = [] :=
  ⟨rfl, rfl, rfl, rfl⟩

theorem expelled_completes (hp : s.peerOf f.src = some p) (hst : s.tide.st = .member) (hexp : (s.com.tide.peers.get {} p).expinc < f.sinc)
    (hinc : (s.tpeer p).inc = f.sinc) (hok : s.frameOk { f with ty := 5 } = true) (h : f.dinc = s.tide.inc) : Completes (.expelled f) s fun t =>
      t.tide.st = .expelled ∧ t.tide.texpel = true ∧ t.tide.escrow = [] ∧ t.tide.plans = [] ∧ ∃ w ∈ t.stg.queue, w.cw = .holding (some 0) := by
  have hact : expelledAct { f with ty := 5 } (s.peerLive p) = (s.peerLive p).expelledNow.stageFw (.holding (some 0)) :=
    expelledAct_own (s := s.peerLive p) h hst
  have hfields := expelledNow_tide (s.peerLive p)
  have htide := (only_stageFw (s.peerLive p).expelledNow (.holding (some 0))).tide
  have hmem := stageFw_mem (s.peerLive p).expelledNow (.holding (some 0))
  refine Completes.of_recvOther rfl hok hp hexp hinc rfl ?_ ?_ <;> rw [hact]
  · exact tideSettle_of_expelled (by rw [htide]; exact hfields.1)
  · rw [settle_tide, settle_stg, htide]
    obtain ⟨hst', htexpel, hescrow, hplans⟩ := hfields
    exact ⟨hst', htexpel, hescrow, hplans, hmem⟩

/-! ### Grains received (R350, R352) -/

/-- The case of a transfer from the peer. -/
def State.xferCaseOf (s : State) (p : Nat) (f : TideFrame) : XferCase :=
  xferCase s.tide.inc (s.com.tide.peers.get {} p).expinc (s.tpeer p).inc (s.tpeer p).base (s.tpeer p).mask f

/-- XACK of a transfer (R353). -/
def State.sendXack (s : State) (p : Nat) (f : TideFrame) : State :=
  s.tideSend p { s.tideFrame p 2 with dinc := f.sinc, seq := f.seq, grains := f.grains }

theorem only_sendXack (s : State) (p : Nat) (f : TideFrame) : Only [.ports] s (s.sendXack p f) := only_tideSend ..

theorem recvXfer_current (hexp : (s.com.tide.peers.get {} p).expinc < f.sinc) (hinc : (s.tpeer p).inc = f.sinc) :
    (s.xferCaseOf p f = .credit → s.recvXfer p f = ((s.peerLive p).credit p f).sendXack p f) ∧
    (s.xferCaseOf p f = .duplicate → s.recvXfer p f = (s.peerLive p).sendXack p f) ∧
    (s.xferCaseOf p f = .beyond → s.recvXfer p f = s.peerLive p) := by
  unfold State.recvXfer State.xferCaseOf
  dsimp only
  have hlive : (s.peerLive p).tide.inc = s.tide.inc := rfl
  rw [if_pos hexp, markLive_current hinc, hlive, if_neg (by rw [hinc]; exact Nat.lt_irrefl _)]
  refine ⟨fun h => ?_, fun h => ?_, fun h => ?_⟩ <;> rw [h] <;> rfl

theorem credit_tide (s : State) (p : Nat) (f : TideFrame) :
    (s.credit p f).tide.st = s.tide.st ∧ (s.credit p f).tide.h = s.tide.h + f.grains ∧ (s.credit p f).tide.raised = true := ⟨rfl, rfl, rfl⟩

theorem credit_tpeer (s : State) (p : Nat) (f : TideFrame) :
    ((s.credit p f).tpeer p).rx = (s.tpeer p).rx + f.grains ∧ ((s.credit p f).tpeer p).live = (s.tpeer p).live := by
  have hcredit : ∃ b m, (s.credit p f).tpeer p = { s.tpeer p with rx := (s.tpeer p).rx + f.grains, base := b, mask := m } :=
    ⟨_, _, Tbl.get_set_same ..⟩
  obtain ⟨b, m, h⟩ := hcredit
  rw [h]
  exact ⟨rfl, rfl⟩

theorem tally_get_other (s : State) (id ix bin n : Nat) {k : Nat} (h : k ≠ tallyKey id ix bin) :
    (s.tally id ix bin n).flt.tally.get 0 k = s.flt.tally.get 0 k := Tbl.get_set_other _ _ _ h

theorem credit_tally (s : State) (p : Nat) (f : TideFrame) :
    (s.credit p f).flt.tally.get 0 (tallyKey 8 0 1) = s.flt.tally.get 0 (tallyKey 8 0 1) + 1 :=
by
  unfold State.credit
  dsimp only
  rw [tally_get_other _ _ _ _ _ (by decide), tally_get]
  rfl

theorem xfer_credit_completes (hp : s.peerOf f.src = some p) (hst : s.tide.st = .member)
    (hexp : (s.com.tide.peers.get {} p).expinc < f.sinc) (hinc : (s.tpeer p).inc = f.sinc) (hok : s.frameOk { f with ty := 1 } = true)
    (h : s.xferCaseOf p f = .credit) : Completes (.xfer f) s fun t =>
      t.tide.h = s.tide.h + f.grains ∧ t.tide.raised = true ∧ (t.tpeer p).rx = (s.tpeer p).rx + f.grains ∧ (t.tpeer p).live = true ∧
      t.flt.tally.get 0 (tallyKey 8 0 1) = s.flt.tally.get 0 (tallyKey 8 0 1) + 1 := by
  obtain ⟨htake, -, -⟩ := recvXfer_current (s := s) (p := p) (f := { f with ty := 1 }) hexp hinc
  have hexec : exec (.xfer f) s = done (s.recvTide { f with ty := 1 }) := rfl
  have htaken : s.taken p { f with ty := 1 } = s.recvXfer p { f with ty := 1 } := rfl
  rw [recvTide_good hok hp, htaken, htake h] at hexec
  obtain ⟨hkeep, hh, hraised⟩ := credit_tide (s.peerLive p) p { f with ty := 1 }
  obtain ⟨hrx, hlive⟩ := credit_tpeer (s.peerLive p) p { f with ty := 1 }
  have htally := credit_tally (s.peerLive p) p { f with ty := 1 }
  have hpeer := peerLive_tpeer s p
  generalize (s.peerLive p).credit p { f with ty := 1 } = v at *
  have only := only_sendXack v p { f with ty := 1 }
  rw [tideSettle_of_member (by rw [only.tide, hkeep]; exact hst)] at hexec
  refine Completes.of_exec hexec ⟨?_, ?_, ?_, ?_, ?_⟩
  · rw [settle_tide, only.tide, hh]
    rfl
  · rw [settle_tide, only.tide, hraised]
  · rw [settle_tpeer, only.tpeer, hrx, hpeer]
  · rw [settle_tpeer, only.tpeer, hlive, hpeer]
  · rw [settle_flt_tally, only.tallies, htally]
    rfl

theorem xfer_again_completes (hp : s.peerOf f.src = some p) (hst : s.tide.st = .member)
    (hexp : (s.com.tide.peers.get {} p).expinc < f.sinc) (hinc : (s.tpeer p).inc = f.sinc) (hok : s.frameOk { f with ty := 1 } = true)
    (h : s.xferCaseOf p f = .duplicate ∨ s.xferCaseOf p f = .beyond) : Completes (.xfer f) s fun t =>
      t.tide.h = s.tide.h ∧ (t.tpeer p).rx = (s.tpeer p).rx := by
  obtain ⟨-, hdup, hbeyond⟩ := recvXfer_current (s := s) (p := p) (f := { f with ty := 1 }) hexp hinc
  have hexec : exec (.xfer f) s = done (s.recvTide { f with ty := 1 }) := rfl
  have htaken : s.taken p { f with ty := 1 } = s.recvXfer p { f with ty := 1 } := rfl
  have hpeer := peerLive_tpeer s p
  have only : Only [.ports] (s.peerLive p) (s.taken p { f with ty := 1 }) := by
    rw [htaken]
    rcases h with h | h
    · rw [hdup h]
      exact only_sendXack ..
    · rw [hbeyond h]
      exact .refl _ _
  rw [recvTide_good hok hp, tideSettle_of_member (by rw [only.tide]; exact hst)] at hexec
  refine Completes.of_exec hexec ⟨?_, ?_⟩
  · rw [settle_tide, only.tide]
    rfl
  · rw [settle_tpeer, only.tpeer, hpeer]

/-! ### Frames that fail their checks (R361) -/

theorem tideDiscard_completes {c : Instr} (h : exec c s = done s.tideDiscard) :
    Completes c s fun t => t.tide = { s.tide with disc := s.tide.disc + 1 } :=
  Completes.of_exec h (by rw [settle_tide]; rfl)

theorem exec_bad {c : Instr} {ty : Byte} (hc : exec c s = done (s.recvTide { f with ty := ty })) (h : ¬ s.frameOk { f with ty := ty } = true) :
    exec c s = done s.tideDiscard := hc.trans (congrArg done (recvTide_bad (Bool.eq_false_iff.2 h)))

theorem bad_frames_complete : ∀ c ∈ [(Instr.xfer f, (1 : Byte)), (Instr.xack f, 2), (Instr.advert f, 3), (Instr.stale f, 4), (Instr.expelled f, 5)],
    ¬ s.frameOk { f with ty := c.2 } = true → Completes c.1 s fun t => t.tide = { s.tide with disc := s.tide.disc + 1 } := by
  intro c hc hbad
  simp only [List.mem_cons, List.not_mem_nil, or_false] at hc
  rcases hc with rfl | rfl | rfl | rfl | rfl <;> exact tideDiscard_completes (exec_bad rfl hbad)

theorem recvBytes_none {bs : List Byte} (h : parseTide bs = none) : s.recvBytes bs = s.tideDiscard := by
  unfold State.recvBytes
  rw [h]

theorem recvBytes_some {bs : List Byte} (h : parseTide bs = some f) : s.recvBytes bs = s.recvTide f := by
  unfold State.recvBytes
  rw [h]

/-! ### Timed events of the tide (R345 to R355) -/

theorem pendingDebits_of_plans {x y : Tide} (h : x.plans = y.plans) : x.pendingDebits = y.pendingDebits := by
  unfold Tide.pendingDebits
  rw [h]

/-- The raised holding is being staged. -/
def State.raiseTaken (s : State) : State := s.updTide fun t => { t with raised := false }

theorem exec_tideCreditStage (hr : s.tide.raised = true) (hready : s.sys.ready = true) (hst : s.tide.st = .member) (hp : s.tide.planned = false) :
    exec .tideCreditStage s =
      done (s.raiseTaken.stageFw (.holding (some (min (s.tide.h - s.tide.pendingDebits) (tideCeil s.com.tide))))) :=
  if_pos ⟨hr, hready, by rw [hst]; decide, by rw [hst]; decide, hp⟩

theorem tideCreditStage_completes (hr : s.tide.raised = true) (hready : s.sys.ready = true) (hst : s.tide.st = .member)
    (hp : s.tide.planned = false) : Completes .tideCreditStage s fun t => t.tide.raised = false ∧
      ∃ w ∈ t.stg.queue, w.cw = .holding (some (min (s.tide.h - s.tide.pendingDebits) (tideCeil s.com.tide))) := by
  refine Completes.of_exec (exec_tideCreditStage hr hready hst hp) ⟨?_, ?_⟩
  · rw [settle_tide, (only_stageFw _ _).tide]
    rfl
  · rw [settle_stg]
    exact stageFw_mem ..

/-- A window begins (R346). -/
def State.windowBegun (s : State) : State := s.updTide fun t => { t with winAt := t.winAt + 100 * usT }

/-- The figures are refreshed where the firmware is ready (R345, R349). -/
def State.figuresTaken (s : State) : State :=
  if s.sys.ready then s.updTide fun t => { t with u := s.tideFigures.1, offer := s.tideFigures.2.1, want := s.tideFigures.2.2, figAt := s.now, staleFig := false }
  else s

/-- A window's transfers are planned and staged (R347, R350). -/
def State.plansStaged (s : State) (ps : List Plan) : State :=
  (s.updTide fun t => { t with plans := ps, planned := true }).stageFw
    (.holding (some (min (s.tide.h - (ps.map Plan.grains).sum) (tideCeil s.com.tide))))

/-- A window's own fields. -/
def State.Figured (s : State) (a : Nat) (t : State) : Prop :=
  t.now = a ∧ t.tide.winAt = s.tide.winAt + 100 * usT ∧ (s.sys.ready = true → t.tide.figAt = a ∧ t.tide.staleFig = false)

theorem only_figuresTaken (s : State) : Only [.tide] s s.figuresTaken := Only.ite _ (fun _ => only_updTide s _) fun _ => .refl _ _

theorem only_plansStaged (s : State) (ps : List Plan) : Only [.tide, .stg, .ports] s (s.plansStaged ps) :=
  ((only_updTide s _).mono (by simp)).then (only_stageFw _ _) (by simp)

theorem figuresTaken_figured {a k : Nat} (hnow : s.now = a) (hwin : s.tide.winAt = k) :
    s.figuresTaken.tide.winAt = k ∧ (s.sys.ready = true → s.figuresTaken.tide.figAt = a ∧ s.figuresTaken.tide.staleFig = false) := by
  unfold State.figuresTaken
  by_cases h : s.sys.ready = true
  · rw [if_pos h]
    exact ⟨hwin, fun _ => ⟨hnow, rfl⟩⟩
  · rw [if_neg h]
    exact ⟨hwin, fun hr => absurd hr h⟩

/-- A window as it begins, with its figures, told to the peers. -/
def State.windowTold (s : State) : State := ((s.reach (s.tide.winAt + 100 * usT)).windowBegun.figuresTaken).advertise

theorem exec_tideWindow (hst : s.tide.st = .member) :
    exec .tideWindow s = done s.windowTold ∨ ∃ ps, exec .tideWindow s = done (s.windowTold.plansStaged ps) := by
  have hout : s.tide.st ≠ .out := by rw [hst]; decide
  change execTideWindow s = _ ∨ ∃ ps, execTideWindow s = _
  unfold execTideWindow
  rw [if_neg hout]
  extract_lets s1 s2 f s3 s4 lim ps avail
  have htold : s4 = s.windowTold := rfl
  rw [← htold]
  split
  · split
    · exact .inl rfl
    · exact .inr ⟨ps, rfl⟩
  · exact .inl rfl

theorem windowTold_figured (s : State) :
    s.windowTold.now = max s.now (s.tide.winAt + 100 * usT) ∧ s.windowTold.tide.winAt = s.tide.winAt + 100 * usT ∧
    (s.sys.ready = true → s.windowTold.tide.figAt = s.windowTold.now ∧ s.windowTold.tide.staleFig = false) := by
  have hbegun : (s.reach (s.tide.winAt + 100 * usT)).windowBegun.now = max s.now (s.tide.winAt + 100 * usT) ∧
      (s.reach (s.tide.winAt + 100 * usT)).windowBegun.tide.winAt = s.tide.winAt + 100 * usT ∧
      (s.reach (s.tide.winAt + 100 * usT)).windowBegun.sys = s.sys := ⟨rfl, rfl, rfl⟩
  unfold State.windowTold
  generalize (s.reach (s.tide.winAt + 100 * usT)).windowBegun = u at *
  obtain ⟨hnow, hwin, hsys⟩ := hbegun
  obtain ⟨hwin', hfig⟩ := figuresTaken_figured hnow hwin
  have hnow' : u.figuresTaken.now = max s.now (s.tide.winAt + 100 * usT) := (only_figuresTaken u).now.trans hnow
  generalize u.figuresTaken = v at *
  rw [(only_advertise v).now, (only_advertise v).tide]
  refine ⟨hnow', hwin', fun hr => ?_⟩
  rw [hnow']
  exact hfig (hsys ▸ hr)

theorem plansStaged_tide (s : State) (ps : List Plan) : ∃ qs b, (s.plansStaged ps).tide = { s.tide with plans := qs, planned := b } := by
  rw [State.plansStaged, (only_stageFw _ _).tide]
  exact ⟨_, _, rfl⟩

theorem tideWindow_completes (hst : s.tide.st = .member) : Completes .tideWindow s fun t =>
    t.now = max s.now (s.tide.winAt + 100 * usT) ∧ t.tide.winAt = s.tide.winAt + 100 * usT ∧
      (s.sys.ready = true → t.tide.figAt = t.now ∧ t.tide.staleFig = false) := by
  have hexec := exec_tideWindow hst
  have hfigured := windowTold_figured s
  generalize s.windowTold = u at *
  rcases hexec with hexec | ⟨ps, hexec⟩ <;> refine Completes.of_exec hexec ?_ <;> rw [settle_now, settle_tide]
  · exact hfigured
  · obtain ⟨qs, b, htide⟩ := plansStaged_tide u ps
    rw [htide, (only_plansStaged u ps).now]
    exact hfigured

/-- An escrow entry is sent again as of now (R353). -/
def State.resent (s : State) (e : Escrow) : State :=
  (s.updTide fun t => { t with escrow := t.escrow.map fun x => if x = e then { x with sentAt := s.now } else x }).sendXfer e

theorem exec_escrowRetry {d : Escrow} {q k : Nat}
    (hd : s.tide.escrow.find? (fun e => decide (e.peer = q) && decide (e.seq = k) && !e.superseded) = some d) :
    exec (.escrowRetry q k) s = done ((s.reach (d.sentAt + s.retryT q)).resent d) := by
  change execEscrowRetry q k s = _
  unfold execEscrowRetry
  rw [hd]
  rfl

theorem escrowRetry_completes {e : Escrow} (he : e ∈ s.tide.escrow) (hsup : e.superseded = false) :
    Completes (.escrowRetry e.peer e.seq) s fun t => s.now ≤ t.now ∧ t.tide.h = s.tide.h := by
  obtain ⟨d, hd⟩ := Option.isSome_iff_exists.1 (List.find?_isSome.2 ⟨e, he, by simp [hsup]⟩ :
    (s.tide.escrow.find? fun x => decide (x.peer = e.peer) && decide (x.seq = e.seq) && !x.superseded).isSome = true)
  refine Completes.of_exec (exec_escrowRetry hd) ⟨?_, ?_⟩
  · rw [settle_now, State.resent, (only_sendXfer _ _).now, State.updTide_now, State.reach_now]
    exact Nat.le_max_left ..
  · rw [settle_tide, State.resent, (only_sendXfer _ _).tide]
    rfl

theorem exec_peerDead (hst : s.tide.st = .member) (h : (s.tpeer p).live = true) : exec (.peerDead p) s =
    done (((s.reach ((s.tpeer p).lastAt + msT * s.com.tide.deadtime)).updTPeer p fun x => { x with live := false, dead := true }).tally 8 0 5 1) :=
  if_pos ⟨by rw [hst]; decide, h⟩

theorem tally_tpeer (s : State) (id ix bin n p : Nat) : (s.tally id ix bin n).tpeer p = s.tpeer p := rfl

theorem peerDead_completes (hst : s.tide.st = .member) (h : (s.tpeer p).live = true) : Completes (.peerDead p) s fun t =>
    t.now = max s.now ((s.tpeer p).lastAt + msT * s.com.tide.deadtime) ∧ (t.tpeer p).live = false ∧ (t.tpeer p).dead = true ∧
      t.flt.tally.get 0 (tallyKey 8 0 5) = s.flt.tally.get 0 (tallyKey 8 0 5) + 1 := by
  refine Completes.of_exec (exec_peerDead hst h) ⟨?_, ?_, ?_, ?_⟩
  · rw [settle_now, State.tally_now, State.updTPeer_now, State.reach_now]
  · rw [settle_tpeer, tally_tpeer, updTPeer_tpeer]
  · rw [settle_tpeer, tally_tpeer, updTPeer_tpeer]
  · rw [settle_flt_tally, tally_get, State.updTPeer_flt, State.reach_flt]

theorem tideFiguresStale_completes (hst : s.tide.st = .member) (h : s.sys.ready = false) : Completes .tideFiguresStale s fun t =>
    t.now = max s.now (s.tide.figAt + msT) ∧ t.tide.staleFig = true := by
  have hexec : exec .tideFiguresStale s = done ((s.reach (s.tide.figAt + msT)).updTide fun t => { t with staleFig := true }) :=
    if_pos ⟨by rw [hst]; decide, h⟩
  refine Completes.of_exec hexec ?_
  rw [settle_now, settle_tide]
  exact ⟨rfl, rfl⟩

theorem fabFrame_completes {bytes : List Byte} (hb : parseTide bytes = some { f with ty := 3 }) (hp : s.peerOf f.src = some p)
    (hst : s.tide.st = .member) (hexp : (s.com.tide.peers.get {} p).expinc < f.sinc) (hinc : (s.tpeer p).inc = f.sinc)
    (hok : s.frameOk { f with ty := 3 } = true) : Completes (.fabFrame bytes) s fun t =>
      (t.tpeer p).offer = f.offer ∧ (t.tpeer p).want = f.want ∧ (t.tpeer p).hold = f.hold ∧ (t.tpeer p).lastAt = s.now := by
  have hexec : exec (.fabFrame bytes) s = done (s.recvBytes bytes) := rfl
  rw [recvBytes_some hb] at hexec
  refine (advert_taken hexec hp hst hexp hinc hok).imp fun t ht => ?_
  obtain ⟨-, -, hoffer, hwant, hhold, -, -, hlast⟩ := ht
  exact ⟨hoffer, hwant, hhold, hlast⟩

/-- Settles O50. -/
theorem tideFramesAndWindowsAreTaken : Obligations.TideFramesAndWindowsAreTaken := by
  unfold Obligations.TideFramesAndWindowsAreTaken
  intro s f p hp hst hexp hinc
  exact ⟨xfer_credit_completes hp hst hexp hinc, xfer_again_completes hp hst hexp hinc, xack_completes hp hst hexp hinc,
    advert_taken rfl hp hst hexp hinc, stale_completes hp hst hexp hinc, expelled_completes hp hst hexp hinc, bad_frames_complete,
    fun bytes h => tideDiscard_completes (congrArg done (recvBytes_none h)), fun bytes h => tideDiscard_completes (congrArg done (recvBytes_none h)),
    fun bytes hb hok => fabFrame_completes hb hp hst hexp hinc hok, fun hr hready hplan => tideCreditStage_completes hr hready hst hplan,
    tideWindow_completes hst, fun e he hsup => escrowRetry_completes he hsup, peerDead_completes hst, tideFiguresStale_completes hst⟩

end Sys2Proof.Machine
end

section
/-! SUPPORT. Input slots that firmware feeds (R180, R184), staged sets (R29, R262), the thermal model's readings, bands and orders (R366 to
R380), monitors and guardband (R388 to R391), and the proof of the obligation about them. -/

namespace Sys2Proof.Machine

-- The joined text is checked under a memory limit that counts every thread's stack: one proof at a time.
set_option Elab.async false

variable {s t u : State} {r : Nat}

/-! ### Input slots (R180, R184) -/

/-- A slot holds the value, marked fresh. -/
def State.SlotHolds (s : State) (k : Nat) (v : Word) : Prop := (s.eng.input.get {} k).value = v ∧ (s.eng.input.get {} k).stale = false

theorem foldl_updLdyn_input {f : State → Nat × Nat → LoopDyn → LoopDyn} : ∀ (l : List (Nat × Nat)) (u : State),
    (l.foldl (fun s x => s.updLdyn x.1 (f s x)) u).eng.input = u.eng.input ∧ (l.foldl (fun s x => s.updLdyn x.1 (f s x)) u).eng.subs = u.eng.subs
  | [], _ => ⟨rfl, rfl⟩
  | x :: l, u => by
    obtain ⟨hin, hsubs⟩ := foldl_updLdyn_input (f := f) l (u.updLdyn x.1 (f u x))
    exact ⟨hin, hsubs⟩

theorem slotSet_eng (s : State) (k : Nat) (v : Word) (a : Nat) :
    (s.slotSet k v a).eng.input =
      s.eng.input.set {} k { value := v, instant := BitVec.ofNat 32 a, stale := false, wrote := s.cke } ∧
    (s.slotSet k v a).eng.subs = s.eng.subs := by
  obtain ⟨hin, hsubs⟩ := foldl_updLdyn_input (f := fun s x => postTrigger a s.cke x.2)
    ((s.updEng fun e => { e with input := e.input.set {} k { value := v, instant := BitVec.ofNat 32 a, stale := false, wrote := s.cke } }).eng.subscribers k)
    (s.updEng fun e => { e with input := e.input.set {} k { value := v, instant := BitVec.ofNat 32 a, stale := false, wrote := s.cke } })
  exact ⟨hin, hsubs⟩

theorem slotSet_holds (s : State) (k : Nat) (v : Word) (a : Nat) : (s.slotSet k v a).SlotHolds k v := by
  unfold State.SlotHolds
  rw [(slotSet_eng s k v a).1, Tbl.get_set_same]
  exact ⟨rfl, rfl⟩

theorem State.SlotHolds.slotSet {k : Nat} {v : Word} (h : s.SlotHolds k v) (j a : Nat) : (s.slotSet j v a).SlotHolds k v := by
  by_cases hk : k = j
  · subst hk
    exact slotSet_holds s k v a
  · unfold State.SlotHolds
    rw [(slotSet_eng s j v a).1, Tbl.get_set_other _ _ _ hk]
    exact h

theorem foldl_slotSet {v : Word} {a k : Nat} : ∀ (l : List Nat) (u : State), (k ∈ l ∨ u.SlotHolds k v) →
    (l.foldl (fun s k => s.slotSet k v a) u).SlotHolds k v
  | [], _, h => h.resolve_left List.not_mem_nil
  | j :: l, u, h => by
    refine foldl_slotSet l _ ?_
    by_cases hk : k = j
    · subst hk
      exact .inr (slotSet_holds u k v a)
    · exact h.imp (fun hmem => (List.mem_cons.1 hmem).resolve_left hk) fun hholds => hholds.slotSet j a

theorem foldl_slotSet_subs {v : Word} {a : Nat} : ∀ (l : List Nat) (u : State), (l.foldl (fun s k => s.slotSet k v a) u).eng.subs = u.eng.subs
  | [], _ => rfl
  | j :: l, u => (foldl_slotSet_subs l (u.slotSet j v a)).trans (slotSet_eng u j v a).2

theorem slotWrite_subs (s : State) (src : SlotSrc) (v : Word) (a : Nat) : (s.slotWrite src v a).eng.subs = s.eng.subs := foldl_slotSet_subs ..

theorem slotsOf_congr {x y : Engine} (h : x.subs = y.subs) (src : SlotSrc) : x.slotsOf src = y.slotsOf src := by
  unfold Engine.slotsOf
  rw [h]

theorem posted_slotWrite (s : State) (src : SlotSrc) (v : Word) (a : Nat) : Posted s src v (s.slotWrite src v a) :=
  fun _ hk => foldl_slotSet _ s (.inl hk)

/-- A value stays posted when the same value is posted elsewhere. -/
theorem Posted.slotWrite {src : SlotSrc} {v : Word} (h : Posted s src v t) (src' : SlotSrc) (a : Nat) : Posted s src v (t.slotWrite src' v a) :=
  fun k hk => foldl_slotSet _ t (.inr (h k hk))

theorem posted_fwPlace (s : State) (what r m : Nat) (v : Word) : Posted s (.firmware what r m) v (s.fwPlace what r m v) :=
  posted_slotWrite s (.firmware what r m) v s.cke

theorem Posted.of_eng {src : SlotSrc} {v : Word} (h : Posted s src v t) (he : u.eng = t.eng) : Posted s src v u := by
  unfold Posted
  rw [he]
  exact h

theorem Posted.of_subs {src : SlotSrc} {v : Word} (h : Posted u src v t) (he : u.eng.subs = s.eng.subs) : Posted s src v t := by
  unfold Posted
  rw [← slotsOf_congr he]
  exact h

/-! ### Staged sets (R29, R260, R262) -/

/-- A write of the firmware waits in the queue. -/
def State.HasStaged (s : State) (a : CW) : Prop := ∃ w ∈ s.stg.queue, w.cw = a

theorem State.HasStaged.stage {a : CW} {w : SWrite} (h : s.HasStaged a) (hw : w.src = .firmware) (hk : cwKey a ≠ cwKey w.cw) : (s.stage w).HasStaged a := by
  obtain ⟨x, hx, rfl⟩ := h
  exact ⟨x, stage_mem_of_mem hw hx (clashes_of_key hk), rfl⟩

theorem foldl_stage_keeps {a : CW} {k : Nat} : ∀ (l : List CW) (u : State), u.HasStaged a → (∀ b ∈ l, cwKey a ≠ cwKey b) →
    (l.foldl (fun s c => s.stage { cw := c, src := .firmware, grp := k }) u).HasStaged a
  | [], _, h, _ => h
  | b :: l, _, h, hl => foldl_stage_keeps l _ (h.stage rfl (hl b (List.mem_cons_self ..))) fun c hc => hl c (List.mem_cons_of_mem _ hc)

theorem State.HasStaged.stageSet {a : CW} {l : List CW} (h : s.HasStaged a) (hl : ∀ b ∈ l, cwKey a ≠ cwKey b) : (s.stageSet l).HasStaged a :=
  foldl_stage_keeps l (s.updStg fun x => { x with derived := s.stg.derived + 1 }) h hl

theorem stageSet_first {a : CW} {l : List CW} (hl : ∀ b ∈ l, cwKey a ≠ cwKey b) : (s.stageSet (a :: l)).HasStaged a :=
  foldl_stage_keeps l _ ⟨_, stage_mem rfl _, rfl⟩ hl

theorem hasStaged_settle {a : CW} : (settle s).HasStaged a ↔ s.HasStaged a := by
  unfold State.HasStaged
  rw [settle_stg]

/-! ### Bands (R376, R378) -/

theorem stageBand_first (s : State) (r b : Nat) : (s.stageBand r b).HasStaged (.band r b) :=
  stageSet_first fun c hc => by
    simp only [List.mem_cons, List.not_mem_nil, or_false] at hc
    rcases hc with rfl | rfl | rfl <;> simp [cwKey]

theorem State.HasStaged.stageBand {q b : Nat} (h : s.HasStaged (.band r b)) (hq : r ≠ q) (a : Nat) : (s.stageBand q a).HasStaged (.band r b) :=
  h.stageSet fun c hc => by
    simp only [List.mem_cons, List.not_mem_nil, or_false] at hc
    rcases hc with rfl | rfl | rfl | rfl <;> simp [cwKey, hq]

theorem evalBand_first {hi lo : Int} (h : nextBand (s.com.reg r).band hi lo ≠ (s.com.reg r).band) :
    (s.evalBand r hi lo).HasStaged (.band r (nextBand (s.com.reg r).band hi lo)) := by
  have heval : s.evalBand r hi lo = s.stageBand r (nextBand (s.com.reg r).band hi lo) := if_neg h
  rw [heval]
  exact stageBand_first ..

theorem State.HasStaged.evalBand {q b : Nat} (h : s.HasStaged (.band r b)) (hq : r ≠ q) (hi lo : Int) : (s.evalBand q hi lo).HasStaged (.band r b) := by
  unfold State.evalBand
  dsimp only
  split
  · exact h
  · exact h.stageBand hq _

@[simp] theorem updTh_th (s : State) (r : Nat) (f : ThDyn → ThDyn) : ((s.updTh r f).reg r).th = f (s.reg r).th := by
  rw [State.updTh_eq, State.updReg_reg_same]

theorem updTh_reg_other (s : State) {r q : Nat} (f : ThDyn → ThDyn) (h : q ≠ r) : (s.updTh r f).reg q = s.reg q := by
  rw [State.updTh_eq, State.updReg_reg_other (h := h)]

theorem Only.th {ps : List Part} (h : Only ps s t) (r : Nat) (hp : Part.regs ∉ ps := by simp) : (t.reg r).th = (s.reg r).th := by
  obtain ⟨-, -, -, -, -, -, hth, -⟩ : Region.kept (s.reg r) (t.reg r) := h.2 .regs hp r
  exact hth

/-- The extremes since the last evaluation, put to the band (R371, R376). -/
def State.judgeBand (s : State) (r : Nat) : State :=
  match (s.reg r).th.coreMax, (s.reg r).th.coreMin with
  | some hi, some lo => s.evalBand r hi lo
  | _, _ => s

/-- One region's evaluation. -/
def State.bandPass (s : State) (r : Nat) : State := (s.judgeBand r).updTh r fun h => { h with coreMax := none, coreMin := none }

theorem judgeBand_none (h : (s.reg r).th.coreMax = none) : s.judgeBand r = s := by
  unfold State.judgeBand
  rw [h]

theorem judgeBand_some {hi lo : Int} (hhi : (s.reg r).th.coreMax = some hi) (hlo : (s.reg r).th.coreMin = some lo) :
    s.judgeBand r = s.evalBand r hi lo := by
  unfold State.judgeBand
  rw [hhi, hlo]

theorem only_judgeBand (s : State) (r : Nat) : Only [.stg, .ports] s (s.judgeBand r) := by
  unfold State.judgeBand
  split
  · exact only_evalBand ..
  · exact .refl _ _

theorem only_bandPass (s : State) (r : Nat) : Only [.regs, .stg, .ports] s (s.bandPass r) :=
  ((only_judgeBand s r).mono (by simp)).then (only_updTh _ r _) (by simp)

theorem State.HasStaged.judgeBand {q b : Nat} (h : s.HasStaged (.band r b)) (hq : r ≠ q) : (s.judgeBand q).HasStaged (.band r b) := by
  unfold State.judgeBand
  split
  · exact h.evalBand hq _ _
  · exact h

theorem bandPass_th_other {q : Nat} (h : q ≠ r) : ((s.bandPass r).reg q).th = (s.reg q).th := by
  rw [State.bandPass, updTh_reg_other _ _ h, (only_judgeBand s r).th]

theorem bandPass_emptied (s : State) (r : Nat) : ((s.bandPass r).reg r).th.coreMax = none ∧ ((s.bandPass r).reg r).th.coreMin = none := by
  rw [State.bandPass, updTh_th]
  exact ⟨rfl, rfl⟩

theorem foldl_bandPass_emptied {k : Nat} : ∀ (l : List Nat) (u : State),
    (k ∈ l ∨ (u.reg k).th.coreMax = none ∧ (u.reg k).th.coreMin = none) →
      ((l.foldl State.bandPass u).reg k).th.coreMax = none ∧ ((l.foldl State.bandPass u).reg k).th.coreMin = none
  | [], _, h => h.resolve_left List.not_mem_nil
  | q :: l, u, h => by
    refine foldl_bandPass_emptied l _ ?_
    by_cases hk : k = q
    · subst hk
      exact .inr (bandPass_emptied u k)
    · rw [bandPass_th_other hk]
      exact h.imp_left fun hmem => (List.mem_cons.1 hmem).resolve_left hk

theorem foldl_bandPass_keeps {k b : Nat} : ∀ (l : List Nat) (u : State), (u.reg k).th.coreMax = none → u.HasStaged (.band k b) →
    (l.foldl State.bandPass u).HasStaged (.band k b)
  | [], _, _, h => h
  | q :: l, u, hmax, h => by
    by_cases hk : k = q
    · subst hk
      refine foldl_bandPass_keeps l _ (bandPass_emptied u k).1 ?_
      rw [State.bandPass, judgeBand_none hmax]
      exact h
    · exact foldl_bandPass_keeps l _ (by rw [bandPass_th_other hk]; exact hmax) (h.judgeBand hk)

theorem foldl_bandPass_stages {k : Nat} {hi lo : Int} : ∀ (l : List Nat) (u : State), k ∈ l → (u.reg k).th.coreMax = some hi →
    (u.reg k).th.coreMin = some lo → nextBand (u.com.reg k).band hi lo ≠ (u.com.reg k).band →
      (l.foldl State.bandPass u).HasStaged (.band k (nextBand (u.com.reg k).band hi lo))
  | [], _, hmem, _, _, _ => absurd hmem List.not_mem_nil
  | q :: l, u, hmem, hhi, hlo, hne => by
    by_cases hk : k = q
    · subst hk
      refine foldl_bandPass_keeps l _ (bandPass_emptied u k).1 ?_
      rw [State.bandPass, judgeBand_some hhi hlo]
      exact evalBand_first hne
    · have hcom := (only_bandPass u q).com
      have hstage := foldl_bandPass_stages l (u.bandPass q) ((List.mem_cons.1 hmem).resolve_left hk)
        (by rw [bandPass_th_other hk]; exact hhi) (by rw [bandPass_th_other hk]; exact hlo) (by rw [hcom]; exact hne)
      rw [hcom] at hstage
      exact hstage

theorem exec_bandEvaluation (h : s.sys.ready = true) : exec .bandEvaluation s = done (s.regions.foldl State.bandPass s) :=
  if_neg (ne_false_of_eq_true h)

theorem bandEvaluation_completes (h : s.sys.ready = true) : Completes .bandEvaluation s fun t =>
    ∀ k ∈ s.regions, (t.reg k).th.coreMax = none ∧ (t.reg k).th.coreMin = none ∧
      ∀ hi lo, (s.reg k).th.coreMax = some hi → (s.reg k).th.coreMin = some lo → nextBand (s.com.reg k).band hi lo ≠ (s.com.reg k).band →
        t.HasStaged (.band k (nextBand (s.com.reg k).band hi lo)) := by
  refine Completes.of_exec (exec_bandEvaluation h) fun k hk => ?_
  obtain ⟨hmax, hmin⟩ := foldl_bandPass_emptied s.regions s (.inl hk)
  rw [settle_reg_th]
  exact ⟨hmax, hmin, fun hi lo hhi hlo hne => hasStaged_settle.2 (foldl_bandPass_stages _ s hk hhi hlo hne)⟩

/-! ### Readings (R366 to R374) -/

theorem diodeReq_mem (h : s.hasReg r = true) : r ∈ (s.diodeReq r).sys.diodeQ := by
  unfold State.diodeReq
  split
  · rw [State.updSys_sys]
    exact List.mem_append_right _ (List.mem_singleton_self r)
  · next hno => exact List.contains_iff_mem.1 (Bool.not_eq_false _ ▸ fun hc => hno ⟨h, by rw [hc]; rfl⟩)

/-- A reading is asked for where the firmware is ready. -/
def State.diodeAsked (s : State) (r : Nat) : State := if s.sys.ready then s.diodeReq r else s

theorem only_diodeAsked (s : State) (r : Nat) : Only [.sys] s (s.diodeAsked r) := Only.ite _ (fun _ => only_diodeReq s r) fun _ => .refl _ _

theorem diodeAsked_mem (hready : s.sys.ready = true) (h : s.hasReg r = true) : r ∈ (s.diodeAsked r).sys.diodeQ := by
  unfold State.diodeAsked
  rw [if_pos hready]
  exact diodeReq_mem h

/-- The region's thermal output is stale as of now (R369). -/
def State.markedStale (s : State) (r : Nat) : State := s.updTh r fun h => { h with stale := true, staleQ := s.now }

theorem exec_thstale (hr : s.hasReg r = true) (h : (s.rimg r).thLoop ≠ none) : exec (.thstale r) s =
    done (((s.reach (if (s.reg r).th.stale then (s.reg r).th.staleQ + 10 * msT else (s.reg r).th.out0At + msT)).markedStale r).diodeAsked r) :=
  if_neg (not_or.2 ⟨ne_false_of_eq_true hr, h⟩)

theorem markedStale_fields (s : State) (r : Nat) : ((s.markedStale r).reg r).th = { (s.reg r).th with stale := true, staleQ := s.now } ∧
    (s.markedStale r).now = s.now ∧ (s.markedStale r).sys = s.sys := ⟨updTh_th s r fun h => { h with stale := true, staleQ := s.now }, rfl, rfl⟩

theorem hasReg_of_sys (h : t.sys = s.sys) (r : Nat) : t.hasReg r = s.hasReg r := by
  unfold State.hasReg State.rimg
  rw [h]

theorem thstale_completes (hready : s.sys.ready = true) (hr : s.hasReg r = true) (h : (s.rimg r).thLoop ≠ none) : Completes (.thstale r) s fun t =>
    t.now = max s.now (if (s.reg r).th.stale = true then (s.reg r).th.staleQ + 10 * msT else (s.reg r).th.out0At + msT) ∧
      (t.reg r).th.stale = true ∧ (t.reg r).th.staleQ = t.now ∧ r ∈ t.sys.diodeQ := by
  have hexec := exec_thstale hr h
  obtain ⟨hth, hnow, hsys⟩ := markedStale_fields
    (s.reach (if (s.reg r).th.stale then (s.reg r).th.staleQ + 10 * msT else (s.reg r).th.out0At + msT)) r
  generalize (s.reach (if (s.reg r).th.stale then (s.reg r).th.staleQ + 10 * msT else (s.reg r).th.out0At + msT)).markedStale r = u at *
  rw [State.reach_now] at hnow hth
  rw [State.reach_sys] at hsys
  have only := only_diodeAsked u r
  refine Completes.of_exec hexec ⟨?_, ?_, ?_, ?_⟩
  · rw [settle_now, only.now, hnow]
  · rw [settle_reg_th, only.th, hth]
  · rw [settle_reg_th, settle_now, only.th, only.now, hth, hnow]
  · rw [settle_sys]
    exact diodeAsked_mem (hsys ▸ hready) (hasReg_of_sys hsys r ▸ hr)

/-- Bit 24 of out1 rises. -/
def State.confRises (s : State) (r : Nat) (o : Word) : Bool := bitOf o 24 && !(s.reg r).th.sigBit

/-- The region's confidence as out1 shows it (R370). -/
def State.confNoted (s : State) (r : Nat) (o : Word) : State :=
  s.updTh r fun h => { h with sigBit := bitOf o 24, lowconf := h.lowconf || s.confRises r o }

theorem exec_lowconfQueue (hr : s.hasReg r = true) (o : Word) : exec (.lowconfQueue r o) s =
    done (if s.confRises r o ∧ (s.confNoted r o).sys.ready then (s.confNoted r o).diodeReq r else s.confNoted r o) :=
  if_neg (ne_false_of_eq_true hr)

theorem confNoted_fields (s : State) (r : Nat) (o : Word) :
    ((s.confNoted r o).reg r).th = { (s.reg r).th with sigBit := bitOf o 24, lowconf := (s.reg r).th.lowconf || s.confRises r o } ∧
    (s.confNoted r o).sys = s.sys :=
  ⟨updTh_th s r fun h => { h with sigBit := bitOf o 24, lowconf := h.lowconf || s.confRises r o }, rfl⟩

theorem lowconfQueue_completes (hready : s.sys.ready = true) (hr : s.hasReg r = true) (o : Word) : Completes (.lowconfQueue r o) s fun t =>
    (t.reg r).th.sigBit = bitOf o 24 ∧ (t.reg r).th.lowconf = ((s.reg r).th.lowconf || (bitOf o 24 && !(s.reg r).th.sigBit)) ∧
      (bitOf o 24 = true → (s.reg r).th.sigBit = false → r ∈ t.sys.diodeQ) := by
  have hexec := exec_lowconfQueue hr o
  obtain ⟨hth, hsys⟩ := confNoted_fields s r o
  generalize s.confNoted r o = u at *
  have only : Only [.sys] u (if s.confRises r o ∧ u.sys.ready then u.diodeReq r else u) :=
    Only.ite _ (fun _ => only_diodeReq u r) fun _ => .refl _ _
  refine Completes.of_exec hexec ⟨?_, ?_, fun ho hsig => ?_⟩
  · rw [settle_reg_th, only.th, hth]
  · rw [settle_reg_th, only.th, hth]
    rfl
  · have hrise : s.confRises r o = true := by
      unfold State.confRises
      rw [ho, hsig]
      rfl
    rw [settle_sys, if_pos ⟨hrise, hsys ▸ hready⟩]
    exact diodeReq_mem (hasReg_of_sys hsys r ▸ hr)

/-- A reading of the region is over (R372). -/
def State.readingOver (s : State) (r : Nat) : State :=
  (s.updSys fun y => { y with diodeQ := y.diodeQ.filter fun x => x ≠ r }).updTh r fun h => { h with dseq := h.dseq + 1 }

/-- A good reading is kept. -/
def State.readingKept (s : State) (r : Nat) (x : Int) : State :=
  (s.readingOver r).updTh r fun h => { h with tdio := BitVec.ofInt 16 x, dfail := false, lowconf := false, forcedDone := true }

/-- A good reading is used where the management core works. -/
def State.readingUsed (s : State) (r : Nat) (x : Int) : State :=
  if s.coreServes then (s.fwPlace fwDiode r 0 (BitVec.ofInt 32 x)).evalBand r x x else s

theorem queued_of_mem {l : List Nat} (h : r ∈ l) : ¬ (!l.contains r) = true := by simpa using h

theorem exec_diodeReading_good {x : Int} (h : r ∈ s.sys.diodeQ) (hlow : -1280 ≤ x) (hhigh : x ≤ 9600) :
    exec (.diodeReadingComplete r (some x)) s =
      let u := (s.readingKept r x).readingUsed r x
      done (if shutLevel ≤ x then immediateStop u 1 r else u) := by
  refine (if_neg (queued_of_mem h)).trans ?_
  dsimp only
  rw [if_pos ⟨hlow, hhigh⟩]
  rfl

/-- A failed reading is noted. -/
def State.readingFailed (s : State) (r : Nat) : State := (s.readingOver r).updTh r fun h => { h with dfail := true, retries := h.retries + 1 }

/-- Outside the boot a failed reading is not repeated. -/
def State.readingClosed (s : State) (r : Nat) : State :=
  s.updTh r fun h => { h with forcedDone := true, lowconf := h.lowconf || decide (s.hw.bstate = .boot) }

theorem readingOver_fields (s : State) (r : Nat) : ((s.readingOver r).reg r).th = { (s.reg r).th with dseq := (s.reg r).th.dseq + 1 } ∧
    r ∉ (s.readingOver r).sys.diodeQ ∧ (s.readingOver r).hw = s.hw :=
  ⟨updTh_th _ r fun h => { h with dseq := h.dseq + 1 }, by simp [State.readingOver], rfl⟩

theorem exec_diodeReading_bad {x : Option Int} (h : r ∈ s.sys.diodeQ) (hbad : ∀ y, x = some y → y < -1280 ∨ 9600 < y) (hb : s.hw.bstate ≠ .boot) :
    exec (.diodeReadingComplete r x) s = done ((s.readingFailed r).readingClosed r) := by
  have hclose : ¬ (decide ((s.readingFailed r).hw.bstate = .boot) && decide (((s.readingFailed r).reg r).th.retries < 3)) = true := by
    rw [Bool.and_eq_true, decide_eq_true_eq]
    exact fun hno => hb hno.1
  refine (if_neg (queued_of_mem h)).trans ?_
  cases x with
  | none => exact congrArg done (if_neg hclose)
  | some y =>
    dsimp only
    rw [if_neg (fun hno => by have := hbad y rfl; omega)]
    exact congrArg done (if_neg hclose)

theorem readingKept_fields (s : State) (r : Nat) (x : Int) :
    ((s.readingKept r x).reg r).th =
      { (s.reg r).th with dseq := (s.reg r).th.dseq + 1, tdio := BitVec.ofInt 16 x, dfail := false, lowconf := false, forcedDone := true } ∧
    r ∉ (s.readingKept r x).sys.diodeQ ∧ (s.readingKept r x).sys.ready = s.sys.ready ∧ (s.readingKept r x).sys.coreRun = s.sys.coreRun ∧
    (s.readingKept r x).com = s.com ∧ (s.readingKept r x).eng = s.eng ∧ (s.readingKept r x).hw = s.hw := by
  refine ⟨?_, (readingOver_fields s r).2.1, rfl, rfl, rfl, rfl, rfl⟩
  rw [State.readingKept, updTh_th, (readingOver_fields s r).1]

theorem only_readingUsed (s : State) (r : Nat) (x : Int) : Only [.eng, .stg, .ports] s (s.readingUsed r x) :=
  Only.ite _ (fun _ => ((only_fwPlace s ..).mono (by simp)).then (only_evalBand _ r x x) (by simp)) fun _ => .refl _ _

theorem readingUsed_of_serves {x : Int} (h : s.coreServes = true) :
    s.readingUsed r x = (s.fwPlace fwDiode r 0 (BitVec.ofInt 32 x)).evalBand r x x := if_pos h

theorem diodeReading_good_completes {x : Int} (hready : s.sys.ready = true) (h : r ∈ s.sys.diodeQ) (hrun : s.sys.coreRun = true) (hlow : -1280 ≤ x)
    (hx : x < shutLevel) : Completes (.diodeReadingComplete r (some x)) s fun t =>
      r ∉ t.sys.diodeQ ∧ (t.reg r).th.tdio = BitVec.ofInt 16 x ∧ (t.reg r).th.dseq = (s.reg r).th.dseq + 1 ∧ (t.reg r).th.dfail = false ∧
      (t.reg r).th.lowconf = false ∧ (t.reg r).th.forcedDone = true ∧ Posted s (.firmware fwDiode r 0) (BitVec.ofInt 32 x) t ∧
      (nextBand (s.com.reg r).band x x ≠ (s.com.reg r).band → t.HasStaged (.band r (nextBand (s.com.reg r).band x x))) := by
  have hhigh : x ≤ 9600 := Int.le_of_lt (Int.lt_of_lt_of_le hx (by decide))
  have hexec := exec_diodeReading_good h hlow hhigh
  dsimp only at hexec
  rw [if_neg (Int.not_le.2 hx)] at hexec
  obtain ⟨hth, hqueue, hready', hrun', hcom, heng, -⟩ := readingKept_fields s r x
  generalize s.readingKept r x = u at *
  have hserves : u.coreServes = true := by
    unfold State.coreServes
    rw [hready', hrun', hready, hrun]
    rfl
  have only := only_readingUsed u r x
  rw [readingUsed_of_serves hserves] at hexec only
  have hpost := posted_fwPlace u fwDiode r 0 (BitVec.ofInt 32 x)
  have place := only_fwPlace u fwDiode r 0 (BitVec.ofInt 32 x)
  have hband := evalBand_first (s := u.fwPlace fwDiode r 0 (BitVec.ofInt 32 x)) (r := r) (hi := x) (lo := x)
  generalize u.fwPlace fwDiode r 0 (BitVec.ofInt 32 x) = v at *
  rw [place.com, hcom] at hband
  refine Completes.of_exec hexec ⟨?_, ?_, ?_, ?_, ?_, ?_, ?_, fun hne => hasStaged_settle.2 (hband hne)⟩
  · rw [settle_sys, only.sys]
    exact hqueue
  · rw [settle_reg_th, only.th, hth]
  · rw [settle_reg_th, only.th, hth]
  · rw [settle_reg_th, only.th, hth]
  · rw [settle_reg_th, only.th, hth]
  · rw [settle_reg_th, only.th, hth]
  · exact (hpost.of_subs (by rw [heng])).of_eng ((settle_eng _).trans (only_evalBand v r x x).eng)

theorem diodeReading_bad_completes {x : Option Int} (h : r ∈ s.sys.diodeQ) (hb : s.hw.bstate ≠ .boot)
    (hbad : ∀ y, x = some y → y < -1280 ∨ 9600 < y) : Completes (.diodeReadingComplete r x) s fun t =>
      r ∉ t.sys.diodeQ ∧ (t.reg r).th.dfail = true ∧ (t.reg r).th.dseq = (s.reg r).th.dseq + 1 ∧ (t.reg r).th.tdio = (s.reg r).th.tdio ∧
      (t.reg r).th.lowconf = (s.reg r).th.lowconf := by
  obtain ⟨hth, hqueue, hhw⟩ := readingOver_fields s r
  have hboot : decide ((s.readingFailed r).hw.bstate = .boot) = false := decide_eq_false hb
  have hclosed : (((s.readingFailed r).readingClosed r).reg r).th = { (s.reg r).th with
      dseq := (s.reg r).th.dseq + 1, dfail := true, retries := (s.reg r).th.retries + 1, forcedDone := true } := by
    rw [State.readingClosed, updTh_th, hboot, State.readingFailed, updTh_th, hth]
    simp
  have hkept : ((s.readingFailed r).readingClosed r).sys = (s.readingOver r).sys := rfl
  refine Completes.of_exec (exec_diodeReading_bad h hbad hb) ?_
  rw [settle_sys, settle_reg_th, hclosed, hkept]
  exact ⟨hqueue, rfl, rfl, rfl, rfl⟩

/-! ### Immediate stops (R381, R383, R384) -/

/-- All is down, the hub guard's stop state stands. -/
def State.guardDown (s : State) : State := guardAtOnce s.allDown

/-- The latch of an immediate thermal stop, with its tally. -/
def State.thermalLatched (s : State) (cause : Nat) : State :=
  (s.updSys fun y => { y with stop := .none, stopStep := 0, hkind := 2 }).tally 9 0 (if cause = 1 then 2 else 1) 1

theorem immediateStop_eq (h : s.hw.bstate ≠ .halted) (cause region : Nat) :
    immediateStop s cause region = ((recordStop s 2 cause region).guardDown.thermalLatched cause).setB .halted := if_neg fun hno => h hno.1

theorem only_guardDown (s : State) : Only [.com, .regs, .conv] s s.guardDown :=
  ((only_allDown s).mono (by simp)).then (only_guardAtOnce _) (by simp)

theorem only_thermalLatched (s : State) (cause : Nat) : Only [.sys, .flt] s (s.thermalLatched cause) :=
  ((only_updSys s _).mono (by simp)).then (only_tally ..) (by simp)

theorem thermalLatched_sys (s : State) (cause : Nat) :
    (s.thermalLatched cause).sys.hkind = 2 ∧ (s.thermalLatched cause).sys.shCause = s.sys.shCause := ⟨rfl, rfl⟩

theorem recordStop_shCause (s : State) (kind region : Nat) {cause : Nat} (h : cause < 4) :
    (recordStop s kind cause region).sys.shCause.getLsbD cause = true := by
  change (s.sys.shCause ||| (1 : BitVec 4) <<< cause).getLsbD cause = true
  simp [h]

/-- The sequencers' darkness leaves the thermal model's inputs. -/
theorem foldl_updSeq_th {f : State → Nat → SeqDyn → SeqDyn} : ∀ (l : List Nat) (u : State) (r : Nat),
    ((l.foldl (fun s r => s.updSeq r (f s r)) u).reg r).th = (u.reg r).th
  | [], _, _ => rfl
  | q :: l, u, r => by
    refine (foldl_updSeq_th l _ r).trans ?_
    change ((u.updSeq q (f u q)).reg r).th = _
    by_cases hr : r = q
    · subst hr
      rw [State.updSeq_eq, State.updReg_reg_same]
    · rw [State.updSeq_eq, State.updReg_reg_other (h := hr)]

theorem darkAll_th (s : State) (r : Nat) : ((darkAll s).reg r).th = (s.reg r).th := foldl_updSeq_th ..

theorem guardDown_th (s : State) (r : Nat) : (s.guardDown.reg r).th = (s.reg r).th := by
  rw [State.guardDown, (only_guardAtOnce _).th, State.allDown, darkAll_th, (only_converterCut s).th]

/-- An immediate stop halts the block with its cause, and leaves the thermal model's inputs. -/
theorem immediateStop_halts (h : s.hw.bstate ≠ .halted) {cause : Nat} (hc : cause < 4) (region r : Nat) :
    (immediateStop s cause region).hw.bstate = .halted ∧ (immediateStop s cause region).sys.hkind = 2 ∧
    (immediateStop s cause region).sys.shCause.getLsbD cause = true ∧ ((immediateStop s cause region).reg r).th = (s.reg r).th := by
  rw [immediateStop_eq h]
  have hcause := recordStop_shCause s 2 region hc
  have record := only_recordStop s 2 cause region
  generalize recordStop s 2 cause region = u at *
  have down := only_guardDown u
  have hth := guardDown_th u r
  generalize u.guardDown = v at *
  obtain ⟨hkind, hsh⟩ := thermalLatched_sys v cause
  have latch := only_thermalLatched v cause
  generalize v.thermalLatched cause = w at *
  have set := only_setB w .halted
  refine ⟨setB_bstate w .halted, ?_, ?_, ?_⟩
  · rw [set.sys, hkind]
  · rw [set.sys, hsh, down.sys, hcause]
  · rw [set.th, latch.th, hth, record.th]

theorem diodeReading_stops_completes {x : Int} (h : r ∈ s.sys.diodeQ) (hb : s.hw.bstate ≠ .halted) (hx : shutLevel ≤ x) (hhigh : x ≤ 9600) :
    Completes (.diodeReadingComplete r (some x)) s fun t =>
      t.hw.bstate = .halted ∧ t.sys.hkind = 2 ∧ t.sys.shCause.getLsbD 1 = true ∧ (t.reg r).th.tdio = BitVec.ofInt 16 x := by
  have hexec := exec_diodeReading_good h (Int.le_trans (by decide : (-1280 : Int) ≤ shutLevel) hx) hhigh
  dsimp only at hexec
  rw [if_pos hx] at hexec
  obtain ⟨hth, -, -, -, -, -, hhw⟩ := readingKept_fields s r x
  generalize s.readingKept r x = u at *
  have only := only_readingUsed u r x
  generalize u.readingUsed r x = v at *
  obtain ⟨hhalt, hkind, hcause, hkept⟩ := immediateStop_halts (s := v) (cause := 1) (by rw [only.bstate, hhw]; exact hb) (by decide) r r
  refine Completes.of_exec hexec ?_
  rw [settle_hw_bstate, settle_sys, settle_reg_th, hkept, only.th, hth]
  exact ⟨hhalt, hkind, hcause, rfl⟩

/-! ### The inlet and the thermal orders (R366, R380) -/

theorem exec_tinletSubstitution {a : Nat} (hready : s.sys.ready = true) (ha : s.ports.inletAt = some a) : exec .tinletSubstitution s =
    let u := (s.reach (a + secT)).updPorts fun p => { p with inletAt := none }
    done (u.fwPlace fwTin 0 0 (BitVec.ofNat 32 (64 * u.com.tinlet))) := by
  refine (if_neg (ne_false_of_eq_true hready)).trans ?_
  rw [ha]
  rfl

theorem tinletSubstitution_completes {a : Nat} (hready : s.sys.ready = true) (ha : s.ports.inletAt = some a) : Completes .tinletSubstitution s fun t =>
    t.now = max s.now (a + secT) ∧ t.ports.inletAt = none ∧ Posted s (.firmware fwTin 0 0) (BitVec.ofNat 32 (64 * s.com.tinlet)) t := by
  have hexec := exec_tinletSubstitution hready ha
  have hfields : ∀ u : State, u = (s.reach (a + secT)).updPorts (fun p => { p with inletAt := none }) →
      u.now = max s.now (a + secT) ∧ u.ports.inletAt = none ∧ u.eng = s.eng ∧ u.com = s.com := by
    rintro u rfl
    exact ⟨rfl, rfl, rfl, rfl⟩
  dsimp only at hexec
  obtain ⟨hnow, hinlet, heng, hcom⟩ := hfields _ rfl
  generalize (s.reach (a + secT)).updPorts (fun p => { p with inletAt := none }) = u at *
  rw [hcom] at hexec
  have only := only_fwPlace u fwTin 0 0 (BitVec.ofNat 32 (64 * s.com.tinlet))
  have hports : (u.fwPlace fwTin 0 0 (BitVec.ofNat 32 (64 * s.com.tinlet))).ports.inletAt = u.ports.inletAt := by
    have h : _ = _ := only.2 .ports (by simp)
    rw [h]
  refine Completes.of_exec hexec ⟨?_, ?_, ?_⟩
  · rw [settle_now, only.now, hnow]
  · rw [settle_ports_inletAt, hports, hinlet]
  · exact ((posted_fwPlace u fwTin 0 0 _).of_subs (by rw [heng])).of_eng (settle_eng _)

theorem stageFw_hasStaged (s : State) (a : CW) : (settle (s.stageFw a)).HasStaged a := hasStaged_settle.2 (stageFw_mem s a)

theorem thermalRegionOrder_completes (hready : s.sys.ready = true) (hband : (s.com.reg r).band = 5) (hths : (s.com.reg r).ths = .none)
    (hslope : 0 < (s.reg r).th.slope) : Completes (.thermalRegionOrder r) s fun t =>
      t.now = max s.now ((s.reg r).th.b5At + 10 * msT) ∧
      t.HasStaged (.order r 3 (if (s.rimg r).retPart.isSome = true then .retention else .off)) := by
  have hexec : exec (.thermalRegionOrder r) s = done ((s.reach ((s.reg r).th.b5At + 10 * msT)).stageFw
      (.order r 3 (if (s.rimg r).retPart.isSome then .retention else .off))) := if_pos ⟨hready, hband, hths, hslope⟩
  refine Completes.of_exec hexec ⟨?_, stageFw_hasStaged _ _⟩
  rw [settle_now, (only_stageFw _ _).now, State.reach_now]

theorem thermalOrderRelease_completes {a : Nat} (hready : s.sys.ready = true) (ha : (s.reg r).th.lowAt = some a) (hths : (s.com.reg r).ths ≠ .none)
    (hband : (s.com.reg r).band ≤ 3) : Completes (.thermalOrderRelease r) s fun t =>
      t.now = max s.now (a + 100 * msT) ∧ t.HasStaged (.order r 3 .none) := by
  have hexec : exec (.thermalOrderRelease r) s = done ((s.reach (a + 100 * msT)).stageFw (.order r 3 .none)) := by
    change execThermalOrderRelease r s = _
    unfold execThermalOrderRelease
    rw [ha]
    exact if_pos ⟨hready, hths, hband⟩
  refine Completes.of_exec hexec ⟨?_, stageFw_hasStaged _ _⟩
  rw [settle_now, (only_stageFw _ _).now, State.reach_now]

/-! ### Monitors and guardband (R388 to R391) -/

theorem monitorRead_guard (hready : s.sys.ready = true) (hr : s.hasReg r = true) (h : (s.rimg r).monitors = true) :
    ¬ (s.sys.ready = false ∨ s.hasReg r = false ∨ (s.rimg r).monitors = false) :=
  not_or.2 ⟨ne_false_of_eq_true hready, not_or.2 ⟨ne_false_of_eq_true hr, ne_false_of_eq_true h⟩⟩

theorem monitorRead_asks_completes (hready : s.sys.ready = true) (hr : s.hasReg r = true) (h : (s.rimg r).monitors = true)
    (hst : (s.reg r).seq.st = .live) (hset : (s.reg r).atSet = true) : Completes (.monitorRead r) s fun t =>
      (t.reg r).th.mmreq = true ∧ (t.reg r).th.mmsel = 0 ∧ (t.reg r).th.mmAt = s.now ∧ (t.reg r).th.mmVals = [] := by
  have hexec : exec (.monitorRead r) s = done (s.updTh r fun h => { h with mmreq := true, mmsel := 0, mmAt := s.now, mmVals := [] }) :=
    (if_neg (monitorRead_guard hready hr h)).trans (if_pos ⟨hst, hset⟩)
  refine Completes.of_exec hexec ?_
  rw [settle_reg_th, updTh_th]
  exact ⟨rfl, rfl, rfl, rfl⟩

theorem foldl_noMonitors {m r : Nat} : ∀ (l : List Nat) (u : State), u.eng.subs = s.eng.subs →
    (m ∈ l ∨ Posted s (.firmware fwMmon r m) noSlack u) → Posted s (.firmware fwMmon r m) noSlack (l.foldl (fun s m => s.fwPlace fwMmon r m noSlack) u)
  | [], _, _, h => h.resolve_left List.not_mem_nil
  | k :: l, u, hsubs, h => by
    refine foldl_noMonitors l _ ((slotWrite_subs u ..).trans hsubs) ?_
    by_cases hk : m = k
    · subst hk
      exact .inr ((posted_fwPlace u fwMmon r m noSlack).of_subs hsubs)
    · exact h.imp (fun hmem => (List.mem_cons.1 hmem).resolve_left hk) fun hpost => hpost.slotWrite _ u.cke

theorem posted_noMonitors (s : State) (r : Nat) {m : Nat} (hm : m < 4) : Posted s (.firmware fwMmon r m) noSlack (s.noMonitors r) :=
  foldl_noMonitors _ s rfl (.inl (List.mem_range.2 hm))

theorem monitorRead_none_completes (hready : s.sys.ready = true) (hr : s.hasReg r = true) (h : (s.rimg r).monitors = true)
    (hst : (s.reg r).seq.st ≠ .live ∨ (s.reg r).atSet = false) : Completes (.monitorRead r) s fun t =>
      ∀ m < 4, Posted s (.firmware fwMmon r m) noSlack t := by
  have hidle : ¬ ((s.reg r).seq.st = .live ∧ (s.reg r).atSet = true) := fun hno =>
    hst.elim (fun h => h hno.1) fun h => Bool.noConfusion (h.symm.trans hno.2)
  have hexec : exec (.monitorRead r) s = done (s.noMonitors r) := (if_neg (monitorRead_guard hready hr h)).trans (if_neg hidle)
  exact Completes.of_exec hexec fun m hm => (posted_noMonitors s r hm).of_eng (settle_eng _)

/-- A monitor's answer is noted (R388). -/
def State.slackNoted (s : State) (r m : Nat) (x : BitVec 12) : State := s.updTh r fun h => { h with
  mmVals := h.mmVals ++ [x], mmsel := h.mmsel + 1, mmreq := decide (m < 3),
  lslack := if (x.signExtend 16).slt h.lslack then x.signExtend 16 else h.lslack }

theorem slackNoted_th (s : State) (r m : Nat) (x : BitVec 12) : ((s.slackNoted r m x).reg r).th = { (s.reg r).th with
    mmVals := (s.reg r).th.mmVals ++ [x], mmsel := (s.reg r).th.mmsel + 1, mmreq := decide (m < 3),
    lslack := if (x.signExtend 16).slt (s.reg r).th.lslack then x.signExtend 16 else (s.reg r).th.lslack } :=
  updTh_th s r fun h => { h with
    mmVals := h.mmVals ++ [x], mmsel := h.mmsel + 1, mmreq := decide (m < 3),
    lslack := if (x.signExtend 16).slt h.lslack then x.signExtend 16 else h.lslack }

theorem least_toInt (x y : BitVec 16) : (if x.slt y then x else y).toInt = min x.toInt y.toInt := by
  by_cases h : x.slt y = true
  · rw [if_pos h, Int.min_eq_left (Int.le_of_lt (BitVec.slt_iff_toInt_lt.1 h))]
  · rw [if_neg h, Int.min_eq_right (Int.not_lt.1 fun hlt => h (BitVec.slt_iff_toInt_lt.2 hlt))]

theorem exec_monitorAnswer (x : BitVec 12) (hreq : (s.reg r).th.mmreq = true) (hsel : (s.reg r).th.mmsel < 4) :
    exec (.monitorAnswer r (s.reg r).th.mmsel x) s =
      done ((s.slackNoted r (s.reg r).th.mmsel x).fwPlace fwMmon r (s.reg r).th.mmsel (x.signExtend 32)) := if_pos ⟨hreq, rfl, hsel⟩

theorem monitorAnswer_completes (x : BitVec 12) (hreq : (s.reg r).th.mmreq = true) (hsel : (s.reg r).th.mmsel < 4) :
    Completes (.monitorAnswer r (s.reg r).th.mmsel x) s fun t =>
      Posted s (.firmware fwMmon r (s.reg r).th.mmsel) (x.signExtend 32) t ∧ (t.reg r).th.mmVals = (s.reg r).th.mmVals ++ [x] ∧
      (t.reg r).th.mmsel = (s.reg r).th.mmsel + 1 ∧ (t.reg r).th.mmreq = decide ((s.reg r).th.mmsel < 3) ∧
      (t.reg r).th.lslack.toInt = min (x.signExtend 16).toInt (s.reg r).th.lslack.toInt := by
  have hexec := exec_monitorAnswer x hreq hsel
  have hth := slackNoted_th s r (s.reg r).th.mmsel x
  have heng : (s.slackNoted r (s.reg r).th.mmsel x).eng = s.eng := rfl
  generalize s.slackNoted r (s.reg r).th.mmsel x = u at *
  have only := only_fwPlace u fwMmon r (s.reg r).th.mmsel (x.signExtend 32)
  refine Completes.of_exec hexec ⟨?_, ?_⟩
  · exact ((posted_fwPlace u fwMmon r _ _).of_subs (by rw [heng])).of_eng (settle_eng _)
  · rw [settle_reg_th, only.th, hth]
    exact ⟨rfl, rfl, rfl, least_toInt ..⟩

theorem monitorAnswerTimeout_completes (hreq : (s.reg r).th.mmreq = true) : Completes (.monitorAnswerTimeout r) s fun t =>
    t.now = max s.now ((s.reg r).th.mmAt + 10 * usT) ∧ (t.reg r).th.mmreq = false ∧ ∀ m < 4, Posted s (.firmware fwMmon r m) noSlack t := by
  have hexec : exec (.monitorAnswerTimeout r) s =
    done (((s.reach ((s.reg r).th.mmAt + 10 * usT)).updTh r fun h => { h with mmreq := false }).noMonitors r) := if_pos hreq
  have hth := updTh_th (s.reach ((s.reg r).th.mmAt + 10 * usT)) r fun h => { h with mmreq := false }
  have hnow := State.updTh_now (s := s.reach ((s.reg r).th.mmAt + 10 * usT)) r fun h => { h with mmreq := false }
  have heng := State.updTh_eng (s := s.reach ((s.reg r).th.mmAt + 10 * usT)) r fun h => { h with mmreq := false }
  generalize ((s.reach ((s.reg r).th.mmAt + 10 * usT)).updTh r fun h => { h with mmreq := false }) = u at *
  rw [State.reach_now] at hnow
  rw [State.reach_eng] at heng
  have only := only_noMonitors u r
  refine Completes.of_exec hexec ⟨?_, ?_, fun m hm => ?_⟩
  · rw [settle_now, only.now, hnow]
  · rw [settle_reg_th, only.th, hth]
  · exact ((posted_noMonitors u r hm).of_subs (by rw [heng])).of_eng (settle_eng _)

/-- A guardband request is taken (R390). -/
def State.trimTaken (s : State) (r : Nat) : State := s.updTh r fun h => { h with trimmed := true, trimAt := s.now }

theorem exec_guardbandTrim {w : Word} (hready : s.sys.ready = true) (hr : s.hasReg r = true) (h : (s.rimg r).monitors = true)
    (hw : ufield w 16 16 ≠ 0x8000) (hat : (s.reg r).th.trimmed = false ∨ (s.reg r).th.trimAt + 10 * msT ≤ s.now) : exec (.guardbandTrim r w) s =
      let g := (clampI ((s.com.reg r).gb + sfield w 0 8) 12 50).toNat
      if g = ((s.trimTaken r).com.reg r).gb then done (s.trimTaken r) else done ((s.trimTaken r).stageFw (.guardband r g)) :=
  if_neg (not_or.2 ⟨ne_false_of_eq_true hready, not_or.2 ⟨ne_false_of_eq_true hr, not_or.2 ⟨ne_false_of_eq_true h, not_or.2 ⟨hw, fun hno =>
    hat.elim (fun h => Bool.noConfusion (h.symm.trans hno.1)) fun h => absurd hno.2 (Nat.not_lt.2 h)⟩⟩⟩⟩)

theorem guardbandTrim_completes {w : Word} (hready : s.sys.ready = true) (hr : s.hasReg r = true) (h : (s.rimg r).monitors = true)
    (hw : ufield w 16 16 ≠ 0x8000) (hat : (s.reg r).th.trimmed = false ∨ (s.reg r).th.trimAt + 10 * msT ≤ s.now) :
    Completes (.guardbandTrim r w) s fun t => (t.reg r).th.trimmed = true ∧ (t.reg r).th.trimAt = s.now ∧
      ((clampI ((s.com.reg r).gb + sfield w 0 8) 12 50).toNat ≠ (s.com.reg r).gb →
        t.HasStaged (.guardband r (clampI ((s.com.reg r).gb + sfield w 0 8) 12 50).toNat)) := by
  have hexec := exec_guardbandTrim hready hr h hw hat
  have hth := updTh_th s r fun h => { h with trimmed := true, trimAt := s.now }
  change ((s.trimTaken r).reg r).th = _ at hth
  have hcom : (s.trimTaken r).com = s.com := rfl
  generalize (clampI ((s.com.reg r).gb + sfield w 0 8) 12 50).toNat = g at *
  generalize s.trimTaken r = u at *
  dsimp only at hexec
  rw [hcom] at hexec
  by_cases hg : g = (s.com.reg r).gb
  · rw [if_pos hg] at hexec
    refine Completes.of_exec hexec ⟨?_, ?_, fun hne => absurd hg hne⟩ <;> rw [settle_reg_th, hth]
  · rw [if_neg hg] at hexec
    refine Completes.of_exec hexec ⟨?_, ?_, fun _ => stageFw_hasStaged _ _⟩ <;> rw [settle_reg_th, (only_stageFw _ _).th, hth]

/-! ### The hub guard (R368 to R371, R381) -/

/-- A good out0 value is kept by the hub guard. -/
def State.guardKept (s : State) (r : Nat) (td slope : Int) : State := s.updTh r fun h => { h with
  td := td, slope := slope, anchored := true, hostMax := maxO h.hostMax td, hostMin := minO h.hostMin td,
  coreMax := maxO h.coreMax td, coreMin := minO h.coreMin td, b5At := if slope ≤ 0 then s.now else h.b5At }

/-- An out0 value has come (R369). -/
def State.outputSeen (s : State) (r : Nat) : State := s.updTh r fun h => { h with out0At := s.now, stale := false }

theorem exec_hubGuard_calm {w : Word} (hr : s.hasReg r = true) (hb : s.hw.bstate ≠ .off) (hw : ufield w 16 16 ≠ 0x8000)
    (htd : sfield w 0 16 < shutLevel) (hslope : sfield w 16 16 ≤ 0) :
    exec (.hubGuardThermalInput r w) s = done ((s.outputSeen r).guardKept r (sfield w 0 16) (sfield w 16 16)) := by
  refine (if_pos ⟨hr, hb⟩).trans (congrArg done ((if_neg hw).trans ((if_neg (Int.not_le.2 htd)).trans (if_neg ?_))))
  exact fun hno => absurd hno.1 (Int.not_lt.2 hslope)

theorem hubGuard_calm_completes {w : Word} (hr : s.hasReg r = true) (hb : s.hw.bstate ≠ .off) (hw : ufield w 16 16 ≠ 0x8000)
    (htd : sfield w 0 16 < shutLevel) (hslope : sfield w 16 16 ≤ 0) : Completes (.hubGuardThermalInput r w) s fun t =>
      (t.reg r).th.td = sfield w 0 16 ∧ (t.reg r).th.slope = sfield w 16 16 ∧ (t.reg r).th.out0At = s.now ∧ (t.reg r).th.stale = false ∧
      (t.reg r).th.anchored = true ∧ (t.reg r).th.b5At = s.now ∧ t.hw.bstate = s.hw.bstate := by
  refine Completes.of_exec (exec_hubGuard_calm hr hb hw htd hslope) ?_
  rw [settle_reg_th, settle_hw_bstate, State.guardKept, updTh_th, State.outputSeen, updTh_th]
  exact ⟨rfl, rfl, rfl, rfl, rfl, if_pos hslope, rfl⟩

/-- Settles O52. -/
theorem thermalReadingsBandsAndOrdersComplete : Obligations.ThermalReadingsBandsAndOrdersComplete := by
  unfold Obligations.ThermalReadingsBandsAndOrdersComplete
  intro s r hready hr
  exact ⟨thstale_completes hready hr, lowconfQueue_completes hready hr,
    fun x h hrun hlow hx => diodeReading_good_completes hready h hrun hlow hx,
    fun x h hb hx hhigh => diodeReading_stops_completes h hb hx hhigh, fun x h hb hbad => diodeReading_bad_completes h hb hbad,
    fun a ha => tinletSubstitution_completes hready ha, bandEvaluation_completes hready, thermalRegionOrder_completes hready,
    fun a ha => thermalOrderRelease_completes hready ha, monitorRead_asks_completes hready hr, monitorRead_none_completes hready hr,
    monitorAnswer_completes, monitorAnswerTimeout_completes, fun w => guardbandTrim_completes hready hr,
    fun w hb hw htd hslope => hubGuard_calm_completes hr hb hw htd hslope⟩

end Sys2Proof.Machine
end

section
/-! SUPPORT. The steps and the ends of the stops (R382, R386, R459, R461), and the proof of the obligation about them. -/

namespace Sys2Proof.Machine

-- The joined text is checked under a memory limit that counts every thread's stack: one proof at a time.
set_option Elab.async false

variable {s t u : State} {r : Nat}

/-! ### The drain and the dark regions (R382) -/

theorem updSeq_reg_other (s : State) {r q : Nat} (f : SeqDyn → SeqDyn) (h : q ≠ r) : (s.updSeq r f).reg q = s.reg q := by
  rw [State.updSeq_eq, State.updReg_reg_other (h := h)]

theorem enterFalling_reg_other {q : Nat} (h : q ≠ r) : (enterFalling s r).reg q = s.reg q := by
  unfold enterFalling
  rw [reg_updStg, updSeq_reg_other _ _ h]

/-- LOWERING as it begins (R275). -/
def State.lowered (s : State) (r k : Nat) : State := s.updSeq r fun q => { q with
  st := .lowering, target := k, at_ := s.now, holding := false, heldAt := none, overdue := false, tag := none, ret := q.ret || decide (k = retentionCode),
  nextAt := if decide (k = retentionCode) then s.now + s.tretT r else s.now }

theorem enterLowering_eq (s : State) (r k : Nat) : enterLowering s r k =
    if ((s.lowered r k).reg r).seq.stages = 0 then enterFalling (s.lowered r k) r else s.lowered r k := rfl

theorem lowered_st (s : State) (r k : Nat) : ((s.lowered r k).reg r).seq.st = .lowering := by
  rw [State.lowered, updSeq_seq]

theorem lowered_reg_other {q : Nat} (h : q ≠ r) (k : Nat) : (s.lowered r k).reg q = s.reg q := updSeq_reg_other s _ h

theorem enterLowering_reg_other {q : Nat} (h : q ≠ r) (k : Nat) : (enterLowering s r k).reg q = s.reg q := by
  rw [enterLowering_eq]
  split
  · rw [enterFalling_reg_other h, lowered_reg_other h]
  · exact lowered_reg_other h k

/-- A region on its way down. -/
def State.Down (s : State) (r : Nat) : Prop := (s.reg r).seq.st = .dark ∨ (s.reg r).seq.st = .lowering ∨ (s.reg r).seq.st = .falling

theorem enterLowering_down (s : State) (r k : Nat) : (enterLowering s r k).Down r := by
  unfold State.Down
  rw [enterLowering_eq]
  split
  · rw [enterFalling_seq]
    exact .inr (.inr rfl)
  · rw [lowered_st]
    exact .inr (.inl rfl)

/-- A region that still drains is lowered (R382). -/
def State.drainEnd (s : State) (r : Nat) : State := if (s.reg r).seq.st = .fencing then enterLowering s r 0 else s

/-- A region that is not dark is lowered (R382). -/
def State.retDown (s : State) (r : Nat) : State := if (s.reg r).seq.st = .dark then s else enterLowering s r 0

theorem only_drainEnd (s : State) (r : Nat) : Only [.regs, .stg] s (s.drainEnd r) :=
  Only.ite _ (fun _ => only_enterLowering s r 0) fun _ => .refl _ _

theorem only_retDown (s : State) (r : Nat) : Only [.regs, .stg] s (s.retDown r) :=
  Only.ite _ (fun _ => .refl _ _) fun _ => only_enterLowering s r 0

theorem drainEnd_not_fencing (s : State) (r : Nat) : ((s.drainEnd r).reg r).seq.st ≠ .fencing := by
  unfold State.drainEnd
  split
  · rcases enterLowering_down s r 0 with h | h | h <;> rw [h] <;> decide
  · assumption

theorem drainEnd_reg_other {q : Nat} (h : q ≠ r) : (s.drainEnd r).reg q = s.reg q := by
  unfold State.drainEnd
  split
  · exact enterLowering_reg_other h 0
  · rfl

theorem retDown_down (s : State) (r : Nat) : (s.retDown r).Down r := by
  unfold State.retDown
  split
  · exact .inl ‹_›
  · exact enterLowering_down s r 0

theorem retDown_reg_other {q : Nat} (h : q ≠ r) : (s.retDown r).reg q = s.reg q := by
  unfold State.retDown
  split
  · rfl
  · exact enterLowering_reg_other h 0

/-- What one region's step establishes for it, and every other region's step leaves, holds of each region of the list at its end. -/
theorem foldl_region_holds {P : Region → Prop} {f : State → Nat → State} (hself : ∀ s r, P ((f s r).reg r))
    (hother : ∀ {s r q}, q ≠ r → (f s r).reg q = s.reg q) {q : Nat} : ∀ (l : List Nat) (u : State), (q ∈ l ∨ P (u.reg q)) → P ((l.foldl f u).reg q)
  | [], _, h => h.resolve_left List.not_mem_nil
  | r :: l, u, h => by
    refine foldl_region_holds hself hother l _ ?_
    by_cases hq : q = r
    · subst hq
      exact .inr (hself u q)
    · rw [hother hq]
      exact h.imp_left fun hmem => (List.mem_cons.1 hmem).resolve_left hq

/-- The drain is over. -/
def State.drained (s : State) : State := s.updSys fun y => { y with drainDone := true, stopStep := max y.stopStep 3 }

theorem exec_drainTimeout (hstop : s.sys.stop ≠ .none) (hcool : s.sys.stop ≠ .coolant) (hguard : s.com.guardStop = true) :
    exec .drainTimeout s =
      let u := (s.reach (s.sys.stopAt + 240000 * s.com.tdrain)).drained
      done (u.coreRegions.foldl State.drainEnd u) := if_pos ⟨hstop, hcool, hguard⟩

theorem drained_fields (s : State) : s.drained.now = s.now ∧ s.drained.sys.drainDone = true ∧ s.drained.sys.stopStep = max s.sys.stopStep 3 ∧
    s.drained.coreRegions = s.coreRegions := ⟨rfl, rfl, rfl, rfl⟩

theorem drainTimeout_completes (hstop : s.sys.stop ≠ .none) (hcool : s.sys.stop ≠ .coolant) (hguard : s.com.guardStop = true) :
    Completes .drainTimeout s fun t =>
      t.now = max s.now (s.sys.stopAt + 240000 * s.com.tdrain) ∧ t.sys.drainDone = true ∧ t.sys.stopStep = max s.sys.stopStep 3 ∧
      ∀ r ∈ s.coreRegions, (t.reg r).seq.st ≠ .fencing := by
  have hexec := exec_drainTimeout hstop hcool hguard
  obtain ⟨hnow, hdone, hstep, hcore⟩ := drained_fields (s.reach (s.sys.stopAt + 240000 * s.com.tdrain))
  have hcore' : (s.reach (s.sys.stopAt + 240000 * s.com.tdrain)).coreRegions = s.coreRegions := rfl
  dsimp only at hexec
  generalize (s.reach (s.sys.stopAt + 240000 * s.com.tdrain)).drained = u at *
  rw [hcore, hcore'] at hexec
  rw [State.reach_now] at hnow
  rw [State.reach_sys] at hstep
  have only : Only [.regs, .stg] u (s.coreRegions.foldl State.drainEnd u) := Only.foldl _ only_drainEnd _ _
  refine Completes.of_exec hexec ⟨?_, ?_, ?_, fun r hr => ?_⟩
  · rw [settle_now, only.now, hnow]
  · rw [settle_sys, only.sys, hdone]
  · rw [settle_sys, only.sys, hstep]
  · rw [settle_seq_st]
    exact foldl_region_holds (P := fun x => x.seq.st ≠ .fencing) drainEnd_not_fencing drainEnd_reg_other _ u (.inl hr)

/-- A running core writes back the ledger and takes the tallies. -/
def State.coreTakes (s : State) : State := if s.sys.coreRun then s.ledFlush.harvestTake else s

theorem only_coreTakes (s : State) : Only [.led, .flt] s s.coreTakes :=
  Only.ite _ (fun _ => ((only_ledFlush s).mono (by simp)).then (only_harvestTake _) (by simp)) fun _ => .refl _ _

theorem harvestTake_harvesting (s : State) : s.harvestTake.flt.harvesting = true := by
  unfold State.harvestTake
  split
  · assumption
  · rfl

theorem ledFlush_line (s : State) : ∀ x ∈ s.ledFlush.led.cache, x.dirty = true → x.ready = true → x.wb.isSome = true := by
  intro x hx hd hr
  obtain ⟨y, -, rfl⟩ := List.mem_map.1 hx
  split at hd
  · next hy => rw [if_pos hy]; rfl
  · next hy =>
    rw [if_neg hy] at hr ⊢
    rw [hd, hr] at hy
    simpa [Option.isSome_iff_ne_none] using hy

theorem coreTakes_harvesting (h : s.sys.coreRun = true) : s.coreTakes.flt.harvesting = true := by
  unfold State.coreTakes
  rw [if_pos h]
  exact harvestTake_harvesting _

theorem coreTakes_line (h : s.sys.coreRun = true) : ∀ x ∈ s.coreTakes.led.cache, x.dirty = true → x.ready = true → x.wb.isSome = true := by
  unfold State.coreTakes
  rw [if_pos h, (only_harvestTake _).led]
  exact ledFlush_line s

/-- The core regions are dark: step 5 (R382). -/
def State.coreDark (s : State) : State := s.updSys fun y => { y with stopStep := 5 }

/-- The regions on VRET. -/
def State.retRegions (s : State) : List Nat := s.regions.filter fun r => decide ((s.rimg r).rail = .vret)

theorem exec_stopRegionsDark (hstop : s.sys.stop ≠ .none) (hcool : s.sys.stop ≠ .coolant) (hguard : s.com.guardStop = true)
    (hstep : s.sys.stopStep < 5) (hdark : ∀ r ∈ s.coreRegions, (s.reg r).seq.st = .dark) :
    exec .stopRegionsDark s = done (s.coreDark.retRegions.foldl State.retDown s.coreDark).coreTakes :=
  if_pos ⟨hstop, hcool, hguard, hstep, List.all_eq_true.2 fun r hr => decide_eq_true (hdark r hr)⟩

theorem coreDark_fields (s : State) : s.coreDark.sys.stopStep = 5 ∧ s.coreDark.sys.coreRun = s.sys.coreRun ∧ s.coreDark.retRegions = s.retRegions :=
  ⟨rfl, rfl, rfl⟩

theorem stopRegionsDark_completes (hstop : s.sys.stop ≠ .none) (hcool : s.sys.stop ≠ .coolant) (hguard : s.com.guardStop = true)
    (hstep : s.sys.stopStep < 5) (hdark : ∀ r ∈ s.coreRegions, (s.reg r).seq.st = .dark) : Completes .stopRegionsDark s fun t =>
      t.sys.stopStep = 5 ∧ (s.sys.coreRun = true → t.flt.harvesting = true) ∧ (∀ r ∈ s.regions, (s.rimg r).rail = .vret → t.Down r) ∧
      (s.sys.coreRun = true → ∀ x ∈ t.led.cache, x.dirty = true → x.ready = true → x.wb.isSome = true) := by
  have hexec := exec_stopRegionsDark hstop hcool hguard hstep hdark
  obtain ⟨hfive, hrun, hret⟩ := coreDark_fields s
  generalize s.coreDark = u at *
  rw [hret] at hexec
  have only : Only [.regs, .stg] u (s.retRegions.foldl State.retDown u) := Only.foldl _ only_retDown _ _
  have hdown : ∀ r ∈ s.retRegions, (s.retRegions.foldl State.retDown u).Down r := fun r hr =>
    foldl_region_holds (P := fun x => x.seq.st = .dark ∨ x.seq.st = .lowering ∨ x.seq.st = .falling) retDown_down retDown_reg_other _ u (.inl hr)
  generalize s.retRegions.foldl State.retDown u = v at *
  have hrun' : v.sys.coreRun = s.sys.coreRun := by rw [only.sys, hrun]
  have takes := only_coreTakes v
  refine Completes.of_exec hexec ⟨?_, fun hr => ?_, fun r hr hrail => ?_, fun hr => ?_⟩
  · rw [settle_sys, takes.sys, only.sys, hfive]
  · rw [settle_flt_harvesting]
    exact coreTakes_harvesting (hrun'.trans hr)
  · unfold State.Down
    rw [settle_seq_st, takes.seqSt]
    exact hdown r (List.mem_filter.2 ⟨hr, decide_eq_true hrail⟩)
  · rw [settle_led]
    exact coreTakes_line (hrun'.trans hr)

/-! ### The rails down (R382, R459, R461) -/

/-- The rails of the converter are down. -/
def State.AllRailsDown (s : State) : Prop := ∀ x ∈ [Rail.vib, .vqa, .vqc], (s.rail x).st = .off ∨ (s.rail x).st = .fault

/-- The stop has ended with a halt latch. -/
def State.stopLatched (s : State) (k : Nat) : State := s.updSys fun y => { y with stop := .none, stopStep := 7, hkind := k }

theorem railsDown_all (h : s.AllRailsDown) :
    ([Rail.vib, .vqa, .vqc].all fun x => decide ((s.rail x).st = .off) || decide ((s.rail x).st = .fault)) = true :=
  List.all_eq_true.2 fun x hx => by
    rw [Bool.or_eq_true, decide_eq_true_eq, decide_eq_true_eq]
    exact h x hx

section
variable (hb : s.hw.bstate = .stopping) (hstep : s.sys.stopStep = 5) (hdown : s.AllRailsDown)
include hb hstep hdown

theorem exec_stopRailsDown_pdown (h : s.sys.stop = .pdown) : exec .stopRailsDown s = done ((s.stopLatched 6).setB .halted) := by
  refine (if_pos ⟨hb, hstep, railsDown_all hdown⟩).trans ?_
  rw [h]
  rfl

theorem exec_stopRailsDown_other (hpdown : s.sys.stop ≠ .pdown) (hwarm : s.sys.stop ≠ .warm) :
    exec .stopRailsDown s = done ((s.stopLatched 1).setB .halted) := by
  refine (if_pos ⟨hb, hstep, railsDown_all hdown⟩).trans ?_
  generalize hstop : s.sys.stop = k at *
  cases k with
  | pdown => exact absurd rfl hpdown
  | warm => exact absurd rfl hwarm
  | none | coolant | thermal | engine => rfl

theorem exec_stopRailsDown_warm (h : s.sys.stop = .warm) :
    exec .stopRailsDown s = done (if s.sys.coreRun then s.harvestTake.harvestDone true else s).warmReset := by
  refine (if_pos ⟨hb, hstep, railsDown_all hdown⟩).trans ?_
  rw [h]

end

/-- An orderly stop that has ended halts the block. -/
theorem stopLatched_completes {c : Instr} {k : Nat} (h : exec c s = done ((s.stopLatched k).setB .halted)) :
    Completes c s fun t => t.hw.bstate = .halted ∧ t.sys = { s.sys with stop := .none, stopStep := 7, hkind := k } := by
  refine Completes.of_exec h ⟨?_, ?_⟩
  · rw [settle_hw_bstate, setB_bstate]
  · rw [settle_sys, (only_setB _ _).sys]
    rfl

theorem warmFresh_sys (s : State) : s.warmFresh.sys.coreRun = false ∧ s.warmFresh.sys.stop = .none := ⟨rfl, rfl⟩

/-- A warm reset that finds no lasting halt latch starts in GUARD (R449, R459). -/
theorem warmReset_enters (h : s.sys.hkind = 0 ∨ s.sys.hkind = 4) :
    s.warmReset.hw.bstate = .guard_ ∧ s.warmReset.sys.step = 1 ∧ s.warmReset.sys.coreRun = false ∧ s.warmReset.sys.stop = .none ∧
    s.warmReset.now = s.now := by
  obtain ⟨hnow, hkind⟩ := warmFresh_fields s
  obtain ⟨hrun, hstop⟩ := warmFresh_sys s
  rw [warmReset_eq]
  generalize s.warmFresh = u at *
  rw [enterGuard_of_start (by rw [hkind]; exact h)]
  have power := only_powerLinks u
  generalize u.powerLinks = v at *
  obtain ⟨hb, -, hstep⟩ := guardEntered_fields v
  have hkept : v.guardEntered.sys = { v.sys with step := 1 } := by
    rw [State.guardEntered, (only_setB _ _).sys]
    rfl
  refine ⟨hb, hstep, ?_, ?_, ?_⟩
  · rw [hkept, power.sys, hrun]
  · rw [hkept, power.sys, hstop]
  · rw [(only_guardEntered v).now, power.now, hnow]

theorem stopRailsDown_warm_completes (hb : s.hw.bstate = .stopping) (hstep : s.sys.stopStep = 5) (hdown : s.AllRailsDown)
    (h : s.sys.stop = .warm) (hk : s.sys.hkind = 0 ∨ s.sys.hkind = 4) : Completes .stopRailsDown s fun t =>
      t.hw.bstate = .guard_ ∧ t.sys.step = 1 ∧ t.sys.coreRun = false ∧ t.sys.stop = .none ∧ t.now = s.now := by
  have hexec := exec_stopRailsDown_warm hb hstep hdown h
  have only : Only [.flt, .store] s (if s.sys.coreRun then s.harvestTake.harvestDone true else s) :=
    Only.ite _ (fun _ => ((only_harvestTake s).mono (by simp)).then (only_harvestDone _ true) (by simp)) fun _ => .refl _ _
  generalize (if s.sys.coreRun then s.harvestTake.harvestDone true else s) = u at *
  obtain ⟨hguard, hone, hrun, hstop, hnow⟩ := warmReset_enters (s := u) (by rw [only.sys]; exact hk)
  generalize u.warmReset = v at *
  refine Completes.of_exec hexec ?_
  rw [settle_hw_bstate, settle_sys, settle_now, hnow, only.now]
  exact ⟨hguard, hone, hrun, hstop, rfl⟩

/-! ### Coolant loss (R33, R384, R386) -/

/-- A coolant stop is on, with its tally. -/
def State.coolantLatched (s : State) : State :=
  (s.updSys fun y => { y with stop := .coolant, stopStep := 1, stopAt := s.now, hkind := 3 }).tally 9 0 3 1

theorem exec_coolantStop (hflow : s.ports.flowN = true) (hoff : s.hw.bstate ≠ .off) (hcool : s.sys.stop ≠ .coolant)
    (h : s.hw.bstate ≠ .halted ∨ s.sys.hkind = 0) : exec .coolantStop s =
      done ((darkAll (recordStop (s.reach (s.ports.flowAt + 50 * usT)) 3 3 0)).coolantLatched.setB .halted) := if_pos ⟨hflow, hoff, hcool, h⟩

theorem coolantLatched_sys (s : State) : s.coolantLatched.sys = { s.sys with stop := .coolant, stopStep := 1, stopAt := s.now, hkind := 3 } := rfl

theorem only_coolantLatched (s : State) : Only [.sys, .flt] s s.coolantLatched := ((only_updSys s _).mono (by simp)).then (only_tally ..) (by simp)

theorem recordStop_latched (s : State) (kind cause region : Nat) : (recordStop s kind cause region).sys.shLatched = true := rfl

theorem coolantStop_completes (hflow : s.ports.flowN = true) (hoff : s.hw.bstate ≠ .off) (hcool : s.sys.stop ≠ .coolant)
    (h : s.hw.bstate ≠ .halted ∨ s.sys.hkind = 0) : Completes .coolantStop s fun t =>
      t.now = max s.now (s.ports.flowAt + 50 * usT) ∧ t.sys.stop = .coolant ∧ t.sys.stopStep = 1 ∧ t.sys.stopAt = t.now ∧ t.sys.hkind = 3 ∧
      t.sys.shCause.getLsbD 3 = true ∧ t.sys.shLatched = true ∧ t.hw.bstate = .halted ∧ ∀ r ∈ s.regions, (t.reg r).seq.st = .dark := by
  have hexec := exec_coolantStop hflow hoff hcool h
  have hcause := recordStop_shCause (s.reach (s.ports.flowAt + 50 * usT)) 3 0 (cause := 3) (by decide)
  have hlatch := recordStop_latched (s.reach (s.ports.flowAt + 50 * usT)) 3 3 0
  have record := only_recordStop (s.reach (s.ports.flowAt + 50 * usT)) 3 3 0
  have hregions : (recordStop (s.reach (s.ports.flowAt + 50 * usT)) 3 3 0).regions = s.regions := rfl
  have hnow := record.now
  generalize recordStop (s.reach (s.ports.flowAt + 50 * usT)) 3 3 0 = u at *
  rw [State.reach_now] at hnow
  have dark := only_darkAll u
  have hdark : ∀ r ∈ s.regions, ((darkAll u).reg r).seq.st = .dark := fun r hr => darkAll_st (hregions.symm ▸ hr)
  generalize darkAll u = v at *
  have latch := only_coolantLatched v
  have hsys := coolantLatched_sys v
  rw [dark.now, hnow, dark.sys] at hsys
  generalize v.coolantLatched = w at *
  have set := only_setB w .halted
  have hset := setB_bstate w .halted
  have hend : (settle (w.setB .halted)).now = max s.now (s.ports.flowAt + 50 * usT) := by
    rw [settle_now, set.now, latch.now, dark.now, hnow]
  refine Completes.of_exec hexec ⟨hend, ?_, ?_, ?_, ?_, ?_, ?_, ?_, fun r hr => ?_⟩
  · rw [settle_sys, set.sys, hsys]
  · rw [settle_sys, set.sys, hsys]
  · rw [hend, settle_sys, set.sys, hsys]
  · rw [settle_sys, set.sys, hsys]
  · rw [settle_sys, set.sys, hsys]
    exact hcause
  · rw [settle_sys, set.sys, hsys]
    exact hlatch
  · rw [settle_hw_bstate, hset]
  · rw [settle_seq_st, set.seqSt, latch.seqSt]
    exact hdark r hr

/-- The rails go down as a coolant loss has it (R132, R386). -/
def State.railsCoolant (s : State) : State := ((s.railCoolant .vib).railCoolant .vqa).railCoolant .vqc

/-- The rails have begun to go down. -/
def State.railsStopped (s : State) : State := s.railsCoolant.updSys fun y => { y with stopStep := 3 }

/-- A coolant loss waits for the pans, at most 100 us. -/
def State.pansWaited (s : State) : State := if s.panKeys.all (fun n => !s.knownOn n) then s else s.reach (s.sys.stopAt + 100 * usT)

theorem exec_coolantRailStop (hstop : s.sys.stop = .coolant) (hstep : s.sys.stopStep < 3) :
    exec .coolantRailStop s = done s.pansWaited.railsStopped.coreTakes := if_pos ⟨hstop, hstep⟩

theorem railCoolant_other {x y : Rail} (h : y ≠ x) : (s.railCoolant x).rail y = s.rail y := by
  unfold State.railCoolant
  split
  case h_5 => rfl
  all_goals exact State.updRail_rail_other _ _ h

theorem railCoolant_off {x : Rail} (h : (s.rail x).st = .off) : s.railCoolant x = s := by
  unfold State.railCoolant
  rw [h]

theorem railCoolant_reg {x : Rail} (h : (s.rail x).st = .reg) : (s.railCoolant x).rail x = { s.rail x with
    st := .sramp, at_ := s.now, ref := (s.railRef x).toNat, rampT := min 50 (s.stopRamp x), watch := false, de := false } := by
  unfold State.railCoolant
  rw [h]
  exact State.updRail_rail_same ..

theorem stopRamp_congr (h : t.com = s.com) (x : Rail) : t.stopRamp x = s.stopRamp x := by
  cases x <;> simp only [State.stopRamp, h]

/-- A rail that regulates goes down in at most 5 ms; one that is off stays as it is. -/
theorem railsCoolant_rail (s : State) (x : Rail) :
    ((s.rail x).st = .reg → (s.railsCoolant.rail x).st = .sramp ∧ (s.railsCoolant.rail x).at_ = s.now ∧
      (s.railsCoolant.rail x).rampT = min 50 (s.stopRamp x)) ∧
    ((s.rail x).st = .off → s.railsCoolant.rail x = s.rail x) := by
  have hsingle : ∀ u : State, u.rail x = s.rail x → u.now = s.now → u.com = s.com →
      ((s.rail x).st = .reg → ((u.railCoolant x).rail x).st = .sramp ∧ ((u.railCoolant x).rail x).at_ = s.now ∧
        ((u.railCoolant x).rail x).rampT = min 50 (s.stopRamp x)) ∧
      ((s.rail x).st = .off → (u.railCoolant x).rail x = s.rail x) := by
    intro u hrail hnow hcom
    refine ⟨fun h => ?_, fun h => ?_⟩
    · rw [railCoolant_reg (hrail ▸ h), hnow, stopRamp_congr hcom]
      exact ⟨rfl, rfl, rfl⟩
    · rw [railCoolant_off (hrail ▸ h), hrail]
  have first := only_railCoolant s .vib
  have second := first.trans (only_railCoolant (s.railCoolant .vib) .vqa)
  unfold State.railsCoolant
  cases x with
  | vib =>
    rw [railCoolant_other (by decide), railCoolant_other (by decide)]
    exact hsingle s rfl rfl rfl
  | vqa =>
    rw [railCoolant_other (by decide)]
    exact hsingle _ (railCoolant_other (by decide)) first.now first.com
  | vqc => exact hsingle _ ((railCoolant_other (by decide)).trans (railCoolant_other (by decide))) second.now second.com

theorem only_railsCoolant (s : State) : Only [.conv] s s.railsCoolant :=
  ((only_railCoolant s _).trans (only_railCoolant _ _)).trans (only_railCoolant _ _)

theorem railsStopped_fields (s : State) : s.railsStopped.sys.stopStep = 3 ∧ s.railsStopped.now = s.now ∧
    s.railsStopped.sys.coreRun = s.sys.coreRun ∧ ∀ x, s.railsStopped.rail x = s.railsCoolant.rail x := by
  have only := only_railsCoolant s
  refine ⟨rfl, ?_, ?_, fun x => ?_⟩
  · rw [State.railsStopped, State.updSys_now, only.now]
  · rw [State.railsStopped, State.updSys_sys, ← only.sys]
  · rw [State.railsStopped, (only_updSys _ _).rail]

theorem pansWaited_fields (s : State) :
    s.pansWaited.now = (if s.panKeys.all (fun n => !s.knownOn n) = true then s.now else max s.now (s.sys.stopAt + 100 * usT)) ∧
    s.pansWaited.sys = s.sys ∧ s.pansWaited.conv = s.conv ∧ s.pansWaited.com = s.com := by
  unfold State.pansWaited
  by_cases h : s.panKeys.all (fun n => !s.knownOn n) = true
  · rw [if_pos h, if_pos h]
    exact ⟨rfl, rfl, rfl, rfl⟩
  · rw [if_neg h, if_neg h]
    exact ⟨rfl, rfl, rfl, rfl⟩

theorem rail_of_conv (h : t.conv = s.conv) (x : Rail) : t.rail x = s.rail x := by
  unfold State.rail
  rw [h]

theorem coolantRailStop_completes (hstop : s.sys.stop = .coolant) (hstep : s.sys.stopStep < 3) : Completes .coolantRailStop s fun t =>
    t.now = (if s.panKeys.all (fun n => !s.knownOn n) = true then s.now else max s.now (s.sys.stopAt + 100 * usT)) ∧ t.sys.stopStep = 3 ∧
      (∀ x, (s.rail x).st = .reg → (t.rail x).st = .sramp ∧ (t.rail x).at_ = t.now ∧ (t.rail x).rampT = min 50 (s.stopRamp x)) ∧
      (∀ x, (s.rail x).st = .off → t.rail x = s.rail x) ∧ (s.sys.coreRun = true → t.flt.harvesting = true) := by
  have hexec := exec_coolantRailStop hstop hstep
  obtain ⟨hnow, hsys, hconv, hcom⟩ := pansWaited_fields s
  generalize s.pansWaited = u at *
  obtain ⟨hthree, hkept, hrun, hrails⟩ := railsStopped_fields u
  have hrail := railsCoolant_rail u
  generalize u.railsStopped = v at *
  have takes := only_coreTakes v
  have hend : (settle v.coreTakes).now = u.now := by rw [settle_now, takes.now, hkept]
  refine Completes.of_exec hexec ⟨hend.trans hnow, ?_, fun x hx => ?_, fun x hx => ?_, fun hr => ?_⟩
  · rw [settle_sys, takes.sys, hthree]
  · rw [settle_rail, takes.rail, hrails, hend, ← stopRamp_congr hcom]
    exact (hrail x).1 (rail_of_conv hconv x ▸ hx)
  · rw [settle_rail, takes.rail, hrails, ← rail_of_conv hconv x]
    exact (hrail x).2 (rail_of_conv hconv x ▸ hx)
  · rw [settle_flt_harvesting]
    exact coreTakes_harvesting (hrun.trans (hsys ▸ hr))

/-- Settles O53. -/
theorem stopsRunDownToTheirEnd : Obligations.StopsRunDownToTheirEnd := by
  unfold Obligations.StopsRunDownToTheirEnd
  intro s
  exact ⟨drainTimeout_completes, stopRegionsDark_completes, fun hb hstep hdown =>
    ⟨fun h => stopLatched_completes (exec_stopRailsDown_pdown hb hstep hdown h),
      fun hp hw => stopLatched_completes (exec_stopRailsDown_other hb hstep hdown hp hw),
      fun h hk => stopRailsDown_warm_completes hb hstep hdown h hk⟩, coolantStop_completes, coolantRailStop_completes⟩

end Sys2Proof.Machine
end

section
/-! SUPPORT. The ledger's cache and its write-backs (R333 to R337), the harvests (R415), tally values and configuration saves, and the
proof of the obligation about them. -/

namespace Sys2Proof.Machine

-- The joined text is checked under a memory limit that counts every thread's stack: one proof at a time.
set_option Elab.async false

variable {s t u : State} {ctx : Nat} {x : LedLine}

/-! ### The cache (R334, R335) -/

/-- A change of a line that keeps its context is seen at that line. -/
theorem line_updLine {l : Ledger} (h : l.line ctx = some x) {f : LedLine → LedLine} (hf : ∀ y, (f y).ctx = y.ctx) :
    (l.updLine ctx f).line ctx = some (f x) := by
  have hfind : ∀ c : List LedLine, c.find? (fun x => decide (x.ctx = ctx)) = some x →
      (c.map fun x => if x.ctx = ctx then f x else x).find? (fun x => decide (x.ctx = ctx)) = some (f x) := by
    intro c
    induction c with
    | nil => exact fun h => nomatch h
    | cons y c ih =>
      intro h
      rw [List.find?_cons] at h
      rw [List.map_cons, List.find?_cons]
      by_cases hy : y.ctx = ctx
      · rw [decide_eq_true hy] at h
        obtain rfl := Option.some.inj h
        rw [if_pos hy, decide_eq_true ((hf y).trans hy)]
      · rw [decide_eq_false hy] at h
        rw [if_neg hy, decide_eq_false hy]
        exact ih h
  exact hfind l.cache h

theorem exec_ledgerWriteBack (h : s.led.line ctx = some x) (hd : x.dirty = true) (hr : x.ready = true) (hw : x.wb = none) :
    exec (.ledgerWriteBack ctx) s = done (s.updLed fun l => l.updLine ctx fun x => { x with wb := some x.ent }) := by
  change execLedgerWriteBack ctx s = _
  unfold execLedgerWriteBack
  rw [h]
  exact if_pos ⟨hd, hr, hw⟩

theorem ledgerWriteBack_completes (h : s.led.line ctx = some x) (hd : x.dirty = true) (hr : x.ready = true) (hw : x.wb = none) :
    Completes (.ledgerWriteBack ctx) s fun t => t.led.line ctx = some { x with wb := some x.ent } ∧ t.led.mem = s.led.mem := by
  refine Completes.of_exec (exec_ledgerWriteBack h hd hr hw) ?_
  rw [settle_led, State.updLed_led]
  exact ⟨line_updLine (f := fun x => { x with wb := some x.ent }) h fun _ => rfl, rfl⟩

/-- A write-back is stored (R335). -/
def State.lineStored (s : State) (ctx : Nat) (v : LedEnt) : State := s.updLed fun l =>
  { l.updLine ctx (fun x => { x with wb := none, failed := false, dirty := decide (x.ent ≠ v), changed := s.epoch.toNat }) with
    mem := l.mem.set {} ctx v }

/-- A write-back is not stored (R335). -/
def State.lineFailed (s : State) (ctx : Nat) : State := s.updLed fun l =>
  { l.updLine ctx (fun x => { x with wb := none, failed := true }) with fault := true, faultAt := s.now }

theorem exec_ledgerWriteComplete_ok {v : LedEnt} (h : s.led.line ctx = some x) (hv : x.wb = some v) : exec (.ledgerWriteComplete ctx true) s =
    done ((s.lineStored ctx v).updLed fun l => if l.st = 3 ∧ !(l.cache.any fun x => x.dirty) then { l with st := 0, cache := [] } else l) := by
  change execLedgerWriteComplete ctx true s = _
  unfold execLedgerWriteComplete
  rw [h]
  dsimp only
  rw [hv]
  rfl

theorem exec_ledgerWriteComplete_bad {v : LedEnt} (h : s.led.line ctx = some x) (hv : x.wb = some v) :
    exec (.ledgerWriteComplete ctx false) s = done (s.lineFailed ctx) := by
  change execLedgerWriteComplete ctx false s = _
  unfold execLedgerWriteComplete
  rw [h]
  dsimp only
  rw [hv]
  rfl

theorem ledgerWriteComplete_ok_completes {v : LedEnt} (h : s.led.line ctx = some x) (hv : x.wb = some v) (hst : s.led.st ≠ 3) :
    Completes (.ledgerWriteComplete ctx true) s fun t => t.led.mem.get {} ctx = v ∧
      t.led.line ctx = some { x with wb := none, failed := false, dirty := decide (x.ent ≠ v), changed := s.epoch.toNat } := by
  have hkeep : ¬ ((s.lineStored ctx v).led.st = 3 ∧ (!((s.lineStored ctx v).led.cache.any fun x => x.dirty)) = true) := fun hno => hst hno.1
  refine Completes.of_exec (exec_ledgerWriteComplete_ok h hv) ?_
  rw [settle_led, State.updLed_led, if_neg hkeep]
  exact ⟨Tbl.get_set_same .., line_updLine
    (f := fun x => { x with wb := none, failed := false, dirty := decide (x.ent ≠ v), changed := s.epoch.toNat }) h fun _ => rfl⟩

theorem ledgerWriteComplete_bad_completes {v : LedEnt} (h : s.led.line ctx = some x) (hv : x.wb = some v) :
    Completes (.ledgerWriteComplete ctx false) s fun t => t.led.fault = true ∧ t.led.faultAt = s.now ∧ t.led.mem = s.led.mem ∧
      t.led.line ctx = some { x with wb := none, failed := true } := by
  refine Completes.of_exec (exec_ledgerWriteComplete_bad h hv) ?_
  rw [settle_led]
  exact ⟨rfl, rfl, rfl, line_updLine (f := fun x => { x with wb := none, failed := true }) h fun _ => rfl⟩

/-- A fetched record added to what was charged since (R334). -/
def LedLine.fetched (e a k : Nat) (x : LedLine) : LedLine := { x with
  ready := true,
  ent := { energy := x.ent.energy + BitVec.ofNat 64 e, active := x.ent.active + BitVec.ofNat 32 a, kerfed := x.ent.kerfed + BitVec.ofNat 32 k } }

theorem ledgerFetchComplete_completes {e a k : Nat} (h : s.led.line ctx = some x) (hr : x.ready = false) :
    Completes (.ledgerFetchComplete ctx e a k) s fun t => t.led.line ctx = some (x.fetched e a k) := by
  have hexec : exec (.ledgerFetchComplete ctx e a k) s = done (s.updLed fun l => l.updLine ctx (LedLine.fetched e a k)) := by
    change execLedgerFetchComplete ctx e a k s = _
    unfold execLedgerFetchComplete
    rw [h]
    exact if_neg (ne_true_of_eq_false hr)
  refine Completes.of_exec hexec ?_
  rw [settle_led]
  exact line_updLine h fun _ => rfl

theorem ledgerQueryReady_completes (hst : s.led.qst = 1) (harmed : s.led.qArmed = true) : Completes .ledgerQueryReady s fun t =>
    t.led.qst = 2 ∧ t.led.qArmed = false ∧ t.led.qseq = s.led.qseq + 1 ∧ t.hw.intcause.getLsbD 4 = true := by
  have hexec : exec .ledgerQueryReady s = done ((s.updLed fun l => { l with qst := 2, qArmed := false, qseq := l.qseq + 1 }).cause 4) :=
    if_pos ⟨hst, harmed⟩
  refine Completes.of_exec hexec ⟨?_, ?_, ?_, settle_intcause _ 4 (cause_intcause _ (by decide))⟩ <;> rw [settle_led] <;> rfl

theorem ledgerClearComplete_completes (h : s.led.st = 1) : Completes .ledgerClearComplete s fun t =>
    t.led = { s.led with st := 2, clearPtr := 1048576 } := by
  have hexec : exec .ledgerClearComplete s = done (s.updLed fun l => { l with st := 2, clearPtr := 1048576 }) := if_pos h
  refine Completes.of_exec hexec ?_
  rw [settle_led]
  rfl

theorem ledfaultClear_completes (h : s.led.fault = true) : Completes .ledfaultClear s fun t =>
    t.now = max s.now (s.led.faultAt + msT) ∧ t.led.fault = false := by
  have hexec : exec .ledfaultClear s = done ((s.reach (s.led.faultAt + msT)).updLed fun l => { l with fault := false }) := if_pos h
  refine Completes.of_exec hexec ?_
  rw [settle_now, settle_led]
  exact ⟨rfl, rfl⟩

/-! ### Harvests (R415) -/

theorem harvestTake_idle (h : s.flt.harvesting = false) :
    s.harvestTake.flt.hseq = s.flt.hseq ∧ s.harvestTake.flt.tally = [] ∧ s.harvestTake.flt.totals = s.flt.totals := by
  unfold State.harvestTake
  rw [if_neg (ne_true_of_eq_false h)]
  exact ⟨rfl, rfl, rfl⟩

/-- One of the two records holds the totals under the sequence number. -/
def State.RecordHolds (s : State) : Prop :=
  (s.store.seqA = s.flt.hseq ∧ s.store.okA = true ∧ s.store.tallyA = s.flt.totals) ∨
    (s.store.seqB = s.flt.hseq ∧ s.store.okB = true ∧ s.store.tallyB = s.flt.totals)

theorem harvestDone_stored (h : s.flt.harvesting = true) :
    (s.harvestDone true).flt.hseq = s.flt.hseq + 1 ∧ (s.harvestDone true).flt.tally = s.flt.tally ∧ (s.harvestDone true).flt.taken = [] ∧
    (s.harvestDone true).flt.harvesting = false ∧ (s.harvestDone true).flt.talFault = false ∧ (s.harvestDone true).flt.harvestAt = s.epoch ∧
    (s.harvestDone true).RecordHolds := by
  unfold State.harvestDone
  rw [if_neg (ne_false_of_eq_true h), if_pos rfl]
  refine ⟨rfl, rfl, rfl, rfl, rfl, rfl, ?_⟩
  unfold State.RecordHolds
  dsimp only
  split
  · exact .inr ⟨rfl, rfl, rfl⟩
  · exact .inl ⟨rfl, rfl, rfl⟩

theorem harvestDone_failed (h : s.flt.harvesting = true) :
    (s.harvestDone false).flt.hseq = s.flt.hseq ∧ (s.harvestDone false).flt.tally = s.flt.tally ∧ (s.harvestDone false).flt.taken = s.flt.taken ∧
    (s.harvestDone false).flt.totals = s.flt.totals ∧ (s.harvestDone false).flt.harvesting = false ∧ (s.harvestDone false).flt.talFault = true ∧
    (s.harvestDone false).store = s.store := by
  unfold State.harvestDone
  rw [if_neg (ne_false_of_eq_true h), if_neg Bool.false_ne_true]
  exact ⟨rfl, rfl, rfl, rfl, rfl, rfl, rfl⟩

theorem exec_harvest (hrun : s.sys.coreRun = true) (hdue : s.flt.harvestAt.toNat + harvestEpochs ≤ s.epoch.toNat) (b : Bool) (ls : List Nat) :
    exec (.harvest b ls) s = done ((s.harvestTake.harvestDone b).clearFlags ls) :=
  (if_neg (ne_false_of_eq_true hrun)).trans (if_pos (.inr hdue))

theorem foldl_cleared {l : Nat} : ∀ (ls : List Nat) (u : State), (l ∈ ls ∨ (u.ldyn l).flags = 0) →
    ((ls.foldl (fun s l => s.updLdyn l fun d => { d with flags := 0 }) u).ldyn l).flags = 0
  | [], _, h => h.resolve_left List.not_mem_nil
  | k :: ls, u, h => by
    refine foldl_cleared ls _ ?_
    by_cases hl : l = k
    · subst hl
      exact .inr (by rw [State.updLdyn_ldyn_same])
    · rw [State.updLdyn_ldyn_other (h := hl)]
      exact h.imp_left fun hmem => (List.mem_cons.1 hmem).resolve_left hl

theorem clearFlags_flags {l : Nat} {ls : List Nat} (h : l ∈ ls) : ((s.clearFlags ls).ldyn l).flags = 0 := foldl_cleared ls s (.inl h)

theorem clearFlags_flt (s : State) (ls : List Nat) : (s.clearFlags ls).flt = s.flt := by
  unfold State.clearFlags
  induction ls generalizing s with
  | nil => rfl
  | cons l ls ih => exact ih _

theorem recordHolds_settle : (settle s).RecordHolds ↔ s.RecordHolds := by
  unfold State.RecordHolds
  rw [settle_store, settle_flt_hseq, settle_flt_totals]

theorem harvest_stored_completes (hrun : s.sys.coreRun = true) (hidle : s.flt.harvesting = false)
    (hdue : s.flt.harvestAt.toNat + harvestEpochs ≤ s.epoch.toNat) (ls : List Nat) : Completes (.harvest true ls) s fun t =>
      t.flt.hseq = s.flt.hseq + 1 ∧ t.flt.tally = [] ∧ t.flt.taken = [] ∧ t.flt.harvesting = false ∧ t.flt.talFault = false ∧
      t.flt.harvestAt = s.epoch ∧ t.RecordHolds ∧ ∀ l ∈ ls, (t.ldyn l).flags = 0 := by
  have hexec := exec_harvest hrun hdue true ls
  obtain ⟨htakenSeq, htally, -⟩ := harvestTake_idle hidle
  obtain ⟨hseq, hkept, htaken, hover, hfault, hat, hrecord⟩ := harvestDone_stored (harvestTake_harvesting s)
  have take := only_harvestTake s
  generalize s.harvestTake = u at *
  generalize u.harvestDone true = v at *
  have hflt := clearFlags_flt v ls
  have only := only_clearFlags v ls
  refine Completes.of_exec hexec ⟨?_, ?_, ?_, ?_, ?_, ?_, recordHolds_settle.2 ?_, fun l hl => ?_⟩
  · rw [settle_flt_hseq, hflt, hseq, htakenSeq]
  · rw [settle_flt_tally, hflt, hkept, htally]
  · rw [settle_flt_taken, hflt, htaken]
  · rw [settle_flt_harvesting, hflt, hover]
  · rw [settle_flt_talFault, hflt, hfault]
  · rw [settle_flt_harvestAt, hflt, hat, take.epoch]
  · unfold State.RecordHolds
    rw [hflt, only.store]
    exact hrecord
  · rw [settle_ldyn]
    exact clearFlags_flags hl

theorem harvest_failed_completes (hrun : s.sys.coreRun = true) (hidle : s.flt.harvesting = false)
    (hdue : s.flt.harvestAt.toNat + harvestEpochs ≤ s.epoch.toNat) (ls : List Nat) : Completes (.harvest false ls) s fun t =>
      t.flt.hseq = s.flt.hseq ∧ t.flt.tally = [] ∧ t.flt.totals = s.flt.totals ∧ t.flt.harvesting = false ∧ t.flt.talFault = true ∧
      t.store = s.store := by
  have hexec := exec_harvest hrun hdue false ls
  obtain ⟨htakenSeq, htally, htotals⟩ := harvestTake_idle hidle
  obtain ⟨hseq, hkept, -, hsame, hover, hfault, hstore⟩ := harvestDone_failed (harvestTake_harvesting s)
  have take := only_harvestTake s
  generalize s.harvestTake = u at *
  generalize u.harvestDone false = v at *
  have hflt := clearFlags_flt v ls
  have only := only_clearFlags v ls
  refine Completes.of_exec hexec ⟨?_, ?_, ?_, ?_, ?_, ?_⟩
  · rw [settle_flt_hseq, hflt, hseq, htakenSeq]
  · rw [settle_flt_tally, hflt, hkept, htally]
  · rw [settle_flt_totals, hflt, hsame, htotals]
  · rw [settle_flt_harvesting, hflt, hover]
  · rw [settle_flt_talFault, hflt, hfault]
  · rw [settle_store, only.store, hstore, take.store]

/-- A harvest begins again with the increments taken. -/
def State.harvestAgain (s : State) : State := s.updFlt fun f => { f with harvesting := true }

theorem exec_harvestRetry (hrun : s.sys.coreRun = true) (hfault : s.flt.talFault = true) (hidle : s.flt.harvesting = false) (b : Bool) :
    exec (.harvestRetry b) s = done (s.harvestAgain.harvestDone b) := if_pos ⟨hrun, hfault, hidle⟩

theorem harvestRetry_stored_completes (hrun : s.sys.coreRun = true) (hfault : s.flt.talFault = true) (hidle : s.flt.harvesting = false) :
    Completes (.harvestRetry true) s fun t =>
      t.flt.hseq = s.flt.hseq + 1 ∧ t.flt.taken = [] ∧ t.flt.talFault = false ∧ t.flt.tally = s.flt.tally := by
  obtain ⟨hseq, hkept, htaken, -, hclear, -⟩ := harvestDone_stored (s := s.harvestAgain) rfl
  refine Completes.of_exec (exec_harvestRetry hrun hfault hidle true) ?_
  rw [settle_flt_hseq, settle_flt_taken, settle_flt_talFault, settle_flt_tally, hseq, htaken, hclear, hkept]
  exact ⟨rfl, rfl, rfl, rfl⟩

theorem harvestRetry_failed_completes (hrun : s.sys.coreRun = true) (hfault : s.flt.talFault = true) (hidle : s.flt.harvesting = false) :
    Completes (.harvestRetry false) s fun t =>
      t.flt.hseq = s.flt.hseq ∧ t.flt.taken = s.flt.taken ∧ t.flt.talFault = true ∧ t.flt.harvesting = false := by
  obtain ⟨hseq, -, htaken, -, hover, hset, -⟩ := harvestDone_failed (s := s.harvestAgain) rfl
  refine Completes.of_exec (exec_harvestRetry hrun hfault hidle false) ?_
  rw [settle_flt_hseq, settle_flt_taken, settle_flt_talFault, settle_flt_harvesting, hseq, htaken, hset, hover]
  exact ⟨rfl, rfl, rfl, rfl⟩

/-! ### Tally values and configuration saves (R416, R461) -/

theorem exec_tallyValueReady (h : s.flt.talReady = false) : exec .tallyValueReady s = done (s.updFlt fun f => { f with
    talReady := true, talEp := s.tel.epoch, talGen := s.tel.gen,
    talVal := BitVec.ofNat 64 (s.tallyNow (tallyKey (ufield s.hw.talsel 16 6) (ufield s.hw.talsel 0 10) (ufield s.hw.talsel 10 4))) }) :=
  if_neg (ne_true_of_eq_false h)

theorem tallyValueReady_completes (h : s.flt.talReady = false) : Completes .tallyValueReady s fun t =>
    t.flt.talReady = true ∧ t.flt.talEp = s.tel.epoch ∧ t.flt.talGen = s.tel.gen ∧
      t.flt.talVal = BitVec.ofNat 64 (s.tallyNow (tallyKey (ufield s.hw.talsel 16 6) (ufield s.hw.talsel 0 10) (ufield s.hw.talsel 10 4))) := by
  refine Completes.of_exec (exec_tallyValueReady h) ?_
  rw [settle_flt_talReady, settle_flt_talEp, settle_flt_talGen, settle_flt_talVal, State.updFlt_flt]
  exact ⟨rfl, rfl, rfl, rfl⟩

theorem exec_cfgsave_failed (h : s.sys.cfgSaving = true) :
    exec (.cfgsaveComplete false) s = done (s.updSys fun y => { y with cfgSaving := false, cfgResult := 2 }) :=
  (if_neg (ne_false_of_eq_true h)).trans (if_pos rfl)

/-- The configuration is saved (R445, R498). -/
def State.configSaved (s : State) (inst : Tbl (Option Word)) (therm : Tbl CoefWord) : State :=
  { s with store := { s.store with inst := inst, instOk := true, therm := therm, thermOk := true, thermCfg := s.com.confthr + 256 * s.com.tinlet } }.updSys
    fun y => { y with cfgSaving := false, cfgResult := 1 }

theorem exec_cfgsave_stored (h : s.sys.cfgSaving = true) : ∃ inst therm, exec (.cfgsaveComplete true) s = done (s.configSaved inst therm) :=
  ⟨_, _, (if_neg (ne_false_of_eq_true h)).trans (if_neg (Ne.symm Bool.false_ne_true))⟩

theorem cfgsave_stored_completes (h : s.sys.cfgSaving = true) : Completes (.cfgsaveComplete true) s fun t =>
    t.sys = { s.sys with cfgSaving := false, cfgResult := 1 } ∧ t.store.instOk = true ∧ t.store.thermOk = true ∧
      t.store.thermCfg = s.com.confthr + 256 * s.com.tinlet := by
  obtain ⟨inst, therm, hexec⟩ := exec_cfgsave_stored h
  refine Completes.of_exec hexec ?_
  rw [settle_sys, settle_store]
  exact ⟨rfl, rfl, rfl, rfl⟩

theorem cfgsave_failed_completes (h : s.sys.cfgSaving = true) : Completes (.cfgsaveComplete false) s fun t =>
    t.sys = { s.sys with cfgSaving := false, cfgResult := 2 } ∧ t.store = s.store := by
  refine Completes.of_exec (exec_cfgsave_failed h) ?_
  rw [settle_sys, settle_store]
  exact ⟨rfl, rfl⟩

/-- Settles O54. -/
theorem ledgerAndTallyWorkCompletes : Obligations.LedgerAndTallyWorkCompletes := by
  unfold Obligations.LedgerAndTallyWorkCompletes
  intro s
  exact ⟨fun ctx x => ledgerWriteBack_completes, fun ctx x v => ledgerWriteComplete_ok_completes, fun ctx x v => ledgerWriteComplete_bad_completes,
    fun ctx x e a k => ledgerFetchComplete_completes, ledgerQueryReady_completes, ledgerClearComplete_completes, ledfaultClear_completes,
    fun hrun hidle hdue => ⟨harvest_stored_completes hrun hidle hdue, harvest_failed_completes hrun hidle hdue⟩,
    fun hrun hfault hidle => ⟨harvestRetry_stored_completes hrun hfault hidle, harvestRetry_failed_completes hrun hfault hidle⟩,
    tallyValueReady_completes, fun h => ⟨cfgsave_stored_completes h, cfgsave_failed_completes h⟩⟩

end Sys2Proof.Machine
end

section
/-! SUPPORT. The roll-up close and what follows it (R162 to R169, R244, R301), and the proof of the obligation about it. -/

namespace Sys2Proof.Machine

-- The joined text is checked under a memory limit that counts every thread's stack: one proof at a time.
set_option Elab.async false

variable {s t u : State} {r : Nat}

/-! ### What a closed roll-up keeps -/

/-- Every region keeps its charge, its running sum and the mark of its first roll-up. -/
def ChargeKept (s t : State) : Prop := ∀ q,
  (t.reg q).tel.inQ = (s.reg q).tel.inQ ∧ (t.reg q).tel.closed = (s.reg q).tel.closed ∧ (t.reg q).tel.charge = (s.reg q).tel.charge

theorem ChargeKept.refl (s : State) : ChargeKept s s := fun _ => ⟨rfl, rfl, rfl⟩

theorem ChargeKept.trans (h : ChargeKept s t) (g : ChargeKept t u) : ChargeKept s u := fun q => by
  obtain ⟨hin, hclosed, hcharge⟩ := h q
  obtain ⟨gin, gclosed, gcharge⟩ := g q
  exact ⟨gin.trans hin, gclosed.trans hclosed, gcharge.trans hcharge⟩

theorem Only.regTel {ps : List Part} (h : Only ps s t) (r : Nat) (hp : Part.regs ∉ ps := by simp) : (t.reg r).tel = (s.reg r).tel := by
  obtain ⟨-, -, -, -, htel, -⟩ : Region.kept (s.reg r) (t.reg r) := h.2 .regs hp r
  exact htel

theorem Only.chargeKept {ps : List Part} (h : Only ps s t) (hp : Part.regs ∉ ps := by simp) : ChargeKept s t := fun q => by
  rw [h.regTel q hp]
  exact ⟨rfl, rfl, rfl⟩

theorem ChargeKept.ite {c : Prop} [Decidable c] {a b : State} (ha : ChargeKept s a) (hb : ChargeKept s b) : ChargeKept s (if c then a else b) := by
  split
  · exact ha
  · exact hb

theorem ChargeKept.updReg (s : State) (r : Nat) {f : Region → Region} (hf : ∀ x, (f x).tel = x.tel) : ChargeKept s (s.updReg r f) := fun q => by
  by_cases hq : q = r
  · subst hq
    rw [State.updReg_reg_same, hf]
    exact ⟨rfl, rfl, rfl⟩
  · rw [State.updReg_reg_other (h := hq)]
    exact ⟨rfl, rfl, rfl⟩

theorem ChargeKept.updTel (s : State) (r : Nat) {f : TelDyn → TelDyn}
    (hf : ∀ x, (f x).inQ = x.inQ ∧ (f x).closed = x.closed ∧ (f x).charge = x.charge) : ChargeKept s (s.updTel r f) := fun q => by
  rw [State.updTel_eq]
  by_cases hq : q = r
  · subst hq
    rw [State.updReg_reg_same]
    exact hf _
  · rw [State.updReg_reg_other (h := hq)]
    exact ⟨rfl, rfl, rfl⟩

theorem ChargeKept.foldl {α : Type} {f : State → α → State} (h : ∀ s a, ChargeKept s (f s a)) : ∀ (l : List α) (s : State), ChargeKept s (l.foldl f s)
  | [], s => .refl s
  | a :: l, s => (h s a).trans (ChargeKept.foldl h l (f s a))

theorem ChargeKept.foldl_fst {α β : Type} {f : State × β → α → State × β} (h : ∀ x a, ChargeKept x.1 (f x a).1) :
    ∀ (l : List α) (x : State × β), ChargeKept x.1 (l.foldl f x).1
  | [], x => .refl x.1
  | a :: l, x => (h x a).trans (ChargeKept.foldl_fst h l (f x a))

theorem fillSnaps_chargeKept (s : State) : ChargeKept s s.fillSnaps := by
  unfold State.fillSnaps
  dsimp only
  refine (only_updDie s _).chargeKept.trans (.foldl (fun s r => ?_) _ _)
  exact .updTel s r fun _ => ⟨rfl, rfl, rfl⟩

theorem rollTally_chargeKept (s : State) (r : Nat) : ChargeKept s (s.rollTally r) := by
  unfold State.rollTally
  dsimp only
  refine ChargeKept.trans ?_ (.updReg _ r fun _ => rfl)
  split
  · exact ((only_tally s _ _ _ _).trans (only_tally _ _ _ _ _)).chargeKept
  · exact (only_tally s _ _ _ _).chargeKept

theorem rollSlots_chargeKept (s : State) (r : Nat) : ChargeKept s (s.rollSlots r) := by
  have hslots : ∀ u : State, Only [.eng] s u → ∀ b : Bool,
      ChargeKept s (if b then u.slotWrite (.activity r) 0xFFFFFFFF u.cke else u) := fun u only b =>
    (Only.ite _ (fun _ => only.trans (only_slotWrite ..)) fun _ => only : Only [.eng] s _).chargeKept
  unfold State.rollSlots
  dsimp only
  split <;> refine ChargeKept.trans ?_ (.updReg _ r fun _ => rfl)
  · exact hslots _ ((only_slotWrite s ..).trans (only_slotWrite _ _ _ _)) _
  · refine ChargeKept.trans ?_ (.updReg _ r fun _ => rfl)
    exact hslots _ ((only_slotWrite s ..).trans (only_slotWrite _ _ _ _)) _

/-- The attribution of one roll-up to its contexts (R332 to R334), with its frame. -/
def ledgerCharge : { f : State → State // ∀ s, Only [.regs, .led] s (f s) } := ⟨_, only_attribute⟩

theorem ledgerCharge_chargeKept (s : State) : ChargeKept s (ledgerCharge.1 s) := by
  have hseen : ChargeKept s (s.regions.foldl (fun s r => s.updTel r fun t => { t with ledSeen := t.visible }) s) := by
    refine .foldl (fun s r => ?_) _ _
    exact .updTel s r fun _ => ⟨rfl, rfl, rfl⟩
  refine ChargeKept.ite hseen ?_
  refine ChargeKept.trans ?_ (only_updLed _ _).chargeKept
  refine ChargeKept.trans ?_ (.foldl (fun s a => ?_) _ _)
  · refine ChargeKept.trans ?_ (only_ledReady _ 1).chargeKept
    refine ChargeKept.trans hseen (ChargeKept.foldl_fst (fun x a => ?_) _ (_, _))
    split
    · dsimp only
      split <;> exact (only_ledReady x.1 a).chargeKept
    · exact .refl _
  · dsimp only
    split
    · exact .refl _
    · exact (only_updLed s _).chargeKept

/-! ### The roll-up close (R162 to R164) -/

/-- A region's roll-up is closed: its charge is `c` and its running sum starts again. -/
def State.Rolled (s : State) (q : Nat) (c : BitVec 64) : Prop := (s.reg q).tel.inQ = 0 ∧ (s.reg q).tel.closed = true ∧ (s.reg q).tel.charge = c

theorem State.Rolled.kept {q : Nat} {c : BitVec 64} (h : s.Rolled q c) (k : ChargeKept s t) : t.Rolled q c := by
  obtain ⟨hin, hclosed, hcharge⟩ := k q
  obtain ⟨gin, gclosed, gcharge⟩ := h
  exact ⟨hin.trans gin, hclosed.trans gclosed, hcharge.trans gcharge⟩

theorem updDie_reg (s : State) (f : DieTel → DieTel) (r : Nat) : (s.updDie f).reg r = s.reg r := rfl

theorem rollRegion_self (s : State) (r : Nat) : (s.rollRegion r).Rolled r ((s.reg r).tel.charge + (s.reg r).tel.inQ.setWidth 64) := by
  unfold State.Rolled State.rollRegion
  dsimp only
  rw [State.updUse_eq, State.updReg_reg_same, updDie_reg, State.updTel_eq, State.updReg_reg_same, BitVec.ofNat_toNat]
  exact ⟨rfl, rfl, rfl⟩

theorem rollRegion_other {q : Nat} (h : q ≠ r) : (s.rollRegion r).reg q = s.reg q := by
  unfold State.rollRegion
  dsimp only
  rw [State.updUse_eq, State.updReg_reg_other (h := h), updDie_reg, State.updTel_eq, State.updReg_reg_other (h := h)]

/-- A region whose roll-up is closed once keeps its charge when the list names it again. -/
theorem foldl_rollRegion {q : Nat} {c : BitVec 64} : ∀ (l : List Nat) (u : State),
    (q ∈ l ∧ (u.reg q).tel.charge + (u.reg q).tel.inQ.setWidth 64 = c ∨ u.Rolled q c) → (l.foldl State.rollRegion u).Rolled q c
  | [], _, h => h.resolve_left fun hno => List.not_mem_nil hno.1
  | r :: l, u, h => by
    rw [List.foldl_cons]
    refine foldl_rollRegion l _ ?_
    by_cases hq : q = r
    · subst hq
      have hroll := rollRegion_self u q
      rcases h with ⟨-, hc⟩ | ⟨hin, -, hcharge⟩
      · rw [hc] at hroll
        exact .inr hroll
      · have hzero : (0 : BitVec 40).setWidth 64 = 0#64 := rfl
        rw [hin, hcharge, hzero, BitVec.add_zero] at hroll
        exact .inr hroll
    · unfold State.Rolled
      rw [rollRegion_other hq]
      exact h.imp_left fun hmem => ⟨(List.mem_cons.1 hmem.1).resolve_left hq, hmem.2⟩

/-- The figures of the die that a roll-up close reads. -/
theorem rollRegion_die (s : State) (r : Nat) : (s.rollRegion r).tel.rollups = s.tel.rollups ∧ (s.rollRegion r).tel.genWas = s.tel.genWas := ⟨rfl, rfl⟩

theorem foldl_rollRegion_die : ∀ (l : List Nat) (u : State),
    (l.foldl State.rollRegion u).tel.rollups = u.tel.rollups ∧ (l.foldl State.rollRegion u).tel.genWas = u.tel.genWas
  | [], _ => ⟨rfl, rfl⟩
  | r :: l, u => by
    obtain ⟨hn, hg⟩ := foldl_rollRegion_die l (u.rollRegion r)
    obtain ⟨kn, kg⟩ := rollRegion_die u r
    rw [List.foldl_cons, hn, hg]
    exact ⟨kn, kg⟩

theorem rollConv_die (s : State) :
    s.rollConv.tel.rollups = s.tel.rollups ∧ s.rollConv.tel.genWas = s.tel.genWas ∧ s.rollConv.free = s.free + 1 := ⟨rfl, rfl, rfl⟩

/-- The epoch that closes is noted. -/
def State.rollNoted (s : State) : State := s.updDie fun d => { d with epoch := s.epoch - 1, gen := d.genWas, closed := true, rollups := d.rollups + 1 }

/-- Every region's roll-up taken, with the converter's. -/
def State.rolledUp (s : State) : State := (s.regions.foldl State.rollRegion s).rollConv.rollNoted

theorem only_rolledUp (s : State) : Only [.regs, .tel, .free, .conv] s s.rolledUp :=
  (((Only.foldl _ only_rollRegion _ s).mono (by simp)).then (only_rollConv _) (by simp)).then (only_updDie _ _) (by simp)

theorem rolledUp_rolled {q : Nat} (h : q ∈ s.regions) : s.rolledUp.Rolled q ((s.reg q).tel.charge + (s.reg q).tel.inQ.setWidth 64) :=
  (foldl_rollRegion s.regions s (.inl ⟨h, rfl⟩)).kept
    ((only_rollConv _).chargeKept.trans (only_updDie _ _ : Only [.tel] _ (State.rollNoted _)).chargeKept)

theorem rollNoted_die (s : State) : s.rollNoted.tel.closed = true ∧ s.rollNoted.tel.epoch = s.epoch - 1 ∧ s.rollNoted.tel.gen = s.tel.genWas ∧
    s.rollNoted.tel.rollups = s.tel.rollups + 1 ∧ s.rollNoted.free = s.free := ⟨rfl, rfl, rfl, rfl, rfl⟩

theorem rolledUp_die (s : State) : s.rolledUp.tel.closed = true ∧ s.rolledUp.tel.epoch = s.epoch - 1 ∧ s.rolledUp.tel.gen = s.tel.genWas ∧
    s.rolledUp.tel.rollups = s.tel.rollups + 1 ∧ s.rolledUp.free = s.free + 1 := by
  have roll : Only [.regs, .tel] s (s.regions.foldl State.rollRegion s) := Only.foldl _ only_rollRegion _ s
  obtain ⟨hn, hg⟩ := foldl_rollRegion_die s.regions s
  unfold State.rolledUp
  generalize s.regions.foldl State.rollRegion s = v at *
  obtain ⟨kn, kg, kfree⟩ := rollConv_die v
  have conv := only_rollConv v
  generalize v.rollConv = w at *
  obtain ⟨hclosed, hepoch, hgen, hroll, hfree⟩ := rollNoted_die w
  refine ⟨hclosed, ?_, ?_, ?_, ?_⟩
  · rw [hepoch, conv.epoch, roll.epoch]
  · rw [hgen, kg, hg]
  · rw [hroll, kn, hn]
  · rw [hfree, kfree, roll.free]

/-- The snapshots filled leave the figures of the die. -/
theorem fillSnaps_die (s : State) : s.fillSnaps.tel.closed = s.tel.closed ∧ s.fillSnaps.tel.epoch = s.tel.epoch ∧
    s.fillSnaps.tel.gen = s.tel.gen ∧ s.fillSnaps.tel.rollups = s.tel.rollups := by
  unfold State.fillSnaps
  dsimp only
  rw [(Only.foldl _ (fun s (r : Nat) => only_updTel s r _) _ _ : Only [.regs] _ _).tel]
  exact ⟨rfl, rfl, rfl, rfl⟩

/-- The estimators' condition after a roll-up (R305). -/
def State.staleNoted (s : State) : State := s.updBud fun b => { b with staleest := s.regions.any fun r => (s.reg r).krf.staleEst }

/-- What a roll-up counts (R411). -/
def State.rollCounted (s : State) : State := (s.regions.foldl State.rollTally s).tally 0x0A 0 4 1

/-- What a roll-up places (R180, R305). -/
def State.rollPlaced (s : State) : State := s.regions.foldl State.rollSlots s

/-- What a roll-up counts, places and charges after its snapshots. -/
def State.rollSpread (s : State) : State := (ledgerCharge.1 s.rollCounted.rollPlaced.staleNoted).queryTake

theorem only_rollSpread (s : State) : Only [.regs, .flt, .eng, .bud, .led] s s.rollSpread :=
  ((((((Only.foldl _ only_rollTally _ s).mono (by simp)).then (only_tally _ _ _ _ _) (by simp)).then (Only.foldl _ only_rollSlots _ _) (by simp)).then
    (only_updBud _ _) (by simp)).then (ledgerCharge.2 _) (by simp)).then (only_queryTake _) (by simp)

theorem rollSpread_chargeKept (s : State) : ChargeKept s s.rollSpread :=
  (((((ChargeKept.foldl rollTally_chargeKept _ s).trans (only_tally _ _ _ _ _).chargeKept).trans (.foldl rollSlots_chargeKept _ _)).trans
    (only_updBud _ _ : Only [.bud] _ (State.staleNoted _)).chargeKept).trans (ledgerCharge_chargeKept _)).trans (only_queryTake _).chargeKept

theorem exec_rollupClose (hc : s.tel.closed = false) (he : s.epoch ≠ 0) :
    exec .rollupClose s = done (s.reach (s.epochAt + 1024 * cksT)).rolledUp.fillSnaps.rollSpread := by
  change execRollupClose s = _
  unfold execRollupClose
  rw [if_neg (not_or.2 ⟨ne_true_of_eq_false hc, he⟩)]
  extract_lets s1 s2 s3 s4 s5 s6 s7 s8 s9
  have hreach : s1 = s.reach (s.epochAt + 1024 * cksT) := rfl
  have hrolled : s4 = s1.rolledUp := rfl
  have hfilled : s5 = s4.fillSnaps := rfl
  have hcounted : s7 = s5.rollCounted := rfl
  have hplaced : s8 = s7.rollPlaced := rfl
  have hstale : s9 = s8.staleNoted := rfl
  clear_value s9 s8 s7 s6 s5 s4 s3 s2 s1
  unfold State.rollSpread
  rw [← hreach, ← hrolled, ← hfilled, ← hcounted, ← hplaced, ← hstale]
  rfl

theorem rollupClose_does (hc : s.tel.closed = false) (he : s.epoch ≠ 0) : Does .rollupClose s (partsOf .rollupClose) fun t =>
    t.now = max s.now (s.epochAt + 1024 * cksT) ∧ t.tel.closed = true ∧ t.tel.epoch = s.epoch - 1 ∧ t.tel.gen = s.tel.genWas ∧
      t.tel.rollups = s.tel.rollups + 1 ∧ t.free = s.free + 1 ∧
      ∀ r ∈ s.regions, t.Rolled r ((s.reg r).tel.charge + (s.reg r).tel.inQ.setWidth 64) := by
  have hexec := exec_rollupClose hc he
  have only := only_rolledUp (s.reach (s.epochAt + 1024 * cksT))
  have hnow := only.now
  obtain ⟨hclosed, hepoch, hgen, hroll, hfree⟩ := rolledUp_die (s.reach (s.epochAt + 1024 * cksT))
  have hrolled := fun r (hr : r ∈ s.regions) => rolledUp_rolled (s := s.reach (s.epochAt + 1024 * cksT)) hr
  generalize (s.reach (s.epochAt + 1024 * cksT)).rolledUp = u at *
  rw [State.reach_now] at hnow
  rw [State.reach_epoch] at hepoch
  rw [State.reach_tel] at hgen hroll
  rw [State.reach_free] at hfree
  obtain ⟨kclosed, kepoch, kgen, kroll⟩ := fillSnaps_die u
  have snap := only_fillSnaps u
  have ksnap := fillSnaps_chargeKept u
  generalize u.fillSnaps = v at *
  have spread := only_rollSpread v
  have kspread := rollSpread_chargeKept v
  generalize v.rollSpread = w at *
  refine Completes.of_exec hexec ⟨?_, ?_, ?_, ?_, ?_, ?_, fun r hr => ?_⟩
  · rw [settle_now, spread.now, snap.now, hnow]
  · rw [settle_tel, spread.tel, kclosed, hclosed]
  · rw [settle_tel, spread.tel, kepoch, hepoch]
  · rw [settle_tel, spread.tel, kgen, hgen]
  · rw [settle_tel, spread.tel, kroll, hroll]
  · rw [settle_free, spread.free, snap.free, hfree]
  · exact (hrolled r hr).kept ((ksnap.trans kspread).trans (settle_kept w).only.chargeKept)

theorem rollupClose_again_does (h : s.tel.closed = true) : Does .rollupClose s [] fun _ => True := by
  have hexec : exec .rollupClose s = done s := if_pos (.inl h)
  exact Does.of_done hexec trivial (.refl _ _)

/-! ### The calibration window (R244, R291, R297, R311) -/

theorem Only.use {ps : List Part} (h : Only ps s t) (r : Nat) (hp : Part.regs ∉ ps := by simp) : (t.reg r).use = (s.reg r).use := by
  obtain ⟨-, -, -, -, -, huse, -⟩ : Region.kept (s.reg r) (t.reg r) := h.2 .regs hp r
  exact huse

theorem updUse_use (s : State) (r : Nat) (f : UseDyn → UseDyn) : ((s.updUse r f).reg r).use = f (s.reg r).use := by
  rw [State.updUse_eq, State.updReg_reg_same]

theorem updUse_reg_other (s : State) {r q : Nat} (f : UseDyn → UseDyn) (h : q ≠ r) : (s.updUse r f).reg q = s.reg q := by
  rw [State.updUse_eq, State.updReg_reg_other (h := h)]

/-- A region's sums of the window restart. -/
def State.UseRestarted (s : State) (r : Nat) : Prop := (s.reg r).use.sumE = 0 ∧ (s.reg r).use.wInc = false

theorem closeUse_restarted (s : State) (r : Nat) : (s.closeUse r).UseRestarted r := by
  unfold State.UseRestarted State.closeUse
  dsimp only
  rw [(only_fwPlace ..).use, (only_fwPlace ..).use, updUse_use]
  exact ⟨rfl, rfl⟩

theorem closeUse_use_other {q : Nat} (h : q ≠ r) : ((s.closeUse r).reg q).use = (s.reg q).use := by
  unfold State.closeUse
  dsimp only
  rw [(only_fwPlace ..).use, (only_fwPlace ..).use, updUse_reg_other _ _ h]

theorem foldl_closeUse {q : Nat} : ∀ (l : List Nat) (u : State), (q ∈ l ∨ u.UseRestarted q) → (l.foldl State.closeUse u).UseRestarted q
  | [], _, h => h.resolve_left List.not_mem_nil
  | r :: l, u, h => by
    refine foldl_closeUse l _ ?_
    by_cases hq : q = r
    · subst hq
      exact .inr (closeUse_restarted u q)
    · unfold State.UseRestarted
      rw [closeUse_use_other hq]
      exact h.imp_left fun hmem => (List.mem_cons.1 hmem).resolve_left hq

/-- A window's sums of the die restart. -/
def State.windowRestarted (s : State) : State :=
  s.updDie fun d => { d with rollups := 0, winV := [], winI := [], winVin := 0, winE := d.convFine }

theorem exec_calibrationWindowClose (hn : 125 ≤ s.tel.rollups) (hready : s.sys.ready = true) :
    ∃ v, exec .calibrationWindowClose s = done v.windowRestarted ∧ Only [.bud, .flt, .ports] (s.regions.foldl State.closeUse s) v := by
  change ∃ v, execCalibrationWindowClose s = _ ∧ _
  unfold execCalibrationWindowClose
  rw [if_neg (not_or.2 ⟨Nat.not_lt.2 hn, ne_false_of_eq_true hready⟩)]
  extract_lets e vret qa qc conv deliv s1 above s2 case1 s3 rails s4
  have h12 : Only [.bud] s1 s2 := only_updBud _ _
  have h23 : Only [.bud, .flt] s2 s3 := Only.ite _ (fun _ => ((only_updBud _ _).mono (by simp)).then (only_capRise _) (by simp))
    fun _ => Only.ite _ (fun _ => (only_updBud _ _).mono (by simp)) fun _ => .refl _ _
  have h34 : Only [.ports] s3 s4 := only_updPorts _ _
  exact ⟨s4, rfl, ((h12.mono (by simp)).then h23 (by simp)).then h34 (by simp)⟩

theorem calibrationWindowClose_does (hn : 125 ≤ s.tel.rollups) (hready : s.sys.ready = true) :
    Does .calibrationWindowClose s (partsOf .calibrationWindowClose) fun t =>
      t.tel = { s.tel with rollups := 0, winV := [], winI := [], winVin := 0, winE := s.tel.convFine } ∧ ∀ r ∈ s.regions, t.UseRestarted r := by
  obtain ⟨v, hexec, only⟩ := exec_calibrationWindowClose hn hready
  have close : Only [.eng, .regs] s (s.regions.foldl State.closeUse s) := Only.foldl _ only_closeUse _ s
  have hclose : ∀ r ∈ s.regions, (s.regions.foldl State.closeUse s).UseRestarted r := fun r hr => foldl_closeUse _ s (.inl hr)
  generalize s.regions.foldl State.closeUse s = u at *
  have only' := only_updDie v fun d => { d with rollups := 0, winV := [], winI := [], winVin := 0, winE := d.convFine }
  refine Completes.of_exec hexec ⟨?_, fun r hr => ?_⟩
  · rw [settle_tel, State.windowRestarted, State.updDie_tel, only.tel, close.tel]
  · unfold State.UseRestarted
    rw [settle_reg_use, State.windowRestarted, only'.use, only.use]
    exact hclose r hr

/-! ### Recomputation (R301) -/

/-- The minimums exceed what the reserve leaves of the cap (R301). -/
def Budget.minsExceed (c : CBudget) : Bool := decide (c.cap - c.reserve < c.minC + c.minM + c.minL)

theorem exec_allowanceRecomputation (hready : s.sys.ready = true) (hb : s.service = true) : exec .allowanceRecomputation s =
    let u := s.updBud fun x => { x with shortmin := Budget.minsExceed (recompute s s.com).bud }
    if s.recompWrites = [] ∧ recompute s s.com = u.com then done u else done (u.stageSet (.recompute :: s.recompWrites)) :=
  if_neg (not_or.2 ⟨ne_false_of_eq_true hready, ne_false_of_eq_true hb⟩)

theorem allowanceRecomputation_same_does (hready : s.sys.ready = true) (hb : s.service = true) (hw : s.recompWrites = [])
    (hc : recompute s s.com = s.com) : Does .allowanceRecomputation s [.bud] fun _ => True := by
  have hexec := exec_allowanceRecomputation hready hb
  dsimp only at hexec
  rw [State.updBud_com, if_pos ⟨hw, hc⟩] at hexec
  exact Does.of_done hexec trivial (only_updBud s _)

theorem allowanceRecomputation_staged_does (hready : s.sys.ready = true) (hb : s.service = true) (hw : s.recompWrites = [])
    (hc : recompute s s.com ≠ s.com) : Does .allowanceRecomputation s [.stg, .bud, .ports] fun t => t.HasStaged .recompute := by
  have hexec := exec_allowanceRecomputation hready hb
  dsimp only at hexec
  rw [State.updBud_com, if_neg fun hno => hc hno.2, hw] at hexec
  exact Does.of_done hexec (hasStaged_settle.2 (stageSet_first fun b hb => absurd hb List.not_mem_nil))
    (((only_updBud s _).mono (by simp)).then (only_stageSet _ _) (by simp))

/-! ### Snapshots (R168) -/

/-- A filled slot as it becomes ready. -/
def Snap.ready (x : Snap) (now : Nat) : Snap := { x with st := 2, filling := false, againAt := (now / cksT + 1) * cksT, seq := x.seq + 1 }

/-- A slot's snapshot becomes ready. -/
def State.snapReady (s : State) (slot : Nat) : State := s.updDie fun d => { d with snaps := d.snaps.set {} slot ((s.tel.snaps.get {} slot).ready s.now) }

theorem exec_snapshotReady {slot : Nat} (hf : (s.tel.snaps.get {} slot).filling = true) (hg : (s.tel.snaps.get {} slot).got = true) :
    exec (.snapshotReady slot) s = if slot = 4 then done (s.snapReady slot) else done ((s.snapReady slot).cause 3) :=
  if_neg (not_or.2 ⟨ne_false_of_eq_true hf, ne_false_of_eq_true hg⟩)

/-- The slot alone has changed. -/
def State.SnapBecomes (s : State) (slot : Nat) (t : State) : Prop :=
  t.tel.snaps.get {} slot = (s.tel.snaps.get {} slot).ready s.now ∧ ∀ k, k ≠ slot → t.tel.snaps.get {} k = s.tel.snaps.get {} k

theorem snapReady_snaps (s : State) (slot : Nat) :
    (s.snapReady slot).tel.snaps = s.tel.snaps.set {} slot ((s.tel.snaps.get {} slot).ready s.now) := rfl

theorem snapReady_becomes (s : State) (slot : Nat) : s.SnapBecomes slot (s.snapReady slot) := by
  unfold State.SnapBecomes
  rw [snapReady_snaps]
  exact ⟨Tbl.get_set_same .., fun _ hk => Tbl.get_set_other _ _ _ hk⟩

theorem State.SnapBecomes.of_tel {slot : Nat} (h : s.SnapBecomes slot t) (htel : u.tel = t.tel) : s.SnapBecomes slot u := by
  unfold State.SnapBecomes
  rw [htel]
  exact h

theorem snapshotReady_does {slot : Nat} (hf : (s.tel.snaps.get {} slot).filling = true) (hg : (s.tel.snaps.get {} slot).got = true) :
    Does (.snapshotReady slot) s [.tel] fun t => t.tel.snaps.get {} slot = (s.tel.snaps.get {} slot).ready s.now ∧
      (slot ≠ 4 → t.hw.intcause.getLsbD 3 = true) ∧ ∀ k, k ≠ slot → t.tel.snaps.get {} k = s.tel.snaps.get {} k := by
  have hexec := exec_snapshotReady hf hg
  have only : Only [.tel] s (s.snapReady slot) := only_updDie _ _
  have hbecomes := snapReady_becomes s slot
  generalize s.snapReady slot = u at *
  by_cases h4 : slot = 4
  · rw [if_pos h4] at hexec
    obtain ⟨hself, hother⟩ := hbecomes.of_tel (settle_tel u)
    exact Does.of_done hexec ⟨hself, fun hne => absurd h4 hne, hother⟩ only
  · rw [if_neg h4] at hexec
    obtain ⟨hself, hother⟩ := hbecomes.of_tel (u := settle (u.cause 3)) (by rw [settle_tel, (only_cause u 3).tel])
    exact Does.of_done hexec ⟨hself, fun _ => settle_intcause _ 3 (cause_intcause _ (by decide)), hother⟩ (only.then (only_cause u 3) (by simp))

/-- Settles O25. -/
theorem rollupsWindowsAndSnapshotsClose : Obligations.RollupsWindowsAndSnapshotsClose := by
  unfold Obligations.RollupsWindowsAndSnapshotsClose
  intro s
  exact ⟨rollupClose_does, rollupClose_again_does, calibrationWindowClose_does, allowanceRecomputation_same_does,
    allowanceRecomputation_staged_does, fun slot => snapshotReady_does⟩

end Sys2Proof.Machine
end

section
/-! SUPPORT. Reports of the nodes at ponds and at the hub (R54, R157, R159, R396, R412), the loss window and its response (R398 to
R407), samples (R180), the deferral limit (R21), and the proof of the obligation about them. -/

namespace Sys2Proof.Machine

-- The joined text is checked under a memory limit that counts every thread's stack: one proof at a time.
set_option Elab.async false

variable {s t u : State} {n m r : Nat} {src : NodeId} {cause : Byte} {detail : Word}

/-! ### EVENT at a pond and at the hub (R54, R157, R396) -/

theorem fromBelow_ne_none {p : Packet} (h : (s.fromBelow n p).isSome = true) : s.fromBelow n p ≠ none := Option.isSome_iff_ne_none.1 h

theorem exec_event_of_pond (hn : n ≠ 0) (hc : cause ≠ 0x15) (hin : (s.fromBelow n (eventPkt src cause detail)).isSome = true) :
    exec (.event n src cause detail) s = done ((s.takeInto n (eventPkt src cause detail)).sendUp n (eventPkt src cause detail)) := by
  refine (if_neg (fromBelow_ne_none hin)).trans ((if_neg hn).trans ?_)
  dsimp only
  split
  · exact if_neg hc
  · rfl

theorem event_of_pond (hn : n ≠ 0) (hc : cause ≠ 0x15) (hin : (s.fromBelow n (eventPkt src cause detail)).isSome = true) :
    Does (.event n src cause detail) s [.links] fun t =>
      t.links = ((s.takeInto n (eventPkt src cause detail)).sendUp n (eventPkt src cause detail)).links :=
  Does.of_done (exec_event_of_pond hn hc hin) (settle_links _) (only_takeInto_sendUp s n _)

theorem exec_event_of_hub (hin : s.hubHas src cause detail = true) :
    exec (.event 0 src cause detail) s = done ((s.takeEvent src cause detail).hubEvent src cause detail) :=
  (if_neg (fromBelow_ne_none hin)).trans (if_pos rfl)

/-- What an EVENT of a node does at the hub, from what it does to a state that has taken it in. -/
theorem event_of_hub {ps : List Part} {P : State → Prop} (hin : s.hubHas src cause detail = true)
    (h : ∀ u, Only [.links] s u → u.flt = s.flt → u.links = (s.takeInto 0 (eventPkt src cause detail)).links →
      P (settle (u.hubEvent src cause detail)) ∧ Only ps u (u.hubEvent src cause detail)) (hps : Part.links ∈ ps) :
    Does (.event 0 src cause detail) s ps P := by
  obtain ⟨hp, ho⟩ := h _ (only_takeEvent s src cause detail) (takeInto_flt s 0 _) rfl
  exact Does.of_done (exec_event_of_hub hin) hp (((only_takeEvent s src cause detail).mono (List.cons_subset.2 ⟨hps, List.nil_subset _⟩)).trans ho)

theorem foldl_resyncDue : ∀ (l : List Nat) (u : State),
    (∀ k ∈ l, (l.foldl (fun s k => s.updNode k fun x => { x with resyncDue := true }) u).node k = { u.node k with resyncDue := true }) ∧
    (∀ k, k ∉ l → (l.foldl (fun s k => s.updNode k fun x => { x with resyncDue := true }) u).node k = u.node k)
  | [], _ => ⟨fun _ hk => absurd hk List.not_mem_nil, fun _ _ => rfl⟩
  | a :: l, u => by
    obtain ⟨hmem, hnot⟩ := foldl_resyncDue l (u.updNode a fun x => { x with resyncDue := true })
    refine ⟨fun k hk => ?_, fun k hk => ?_⟩
    · rw [List.foldl_cons]
      by_cases hl : k ∈ l
      · rw [hmem k hl]
        by_cases hka : k = a
        · subst hka
          rw [State.updNode_node_same]
        · rw [State.updNode_node_other _ _ hka]
      · have hka : k = a := (List.mem_cons.1 hk).resolve_right hl
        subst hka
        rw [hnot k hl, State.updNode_node_same]
    · obtain ⟨hka, hl⟩ := not_or.1 (mt List.mem_cons.2 hk)
      rw [List.foldl_cons, hnot k hl, State.updNode_node_other _ _ hka]

theorem only_resyncDue (l : List Nat) (u : State) :
    Only [.nodes] u (l.foldl (fun s k => s.updNode k fun x => { x with resyncDue := true }) u) :=
  Only.foldl _ (fun _ k => only_updNode _ k _) _ u

theorem hubEvent_align (hm : u.nodeById src = some m) : u.hubEvent src 0x05 detail =
    (m :: (u.subtree m).filter u.isPan).foldl (fun s k => s.updNode k fun x => { x with resyncDue := true }) u := by
  unfold State.hubEvent
  rw [hm]
  rfl

theorem hubEvent_sense (hm : u.nodeById src = some m) : u.hubEvent src 0x13 detail = u.updNflt m fun x => { x with local_ := bitOf detail 0 } := by
  unfold State.hubEvent
  rw [hm]
  rfl

theorem hubEvent_converters (hm : u.nodeById src = some m) :
    u.hubEvent src 0x24 detail = (u.updNflt m fun x => { x with adcLost := ufield detail 0 2 }).tally 0x0C 0 10 1 := by
  unfold State.hubEvent
  rw [hm]
  rfl

theorem Only.subtree {ps : List Part} (h : Only ps s t) (m : Nat) (hp : Part.nodes ∉ ps := by simp) : t.subtree m = s.subtree m := by
  unfold State.subtree
  simp only [h.node (n := _) hp, h.nodes hp]

theorem event_aligns (hm : s.nodeById src = some m) (hin : s.hubHas src 0x05 detail = true) :
    Does (.event 0 src 0x05 detail) s [.nodes, .links] fun t =>
      t.node m = { s.node m with resyncDue := true } ∧
      (∀ k ∈ s.subtree m, s.isPan k = true → t.node k = { s.node k with resyncDue := true }) ∧
      (∀ k, k ≠ m → k ∉ s.subtree m → t.node k = s.node k) ∧
      t.links = (s.takeInto 0 (eventPkt src 0x05 detail)).links := by
  refine event_of_hub hin (fun u only hflt hlinks => ?_) (by simp)
  rw [hubEvent_align ((only.nodeById src).trans hm), only.subtree]
  obtain ⟨hmem, hnot⟩ := foldl_resyncDue (m :: (s.subtree m).filter u.isPan) u
  have only' := only_resyncDue (m :: (s.subtree m).filter u.isPan) u
  refine ⟨⟨?_, fun k hk hpan => ?_, fun k hkm hk => ?_, ?_⟩, only'.mono (parts_subset rfl)⟩
  · rw [settle_node, hmem m List.mem_cons_self, only.node]
  · rw [settle_node, hmem k (List.mem_cons_of_mem _ (List.mem_filter.2 ⟨hk, (only.isPan k).trans hpan⟩)), only.node]
  · rw [settle_node, hnot k (fun h => (List.mem_cons.1 h).elim hkm fun h => hk (List.mem_filter.1 h).1), only.node]
  · rw [settle_links, only'.links, hlinks]

theorem nflt_of_flt (h : u.flt = s.flt) (k : Nat) : u.nflt k = s.nflt k := by
  unfold State.nflt
  rw [h]

theorem Only.nflt {ps : List Part} (h : Only ps s t) (k : Nat) (hp : Part.flt ∉ ps := by simp) : t.nflt k = s.nflt k := by
  have e : _ = _ := h.2 .flt hp
  unfold State.nflt
  rw [e]

theorem event_sense (hm : s.nodeById src = some m) (hin : s.hubHas src 0x13 detail = true) :
    Does (.event 0 src 0x13 detail) s [.links, .flt] fun t =>
      t.nflt m = { s.nflt m with local_ := bitOf detail 0 } ∧ ∀ k, k ≠ m → t.nflt k = s.nflt k := by
  refine event_of_hub hin (fun u only hflt hlinks => ?_) (by simp)
  rw [hubEvent_sense ((only.nodeById src).trans hm)]
  refine ⟨⟨?_, fun k hk => ?_⟩, (only_updNflt u m _).mono (parts_subset rfl)⟩
  · rw [settle_nflt, State.updNflt_nflt_same, nflt_of_flt hflt]
  · rw [settle_nflt, State.updNflt_nflt_other _ _ hk, nflt_of_flt hflt]

theorem State.tally_nflt (s : State) (id ix bin n k : Nat) : (s.tally id ix bin n).nflt k = s.nflt k := rfl

theorem event_converters (hm : s.nodeById src = some m) (hin : s.hubHas src 0x24 detail = true) :
    Does (.event 0 src 0x24 detail) s [.links, .flt] fun t =>
      t.nflt m = { s.nflt m with adcLost := ufield detail 0 2 } ∧ (∀ k, k ≠ m → t.nflt k = s.nflt k) ∧
      t.flt.tally.get 0 (tallyKey 0x0C 0 10) = s.flt.tally.get 0 (tallyKey 0x0C 0 10) + 1 := by
  refine event_of_hub hin (fun u only hflt hlinks => ?_) (by simp)
  rw [hubEvent_converters ((only.nodeById src).trans hm)]
  refine ⟨⟨?_, fun k hk => ?_, ?_⟩, ((only_updNflt u m _).trans (only_tally _ 0x0C 0 10 1)).mono (parts_subset rfl)⟩
  · rw [settle_nflt, State.tally_nflt, State.updNflt_nflt_same, nflt_of_flt hflt]
  · rw [settle_nflt, State.tally_nflt, State.updNflt_nflt_other _ _ hk, nflt_of_flt hflt]
  · rw [settle_flt_tally, tally_get, ← hflt]
    rfl

/-! ### Loss reports (R398, R402, R403) -/

theorem exec_lossReport (hc : cause = 0x15 ∨ cause = 0x18) (hin : s.hubHas src cause detail = true) :
    exec (.lossReport src cause detail) s = done ((s.takeEvent src cause detail).lossIn src cause detail) := if_pos ⟨hc, hin⟩

/-- What a loss report does, from what it does to a state that has taken it in. -/
theorem lossReport_does {ps : List Part} {P : State → Prop} (hc : cause = 0x15 ∨ cause = 0x18) (hin : s.hubHas src cause detail = true)
    (h : ∀ u, Only [.links] s u → u.flt = s.flt → P (settle (u.lossIn src cause detail)) ∧ Only ps u (u.lossIn src cause detail))
    (hps : Part.links ∈ ps) : Does (.lossReport src cause detail) s ps P := by
  obtain ⟨hp, ho⟩ := h _ (only_takeEvent s src cause detail) (takeInto_flt s 0 _)
  exact Does.of_done (exec_lossReport hc hin) hp (((only_takeEvent s src cause detail).mono (List.cons_subset.2 ⟨hps, List.nil_subset _⟩)).trans ho)

/-- The loss of a pan joins the collection that is open, or opens one (R398). -/
def State.joinLoss (s : State) (n cause : Nat) : State :=
  (s.updNflt n fun x => { x with lost := true }).updFlt fun f => { f with
    losses := if f.losses.any fun x => x.1 = n then f.losses else f.losses ++ [(n, cause)],
    windowAt := some (f.windowAt.getD s.now) }

theorem lose_flt (s : State) (n c : Nat) : (s.lose n c).flt = { (s.joinLoss n c).flt with prev := (s.lose n c).flt.prev } := by
  unfold State.lose
  dsimp only
  split
  · next r _ => exact (only_setLive (s.joinLoss n c) r).2 .flt (by simp)
  · rfl

theorem joinLoss_losses (s : State) (n c : Nat) : ((s.joinLoss n c).flt.losses.any fun x => decide (x.1 = n)) = true := by
  change ((if s.flt.losses.any fun x => decide (x.1 = n) then s.flt.losses else s.flt.losses ++ [(n, c)]).any fun x => decide (x.1 = n)) = true
  split
  · assumption
  · simp

theorem joinLoss_windowAt (s : State) (n c : Nat) : (s.joinLoss n c).flt.windowAt = some (s.flt.windowAt.getD s.now) := rfl

theorem joinLoss_nflt (s : State) (n c : Nat) : (s.joinLoss n c).nflt n = { s.nflt n with lost := true } :=
  State.updNflt_nflt_same s n fun x => { x with lost := true }

theorem lose_losses (s : State) (n c : Nat) : ((s.lose n c).flt.losses.any fun x => decide (x.1 = n)) = true := by
  rw [lose_flt]
  exact joinLoss_losses s n c

theorem lose_windowAt (s : State) (n c : Nat) : (s.lose n c).flt.windowAt = some (s.flt.windowAt.getD s.now) := by
  rw [lose_flt]
  rfl

theorem lose_nflt (s : State) (n c : Nat) : (s.lose n c).nflt n = { s.nflt n with lost := true } := by
  unfold State.nflt
  rw [lose_flt]
  exact joinLoss_nflt s n c

theorem foldl_carry_flt {n : Nat} : ∀ (l : List Nat) (u : State), n ∉ l →
    (l.foldl (fun s c => s.updNflt c fun x => { x with carry := true }) u).nflt n = u.nflt n ∧
    (l.foldl (fun s c => s.updNflt c fun x => { x with carry := true }) u).flt.windowAt = u.flt.windowAt
  | [], _, _ => ⟨rfl, rfl⟩
  | a :: l, u, h => by
    obtain ⟨hna, hl⟩ := not_or.1 (mt List.mem_cons.2 h)
    obtain ⟨hn, hw⟩ := foldl_carry_flt l (u.updNflt a fun x => { x with carry := true }) hl
    rw [List.foldl_cons]
    exact ⟨hn.trans (State.updNflt_nflt_other _ _ hna), hw⟩

/-- The carry of a pan's siblings does not touch the pan (R103). -/
theorem siblingsCarry_nflt (s : State) (n : Nat) :
    (s.siblingsCarry n).nflt n = s.nflt n ∧ (s.siblingsCarry n).flt.windowAt = s.flt.windowAt :=
  foldl_carry_flt _ s fun h => by simpa using (List.mem_filter.1 h).2

/-- A stage fault at the hub: the pan is FAULTED, its siblings carry (R103, R398). -/
def State.faultIn (s : State) (n : Nat) : State :=
  ((s.updNflt n fun x => { x with stflt := true, st := .faulted, outAt := none }).siblingsCarry n).tally 0x0C 0 0 1

theorem lossIn_fault (hm : u.nodeById src = some m) (hd : bitOf detail 0 = true) : u.lossIn src 0x15 detail = (u.faultIn m).lose m 1 := by
  unfold State.lossIn
  rw [hm]
  exact (if_pos rfl).trans (if_pos hd)

theorem lossIn_cleared (hm : u.nodeById src = some m) (hd : bitOf detail 0 = false) :
    u.lossIn src 0x15 detail = u.updNflt m fun x => { x with stflt := false, highAt := u.now } := by
  unfold State.lossIn
  rw [hm]
  exact (if_pos rfl).trans (if_neg (ne_true_of_eq_false hd))

theorem only_faultIn (s : State) (n : Nat) : Only [.flt] s (s.faultIn n) :=
  ((only_updNflt s n _).trans (only_siblingsCarry _ n)).trans (only_tally _ 0x0C 0 0 1)

theorem faultIn_nflt (s : State) (n : Nat) :
    (s.faultIn n).nflt n = { s.nflt n with stflt := true, st := .faulted, outAt := none } ∧ (s.faultIn n).flt.windowAt = s.flt.windowAt := by
  obtain ⟨hn, hw⟩ := siblingsCarry_nflt (s.updNflt n fun x => { x with stflt := true, st := .faulted, outAt := none }) n
  exact ⟨hn.trans (State.updNflt_nflt_same ..), hw⟩

theorem lossReport_fault (hm : s.nodeById src = some m) (hd : bitOf detail 0 = true) (hin : s.hubHas src 0x15 detail = true) :
    Does (.lossReport src 0x15 detail) s [.links, .eng, .flt] fun t =>
      (t.nflt m).stflt = true ∧ (t.nflt m).st = .faulted ∧ (t.nflt m).outAt = none ∧ (t.nflt m).lost = true ∧
      (t.nflt m).rcause = (s.nflt m).rcause ∧ (t.flt.losses.any fun x => decide (x.1 = m)) = true ∧
      t.flt.windowAt = some (s.flt.windowAt.getD s.now) := by
  refine lossReport_does (.inl rfl) hin (fun u only hflt => ?_) (by simp)
  rw [lossIn_fault ((only.nodeById src).trans hm) hd]
  obtain ⟨hn, hw⟩ := faultIn_nflt u m
  refine ⟨?_, ((only_faultIn u m).mono (parts_subset rfl)).trans ((only_lose _ m 1).mono (parts_subset rfl))⟩
  rw [settle_nflt, settle_flt_losses, settle_flt_windowAt, lose_nflt, lose_windowAt, hn, hw, (only_faultIn u m).now, only.now, hflt, nflt_of_flt hflt]
  exact ⟨rfl, rfl, rfl, rfl, rfl, lose_losses .., rfl⟩

theorem lossReport_cleared (hm : s.nodeById src = some m) (hd : bitOf detail 0 = false) (hin : s.hubHas src 0x15 detail = true) :
    Does (.lossReport src 0x15 detail) s [.links, .flt] fun t =>
      t.nflt m = { s.nflt m with stflt := false, highAt := s.now } ∧ t.flt.losses = s.flt.losses := by
  refine lossReport_does (.inl rfl) hin (fun u only hflt => ?_) (by simp)
  rw [lossIn_cleared ((only.nodeById src).trans hm) hd]
  refine ⟨⟨?_, ?_⟩, (only_updNflt u m _).mono (parts_subset rfl)⟩
  · rw [settle_nflt, State.updNflt_nflt_same, nflt_of_flt hflt, only.now]
  · rw [settle_flt_losses, ← hflt]
    rfl

theorem lossIn_base {rb : Nat} (hm : u.nodeById src = some m) (h0 : ufield detail 0 2 = 1) (hrb : ufield detail 16 16 = rb) :
    u.lossIn src 0x18 detail = u.updNflt m fun x => { x with base := true, rb := rb } := by
  unfold State.lossIn
  rw [hm]
  refine (if_neg (by decide)).trans ?_
  rw [h0, hrb]
  rfl

theorem lossIn_contact (hm : u.nodeById src = some m) : u.lossIn src 0x18 2 = (u.tally 0x0C 0 1 1).lose m 3 := by
  unfold State.lossIn
  rw [hm]
  exact (if_neg (by decide)).trans rfl

theorem lossReport_base {rb : Nat} (hm : s.nodeById src = some m) (hrb : rb < 65536)
    (hin : s.hubHas src 0x18 (BitVec.ofNat 32 (1 + 65536 * rb)) = true) :
    Does (.lossReport src 0x18 (BitVec.ofNat 32 (1 + 65536 * rb))) s [.links, .flt] fun t =>
      t.nflt m = { s.nflt m with base := true, rb := rb } ∧ t.flt.losses = s.flt.losses := by
  refine lossReport_does (.inr rfl) hin (fun u only hflt => ?_) (by simp)
  have h0 : ufield (BitVec.ofNat 32 (1 + 65536 * rb)) 0 2 = 1 := by simp [ufield]; omega
  have h16 : ufield (BitVec.ofNat 32 (1 + 65536 * rb)) 16 16 = rb := by simp [ufield]; omega
  rw [lossIn_base ((only.nodeById src).trans hm) h0 h16]
  refine ⟨⟨?_, ?_⟩, (only_updNflt u m _).mono (parts_subset rfl)⟩
  · rw [settle_nflt, State.updNflt_nflt_same, nflt_of_flt hflt]
  · rw [settle_flt_losses, ← hflt]
    rfl

theorem lossReport_contact (hm : s.nodeById src = some m) (hin : s.hubHas src 0x18 2 = true) :
    Does (.lossReport src 0x18 2) s [.links, .eng, .flt] fun t =>
      (t.nflt m).lost = true ∧ (t.flt.losses.any fun x => decide (x.1 = m)) = true := by
  refine lossReport_does (.inr rfl) hin (fun u only hflt => ?_) (by simp)
  rw [lossIn_contact ((only.nodeById src).trans hm)]
  refine ⟨?_, ((only_tally u 0x0C 0 1 1).mono (parts_subset rfl)).trans ((only_lose _ m 3).mono (parts_subset rfl))⟩
  rw [settle_nflt, settle_flt_losses, lose_nflt]
  exact ⟨rfl, lose_losses ..⟩

/-! ### The response to losses (R398 to R401) -/

/-- A pan is retired for a suspect contact (R402). -/
def State.retireContact (s : State) (n : Nat) : State := s.updNflt n fun k => { k with rcause := 3, contact := k.contact || decide (3 = 3) }

/-- Spares of regions that are not LIVE are kept for their next start (R289). -/
def State.keepSpares (s : State) (l : List Nat) : State := l.foldl (fun s k => s.updNflt k fun x => { x with keepOn := true }) s

/-- The collection of losses is closed. -/
def State.lossesAnswered (s : State) : State := s.updFlt fun f => { f with losses := [], windowAt := none }

/-- The single pan of a collection, of a suspect contact, is retired with whatever set the response stages. -/
theorem exec_lossResponse {at_ : Nat} (hat : s.flt.windowAt = some at_) (hready : s.sys.ready = true) (hservice : s.service = true)
    (hl : s.flt.losses = [(n, 3)]) : ∃ ws l a b, exec .lossResponse s =
      done ((((((s.reach (at_ + 32 * usT)).stageSet ws).retireContact n).keepSpares l).tally 0x0C 0 2 a).tally 0x0C 0 11 b).lossesAnswered := by
  obtain ⟨v, hv⟩ : ∃ v, v = execLossResponse s := ⟨_, rfl⟩
  change ∃ ws l a b, execLossResponse s = _
  rw [← hv]
  unfold execLossResponse at hv
  rw [hat] at hv
  dsimp -zeta only at hv
  rw [if_neg (not_or.2 ⟨ne_false_of_eq_true hready, ne_false_of_eq_true hservice⟩)] at hv
  extract_lets u ms live on modeOn off rs admitted short carry w w2 s1 at hv
  have hoff : off = [(n, 3)] := by
    have hu : u.flt.losses = [(n, 3)] := hl
    unfold off ms
    rw [hu]
    rfl
  clear_value off w2
  subst hoff
  exact ⟨_, _, _, _, hv⟩

theorem only_keepSpares (s : State) (l : List Nat) : Only [.flt] s (s.keepSpares l) := Only.foldl _ (fun _ _ => only_updNflt ..) _ s

theorem keepSpares_nflt {P : NodeFault → Prop} (hP : ∀ x : NodeFault, P x → P { x with keepOn := true }) (n : Nat) : ∀ (l : List Nat) (u : State),
    P (u.nflt n) → P ((u.keepSpares l).nflt n)
  | [], _, h => h
  | k :: l, u, h => by
    refine keepSpares_nflt hP n l (u.updNflt k fun x => { x with keepOn := true }) ?_
    by_cases hk : n = k
    · subst hk
      rw [State.updNflt_nflt_same]
      exact hP _ h
    · rw [State.updNflt_nflt_other _ _ hk]
      exact h

theorem lossesAnswered_nflt (s : State) (n : Nat) : s.lossesAnswered.nflt n = s.nflt n := rfl

theorem retireContact_nflt (s : State) (n : Nat) : (s.retireContact n).nflt n = { s.nflt n with rcause := 3, contact := true } := by
  refine (State.updNflt_nflt_same s n fun k => { k with rcause := 3, contact := k.contact || decide (3 = 3) }).trans ?_
  simp

theorem only_stageSet_reach (s : State) (b : Nat) (ws : List CW) : Only [.now, .stg, .ports] s ((s.reach b).stageSet ws) :=
  ((only_reach s b).mono (parts_subset rfl)).trans ((only_stageSet _ ws).mono (parts_subset rfl))

theorem lossResponse_does {at_ : Nat} (hat : s.flt.windowAt = some at_) (hready : s.sys.ready = true) (hservice : s.service = true)
    (hl : s.flt.losses = [(n, 3)]) : Does .lossResponse s [.now, .stg, .flt, .ports] fun t =>
      t.now = max s.now (at_ + 32 * usT) ∧ t.flt.losses = [] ∧ t.flt.windowAt = none ∧ (t.nflt n).rcause = 3 ∧ (t.nflt n).contact = true := by
  obtain ⟨ws, l, a, b, hexec⟩ := exec_lossResponse hat hready hservice hl
  have only0 := only_stageSet_reach s (at_ + 32 * usT) ws
  have hnow : ((s.reach (at_ + 32 * usT)).stageSet ws).now = max s.now (at_ + 32 * usT) := (only_stageSet _ ws).now
  generalize (s.reach (at_ + 32 * usT)).stageSet ws = u at *
  have only1 : Only [.flt] u (((u.retireContact n).keepSpares l).tally 0x0C 0 2 a) :=
    ((only_updNflt u n _).trans (only_keepSpares _ l)).trans (only_tally _ 0x0C 0 2 a)
  have hn := keepSpares_nflt (P := fun x => x.rcause = 3 ∧ x.contact = true) (fun _ h => h) n l (u.retireContact n)
    (by rw [retireContact_nflt]; exact ⟨rfl, rfl⟩)
  rw [← State.tally_nflt _ 0x0C 0 2 a] at hn
  generalize ((u.retireContact n).keepSpares l).tally 0x0C 0 2 a = v at *
  have only2 : Only [.flt] v (v.tally 0x0C 0 11 b).lossesAnswered := (only_tally v 0x0C 0 11 b).trans (only_updFlt _ _)
  refine Does.of_done hexec ⟨?_, ?_, ?_, ?_⟩ ((only0.mono (parts_subset rfl)).trans ((only1.trans only2).mono (parts_subset rfl)))
  · rw [settle_now, only2.now, only1.now, hnow]
  · rw [settle_flt_losses]
    rfl
  · rw [settle_flt_windowAt]
    rfl
  · rw [settle_nflt, lossesAnswered_nflt, State.tally_nflt]
    exact hn

/-! ### Return of a faulted pan and maker fault orders (R288, R400, R407) -/

theorem exec_faultedPanReturn (hready : s.sys.ready = true) (hst : s.knownSt n = .faulted) (hflt : (s.nflt n).stflt = false)
    (hrc : (s.nflt n).rcause = 0) (hret : (s.nflt n).returns < 3) (hing : (s.nflt n).returning = 0) (hkeep : (s.nflt n).keepOn = false)
    (hlost : (s.flt.losses.any fun y => decide (y.1 = n)) = false) (hr : s.regionOf n = some r) (hlive : (s.reg r).seq.st = .live) :
    exec (.faultedPanReturn n) s = done ((((s.reach ((s.nflt n).highAt + msT)).stageFw
      (.nodeMode n (s.hdrOf n) (BitVec.ofNat 32 (s.com.nodeMode.get modeReset n / 4 * 4)))).updNflt n fun x =>
        { x with returning := 1, returns := x.returns + 1 }).tally 0x0C 0 3 1) := by
  change execFaultedPanReturn n s = _
  unfold execFaultedPanReturn
  dsimp only
  rw [if_pos ⟨hready, hst, hflt, hrc, hret, hing, hkeep, by rw [hlost]; rfl⟩]
  have hr' : (s.reach ((s.nflt n).highAt + msT)).regionOf n = some r := hr
  rw [hr']
  exact if_neg (ne_false_of_eq_true (decide_eq_true hlive))

theorem faultedPanReturn_does (hready : s.sys.ready = true) (hst : s.knownSt n = .faulted) (hflt : (s.nflt n).stflt = false)
    (hrc : (s.nflt n).rcause = 0) (hret : (s.nflt n).returns < 3) (hing : (s.nflt n).returning = 0) (hkeep : (s.nflt n).keepOn = false)
    (hlost : (s.flt.losses.any fun y => decide (y.1 = n)) = false) (hr : s.regionOf n = some r) (hlive : (s.reg r).seq.st = .live) :
    Does (.faultedPanReturn n) s [.now, .stg, .flt, .ports] fun t =>
      t.now = max s.now ((s.nflt n).highAt + msT) ∧
      t.nflt n = { s.nflt n with returning := 1, returns := (s.nflt n).returns + 1 } ∧
      ∃ w ∈ t.stg.queue, w.cw = .nodeMode n (s.hdrOf n) (BitVec.ofNat 32 (s.com.nodeMode.get modeReset n / 4 * 4)) := by
  have hexec := exec_faultedPanReturn hready hst hflt hrc hret hing hkeep hlost hr hlive
  have only : ∀ c, Only [.now, .stg, .ports] s ((s.reach ((s.nflt n).highAt + msT)).stageFw c) := fun c =>
    ((only_reach s _).mono (parts_subset rfl)).trans ((only_stageFw _ c).mono (parts_subset rfl))
  have hnow : ∀ c, ((s.reach ((s.nflt n).highAt + msT)).stageFw c).now = max s.now ((s.nflt n).highAt + msT) := fun c => (only_stageFw _ c).now
  have hmem := stageFw_mem (s.reach ((s.nflt n).highAt + msT))
    (.nodeMode n (s.hdrOf n) (BitVec.ofNat 32 (s.com.nodeMode.get modeReset n / 4 * 4)))
  specialize only (.nodeMode n (s.hdrOf n) (BitVec.ofNat 32 (s.com.nodeMode.get modeReset n / 4 * 4)))
  specialize hnow (.nodeMode n (s.hdrOf n) (BitVec.ofNat 32 (s.com.nodeMode.get modeReset n / 4 * 4)))
  generalize (s.reach ((s.nflt n).highAt + msT)).stageFw
    (.nodeMode n (s.hdrOf n) (BitVec.ofNat 32 (s.com.nodeMode.get modeReset n / 4 * 4))) = u at *
  refine Does.of_done hexec ⟨?_, ?_, ?_⟩ ((only.mono (parts_subset rfl)).trans
    (((only_updNflt u n _).trans (only_tally _ 0x0C 0 3 1)).mono (parts_subset rfl)))
  · rw [settle_now]
    exact hnow
  · rw [settle_nflt, State.tally_nflt, State.updNflt_nflt_same, only.nflt]
  · rw [settle_stg]
    exact hmem

theorem faultOrder_does (hready : s.sys.ready = true) (hr : s.hasReg r = true) (hon : (s.com.reg r).state = .on)
    (hno : (s.com.reg r).forder = false) (hcap : 16 ≤ (s.reg r).overcap) :
    Does (.faultOrder r) s [.stg, .flt, .ports] fun t => ∃ w ∈ t.stg.queue, w.cw = .faultOrder r := by
  have hexec : exec (.faultOrder r) s = done ((s.stageFw (.faultOrder r)).tally 0x0C 0 4 1) := if_pos ⟨hready, hr, hon, hno, .inr hcap⟩
  refine Does.of_done hexec ?_ (((only_stageFw s _).mono (parts_subset rfl)).trans ((only_tally _ 0x0C 0 4 1).mono (parts_subset rfl)))
  rw [settle_stg]
  exact stageFw_mem s _

/-! ### Window exits and tally reports (R159, R412) -/

/-- A region's record of the first window exit of a cycle: pending, the pan, one more in the count of the epoch (R159). -/
def TelDyn.exitFast (src : NodeId) (at_ : Nat) (t : TelDyn) : TelDyn :=
  { t with wxFast := true, idFast := src, atFast := at_, exFast := satN (t.exFast + 1) 65535, enFast := t.enFast }

theorem windowExit_first (hm : u.nodeById src = some m) (hr : u.regionOf m = some r) (hd : bitOf detail 1 = false)
    (hw : (u.reg r).tel.wxFast = false) :
    u.windowExit src 0x20 detail = ((u.updTel r (TelDyn.exitFast src (u.now / cksT))).tally 0x06 r 0 1).cause 0 := by
  unfold State.windowExit
  rw [hm, Option.bind_some, hr]
  dsimp only
  rw [hd, hw]
  rfl

theorem Only.regionOf {ps : List Part} (h : Only ps s t) (n : Nat) (hp : Part.sys ∉ ps := by simp) : t.regionOf n = s.regionOf n := by
  unfold State.regionOf
  rw [h.regions hp]
  simp only [h.rimg (n := _) hp]

theorem exec_windowExitPending (hc : cause = 0x20 ∨ cause = 0x22) (hin : s.hubHas src cause detail = true) :
    exec (.windowExitPending src cause detail) s = done ((s.takeEvent src cause detail).windowExit src cause detail) := if_pos ⟨hc, hin⟩

theorem windowExitPending_does (hm : s.nodeById src = some m) (hr : s.regionOf m = some r) (hd : bitOf detail 1 = false)
    (hw : (s.reg r).tel.wxFast = false) (hin : s.hubHas src 0x20 detail = true) :
    Does (.windowExitPending src 0x20 detail) s [.links, .regs, .flt] fun t =>
      (t.reg r).tel.wxFast = true ∧ (t.reg r).tel.idFast = src ∧ (t.reg r).tel.exFast = min ((s.reg r).tel.exFast + 1) 65535 ∧
      t.hw.intcause.getLsbD 0 = true := by
  have only := only_takeEvent s src 0x20 detail
  have hexec := exec_windowExitPending (.inl rfl) hin
  have hreg : (s.takeEvent src 0x20 detail).reg r = s.reg r := takeInto_reg ..
  generalize s.takeEvent src 0x20 detail = u at *
  rw [windowExit_first ((only.nodeById src).trans hm) ((only.regionOf m).trans hr) hd (by rw [hreg, hw])] at hexec
  have htel : ((((u.updTel r (TelDyn.exitFast src (u.now / cksT))).tally 0x06 r 0 1).cause 0).reg r).tel =
      TelDyn.exitFast src (u.now / cksT) (s.reg r).tel := by
    rw [← hreg]
    exact congrArg Region.tel (State.updReg_reg_same u r fun x => { x with tel := TelDyn.exitFast src (u.now / cksT) x.tel })
  have hframe : Only [.links, .regs, .flt] s (((u.updTel r (TelDyn.exitFast src (u.now / cksT))).tally 0x06 r 0 1).cause 0) :=
    (only.mono (parts_subset rfl)).trans
      ((((only_updTel u r _).mono (parts_subset rfl)).trans ((only_tally _ 0x06 r 0 1).mono (parts_subset rfl))).trans
        ((only_cause _ 0).mono (List.nil_subset _)))
  refine Does.of_done hexec ⟨?_, ?_, ?_, settle_intcause _ 0 (cause_intcause _ (by decide))⟩ hframe
  all_goals rw [settle_reg_tel, htel]; rfl

theorem tallyIn_ripple (hm : u.nodeById src = some m) (hr : u.regionOf m = some r) :
    u.tallyIn src 0x39 detail = u.tally 0x10 (u.rimg r).rail.idx 2 detail.toNat := by
  unfold State.tallyIn
  rw [hm, Option.bind_some, hr]
  rfl

theorem exec_tallyReport (hc : 0x30 ≤ cause.toNat ∧ cause.toNat ≤ 0x3A) (hin : s.hubHas src cause detail = true) :
    exec (.tallyReport src cause detail) s = done ((s.takeEvent src cause detail).tallyIn src cause detail) := if_pos ⟨hc.1, hc.2, hin⟩

theorem tallyReport_does (hm : s.nodeById src = some m) (hr : s.regionOf m = some r) (hin : s.hubHas src 0x39 detail = true) :
    Does (.tallyReport src 0x39 detail) s [.links, .flt] fun t =>
      t.flt.tally.get 0 (tallyKey 0x10 (s.rimg r).rail.idx 2) = s.flt.tally.get 0 (tallyKey 0x10 (s.rimg r).rail.idx 2) + detail.toNat ∧
      ∀ j, j ≠ tallyKey 0x10 (s.rimg r).rail.idx 2 → t.flt.tally.get 0 j = s.flt.tally.get 0 j := by
  have only := only_takeEvent s src 0x39 detail
  have hexec := exec_tallyReport (by decide) hin
  have hflt : (s.takeEvent src 0x39 detail).flt = s.flt := takeInto_flt s 0 _
  generalize s.takeEvent src 0x39 detail = u at *
  rw [tallyIn_ripple ((only.nodeById src).trans hm) ((only.regionOf m).trans hr), only.rimg] at hexec
  refine Does.of_done hexec ⟨?_, fun j hj => ?_⟩ ((only.mono (parts_subset rfl)).trans ((only_tally u ..).mono (parts_subset rfl)))
  · rw [settle_flt_tally, tally_get, hflt]
  · rw [settle_flt_tally, tally_get_other _ _ _ _ _ hj, hflt]

/-! ### Samples (R164, R180) -/

variable {kind : Byte} {value : Word}

theorem sample_of_pond (hn : n ≠ 0) (hin : (s.fromBelow n (samplePkt src kind value)).isSome = true) :
    Does (.sample n src kind value) s [.links] fun t =>
      t.links = ((s.takeInto n (samplePkt src kind value)).sendUp n (samplePkt src kind value)).links :=
  Does.of_done ((if_neg (fromBelow_ne_none hin)).trans (if_pos hn)) (settle_links _) (only_takeInto_sendUp s n _)

theorem exec_sample_of_hub (hin : (s.fromBelow 0 (samplePkt src kind value)).isSome = true) :
    exec (.sample 0 src kind value) s = done ((s.takeInto 0 (samplePkt src kind value)).sampleIn src kind value) :=
  (if_neg (fromBelow_ne_none hin)).trans (if_neg (not_not_intro rfl))

theorem sampleIn_discarded (hk : kind ≠ 5) (hslots : u.eng.slotsOf (.sample src.toNat kind.toNat) = []) :
    u.sampleIn src kind value = u.updEng fun e => { e with discarded := e.discarded + 1 } := by
  unfold State.sampleIn
  dsimp only
  rw [if_neg (c := kind = 5 ∧ u.tel.closed = false) fun h => hk h.1, hslots]
  rfl

theorem sampleIn_placed (hk : kind ≠ 5) (hslots : u.eng.slotsOf (.sample src.toNat kind.toNat) ≠ []) : ∃ at_,
    u.sampleIn src kind value = u.slotWrite (.sample src.toNat kind.toNat) value at_ := by
  unfold State.sampleIn
  dsimp only
  rw [if_neg (c := kind = 5 ∧ u.tel.closed = false) fun h => hk h.1, if_neg fun h => hslots (List.isEmpty_iff.1 h)]
  exact ⟨_, rfl⟩

theorem sample_discarded (hk : kind ≠ 5) (hin : (s.fromBelow 0 (samplePkt src kind value)).isSome = true)
    (hslots : s.eng.slotsOf (.sample src.toNat kind.toNat) = []) :
    Does (.sample 0 src kind value) s [.links, .eng] fun t => t.eng.discarded = s.eng.discarded + 1 := by
  have only := only_takeInto s 0 (samplePkt src kind value)
  have hexec := exec_sample_of_hub hin
  generalize s.takeInto 0 (samplePkt src kind value) = u at *
  rw [sampleIn_discarded hk (by rw [only.eng, hslots])] at hexec
  refine Does.of_done hexec ?_ ((only.mono (parts_subset rfl)).trans ((only_updEng u _).mono (parts_subset rfl)))
  rw [settle_eng, ← only.eng]
  rfl

theorem sample_placed {k : Nat} (hk : kind ≠ 5) (hin : (s.fromBelow 0 (samplePkt src kind value)).isSome = true)
    (hslots : s.eng.slotsOf (.sample src.toNat kind.toNat) = [k]) :
    Does (.sample 0 src kind value) s [.links, .eng] fun t => (t.eng.input.get {} k).value = value ∧ (t.eng.input.get {} k).stale = false := by
  have only := only_takeInto s 0 (samplePkt src kind value)
  have hexec := exec_sample_of_hub hin
  generalize s.takeInto 0 (samplePkt src kind value) = u at *
  have hslots' : u.eng.slotsOf (.sample src.toNat kind.toNat) = [k] := by rw [only.eng, hslots]
  obtain ⟨at_, heq⟩ := sampleIn_placed (value := value) hk (by rw [hslots']; exact List.cons_ne_nil _ _)
  rw [heq] at hexec
  refine Does.of_done hexec ?_ ((only.mono (parts_subset rfl)).trans ((only_slotWrite u _ _ _).mono (parts_subset rfl)))
  have hplaced := posted_slotWrite u (.sample src.toNat kind.toNat) value at_ k (by rw [hslots']; exact List.mem_singleton_self k)
  rw [settle_eng]
  exact hplaced

/-! ### Deferral limit and the end of a sluice fault (R21, R395) -/

theorem unitsOf_mem : ∀ {l : List SWrite} {v : List SWrite} {w : SWrite}, v ∈ unitsOf l → w ∈ v → w ∈ l
  | [], _, _, hv, _ => absurd hv List.not_mem_nil
  | a :: l, v, w, hv, hw => by
    unfold unitsOf at hv
    dsimp only at hv
    split at hv
    · obtain rfl | hv := List.mem_cons.1 hv
      · exact List.mem_cons.2 (.inl (List.mem_singleton.1 hw))
      · exact List.mem_cons_of_mem _ (unitsOf_mem hv hw)
    · split at hv
      · next u hu =>
        obtain rfl | hv := List.mem_cons.1 hv
        · obtain rfl | hw := List.mem_cons.1 hw
          · exact List.mem_cons_self
          · exact List.mem_cons_of_mem _ (unitsOf_mem (List.mem_of_find?_eq_some hu) hw)
        · exact List.mem_cons_of_mem _ (unitsOf_mem (List.mem_filter.1 hv).1 hw)
      · obtain rfl | hv := List.mem_cons.1 hv
        · exact List.mem_cons.2 (.inl (List.mem_singleton.1 hw))
        · exact List.mem_cons_of_mem _ (unitsOf_mem hv hw)

theorem unitsOf_singleton (w : SWrite) : unitsOf [w] = [[w]] := by
  simp [unitsOf]

theorem deferLimit_of_young (h : ∀ w ∈ s.stg.queue, w.defer < 4) : s.deferLimit = s := by
  unfold State.deferLimit
  refine if_pos (List.isEmpty_iff.2 (List.filter_eq_nil_iff.2 fun v hv => ?_))
  intro hany
  obtain ⟨w, hw, hd⟩ := List.any_eq_true.1 hany
  exact absurd (of_decide_eq_true hd) (Nat.not_le.2 (h w (unitsOf_mem hv hw)))

theorem setDeferralLimit_of_young (h : ∀ w ∈ s.stg.queue, w.defer < 4) : Does .setDeferralLimit s [] fun _ => True := by
  have hexec : exec .setDeferralLimit s = done s := congrArg done (deferLimit_of_young h)
  exact Does.of_done hexec trivial (.refl _ _)

/-- The queue without its only write. -/
def State.queueEmptied (s : State) : State := s.updStg fun g => { g with queue := [] }

theorem deferLimit_of_old {w : SWrite} (hq : s.stg.queue = [w]) (hw : 4 ≤ w.defer) :
    s.deferLimit = (s.queueEmptied.failWrites [w]).sluiceFault := by
  have hdead : ((unitsOf s.stg.queue).filter fun u => u.any fun w => decide (4 ≤ w.defer)) = [[w]] := by
    rw [hq, unitsOf_singleton]
    simp [hw]
  unfold State.deferLimit
  dsimp only
  rw [hdead]
  refine (if_neg (by simp)).trans ?_
  have hrest : (s.updStg fun g => { g with queue := g.queue.filter fun x => !([[w]].any fun u => u.contains x) }) = s.queueEmptied := by
    unfold State.queueEmptied State.updStg
    dsimp only
    rw [hq]
    simp
  rw [hrest]
  rfl

theorem failWrites_queue {w : SWrite} (hw : ∀ h, w.cw ≠ .holding h) (s : State) :
    (s.failWrites [w]).stg.queue = s.stg.queue ∧ (s.failWrites [w]).now = s.now := by
  have hqueue := complete_queue s w .failed false 0
  have hnow : (s.complete w .failed false 0).now = s.now := (only_complete ..).now
  unfold State.failWrites
  rw [List.foldl_cons, List.foldl_nil]
  dsimp only
  generalize s.complete w .failed false 0 = u at *
  split
  · next h => exact absurd h (hw _)
  · exact ⟨hqueue, hnow⟩
  · exact ⟨hqueue, hnow⟩
  · exact ⟨hqueue, hnow⟩

theorem setDeferralLimit_of_old {w : SWrite} (hq : s.stg.queue = [w]) (hd : 4 ≤ w.defer) (hw : ∀ h, w.cw ≠ .holding h) :
    Does .setDeferralLimit s [.stg, .tide, .flt, .ports] fun t => t.stg.queue = [] ∧ t.flt.sluAt = some s.now := by
  have hexec : exec .setDeferralLimit s = done s.deferLimit := rfl
  have only := only_deferLimit s
  rw [deferLimit_of_old hq hd] at hexec only
  obtain ⟨hqueue, hnow⟩ := failWrites_queue hw s.queueEmptied
  have hempty : s.queueEmptied.stg.queue = [] := rfl
  have hstill : s.queueEmptied.now = s.now := rfl
  rw [hempty] at hqueue
  rw [hstill] at hnow
  generalize s.queueEmptied.failWrites [w] = u at *
  refine Does.of_done hexec ⟨?_, ?_⟩ only
  · rw [settle_stg]
    exact hqueue
  · rw [settle_flt_sluAt, ← hnow]
    rfl

theorem sluiceFaultExpiry_does {at_ : Nat} (hat : s.flt.sluAt = some at_) :
    Does .sluiceFaultExpiry s [.now, .flt] fun t => t.flt.sluAt = none ∧ t.now = max s.now (at_ + msT) := by
  have hexec : exec .sluiceFaultExpiry s = done ((s.reach (at_ + msT)).updFlt fun f => { f with sluAt := none }) := by
    change execSluiceFaultExpiry s = _
    unfold execSluiceFaultExpiry
    rw [hat]
  refine Does.of_done hexec ⟨?_, ?_⟩ (((only_reach s _).mono (parts_subset rfl)).trans ((only_updFlt _ _).mono (parts_subset rfl)))
  · rw [settle_flt_sluAt]
    rfl
  · rw [settle_now]
    rfl

/-- Settles O24. -/
theorem nodeReportsReachTheFaultRecords : Obligations.NodeReportsReachTheFaultRecords := by
  intro s
  exact ⟨fun _ _ _ _ => event_of_pond, fun _ _ _ => event_aligns, fun _ _ _ => event_sense, fun _ _ _ => event_converters,
    fun _ _ _ => lossReport_fault, fun _ _ _ => lossReport_cleared, fun _ _ _ => lossReport_base, fun _ _ => lossReport_contact,
    fun _ _ => lossResponse_does, fun _ _ => faultedPanReturn_does, fun _ => faultOrder_does, fun _ _ _ _ => windowExitPending_does,
    fun _ _ _ _ => tallyReport_does, fun _ _ _ _ => sample_of_pond, fun _ _ _ => sample_discarded, fun _ _ _ _ => sample_placed,
    setDeferralLimit_of_young, fun _ _ hq => setDeferralLimit_of_old hq, fun _ => sluiceFaultExpiry_does⟩

end Sys2Proof.Machine
end

section
/-! SUPPORT. Host writes as they arrive (R424 to R428, R501), the writes that the hub serves itself (R429, R432, R502, R507, R509), and the
proof of the obligation about them. -/

namespace Sys2Proof.Machine

-- The joined text is checked under a memory limit that counts every thread's stack: one proof at a time.
set_option Elab.async false

variable {s t u : State} {r : Role} {off : Nat} {v : Word} {ps : List Part} {P : State → Prop}

/-! ### The loads of a set do not depend on the host window (R60) -/

section
variable (f : HostWin → HostWin)

theorem applyCW_updHw : applyCW (s.updHw f) = applyCW s := rfl
theorem openLoops_updHw : openLoops (s.updHw f) = openLoops s := rfl
theorem recompute_updHw : recompute (s.updHw f) = recompute s := rfl
theorem rtcapOf_updHw : (s.updHw f).rtcapOf = s.rtcapOf := rfl
theorem thcapOf_updHw : (s.updHw f).thcapOf = s.thcapOf := rfl
theorem budgetMoved_updHw : budgetMoved (s.updHw f) = budgetMoved s := rfl
theorem diePhase_updHw : diePhase (s.updHw f) = diePhase s := rfl
theorem bandRow_updHw : (s.updHw f).bandRow = s.bandRow := rfl
theorem regions_updHw : (s.updHw f).regions = s.regions := rfl
theorem rimg_updHw : (s.updHw f).rimg = s.rimg := rfl
theorem starts_updHw : (s.updHw f).starts = s.starts := rfl
theorem startWrites_updHw : (s.updHw f).startWrites = s.startWrites := rfl
theorem regionItems_updHw : (s.updHw f).regionItems = s.regionItems := rfl
theorem refPlans_updHw : (s.updHw f).refPlans = s.refPlans := rfl
theorem kept_updHw : (s.updHw f).kept = s.kept := rfl
theorem spread_updHw : (s.updHw f).spread = s.spread := rfl
theorem loadsOf_updHw : (s.updHw f).loadsOf = s.loadsOf := rfl

theorem compose_updHw (ws : List SWrite) : compose (s.updHw f) ws = compose s ws := by
  unfold compose
  rw [applyCW_updHw, openLoops_updHw, rtcapOf_updHw, thcapOf_updHw, budgetMoved_updHw, diePhase_updHw, recompute_updHw, bandRow_updHw,
    regions_updHw, rimg_updHw]
  rfl

theorem composeSet_updHw (ws : List SWrite) : (s.updHw f).composeSet ws = s.composeSet ws := by
  unfold State.composeSet
  rw [compose_updHw, applyCW_updHw, starts_updHw, startWrites_updHw, regions_updHw]
  rfl

theorem setLoads_updHw (ws : List SWrite) : (s.updHw f).setLoads ws = s.setLoads ws := by
  unfold State.setLoads
  rw [composeSet_updHw]
  dsimp only
  unfold State.setItems
  rw [loadsOf_updHw, regionItems_updHw, refPlans_updHw, kept_updHw, spread_updHw, regions_updHw]

theorem State.Fits.updHw {w : SWrite} (h : s.Fits w) : (s.updHw f).Fits w := by
  unfold State.Fits
  rw [setLoads_updHw]
  exact h

end

/-- Single writes are units of their own. -/
theorem unitsOf_single : ∀ {l : List SWrite}, (∀ x ∈ l, x.grp = 0) → unitsOf l = l.map fun w => [w]
  | [], _ => rfl
  | w :: l, h => by
    have hw : w.grp = 0 := h w List.mem_cons_self
    unfold unitsOf
    dsimp only
    rw [if_pos hw, unitsOf_single fun x hx => h x (List.mem_cons_of_mem _ hx)]
    rfl

theorem foldl_fixed {α β : Type} {f : β → α → β} {b : β} : ∀ {l : List α}, (∀ a ∈ l, f b a = b) → l.foldl f b = b
  | [], _ => rfl
  | a :: l, h => by
    rw [List.foldl_cons, h a List.mem_cons_self]
    exact foldl_fixed fun x hx => h x (List.mem_cons_of_mem _ hx)

/-- No write that stands alone and fits is too large (R60). -/
theorem failOversize_of_fits (h : ∀ x ∈ s.stg.queue, x.grp = 0 ∧ s.Fits x) : s.failOversize = s := by
  unfold State.failOversize
  rw [unitsOf_single fun x hx => (h x hx).1]
  refine foldl_fixed fun u hu => ?_
  obtain ⟨x, hx, rfl⟩ := List.mem_map.1 hu
  refine if_neg ?_
  have hfits : topLoad (s.setLoads [x]) ≤ 96 := (h x hx).2
  simp [Nat.not_lt.2 hfits]

/-! ### A write reaches the hub (R424, R436, R501) -/

/-- A write has reached the hub. -/
def State.noted (s : State) : State := s.updHw fun h => { h with lastWrite := s.now, lastEmu := none, lastTkt := false }

theorem serve_of_empty (h : s.hw.queue = []) : s.serve = s := by
  unfold State.serve
  rw [h]

theorem hostDone_settle : HostDone (settle s) ↔ HostDone s := by
  unfold HostDone
  rw [settle_hw_last, settle_hw_lastTkt]

theorem arrive_of_hosts (hh : s.Hosts r) (h8 : off ≠ 8) (hk : wkind off ≠ .unassigned) : s.arrive off v =
    match wkind off with
    | .hw => (s.noted.hwWrite off v).lastIs .done
    | .emu need =>
      if off = 0xB08 ∧ s.noted.hw.sminor = 0 then s.noted.lastIs .failed
      else if r.rank < (s.noted.needRole off (s.noted.hw.selOf off) v need).rank then s.noted.denyWrite r false
      else s.noted.enqueue off v r false
    | .ticket need =>
      if r.rank < (s.noted.needRole off (s.noted.hw.selOf off) v need).rank then s.noted.denyWrite r true else s.noted.enqueue off v r true
    | _ => s.noted.denyWrite r false := by
  obtain ⟨hoff, hguard, hboot, hrole⟩ := hh
  unfold State.arrive
  rw [if_neg hoff]
  refine (if_neg (not_or.2 ⟨hguard, hboot⟩)).trans ((if_neg h8).trans ((if_neg hk).trans ?_))
  have hrole' : s.noted.hw.role = some r := hrole
  dsimp only
  rw [show (s.updHw fun h => { h with lastWrite := s.now, lastEmu := none, lastTkt := false }) = s.noted from rfl, hrole'] <;> rfl

theorem arrive_hw (hh : s.Hosts r) (hk : wkind off = .hw) : s.arrive off v = (s.noted.hwWrite off v).lastIs .done := by
  have h8 : off ≠ 8 := by
    rintro rfl
    exact absurd hk (by decide)
  rw [arrive_of_hosts hh h8 (by rw [hk]; exact WKind.noConfusion), hk]

/-- A hardware write is served as it arrives (R424). -/
theorem hostCmd_hw (hh : s.Hosts r) (hk : wkind off = .hw) (hq : (s.noted.hwWrite off v).hw.queue = s.hw.queue) :
    s.hostCmd off v = (s.noted.hwWrite off v).lastIs .done := by
  unfold State.hostCmd
  dsimp only
  rw [arrive_hw hh hk]
  split
  · next h => exact serve_of_empty (hq.trans (List.isEmpty_iff.1 h.1))
  · rfl

theorem only_noted (s : State) : Only [.hw] s s.noted := only_updHw s _

/-- What a hardware write of the host does, from the change that it makes. -/
theorem Does.of_hw {c : Instr} (hc : exec c s = done (s.hostCmd off v)) (hh : s.Hosts r) (hk : wkind off = .hw) (he : s.noted.hwWrite off v = u)
    (hq : u.hw.queue = s.hw.queue) (hps : Part.hw ∈ ps) (only : Only ps s.noted u) (hp : P (settle (u.lastIs .done))) : Does c s ps P := by
  subst he
  have hhw : [Part.hw] ⊆ ps := List.cons_subset.2 ⟨hps, List.nil_subset _⟩
  rw [hostCmd_hw hh hk hq] at hc
  exact Does.of_done hc hp ((((only_noted s).mono hhw).trans only).trans ((only_lastIs _ _).mono hhw))

theorem lastIs_done (h : u.hw.lastTkt = false) : HostDone (settle (u.lastIs .done)) := hostDone_settle.2 ⟨rfl, h⟩

/-! ### What the hub serves itself (R429, R432, R502, R507, R509) -/

theorem hbeat_in_run (hh : s.Hosts r) (v : Word) (hrun : s.hw.bstate = .run) :
    Does (.hbeat v) s [.hw] fun t => t.hw.hibeat = s.now ∧ HostDone t ∧ t.hw.role = some r := by
  have he : s.noted.hwWrite 0x14 v = s.noted.updHw fun h => { h with hibeat := s.now } := if_pos hrun
  refine Does.of_hw rfl hh (by decide) he rfl (by simp) (only_updHw _ _) ⟨?_, lastIs_done rfl, ?_⟩
  · rw [settle_hw_hibeat]
    rfl
  · obtain ⟨-, -, -, hrole⟩ := hh
    rw [settle_hw_role]
    exact hrole

theorem hbeat_not_in_run (hh : s.Hosts r) (v : Word) (hrun : s.hw.bstate ≠ .run) :
    Does (.hbeat v) s [.hw] fun t => t.hw.hibeat = s.hw.hibeat ∧ HostDone t := by
  have he : s.noted.hwWrite 0x14 v = s.noted := if_neg hrun
  refine Does.of_hw rfl hh (by decide) he rfl (by simp) (.refl _ _) ⟨?_, lastIs_done rfl⟩
  rw [settle_hw_hibeat]
  rfl

/-- What a change of session leaves of the host window: the block's state, the queue and the status of the latest write. -/
def SameWrites (s t : State) : Prop :=
  t.hw.bstate = s.hw.bstate ∧ t.hw.queue = s.hw.queue ∧ t.hw.last = s.hw.last ∧ t.hw.lastTkt = s.hw.lastTkt ∧ t.hw.sminor = s.hw.sminor ∧
  t.hw.attaches = s.hw.attaches ∧ t.hw.attachV = s.hw.attachV ∧ t.hw.lastWrite = s.hw.lastWrite

theorem SameWrites.refl (s : State) : SameWrites s s := ⟨rfl, rfl, rfl, rfl, rfl, rfl, rfl, rfl⟩

theorem SameWrites.trans (h : SameWrites s t) (g : SameWrites t u) : SameWrites s u := by
  obtain ⟨h1, h2, h3, h4, h5, h6, h7, h8⟩ := h
  obtain ⟨g1, g2, g3, g4, g5, g6, g7, g8⟩ := g
  exact ⟨g1.trans h1, g2.trans h2, g3.trans h3, g4.trans h4, g5.trans h5, g6.trans h6, g7.trans h7, g8.trans h8⟩

theorem endLoad_sameWrites (s : State) : SameWrites s s.endLoad := by
  unfold State.endLoad
  split <;> exact .refl _

theorem endSession_sameWrites (s : State) : SameWrites s s.endSession := by
  unfold State.endSession
  split
  · exact .trans (t := s.updHw fun h => { h with role := some .operator, sesState := 0, outstanding := false }) (.refl _) (endLoad_sameWrites _)
  · exact .refl _

theorem dropSession_sameWrites (s : State) : SameWrites s s.dropSession := by
  unfold State.dropSession
  split
  · exact (endSession_sameWrites s).trans (.refl _)
  · exact .refl _

theorem Only.hw_eq (h : Only ps s t) (hp : Part.hw ∉ ps := by simp) : t.hw = { s.hw with intcause := t.hw.intcause } := by
  obtain ⟨heq, -⟩ : _ ∧ _ := h.2 .hw hp
  exact heq

theorem Only.sameWrites (h : Only ps s t) (hp : Part.hw ∉ ps := by simp) : SameWrites s t := by
  unfold SameWrites
  rw [h.hw_eq hp]
  exact ⟨rfl, rfl, rfl, rfl, rfl, rfl, rfl, rfl⟩

/-- The host has left, but for the block's state (R433). -/
def State.hostGone (s : State) : State :=
  s.dropSession.abandonBundles.updHw fun h => { h with role := none, sesState := 0, outstanding := false, atState := 0 }

theorem unattend_eq (s : State) : s.unattend = s.hostGone.setB .unattended := rfl

theorem hostGone_sameWrites (s : State) : SameWrites s s.hostGone :=
  ((dropSession_sameWrites s).trans (only_abandonBundles _).sameWrites).trans (.refl _)

theorem hostGone_hw (s : State) : s.hostGone.hw.role = none ∧ s.hostGone.hw.atState = 0 := ⟨rfl, rfl⟩

/-- The block as the host leaves it. -/
def State.leftRun (s : State) : State := (s.hostGone.updHw fun h => { h with bstate := .unattended }).cause 5

theorem unattend_of_run (h : s.hw.bstate = .run) : s.unattend = s.leftRun := by
  obtain ⟨hb, -⟩ := hostGone_sameWrites s
  rw [unattend_eq]
  exact setB_eq (by rw [hb, h]; exact BState.noConfusion)

theorem leftRun_hw (s : State) : s.leftRun.hw.bstate = .unattended ∧ s.leftRun.hw.role = none ∧ s.leftRun.hw.atState = 0 ∧
    s.leftRun.hw.queue = s.hw.queue ∧ s.leftRun.hw.lastTkt = s.hw.lastTkt ∧ s.leftRun.hw.intcause.getLsbD 5 = true := by
  obtain ⟨-, hq, -, htkt, -⟩ := hostGone_sameWrites s
  exact ⟨rfl, rfl, rfl, hq, htkt, cause_intcause _ (by decide)⟩

theorem only_leftRun (s : State) : Only [.stg, .hw] s s.leftRun :=
  (((((only_dropSession s).mono (parts_subset rfl)).trans ((only_abandonBundles _).mono (parts_subset rfl))).trans
    ((only_updHw _ _).mono (parts_subset rfl))).trans ((only_updHw _ _).mono (parts_subset rfl))).trans ((only_cause _ 5).mono (List.nil_subset _))

theorem detach_does (hh : s.Hosts r) (v : Word) (hv : v.getLsbD 0 = true) (hrun : s.hw.bstate = .run) :
    Does (.detach v) s [.stg, .hw, .ports] fun t =>
      t.hw.bstate = .unattended ∧ t.hw.role = none ∧ t.hw.atState = 0 ∧ t.hw.intcause.getLsbD 5 = true ∧ HostDone t := by
  have he : s.noted.hwWrite 0x0C v = s.noted.leftRun := (if_pos ⟨hv, hrun⟩).trans (unattend_of_run hrun)
  obtain ⟨hb, hrole, hat, hq, htkt, hcause⟩ := leftRun_hw s.noted
  have hlast : ∀ u : State, (u.lastIs .done).hw.bstate = u.hw.bstate ∧ (u.lastIs .done).hw.role = u.hw.role ∧
      (u.lastIs .done).hw.atState = u.hw.atState ∧ (u.lastIs .done).hw.intcause = u.hw.intcause := fun _ => ⟨rfl, rfl, rfl, rfl⟩
  have only := (only_leftRun s.noted).mono (qs := [.stg, .hw, .ports]) (parts_subset rfl)
  have hcmd : exec (.detach v) s = done (s.hostCmd 0x0C v) := rfl
  have htkt' : s.noted.leftRun.hw.lastTkt = false := htkt
  refine Does.of_hw hcmd hh (by decide) he hq (by simp) only ?_
  generalize s.noted.leftRun = u at *
  obtain ⟨lb, lrole, lat, lcause⟩ := hlast u
  rw [settle_hw_bstate, settle_hw_role, settle_hw_atState, lb, lrole, lat]
  exact ⟨hb, hrole, hat, settle_intcause _ 5 (by rw [lcause, hcause]), lastIs_done htkt'⟩

/-! ### Bundles and snapshots (R166, R502) -/

theorem wrbnd_does (hh : s.Hosts r) (num : Byte) : Does (.wrbnd num) s [.hw] fun t => t.hw.wrbnd = num.toNat ∧ HostDone t := by
  have hbit : bitOf (num.setWidth 32) 8 = false := by
    unfold bitOf
    rw [BitVec.getLsbD_setWidth, BitVec.getLsbD_of_ge _ _ (by decide)]
    rfl
  have hnum : ufield (num.setWidth 32) 0 8 = num.toNat := by
    simp [ufield]
    omega
  have he : s.noted.hwWrite 0x5C (num.setWidth 32) = s.noted.updHw fun h => { h with wrbnd := num.toNat } := by
    refine (if_neg (ne_true_of_eq_false hbit)).trans ?_
    rw [hnum]
  refine Does.of_hw rfl hh (by decide) he rfl (by simp) (only_updHw _ _) ⟨?_, lastIs_done rfl⟩
  rw [settle_hw_wrbnd]
  rfl

/-- A close bit above a field leaves the field. -/
theorem ufield_or_close {n : Nat} (x : BitVec n) (hn : n ≤ 8) : ufield (x.setWidth 32 ||| 0x100) 0 n = x.toNat := by
  have hx : x.toNat < 2 ^ 32 := Nat.lt_of_lt_of_le x.isLt (Nat.pow_le_pow_right (by decide) (Nat.le_trans hn (by decide)))
  have h256 : 256 % 2 ^ n = 0 := Nat.mod_eq_zero_of_dvd (Nat.pow_dvd_pow (n := 8) 2 hn)
  rw [ufield_zero, BitVec.toNat_or, BitVec.toNat_setWidth, Nat.mod_eq_of_lt hx, Nat.or_mod_two_pow]
  change x.toNat % 2 ^ n ||| 256 % 2 ^ n = x.toNat
  rw [h256, Nat.or_zero, Nat.mod_eq_of_lt x.isLt]

theorem bitOf_or_close {n : Nat} (x : BitVec n) : bitOf (x.setWidth 32 ||| 0x100) 8 = true := by
  unfold bitOf
  rw [BitVec.getLsbD_or, Bool.or_eq_true]
  exact .inr (by decide)

theorem bundleClose_empty (hh : s.Hosts r) (num : Byte) (hnone : s.stg.bundles.get [] num.toNat = [])
    (hfits : ∀ x ∈ s.stg.queue, x.grp = 0 ∧ s.Fits x) : Does (.bundleClose num) s [.hw] fun t => t.hw.wrbnd = 0 ∧ HostDone t := by
  have hclose : s.noted.closeBundle num.toNat = s.noted := by
    have h : s.noted.stg.bundles.get [] num.toNat = [] := hnone
    unfold State.closeBundle
    rw [h]
  have hover : s.noted.failOversize = s.noted := failOversize_of_fits fun x hx => ⟨(hfits x hx).1, (hfits x hx).2.updHw _⟩
  have he : s.noted.hwWrite 0x5C (num.setWidth 32 ||| 0x100) = s.noted.updHw fun h => { h with wrbnd := 0 } := by
    refine (if_pos (bitOf_or_close num)).trans ?_
    rw [ufield_or_close num (by decide), hclose, hover]
  refine Does.of_hw rfl hh (by decide) he rfl (by simp) (only_updHw _ _) ⟨?_, lastIs_done rfl⟩
  rw [settle_hw_wrbnd]
  rfl

/-- A host's request for a slot (R166). -/
theorem snapReq_slot (s : State) (k : Nat) (rst : Bool) :
    (s.snapReq k rst).tel.snaps.get {} k =
      (let x := s.tel.snaps.get {} k
       let late := decide (s.epochAt + epochT ≤ s.now)
       if x.filling then { x with again := true, rst := x.rst || rst }
       else { x with st := 1, again := false, rst := x.rst || rst, late := if x.st = 1 then x.late else late }) := Tbl.get_set_same ..

theorem snapReq_other (s : State) {k j : Nat} (h : j ≠ k) (rst : Bool) : (s.snapReq k rst).tel.snaps.get {} j = s.tel.snaps.get {} j :=
  Tbl.get_set_other _ _ _ h

theorem snapReq_fresh {k : Nat} (h : (s.tel.snaps.get {} k).filling = false) (rst : Bool) :
    ((s.snapReq k rst).tel.snaps.get {} k).st = 1 ∧ ((s.snapReq k rst).tel.snaps.get {} k).filling = false ∧
    ((s.snapReq k rst).tel.snaps.get {} k).rst = ((s.tel.snaps.get {} k).rst || rst) := by
  rw [snapReq_slot]
  dsimp only
  rw [if_neg (ne_true_of_eq_false h)]
  exact ⟨rfl, h, rfl⟩

theorem snapReq_filling {k : Nat} (h : (s.tel.snaps.get {} k).filling = true) (rst : Bool) :
    ((s.snapReq k rst).tel.snaps.get {} k).again = true ∧ ((s.snapReq k rst).tel.snaps.get {} k).st = (s.tel.snaps.get {} k).st := by
  rw [snapReq_slot]
  dsimp only
  rw [if_pos h]
  exact ⟨rfl, rfl⟩

theorem snpreq_of_host (hh : s.Hosts r) (v : Word) :
    Does (.snpreq false v) s [.tel, .hw] fun t => t.tel = (s.snapReq (v.toNat % 4) (v.getLsbD 4)).tel ∧ HostDone t := by
  have hslot : ufield v 0 2 = v.toNat % 4 := ufield_zero v 2
  have he : s.noted.hwWrite 0xE00 v = s.noted.snapReq (v.toNat % 4) (v.getLsbD 4) := by
    rw [← hslot]
    rfl
  refine Does.of_hw rfl hh (by decide) he rfl (by simp) ((only_snapReq ..).mono (parts_subset rfl)) ⟨?_, lastIs_done rfl⟩
  rw [settle_tel]
  rfl

theorem snpreq_fresh (hh : s.Hosts r) (v : Word) (hf : (s.tel.snaps.get {} (v.toNat % 4)).filling = false) :
    Does (.snpreq false v) s [.tel, .hw] fun t =>
      (t.tel.snaps.get {} (v.toNat % 4)).st = 1 ∧ (t.tel.snaps.get {} (v.toNat % 4)).filling = false ∧
      (t.tel.snaps.get {} (v.toNat % 4)).rst = ((s.tel.snaps.get {} (v.toNat % 4)).rst || v.getLsbD 4) ∧ HostDone t := by
  obtain ⟨hst, hfill, hrst⟩ := snapReq_fresh hf (v.getLsbD 4)
  refine (snpreq_of_host hh v).imp fun t ⟨htel, hdone⟩ => ?_
  rw [htel]
  exact ⟨hst, hfill, hrst, hdone⟩

theorem snpreq_filling (hh : s.Hosts r) (v : Word) (hf : (s.tel.snaps.get {} (v.toNat % 4)).filling = true) :
    Does (.snpreq false v) s [.tel, .hw] fun t =>
      (t.tel.snaps.get {} (v.toNat % 4)).again = true ∧
      (t.tel.snaps.get {} (v.toNat % 4)).st = (s.tel.snaps.get {} (v.toNat % 4)).st ∧ HostDone t := by
  obtain ⟨hagain, hst⟩ := snapReq_filling hf (v.getLsbD 4)
  refine (snpreq_of_host hh v).imp fun t ⟨htel, hdone⟩ => ?_
  rw [htel]
  exact ⟨hagain, hst, hdone⟩

theorem snpreq_of_core (v : Word) (hrun : s.sys.coreRun = true) (hf : (s.tel.snaps.get {} 4).filling = false) :
    Does (.snpreq true v) s [.tel] fun t =>
      (t.tel.snaps.get {} 4).st = 1 ∧ (t.tel.snaps.get {} 4).rst = ((s.tel.snaps.get {} 4).rst || v.getLsbD 4) ∧
      ∀ k, k ≠ 4 → t.tel.snaps.get {} k = s.tel.snaps.get {} k := by
  have hexec : exec (.snpreq true v) s = done (s.snapReq 4 (bitOf v 4)) := if_pos hrun
  obtain ⟨hst, -, hrst⟩ := snapReq_fresh hf (bitOf v 4)
  refine Does.of_done hexec ⟨?_, ?_, fun k hk => ?_⟩ (only_snapReq ..)
  · rw [settle_tel, hst]
  · rw [settle_tel, hrst]
    rfl
  · rw [settle_tel, snapReq_other s hk]

/-! ### Selectors, enables, response words and pending bits (R416, R429, R500, R509) -/

theorem talsel_does (hh : s.Hosts r) (v : Word) : Does (.talsel v) s [.flt, .hw] fun t => t.hw.talsel = v &&& 0x3F3FFF ∧ t.flt.talReady = false ∧ HostDone t := by
  refine Does.of_hw rfl hh (by decide) (u := (s.noted.updHw fun h => { h with talsel := v &&& 0x3F3FFF }).updFlt fun f => { f with talReady := false })
    rfl rfl (by simp) (((only_updHw _ _).mono (parts_subset rfl)).trans ((only_updFlt _ _).mono (parts_subset rfl))) ⟨?_, ?_, lastIs_done rfl⟩
  · rw [settle_hw_talsel]
    rfl
  · rw [settle_flt_talReady]
    rfl

/-- The pending bits of window exits that a word names are cleared (R509). -/
def TelDyn.clearExits (v : Word) (t : TelDyn) : TelDyn :=
  { t with wxFast := t.wxFast && !bitOf v 0, wxSlowV := t.wxSlowV && !bitOf v 1, wxSlowI := t.wxSlowI && !bitOf v 2 }

theorem rwx_does (hh : s.Hosts r) (v : Word) (hr : s.hasReg s.hw.regsel = true) : Does (.rwx v) s [.regs, .hw] fun t =>
    (t.reg s.hw.regsel).tel = TelDyn.clearExits v (s.reg s.hw.regsel).tel ∧ HostDone t := by
  have he : s.noted.hwWrite 0x10CC v = s.noted.updTel s.hw.regsel (TelDyn.clearExits v) := if_neg (ne_false_of_eq_true hr)
  refine Does.of_hw rfl hh (by decide) he rfl (by simp) ((only_updTel ..).mono (parts_subset rfl)) ⟨?_, lastIs_done rfl⟩
  rw [settle_reg_tel]
  exact congrArg Region.tel (State.updReg_reg_same s.noted s.hw.regsel fun x => { x with tel := TelDyn.clearExits v x.tel })

/-- A hardware register takes its bits. -/
theorem registerWrite_hw (hh : s.Hosts r) (hk : wkind off = .hw) {g : HostWin → HostWin} (he : s.noted.hwWrite off v = s.noted.updHw g)
    (hp : P (settle ((s.noted.updHw g).lastIs .done))) : Does (.registerWrite off v) s [.hw] P := by
  have hexec : exec (.registerWrite off v) s = done (s.arrive off v) := rfl
  rw [arrive_hw hh hk, he] at hexec
  exact Does.of_done hexec hp (((only_noted s).trans (only_updHw _ _)).trans (only_lastIs _ _))

/-- The selector registers and what they hold. -/
def HostWin.Selects (h : HostWin) (off : Nat) (v : Word) (sel : Nat) (t : HostWin) : Prop :=
  t.crsel = (if off = 0x60 then v.setWidth 16 else h.crsel) ∧ t.tpsel = (if off = 0x85C then sel else h.tpsel) ∧
  t.nodesel = (if off = 0xA00 then sel else h.nodesel) ∧ t.trcsel = (if off = 0xB28 then sel else h.trcsel) ∧
  t.loopsel = (if off = 0xC00 then sel else h.loopsel) ∧ t.coefsel = (if off = 0xC0C then sel else h.coefsel) ∧
  t.coefsh = (if off = 0xC10 then sel else h.coefsh) ∧ t.regsel = (if off = 0x1000 then sel else h.regsel)

theorem selects_settle {h : HostWin} {sel : Nat} : h.Selects off v sel (settle u).hw ↔ h.Selects off v sel u.hw := by
  unfold HostWin.Selects
  rw [settle_hw_crsel, settle_hw_tpsel, settle_hw_nodesel, settle_hw_trcsel, settle_hw_loopsel, settle_hw_coefsel, settle_hw_coefsh,
    settle_hw_regsel]

theorem selector_write (hh : s.Hosts r) {sel : Nat} {g : HostWin → HostWin} (hk : wkind off = .hw)
    (he : s.noted.hwWrite off v = s.noted.updHw g) (hg : (g s.noted.hw).lastTkt = false) (hs : s.hw.Selects off v sel (g s.noted.hw)) :
    Does (.registerWrite off v) s [.hw] fun t => HostDone t ∧ s.hw.Selects off v sel t.hw :=
  registerWrite_hw hh hk he ⟨lastIs_done hg, selects_settle.2 hs⟩

theorem selectors_take (hh : s.Hosts r) (off : Nat) (v : Word) (sel : Nat)
    (hmem : (off, sel) ∈ [(0x60, v.toNat % 2 ^ 16), (0x85C, v.toNat % 2 ^ 5), (0xA00, v.toNat % 2 ^ 14), (0xB28, v.toNat % 2 ^ 11),
        (0xC00, v.toNat % 2 ^ 13), (0xC0C, v.toNat % 2 ^ 14), (0xC10, v.toNat % 2 ^ 6), (0x1000, v.toNat % 2 ^ 10)]) :
    Does (.registerWrite off v) s [.hw] fun t => HostDone t ∧ s.hw.Selects off v sel t.hw := by
  simp only [List.mem_cons, List.not_mem_nil, or_false, Prod.mk.injEq] at hmem
  simp only [← ufield_zero] at hmem
  obtain ⟨rfl, rfl⟩ | ⟨rfl, rfl⟩ | ⟨rfl, rfl⟩ | ⟨rfl, rfl⟩ | ⟨rfl, rfl⟩ | ⟨rfl, rfl⟩ | ⟨rfl, rfl⟩ | ⟨rfl, rfl⟩ := hmem
  · exact selector_write hh (by decide) (g := fun h => { h with crsel := v.setWidth 16 }) rfl rfl ⟨rfl, rfl, rfl, rfl, rfl, rfl, rfl, rfl⟩
  · exact selector_write hh (by decide) (g := fun h => { h with tpsel := ufield v 0 5 }) rfl rfl ⟨rfl, rfl, rfl, rfl, rfl, rfl, rfl, rfl⟩
  · exact selector_write hh (by decide) (g := fun h => { h with nodesel := ufield v 0 14 }) rfl rfl ⟨rfl, rfl, rfl, rfl, rfl, rfl, rfl, rfl⟩
  · exact selector_write hh (by decide) (g := fun h => { h with trcsel := ufield v 0 11 }) rfl rfl ⟨rfl, rfl, rfl, rfl, rfl, rfl, rfl, rfl⟩
  · exact selector_write hh (by decide) (g := fun h => { h with loopsel := ufield v 0 13 }) rfl rfl ⟨rfl, rfl, rfl, rfl, rfl, rfl, rfl, rfl⟩
  · exact selector_write hh (by decide) (g := fun h => { h with coefsel := ufield v 0 14 }) rfl rfl ⟨rfl, rfl, rfl, rfl, rfl, rfl, rfl, rfl⟩
  · exact selector_write hh (by decide) (g := fun h => { h with coefsh := ufield v 0 6 }) rfl rfl ⟨rfl, rfl, rfl, rfl, rfl, rfl, rfl, rfl⟩
  · exact selector_write hh (by decide) (g := fun h => { h with regsel := ufield v 0 10 }) rfl rfl ⟨rfl, rfl, rfl, rfl, rfl, rfl, rfl, rfl⟩

theorem inten_does (hh : s.Hosts r) (v : Word) : Does (.registerWrite 0x2C v) s [.hw] fun t =>
    t.hw.inten = v.setWidth 9 ∧ t.ports.intOut = decide (t.hw.intcause &&& t.hw.inten ≠ 0) := by
  refine registerWrite_hw hh (by decide) (g := fun h => { h with inten := v.setWidth 9 }) rfl ⟨?_, rfl⟩
  rw [settle_hw_inten]
  rfl

theorem response_does (hh : s.Hosts r) (k : Nat) (v : Word) (hk : k < 24) :
    Does (.registerWrite (0x140 + 4 * k) v) s [.hw] fun t => t.hw.resp.get 0 k = v := by
  have hrange : inR 0x140 0x19C (0x140 + 4 * k) = true := by
    unfold inR
    rw [Bool.and_eq_true, decide_eq_true_iff, decide_eq_true_iff]
    omega
  have hkind : wkind (0x140 + 4 * k) = .hw := by
    unfold wkind
    rw [if_neg (by omega), if_pos (.inr hrange)]
  have hplace : (0x140 + 4 * k - 0x140) / 4 = k := by omega
  have he : s.noted.hwWrite (0x140 + 4 * k) v = s.noted.updHw fun h => { h with resp := h.resp.set 0 k v } := by
    unfold State.hwWrite
    split
    case h_19 => rw [if_pos hrange, hplace]
    all_goals omega
  refine registerWrite_hw hh hkind he ?_
  rw [settle_hw_resp]
  exact Tbl.get_set_same ..

/-- Settles O32. -/
theorem hostWritesThatTheHubServesItself : Obligations.HostWritesThatTheHubServesItself := by
  intro s r hh
  exact ⟨hbeat_in_run hh, hbeat_not_in_run hh, detach_does hh, fun num _ => wrbnd_does hh num, bundleClose_empty hh, snpreq_fresh hh, snpreq_filling hh,
    snpreq_of_core, talsel_does hh, rwx_does hh, fun off v sel _ => selectors_take hh off v sel, inten_does hh, response_does hh⟩

end Sys2Proof.Machine
end

section
/-! SUPPORT. Host writes that the firmware serves as they arrive (R387, R392, R426, R435 to R437, R459, R501, R506), and the proof of the
obligation about them. -/

namespace Sys2Proof.Machine

-- The joined text is checked under a memory limit that counts every thread's stack: one proof at a time.
set_option Elab.async false

variable {s t u : State} {r need : Role} {off : Nat} {v : Word} {ok : Bool} {ps : List Part} {P : State → Prop}

/-! ### A write that the firmware serves at once (R426, R501) -/

/-- The firmware has taken a write that came alone. -/
def State.emuTaken (s : State) (off : Nat) : State :=
  s.updHw fun h => { h with lastWrite := s.now, lastEmu := some off, lastTkt := false, last := .pending, queue := [] }

/-- The firmware has served it. -/
def State.served (s : State) (ok : Bool) : State := s.updHw fun h => { h with last := if ok then .done else .failed, lastEmu := none }

/-- Nothing but the write that the firmware serves is in hand. -/
def State.Alone (s : State) (off : Nat) : Prop := s.hw.lastEmu = some off ∧ s.hw.queue = [] ∧ s.stg.closing = []

/-- The role of a host is enough for a write. -/
def State.Allows (s : State) (r : Role) (off : Nat) (v : Word) (need : Role) : Prop := ¬ r.rank < (s.needRole off (s.hw.selOf off) v need).rank

theorem arrive_emu (hh : s.Hosts r) (hk : wkind off = .emu need) (hb : off = 0xB08 → s.hw.sminor ≠ 0) (ha : s.Allows r off v need) :
    s.arrive off v = s.noted.enqueue off v r false := by
  have h8 : off ≠ 8 := by
    rintro rfl
    exact WKind.noConfusion ((by decide : wkind 8 = .unassigned).symm.trans hk)
  rw [arrive_of_hosts hh h8 (by rw [hk]; exact WKind.noConfusion), hk]
  exact (if_neg fun h => hb h.1 h.2).trans (if_neg ha)

/-- The write as it waits in the queue (R426, R499). -/
def State.hostWrite (s : State) (off : Nat) (v : Word) (r : Role) : HWrite := { off := off, sel := s.hw.selOf off, v := v, aux := s.hw.coefsh, role := r }

theorem enqueue_open (h : s.shutOut = false) : s.enqueue off v r false = s.updHw fun h => { h with
    last := .pending, lastTkt := false, lastEmu := some off, queue := h.queue ++ [s.hostWrite off v r] } := if_neg (ne_true_of_eq_false h)

theorem serve_of_emu {w : HWrite} {rest : List HWrite} (hq : s.hw.queue = w :: rest) (ht : w.ticket = none) : s.serve =
    (let x := (s.updHw fun h => { h with queue := rest }).serveEmu w.off w.v
     let latest := x.1.hw.lastEmu.isSome && x.1.hw.queue.isEmpty
     (if latest then x.1.served x.2 else x.1).tryBundles) := by
  unfold State.serve
  rw [hq]
  dsimp only
  rw [ht]
  rfl

theorem tryBundles_of_none (h : s.stg.closing = []) : s.tryBundles = s := by
  unfold State.tryBundles
  rw [h]
  rfl

theorem serve_alone {w : HWrite} (hq : s.hw.queue = [w]) (ht : w.ticket = none)
    (he : (s.updHw fun h => { h with queue := [] }).serveEmu w.off w.v = (u, ok)) (hu : u.Alone off) : s.serve = u.served ok := by
  obtain ⟨hemu, hqueue, hclose⟩ := hu
  rw [serve_of_emu hq ht, he]
  dsimp only
  rw [hemu, hqueue]
  exact tryBundles_of_none hclose

theorem hostCmd_emu (hs : s.HostServed r) (hk : wkind off = .emu need) (hb : off ≠ 0xB08) (ha : s.Allows r off v need)
    (he : (s.emuTaken off).serveEmu off v = (u, ok)) (hu : u.Alone off) : s.hostCmd off v = u.served ok := by
  obtain ⟨hh, hq, hready, -⟩ := hs
  have hopen : s.noted.shutOut = false := by
    have hnoted : s.noted.hw.queue = [] := hq
    have hnready : s.noted.sys.ready = true := hready
    unfold State.shutOut
    rw [hnoted, hnready]
    rfl
  unfold State.hostCmd
  dsimp only
  rw [arrive_emu hh hk (fun h => absurd h hb) ha, enqueue_open hopen, hq]
  refine (if_pos ⟨rfl, hready⟩).trans ?_
  have hnoted : s.noted.hw.queue ++ [s.noted.hostWrite off v r] = [s.noted.hostWrite off v r] := by
    rw [show s.noted.hw.queue = [] from hq]
    rfl
  exact serve_alone hnoted rfl he hu

theorem only_emuTaken (s : State) (off : Nat) : Only [.hw] s (s.emuTaken off) := only_updHw s _

theorem only_served (s : State) (ok : Bool) : Only [.hw] s (s.served ok) := only_updHw s _

/-- What a write does that the firmware serves at once. -/
theorem Does.of_emu {c : Instr} (hc : exec c s = done (s.hostCmd off v)) (hs : s.HostServed r) (hk : wkind off = .emu need) (hb : off ≠ 0xB08)
    (ha : s.Allows r off v need) (he : (s.emuTaken off).serveEmu off v = (u, ok)) (hu : u.Alone off) (hps : Part.hw ∈ ps)
    (only : Only ps (s.emuTaken off) u) (hp : P (settle (u.served ok))) : Does c s ps P := by
  have hhw : [Part.hw] ⊆ ps := List.cons_subset.2 ⟨hps, List.nil_subset _⟩
  rw [hostCmd_emu hs hk hb ha he hu] at hc
  exact Does.of_done hc hp ((((only_emuTaken s off).mono hhw).trans only).trans ((only_served _ _).mono hhw))

theorem emuTaken_alone (hs : s.HostServed r) (off : Nat) : (s.emuTaken off).Alone off := ⟨rfl, rfl, hs.2.2.2⟩

theorem served_done (h : u.hw.lastTkt = false) : HostDone (settle (u.served true)) := hostDone_settle.2 ⟨rfl, h⟩

/-- A write that the firmware refuses. -/
theorem refused_does {c : Instr} (hc : exec c s = done (s.hostCmd off v)) (hs : s.HostServed r) (hk : wkind off = .emu need) (hb : off ≠ 0xB08)
    (ha : s.Allows r off v need) (he : (s.emuTaken off).serveEmu off v = (s.emuTaken off, false)) :
    Does c s [.hw] fun t => t.hw.last = .failed ∧ t.hw.sesState = s.hw.sesState ∧ t.hw.outstanding = s.hw.outstanding := by
  refine Does.of_emu hc hs hk hb ha he (emuTaken_alone hs off) (by simp) (.refl _ _) ⟨?_, ?_, ?_⟩
  · rw [settle_hw_last]
    rfl
  · rw [settle_hw_sesState]
    rfl
  · rw [settle_hw_outstanding]
    rfl

theorem rank_of_installer (h : r ≠ .operator) : ¬ r.rank < Role.installer.rank := by
  cases r
  · exact absurd rfl h
  · decide
  · decide

/-- Every role may write what an operator may. -/
theorem rank_of_operator (r : Role) : ¬ r.rank < Role.operator.rank := Nat.not_lt_zero _

theorem rank_of_maker (h : r = .maker) : ¬ r.rank < Role.maker.rank := by
  subst h
  decide

/-! ### Sessions (R435 to R437) -/

section
variable (hs : s.HostServed r)
include hs

/-- A fresh challenge is outstanding (R435). -/
def State.challenged (s : State) (q : Role) : State :=
  s.draw.updHw fun h => { h with
    sesState := 1, sesReq := q, outstanding := true, sesNum := h.sesNum + 1,
    challenge := (List.range 8).foldl (fun (t : Tbl Word) k => t.set 0 k (Config.challenge s.free k)) ([] : Tbl Word) }

omit hs in
theorem sesRequest_open {q : Role} (h5 : s.hw.sesState ≠ 5) (hkey : q = .installer → s.store.instKey.isSome = true) :
    s.sesRequest q = (s.challenged q, true) := by
  refine (if_neg h5).trans ((if_neg fun h => ?_).trans rfl)
  have hsome := hkey h.1
  have hnone := h.2
  rw [Option.isNone_iff_eq_none] at hnone
  rw [hnone] at hsome
  exact Bool.noConfusion hsome

omit hs in
theorem foldl_tbl_set (f : Nat → Word) {k : Nat} : ∀ (l : List Nat) (t : Tbl Word), (k ∈ l ∨ t.get 0 k = f k) →
    (l.foldl (fun (t : Tbl Word) k => t.set 0 k (f k)) t).get 0 k = f k
  | [], _, h => h.resolve_left List.not_mem_nil
  | a :: l, t, h => by
    refine foldl_tbl_set f l _ ?_
    by_cases hk : k = a
    · subst hk
      exact .inr (Tbl.get_set_same ..)
    · rw [Tbl.get_set_other _ _ _ hk]
      exact h.imp_left fun hmem => (List.mem_cons.1 hmem).resolve_left hk

omit hs in
theorem challenged_challenge (s : State) (q : Role) {k : Nat} (hk : k < 8) : (s.challenged q).hw.challenge.get 0 k = Config.challenge s.free k :=
  foldl_tbl_set (Config.challenge s.free) (List.range 8) [] (.inl (List.mem_range.2 hk))

omit hs in
theorem sesctl_request (w : BitVec 2) : bitOf (w.setWidth 32) 8 = false ∧ ufield (w.setWidth 32) 0 2 = w.toNat := by
  refine ⟨?_, ?_⟩
  · unfold bitOf
    rw [BitVec.getLsbD_setWidth, BitVec.getLsbD_of_ge _ _ (by decide)]
    rfl
  · have hw : w.toNat < 2 ^ 2 := w.isLt
    rw [ufield_zero, BitVec.toNat_setWidth]
    omega

omit hs in
theorem sesCtl_request (s : State) (w : BitVec 2) : s.sesCtl (w.setWidth 32) = match w.toNat with
    | 1 => s.sesRequest .installer
    | 2 => s.sesRequest .maker
    | _ => (s, false) := by
  obtain ⟨hbit, hfield⟩ := sesctl_request w
  refine (if_neg (ne_true_of_eq_false hbit)).trans ?_
  rw [hfield] <;> rfl

theorem challenge_does {c : Instr} {q : Role} (hc : exec c s = done (s.hostCmd 0x100 v)) (h5 : s.hw.sesState ≠ 5)
    (hkey : q = .installer → s.store.instKey.isSome = true) (hv : (s.emuTaken 0x100).sesCtl v = (s.emuTaken 0x100).sesRequest q) :
    Does c s [.free, .hw] fun t =>
      t.hw.sesState = 1 ∧ t.hw.outstanding = true ∧ t.hw.sesReq = q ∧ t.hw.sesNum = s.hw.sesNum + 1 ∧
      (∀ k < 8, t.hw.challenge.get 0 k = Config.challenge s.free k) ∧ t.hw.role = some r ∧ HostDone t := by
  have he : (s.emuTaken 0x100).serveEmu 0x100 v = ((s.emuTaken 0x100).challenged q, true) := hv.trans (sesRequest_open h5 hkey)
  have hclose : s.stg.closing = [] := hs.2.2.2
  have hrole : s.hw.role = some r := hs.1.2.2.2
  refine Does.of_emu hc hs rfl (by decide) (rank_of_operator r) he ⟨rfl, rfl, hclose⟩ (by simp)
    (((only_draw _).mono (parts_subset rfl)).trans ((only_updHw _ _).mono (parts_subset rfl))) ⟨?_, ?_, ?_, ?_, fun k hk => ?_, ?_, served_done rfl⟩
  · rw [settle_hw_sesState]
    rfl
  · rw [settle_hw_outstanding]
    rfl
  · rw [settle_hw_sesReq]
    rfl
  · rw [settle_hw_sesNum]
    rfl
  · rw [settle_hw_challenge]
    exact challenged_challenge (s.emuTaken 0x100) q hk
  · rw [settle_hw_role]
    exact hrole

theorem sessionRequest_open (w : BitVec 2) (h5 : s.hw.sesState ≠ 5) (hw : (w = 1 ∧ s.store.instKey.isSome = true) ∨ w = 2) :
    Does (.sessionRequest w) s [.free, .hw] fun t =>
      t.hw.sesState = 1 ∧ t.hw.outstanding = true ∧ t.hw.sesReq = (if w = 1 then .installer else .maker) ∧ t.hw.sesNum = s.hw.sesNum + 1 ∧
      (∀ k < 8, t.hw.challenge.get 0 k = Config.challenge s.free k) ∧ t.hw.role = some r ∧ HostDone t := by
  obtain ⟨rfl, hkey⟩ | rfl := hw
  · exact challenge_does hs (q := .installer) rfl h5 (fun _ => hkey) (sesCtl_request _ 1)
  · exact challenge_does hs (q := .maker) rfl h5 (fun h => Role.noConfusion h) (sesCtl_request _ 2)

theorem sessionRequest_locked (w : BitVec 2) (h5 : s.hw.sesState = 5) :
    Does (.sessionRequest w) s [.hw] fun t => t.hw.last = .failed ∧ t.hw.sesState = 5 ∧ t.hw.outstanding = s.hw.outstanding := by
  have hreq : ∀ q, (s.emuTaken 0x100).sesRequest q = (s.emuTaken 0x100, false) := fun q => if_pos h5
  have he : (s.emuTaken 0x100).serveEmu 0x100 (w.setWidth 32) = (s.emuTaken 0x100, false) := by
    refine (sesCtl_request _ w).trans ?_
    split
    · exact hreq _
    · exact hreq _
    · rfl
  have h := refused_does (c := .sessionRequest w) rfl hs rfl (by decide) (rank_of_operator r) he
  rwa [h5] at h

theorem sessionClose_does (w : BitVec 2) (hel : s.hw.elevated = true) (h1 : s.hw.imgState ≠ 1) (h2 : s.hw.imgState ≠ 2) :
    Does (.sessionClose w) s [.hw] fun t => t.hw.role = some .operator ∧ t.hw.sesState = 0 ∧ t.hw.outstanding = false ∧ HostDone t := by
  have he : (s.emuTaken 0x100).serveEmu 0x100 (w.setWidth 32 ||| 0x100) =
      ((s.emuTaken 0x100).updHw fun h => { h with role := some .operator, sesState := 0, outstanding := false }, true) := by
    refine (if_pos (bitOf_or_close w)).trans (congrArg (·, true) ((if_pos hel).trans ?_))
    exact if_neg (not_or.2 ⟨h1, h2⟩)
  have hclose : s.stg.closing = [] := hs.2.2.2
  refine Does.of_emu rfl hs rfl (by decide) (rank_of_operator r) he ⟨rfl, rfl, hclose⟩ (by simp) (only_updHw _ _) ⟨?_, ?_, ?_, served_done rfl⟩
  · rw [settle_hw_role]
    rfl
  · rw [settle_hw_sesState]
    rfl
  · rw [settle_hw_outstanding]
    rfl

theorem sesgo_submits (v : Word) (hv : v.getLsbD 0 = true) (ho : s.hw.outstanding = true) :
    Does (.sesgo v) s [.hw] fun t => t.hw.sesState = 2 ∧ t.hw.outstanding = false ∧ HostDone t := by
  have he : (s.emuTaken 0x108).serveEmu 0x108 v = ((s.emuTaken 0x108).updHw fun h => { h with sesState := 2, outstanding := false }, true) :=
    (if_neg (ne_false_of_eq_true hv)).trans (if_pos ho)
  have hclose : s.stg.closing = [] := hs.2.2.2
  refine Does.of_emu rfl hs rfl (by decide) (rank_of_operator r) he ⟨rfl, rfl, hclose⟩ (by simp) (only_updHw _ _) ⟨?_, ?_, served_done rfl⟩
  · rw [settle_hw_sesState]
    rfl
  · rw [settle_hw_outstanding]
    rfl

theorem sesgo_refused (v : Word) (hv : v.getLsbD 0 = true) (ho : s.hw.outstanding = false) :
    Does (.sesgo v) s [.hw] fun t => t.hw.last = .failed := by
  have he : (s.emuTaken 0x108).serveEmu 0x108 v = (s.emuTaken 0x108, false) :=
    (if_neg (ne_false_of_eq_true hv)).trans (if_neg (ne_true_of_eq_false ho))
  exact (refused_does (c := .sesgo v) rfl hs rfl (by decide) (rank_of_operator r) he).imp fun _ h => h.1

theorem instkeygo_does (v : Word) (hv : v.getLsbD 0 = true) (hr : r ≠ .operator) : Does (.instkeygo v) s [.store, .hw] fun t =>
    t.store = { s.store with instKey := some ((wordBytes s.hw.instkey 8).map (BitVec.ofNat 8)) } ∧ HostDone t := by
  have he : (s.emuTaken 0x10C).serveEmu 0x10C v = ((s.emuTaken 0x10C).keyGo, true) := congrArg (·, true) (if_pos hv)
  have hclose : s.stg.closing = [] := hs.2.2.2
  refine Does.of_emu rfl hs rfl (by decide) (rank_of_installer hr) he ⟨rfl, rfl, hclose⟩ (by simp) ((only_keyGo _).mono (parts_subset rfl))
    ⟨?_, served_done rfl⟩
  rw [settle_store]
  rfl

/-! ### Ledger queries, diode readings, the thermal reset and the trace (R337, R373, R392, R444) -/

theorem lqreq_does (v : Word) (h1 : 1 ≤ v.toNat % 32) (h16 : v.toNat % 32 ≤ 16) : Does (.lqreq v) s [.led, .hw] fun t =>
    t.led = { s.led with qst := 1, qcount := v.toNat % 32, qArmed := false } ∧ HostDone t := by
  have hn : ufield v 0 5 = v.toNat % 32 := ufield_zero v 5
  have he : (s.emuTaken 0x620).serveEmu 0x620 v =
      ((s.emuTaken 0x620).updLed fun l => { l with qst := 1, qcount := v.toNat % 32, qArmed := false }, true) := by
    refine (if_neg (by rw [hn]; omega)).trans ?_
    rw [hn]
  have hclose : s.stg.closing = [] := hs.2.2.2
  refine Does.of_emu rfl hs rfl (by decide) (rank_of_operator r) he ⟨rfl, rfl, hclose⟩ (by simp) ((only_updLed _ _).mono (parts_subset rfl))
    ⟨?_, served_done rfl⟩
  rw [settle_led]
  rfl

theorem lqreq_refused (v : Word) (h : v.toNat % 32 = 0 ∨ 16 < v.toNat % 32) : Does (.lqreq v) s [.hw] fun t => t.hw.last = .failed := by
  have hn : ufield v 0 5 = v.toNat % 32 := ufield_zero v 5
  have he : (s.emuTaken 0x620).serveEmu 0x620 v = (s.emuTaken 0x620, false) := if_pos (by rw [hn]; exact h)
  exact (refused_does (c := .lqreq v) rfl hs rfl (by decide) (rank_of_operator r) he).imp fun _ h => h.1

omit hs in
theorem diodeReq_eq {k : Nat} (h : s.hasReg k = true) :
    s.diodeReq k = s.updSys fun y => { y with diodeQ := if y.diodeQ.contains k then y.diodeQ else y.diodeQ ++ [k] } := by
  unfold State.diodeReq
  by_cases hq : s.sys.diodeQ.contains k = true
  · rw [if_neg fun hc => by rw [hq] at hc; exact Bool.noConfusion hc.2]
    unfold State.updSys
    dsimp only
    rw [if_pos hq]
  · rw [if_pos ⟨h, by rw [Bool.not_eq_true'] ; exact Bool.eq_false_iff.2 hq⟩]
    unfold State.updSys
    dsimp only
    rw [if_neg hq]

theorem dioreq_does (v : Word) (hv : v.getLsbD 16 = false) (hr : s.hasReg (v.toNat % 1024) = true) : Does (.dioreq v) s [.sys, .hw] fun t =>
    t.sys = { s.sys with diodeQ := if s.sys.diodeQ.contains (v.toNat % 1024) then s.sys.diodeQ else s.sys.diodeQ ++ [v.toNat % 1024] } ∧
    HostDone t := by
  have hn : ufield v 0 10 = v.toNat % 1024 := ufield_zero v 10
  have he : (s.emuTaken 0x904).serveEmu 0x904 v = ((s.emuTaken 0x904).updSys fun y => { y with
      diodeQ := if y.diodeQ.contains (v.toNat % 1024) then y.diodeQ else y.diodeQ ++ [v.toNat % 1024] }, true) := by
    refine (if_neg (ne_true_of_eq_false hv)).trans ?_
    rw [hn, diodeReq_eq (s := s.emuTaken 0x904) hr]
    exact if_pos hr
  have hclose : s.stg.closing = [] := hs.2.2.2
  refine Does.of_emu rfl hs rfl (by decide) (rank_of_operator r) he ⟨rfl, rfl, hclose⟩ (by simp) ((only_updSys _ _).mono (parts_subset rfl))
    ⟨?_, served_done rfl⟩
  rw [settle_sys]
  rfl

end

/-- The extremes and the least slack that the host sees, restarted (R392). -/
def ThDyn.rested (h : ThDyn) : ThDyn := { h with hostMax := none, hostMin := none, lslack := 0x7FFF }

theorem foldl_rested {k : Nat} : ∀ (l : List Nat) (u : State), (k ∈ l ∨ (u.reg k).th = (u.reg k).th.rested) →
    ((l.foldl (fun s r => s.updTh r ThDyn.rested) u).reg k).th = ((l.foldl (fun s r => s.updTh r ThDyn.rested) u).reg k).th.rested
  | [], _, h => h.resolve_left List.not_mem_nil
  | a :: l, u, h => by
    rw [List.foldl_cons]
    refine foldl_rested l _ ?_
    by_cases hk : k = a
    · subst hk
      exact .inr (by rw [updTh_th]; rfl)
    · rw [updTh_reg_other (h := hk)]
      exact h.imp_left fun hmem => (List.mem_cons.1 hmem).resolve_left hk

theorem thrst_rests (s : State) {k : Nat} (hk : k ∈ s.regions) : (s.thrst.reg k).th = (s.thrst.reg k).th.rested := foldl_rested s.regions s (.inl hk)

section
variable (hs : s.HostServed r)
include hs

theorem thrst_does (v : Word) (hv : v.getLsbD 0 = true) : Does (.thrst v) s [.regs, .hw] fun t => HostDone t ∧
    ∀ k ∈ s.regions, (t.reg k).th.hostMax = none ∧ (t.reg k).th.hostMin = none ∧ (t.reg k).th.lslack = 0x7FFF := by
  have he : (s.emuTaken 0x90C).serveEmu 0x90C v = ((s.emuTaken 0x90C).thrst, true) := congrArg (·, true) (if_pos hv)
  have only := only_thrst (s.emuTaken 0x90C)
  have hclose : s.stg.closing = [] := hs.2.2.2
  have hrest : ∀ k ∈ s.regions, ((s.emuTaken 0x90C).thrst.reg k).th = ((s.emuTaken 0x90C).thrst.reg k).th.rested :=
    fun k hk => thrst_rests (s.emuTaken 0x90C) hk
  have hsame := only.sameWrites
  have halone : (s.emuTaken 0x90C).thrst.Alone 0x90C := by
    unfold State.Alone
    rw [only.hw_eq, only.stg]
    exact ⟨rfl, rfl, hclose⟩
  generalize hu : (s.emuTaken 0x90C).thrst = u at *
  obtain ⟨-, -, -, htkt, -⟩ := hsame
  refine Does.of_emu rfl hs rfl (by decide) (rank_of_operator r) he halone (by simp) (only.mono (parts_subset rfl)) ⟨served_done htkt, fun k hk => ?_⟩
  have hreg : (u.served true).reg k = u.reg k := rfl
  rw [settle_reg_th, hreg, hrest k hk]
  exact ⟨rfl, rfl, rfl⟩

theorem trcctlClear_does (v : Word) (hr : r = .maker) : Does (.trcctlClear v) s [.log, .hw] fun t =>
    t.log = { s.log with en := v.getLsbD 0, stop := v.getLsbD 1, buf := [], wrapped := false } ∧ HostDone t := by
  have hclear : bitOf (v ||| 4) 2 = true := by
    unfold bitOf
    rw [BitVec.getLsbD_or, Bool.or_eq_true]
    exact .inr (by decide)
  have hbit : ∀ b, b < 2 → bitOf (v ||| 4) b = v.getLsbD b := fun b hb => by
    have h4 : (4 : Word).getLsbD b = false := by
      obtain rfl | rfl : b = 0 ∨ b = 1 := by omega
      · decide
      · decide
    unfold bitOf
    rw [BitVec.getLsbD_or, h4, Bool.or_false]
  have hlog : (s.emuTaken 0xB20).trcctl (v ||| 4) =
      { s.emuTaken 0xB20 with log := { s.log with en := v.getLsbD 0, stop := v.getLsbD 1, buf := [], wrapped := false } } := by
    unfold State.trcctl
    dsimp only
    rw [if_pos hclear, hbit 0 (by decide), hbit 1 (by decide)]
    rfl
  have he : (s.emuTaken 0xB20).serveEmu 0xB20 (v ||| 4) = ((s.emuTaken 0xB20).trcctl (v ||| 4), true) := rfl
  have only := only_trcctl (s.emuTaken 0xB20) (v ||| 4)
  rw [hlog] at he only
  have hclose : s.stg.closing = [] := hs.2.2.2
  refine Does.of_emu rfl hs rfl (by decide) (rank_of_maker hr) he ⟨rfl, rfl, hclose⟩ (by simp) (only.mono (parts_subset rfl)) ⟨?_, served_done rfl⟩
  rw [settle_log]
  rfl

end

/-! ### Retests (R202, R410) -/

/-- A FAILED lane goes to RETEST (R202). -/
def State.retestLane (s : State) (i : Nat) : State :=
  if (s.lane i).st = .failed then s.updLane i fun l => { l with st := .retest, checkAt := max s.now (s.checkFrom i) } else s

/-- What a retest leaves of a lane. -/
def RetestOf (now : Nat) (x y : Lane) : Prop :=
  (y = if x.st = .failed then { x with st := .retest, checkAt := y.checkAt } else x) ∧ (x.st = .failed → now ≤ y.checkAt)

theorem retestLane_same (s : State) (i : Nat) : RetestOf s.now (s.lane i) ((s.retestLane i).lane i) := by
  unfold State.retestLane RetestOf
  by_cases h : (s.lane i).st = .failed
  · rw [if_pos h, if_pos h, State.updLane_lane_same]
    exact ⟨rfl, fun _ => Nat.le_max_left _ _⟩
  · rw [if_neg h, if_neg h]
    exact ⟨rfl, fun h' => absurd h' h⟩

theorem retestLane_other (s : State) {i j : Nat} (h : j ≠ i) : (s.retestLane i).lane j = s.lane j := by
  unfold State.retestLane
  split
  · exact State.updLane_lane_other _ _ h
  · rfl

theorem retestLane_now (s : State) (i : Nat) : (s.retestLane i).now = s.now := by
  unfold State.retestLane
  split <;> rfl

theorem foldl_retestLane_other {j : Nat} : ∀ (l : List Nat) (u : State), j ∉ l → (l.foldl State.retestLane u).lane j = u.lane j
  | [], _, _ => rfl
  | i :: l, u, h => by
    obtain ⟨hji, hjl⟩ := not_or.1 (mt List.mem_cons.2 h)
    rw [List.foldl_cons, foldl_retestLane_other l _ hjl, retestLane_other u hji]

theorem foldl_retestLane_mem {j : Nat} : ∀ (l : List Nat) (u : State), l.Nodup → j ∈ l → RetestOf u.now (u.lane j) ((l.foldl State.retestLane u).lane j)
  | [], _, _, h => absurd h List.not_mem_nil
  | i :: l, u, hd, h => by
    obtain ⟨hil, hd⟩ := List.nodup_cons.1 hd
    rw [List.foldl_cons]
    by_cases hj : j = i
    · subst hj
      rw [foldl_retestLane_other l _ hil]
      exact retestLane_same u j
    · have hmem := foldl_retestLane_mem l (u.retestLane i) hd ((List.mem_cons.1 h).resolve_left hj)
      rwa [retestLane_now, retestLane_other u hj] at hmem

theorem laneRetest_lane (s : State) {i : Nat} (hi : i < 72) : RetestOf s.now (s.lane i) (s.laneRetest.lane i) :=
  foldl_retestLane_mem (List.range 72) s List.nodup_range (List.mem_range.2 hi)

theorem retest_does (hs : s.HostServed r) (hr : r = .maker) : Does .retest s [.eng, .hw] fun t => HostDone t ∧
    (∀ i < 72, t.lane i = if (s.lane i).st = .failed then { s.lane i with st := .retest, checkAt := (t.lane i).checkAt } else s.lane i) ∧
    ∀ i < 72, (s.lane i).st = .failed → s.now ≤ (t.lane i).checkAt := by
  have he : (s.emuTaken 0x7C).serveEmu 0x7C 1 = ((s.emuTaken 0x7C).laneRetest, true) := congrArg (·, true) (if_pos (by decide))
  have only := only_laneRetest (s.emuTaken 0x7C)
  have hclose : s.stg.closing = [] := hs.2.2.2
  have hlane : ∀ i < 72, RetestOf s.now (s.lane i) ((s.emuTaken 0x7C).laneRetest.lane i) := fun i hi => laneRetest_lane (s.emuTaken 0x7C) hi
  have halone : (s.emuTaken 0x7C).laneRetest.Alone 0x7C := by
    unfold State.Alone
    rw [only.hw_eq, only.stg]
    exact ⟨rfl, rfl, hclose⟩
  have hsame := only.sameWrites
  generalize hu : (s.emuTaken 0x7C).laneRetest = u at *
  obtain ⟨-, -, -, htkt, -⟩ := hsame
  have hserved : ∀ i, (settle (u.served true)).lane i = u.lane i := fun i => settle_lane _ i
  refine Does.of_emu rfl hs rfl (by decide) (rank_of_maker hr) he halone (by simp) (only.mono (parts_subset rfl))
    ⟨served_done htkt, fun i hi => ?_, fun i hi => ?_⟩
  · rw [hserved]
    exact (hlane i hi).1
  · rw [hserved]
    exact (hlane i hi).2

/-! ### Image loading (R506) -/

section
variable (hs : s.HostServed r)
include hs

/-- The store as a load into an area begins: the area that is not active is prepared, a pending image of the target discarded. -/
def Store.prepared (st : Store) (target : Nat) : Store :=
  if target = 1 then
    let a := 1 - st.jigActive
    let st := { st with jigPending := none, words := [], jigFallback := if st.jigFallback = some a then none else st.jigFallback }
    if a = 0 then { st with jig0 := { st.jig0 with present := false, signer := none } }
    else { st with jig1 := { st.jig1 with present := false, signer := none } }
  else
    let st := { st with fwPending := none, words := [] }
    if st.fwActive = 1 then { st with fw0 := {} } else { st with fw1 := {} }

omit hs in
theorem prepared_jig (st : Store) :
    (st.prepared 1).words = [] ∧ (st.prepared 1).jigPending = none ∧ (st.prepared 1).jigActive = st.jigActive := by
  unfold Store.prepared
  rw [if_pos rfl]
  dsimp only
  split <;> exact ⟨rfl, rfl, rfl⟩

omit hs in
theorem prepared_firmware (st : Store) :
    (st.prepared 2).words = [] ∧ (st.prepared 2).fwPending = none ∧ (st.prepared 2).fwActive = st.fwActive := by
  unfold Store.prepared
  rw [if_neg (by decide)]
  dsimp only
  split <;> exact ⟨rfl, rfl, rfl⟩

/-- A load has begun (R506). -/
def State.loading (s : State) (target : Nat) : State :=
  { s with store := s.store.prepared target }.updHw fun h =>
    { h with imgState := 1, imgReason := 0, imgWords := 0, imgOff := 0, imgEnd := 0, imgTarget := target }

omit hs in
theorem imgStart_idle {k : Nat} (hk : k = 1 ∨ k = 2) (h1 : s.hw.imgState ≠ 1) (h2 : s.hw.imgState ≠ 2) : s.imgStart k = (s.loading k, true) := by
  refine (if_neg ?_).trans rfl
  rintro (⟨hk1, hk2⟩ | h | h)
  · exact hk.elim hk1 hk2
  · exact h1 h
  · exact h2 h

omit hs in
theorem only_loading (s : State) (k : Nat) : Only [.store, .hw] s (s.loading k) :=
  ((only_with_store s _).mono (parts_subset rfl)).trans ((only_updHw _ _).mono (parts_subset rfl))

theorem imageStart_begins (w : BitVec 2) (hr : r = .maker) (hw : w.toNat = 1 ∨ w.toNat = 2) (h1 : s.hw.imgState ≠ 1) (h2 : s.hw.imgState ≠ 2) :
    Does (.imageStart w) s [.store, .hw] fun t => t.store = s.store.prepared w.toNat ∧
      t.hw.imgState = 1 ∧ t.hw.imgReason = 0 ∧ t.hw.imgWords = 0 ∧ t.hw.imgOff = 0 ∧ t.hw.imgEnd = 0 ∧ t.hw.imgTarget = w.toNat ∧ HostDone t := by
  have he : (s.emuTaken 0xD00).serveEmu 0xD00 (w.setWidth 32 ||| 0x100) = ((s.emuTaken 0xD00).loading w.toNat, true) := by
    refine (if_pos (bitOf_or_close w)).trans ?_
    rw [ufield_or_close w (by decide)]
    exact imgStart_idle hw h1 h2
  have hclose : s.stg.closing = [] := hs.2.2.2
  refine Does.of_emu rfl hs rfl (by decide) (rank_of_maker hr) he ⟨rfl, rfl, hclose⟩ (by simp) (only_loading _ _) ⟨?_, ?_, ?_, ?_, ?_, ?_, ?_, served_done rfl⟩
  · rw [settle_store]
    rfl
  · rw [settle_hw_imgState]
    rfl
  · rw [settle_hw_imgReason]
    rfl
  · rw [settle_hw_imgWords]
    rfl
  · rw [settle_hw_imgOff]
    rfl
  · rw [settle_hw_imgEnd]
    rfl
  · rw [settle_hw_imgTarget]
    rfl

theorem imageStart_does (w : BitVec 2) (hr : r = .maker) (hw : w = 1 ∨ w = 2) (h1 : s.hw.imgState ≠ 1) (h2 : s.hw.imgState ≠ 2) :
    Does (.imageStart w) s [.store, .hw] fun t =>
      t.hw.imgState = 1 ∧ t.hw.imgReason = 0 ∧ t.hw.imgWords = 0 ∧ t.hw.imgOff = 0 ∧ t.hw.imgEnd = 0 ∧ t.hw.imgTarget = w.toNat ∧
      t.store.words = [] ∧ HostDone t ∧
      (if w = 1 then t.store.jigPending = none ∧ t.store.jigActive = s.store.jigActive
       else t.store.fwPending = none ∧ t.store.fwActive = s.store.fwActive) := by
  obtain rfl | rfl := hw
  · obtain ⟨hwords, hpend, hact⟩ := prepared_jig s.store
    refine (imageStart_begins hs 1 hr (.inl rfl) h1 h2).imp fun t ⟨hst, i1, i2, i3, i4, i5, i6, hdone⟩ => ?_
    rw [hst]
    exact ⟨i1, i2, i3, i4, i5, i6, hwords, hdone, (if_pos rfl).mpr ⟨hpend, hact⟩⟩
  · obtain ⟨hwords, hpend, hact⟩ := prepared_firmware s.store
    refine (imageStart_begins hs 2 hr (.inr rfl) h1 h2).imp fun t ⟨hst, i1, i2, i3, i4, i5, i6, hdone⟩ => ?_
    rw [hst]
    exact ⟨i1, i2, i3, i4, i5, i6, hwords, hdone, (if_neg (by decide)).mpr ⟨hpend, hact⟩⟩

/-- One more word of a load has come (R506). -/
def State.loaded (s : State) (v : Word) : State :=
  { s with store := { s.store with words := s.store.words.set 0 (s.hw.imgOff / 4) v } }.updHw fun h =>
    { h with imgOff := h.imgOff + 4, imgEnd := max h.imgEnd (h.imgOff + 4), imgWords := h.imgWords + 1 }

theorem imgdat_takes (v : Word) (hr : r = .maker) (h1 : s.hw.imgState = 1) (hoff : s.hw.imgOff < areaBytes s.hw.imgTarget) :
    Does (.imgdat v) s [.store, .hw] fun t =>
      t.store = { s.store with words := s.store.words.set 0 (s.hw.imgOff / 4) v } ∧ t.hw.imgOff = s.hw.imgOff + 4 ∧
      t.hw.imgEnd = max s.hw.imgEnd (s.hw.imgOff + 4) ∧ t.hw.imgWords = s.hw.imgWords + 1 ∧ HostDone t := by
  have he : (s.emuTaken 0xD08).serveEmu 0xD08 v = ((s.emuTaken 0xD08).loaded v, true) :=
    (if_neg (not_not_intro h1)).trans (if_neg (Nat.not_le.2 hoff))
  have hclose : s.stg.closing = [] := hs.2.2.2
  have only : Only [.store, .hw] (s.emuTaken 0xD08) ((s.emuTaken 0xD08).loaded v) :=
    ((only_with_store (s.emuTaken 0xD08) _).mono (parts_subset rfl)).trans ((only_updHw _ _).mono (parts_subset rfl))
  refine Does.of_emu rfl hs rfl (by decide) (rank_of_maker hr) he ⟨rfl, rfl, hclose⟩ (by simp) only ⟨?_, ?_, ?_, ?_, served_done rfl⟩
  · rw [settle_store]
    rfl
  · rw [settle_hw_imgOff]
    rfl
  · rw [settle_hw_imgEnd]
    rfl
  · rw [settle_hw_imgWords]
    rfl

theorem imgdat_overruns (v : Word) (hr : r = .maker) (h1 : s.hw.imgState = 1) (hoff : areaBytes s.hw.imgTarget ≤ s.hw.imgOff) :
    Does (.imgdat v) s [.hw] fun t => t.hw.imgReason = 3 ∧ t.hw.last = .failed := by
  have he : (s.emuTaken 0xD08).serveEmu 0xD08 v = ((s.emuTaken 0xD08).updHw fun h => { h with imgReason := 3 }, false) :=
    (if_neg (not_not_intro h1)).trans (if_pos hoff)
  have hclose : s.stg.closing = [] := hs.2.2.2
  refine Does.of_emu rfl hs rfl (by decide) (rank_of_maker hr) he ⟨rfl, rfl, hclose⟩ (by simp) (only_updHw _ _) ⟨?_, ?_⟩
  · rw [settle_hw_imgReason]
    rfl
  · rw [settle_hw_last]
    rfl

omit hs in
theorem imgCtl_finish (s : State) :
    s.imgCtl 0x200 = if s.hw.imgState = 1 then (s.updHw fun h => { h with imgState := 2 }, true) else (s, false) := rfl

omit hs in
theorem imgCtl_abort (s : State) : s.imgCtl 0x400 = if s.hw.imgState = 1 ∨ s.hw.imgState = 2 then (s.endLoad, true) else (s, false) := rfl

theorem imageFinish_does (hr : r = .maker) (h1 : s.hw.imgState = 1) : Does .imageFinish s [.hw] fun t => t.hw.imgState = 2 ∧ HostDone t := by
  have he : (s.emuTaken 0xD00).serveEmu 0xD00 0x200 = ((s.emuTaken 0xD00).updHw fun h => { h with imgState := 2 }, true) :=
    (imgCtl_finish _).trans (if_pos h1)
  have hclose : s.stg.closing = [] := hs.2.2.2
  refine Does.of_emu rfl hs rfl (by decide) (rank_of_maker hr) he ⟨rfl, rfl, hclose⟩ (by simp) (only_updHw _ _) ⟨?_, served_done rfl⟩
  rw [settle_hw_imgState]
  rfl

theorem imageAbort_does (hr : r = .maker) (h : s.hw.imgState = 1 ∨ s.hw.imgState = 2) :
    Does .imageAbort s [.hw] fun t => t.hw.imgState = 4 ∧ t.hw.imgReason = 6 ∧ HostDone t := by
  have he : (s.emuTaken 0xD00).serveEmu 0xD00 0x400 = ((s.emuTaken 0xD00).updHw fun h => { h with imgState := 4, imgReason := 6 }, true) :=
    (imgCtl_abort _).trans ((if_pos h).trans (congrArg (·, true) (if_pos h)))
  have hclose : s.stg.closing = [] := hs.2.2.2
  refine Does.of_emu rfl hs rfl (by decide) (rank_of_maker hr) he ⟨rfl, rfl, hclose⟩ (by simp) (only_updHw _ _) ⟨?_, ?_, served_done rfl⟩
  · rw [settle_hw_imgState]
    rfl
  · rw [settle_hw_imgReason]
    rfl

/-! ### Restarts, stops, saves and releases (R344, R358, R387, R448, R459) -/

omit hs in
theorem service_not_halted (h : s.service = true) : s.hw.bstate ≠ .halted := by
  obtain hb | hb | hb := service_cases h <;> rw [hb] <;> decide

omit hs in
theorem stopCtl_restart (s : State) : s.stopCtl 1 = match s.doRestart with
    | some s' => (s', true)
    | none => (s, false) := rfl

omit hs in
theorem stopCtl_warm (s : State) : s.stopCtl 2 = match s.doWarm with
    | some s' => (s', true)
    | none => (s, false) := rfl

omit hs in
theorem stopCtl_pdown (s : State) : s.stopCtl 4 = match s.doPdown with
    | some s' => (s', true)
    | none => (s, false) := rfl

theorem restart_accepts (hr : r ≠ .operator) (hservice : s.service = true) (hcfg : s.sys.nocfg = true) (hrun : s.sys.nocfgRun = false) :
    Does .restart s [.sys, .hw] fun t => t.sys = { s.sys with nocfgRun := true, step := 7, vinwait := true } ∧ HostDone t := by
  have hdo : (s.emuTaken 0x3C).doRestart = some ((s.emuTaken 0x3C).updSys fun y => { y with nocfgRun := true, step := 7, vinwait := true }) :=
    (if_neg fun h => service_not_halted hservice h.1).trans (if_pos ⟨hservice, hcfg, hrun⟩)
  have he : (s.emuTaken 0x3C).serveEmu 0x3C 1 =
      ((s.emuTaken 0x3C).updSys fun y => { y with nocfgRun := true, step := 7, vinwait := true }, true) := by
    refine (stopCtl_restart _).trans ?_
    rw [hdo]
  have hclose : s.stg.closing = [] := hs.2.2.2
  refine Does.of_emu rfl hs rfl (by decide) (rank_of_installer hr) he ⟨rfl, rfl, hclose⟩ (by simp) ((only_updSys _ _).mono (parts_subset rfl))
    ⟨?_, served_done rfl⟩
  rw [settle_sys]
  rfl

theorem restart_refused (hr : r ≠ .operator) (hservice : s.service = true) (hcfg : s.sys.nocfg = false) :
    Does .restart s [.hw] fun t => t.hw.last = .failed := by
  have hdo : (s.emuTaken 0x3C).doRestart = none :=
    (if_neg fun h => service_not_halted hservice h.1).trans (if_neg fun h => Bool.noConfusion (hcfg.symm.trans h.2.1))
  have he : (s.emuTaken 0x3C).serveEmu 0x3C 1 = (s.emuTaken 0x3C, false) := by
    refine (stopCtl_restart _).trans ?_
    rw [hdo]
  exact (refused_does (c := .restart) rfl hs rfl (by decide) (rank_of_installer hr) he).imp fun _ h => h.1

/-- What an orderly stop that the host orders leaves (R381, R459). -/
theorem orderlyStop_does {c : Instr} {k : StopKind} (hc : exec c s = done (s.hostCmd 0x3C v)) (ha : s.Allows r 0x3C v .installer)
    (hrun : s.hw.bstate = .run) (hstop : s.sys.stop = .none)
    (hv : (s.emuTaken 0x3C).stopCtl v = (orderlyStop (s.emuTaken 0x3C) k, true)) : Does c s [.sys, .hw] fun t =>
      t.sys = { s.sys with stop := k, stopStep := 1, stopAt := s.now, drainDone := false } ∧ t.hw.bstate = .stopping ∧ HostDone t := by
  have hservice : (s.emuTaken 0x3C).service = true := by
    have hb : (s.emuTaken 0x3C).hw.bstate = .run := hrun
    unfold State.service
    rw [hb]
    rfl
  rw [orderlyStop_eq hservice hstop] at hv
  have hclose : s.stg.closing = [] := hs.2.2.2
  refine Does.of_emu hc hs rfl (by decide) ha hv ⟨rfl, rfl, hclose⟩ (by simp)
    ((((only_updSys _ _).mono (parts_subset rfl)).trans ((only_updHw _ _).mono (parts_subset rfl))).trans ((only_cause _ 5).mono (List.nil_subset _)))
    ⟨?_, ?_, served_done rfl⟩
  · rw [settle_sys]
    rfl
  · rw [settle_hw_bstate]
    rfl

theorem warm_does (hr : r = .maker) (hrun : s.hw.bstate = .run) (hstop : s.sys.stop = .none) : Does .warm s [.sys, .hw] fun t =>
    t.sys = { s.sys with stop := .warm, stopStep := 1, stopAt := s.now, drainDone := false } ∧ t.hw.bstate = .stopping ∧ HostDone t := by
  have hdo : (s.emuTaken 0x3C).doWarm = some (orderlyStop (s.emuTaken 0x3C) .warm) := if_pos hrun
  refine orderlyStop_does hs rfl (rank_of_maker hr) hrun hstop ((stopCtl_warm _).trans ?_)
  rw [hdo]

theorem pdown_does (hr : r ≠ .operator) (hrun : s.hw.bstate = .run) (hstop : s.sys.stop = .none) : Does .pdown s [.sys, .hw] fun t =>
    t.sys = { s.sys with stop := .pdown, stopStep := 1, stopAt := s.now, drainDone := false } ∧ t.hw.bstate = .stopping ∧ HostDone t := by
  have hdo : (s.emuTaken 0x3C).doPdown = some (orderlyStop (s.emuTaken 0x3C) .pdown) := if_pos hrun
  refine orderlyStop_does hs rfl (rank_of_installer hr) hrun hstop ((stopCtl_pdown _).trans ?_)
  rw [hdo]

theorem cfgsave_does (v : Word) (hv : v.getLsbD 0 = true) (hr : r ≠ .operator) :
    Does (.cfgsave v) s [.sys, .hw] fun t => t.sys = { s.sys with cfgSaving := true } ∧ HostDone t := by
  have he : (s.emuTaken 0x40).serveEmu 0x40 v = ((s.emuTaken 0x40).updSys fun y => { y with cfgSaving := true }, true) :=
    congrArg (·, true) (if_pos hv)
  have hclose : s.stg.closing = [] := hs.2.2.2
  refine Does.of_emu rfl hs rfl (by decide) (rank_of_installer hr) he ⟨rfl, rfl, hclose⟩ (by simp) ((only_updSys _ _).mono (parts_subset rfl))
    ⟨?_, served_done rfl⟩
  rw [settle_sys]
  rfl

theorem trel_releases (v : Word) (hr : r ≠ .operator) (hst : s.tide.st = .settled) : Does (.trel v) s [.tide, .flt, .hw] fun t =>
    t.tide = { s.tide with h := s.tide.h + v.toNat, relsum := s.tide.relsum + v.toNat, raised := true } ∧ HostDone t := by
  have he : (s.emuTaken 0x858).serveEmu 0x858 v = (((s.emuTaken 0x858).updTide fun t =>
      { t with h := t.h + v.toNat, relsum := t.relsum + v.toNat, raised := true }).tally 8 0 4 1, true) := by
    change (s.emuTaken 0x858).trel v = _
    have hrel : (s.emuTaken 0x858).release v.toNat = some (((s.emuTaken 0x858).updTide fun t =>
      { t with h := t.h + v.toNat, relsum := t.relsum + v.toNat, raised := true }).tally 8 0 4 1) := if_pos hst
    unfold State.trel
    rw [hrel]
  have hclose : s.stg.closing = [] := hs.2.2.2
  refine Does.of_emu rfl hs rfl (by decide) (rank_of_installer hr) he ⟨rfl, rfl, hclose⟩ (by simp)
    (((only_updTide _ _).mono (parts_subset rfl)).trans ((only_tally ..).mono (parts_subset rfl))) ⟨?_, served_done rfl⟩
  rw [settle_tide]
  rfl

theorem trel_refused (v : Word) (hr : r ≠ .operator) (hst : s.tide.st ≠ .settled) : Does (.trel v) s [.hw] fun t => t.hw.last = .failed := by
  have he : (s.emuTaken 0x858).serveEmu 0x858 v = (s.emuTaken 0x858, false) := by
    change (s.emuTaken 0x858).trel v = _
    have hrel : (s.emuTaken 0x858).release v.toNat = none := if_neg hst
    unfold State.trel
    rw [hrel]
  exact (refused_does (c := .trel v) rfl hs rfl (by decide) (rank_of_installer hr) he).imp fun _ h => h.1

end

/-- Settles O33. -/
theorem hostCommandsThatTheFirmwareServes : Obligations.HostCommandsThatTheFirmwareServes := by
  intro s r hs
  exact ⟨retest_does hs, sessionRequest_open hs, sessionRequest_locked hs, sessionClose_does hs, sesgo_submits hs, sesgo_refused hs,
    instkeygo_does hs, lqreq_does hs, lqreq_refused hs, dioreq_does hs, thrst_does hs, trcctlClear_does hs, imageStart_does hs,
    imgdat_takes hs, imgdat_overruns hs, imageFinish_does hs, imageAbort_does hs, restart_accepts hs, restart_refused hs, warm_does hs,
    pdown_does hs, cfgsave_does hs, trel_releases hs, trel_refused hs⟩

end Sys2Proof.Machine
end

section
/-! SUPPORT. Attaching, refused writes, reads and sessions of the host (R9, R425 to R437, R507), and the proof of the obligation about them. -/

namespace Sys2Proof.Machine

-- The joined text is checked under a memory limit that counts every thread's stack: one proof at a time.
set_option Elab.async false

variable {s t u : State} {r need : Role} {off : Nat} {v : Word}

/-! ### ATTACH (R430, R433) -/

/-- Setting the block's state changes that and the interrupt causes. -/
theorem setB_hw (s : State) (b : BState) : (s.setB b).hw = { s.hw with bstate := b, intcause := (s.setB b).hw.intcause } := by
  unfold State.setB
  split
  · next h => rw [← h]
  · rfl

theorem attach_accepted (h : s.attachCode v = 0) : ∃ w : State, s.attach v = w.setB .run ∧ Only [.stg, .hw] s w ∧
    w.hw.role = some .operator ∧ w.hw.atState = 1 ∧ w.hw.atRefuse = 0 ∧ w.hw.sminor = min 1 (ufield v 0 8) ∧ w.hw.hibeat = s.now ∧
    w.hw.attaches = s.hw.attaches + 1 ∧ w.hw.sesState = 0 ∧ w.hw.attachV = v ∧ w.hw.queue = s.hw.queue ∧ w.hw.lastTkt = s.hw.lastTkt := by
  have only1 : Only [.hw] s (s.updHw fun h => { h with attachV := v }) := only_updHw s _
  have same1 : (s.updHw fun h => { h with attachV := v }).hw = { s.hw with attachV := v } := rfl
  unfold State.attach
  dsimp only
  rw [if_neg (not_not_intro h)]
  generalize s.updHw (fun h => { h with attachV := v }) = a at *
  have only2 : Only [.stg, .hw] a a.dropSession.abandonBundles :=
    ((only_dropSession a).mono (parts_subset rfl)).trans ((only_abandonBundles _).mono (parts_subset rfl))
  obtain ⟨-, hq, -, htkt, -, hatt, hav, -⟩ := (dropSession_sameWrites a).trans (only_abandonBundles a.dropSession).sameWrites
  generalize a.dropSession.abandonBundles = b at *
  rw [same1] at hq htkt hatt hav
  refine ⟨_, rfl, ((only1.mono (parts_subset rfl)).trans only2).trans ((only_updHw b _).mono (parts_subset rfl)), rfl, rfl, rfl, rfl, ?_, ?_, rfl, hav, hq, htkt⟩
  · exact (only2.now).trans only1.now
  · exact congrArg (· + 1) hatt

theorem arrive_attach (hoff : s.hw.bstate ≠ .off) (hguard : s.hw.bstate ≠ .guard_) (hboot : s.hw.bstate ≠ .boot) :
    s.arrive 8 v = (s.noted.attach v).lastIs .done := by
  unfold State.arrive
  rw [if_neg hoff]
  exact (if_neg (not_or.2 ⟨hguard, hboot⟩)).trans (if_pos rfl)

theorem hostCmd_of_empty (hq : (s.arrive off v).hw.queue = []) : s.hostCmd off v = s.arrive off v := by
  unfold State.hostCmd
  dsimp only
  split
  · exact serve_of_empty hq
  · rfl

theorem service_up (h : s.service = true) : s.hw.bstate ≠ .off ∧ s.hw.bstate ≠ .guard_ ∧ s.hw.bstate ≠ .boot := by
  obtain hb | hb | hb := service_cases h <;> rw [hb] <;> decide

theorem attach_opens (v : Word) (hservice : s.service = true) (hcode : s.attachCode v = 0) (hq : s.hw.queue = []) :
    Does (.attach v) s [.stg, .hw, .ports] fun t =>
      t.hw.bstate = .run ∧ t.hw.role = some .operator ∧ t.hw.atState = 1 ∧ t.hw.atRefuse = 0 ∧ t.hw.sminor = min 1 (v.toNat % 256) ∧
      t.hw.hibeat = s.now ∧ t.hw.attaches = s.hw.attaches + 1 ∧ t.hw.sesState = 0 ∧ t.hw.attachV = v ∧ HostDone t := by
  obtain ⟨hoff, hguard, hboot⟩ := service_up hservice
  obtain ⟨w, heq, only, hrole, hat, href, hminor, hbeat, hatt, hses, hav, hqueue, htkt⟩ := attach_accepted (s := s.noted) (v := v) hcode
  have hq' : w.hw.queue = [] := hqueue.trans hq
  have htkt' : w.hw.lastTkt = false := htkt
  have harrive := arrive_attach (v := v) hoff hguard hboot
  rw [heq] at harrive
  have hlast : ((w.setB .run).lastIs .done).hw = { w.hw with bstate := .run, intcause := (w.setB .run).hw.intcause, last := .done } := by
    rw [State.lastIs, State.updHw_hw, setB_hw]
  have hexec : exec (.attach v) s = done ((w.setB .run).lastIs .done) := by
    refine (congrArg done (hostCmd_of_empty (off := 8) ?_)).trans (congrArg done harrive)
    rw [harrive, hlast]
    exact hq'
  refine Does.of_done hexec ⟨?_, ?_, ?_, ?_, ?_, ?_, ?_, ?_, ?_, ?_⟩ ((((only_noted s).mono (parts_subset rfl)).trans (only.mono (parts_subset rfl))).trans
    (((only_setB _ _).trans (only_lastIs _ _)).mono (parts_subset rfl)))
  · rw [settle_hw_bstate, hlast]
  · rw [settle_hw_role, hlast]
    exact hrole
  · rw [settle_hw_atState, hlast]
    exact hat
  · rw [settle_hw_atRefuse, hlast]
    exact href
  · rw [settle_hw_sminor, hlast, ← show ufield v 0 8 = v.toNat % 256 from ufield_zero v 8]
    exact hminor
  · rw [settle_hw_hibeat, hlast]
    exact hbeat
  · rw [settle_hw_attaches, hlast]
    exact hatt
  · rw [settle_hw_sesState, hlast]
    exact hses
  · rw [settle_hw_attachV, hlast]
    exact hav
  · refine hostDone_settle.2 ?_
    unfold HostDone
    rw [hlast]
    exact ⟨rfl, htkt'⟩

/-- A refused ATTACH keeps its value and its reason. -/
def State.attachRefused (s : State) (v : Word) : State :=
  (s.updHw fun h => { h with attachV := v }).updHw fun h => { h with atRefuse := s.attachCode v, atState := if h.role.isSome then 3 else 2 }

theorem attach_refused (v : Word) (hoff : s.hw.bstate ≠ .off) (hguard : s.hw.bstate ≠ .guard_) (hboot : s.hw.bstate ≠ .boot)
    (hcode : s.attachCode v ≠ 0) (hq : s.hw.queue = []) : Does (.attach v) s [.hw] fun t =>
      t.hw.bstate = s.hw.bstate ∧ t.hw.role = s.hw.role ∧ t.hw.atRefuse = s.attachCode v ∧ t.hw.attachV = v ∧ HostDone t := by
  have hattach : s.noted.attach v = s.noted.attachRefused v := if_pos hcode
  have harrive := arrive_attach (v := v) hoff hguard hboot
  rw [hattach] at harrive
  have hexec : exec (.attach v) s = done ((s.noted.attachRefused v).lastIs .done) := by
    refine (congrArg done (hostCmd_of_empty (off := 8) ?_)).trans (congrArg done harrive)
    rw [harrive]
    exact hq
  refine Does.of_done hexec ⟨?_, ?_, ?_, ?_, lastIs_done rfl⟩
    (((only_noted s).trans ((only_updHw _ _).trans (only_updHw _ _))).trans (only_lastIs _ _))
  · rw [settle_hw_bstate]
    rfl
  · rw [settle_hw_role]
    rfl
  · rw [settle_hw_atRefuse]
    rfl
  · rw [settle_hw_attachV]
    rfl

/-! ### Writes that are not taken (R424 to R427, R497) -/

/-- A write that only leaves its status. -/
theorem registerWrite_status {st : Status} (h : s.arrive off v = s.noted.lastIs st) :
    Does (.registerWrite off v) s [.hw] fun t => t.hw.last = st ∧ t.hw.bstate = s.hw.bstate ∧ t.hw.queue = s.hw.queue := by
  have hexec : exec (.registerWrite off v) s = done (s.arrive off v) := rfl
  rw [h] at hexec
  refine Does.of_done hexec ⟨?_, ?_, ?_⟩ ((only_noted s).trans (only_lastIs _ _))
  · rw [settle_hw_last]
    rfl
  · rw [settle_hw_bstate]
    rfl
  · rw [settle_hw_queue]
    rfl

theorem write_in_boot (off : Nat) (v : Word) (h : s.hw.bstate = .guard_ ∨ s.hw.bstate = .boot) :
    Does (.registerWrite off v) s [.hw] fun t => t.hw.last = .failed ∧ t.hw.bstate = s.hw.bstate := by
  have hoff : s.hw.bstate ≠ .off := by
    rintro hb
    rw [hb] at h
    exact h.elim BState.noConfusion BState.noConfusion
  have harrive : s.arrive off v = s.noted.lastIs .failed := by
    unfold State.arrive
    rw [if_neg hoff]
    exact if_pos h
  exact (registerWrite_status harrive).imp fun _ ⟨hl, hb, _⟩ => ⟨hl, hb⟩

theorem write_unassigned (off : Nat) (v : Word) (hservice : s.service = true) (hk : wkind off = .unassigned) (h8 : off ≠ 8) :
    Does (.registerWrite off v) s [.hw] fun t => t.hw.last = .failed := by
  obtain ⟨hoff, hguard, hboot⟩ := service_up hservice
  have harrive : s.arrive off v = s.noted.lastIs .failed := by
    unfold State.arrive
    rw [if_neg hoff]
    exact (if_neg (not_or.2 ⟨hguard, hboot⟩)).trans ((if_neg h8).trans (if_pos hk))
  exact (registerWrite_status harrive).imp fun _ h => h.1

theorem write_detached (off : Nat) (v : Word) (hservice : s.service = true) (hk : wkind off ≠ .unassigned) (h8 : off ≠ 8) (hrole : s.hw.role = none) :
    Does (.registerWrite off v) s [.hw] fun t => t.hw.last = .denied := by
  obtain ⟨hoff, hguard, hboot⟩ := service_up hservice
  have harrive : s.arrive off v = s.noted.lastIs .denied := by
    have hr : s.noted.hw.role = none := hrole
    unfold State.arrive
    rw [if_neg hoff]
    refine (if_neg (not_or.2 ⟨hguard, hboot⟩)).trans ((if_neg h8).trans ((if_neg hk).trans ?_))
    dsimp only
    rw [show (s.updHw fun h => { h with lastWrite := s.now, lastEmu := none, lastTkt := false }) = s.noted from rfl, hr]
  exact (registerWrite_status harrive).imp fun _ h => h.1

theorem write_denied (off : Nat) (v : Word) (r need : Role) (hh : s.Hosts r) (hk : wkind off = .emu need)
    (hrank : r.rank < (s.needRole off (s.hw.selOf off) v need).rank) (hb : off = 0xB08 → s.hw.sminor ≠ 0) :
    Does (.registerWrite off v) s [.flt, .hw] fun t =>
      t.hw.last = .denied ∧ t.flt.tally.get 0 (tallyKey 0x0B 0 (3 + r.rank)) = s.flt.tally.get 0 (tallyKey 0x0B 0 (3 + r.rank)) + 1 := by
  have h8 : off ≠ 8 := by
    rintro rfl
    exact WKind.noConfusion ((by decide : wkind 8 = .unassigned).symm.trans hk)
  have hexec : exec (.registerWrite off v) s = done (s.arrive off v) := rfl
  have hdeny : s.arrive off v = (s.noted.tallyRole (3 + r.rank)).lastIs .denied := by
    rw [arrive_of_hosts hh h8 (by rw [hk]; exact WKind.noConfusion), hk]
    exact (if_neg fun h => hb h.1 h.2).trans ((if_pos hrank).trans rfl)
  rw [hdeny] at hexec
  refine Does.of_done hexec ⟨?_, ?_⟩ ((((only_noted s).mono (parts_subset rfl)).trans ((only_tallyRole ..).mono (parts_subset rfl))).trans
    ((only_lastIs _ _).mono (parts_subset rfl)))
  · rw [settle_hw_last]
    rfl
  · rw [settle_flt_tally]
    exact tally_get s.noted 0x0B 0 (3 + r.rank) 1

theorem write_waits (off : Nat) (v : Word) (r need : Role) (hh : s.Hosts r) (hk : wkind off = .emu need)
    (hrank : ¬ r.rank < (s.needRole off (s.hw.selOf off) v need).rank) (hb : off ≠ 0xB08) (hready : s.sys.ready = true)
    (hlen : s.hw.queue.length < 256) : Does (.registerWrite off v) s [.hw] fun t => t.hw.last = .pending ∧
      t.hw.queue = s.hw.queue ++ [{ off := off, sel := s.hw.selOf off, v := v, aux := s.hw.coefsh, role := r }] := by
  have hopen : s.noted.shutOut = false := by
    have hready' : s.noted.sys.ready = true := hready
    have hlen' : s.noted.hw.queue.length < 256 := hlen
    unfold State.shutOut
    rw [hready', decide_eq_false (Nat.not_le.2 hlen')]
    rfl
  have hexec : exec (.registerWrite off v) s = done (s.arrive off v) := rfl
  rw [arrive_emu hh hk (fun h => absurd h hb) hrank, enqueue_open hopen] at hexec
  refine Does.of_done hexec ⟨?_, ?_⟩ ((only_noted s).trans (only_updHw _ _))
  · rw [settle_hw_last]
    rfl
  · rw [settle_hw_queue]
    rfl

theorem write_shut_out (off : Nat) (v : Word) (r need : Role) (hh : s.Hosts r) (hk : wkind off = .emu need)
    (hrank : ¬ r.rank < (s.needRole off (s.hw.selOf off) v need).rank) (hb : off ≠ 0xB08)
    (hfull : s.hw.queue.length = 256 ∨ s.sys.ready = false) :
    Does (.registerWrite off v) s [.hw] fun t => t.hw.last = .failed ∧ t.hw.queue = s.hw.queue := by
  have hshut : s.noted.shutOut = true := by
    have hfull' : s.noted.hw.queue.length = 256 ∨ s.noted.sys.ready = false := hfull
    unfold State.shutOut
    obtain h | h := hfull'
    · rw [h]
      exact Bool.or_true _
    · rw [h]
      rfl
  have harrive : s.arrive off v = s.noted.lastIs .failed := (arrive_emu hh hk (fun h => absurd h hb) hrank).trans (if_pos hshut)
  exact (registerWrite_status harrive).imp fun _ ⟨hl, _, hq⟩ => ⟨hl, hq⟩

theorem queue_serves (w : HWrite) (rest : List HWrite) (hready : s.sys.ready = true) (hclose : s.stg.closing = []) (hq : s.hw.queue = w :: rest)
    (ht : w.ticket = none) (hoff : w.off = 0xD04) : Does .hostQueueService s [.hw] fun t =>
      t.hw.queue = rest ∧ t.hw.imgOff = w.v.toNat / 4 * 4 % 2 ^ 23 := by
  have hexec : exec .hostQueueService s = done s.serve := if_pos hready
  have hemu : (s.updHw fun h => { h with queue := rest }).serveEmu w.off w.v =
      ((s.updHw fun h => { h with queue := rest }).updHw fun h => { h with imgOff := w.v.toNat / 4 * 4 % 2 ^ 23 }, true) := by
    rw [hoff]
    rfl
  rw [serve_of_emu hq ht, hemu] at hexec
  have only : Only [.hw] s ((s.updHw fun h => { h with queue := rest }).updHw fun h => { h with imgOff := w.v.toNat / 4 * 4 % 2 ^ 23 }) :=
    (only_updHw s _).trans (only_updHw _ _)
  have hqueue : ((s.updHw fun h => { h with queue := rest }).updHw fun h => { h with imgOff := w.v.toNat / 4 * 4 % 2 ^ 23 }).hw.queue = rest := rfl
  have hoff' : ((s.updHw fun h => { h with queue := rest }).updHw fun h => { h with imgOff := w.v.toNat / 4 * 4 % 2 ^ 23 }).hw.imgOff =
    w.v.toNat / 4 * 4 % 2 ^ 23 := rfl
  dsimp only at hexec
  generalize ((s.updHw fun h => { h with queue := rest }).updHw fun h => { h with imgOff := w.v.toNat / 4 * 4 % 2 ^ 23 }) = u at *
  have hcl : u.stg.closing = [] := by rw [only.stg, hclose]
  split at hexec
  · rw [tryBundles_of_none (s := u.served true) hcl] at hexec
    refine Does.of_done hexec ⟨?_, ?_⟩ (only.trans (only_served _ _))
    · rw [settle_hw_queue]
      exact hqueue
    · rw [settle_hw_imgOff]
      exact hoff'
  · rw [tryBundles_of_none hcl] at hexec
    refine Does.of_done hexec ⟨?_, ?_⟩ only
    · rw [settle_hw_queue]
      exact hqueue
    · rw [settle_hw_imgOff]
      exact hoff'

/-! ### Reads (R9, R507) -/

theorem doRead_latch (s : State) (off : Nat) : (s.doRead off).hw.latch =
    if (s.service || decide (s.hw.bstate = .stopping) || decide (s.hw.bstate = .halted)) && pairLow off then
      s.peek (off + 4) (s.hw.selOf off) else s.hw.latch := by
  unfold State.doRead
  dsimp only
  rw [State.updHw_hw]

theorem doRead_hw (s : State) (off : Nat) : (s.doRead off).hw.snpsel = s.hw.snpsel ∧ (s.doRead off).hw.bstate = s.hw.bstate ∧
    (s.doRead off).hw.rdData = s.hostRead off := by
  unfold State.doRead
  dsimp only
  rw [State.updHw_hw]
  exact ⟨rfl, rfl, rfl⟩

theorem doRead_settles_data (s : State) (off : Nat) : (settle (s.doRead off)).hw.rdData = s.hostRead off := by
  obtain ⟨-, -, hdata⟩ := doRead_hw s off
  rw [settle_hw_rdData, hdata]

theorem doRead_settles_latch (s : State) (off : Nat) : (settle (s.doRead off)).hw.latch =
    if (s.service || decide (s.hw.bstate = .stopping) || decide (s.hw.bstate = .halted)) && pairLow off then
      s.peek (off + 4) (s.hw.selOf off) else s.hw.latch := by
  rw [settle_hw_latch, doRead_latch]

theorem exec_lowWordRead (s : State) (off : Nat) : exec (.lowWordRead off) s = done (s.doRead off) := rfl

theorem lowWordRead_does (off : Nat) : Does (.lowWordRead off) s [.hw] fun t => t.hw.rdData = s.hostRead off ∧
    t.hw.latch = if (s.service || decide (s.hw.bstate = .stopping) || decide (s.hw.bstate = .halted)) && pairLow off then
      s.peek (off + 4) (s.hw.selOf off) else s.hw.latch := by
  exact Does.of_done (exec_lowWordRead s off) ⟨doRead_settles_data s off, doRead_settles_latch s off⟩ (only_doRead s off)

theorem wordOf_three (l m n a b c x y z : Nat) : wordOf [(l, a, x), (m, b, y), (n, c, z)] =
    BitVec.ofNat 32 (x % 2 ^ a * 2 ^ l + (y % 2 ^ b * 2 ^ m + z % 2 ^ c * 2 ^ n)) := by
  unfold wordOf
  simp only [List.map_cons, List.map_nil, List.sum_cons, List.sum_nil, Nat.add_zero]

/-- The fields of SNPSEL with AUTO set (R507). -/
theorem wordOf_snpsel (x i : Nat) (hi : i < 65536) : (wordOf [(0, 4, x), (4, 16, i), (31, 1, 1)]).toNat = x % 16 + 16 * i + 2147483648 := by
  have hi' : i % 2 ^ 16 = i := Nat.mod_eq_of_lt hi
  rw [wordOf_three, BitVec.toNat_ofNat, hi', Nat.mod_eq_of_lt]
  · omega
  · omega

/-- SNPSEL with its INDEX one on. -/
def nextSnpsel (x : Word) : Word := wordOf [(0, 4, x.toNat), (4, 16, (ufield x 4 16 + 1) % 65536), (31, 1, 1)]

theorem nextSnpsel_toNat (x : Word) : (nextSnpsel x).toNat = x.toNat % 16 + 16 * ((x.toNat / 16 % 65536 + 1) % 65536) + 2147483648 :=
  wordOf_snpsel x.toNat ((ufield x 4 16 + 1) % 65536) (Nat.mod_lt _ (by decide))

theorem nextSnpsel_fields (x : Word) : (nextSnpsel x).toNat % 16 = x.toNat % 16 ∧ (nextSnpsel x).getLsbD 31 = true ∧
    (nextSnpsel x).toNat / 16 % 65536 = (x.toNat / 16 % 65536 + 1) % 65536 := by
  have h := nextSnpsel_toNat x
  have hi : (x.toNat / 16 % 65536 + 1) % 65536 < 65536 := Nat.mod_lt _ (by decide)
  refine ⟨by omega, ?_, by omega⟩
  rw [BitVec.getLsbD, Nat.testBit_eq_decide_div_mod_eq, decide_eq_true_iff]
  omega

/-- SNPSEL takes a value. -/
def State.snpselTakes (s : State) (w : Word) : State := s.updHw fun h => { h with snpsel := w }

theorem snpselTakes_hw (s : State) (w : Word) : (s.snpselTakes w).hw.snpsel = w ∧ (s.snpselTakes w).hw.rdData = s.hw.rdData := ⟨rfl, rfl⟩

theorem exec_snpdatAutoRead (s : State) : exec .snpdatAutoRead s =
    if bitOf (s.doRead 0xE0C).hw.snpsel 31 ∧ (s.doRead 0xE0C).hw.bstate ≠ .off ∧ (s.doRead 0xE0C).hw.bstate ≠ .guard_ ∧
        (s.doRead 0xE0C).hw.bstate ≠ .boot then
      done ((s.doRead 0xE0C).snpselTakes (nextSnpsel (s.doRead 0xE0C).hw.snpsel))
    else done (s.doRead 0xE0C) := by
  change execSnpdatAutoRead s = _
  unfold execSnpdatAutoRead
  generalize s.doRead 0xE0C = u
  dsimp only
  unfold State.snpselTakes nextSnpsel State.updHw
  rfl

theorem snpdat_steps (hauto : s.hw.snpsel.getLsbD 31 = true) (hservice : s.service = true) : Does .snpdatAutoRead s [.hw] fun t =>
    t.hw.rdData = s.hostRead 0xE0C ∧ t.hw.snpsel.toNat % 16 = s.hw.snpsel.toNat % 16 ∧ t.hw.snpsel.getLsbD 31 = true ∧
    t.hw.snpsel.toNat / 16 % 65536 = (s.hw.snpsel.toNat / 16 % 65536 + 1) % 65536 := by
  obtain ⟨hsel, hb, hdata⟩ := doRead_hw s 0xE0C
  have hexec := exec_snpdatAutoRead s
  have only := only_doRead s 0xE0C
  generalize s.doRead 0xE0C = u at *
  have hup := service_up hservice
  rw [← hb] at hup
  rw [← hsel] at hauto
  rw [if_pos ⟨hauto, hup⟩] at hexec
  obtain ⟨hlow, h31, hindex⟩ := nextSnpsel_fields s.hw.snpsel
  rw [hsel] at hexec
  obtain ⟨hsel', hdata'⟩ := snpselTakes_hw u (nextSnpsel s.hw.snpsel)
  have only' : Only [.hw] u (u.snpselTakes (nextSnpsel s.hw.snpsel)) := only_updHw u _
  refine Does.of_done hexec ⟨?_, ?_⟩ (only.trans only')
  · rw [settle_hw_rdData, hdata', hdata]
  · rw [settle_hw_snpsel, hsel']
    exact ⟨hlow, h31, hindex⟩

theorem snpdat_stays (hauto : s.hw.snpsel.getLsbD 31 = false) : Does .snpdatAutoRead s [.hw] fun t =>
    t.hw.rdData = s.hostRead 0xE0C ∧ t.hw.snpsel = s.hw.snpsel := by
  obtain ⟨hsel, -, hdata⟩ := doRead_hw s 0xE0C
  have hexec := exec_snpdatAutoRead s
  have only := only_doRead s 0xE0C
  generalize s.doRead 0xE0C = u at *
  rw [← hsel] at hauto
  rw [if_neg fun h => Bool.noConfusion (hauto.symm.trans h.1)] at hexec
  refine Does.of_done hexec ⟨?_, ?_⟩ only
  · rw [settle_hw_rdData, hdata]
  · rw [settle_hw_snpsel, hsel]

/-! ### Heartbeat loss and sessions (R432, R435, R436) -/

theorem heartbeatTimeout_does (hrun : s.hw.bstate = .run) : Does .heartbeatTimeout s [.now, .stg, .hw, .ports] fun t =>
    t.hw.bstate = .unattended ∧ t.hw.role = none ∧ t.hw.atState = 0 ∧ t.now = max s.now (s.hw.hibeat + 2 * secT) ∧
    t.hw.intcause.getLsbD 5 = true := by
  have hexec : exec .heartbeatTimeout s = done (s.reach (s.hw.hibeat + 2 * secT)).unattend := if_pos hrun
  have hrun' : (s.reach (s.hw.hibeat + 2 * secT)).hw.bstate = .run := hrun
  have hnow : (s.reach (s.hw.hibeat + 2 * secT)).now = max s.now (s.hw.hibeat + 2 * secT) := rfl
  have only := only_reach s (s.hw.hibeat + 2 * secT)
  generalize s.reach (s.hw.hibeat + 2 * secT) = w at *
  rw [unattend_of_run hrun'] at hexec
  obtain ⟨hb, hrole, hat, -, -, hcause⟩ := leftRun_hw w
  refine Does.of_done hexec ⟨?_, ?_, ?_, ?_, settle_intcause _ 5 hcause⟩
    ((only.mono (parts_subset rfl)).trans ((only_leftRun w).mono (parts_subset rfl)))
  · rw [settle_hw_bstate, hb]
  · rw [settle_hw_role, hrole]
  · rw [settle_hw_atState, hat]
  · rw [settle_now, (only_leftRun w).now, hnow]

theorem exec_sessionVerified (h2 : s.hw.sesState = 2) (hrole : s.hw.role ≠ none) : exec .sessionVerified s =
    if s.sesOk then done (s.updHw fun h => { h with sesState := 3, sesFails := 0, role := some h.sesReq })
    else done ((s.updHw fun h => { h with
      sesFails := min 255 (s.hw.sesFails + 1), sesState := if 4 ≤ s.hw.sesFails + 1 then 5 else 4, lockAt := s.now }).tallyRole
        (3 + s.hw.sesReq.rank)) := if_neg (not_or.2 ⟨not_not_intro h2, hrole⟩)

theorem session_accepted (r : Role) (h2 : s.hw.sesState = 2) (hrole : s.hw.role = some r) (hok : s.sesOk = true) :
    Does .sessionVerified s [.hw] fun t => t.hw.role = some s.hw.sesReq ∧ t.hw.sesState = 3 ∧ t.hw.sesFails = 0 := by
  have hexec := (exec_sessionVerified h2 (by rw [hrole]; exact Option.some_ne_none r)).trans (if_pos hok)
  refine Does.of_done hexec ⟨?_, ?_, ?_⟩ (only_updHw s _)
  · rw [settle_hw_role]
    rfl
  · rw [settle_hw_sesState]
    rfl
  · rw [settle_hw_sesFails]
    rfl

theorem session_refused (r : Role) (h2 : s.hw.sesState = 2) (hrole : s.hw.role = some r) (hok : s.sesOk = false) :
    Does .sessionVerified s [.flt, .hw] fun t =>
      t.hw.role = some r ∧ t.hw.sesState = (if 4 ≤ s.hw.sesFails + 1 then 5 else 4) ∧ t.hw.sesFails = min 255 (s.hw.sesFails + 1) ∧
      (3 ≤ s.hw.sesFails → t.hw.lockAt = s.now) := by
  have hexec := (exec_sessionVerified h2 (by rw [hrole]; exact Option.some_ne_none r)).trans (if_neg (ne_true_of_eq_false hok))
  refine Does.of_done hexec ⟨?_, ?_, ?_, fun _ => ?_⟩ (((only_updHw s _).mono (parts_subset rfl)).trans ((only_tallyRole ..).mono (parts_subset rfl)))
  · rw [settle_hw_role]
    exact hrole
  · rw [settle_hw_sesState]
    rfl
  · rw [settle_hw_sesFails]
    rfl
  · rw [settle_hw_lockAt]
    rfl

/-- A session in force ends with its cause (R429, R436). -/
theorem dropSession_hw (h : s.hw.elevated = true) :
    s.dropSession.hw.role = some .operator ∧ s.dropSession.hw.sesState = 0 ∧ s.dropSession.hw.intcause.getLsbD 6 = true := by
  have hend : s.endSession.hw.role = some .operator ∧ s.endSession.hw.sesState = 0 := by
    unfold State.endSession State.endLoad
    rw [if_pos h]
    split <;> exact ⟨rfl, rfl⟩
  unfold State.dropSession
  rw [if_pos h]
  obtain ⟨hrole, hses⟩ := hend
  exact ⟨hrole, hses, cause_intcause _ (by decide)⟩

theorem sessionIdle_does (hel : s.hw.elevated = true) : Does .sessionIdleTimeout s [.now, .hw] fun t =>
    t.hw.role = some .operator ∧ t.hw.sesState = 0 ∧ t.hw.intcause.getLsbD 6 = true ∧ t.now = max s.now (s.hw.lastWrite + 600 * secT) := by
  have hexec : exec .sessionIdleTimeout s = done (s.reach (s.hw.lastWrite + 600 * secT)).dropSession := if_pos hel
  have hel' : (s.reach (s.hw.lastWrite + 600 * secT)).hw.elevated = true := hel
  have hnow : (s.reach (s.hw.lastWrite + 600 * secT)).now = max s.now (s.hw.lastWrite + 600 * secT) := rfl
  have only := only_reach s (s.hw.lastWrite + 600 * secT)
  generalize s.reach (s.hw.lastWrite + 600 * secT) = w at *
  obtain ⟨hrole, hses, hcause⟩ := dropSession_hw hel'
  refine Does.of_done hexec ⟨?_, ?_, settle_intcause _ 6 hcause, ?_⟩
    ((only.mono (parts_subset rfl)).trans ((only_dropSession w).mono (parts_subset rfl)))
  · rw [settle_hw_role, hrole]
  · rw [settle_hw_sesState, hses]
  · rw [settle_now, (only_dropSession w).now, hnow]

theorem lockoutExpiry_does (h5 : s.hw.sesState = 5) : Does .lockoutExpiry s [.now, .hw] fun t =>
    t.hw.sesState = 0 ∧ t.now = max s.now (s.hw.lockAt + 60 * secT) := by
  have hexec : exec .lockoutExpiry s = done ((s.reach (s.hw.lockAt + 60 * secT)).updHw fun h => { h with sesState := 0 }) := if_pos h5
  refine Does.of_done hexec ⟨?_, ?_⟩ (((only_reach s _).mono (parts_subset rfl)).trans ((only_updHw _ _).mono (parts_subset rfl)))
  · rw [settle_hw_sesState]
    rfl
  · rw [settle_now]
    rfl

/-- Settles O34. -/
theorem attachSessionsAndHostReads : Obligations.AttachSessionsAndHostReads := by
  intro s
  exact ⟨attach_opens, attach_refused, write_in_boot, write_unassigned, write_detached, write_denied, write_waits, write_shut_out, queue_serves,
    lowWordRead_does, snpdat_steps, snpdat_stays, heartbeatTimeout_does, session_accepted, session_refused, sessionIdle_does, lockoutExpiry_does⟩

end Sys2Proof.Machine
end

section
/-! SUPPORT. The check of a received image (R506), the log ring and the trace buffer (R439 to R444), and the proof of the obligation about
them. -/

namespace Sys2Proof.Machine

-- The joined text is checked under a memory limit that counts every thread's stack: one proof at a time.
set_option Elab.async false

variable {s : State}

/-! ### The check of a received image (R506) -/

theorem imgFault_jig (w : Bool) (h : s.hw.imgTarget = 1) : s.imgFault w =
    (let i := s.received.jig (1 - s.received.jigActive)
     if s.received.trusts i.signer = false then 1 else if i.version ≠ 42 then 2 else if i.length ≠ s.hw.imgEnd then 3 else if w then 0 else 4) :=
  if_pos h

theorem imgFault_firmware (w : Bool) (h : s.hw.imgTarget ≠ 1) : s.imgFault w =
    (let f := s.received.fw (1 - s.received.fwActive)
     if s.received.trusts f.signer = false then 1 else if f.length ≠ s.hw.imgEnd then 3 else if w = false then 4
     else if f.security < s.received.fuseSec then 5 else 0) := if_neg h

theorem imageCheck_fails (w : Bool) (h2 : s.hw.imgState = 2) (hbad : s.imgFault w ≠ 0) :
    Does (.imageCheckComplete w) s [.hw] fun t => t.hw.imgState = 4 ∧ t.hw.imgReason = s.imgFault w := by
  have hexec : exec (.imageCheckComplete w) s = done (s.updHw fun h => { h with imgState := 4, imgReason := s.imgFault w }) :=
    (if_neg (not_not_intro h2)).trans (if_pos hbad)
  generalize s.imgFault w = bad at *
  refine Does.of_done hexec ⟨?_, ?_⟩ (only_updHw s _)
  · rw [settle_hw_imgState]
    rfl
  · rw [settle_hw_imgReason]
    rfl

/-- An image that passed is in the store as pending. -/
def State.imgPassed (s : State) (st : Store) : State := { s with store := st }.updHw fun h => { h with imgState := 3, imgReason := 0 }

theorem imageCheck_passes {c : Instr} {st : Store} (hexec : exec c s = done (s.imgPassed st)) :
    Does c s [.store, .hw] fun t => t.hw.imgState = 3 ∧ t.hw.imgReason = 0 ∧ t.store = st := by
  refine Does.of_done hexec ⟨?_, ?_, ?_⟩ (((only_with_store s st).mono (parts_subset rfl)).trans ((only_updHw _ _).mono (parts_subset rfl)))
  · rw [settle_hw_imgState]
    rfl
  · rw [settle_hw_imgReason]
    rfl
  · rw [settle_store]
    rfl

theorem exec_imageCheck_passes (w : Bool) (h2 : s.hw.imgState = 2) (hgood : s.imgFault w = 0) : exec (.imageCheckComplete w) s =
    done (s.imgPassed (if s.hw.imgTarget = 1 then { s.received with jigPending := some (1 - s.received.jigActive) }
      else { s.received with fwPending := some (1 - s.received.fwActive) })) :=
  (if_neg (not_not_intro h2)).trans (if_neg (not_not_intro hgood))

theorem imageCheck_jig (w : Bool) (h2 : s.hw.imgState = 2) (h1 : s.hw.imgTarget = 1) :
    (s.imgFault w ≠ 0 → Does (.imageCheckComplete w) s [.hw] fun t => t.hw.imgState = 4 ∧ t.hw.imgReason = s.imgFault w) ∧
    (s.imgFault w = 0 → Does (.imageCheckComplete w) s [.store, .hw] fun t => t.hw.imgState = 3 ∧ t.hw.imgReason = 0 ∧
      t.store = { s.received with jigPending := some (1 - s.received.jigActive) }) := by
  refine ⟨imageCheck_fails w h2, fun hgood => imageCheck_passes ?_⟩
  rw [exec_imageCheck_passes w h2 hgood, if_pos h1]

theorem imageCheck_firmware (w : Bool) (h2 : s.hw.imgState = 2) (h1 : s.hw.imgTarget ≠ 1) :
    (s.imgFault w ≠ 0 → Does (.imageCheckComplete w) s [.hw] fun t => t.hw.imgState = 4 ∧ t.hw.imgReason = s.imgFault w) ∧
    (s.imgFault w = 0 → Does (.imageCheckComplete w) s [.store, .hw] fun t => t.hw.imgState = 3 ∧ t.hw.imgReason = 0 ∧
      t.store = { s.received with fwPending := some (1 - s.received.fwActive) }) := by
  refine ⟨imageCheck_fails w h2, fun hgood => imageCheck_passes ?_⟩
  rw [exec_imageCheck_passes w h2 hgood, if_neg h1]

/-! ### The log ring (R439 to R441) -/

theorem logMsg_code {m : LogMsg} {code : Nat} {a0 a1 : Word} (h : s.logMsg m = some (code, a0, a1)) : 0 < code ∧ code < 0x600 := by
  cases m with
  | host k t =>
    change (if k = 0 then none else some (k.toNat, _, _)) = _ at h
    split at h
    · cases h
    · next hk =>
      have hlt := k.isLt
      have hpos : 0 < k.toNat := Nat.pos_of_ne_zero fun h0 => hk (BitVec.eq_of_toNat_eq h0)
      cases h
      omega
  | thermal k r v =>
    change (if s.hasReg r then some (0x400 + k.toNat, _, _) else none) = _ at h
    split at h
    · have hlt := k.isLt
      cases h
      omega
    · cases h
  | session k | budget k | tide k | firmware k =>
    have hlt := k.isLt
    cases h
    omega

/-- The number of the next entry: never 0 (R439). -/
def nextSeq (head : Word) : Word := if head + 1 = 0 then 1 else head + 1

/-- The ring with one more entry. -/
def LogTrace.entered (g : LogTrace) (e : LogEnt) : LogTrace := { g with head := e.seq, ring := g.ring.set {} (e.seq.toNat % 512) e }

theorem logW_eq (s : State) (code : BitVec 16) (level narg : Byte) (a0 a1 : Word) : s.logW code level narg a0 a1 =
    (let t := { s with log := s.log.entered { seq := nextSeq s.log.head, code := code, level := level, narg := narg, arg0 := a0, arg1 := a1 } }
     if (if s.hw.sminor = 0 then 3 else s.hw.loglvl) ≤ level.toNat then t.cause 7 else t) := rfl

theorem logW_log (s : State) (code : BitVec 16) (level narg : Byte) (a0 a1 : Word) : (s.logW code level narg a0 a1).log =
    s.log.entered { seq := nextSeq s.log.head, code := code, level := level, narg := narg, arg0 := a0, arg1 := a1 } := by
  rw [logW_eq]
  dsimp only
  generalize (if s.hw.sminor = 0 then 3 else s.hw.loglvl) = least
  split <;> rfl

theorem logW_intcause (s : State) {code : BitVec 16} {level narg : Byte} {a0 a1 : Word}
    (h : (if s.hw.sminor = 0 then 3 else s.hw.loglvl) ≤ level.toNat) : (s.logW code level narg a0 a1).hw.intcause.getLsbD 7 = true := by
  rw [logW_eq]
  dsimp only
  rw [if_pos h]
  exact cause_intcause _ (by decide)

theorem logEntry_does (m : LogMsg) (level : Fin 4) (narg : Fin 3) (code : Nat) (a0 a1 : Word) (hrun : s.sys.coreRun = true)
    (hm : s.logMsg m = some (code, a0, a1)) : Does (.logEntry m level narg) s [.log, .hw] fun t =>
      0 < code ∧ code < 0x600 ∧ t.log.head = nextSeq s.log.head ∧ t.log.ring.get {} ((nextSeq s.log.head).toNat % 512) = {
        seq := nextSeq s.log.head, code := BitVec.ofNat 16 code, level := BitVec.ofNat 8 level.val, narg := BitVec.ofNat 8 narg.val,
        arg0 := if narg.val = 0 then 0 else a0, arg1 := if narg.val = 2 then a1 else 0 } ∧
      ((if s.hw.sminor = 0 then 3 else s.hw.loglvl) ≤ level.val → t.hw.intcause.getLsbD 7 = true) := by
  obtain ⟨hpos, hlt⟩ := logMsg_code hm
  have hexec : exec (.logEntry m level narg) s = done (s.logW (BitVec.ofNat 16 code) (BitVec.ofNat 8 level.val) (BitVec.ofNat 8 narg.val)
      (if narg.val = 0 then 0 else a0) (if narg.val = 2 then a1 else 0)) := by
    change execLogEntry m level narg s = _
    unfold execLogEntry
    rw [hm]
    exact if_pos hrun
  have hlevel : (BitVec.ofNat 8 level.val).toNat = level.val := by
    have h4 := level.isLt
    rw [BitVec.toNat_ofNat]
    omega
  refine Does.of_done hexec ⟨hpos, hlt, ?_, ?_, fun h => settle_intcause _ 7 (logW_intcause s ?_)⟩ ((only_logW ..).mono (parts_subset rfl))
  · rw [settle_log, logW_log]
    rfl
  · rw [settle_log, logW_log]
    exact Tbl.get_set_same ..
  · rw [hlevel]
    exact h

theorem logEntry_of_no_code (m : LogMsg) (level : Fin 4) (narg : Fin 3) (hm : s.logMsg m = none) :
    Does (.logEntry m level narg) s [] fun _ => True := by
  have hexec : exec (.logEntry m level narg) s = done s := by
    change execLogEntry m level narg s = _
    unfold execLogEntry
    rw [hm]
  exact Does.of_done hexec trivial (.refl _ _)

/-! ### The trace buffer (R442, R443) -/

theorem tracePt_lt (s : State) (p : TracePt) : (s.tracePt p).1 < 0xE0 := by
  cases p with
  | hostQueue k | derived k | budget k | tide k | thermal k | fault k | harvest k =>
    have hlt := k.isLt
    simp only [State.tracePt]
    omega

theorem record_of_room (g : LogTrace) (p : Nat) (arg : Word) (h : g.buf.length < 2048) :
    (g.record p arg).buf = g.buf ++ [BitVec.ofNat 64 (g.recSeq.toNat + p * 2 ^ 16 + arg.toNat * 2 ^ 32)] ∧
    (g.record p arg).recSeq = g.recSeq + 1 := by
  have hfull : decide (2048 ≤ g.buf.length) = false := decide_eq_false (Nat.not_le.2 h)
  unfold LogTrace.record
  rw [hfull]
  simp [b2n]

theorem tracePoint_records (p : TracePt) (hrun : s.sys.coreRun = true) (hen : s.log.en = true)
    (hmask : (s.log.mask.get 0 ((s.tracePt p).1 / 32)).getLsbD ((s.tracePt p).1 % 32) = true) (hlen : s.log.buf.length < 2048) :
    Does (.tracePoint p) s [.log] fun t => (s.tracePt p).1 < 0xE0 ∧
      t.log.buf = s.log.buf ++ [BitVec.ofNat 64 (s.log.recSeq.toNat + (s.tracePt p).1 * 2 ^ 16 + (s.tracePt p).2.toNat * 2 ^ 32)] ∧
      t.log.recSeq = s.log.recSeq + 1 := by
  have hexec : exec (.tracePoint p) s = done { s with log := s.log.record (s.tracePt p).1 (s.tracePt p).2 } :=
    if_pos ⟨hrun, hen, hmask, fun h => absurd h.2 (Nat.not_le.2 hlen)⟩
  obtain ⟨hbuf, hseq⟩ := record_of_room s.log (s.tracePt p).1 (s.tracePt p).2 hlen
  refine Does.of_done hexec ⟨tracePt_lt s p, ?_, ?_⟩ (only_with_log s _)
  · rw [settle_log]
    exact hbuf
  · rw [settle_log]
    exact hseq

theorem tracePoint_off (p : TracePt) (hen : s.log.en = false) : Does (.tracePoint p) s [] fun _ => True := by
  have hexec : exec (.tracePoint p) s = done s := if_neg fun h => Bool.noConfusion (hen.symm.trans h.2.1)
  exact Does.of_done hexec trivial (.refl _ _)

theorem tracePoint_full (p : TracePt) (hstop : s.log.stop = true) (hlen : 2048 ≤ s.log.buf.length) : Does (.tracePoint p) s [] fun _ => True := by
  have hexec : exec (.tracePoint p) s = done s := if_neg fun h => h.2.2.2 ⟨hstop, hlen⟩
  exact Does.of_done hexec trivial (.refl _ _)

/-- Settles O35. -/
theorem imageChecksTracesAndLogEntries : Obligations.ImageChecksTracesAndLogEntries := by
  intro s
  refine ⟨fun w h2 h1 => ?_, fun w h2 h1 => ?_, logEntry_does, logEntry_of_no_code, tracePoint_records, tracePoint_off, tracePoint_full⟩
  · have h := imageCheck_jig w h2 h1
    rwa [imgFault_jig w h1] at h
  · have h := imageCheck_firmware w h2 h1
    rwa [imgFault_firmware w h1] at h

end Sys2Proof.Machine
end

section
/-! SUPPORT. Resets, the boot and the management core's restart (R10, R419, R421 to R423, R446 to R462, R467), and the proof of the
obligation about them. -/

namespace Sys2Proof.Machine

-- The joined text is checked under a memory limit that counts every thread's stack: one proof at a time.
set_option Elab.async false

variable {s t u : State}

/-! ### Resets and the entry to GUARD (R446, R449, R457, R460, R461, R467) -/

theorem porstNAssert_does : Completes .porstNAssert s fun t =>
    t.hw.bstate = .off ∧ t.sys.porstN = false ∧ t.sys.coreRun = false ∧ t.store = s.store ∧ t.now = s.now := by
  have hexec : exec .porstNAssert s = done (s.coldOff.updSys fun y => { y with porstN := false, ckeLost := false }) := rfl
  refine Completes.of_exec hexec ⟨?_, ?_, ?_, ?_, ?_⟩
  · rw [settle_hw_bstate]
    rfl
  · rw [settle_sys]
    rfl
  · rw [settle_sys]
    rfl
  · rw [settle_store]
    rfl
  · rw [settle_now]
    rfl

theorem vaonRemoved_does : Completes .vaonRemoved s fun t =>
    t.hw.bstate = .off ∧ t.sys = { vaon := false, porstN := false } ∧ t.store = s.store := by
  have hexec : exec .vaonRemoved s = done (s.coldOff.updSys fun _ => { vaon := false, porstN := false }) := rfl
  refine Completes.of_exec hexec ⟨?_, ?_, ?_⟩
  · rw [settle_hw_bstate]
    rfl
  · rw [settle_sys]
    rfl
  · rw [settle_store]
    rfl

theorem ckeAbsent_does (h : s.hw.bstate ≠ .off) : Completes .ckeAbsent s fun t => t.now = s.now + usT ∧ t.hw.bstate = .off ∧ t.sys.ckeLost = true := by
  have hexec : exec .ckeAbsent s = done ((s.reach (s.now + usT)).coldOff.updSys fun y => { y with ckeLost := true }) := if_neg h
  have hnow : ((s.reach (s.now + usT)).coldOff.updSys fun y => { y with ckeLost := true }).now = max s.now (s.now + usT) := rfl
  refine Completes.of_exec hexec ⟨?_, ?_, ?_⟩
  · rw [settle_now, hnow, Nat.max_eq_right (Nat.le_add_right _ _)]
  · rw [settle_hw_bstate]
    rfl
  · rw [settle_sys]
    rfl

/-- The block leaves OFF for GUARD or, on a halt latch that needs service, for HALTED. -/
def LeavesOff (s t : State) : Prop :=
  ((s.sys.hkind = 0 ∨ s.sys.hkind = 4) → t.hw.bstate = .guard_ ∧ t.sys.step = 1) ∧ (¬ (s.sys.hkind = 0 ∨ s.sys.hkind = 4) → t.hw.bstate = .halted)

theorem leavesOff_settle : LeavesOff s (settle t) ↔ LeavesOff s t := by
  unfold LeavesOff
  rw [settle_hw_bstate, settle_sys]

theorem enterGuard_leavesOff (s : State) : LeavesOff s s.enterGuard := by
  have power := only_powerLinks s
  refine ⟨fun hgo => ?_, fun hgo => ?_⟩
  · rw [enterGuard_of_start hgo]
    obtain ⟨hb, -, hstep⟩ := guardEntered_fields s.powerLinks
    exact ⟨hb, hstep⟩
  · unfold State.enterGuard
    dsimp only
    rw [power.sys, if_neg hgo]
    exact setB_bstate ..

/-- What the entry to GUARD keeps of the block's own state. -/
theorem enterGuard_sys (s : State) : s.enterGuard.sys = { s.sys with step := s.enterGuard.sys.step } := by
  have power := only_powerLinks s
  unfold State.enterGuard
  dsimp only
  split
  · rw [(only_setB _ _).sys, State.updSys_sys, power.sys]
  · rw [(only_setB _ _).sys, power.sys]

theorem enterGuard_kept (s : State) : s.enterGuard.now = s.now ∧ s.enterGuard.epochAt = s.epochAt ∧ s.enterGuard.flt.tally = s.flt.tally := by
  have only := only_enterGuard s
  exact ⟨only.now, only.epochAt, only.tallies⟩

/-- VAON and PORST_N are present at the start of an epoch, the cold resets counted. -/
def State.poweredUp (s : State) : State :=
  let u := ({ s with epochAt := s.now }.updSys fun y => { y with vaon := true, porstN := true, ckeLost := false }).tally 0x0A 0 1 1
  if !s.sys.vaon then u.tally 0x0A 0 0 1 else u

theorem poweredUp_fields (s : State) : s.poweredUp.sys = { s.sys with vaon := true, porstN := true, ckeLost := false } ∧
    s.poweredUp.epochAt = s.now ∧
    s.poweredUp.flt.tally.get 0 (tallyKey 0x0A 0 1) = s.flt.tally.get 0 (tallyKey 0x0A 0 1) + 1 := by
  have hcount : ((({ s with epochAt := s.now } : State).updSys fun y => { y with vaon := true, porstN := true, ckeLost := false }).tally
      0x0A 0 1 1).flt.tally.get 0 (tallyKey 0x0A 0 1) = s.flt.tally.get 0 (tallyKey 0x0A 0 1) + 1 := tally_get ..
  unfold State.poweredUp
  dsimp only
  split
  · exact ⟨rfl, rfl, (tally_get_other _ _ _ _ _ (by decide)).trans hcount⟩
  · exact ⟨rfl, rfl, hcount⟩

theorem porstNRelease_does (hoff : s.hw.bstate = .off) (hn : s.sys.porstN = false) : Completes .porstNRelease s fun t =>
    t.sys.vaon = true ∧ t.sys.porstN = true ∧ t.epochAt = s.now ∧ LeavesOff s t ∧
    t.flt.tally.get 0 (tallyKey 0x0A 0 1) = s.flt.tally.get 0 (tallyKey 0x0A 0 1) + 1 := by
  have hexec : exec .porstNRelease s = done s.poweredUp.enterGuard := if_pos ⟨hoff, hn⟩
  obtain ⟨hsys, hepoch, htally⟩ := poweredUp_fields s
  generalize s.poweredUp = u at *
  have hleave : LeavesOff s u.enterGuard := by
    have h := enterGuard_leavesOff u
    unfold LeavesOff at h
    rw [hsys] at h
    exact h
  obtain ⟨-, hepoch', htally'⟩ := enterGuard_kept u
  refine Completes.of_exec hexec ⟨?_, ?_, ?_, leavesOff_settle.2 hleave, ?_⟩
  · rw [settle_sys, enterGuard_sys, hsys]
  · rw [settle_sys, enterGuard_sys, hsys]
  · rw [settle_epochAt, hepoch', hepoch]
  · rw [settle_flt_tally, htally', htally]

/-- CKR has come back: an epoch starts, the cold resets counted. -/
def State.clockBack (s : State) : State :=
  ({ s.reach (s.now + msT) with epochAt := (s.reach (s.now + msT)).now }.updSys fun y => { y with ckeLost := false }).tally 0x0A 0 1 1

theorem clockBack_fields (s : State) : s.clockBack.sys = { s.sys with ckeLost := false } ∧ s.clockBack.now = s.now + msT ∧
    s.clockBack.epochAt = s.now + msT := by
  have hnow : (s.reach (s.now + msT)).now = s.now + msT := Nat.max_eq_right (Nat.le_add_right _ _)
  exact ⟨rfl, hnow, hnow⟩

theorem ckrPresent_does (hoff : s.hw.bstate = .off) (hlost : s.sys.ckeLost = true) : Completes .ckrPresent s fun t =>
    t.now = s.now + msT ∧ t.sys.ckeLost = false ∧ t.epochAt = t.now ∧ LeavesOff s t := by
  have hexec : exec .ckrPresent s = done s.clockBack.enterGuard := if_pos ⟨hoff, hlost⟩
  obtain ⟨hsys, hnow, hepoch⟩ := clockBack_fields s
  generalize s.clockBack = u at *
  have hleave : LeavesOff s u.enterGuard := by
    have h := enterGuard_leavesOff u
    unfold LeavesOff at h
    rw [hsys] at h
    exact h
  obtain ⟨hnow', hepoch', -⟩ := enterGuard_kept u
  refine Completes.of_exec hexec ⟨?_, ?_, ?_, leavesOff_settle.2 hleave⟩
  · rw [settle_now, hnow', hnow]
  · rw [settle_sys, enterGuard_sys, hsys]
  · rw [settle_epochAt, settle_now, hnow', hepoch', hnow, hepoch]

/-! ### The management core: starts, kicks, expiry and release (R419, R421 to R423) -/

theorem setB_sys (s : State) (b : BState) : (s.setB b).sys = s.sys := (only_setB s b).sys

theorem firmwareReady_restart (hrun : s.sys.coreRun = true) (hrestart : s.sys.restart = true) : Completes .firmwareReady s fun t =>
    t.sys = { s.sys with restart := false, ready := true } ∧ t.hw.intcause.getLsbD 8 = true ∧ t.store.fwActive = s.sys.fwSlot := by
  have hexec : exec .firmwareReady s = done ((s.fwAccept.updSys fun y => { y with restart := false, ready := true }).cause 8) :=
    (if_neg (ne_false_of_eq_true hrun)).trans (if_pos hrestart)
  refine Completes.of_exec hexec ⟨?_, settle_intcause _ 8 (cause_intcause _ (by decide)), ?_⟩
  · rw [settle_sys]
    rfl
  · rw [settle_store]
    rfl

theorem fwAccept_store (s : State) : s.fwAccept.store.fwActive = s.sys.fwSlot ∧ s.fwAccept.store.fwPending ≠ some s.sys.fwSlot ∧
    s.fwAccept.store.fuseSec = max s.store.fuseSec (s.store.fw s.sys.fwSlot).security := by
  refine ⟨rfl, ?_, rfl⟩
  change (if s.store.fwPending = some s.sys.fwSlot then none else s.store.fwPending) ≠ _
  split
  · exact Option.some_ne_none _ ∘ Eq.symm
  · assumption

theorem firmwareReady_boot (hrun : s.sys.coreRun = true) (hrestart : s.sys.restart = false) (hboot : s.hw.bstate = .boot)
    (href : s.sys.refuse = 0) : Completes .firmwareReady s fun t =>
      t.sys = s.sys ∧ t.store.fwActive = s.sys.fwSlot ∧ t.store.fwPending ≠ some s.sys.fwSlot ∧
      t.store.fuseSec = max s.store.fuseSec (s.store.fw s.sys.fwSlot).security := by
  have hexec : exec .firmwareReady s = done s.fwAccept :=
    (if_neg (ne_false_of_eq_true hrun)).trans ((if_neg (ne_true_of_eq_false hrestart)).trans (if_pos ⟨hboot, href⟩))
  refine Completes.of_exec hexec ⟨?_, ?_⟩
  · rw [settle_sys]
    rfl
  · rw [settle_store]
    exact fwAccept_store s

theorem kick_first (hrun : s.sys.coreRun = true) : Completes (.kick 0x5A) s fun t => t.sys = { s.sys with kickHalf := true } := by
  have hexec : exec (.kick 0x5A) s = done (s.updSys fun y => { y with kickHalf := true }) :=
    (if_neg (ne_false_of_eq_true hrun)).trans (if_pos rfl)
  refine Completes.of_exec hexec ?_
  rw [settle_sys]
  rfl

theorem kick_second (hrun : s.sys.coreRun = true) (hhalf : s.sys.kickHalf = true) :
    Completes (.kick 0xA5) s fun t => t.sys = { s.sys with kickHalf := false, kickAt := s.now } := by
  have hexec : exec (.kick 0xA5) s = done (s.updSys fun y => { y with kickHalf := false, kickAt := s.now }) :=
    (if_neg (ne_false_of_eq_true hrun)).trans ((if_neg (by decide)).trans (if_pos ⟨rfl, hhalf⟩))
  refine Completes.of_exec hexec ?_
  rw [settle_sys]
  rfl

theorem kick_other (w : Word) (hrun : s.sys.coreRun = true) (h1 : w ≠ 0x5A) (h2 : w ≠ 0xA5) :
    Completes (.kick w) s fun t => t.sys = { s.sys with kickHalf := false } := by
  have hexec : exec (.kick w) s = done (s.updSys fun y => { y with kickHalf := false }) :=
    (if_neg (ne_false_of_eq_true hrun)).trans ((if_neg h1).trans (if_neg fun h => h2 h.1))
  refine Completes.of_exec hexec ?_
  rw [settle_sys]
  rfl

/-- The host window after the watchdog's expiry (R422). -/
def State.windowDown (s : State) : State := s.failQueue.dropSession.endLoad.abandonBundles.tryBundles

theorem foldl_updRec_hw {f : HWrite → CRec → CRec} : ∀ (l : List HWrite) (u : State),
    (l.foldl (fun s w => s.updRec w.ticket (f w)) u).hw.queue = u.hw.queue
  | [], _ => rfl
  | w :: l, u => (foldl_updRec_hw l (u.updRec w.ticket (f w))).trans ((only_updRec u w.ticket (f w)).sameWrites).2.1

theorem failQueue_queue (s : State) : s.failQueue.hw.queue = [] := foldl_updRec_hw (f := fun _ c => { c with status := .failed }) ..

theorem only_windowDown (s : State) : Only [.stg, .hw, .ports] s s.windowDown :=
  (((((only_failQueue s).mono (parts_subset rfl)).trans ((only_dropSession _).mono (parts_subset rfl))).trans
    ((only_endLoad _).mono (parts_subset rfl))).trans ((only_abandonBundles _).mono (parts_subset rfl))).trans
    ((only_tryBundles _).mono (parts_subset rfl))

theorem windowDown_queue (s : State) : s.windowDown.hw.queue = [] := by
  obtain ⟨-, hq, -⟩ := (((dropSession_sameWrites s.failQueue).trans (endLoad_sameWrites _)).trans (only_abandonBundles _).sameWrites).trans
    (only_tryBundles _).sameWrites
  exact hq.trans (failQueue_queue s)

/-- The moments of the expiries of the last 600 s, this one among them. -/
def State.expiriesNow (s : State) : List Nat := (s.now :: s.sys.expAt).filter fun t => s.now ≤ t + 600 * secT

/-- The core is down after an expiry (R421 to R423). -/
def State.coreDown (s : State) : State :=
  (s.updSys fun y => { y with
    coreRun := false, ready := false, restart := true, mcheld := y.mcheld || decide (4 ≤ s.expiriesNow.length),
    expiries := min 255 (y.expiries + 1), expAt := s.expiriesNow, kickHalf := false, coreAt := s.now }).tally 9 0 6 1

theorem coreDown_hw (s : State) : s.coreDown.hw = s.hw ∧ s.coreDown.now = s.now := ⟨rfl, rfl⟩

theorem watchdogExpiry_does (hrun : s.sys.coreRun = true) (hrestart : s.sys.restart = false) : Completes .watchdogExpiry s fun t =>
    let a := max s.now (s.sys.kickAt + 4 * msT)
    t.now = a ∧ t.sys.coreRun = false ∧ t.sys.ready = false ∧ t.sys.restart = true ∧ t.sys.coreAt = a ∧
    t.sys.expiries = min 255 (s.sys.expiries + 1) ∧ t.hw.queue = [] ∧
    t.sys.mcheld = (s.sys.mcheld || decide (4 ≤ ((a :: s.sys.expAt).filter fun k => a ≤ k + 600 * secT).length)) := by
  have hexec : exec .watchdogExpiry s = done (s.reach (s.sys.kickAt + 4 * msT)).windowDown.coreDown :=
    if_neg (not_or.2 ⟨ne_false_of_eq_true hrun, ne_true_of_eq_false hrestart⟩)
  have only := only_windowDown (s.reach (s.sys.kickAt + 4 * msT))
  have hq := windowDown_queue (s.reach (s.sys.kickAt + 4 * msT))
  have hnow : (s.reach (s.sys.kickAt + 4 * msT)).windowDown.now = max s.now (s.sys.kickAt + 4 * msT) := only.now
  have hsys : (s.reach (s.sys.kickAt + 4 * msT)).windowDown.sys = s.sys := only.sys
  generalize (s.reach (s.sys.kickAt + 4 * msT)).windowDown = u at *
  obtain ⟨hhw, hstill⟩ := coreDown_hw u
  have hdown : u.coreDown.sys = { u.sys with
      coreRun := false, ready := false, restart := true, mcheld := u.sys.mcheld || decide (4 ≤ u.expiriesNow.length),
      expiries := min 255 (u.sys.expiries + 1), expAt := u.expiriesNow, kickHalf := false, coreAt := u.now } := rfl
  refine Completes.of_exec hexec ?_
  rw [settle_now, settle_sys, settle_hw_queue, hstill, hhw, hdown]
  unfold State.expiriesNow
  rw [hnow, hsys]
  exact ⟨rfl, rfl, rfl, rfl, rfl, rfl, hq, rfl⟩

theorem coreRelease_does (hrun : s.sys.coreRun = false) (hrestart : s.sys.restart = true) (hheld : s.sys.mcheld = false) :
    Completes .coreRelease s fun t =>
      t.now = max s.now (s.sys.coreAt + msT) ∧ t.sys = { s.sys with coreRun := true, kickAt := t.now, coreAt := t.now } := by
  have hexec : exec .coreRelease s = done ((s.reach (s.sys.coreAt + msT)).updSys fun y =>
      { y with coreRun := true, kickAt := (s.reach (s.sys.coreAt + msT)).now, coreAt := (s.reach (s.sys.coreAt + msT)).now }) :=
    if_pos ⟨hrestart, hrun, hheld⟩
  refine Completes.of_exec hexec ⟨?_, ?_⟩
  · rw [settle_now]
    rfl
  · rw [settle_sys, settle_now]
    rfl

/-! ### The start of the firmware (R419, R449 steps 2 to 6) -/

/-- What the steps of the boot keep of the management core: that it runs, its slot, the moments of its start and of its last kick. -/
def CoreKept (s t : State) : Prop :=
  t.sys.coreRun = s.sys.coreRun ∧ t.sys.fwSlot = s.sys.fwSlot ∧ t.sys.kickAt = s.sys.kickAt ∧ t.sys.coreAt = s.sys.coreAt

theorem CoreKept.refl (s : State) : CoreKept s s := ⟨rfl, rfl, rfl, rfl⟩

theorem CoreKept.trans {a b c : State} (h : CoreKept a b) (g : CoreKept b c) : CoreKept a c := by
  obtain ⟨h1, h2, h3, h4⟩ := h
  obtain ⟨g1, g2, g3, g4⟩ := g
  exact ⟨g1.trans h1, g2.trans h2, g3.trans h3, g4.trans h4⟩

theorem Only.coreKept {ps : List Part} (h : Only ps s t) (hp : Part.sys ∉ ps := by simp) : CoreKept s t := by
  unfold CoreKept
  rw [h.sys hp]
  exact ⟨rfl, rfl, rfl, rfl⟩

theorem CoreKept.updSys (s : State) {f : Sys → Sys}
    (hf : ∀ y, (f y).coreRun = y.coreRun ∧ (f y).fwSlot = y.fwSlot ∧ (f y).kickAt = y.kickAt ∧ (f y).coreAt = y.coreAt) : CoreKept s (s.updSys f) :=
  hf s.sys

theorem refuseBoot_coreKept (s : State) (code : Nat) : CoreKept s (s.refuseBoot code) :=
  (CoreKept.updSys s fun _ => ⟨rfl, rfl, rfl, rfl⟩).trans (only_setB _ _).coreKept

theorem bootRecords_coreKept (s : State) : CoreKept s s.bootRecords :=
  (only_updFlt s _).coreKept.trans (CoreKept.updSys _ fun _ => ⟨rfl, rfl, rfl, rfl⟩)

theorem loadImage_coreKept (s : State) (i : Image) : CoreKept s (s.loadImage i) := ⟨rfl, rfl, rfl, rfl⟩

theorem bootImage_coreKept (s : State) : CoreKept s s.bootImage := by
  unfold State.bootImage
  split
  · next k _ =>
    dsimp only
    split
    · exact ((only_with_store s _).coreKept.trans (loadImage_coreKept _ _)).trans (CoreKept.updSys _ fun _ => ⟨rfl, rfl, rfl, rfl⟩)
    · exact (loadImage_coreKept _ _).trans (CoreKept.updSys _ fun _ => ⟨rfl, rfl, rfl, rfl⟩)
  · exact refuseBoot_coreKept ..

theorem sendProbe_coreKept (s : State) (n port : Nat) : CoreKept s (s.sendProbe n port) := by
  unfold CoreKept
  rw [sendProbe_sys]
  exact ⟨rfl, rfl, rfl, rfl⟩

theorem enumStart_coreKept (s : State) : CoreKept s s.enumStart := by
  unfold State.enumStart
  split
  · have hstart := CoreKept.updSys s (f := fun y => { y with enumAt := [(0, 0)], enumAdopt := [] }) fun _ => ⟨rfl, rfl, rfl, rfl⟩
    exact hstart.trans (sendProbe_coreKept _ 0 0)
  · exact .refl s

theorem timeAll_coreKept (s : State) : CoreKept s s.timeAll := by
  have hsend : ∀ l : List Nat, Only [.links] s (l.foldl State.sendTime s) := fun l => Only.foldl _ (fun s n => only_sendTime s n) l s
  unfold State.timeAll
  extract_lets u
  have hu : CoreKept s u := (hsend _).coreKept
  exact hu.trans (CoreKept.updSys u (f := fun y => { y with timeEp := u.epoch.toNat }) fun _ => ⟨rfl, rfl, rfl, rfl⟩)

theorem only_factory (s : State) (l : List Nat) : Only [.links] s (if s.store.factoryOk then l.foldl State.sendFactory s else s) :=
  Only.ite _ (fun _ => Only.foldl _ (fun s n => only_sendFactory s n) l s) fun _ => .refl _ _

/-- Regions whose thermal calibration is not at hand are of low confidence. -/
def State.thermDoubt (s : State) : State :=
  if s.store.thermOk then s else s.regions.foldl (fun s r => s.updTh r fun h => { h with lowconf := true }) s

theorem only_thermDoubt (s : State) : Only [.regs] s s.thermDoubt :=
  Only.ite _ (fun _ => .refl _ _) fun _ => Only.foldl _ (fun _ _ => only_updTh ..) _ s

theorem bootStage_coreKept (s : State) : CoreKept s s.bootStage := by
  have hfac := (only_factory s s.panKeys).coreKept
  unfold State.bootStage
  extract_lets u st planned bs rec_ part th cfg v
  have hu : CoreKept s u := hfac
  have hv : CoreKept u v := (only_thermDoubt u).coreKept
  clear_value v
  exact ((hu.trans hv).trans (only_stageSet v _).coreKept).trans (CoreKept.updSys _ (f := fun y => { y with cfgpart := part }) fun _ => ⟨rfl, rfl, rfl, rfl⟩)

theorem bootStaged_coreKept (s : State) : CoreKept s ((s.timeAll.updSys fun y => { y with step := 5 }).bootStage) :=
  ((timeAll_coreKept s).trans (CoreKept.updSys s.timeAll (f := fun y => { y with step := 5 }) fun _ => ⟨rfl, rfl, rfl, rfl⟩)).trans
    (bootStage_coreKept _)

theorem bootAligned_coreKept (s : State) : CoreKept s s.bootAligned := by
  unfold State.bootAligned
  dsimp only
  split
  · next k _ => exact (only_with_store s { s.store with jigActive := k, jigPending := none }).coreKept.trans (bootStaged_coreKept _)
  · exact bootStaged_coreKept s

theorem bootMismatch_coreKept (s : State) : CoreKept s s.bootMismatch := by
  unfold State.bootMismatch
  split
  · dsimp only
    have hload := (((only_with_store s { s.store with jigPending := none }).coreKept.trans
      (CoreKept.updSys _ (f := fun y => { y with jigTried := true, jigfall := true }) fun _ => ⟨rfl, rfl, rfl, rfl⟩)).trans (bootImage_coreKept _))
    generalize State.bootImage _ = u at *
    have hmark := hload.trans (only_markMissing u).coreKept
    split
    · exact hload
    · split
      · exact hmark.trans (refuseBoot_coreKept ..)
      · exact hmark.trans (bootAligned_coreKept _)
  · exact refuseBoot_coreKept ..

theorem bootEnum_coreKept (s : State) : CoreKept s s.bootEnum := by
  have hmark := (only_markMissing s).coreKept
  unfold State.bootEnum
  split
  · dsimp only
    split
    · exact hmark.trans (bootMismatch_coreKept _)
    · exact hmark.trans (bootAligned_coreKept _)
  · exact .refl s

theorem bootBegin_coreKept (s : State) : CoreKept s s.bootBegin := by
  unfold State.bootBegin
  split
  · exact (enumStart_coreKept s).trans (bootEnum_coreKept _)
  · exact .refl s

/-- The first firmware slot that passes has been started. -/
def State.coreStarted (s : State) (k : Nat) (fall : Bool) : State := s.updSys fun y => { y with
  coreRun := true, fwSlot := k, fwTried := if fall then 2 else 1, fwfall := fall, step := 2, kickAt := s.now, coreAt := s.now }

theorem exec_firmwareStart {k : Nat} (hguard : s.hw.bstate = .guard_) (hstep : s.sys.step = 1) (hk : s.fwOrder.find? s.fwOk = some k) :
    exec .firmwareStart s =
      done ((s.coreStarted k (decide (s.fwOrder.head? ≠ some k))).setB .boot).bootRecords.bootImage.bootBegin := by
  change execFirmwareStart s = _
  unfold execFirmwareStart
  rw [if_pos ⟨hguard, hstep⟩, hk]
  rfl

theorem firmwareStart_starts (k : Nat) (hguard : s.hw.bstate = .guard_) (hstep : s.sys.step = 1) (hk : s.fwOrder.find? s.fwOk = some k) :
    Completes .firmwareStart s fun t => t.sys.coreRun = true ∧ t.sys.fwSlot = k ∧ t.sys.kickAt = s.now ∧ t.sys.coreAt = s.now := by
  have hexec := exec_firmwareStart hguard hstep hk
  have hstarted : ∀ fall, (s.coreStarted k fall).sys.coreRun = true ∧ (s.coreStarted k fall).sys.fwSlot = k ∧
      (s.coreStarted k fall).sys.kickAt = s.now ∧ (s.coreStarted k fall).sys.coreAt = s.now := fun _ => ⟨rfl, rfl, rfl, rfl⟩
  specialize hstarted (decide (s.fwOrder.head? ≠ some k))
  generalize s.coreStarted k (decide (s.fwOrder.head? ≠ some k)) = u at *
  obtain ⟨k1, k2, k3, k4⟩ := (((only_setB u .boot).coreKept.trans (bootRecords_coreKept _)).trans (bootImage_coreKept _)).trans (bootBegin_coreKept _)
  obtain ⟨h1, h2, h3, h4⟩ := hstarted
  refine Completes.of_exec hexec ?_
  rw [settle_sys]
  exact ⟨k1.trans h1, k2.trans h2, k3.trans h3, k4.trans h4⟩

theorem refuseBoot_fields (s : State) (code : Nat) : (s.refuseBoot code).hw.bstate = .boot ∧
    (s.refuseBoot code).sys = { s.sys with refuse := code, vinwait := false } ∧ (s.refuseBoot code).store = s.store := by
  have only := only_setB (s.updSys fun y => { y with refuse := code, vinwait := false }) .boot
  exact ⟨setB_bstate .., only.sys, only.store⟩

theorem firmwareStart_refused (hguard : s.hw.bstate = .guard_) (hstep : s.sys.step = 1) (hk : s.fwOrder.find? s.fwOk = none) :
    Completes .firmwareStart s fun t => t.hw.bstate = .boot ∧ t.sys.refuse = 0x10 ∧ t.sys.coreRun = s.sys.coreRun := by
  have hexec : exec .firmwareStart s = done (s.refuseBoot 0x10) := by
    change execFirmwareStart s = _
    unfold execFirmwareStart
    rw [if_pos ⟨hguard, hstep⟩, hk]
  obtain ⟨hb, hsys, -⟩ := refuseBoot_fields s 0x10
  refine Completes.of_exec hexec ⟨?_, ?_, ?_⟩
  · rw [settle_hw_bstate, hb]
  · rw [settle_sys, hsys]
  · rw [settle_sys, hsys]

/-- The pending firmware area is given up (R419). -/
def State.pendingDropped (s : State) : State :=
  { s.reach (s.sys.coreAt + 2 * secT) with store := { s.store with fwPending := none } }

theorem pendingDropped_fields (s : State) : s.pendingDropped.now = max s.now (s.sys.coreAt + 2 * secT) ∧ s.pendingDropped.sys = s.sys ∧
    s.pendingDropped.store = { s.store with fwPending := none } := ⟨rfl, rfl, rfl⟩

section
variable (hboot : s.hw.bstate = .boot) (href : s.sys.refuse = 0) (hrun : s.sys.coreRun = true) (hready : s.sys.ready = false)
  (hrestart : s.sys.restart = false) (hpend : s.store.fwPending = some s.sys.fwSlot)
include hboot href hrun hready hrestart hpend

theorem exec_firmwareReadyTimeout : exec .firmwareReadyTimeout s =
    if s.sys.fwTried = 1 ∧ s.fwOk (1 - s.sys.fwSlot) then
      done (s.pendingDropped.updSys fun y => { y with
        fwSlot := 1 - s.sys.fwSlot, fwTried := 2, fwfall := true, coreAt := s.pendingDropped.now, kickAt := s.pendingDropped.now })
    else done ((s.pendingDropped.updSys fun y => { y with coreRun := false }).refuseBoot 0x10) :=
  if_pos ⟨hboot, href, hrun, hready, hrestart, hpend⟩

theorem firmwareReadyTimeout_falls_back (htried : s.sys.fwTried = 1) (hok : s.fwOk (1 - s.sys.fwSlot) = true) :
    Completes .firmwareReadyTimeout s fun t =>
      t.now = max s.now (s.sys.coreAt + 2 * secT) ∧ t.store.fwPending = none ∧ t.sys.fwSlot = 1 - s.sys.fwSlot ∧ t.sys.fwfall = true ∧
      t.sys.kickAt = t.now ∧ t.sys.refuse = 0 := by
  have hexec := (exec_firmwareReadyTimeout hboot href hrun hready hrestart hpend).trans (if_pos ⟨htried, hok⟩)
  obtain ⟨hnow, hsys, hstore⟩ := pendingDropped_fields s
  generalize s.pendingDropped = u at *
  refine Completes.of_exec hexec ⟨?_, ?_, ?_, ?_, ?_, ?_⟩
  · rw [settle_now]
    exact hnow
  · rw [settle_store, State.updSys_store, hstore]
  · rw [settle_sys]
    rfl
  · rw [settle_sys]
    rfl
  · rw [settle_sys, settle_now]
    rfl
  · rw [settle_sys, State.updSys_sys, hsys]
    exact href

theorem firmwareReadyTimeout_refuses (h : s.sys.fwTried ≠ 1 ∨ s.fwOk (1 - s.sys.fwSlot) = false) :
    Completes .firmwareReadyTimeout s fun t =>
      t.store.fwPending = none ∧ t.sys.coreRun = false ∧ t.sys.refuse = 0x10 ∧ t.hw.bstate = .boot := by
  have hno : ¬ (s.sys.fwTried = 1 ∧ s.fwOk (1 - s.sys.fwSlot) = true) := fun hc =>
    h.elim (fun hn => hn hc.1) fun hn => Bool.noConfusion (hn.symm.trans hc.2)
  have hexec := (exec_firmwareReadyTimeout hboot href hrun hready hrestart hpend).trans (if_neg hno)
  obtain ⟨-, -, hstore⟩ := pendingDropped_fields s
  generalize s.pendingDropped = u at *
  obtain ⟨hb, hsys, hkeep⟩ := refuseBoot_fields (u.updSys fun y => { y with coreRun := false }) 0x10
  refine Completes.of_exec hexec ⟨?_, ?_, ?_, ?_⟩
  · rw [settle_store, hkeep, State.updSys_store, hstore]
  · rw [settle_sys, hsys, State.updSys_sys]
  · rw [settle_sys, hsys]
  · rw [settle_hw_bstate, hb]

end

/-! ### Steps 8 to 12 (R449) -/

/-- A rail that stands still is in its delay from this moment. -/
theorem railStart_rail (s : State) (x y : Rail) : ((s.railStart x).rail y = s.rail y ∨ ((s.railStart x).rail y).st = .delay ∧
    ((s.railStart x).rail y).at_ = s.now) ∧ (x = y → (s.rail y).st = .off → ((s.railStart x).rail y).st = .delay ∧ ((s.railStart x).rail y).at_ = s.now) := by
  by_cases h : (s.rail x).st = .off ∨ ((s.rail x).st = .fault ∧ (s.rail x).ov = false)
  · obtain ⟨hsame, hother⟩ := railBecomes_railStart h
    by_cases hxy : y = x
    · subst hxy
      rw [hsame]
      exact ⟨.inr ⟨rfl, rfl⟩, fun _ _ => ⟨rfl, rfl⟩⟩
    · exact ⟨.inl (hother y hxy), fun hx => absurd hx.symm hxy⟩
  · have hstill : s.railStart x = s := if_neg h
    rw [hstill]
    refine ⟨.inl rfl, fun hx hoff => ?_⟩
    subst hx
    exact absurd (.inl hoff) h

/-- The three rails are started (R449 step 8). -/
def State.railsStart (s : State) : State := ((s.railStart .vib).railStart .vqa).railStart .vqc

theorem only_railsStart (s : State) : Only [.conv] s s.railsStart := ((only_railStart s _).trans (only_railStart _ _)).trans (only_railStart _ _)

theorem railsStart_rail (s : State) {x : Rail} (h : (s.rail x).st = .off) : (s.railsStart.rail x).st = .delay ∧ (s.railsStart.rail x).at_ = s.now := by
  have n1 : (s.railStart .vib).now = s.now := (only_railStart s .vib).now
  have n2 : ((s.railStart .vib).railStart .vqa).now = s.now := (only_railStart _ _).now.trans n1
  obtain ⟨k1, g1⟩ := railStart_rail s .vib x
  obtain ⟨k2, g2⟩ := railStart_rail (s.railStart .vib) .vqa x
  obtain ⟨k3, g3⟩ := railStart_rail ((s.railStart .vib).railStart .vqa) .vqc x
  rw [n1] at k2 g2
  rw [n2] at k3 g3
  change ((((s.railStart .vib).railStart .vqa).railStart .vqc).rail x).st = _ ∧ ((((s.railStart .vib).railStart .vqa).railStart .vqc).rail x).at_ = _
  generalize (((s.railStart .vib).railStart .vqa).railStart .vqc).rail x = q3 at *
  generalize ((s.railStart .vib).railStart .vqa).rail x = q2 at *
  generalize (s.railStart .vib).rail x = q1 at *
  cases x with
  | vib =>
    have h1 := g1 rfl h
    have h2 : q2.st = .delay ∧ q2.at_ = s.now := k2.elim (fun e => e ▸ h1) id
    exact k3.elim (fun e => e ▸ h2) id
  | vqa =>
    have h2 : q2.st = .delay ∧ q2.at_ = s.now := k1.elim (fun e => g2 rfl (e ▸ h)) fun hd => k2.elim (fun e => e ▸ hd) id
    exact k3.elim (fun e => e ▸ h2) id
  | vqc =>
    have h2 : q2 = s.rail .vqc ∨ q2.st = .delay ∧ q2.at_ = s.now := k2.elim (fun e => k1.imp e.trans fun hd => e ▸ hd) .inr
    exact h2.elim (fun e => g3 rfl (e ▸ h)) fun hd => k3.elim (fun e => e ▸ hd) id

theorem bootVinGood_does (a : Nat) (hat : s.conv.vinGoodAt = some a) (hstepping : s.stepping = true) (hstep : s.sys.step = 7) :
    Completes .bootVinGood s fun t =>
      t.now = max s.now (a + 10 * msT) ∧ t.sys = { s.sys with step := 8, vinwait := false } ∧
      ∀ x, (s.rail x).st = .off → (t.rail x).st = .delay ∧ (t.rail x).at_ = t.now := by
  have hexec : exec .bootVinGood s = done ((s.reach (a + 10 * msT)).updSys fun y => { y with step := 8, vinwait := false }).railsStart := by
    change execBootVinGood s = _
    unfold execBootVinGood
    rw [hat]
    exact if_pos ⟨hstepping, hstep⟩
  have hfields : ∀ u, u = (s.reach (a + 10 * msT)).updSys (fun y => { y with step := 8, vinwait := false }) →
      u.now = max s.now (a + 10 * msT) ∧ u.sys = { s.sys with step := 8, vinwait := false } ∧ u.conv = s.conv := by
    rintro u rfl
    exact ⟨rfl, rfl, rfl⟩
  obtain ⟨hnow, hsys, hconv⟩ := hfields _ rfl
  generalize (s.reach (a + 10 * msT)).updSys (fun y => { y with step := 8, vinwait := false }) = u at *
  have only := only_railsStart u
  refine Completes.of_exec hexec ⟨?_, ?_, fun x hx => ?_⟩
  · rw [settle_now, only.now, hnow]
  · rw [settle_sys, only.sys, hsys]
  · rw [settle_rail, settle_now, only.now]
    exact railsStart_rail u (by rw [rail_of_conv hconv]; exact hx)

/-- A staged write stays unless a later one of its field differs. -/
theorem foldl_stage_has {a : CW} {k : Nat} : ∀ (l : List CW) (u : State), (∀ b ∈ l, cwKey b = cwKey a → b = a) → (a ∈ l ∨ u.HasStaged a) →
    (l.foldl (fun s c => s.stage { cw := c, src := .firmware, grp := k }) u).HasStaged a
  | [], _, _, h => h.resolve_left List.not_mem_nil
  | b :: l, u, hl, h => by
    rw [List.foldl_cons]
    refine foldl_stage_has l _ (fun c hc => hl c (List.mem_cons_of_mem _ hc)) ?_
    by_cases hk : cwKey b = cwKey a
    · exact .inr ⟨_, stage_mem rfl u, hl b List.mem_cons_self hk⟩
    · refine h.imp (fun hmem => (List.mem_cons.1 hmem).resolve_left fun e => hk (by rw [e])) fun hst => ?_
      exact hst.stage rfl (Ne.symm hk)

theorem stageSet_has {a : CW} {l : List CW} (ha : a ∈ l) (hl : ∀ b ∈ l, cwKey b = cwKey a → b = a) : (s.stageSet l).HasStaged a :=
  foldl_stage_has l _ hl (.inl ha)

/-- The orders of the boot: VRET regions on, and the keep-alive regions by the installer slot (R271, R449 step 9). -/
def State.bootOrders (s : State) : List CW := .vret true :: (s.regions.filter fun r => (s.rimg r).keepAlive).map fun r => CW.order r 1 .on

theorem bootOrders_keys {a b : CW} (ha : a ∈ s.bootOrders) (hb : b ∈ s.bootOrders) (h : cwKey b = cwKey a) : b = a := by
  obtain rfl | ha := List.mem_cons.1 ha
  · obtain rfl | hb := List.mem_cons.1 hb
    · rfl
    · obtain ⟨r, -, rfl⟩ := List.mem_map.1 hb
      exact absurd h (by simp [cwKey])
  · obtain ⟨q, -, rfl⟩ := List.mem_map.1 ha
    obtain rfl | hb := List.mem_cons.1 hb
    · exact absurd h (by simp [cwKey])
    · obtain ⟨r, -, rfl⟩ := List.mem_map.1 hb
      have hrq : r = q := by simpa [cwKey] using h
      rw [hrq]

theorem bootRailsInReg_does (hstepping : s.stepping = true) (hstep : s.sys.step = 8) (hvib : s.conv.vib.st = .reg) (hvqa : s.conv.vqa.st = .reg)
    (hvqc : s.conv.vqc.st = .reg) : Completes .bootRailsInReg s fun t =>
      t.sys = { s.sys with step := 9 } ∧ (∃ w ∈ t.stg.queue, w.cw = .vret true) ∧
      ∀ r ∈ s.regions, (s.rimg r).keepAlive = true → ∃ w ∈ t.stg.queue, w.cw = .order r 1 .on := by
  have hexec : exec .bootRailsInReg s = done ((s.updSys fun y => { y with step := 9 }).stageSet s.bootOrders) :=
    if_pos ⟨hstepping, hstep, hvib, hvqa, hvqc⟩
  have hsys : (s.updSys fun y => { y with step := 9 }).sys = { s.sys with step := 9 } := rfl
  generalize s.updSys (fun y => { y with step := 9 }) = u at *
  have hhas : ∀ a ∈ s.bootOrders, ∃ w ∈ (settle (u.stageSet s.bootOrders)).stg.queue, w.cw = a := fun a ha =>
    hasStaged_settle.2 (stageSet_has ha fun b hb => bootOrders_keys ha hb)
  refine Completes.of_exec hexec ⟨?_, hhas _ List.mem_cons_self, fun r hr hk => hhas _ ?_⟩
  · rw [settle_sys, (only_stageSet u _).sys, hsys]
  · exact List.mem_cons_of_mem _ (List.mem_map.2 ⟨r, List.mem_filter.2 ⟨hr, hk⟩, rfl⟩)

/-- A keep-alive region has not come up (R449 step 12). -/
def State.keepAliveMissing (s : State) : Bool := s.regions.any fun r => (s.rimg r).keepAlive && (s.reg r).seq.startfail

section
variable (hstepping : s.stepping = true) (hstep : s.sys.step = 10)
  (hlive : ∀ r ∈ s.bootRegions, (s.reg r).seq.st = .live ∨ (s.reg r).seq.startfail = true)
include hstepping hstep hlive

theorem bootRegions_up : s.stepping = true ∧ s.sys.step = 10 ∧
    s.bootRegions.all (fun r => decide ((s.reg r).seq.st = .live) || (s.reg r).seq.startfail) = true := by
  refine ⟨hstepping, hstep, List.all_eq_true.2 fun r hr => ?_⟩
  rw [Bool.or_eq_true, decide_eq_true_iff]
  exact hlive r hr

theorem bootRegionsLive_standby (hno : s.sys.nocfgRun = false) :
    Completes .bootRegionsLive s fun t => t.hw.bstate = .standby ∧ t.sys.step = 12 ∧ t.sys.ready = true := by
  have hexec : exec .bootRegionsLive s = done (((s.updSys fun y => { y with step := 12, ready := true, keepfail := s.keepAliveMissing }).tally 0x0A 0 3 1).setB .standby) :=
    (if_pos (bootRegions_up hstepping hstep hlive)).trans (if_neg (ne_true_of_eq_false hno))
  refine Completes.of_exec hexec ⟨?_, ?_, ?_⟩
  · rw [settle_hw_bstate, setB_bstate]
  · rw [settle_sys, setB_sys]
    rfl
  · rw [settle_sys, setB_sys]
    rfl

theorem bootRegionsLive_restarted (hno : s.sys.nocfgRun = true) : Completes .bootRegionsLive s fun t =>
    t.hw.bstate = s.hw.bstate ∧ t.sys.step = 12 ∧ t.sys.nocfg = false ∧ t.sys.nocfgRun = false := by
  have hexec : exec .bootRegionsLive s = done (s.updSys fun y =>
      { y with step := 12, nocfg := false, nocfgRun := false, keepfail := s.keepAliveMissing }) :=
    (if_pos (bootRegions_up hstepping hstep hlive)).trans (if_pos hno)
  refine Completes.of_exec hexec ⟨?_, ?_, ?_, ?_⟩
  · rw [settle_hw_bstate]
    rfl
  · rw [settle_sys]
    rfl
  · rw [settle_sys]
    rfl
  · rw [settle_sys]
    rfl

end

/-- Settles O55. -/
theorem resetBootAndTheManagementCoreRestart : Obligations.ResetBootAndTheManagementCoreRestart := by
  intro s
  refine ⟨porstNAssert_does, fun hoff hn => (porstNRelease_does hoff hn).imp fun t ⟨h1, h2, h3, ⟨h4, h5⟩, h6⟩ => ⟨h1, h2, h3, h4, h5, h6⟩,
    vaonRemoved_does, ckeAbsent_does, ckrPresent_does,
    fun hguard hstep => ⟨firmwareStart_refused hguard hstep, fun k => firmwareStart_starts k hguard hstep⟩,
    fun hboot href hrun hready hrestart hpend => ⟨firmwareReadyTimeout_falls_back hboot href hrun hready hrestart hpend,
      firmwareReadyTimeout_refuses hboot href hrun hready hrestart hpend⟩,
    firmwareReady_restart, firmwareReady_boot, kick_first, kick_second, kick_other, watchdogExpiry_does, coreRelease_does, bootVinGood_does,
    bootRailsInReg_does, fun hstepping hstep hlive => ⟨bootRegionsLive_standby hstepping hstep hlive, bootRegionsLive_restarted hstepping hstep hlive⟩⟩

end Sys2Proof.Machine
end
section
/-! SUPPORT. The ports PMB, TRY and DBG and the AVSBus (R366, R453, R479 to R484, R494), and the proof of the obligation about them. -/

namespace Sys2Proof.Machine

-- The joined text is checked under a memory limit that counts every thread's stack: one proof at a time.
set_option Elab.async false

variable {s t u : State} {c : Instr} {x : Nat}

/-! ### PMBus: what every transaction keeps (R479, R480) -/

theorem pmbTouch_ports (s : State) : s.pmbTouch.ports = { s.ports with pmbRate := s.pmbTouch.ports.pmbRate } := rfl

theorem pmbAnswer_ports (s : State) (x : Nat) : (s.pmbAnswer x).ports = { s.pmbTouch.ports with pmbOut := x } := rfl

theorem pmbAnswer_completes (hexec : exec c s = done (s.pmbAnswer x)) : Completes c s fun t =>
    t.ports.pmbOut = x ∧ t.ports.page = s.ports.page ∧ t.ports.cml = s.ports.cml := by
  refine Completes.of_exec hexec ⟨?_, ?_, ?_⟩
  · rw [settle_ports_pmbOut, pmbAnswer_ports]
  · rw [settle_ports_page, pmbAnswer_ports, pmbTouch_ports]
  · rw [settle_ports_cml, pmbAnswer_ports, pmbTouch_ports]

theorem pmbTouch_pmbOut (s : State) : s.pmbTouch.ports.pmbOut = s.ports.pmbOut := by rw [pmbTouch_ports]

theorem onRails_completes (hexec : exec c s = done (s.onRails x)) : Completes c s fun t =>
    t.ports.pmbOut = if s.ports.page < 3 then x else s.ports.pmbOut := by
  unfold State.onRails State.railPage at hexec
  by_cases hpage : s.ports.page < 3
  · rw [if_pos (decide_eq_true hpage)] at hexec
    rw [if_pos hpage]
    exact (pmbAnswer_completes hexec).imp fun _ h => h.1
  · rw [if_neg (fun h => hpage (of_decide_eq_true h))] at hexec
    rw [if_neg hpage]
    exact Completes.of_exec hexec (by rw [settle_ports_pmbOut, pmbTouch_pmbOut])

theorem onInput_completes (hexec : exec c s = done (s.onInput x)) : Completes c s fun t =>
    t.ports.pmbOut = if s.ports.page < 3 then s.ports.pmbOut else x := by
  unfold State.onInput State.railPage at hexec
  by_cases hpage : s.ports.page < 3
  · rw [if_pos (decide_eq_true hpage)] at hexec
    rw [if_pos hpage]
    exact Completes.of_exec hexec (by rw [settle_ports_pmbOut, pmbTouch_pmbOut])
  · rw [if_neg (fun h => hpage (of_decide_eq_true h))] at hexec
    rw [if_neg hpage]
    exact (pmbAnswer_completes hexec).imp fun _ h => h.1

theorem page_valid (v : Byte) (hv : v.toNat < 4) : Completes (.page v) s fun t => t.ports.page = v.toNat ∧ t.ports.cml = s.ports.cml := by
  have hexec : exec (.page v) s = done (s.pmbTouch.updPorts fun p => { p with page := v.toNat }) := if_pos hv
  refine Completes.of_exec hexec ⟨?_, ?_⟩
  · rw [settle_ports_page, State.updPorts_ports]
  · rw [settle_ports_cml, State.updPorts_ports, pmbTouch_ports]

/-- A transaction that the block does not serve sets CML. -/
theorem pmbBad_completes (hexec : exec c s = done (s.pmbTouch.updPorts fun p => { p with cml := true })) : Completes c s fun t =>
    t.ports.page = s.ports.page ∧ t.ports.cml = true := by
  refine Completes.of_exec hexec ⟨?_, ?_⟩
  · rw [settle_ports_page, State.updPorts_ports, pmbTouch_ports]
  · rw [settle_ports_cml, State.updPorts_ports]

theorem page_invalid (v : Byte) (hv : 4 ≤ v.toNat) : Completes (.page v) s fun t => t.ports.page = s.ports.page ∧ t.ports.cml = true :=
  pmbBad_completes (if_neg (Nat.not_lt.2 hv))

theorem clearFaults_does : Completes .clearFaults s fun t => t.ports.cml = false := by
  have hexec : exec .clearFaults s = done (s.pmbTouch.updPorts fun p => { p with cml := false }) := rfl
  exact Completes.of_exec hexec (by rw [settle_ports_cml, State.updPorts_ports])

theorem pmbusOtherWrite_does (k : Byte) : Completes (.pmbusOtherWrite k) s fun t =>
    t.ports.cml = (s.ports.cml || decide (k ≠ 0 ∧ k ≠ 3)) ∧ t.ports.page = s.ports.page := by
  by_cases hk : k = 0 ∨ k = 3
  · have hexec : exec (.pmbusOtherWrite k) s = done s.pmbTouch := if_pos hk
    have hno : ¬ (k ≠ 0 ∧ k ≠ 3) := fun h => hk.elim h.1 h.2
    rw [decide_eq_false hno, Bool.or_false]
    refine Completes.of_exec hexec ⟨?_, ?_⟩
    · rw [settle_ports_cml, pmbTouch_ports]
    · rw [settle_ports_page, pmbTouch_ports]
  · rw [decide_eq_true (not_or.1 hk), Bool.or_true]
    have hexec : exec (.pmbusOtherWrite k) s = done (s.pmbTouch.updPorts fun p => { p with cml := true }) := if_neg hk
    exact (pmbBad_completes hexec).imp fun _ h => h.symm

/-! ### The alert line as the outputs settle -/

theorem Kept.pmbConds (h : Kept s t) : t.pmbConds = s.pmbConds := by
  unfold State.pmbConds State.phase
  rw [h.regions, h.conv, h.com]

/-- The alert line and the conditions last seen. -/
def SameAlert (s t : State) : Prop := t.ports.alertN = s.ports.alertN ∧ t.ports.pmbSeen = s.ports.pmbSeen

theorem SameAlert.trans (h : SameAlert s t) (g : SameAlert t u) : SameAlert s u := ⟨g.1.trans h.1, g.2.trans h.2⟩

theorem settleRegion_sameAlert (s : State) (r : Nat) : SameAlert s (settleRegion s r) := by
  unfold Machine.settleRegion
  dsimp only
  split
  · exact ⟨rfl, rfl⟩
  · exact ⟨rfl, rfl⟩

theorem foldl_settleRegion_sameAlert : ∀ (l : List Nat) (s : State), SameAlert s (l.foldl settleRegion s)
  | [], _ => ⟨rfl, rfl⟩
  | r :: l, s => by
    rw [List.foldl_cons]
    exact (settleRegion_sameAlert s r).trans (foldl_settleRegion_sameAlert l _)

/-- The alert line goes low on a condition not seen before (R480). -/
theorem settle_ports_alertN (s : State) :
    (settle s).ports.alertN = (s.ports.alertN && decide (s.pmbConds &&& ~~~ s.ports.pmbSeen = 0)) := by
  unfold settle
  extract_lets s1 s2 o s3 f rise s4 s5 k up s6 i s7
  have k1 : Kept s s1 := Kept.foldl _ Kept.settleRegion _ s
  have k2 : Kept s1 s2 := { Kept.refl s1 with ports := rfl }
  have k3 : Kept s2 s3 := { Kept.refl s2 with shim := rfl }
  have k4 : Kept s3 s4 := { Kept.refl s3 with flt := rfl }
  have k5 : Kept s4 s5 ∧ SameAlert s4 s5 := by
    simp only [s5]
    split
    · exact ⟨Kept.refl _, rfl, rfl⟩
    · exact ⟨Kept.cause _ _, rfl, rfl⟩
  have a1 : SameAlert s s1 := foldl_settleRegion_sameAlert _ s
  have a4 : SameAlert s1 s4 := ⟨rfl, rfl⟩
  obtain ⟨halert, hseen⟩ := (a1.trans a4).trans k5.2
  have hconds := ((((k1.trans k2).trans k3).trans k4).trans k5.1).pmbConds
  have hline : (s7.updPorts fun p => { p with intOut := decide (s7.hw.intcause &&& s7.hw.inten ≠ 0) }).ports.alertN =
      (s5.ports.alertN && decide (s5.pmbConds &&& ~~~ s5.ports.pmbSeen = 0)) := rfl
  rw [hline, halert, hseen, hconds]

theorem alertResponse_does (h : s.pmbConds &&& ~~~ s.ports.pmbSeen = 0) : Completes .alertResponse s fun t => t.ports.alertN = true := by
  have hexec : exec .alertResponse s = done (s.pmbTouch.updPorts fun p => { p with alertN := true }) := rfl
  have hconds : (s.pmbTouch.updPorts fun p => { p with alertN := true }).pmbConds = s.pmbConds := rfl
  have hseen : (s.pmbTouch.updPorts fun p => { p with alertN := true }).ports.pmbSeen = s.ports.pmbSeen := rfl
  have hline : (s.pmbTouch.updPorts fun p => { p with alertN := true }).ports.alertN = true := rfl
  exact Completes.of_exec hexec (by rw [settle_ports_alertN, hconds, hseen, hline, decide_eq_true h, Bool.and_true])

/-! ### AVSBus (R481) -/

theorem avsbusPoll_does (havs : s.ports.avs = true) : Completes .avsbusPoll s fun t =>
    t.now = max s.now (s.ports.avsAt + msT) ∧ t.ports.avsAt = t.now ∧ t.ports.avsStep = 0 := by
  have hexec : exec .avsbusPoll s =
      done ((s.reach (s.ports.avsAt + msT)).updPorts fun p => { p with avsAt := (s.reach (s.ports.avsAt + msT)).now, avsStep := 0 }) := if_pos havs
  refine Completes.of_exec hexec ⟨?_, ?_, ?_⟩
  · rw [settle_now, State.updPorts_now, State.reach_now]
  · rw [settle_ports_avsAt, settle_now, State.updPorts_ports, State.updPorts_now]
  · rw [settle_ports_avsStep, State.updPorts_ports]

theorem avsbusReply_good (k : Fin 3) (d : BitVec 16) (havs : s.ports.avs = true) : Completes (.avsbusReply k d true) s fun t =>
    t.ports.avsErr = false ∧ t.ports.avsStep = (k.val + 1) % 3 ∧ t.ports.avsV = (if k.val = 0 then d.toNat else s.ports.avsV) ∧
    t.ports.avsI = (if k.val = 1 then d.toNat else s.ports.avsI) := by
  have hexec : exec (.avsbusReply k d true) s = done (s.updPorts fun p => { p with
      avsErr := false, avsStep := (k.val + 1) % 3,
      avsV := if k.val = 0 then d.toNat else p.avsV, avsI := if k.val = 1 then d.toNat else p.avsI }) := if_pos havs
  refine Completes.of_exec hexec ⟨?_, ?_, ?_, ?_⟩
  · rw [settle_ports_avsErr, State.updPorts_ports]
  · rw [settle_ports_avsStep, State.updPorts_ports]
  · rw [settle_ports_avsV, State.updPorts_ports]
  · rw [settle_ports_avsI, State.updPorts_ports]

theorem avsbusReply_bad (k : Fin 3) (d : BitVec 16) (havs : s.ports.avs = true) : Completes (.avsbusReply k d false) s fun t =>
    t.ports.avsErr = true ∧ t.ports.avsV = s.ports.avsV ∧ t.ports.avsI = s.ports.avsI := by
  have hexec : exec (.avsbusReply k d false) s = done (s.updPorts fun p => { p with avsErr := true, avsStep := (k.val + 1) % 3 }) := if_pos havs
  refine Completes.of_exec hexec ⟨?_, ?_, ?_⟩
  · rw [settle_ports_avsErr, State.updPorts_ports]
  · rw [settle_ports_avsV, State.updPorts_ports]
  · rw [settle_ports_avsI, State.updPorts_ports]

theorem avsbusReply_found (d : BitVec 16) (havs : s.ports.avs = false) (hboot : s.hw.bstate = .boot) :
    Completes (.avsbusReply 2 d true) s fun t => t.ports.avs = true ∧ t.ports.avsAt = s.now := by
  have hexec : exec (.avsbusReply 2 d true) s = done (s.updPorts fun p => { p with avs := true, avsErr := false, avsAt := s.now }) :=
    (if_neg (ne_true_of_eq_false havs)).trans (if_pos ⟨hboot, rfl, rfl⟩)
  refine Completes.of_exec hexec ⟨?_, ?_⟩
  · rw [settle_ports_avs, State.updPorts_ports]
  · rw [settle_ports_avsAt, State.updPorts_ports]

/-! ### Tray (R366, R386, R482 to R484) -/

theorem dynamicAddressAssigned_does (a : BitVec 7) : Completes (.dynamicAddressAssigned a) s fun t =>
    t.ports.trayAddr = some a.toNat ∧ t.ports.trayVer = 1 := by
  have hexec : exec (.dynamicAddressAssigned a) s = done (s.updPorts fun p => { p with trayAddr := some a.toNat, trayVer := 1 }) := rfl
  refine Completes.of_exec hexec ⟨?_, ?_⟩
  · rw [settle_ports_trayAddr, State.updPorts_ports]
  · rw [settle_ports_trayVer, State.updPorts_ports]

theorem tver_does (h : s.trayOk 1 = true) (v : Byte) : Completes (.tver [v]) s fun t => t.ports.trayVer = max 1 (min 2 v.toNat) := by
  have hexec : exec (.tver [v]) s = done (s.updPorts fun p => { p with trayVer := max 1 (min 2 v.toNat) }) := if_pos h
  exact Completes.of_exec hexec (by rw [settle_ports_trayVer, State.updPorts_ports])

/-- An INLET value has come from the tray. -/
def State.inletTaken (s : State) (x : BitVec 16) : State := s.updPorts fun p => { p with inlet := x.toInt, inletAt := some s.now }

theorem exec_inlet (h : s.trayOk 1 = true) (a b : Byte) : exec (.inlet [a, b]) s =
    done (if s.coreServes then (s.inletTaken (BitVec.ofNat 16 (a.toNat + 256 * b.toNat))).fwPlace fwTin 0 0
        ((BitVec.ofNat 16 (a.toNat + 256 * b.toNat)).signExtend 32)
      else s.inletTaken (BitVec.ofNat 16 (a.toNat + 256 * b.toNat))) := if_pos h

theorem inletTaken_fields (s : State) (x : BitVec 16) : (s.inletTaken x).ports.inlet = x.toInt ∧ (s.inletTaken x).ports.inletAt = some s.now ∧
    (s.inletTaken x).eng = s.eng := ⟨rfl, rfl, rfl⟩

theorem inlet_does (h : s.trayOk 1 = true) (a b : Byte) : Completes (.inlet [a, b]) s fun t =>
    t.ports.inlet = (BitVec.ofNat 16 (a.toNat + 256 * b.toNat)).toInt ∧ t.ports.inletAt = some s.now ∧
    (s.coreServes = true → Posted s (.firmware fwTin 0 0) ((BitVec.ofNat 16 (a.toNat + 256 * b.toNat)).signExtend 32) t) := by
  have hexec := exec_inlet h a b
  generalize BitVec.ofNat 16 (a.toNat + 256 * b.toNat) = x at *
  obtain ⟨hinlet, hat, heng⟩ := inletTaken_fields s x
  generalize s.inletTaken x = u at *
  by_cases hserves : s.coreServes = true
  · rw [if_pos hserves] at hexec
    have same : Part.same u (u.fwPlace fwTin 0 0 (x.signExtend 32)) .ports := (only_fwPlace u fwTin 0 0 (x.signExtend 32)).2 .ports (by simp)
    have hports : (u.fwPlace fwTin 0 0 (x.signExtend 32)).ports.inlet = u.ports.inlet ∧
        (u.fwPlace fwTin 0 0 (x.signExtend 32)).ports.inletAt = u.ports.inletAt := by
      unfold Part.same at same
      dsimp only at same
      rw [same]
      exact ⟨rfl, rfl⟩
    refine Completes.of_exec hexec ⟨?_, ?_, fun _ => ?_⟩
    · rw [settle_ports_inlet, hports.1, hinlet]
    · rw [settle_ports_inletAt, hports.2, hat]
    · exact ((posted_fwPlace u fwTin 0 0 _).of_subs (by rw [heng])).of_eng (settle_eng _)
  · rw [if_neg hserves] at hexec
    refine Completes.of_exec hexec ⟨?_, ?_, fun hc => absurd hc hserves⟩
    · rw [settle_ports_inlet, hinlet]
    · rw [settle_ports_inletAt, hat]

theorem trayState_does (h : s.trayOk 1 = true) : Completes .trayState s fun t => t.ports.trayOut = s.hw.bstate.code + 256 * (s.shutind % 256) := by
  have hexec : exec .trayState s = done (s.updPorts fun p => { p with trayOut := s.hw.bstate.code + 256 * (s.shutind % 256), ibi := false }) :=
    if_pos h
  exact Completes.of_exec hexec (by rw [settle_ports_trayOut, State.updPorts_ports])

theorem trayCap_does (h : s.trayOk 1 = true) : Completes .trayCap s fun t => t.ports.trayOut = s.com.bud.cap % 65536 := by
  have hexec : exec .trayCap s = done (s.updPorts fun p => { p with trayOut := s.com.bud.cap % 65536 }) := if_pos h
  exact Completes.of_exec hexec (by rw [settle_ports_trayOut, State.updPorts_ports])

theorem tceil_does (h : s.trayOk 2 = true) (a b : Byte) : Completes (.tceil [a, b]) s fun t =>
    t.ports.trayHeld = some (a.toNat + 256 * b.toNat) := by
  have hexec : exec (.tceil [a, b]) s = done (s.updPorts fun p => { p with trayHeld := some (a.toNat + 256 * b.toNat) }) := if_pos h
  exact Completes.of_exec hexec (by rw [settle_ports_trayHeld, State.updPorts_ports])

theorem pdel_does (h : s.trayOk 2 = true) : Completes .pdel s fun t => t.ports.trayOut = min 65535 s.bud.deliv := by
  have hexec : exec .pdel s = done (s.updPorts fun p => { p with trayOut := min 65535 s.bud.deliv }) := if_pos h
  exact Completes.of_exec hexec (by rw [settle_ports_trayOut, State.updPorts_ports])

theorem tryFlowChange_does (b : Bool) (h : s.ports.flowN ≠ b) : Completes (.tryFlowChange b) s fun t =>
    t.ports.flowN = b ∧ t.ports.flowAt = s.now := by
  have hexec : exec (.tryFlowChange b) s = done (s.updPorts fun p => { p with flowN := b, flowAt := s.now }) := if_neg h
  refine Completes.of_exec hexec ⟨?_, ?_⟩
  · rw [settle_ports_flowN, State.updPorts_ports]
  · rw [settle_ports_flowAt, State.updPorts_ports]

/-! ### Test access (R453, R468, R494) -/

theorem dbgDraw_ports (s : State) : s.dbgDraw.ports = { s.ports with dbgChal := s.dbgDraw.ports.dbgChal } := rfl

theorem dbgDraw_dbgChal (s : State) : ∀ k < 8, s.dbgDraw.ports.dbgChal.get 0 k = Config.challenge s.free k := fun k hk => by
  have hchal : s.dbgDraw.ports.dbgChal = (List.range 8).foldl (fun (t : Tbl Word) k => t.set 0 k (Config.challenge s.free k)) [] := rfl
  rw [hchal]
  exact foldl_tbl_set (Config.challenge s.free) (List.range 8) [] (.inl (List.mem_range.2 hk))

/-- The instruction that the tap takes for the one shifted in (R494). -/
def State.irTaken (s : State) (ir : Nat) : Nat := if ir = 3 ∧ s.railsOff = false then 0 else if 4 < ir then 0 else ir

theorem irTaken_eq (s : State) (ir : Nat) : s.irTaken ir = if (ir = 3 ∧ s.railsOff = false) ∨ 4 < ir then 0 else ir := by
  unfold State.irTaken
  by_cases h : ir = 3 ∧ s.railsOff = false
  · rw [if_pos h, if_pos (.inl h)]
  · rw [if_neg h]
    by_cases h4 : 4 < ir
    · rw [if_pos h4, if_pos (.inr h4)]
    · rw [if_neg h4, if_neg (not_or.2 ⟨h, h4⟩)]

/-- The instruction register holds the instruction taken. -/
def State.irLoaded (s : State) (ir : Nat) : State := s.updPorts fun p => { p with ir := s.irTaken ir }

theorem irLoaded_fields (s : State) (ir : Nat) : (s.irLoaded ir).ports.ir = s.irTaken ir ∧ (s.irLoaded ir).free = s.free := ⟨rfl, rfl⟩

theorem tapInstructionLoad_does (ir : Nat) : Completes (.tapInstructionLoad ir) s fun t =>
    t.ports.ir = (if (ir = 3 ∧ s.railsOff = false) ∨ 4 < ir then 0 else ir) ∧
    (ir = 4 → ∀ k < 8, t.ports.dbgChal.get 0 k = Config.challenge s.free k) := by
  have hexec : exec (.tapInstructionLoad ir) s = done (if s.irTaken ir = 4 then (s.irLoaded ir).dbgDraw else s.irLoaded ir) := rfl
  have hfour : ir = 4 → s.irTaken ir = 4 := by
    rintro rfl
    exact (if_neg fun h => absurd h.1 (by decide)).trans (if_neg (by decide))
  obtain ⟨hir, hfree⟩ := irLoaded_fields s ir
  rw [← irTaken_eq]
  generalize s.irLoaded ir = u at *
  by_cases h4 : s.irTaken ir = 4
  · rw [if_pos h4] at hexec
    refine Completes.of_exec hexec ⟨?_, fun _ k hk => ?_⟩
    · rw [settle_ports_ir, dbgDraw_ports, hir]
    · rw [settle_ports_dbgChal, dbgDraw_dbgChal u k hk, hfree]
  · rw [if_neg h4] at hexec
    refine Completes.of_exec hexec ⟨?_, fun h => absurd (hfour h) h4⟩
    rw [settle_ports_ir, hir]

theorem dbgMakerChallenge_does (rs : BitVec 768) (hir : s.ports.ir = 4) (hopen : s.store.dbgClosed = false) :
    Completes (.dbgMakerChallenge rs) s fun t =>
      t.ports.dbgOpen = (s.ports.dbgOpen || s.dbgOk rs) ∧ ∀ k < 8, t.ports.dbgChal.get 0 k = Config.challenge s.free k := by
  have hexec : exec (.dbgMakerChallenge rs) s = done (s.updPorts fun p => { p with dbgOpen := p.dbgOpen || s.dbgOk rs }).dbgDraw :=
    if_neg (not_or.2 ⟨not_not_intro hir, ne_true_of_eq_false hopen⟩)
  have hfields : ∀ u : State, u = s.updPorts (fun p => { p with dbgOpen := p.dbgOpen || s.dbgOk rs }) →
      u.ports.dbgOpen = (s.ports.dbgOpen || s.dbgOk rs) ∧ u.free = s.free := by
    rintro u rfl
    exact ⟨rfl, rfl⟩
  obtain ⟨hdbg, hfree⟩ := hfields _ rfl
  generalize s.updPorts (fun p => { p with dbgOpen := p.dbgOpen || s.dbgOk rs }) = u at *
  refine Completes.of_exec hexec ⟨?_, fun k hk => ?_⟩
  · rw [settle_ports_dbgOpen, dbgDraw_ports, hdbg]
  · rw [settle_ports_dbgChal, dbgDraw_dbgChal u k hk, hfree]

theorem dbgTrstN_does : Completes .dbgTrstN s fun t => t.ports.ir = 1 ∧ t.ports.dbgOpen = false ∧ t.ports.dbgChal = [] := by
  have hexec : exec .dbgTrstN s = done (s.updPorts fun p => { p with ir := 1, dbgOpen := false, dbgChal := [] }) := rfl
  refine Completes.of_exec hexec ⟨?_, ?_, ?_⟩
  · rw [settle_ports_ir, State.updPorts_ports]
  · rw [settle_ports_dbgOpen, State.updPorts_ports]
  · rw [settle_ports_dbgChal, State.updPorts_ports]

/-- Words laid out from a place on leave the places before it. -/
theorem get_foldl_zipIdx_before : ∀ (ws : List Word) (j : Nat) (t : Tbl Word) {k : Nat}, k < j →
    ((ws.zipIdx j).foldl (fun (t : Tbl Word) x => t.set 0 x.2 x.1) t).get 0 k = t.get 0 k
  | [], _, _, _, _ => rfl
  | w :: ws, j, t, k, hk => by
    rw [List.zipIdx_cons, List.foldl_cons, get_foldl_zipIdx_before ws (j + 1) _ (Nat.lt_succ_of_lt hk), Tbl.get_set_other 0 t w (Nat.ne_of_lt hk)]

/-- A word laid out stands at its place. -/
theorem get_foldl_zipIdx : ∀ (ws : List Word) (j : Nat) (t : Tbl Word) {i : Nat} {w : Word}, ws[i]? = some w →
    ((ws.zipIdx j).foldl (fun (t : Tbl Word) x => t.set 0 x.2 x.1) t).get 0 (j + i) = w
  | [], _, _, _, _, h => absurd h (Option.some_ne_none _).symm
  | v :: ws, j, t, 0, w, h => by
    rw [Nat.add_zero, List.zipIdx_cons, List.foldl_cons, get_foldl_zipIdx_before ws (j + 1) _ (Nat.lt_succ_self j), Tbl.get_set_same]
    exact Option.some.inj h
  | v :: ws, j, t, i + 1, w, h => by
    rw [List.zipIdx_cons, List.foldl_cons, Nat.add_comm i 1, ← Nat.add_assoc]
    exact get_foldl_zipIdx ws (j + 1) _ h

theorem layOut_firmware (t : Store) (words : Tbl Word) : ((t.layOut 0 words).fw 0).present = true ∧ ((t.layOut 0 words).fw 0).words = words ∧
    (t.layOut 0 words).fw 1 = t.fw 1 ∧ (t.layOut 0 words).fwActive = t.fwActive := ⟨rfl, rfl, rfl, rfl⟩

theorem dbgStoreWrite_firmware (ws : List Word) (hopen : s.ports.dbgOpen = true) (hir : s.ports.ir = 4) (hfuse : s.store.dbgClosed = false) :
    Completes (.dbgStoreWrite 0 ws) s fun t => (t.store.fw 0).present = true ∧ (∀ k w, ws[k]? = some w → (t.store.fw 0).words.get 0 k = w) ∧
      t.store.fw 1 = s.store.fw 1 ∧ t.store.fwActive = s.store.fwActive := by
  have hexec : exec (.dbgStoreWrite 0 ws) s =
      done { s with store := s.store.layOut 0 (ws.zipIdx.foldl (fun (t : Tbl Word) x => t.set 0 x.2 x.1) []) } := if_pos ⟨hopen, hir, hfuse⟩
  obtain ⟨hpresent, hwords, hother, hactive⟩ := layOut_firmware s.store (ws.zipIdx.foldl (fun (t : Tbl Word) x => t.set 0 x.2 x.1) [])
  refine Completes.of_exec hexec ?_
  rw [settle_store]
  refine ⟨hpresent, fun k w hk => ?_, hother, hactive⟩
  have hget := get_foldl_zipIdx ws 0 [] hk
  rw [Nat.zero_add] at hget
  rw [hwords]
  exact hget

/-! ### The obligation -/

theorem statusReads_answer : ∀ c ∈ [(Instr.capability, 0xD0), (.pmbusRevision, 0x44), (.statusByte, s.statusWord % 256), (.statusWord, s.statusWord),
    (.statusVout, 128 * b2n s.pageOv + 16 * b2n s.pageBad), (.statusIout, 128 * b2n s.pageOverload),
    (.statusInput, 32 * b2n s.conv.vinLow + 16 * b2n s.conv.inStop), (.statusTemperature, 128 * b2n s.anyB5)],
    Completes c.1 s fun t => t.ports.pmbOut = c.2 ∧ t.ports.page = s.ports.page ∧ t.ports.cml = s.ports.cml := by
  simp only [List.forall_mem_cons, List.not_mem_nil, false_implies, implies_true, and_true]
  exact ⟨pmbAnswer_completes rfl, pmbAnswer_completes rfl, pmbAnswer_completes rfl, pmbAnswer_completes rfl, pmbAnswer_completes rfl,
    pmbAnswer_completes rfl, pmbAnswer_completes rfl, pmbAnswer_completes rfl⟩

theorem railReads_answer : ∀ c ∈ [(Instr.voutMode, 0x14), (.readVout, linear16 (s.ports.meanV.get 0 s.ports.page)),
    (.readIout, linear11 ((s.ports.meanI.get 0 s.ports.page : Nat) / 10)), (.readPout, linear11 ((s.ports.energyW.get 0 s.ports.page : Nat) / 1000))],
    Completes c.1 s fun t => t.ports.pmbOut = if s.ports.page < 3 then c.2 else s.ports.pmbOut := by
  simp only [List.forall_mem_cons, List.not_mem_nil, false_implies, implies_true, and_true]
  exact ⟨onRails_completes rfl, onRails_completes rfl, onRails_completes rfl, onRails_completes rfl⟩

theorem inputReads_answer : ∀ c ∈ [(Instr.readVin, linear11 ((s.ports.meanVin : Rat) / 1000)), (.readIin, linear11 s.inputAmps),
    (.readTemperature1, linear11 ((s.topTd : Rat) / 64)), (.readPin, linear11 (s.inputAmps * s.ports.meanVin / 1000))],
    Completes c.1 s fun t => t.ports.pmbOut = if s.ports.page < 3 then s.ports.pmbOut else c.2 := by
  simp only [List.forall_mem_cons, List.not_mem_nil, false_implies, implies_true, and_true]
  exact ⟨onInput_completes rfl, onInput_completes rfl, onInput_completes rfl, onInput_completes rfl⟩

/-- Settles O56. -/
theorem busAndTrayAndTapCommandsAnswer : Obligations.BusAndTrayAndTapCommandsAnswer := by
  intro s
  refine ⟨page_valid, page_invalid, clearFaults_does, statusReads_answer, railReads_answer, inputReads_answer, pmbusOtherWrite_does,
    alertResponse_does, avsbusPoll_does, avsbusReply_good, avsbusReply_bad, avsbusReply_found, dynamicAddressAssigned_does,
    fun h => ⟨tver_does h, inlet_does h, trayState_does h, trayCap_does h⟩, fun h => ⟨tceil_does h, pdel_does h⟩, tryFlowChange_does,
    tapInstructionLoad_does, dbgMakerChallenge_does, dbgTrstN_does, dbgStoreWrite_firmware⟩

end Sys2Proof.Machine
end
